-- ==== Sys2Proof/Word.lean ====
section
/-! DEFINITION. The words of the device: the 32-bit register word, the byte, and the field access
that every register of the device shares (R8, R81). -/

namespace Sys2Proof

/-- A 32-bit register word (R8). -/
abbrev Word := BitVec 32

/-- A byte (R8). -/
abbrev Byte := BitVec 8

/-- The field of width `w` whose lowest bit is bit `lsb`. -/
def fieldOf (x : Word) (lsb w : Nat) : Nat := x.toNat / 2 ^ lsb % 2 ^ w

/-- `x` with the field of width `w` at bit `lsb` replaced by `v`, taken modulo `2 ^ w`. -/
def withField (x : Word) (lsb w v : Nat) : Word :=
  BitVec.ofNat 32
    (x.toNat % 2 ^ lsb + (v % 2 ^ w) * 2 ^ lsb + x.toNat / 2 ^ (lsb + w) * 2 ^ (lsb + w))

end Sys2Proof
end

