-- ==== Sys2Proof/Machine/Store.lean ====
section
/-! DEFINITION. A sparse store: what every addressed memory of the device, and its register file,
is held in. An entry is listed only where it differs from what an unlisted key reads as, and the
keys rise strictly, so that equal stores are equal lists. -/

namespace Sys2Proof.Machine

/-- A sparse store of `α`, in canonical form when `SMap.wf` holds. -/
abbrev SMap (α : Type) := List (Nat × α)

/-- What key `k` holds; `dflt` is what it reads as when no entry lists it. -/
def SMap.get {α : Type} (dflt : α) : SMap α → Nat → α
  | [], _ => dflt
  | (i, v) :: m, k => if i = k then v else SMap.get dflt m k

/-- The store without key `k`. -/
def SMap.erase {α : Type} : SMap α → Nat → SMap α
  | [], _ => []
  | (i, v) :: m, k => if i = k then SMap.erase m k else (i, v) :: SMap.erase m k

/-- The store with key `k` listed with `v`, in its place. -/
def SMap.insert {α : Type} : SMap α → Nat → α → SMap α
  | [], k, v => [(k, v)]
  | (i, x) :: m, k, v =>
    if k < i then (k, v) :: (i, x) :: m
    else if k = i then (k, v) :: m
    else (i, x) :: SMap.insert m k v

/-- The store with `v` at key `k`: writing what an unlisted key reads as removes the entry. -/
def SMap.put {α : Type} [DecidableEq α] (dflt : α) (m : SMap α) (k : Nat) (v : α) : SMap α :=
  if v = dflt then m.erase k else m.insert k v

/-- The keys listed rise strictly, from above `lo` where one is given. -/
def SMap.sortedFrom {α : Type} : Option Nat → SMap α → Bool
  | _, [] => true
  | none, (i, _) :: m => SMap.sortedFrom (some i) m
  | some l, (i, _) :: m => decide (l < i) && SMap.sortedFrom (some i) m

/-- The canonical form: the keys rise strictly, and no entry lists what its key reads as anyway. -/
def SMap.wf {α : Type} [DecidableEq α] (dflt : Nat → α) (m : SMap α) : Bool :=
  SMap.sortedFrom none m && m.all (fun e => decide (e.2 ≠ dflt e.1))

/-- The store with every listed entry mapped by `f`; an entry that becomes its default is dropped. -/
def SMap.remap {α : Type} [DecidableEq α] (dflt : Nat → α) (f : Nat → α → α) (m : SMap α) :
    SMap α :=
  m.filterMap (fun e => if f e.1 e.2 = dflt e.1 then none else some (e.1, f e.1 e.2))

/-- The store with only the entries whose key `keep` holds. -/
def SMap.only {α : Type} (keep : Nat → Bool) (m : SMap α) : SMap α := m.filter (fun e => keep e.1)

end Sys2Proof.Machine
end

