-- ==== Sys2Proof/Machine/Types.lean ====
section
/-! DEFINITION. The names the spec gives things that are not numbers: response codes, planes and
initiators, register classes, and the operands of the commands. -/

namespace Sys2Proof.Machine

/-- The response codes of R43, in their numeric order. -/
inductive Code where
  | ok | targetErr | noTarget | timeout | fenced | poison | retired | denied | aborted | busy
  | unlockRequired | noContext
deriving DecidableEq, Repr

/-- The 4-bit code of R43. -/
def Code.num : Code → Nat
  | .ok => 0 | .targetErr => 1 | .noTarget => 2 | .timeout => 3 | .fenced => 4 | .poison => 5
  | .retired => 6 | .denied => 7 | .aborted => 8 | .busy => 9 | .unlockRequired => 10
  | .noContext => 11

/-- The code a received number stands for: 0xC to 0xF are treated as TARGET_ERR (R43). -/
def Code.ofNum (n : Nat) : Code :=
  match n with
  | 0 => .ok | 1 => .targetErr | 2 => .noTarget | 3 => .timeout | 4 => .fenced | 5 => .poison
  | 6 => .retired | 7 => .denied | 8 => .aborted | 9 => .busy | 10 => .unlockRequired
  | 11 => .noContext | _ => .targetErr

/-- The classes of R81. -/
inductive Cls where
  | ctl | sts | evt | cnt | cmd | key
deriving DecidableEq, Repr

/-- A fabric region, 0 to 127 (R12). -/
abbrev Region := Fin 128

/-- Who issues a request (R20, R59): the management processor, the debug master, a Waybill client
(by its source MAC, R56), the fabric logic of a region, the configuration controller, or another block of
the data plane behind its network interface: a DRAM channel or a context engine. -/
inductive Who where
  | mp
  | debug
  | client (mac : Nat)
  | fabric (n : Region)
  | config
  | data (ni : Nat)
deriving DecidableEq, Repr

/-- A lane of one of the three kinds (R13). -/
inductive LaneId where
  | line (m : Fin 64)
  | heritage (m : Fin 64)
  | port (m : Fin 8)
deriving DecidableEq, Repr

/-- A field of a register: the offset of its register in the CSR space, its lowest bit, its width,
whether it is guarded (R82), and the dictionary index of its register's alias (0: none). -/
structure Fld where
  off : Nat
  lsb : Nat
  w : Nat
  g : Bool
  ix : Nat
deriving DecidableEq, Repr

/-- One field of a register table: place, class, G attribute, reset value, the ranges of values that
are not out of range (no range listed: every value), and the T attribute (R82). Every field is
parity-covered. -/
structure FieldDef where
  lsb : Nat
  w : Nat
  cls : Cls
  g : Bool
  rst : Nat
  ranges : List (Nat × Nat)
  t : Bool
deriving DecidableEq, Repr

/-- One register of a register table, or an array of them: `n1` times `n2` registers at
`base + i * s1 + j * s2`, aliased in the dictionary under index `ix + i * k1 + j * k2` (0: internal). -/
structure RegDef where
  base : Nat
  n1 : Nat
  s1 : Nat
  n2 : Nat
  s2 : Nat
  ix : Nat
  k1 : Nat
  k2 : Nat
  fields : List FieldDef
deriving DecidableEq, Repr

/-- The edge that a block memory's ports see (R149, R151): both ports at once (common-clock mode, or
edges closer together than the arbitration window), or one port alone. -/
inductive PortEdge where
  | both | a | b
deriving DecidableEq, Repr

/-- A block memory's port request (R144). -/
structure BmReq where
  we : Bool
  be : Nat
  addr : Nat
  din : Word
deriving DecidableEq, Repr

/-- The fabric operands that a slice samples at M1 (R163): A, D, E, B0 to B3, FIRST and LAST. -/
structure OperandSet where
  a : BitVec 20
  d : BitVec 20
  e : BitVec 20
  b0 : BitVec 20
  b1 : BitVec 20
  b2 : BitVec 20
  b3 : BitVec 20
  first : Bool
  last : Bool
deriving DecidableEq, Repr

/-- What the device answers to the request of the last command: the code of R43, the flags of
R53 (LATE, MORE, STALE), the poison flag, the change counter, the result word ARG[63:32] and the
data. -/
structure Answer where
  code : Code := .ok
  late : Bool := false
  stale : Bool := false
  poison : Bool := false
  change : Nat := 0
  result : Nat := 0
  data : List Byte := []
deriving DecidableEq, Repr

/-- When a region's logic answers: the oldest request at once, that request later on, or the `k`-th of the requests that
it has taken and not answered. -/
inductive AnswerWhen where
  | now | later | earlier (k : Nat)
deriving DecidableEq, Repr

/-- What a region's logic answers to a request: when, a code, the poison flag, and data; and at the SRAM, whether
the access falls in the cycle of the core's latest store (R149, R435). -/
structure FabricAnswer where
  turn : AnswerWhen := .now
  code : Code := .ok
  poison : Bool := false
  data : List Byte := []
  inStore : Bool := false
deriving DecidableEq, Repr

/-- The register operations of the management processor (R426, format A opcode 0x00). -/
inductive MpAlu where
  | add | sub | and | or | xor | sll | srl | sra | slt | sltu | mul | mulh | div | divu
deriving DecidableEq, Repr

/-- Its operations with an immediate (R426, opcodes 0x02 to 0x08). -/
inductive MpAluI where
  | addi | andi | ori | xori | slli | srli | srai
deriving DecidableEq, Repr

/-- Its loads (R426, opcodes 0x10 to 0x14). -/
inductive MpLoad where
  | word | half | halfU | byte | byteU
deriving DecidableEq, Repr

/-- Its stores (R426, opcodes 0x15 to 0x17). -/
inductive MpStore where
  | word | half | byte
deriving DecidableEq, Repr

/-- The 47 instruction kinds of the management processor (R426), with the fields of R425: `d`, `a`
and `b` name registers, `imm` is imm18, `off` a word offset, `n` an MP control register. -/
inductive MpInsn where
  | alu (op : MpAlu) (d a b : Fin 16)
  | jr (a : Fin 16)
  | jrl (a : Fin 16)
  | ret
  | alui (op : MpAluI) (d a : Fin 16) (imm : BitVec 18)
  | lui (d : Fin 16) (imm : BitVec 18)
  | load (op : MpLoad) (d a : Fin 16) (imm : BitVec 18)
  | store (op : MpStore) (d a : Fin 16) (imm : BitVec 18)
  | rsv (d a : Fin 16) (imm : BitVec 18)
  | cmt (d a : Fin 16) (imm : BitVec 18)
  | swp (d a : Fin 16) (imm : BitVec 18)
  | branch (cond : Fin 7) (a : Fin 16) (off : BitVec 18)
  | jump (off : BitVec 26)
  | jumpLink (off : BitVec 26)
  | mfc (d : Fin 16) (n : BitVec 12)
  | mtc (n : BitVec 12) (a : Fin 16)
  | mset (n : BitVec 12) (a : Fin 16)
  | mclr (n : BitVec 12) (a : Fin 16)
  | fence
  | brk
  | wait
  | rte
deriving DecidableEq, Repr

/-- The management processor's serial ports (R443). -/
inductive Serial where
  | uart (n : Fin 4)
  | i2c (n : Fin 4)
  | spi (n : Fin 2)
  | xspi
  | mdio (n : Fin 2)
deriving DecidableEq, Repr

end Sys2Proof.Machine
end

