-- ==== Sys2Proof/Machine/Device.lean ====
section
/-! DEFINITION. The device's state, piece by piece, as plain data: the register file of the CSR
space, the memories behind it, and the state of each engine that no register shows. -/

namespace Sys2Proof.Machine

/-- The status of a dictionary command object (R70): outcome of the last completed run, LATE, the
count of completed runs, and whether a run is executing. -/
structure CmdStatus where
  code : Code := .ok
  late : Bool := false
  busy : Bool := false
  runs : Nat := 0
deriving DecidableEq, Repr

/-- A Waybill message: the header of R53 and its payload. -/
structure WbMsg where
  version : Nat := 1
  op : Nat := 0
  resp : Bool := false
  code : Code := .ok
  late : Bool := false
  more : Bool := false
  stale : Bool := false
  noside : Bool := false
  cond : Bool := false
  desc : Bool := false
  seq : Nat := 0
  packId : Nat := 0
  member : Nat := 0
  all : Bool := false
  index : Nat := 0
  sub : Nat := 0
  length : Nat := 0
  change : Nat := 0
  arg : Nat := 0
  payload : List Byte := []
deriving DecidableEq, Repr

/-- How a Waybill frame travels: Layer 2, or UDP to a port and an IPv6 (or mapped IPv4) address. -/
inductive Carrier where
  | l2
  | udp (port : Nat) (addr : Nat)
deriving DecidableEq, Repr

/-- A Waybill request in the server: where it came from (R55, R56) and the message. -/
structure WbReq where
  who : Who
  port : Fin 2 := 0
  carrier : Carrier := .l2
  msg : WbMsg := {}
deriving DecidableEq, Repr

/-- A frame as it arrives at a port: its bytes from the destination address to the end of the FCS, and whether
the FCS holds (R47, R49). -/
structure RxFrame where
  bytes : List Byte
  fcsOk : Bool
deriving DecidableEq, Repr

/-- A word of the 1,024-bit interface between a port and the fabric, with its framing signals (R50): `count` is
the number of valid bytes of the last word, 0 for all 128. -/
structure FifoWord where
  data : List Byte
  sop : Bool
  eop : Bool
  count : Nat
  err : Bool
deriving DecidableEq, Repr

/-- A frame the device sends: a Waybill message to a MAC address, a PTP message, or user bytes. -/
inductive TxFrame where
  | waybill (dst : Nat) (carrier : Carrier) (prio : Nat) (bytes : List Byte)
  | ptp (kind : Nat) (stamp : Nat)
  | pause (mask : Nat)
  | user (bytes : List Byte)
deriving DecidableEq, Repr

/-- The state of one 400G port that its registers do not show: whether it is training, its two FIFOs of
1,024-bit words to and from the fabric, the words that the fabric took last (R50), the frames of the device queued for transmission, the frames
it put on the line last, its last IEEE 1588 timestamps, the frames that were queued when a write of
PORT_CTL that restarts the port came (R46), and the time until which each priority is paused, with that of
802.3 pause last (R47). -/
structure PortSt where
  training : Bool := false
  rxFifo : List FifoWord := []
  rxOut : List FifoWord := []
  txFifo : List FifoWord := []
  txWb : List TxFrame := []
  sent : List TxFrame := []
  rxStamp : Nat := 0
  txStamp : Nat := 0
  pendingCtl : Option Nat := none
  paused : List Nat := List.replicate 9 0
deriving DecidableEq, Repr

/-- A tracked Waybill client (R59): its MAC, the port it was last seen on, and its replay cache
(R58), newest first. The list of clients is kept least recently used first. -/
structure ClientSt where
  mac : Nat
  port : Fin 2
  replay : List (Nat × WbMsg) := []
deriving DecidableEq, Repr

/-- A NOTIFY that a target has not answered (R63). -/
structure NotifySt where
  seq : Nat
  target : Nat
  index : Nat
  sub : Nat
  value : Word
  resends : Nat
deriving DecidableEq, Repr

/-- A 1 ms window of an object that was notified, with the value held for its end (R63). -/
structure HoldSt where
  index : Nat
  sub : Nat
  value : Option Word
deriving DecidableEq, Repr

/-- A Waybill FENCE that waits: its request, and the requests it covers in arrival order, each
with its code once it has completed (R62). -/
structure WbFenceSt where
  req : WbReq
  covered : List (Nat × Option Code)
deriving DecidableEq, Repr

/-- A request that was forwarded and is unanswered: to the fabric, under a tag of NI 166, or to the
firmware, which for a persistent object waits for the flash (R519). -/
structure ForwardSt where
  req : WbReq
  tag : Option Nat
  stored : Bool := false
deriving DecidableEq, Repr

/-- What a local barrier names (R66): the rendezvous point and the object. -/
structure BarrierSt where
  req : Option WbReq
  point : Nat
  object : Nat
deriving DecidableEq, Repr

/-- The Waybill engine (R53 to R66), with the attestation reports that await their signature, each with
the request that asked for it (none: object 0x8200) (R258). -/
structure WbSt where
  queue : List WbReq := []
  clients : List ClientSt := []
  executing : List (Nat × Nat) := []
  codes : List (Nat × Nat × Option Code) := []
  fences : List WbFenceSt := []
  notifySeq : Nat := 0
  notifies : List NotifySt := []
  holds : List HoldSt := []
  notifyDropped : Nat := 0
  discovers : List WbReq := []
  forwards : List ForwardSt := []
  snapshots : List WbReq := []
  barriers : List BarrierSt := []
  attest : List (Option WbReq × List Byte) := []
deriving DecidableEq, Repr

/-- The supply and reset inputs, and what start-up waits on (R481, R482, R498): among them an ADVANCE of
step 3 that waits for the root (R197), a warm reset that follows the command in progress, with its
cause (R486), and whether the board holds INITN low, as the loader saw it last (R484). -/
structure StartSt where
  vauxOn : Bool := true
  rootWait : Bool := false
  warmDue : Option Nat := none
  doneWait : Bool := false
  waitDone : Bool := false
  rstnLow : Bool := false
  releaseSet : List Region := []
  released : Bool := false
  donePin : Bool := false
  initnHeld : Bool := false
  initnDriven : Bool := true
  doneDriven : Bool := true
  dramLost : Bool := true
deriving DecidableEq, Repr

/-- One I/O cell's serializer and deserializer, and what the pin holds (R136 to R138). The words
in flight are oldest first; `skip`: the word boundary has just moved from 0 to 1; `level`: what the keeper
keeps. -/
structure IoSt where
  txWords : List Nat := []
  txNow : Nat := 0
  oe : Bool := false
  rxLast : Nat := 0
  rxWords : List Nat := []
  din : Nat := 0
  boundary : Nat := 0
  slipIn : Nat := 0
  skip : Bool := false
  level : Bool := false
  held : Nat := 0
  heldOe : Bool := false
deriving DecidableEq, Repr

/-- A fabric clock network (R203): a global network, a region's own regional network, a ring
oscillator, or a stopped number. -/
inductive Net where
  | gck (g : Fin 32)
  | rck (n : Region) (j : Fin 8)
  | ring (r : Fin 4)
  | stopped
deriving DecidableEq, Repr

/-- What reaches one I/O cell around an edge of its word clock (R136): the fabric's D_OUT and OE,
the bits its deserializer received in the cycle, and the level the board drives at the pin (none: it drives
none). -/
structure IoSample where
  region : Region
  cell : Fin 48
  dout : Nat
  oe : Bool
  rx : Nat
  pin : Option Bool
deriving DecidableEq, Repr

/-- What a region's engine holds beside its registers (R216, R219, R133, R221): the captured
DELAY, whether the region held an image when its swap was accepted, the sides whose FORCE is in
effect, whether a FORCE waits for an edge, whether the fabric clock gate is open (R485), whether the
release that follows belongs to start-up, whether this swap has waited for the scrubber, the levels of its
fabric-made regional clocks, by bit j (R204), and which run ended last (0 none, 1 a LOAD, 2 a SWAP; R89). -/
structure RgnSt where
  delay : Nat := 0
  fromActive : Bool := false
  force : Nat := 0
  forceDue : Bool := false
  gateOpen : Bool := false
  startup : Bool := false
  waited : Bool := false
  rckLevel : Nat := 0
  last : Nat := 0
deriving DecidableEq, Repr

/-! ## Memories and their integrity -/

/-- A memory unit of R294 and R304: a block memory (64n + j), a DRAM channel, a hard SRAM. -/
inductive MemUnit where
  | bm (b : Nat)
  | dram (k : Nat)
  | hs (u : Nat)
deriving DecidableEq, Repr

/-- A write-back that awaits its verify read (R295): the unit, the granule's byte address, what is written at which
byte of the granule, and whether the write-back itself still waits for an idle port cycle (R158). -/
structure VerifySt where
  unit : MemUnit
  addr : Nat
  wrote : List (Nat × BitVec 13)
  due : Bool := false
deriving DecidableEq, Repr

/-- A march run in progress (R298 to R301): its mode, whether it covers several units that can be
retired apart, whether it is that of start-up (R300), the units still to test, the granule under test in
the first of them, the access within it or the element of the destructive test, and what the run has found: every
fault, those of the unit under test, and whether a unit that has run to its end had one (R301). The save register of a granule under
preserving test is the granule's own cells: the engine serves every access from it. -/
structure MarchSt where
  preserving : Bool
  several : Bool
  startup : Bool
  units : List MemUnit
  granule : Nat
  step : Nat
  faults : Nat
  mine : Nat := 0
  failed : Bool := false
  partialRun : Bool
deriving DecidableEq, Repr

/-- A region's integrity attachment (R293): the events queued, the events dropped, and what it
presents now. -/
structure AttachSt where
  queue : List (Nat × Nat) := []
  lost : Nat := 0
  info : Option (Nat × Nat) := none
  lostNow : Bool := false
deriving DecidableEq, Repr

/-- A block memory's port: reads in flight (edges left, item, poisoned), and its outputs. -/
structure BmPort where
  flight : List (Nat × Nat × Bool) := []
  dout : Nat := 0
  rvalid : Bool := false
  poison : Bool := false
deriving DecidableEq, Repr

/-- A block memory's ports and port B's retained request (R148, R150). -/
structure BmSt where
  a : BmPort := {}
  b : BmPort := {}
  retained : Option BmReq := none
  scrubPtr : Nat := 0
deriving DecidableEq, Repr

/-! ## Arithmetic slices -/

/-- An operand set in the pipeline: its operands as integers, FIRST, LAST and the bank tag. `a'` is
A until M2, and the pre-adder's result from there. -/
structure SliceSet where
  a : Int
  d : Int
  e : Int
  b0 : Int
  b1 : Int
  b2 : Int
  b3 : Int
  first : Bool
  last : Bool
  tag : Nat
deriving DecidableEq, Repr

/-- Sums on their way to their banks (R168): each bank with its sum, the banks a LAST stores, and
FIRST and LAST. -/
structure SliceSums where
  sums : List (Nat × Int)
  stores : List Nat
  first : Bool
  last : Bool
deriving DecidableEq, Repr

/-- An accumulator bank (R170). -/
structure Bank where
  acc : Int := 0
  gov : Bool := false
  gsign : Bool := false
deriving DecidableEq, Repr

/-- A register set of the address generator (R175). -/
structure AgSet where
  base : Nat := 0
  len : Nat := 0
  ptr : Nat := 0
  step : Nat := 0
  mode : Nat := 0
  pend : Option Nat := none
deriving DecidableEq, Repr

/-- A slice (R180): the sets in M1 to M3, the sums at M4, the banks, the current bank, switches that
wait with the sets left before they take effect, stores still to be made (with the copy of their
bank), overruns to report, the output registers, the generator sets, which is current, the address
on AG_ADDR, and the wrap of this edge: the set, and the pointer that the old length gives. -/
structure SliceSt where
  m1 : Option SliceSet := none
  m2 : Option SliceSet := none
  m3 : Option SliceSet := none
  m4 : Option SliceSums := none
  banks : List Bank := List.replicate 4 {}
  cur : Nat := 0
  switches : List (Nat × Nat) := []
  stores : List (Nat × Bank) := []
  overruns : Nat := 0
  out : Int := 0
  ovalid : Bool := false
  obank : Nat := 0
  osat : Bool := false
  ogov : Bool := false
  storedNow : Bool := false
  ag : List AgSet := List.replicate 4 {}
  agCur : Nat := 0
  agAddr : Nat := 0
  agWrap : Bool := false
  wrapNow : Option (Nat × Nat) := none
deriving DecidableEq, Repr

/-- The slices of a region that have reached one event's stage at the edge in progress (R183): the root period of that
edge, and each slice with whether it recorded the event. -/
structure DspEdge where
  period : Nat := 0
  steps : List (Nat × Bool) := []
deriving DecidableEq, Repr

/-! ## Clocks -/

/-- A synthesizer beside its registers (R199 to R201): the settings an APPLY measures, the applied settings as they stood in FS_CTL,
FS_DIV and FS_ODIV (none before the first accepted APPLY), the outputs that run, whether it is
relocking, whether it waits for its input to return, and the settings that the last APPLY replaced (R206). -/
structure FsSt where
  measuring : Option (Word × Word × Word) := none
  applied : Option (Word × Word × Word) := none
  running : Nat := 0
  relock : Bool := false
  waitInput : Bool := false
  before : Option (Word × Word × Word) := none
deriving DecidableEq, Repr

/-- A global buffer beside its register (R202): the source it passes, the source it switches to,
whether that is ALT, and whether the SRC synthesizer was lost during the switch. -/
structure GckSt where
  cur : Nat := 127
  target : Nat := 127
  toAlt : Bool := false
  autoDue : Bool := false
deriving DecidableEq, Repr

/-! ## The Caravan network -/

/-- A packet: the header flit of R309 and its data bytes, 64 per data flit. -/
structure Pkt where
  route : Nat := 0
  cmd : Nat := 0
  src : Nat := 0
  tag : Nat := 0
  addr : Nat := 0
  len : Nat := 0
  cls : Nat := 0
  epoch : Bool := false
  dport : Nat := 0
  page : Bool := false
  noside : Bool := false
  poison : Bool := false
  code : Code := .ok
  atop : Nat := 0
  asize : Bool := false
  dst : Nat := 0
  hops : Nat := 0
  alt : Bool := false
  beFirst : Nat := 0
  beLast : Nat := 0
  operand : Nat := 0
  compare : Nat := 0
  user : Nat := 0
  data : List Byte := []
deriving DecidableEq, Repr

/-- Flits of a packet in an input buffer: the waystation, the port by which they entered (0 N, 1 E, 2 S, 3 W,
4 L), their virtual channel (0 GT, 1 MG, 2 RSP, 3 BE), and how many they are. -/
structure Place where
  ws : Nat
  inp : Nat
  vc : Nat
  flits : Nat
deriving DecidableEq, Repr

/-- A packet in the network: the buffer where its header stands, and the buffers that hold its flits, from
the header's back to where its last flit is. What is in none of them is still in the NI that sends it
(R317, R318). -/
structure Flight where
  ws : Nat
  inp : Nat
  vc : Nat
  pkt : Pkt
  body : List Place := []
deriving DecidableEq, Repr

/-- A tag in use at an initiating NI (R324): its request, whether its header has left the NI, and
whether its user has gone (R222): its response is then discarded; and whether its last flit has entered the NI. -/
structure TagSt where
  tag : Nat
  pkt : Pkt
  injected : Bool := false
  dropped : Bool := false
  whole : Bool := true
deriving DecidableEq, Repr

/-- A write of an NI in issue order (R35): its number, its tag, its code once it has completed, and
whether a FENCE has reported it. -/
structure WriteSt where
  num : Nat
  tag : Nat
  code : Option Code
  reported : Bool
deriving DecidableEq, Repr

/-- A FENCE of an NI (R325): its tag, the number of the first later write, and its USER bits. -/
structure FenceSt where
  tag : Nat
  limit : Nat
  user : Nat
deriving DecidableEq, Repr

/-- A network interface: requests its block presents and that it holds back, requests with a tag
that wait for injection, tags, writes and FENCEs, tokens, received packets, requests received and not yet
answered, responses delivered to its block, responses that wait to enter the network, old-epoch requests
it has stopped counting (sender, tag), requests that a compatibility-mode guard holds (R410), how many of
the received requests had passed the guard when it closed (R405), the tag it returned on its request
channel last (R334), the slot in which it last injected a guaranteed packet (R320), and whether flits of the
request presented last are still to come (R222); and at a context engine the answers to requests performed that wait
for an earlier request of their stream (R33, R367). -/
structure NiSt where
  presented : List Pkt := []
  opening : Bool := false
  waiting : List TagSt := []
  tags : List TagSt := []
  nextTag : Nat := 0
  writes : List WriteSt := []
  nextWrite : Nat := 0
  fences : List FenceSt := []
  tokens : Nat := 65535
  rx : List Pkt := []
  served : List Pkt := []
  rs : List Pkt := []
  rspOut : List Pkt := []
  stale : List (Nat × Nat) := []
  guarded : List Pkt := []
  inside : Nat := 0
  rqTag : Option Nat := none
  gtSlot : Option Nat := none
  ready : List (Pkt × Code × List Byte) := []
deriving DecidableEq, Repr

/-- The network: packets in flight, the rotating pointers of its outputs, the slot phase, the slots counted
so far, and what the shadow copies held before they were staged (R23). -/
structure NocSt where
  flight : List Flight := []
  arb : SMap Nat := []
  phase : Nat := 0
  slotNum : Nat := 0
  undoBook : SMap Nat := []
  undoSlot : SMap Nat := []
  undoEn : SMap Nat := []
deriving DecidableEq, Repr

/-! ## Stacked DRAM -/

/-- A request at a channel (R345): its number, packet, captured target T in ns, urgency, the lines not
yet in a bank queue, the lines not yet served, the bytes read so far by line with their poison, and
the code of a request that the channel refuses, which waits for its turn alone. -/
structure DramReq where
  id : Nat
  pkt : Pkt
  target : Nat
  urgency : Nat
  toQueue : List Nat
  left : List Nat
  got : List (Nat × List (Byte × Bool))
  code : Code := .ok
deriving DecidableEq, Repr

/-- One entry of a bank queue: the request and the line (R345). -/
structure DramLine where
  id : Nat
  line : Nat
deriving DecidableEq, Repr

/-- A channel: requests in its interface and in its queues, queue entries in arrival order, the
pick's pointer, open rows by bank (row + 1, 0: closed), hit passes by bank, the next bank to refresh
and the refreshes due and forced, delays applied by DQ line, the scrub pointer, and whether an access has met its
closed guard in compatibility mode (R410). -/
structure ChSt where
  reqs : List DramReq := []
  queue : List DramLine := []
  nextId : Nat := 0
  ptr : Nat := 0
  rows : SMap Nat := []
  passes : SMap Nat := []
  refreshNext : Nat := 0
  refreshDue : List Nat := []
  refreshForced : List Nat := []
  applied : SMap Nat := []
  scrubPtr : Nat := 0
  accessed : Bool := false
deriving DecidableEq, Repr

/-! ## The context store -/

/-- A line of the context cache (R366): the record it holds, its place among the 8,192 lines of the
cache SRAM (set × 4 + way), and whether it is dirty. The lines are kept most recently used first. -/
structure CtxLine where
  idx : Nat
  slot : Nat
  dirty : Bool
deriving DecidableEq, Repr

/-- The context store beside its registers (R362 to R375): the hash key, the key width in bytes, the
indexes of staged records in order, the operation that runs (its code, reason, index and command
number), whether an INIT (with its key width) or a sweep runs, a COMMIT that has been accepted, records
read and not yet filled into the cache (with their set), lookup-port requests held while a quarter
moves to another engine (region and message), and the engine through whose NI records are read and written. -/
structure CtxSt where
  hashKey : Nat := 0
  keyBytes : Nat := 16
  staged : List Nat := []
  op : Option (Code × Nat × Nat) := none
  init : Option Nat := none
  sweep : Bool := false
  commitDue : Bool := false
  refills : List (Nat × Nat) := []
  held : List (Nat × Pkt) := []
  eng : Nat := 0
deriving DecidableEq, Repr

/-- A request at a lookup port (R367). -/
structure LookupReq where
  op : Fin 16
  touch : Bool
  wsel : Fin 8
  key : BitVec 384
  arg0 : BitVec 64
  arg1 : BitVec 64
  utag : Fin 4096
deriving DecidableEq, Repr

/-! ## Configuration streams, keys and scrubbing -/

/-- Where a load reads its stream (R218, R254). -/
inductive LoadSrc where
  | dram (base : Nat)
  | flash (k base : Nat)
  | network
deriving DecidableEq, Repr

/-- A preset unit of the hard-block staging buffer (R250): its block, its number, and its bytes. -/
structure HardUnit where
  block : Nat
  unit : Nat
  bytes : List Byte
deriving DecidableEq, Repr

/-- The load in progress (R218, R235): its kind (1 FULL, 2 REGION, 3 HARD), its source, the region of
a REGION load, its header once that has passed, the next segment, the key of that segment, the
frames written by region (a bit per frame), the staged hard-block units, the regions touched, and
the stream bytes read so far. -/
structure LoadSt where
  kind : Nat
  src : LoadSrc
  region : Nat := 0
  header : List Byte := []
  seg : Nat := 0
  key : List Byte := []
  seen : SMap Nat := []
  units : List HardUnit := []
  touched : List Nat := []
  got : List Byte := []
deriving DecidableEq, Repr

/-- A STREAM request that is unanswered (R255). -/
structure StreamReq where
  seq : Nat
  offset : Nat
  resends : Nat
deriving DecidableEq, Repr

/-- The start-up loader (R254 to R256): whether it runs, whether an attempt is due, the cause of an
attempt that has just failed, failures since the backoff restarted, the source of the last attempt,
the regions that were ACTIVE at the reset, and the network attempt: the server that answered, the
next offset to ask for, the requests outstanding, the bytes that have arrived by offset, the end
that a response without MORE gives, whether it waits for a link, the next sequence number, offsets
to ask for again, and whether INITN has been sampled high for the attempt. -/
structure BootSt where
  running : Bool := false
  due : Bool := false
  backoff : Bool := false
  failed : Option Nat := none
  failures : Nat := 0
  last : Option Nat := none
  wasActive : List Nat := []
  server : Option Nat := none
  next : Nat := 0
  out : List StreamReq := []
  arrived : List (Nat × List Byte) := []
  finish : Option Nat := none
  linkWait : Bool := false
  seq : Nat := 0
  gaps : List Nat := []
  sampled : Bool := false
deriving DecidableEq, Repr

/-- A security command in progress (R246): its number, 0 FUSE_KEY_PROGRAM to 4 SLOT_REVOKE, its slot
and the data it took. -/
structure SecCmd where
  op : Nat
  slot : Nat
  data : List Byte
deriving DecidableEq, Repr

/-- The keys (R245, R246, R257): fuse key and battery-backed key where held, the slot digests, whether
SEC_KEY_DATA has been written since the last command, the command in progress, the golden key (R273),
and what the fuses and the security engine hold of the device's identity: its serial number, base MAC address,
certificate and private identity key (R257). -/
structure KeySt where
  fuseKey : List Byte := []
  bbram : List Byte := []
  slots : SMap (List Byte) := []
  written : Bool := false
  cmd : Option SecCmd := none
  golden : List Byte := []
  serial : Nat := 0
  baseMac : Nat := 0
  cert : List Byte := []
  idPriv : Nat := 0
deriving DecidableEq, Repr

/-- What is recorded with a VERIFIED plane (R249). -/
structure PlaneInfo where
  slot : Nat := 0
  version : Nat := 0
deriving DecidableEq, Repr

/-- A frame that the scrubber writes back and reads again (R270, R275): its region, physical plane and number,
whether it is reloaded from the golden store, and the row it writes. -/
structure PendingFix where
  region : Nat
  plane : Nat
  frame : Nat
  reload : Bool
  row : BitVec 4192
deriving DecidableEq, Repr

/-- The scrubber (R267 to R278): whether a pass runs, whether its findings have raised the rate, whether its last
region has been visited, the slots taken in it, the place of the active sweep and of the shadow sweep, the fixes and the
uncorrectable frames found in it, frames that await their re-read, the builds queued, the build in
progress (its region, generation and whether it is the second), the generation counter, and the
generation (plus 1) of each valid golden entry and the record that its image had. -/
structure ScrubSt where
  passOn : Bool := false
  raised : Bool := false
  passOver : Bool := false
  slots : Nat := 0
  region : Nat := 0
  frame : Nat := 0
  shRegion : Nat := 0
  shFrame : Nat := 0
  fixes : Nat := 0
  found : Bool := false
  pending : List PendingFix := []
  builds : List Nat := []
  building : Option (Nat × Nat × Bool) := none
  generation : Nat := 0
  entries : SMap Nat := []
  infos : SMap PlaneInfo := []
deriving DecidableEq, Repr

/-! ## Serial lanes -/

/-- A word at a lane's fabric attachment (R386, R389): data, HDR or K bits, ERR bits, and whether it
holds a poisoned byte. -/
structure LaneWord where
  data : BitVec 512 := 0
  hdr : BitVec 8 := 0
  err : BitVec 8 := 0
  poison : Bool := false
deriving DecidableEq, Repr

/-- What a lane's transmitter sends: its coder's idle word, a word, or the line bits of a pattern. -/
inductive LaneOut where
  | idle
  | word (w : LaneWord)
  | pattern (bits : Nat)
deriving DecidableEq, Repr

/-- An adaptation step in progress (R385): the setting and its value before, the EQF before, and the
first EQF computed since. -/
structure LaneStep where
  tap : Nat
  old : Nat
  eqf : Nat
  next : Option Nat := none
deriving DecidableEq, Repr

/-- A lane beside its registers (R381 to R395): the word FIFOs, ACQ_FAIL events in a row, a FREEZE that
waits for the step in progress, that step, the settings tried in this round and whether one gained,
the state of the alignment hunt with its counts, the receive boundary in line bits, the kind of
injection that runs (0 none) with the bits it has still to flip and its place in its rate, the pattern generator, what
the transmitter sends (none: electrical idle), with the line bits of it that are flipped and whether its polarity is
inverted, and the words that the fabric took last. -/
structure LaneSt where
  rx : List LaneWord := []
  rxOut : List LaneWord := []
  tx : List LaneWord := []
  fails : Nat := 0
  freezeDue : Bool := false
  step : Option LaneStep := none
  tried : List Nat := []
  gained : Bool := false
  align : Nat := 0
  good : Nat := 0
  bad : Nat := 0
  bound : Nat := 0
  inj : Nat := 0
  injLeft : Nat := 0
  injAt : Nat := 0
  gen : Nat := 0
  out : Option LaneOut := none
  outInj : Nat := 0
  outInv : Bool := false
deriving DecidableEq, Repr

/-! ## Power -/

/-- An AVSBus request that is outstanding (R414): 0 VCCNOC or 1 VCCINT, the rail select it was sent to, its
voltage in mV, whether the write frame was acknowledged, and the tier that its acknowledgement brings
into force (R416). -/
structure AvsReq where
  rail : Nat
  sel : Nat
  mv : Nat
  good : Bool
  tier : Option Nat
deriving DecidableEq, Repr

/-- The power controller beside its registers (R413 to R417): the level that a change goes to, whether
its divisor waits for the schedule-cycle boundary, the voltages that wait to be requested (VCCINT with
the tier it brings), the request that is outstanding, and the governor's count of periods below
DOWN_PCT. -/
structure PwrSt where
  change : Option Nat := none
  divDue : Bool := false
  nocMv : Option Nat := none
  intMv : Option (Nat × Option Nat) := none
  avs : Option AvsReq := none
  low : Nat := 0
deriving DecidableEq, Repr

/-- A domain beside its registers (R405 to R409): the state a transition goes to, whether its drain is
complete, whether a cancel came too late, and whether TIMER is armed. -/
structure DomSt where
  target : Nat := 0
  drained : Bool := false
  late : Bool := false
  timer : Bool := false
deriving DecidableEq, Repr

/-! ## The management processor, debug and the watchdog -/

/-- What the core waits for (R432, R429, R433, R438): the response of a network load or SWP (with its
address), of a fetch, of a FENCE; an event; or the end of a flash command before an instruction. -/
inductive MpStall where
  | load (op : MpLoad) (d : Fin 16) (addr : Word)
  | swp (d : Fin 16) (addr : Word)
  | fetch
  | fence
  | wait
  | flash (i : MpInsn)
deriving DecidableEq, Repr

/-- A patch unit as fetches and loads still see it (R437): its registers before a write, and the CD46
cycle of the write. -/
structure PatchOld where
  unit : Nat
  addr : Word
  val : Word
  ctl : Word
  cyc : Nat
deriving DecidableEq, Repr

/-- The management processor's core beside its CSRs (R424, R427): G0 to G15 and the PC; ST as IE, EXC
and PIE; LK, EPC, ECAUSE, EADDR, VBASE, EVT_MASK, CYC, TIMER_CMP with whether it has matched,
FENCE_CODE, the windows, the reservation (the granule's SRAM offset); what the core waits for, whether
that belongs to a fed instruction, whether a step runs, a halt that is due (its cause), a pending NMI,
patch units as still seen, the slot that the running primary image occupies, the flash command that
runs (its address and data; no data: an erase). -/
structure MpSt where
  g : List Word := List.replicate 16 0
  pc : Word := 0
  ie : Bool := false
  exc : Bool := false
  pie : Bool := false
  lk : Word := 0
  epc : Word := 0
  ecause : Nat := 0
  eaddr : Word := 0
  vbase : Word := 0x100
  evtMask : Word := 0
  cyc : Nat := 0
  timerCmp : Word := 0
  timerHit : Bool := false
  fenceCode : Nat := 0
  win : List Word := List.replicate 8 0
  resv : Option Nat := none
  stall : Option MpStall := none
  fed : Bool := false
  stepping : Bool := false
  haltDue : Option Nat := none
  nmi : Bool := false
  patchOld : List PatchOld := []
  slot : Option Nat := none
  flashCmd : Option (Nat × Option (List Byte)) := none
  stored : Option (Nat × Nat) := none
deriving DecidableEq, Repr

/-- A serial port beside its registers (R443, R446): its FIFOs, oldest first, and whether a transfer
runs. -/
structure SerialSt where
  tx : List Byte := []
  rx : List Byte := []
  busy : Bool := false
deriving DecidableEq, Repr

/-- The test access port (R449 to R451): the instruction, the boundary register by cell key (bit 0 the
level, bit 1 the enable), and the data and code of the last DBGACC access. -/
structure TapSt where
  ir : Nat := 2
  boundary : SMap Nat := []
  data : Word := 0
  code : Code := .ok
deriving DecidableEq, Repr

/-! ## The pack -/

/-- A member as a hello or a DISCOVER answer describes it (R467): where it was heard (MAC and port),
and the fields of its PACK_RECORD. -/
structure MemberRec where
  mac : Nat := 0
  port : Fin 2 := 0
  serial : Nat := 0
  prio : Nat := 0
  joined : Bool := false
  divergent : Bool := false
  suspect : Bool := false
  refused : Bool := false
  isLead : Bool := false
  compat : Nat := 0
  offset : Nat := 0
  digest : List Byte := []
deriving DecidableEq, Repr

/-- A roster entry (R465, R480): the member, whether it is reachable, and whether it is ABSENT. -/
structure RosterEntry where
  who : MemberRec := {}
  heard : Bool := false
  reachable : Bool := false
  absent : Bool := false
deriving DecidableEq, Repr

/-- A barrier's parameters (R473): kind, BID, TIMEOUT_US and RELEASE_TIME. -/
structure PbParams where
  kind : Nat
  bid : Nat
  timeout : Nat
  release : Nat
deriving DecidableEq, Repr

/-- A barrier open at the lead dog (R475): its parameters, its roll, and the members that arrived. -/
structure OpenBarrier where
  params : PbParams
  roll : List Nat
  arrived : List Nat := []
deriving DecidableEq, Repr

/-- A barrier completed at the lead dog: its parameters, its ABSENT count, and the RELEASE copies still to
be sent. -/
structure DoneBarrier where
  params : PbParams
  absent : Nat
  copies : Nat
deriving DecidableEq, Repr

/-- This member's outstanding barrier (R474, R477): the request that started it (none: object 0x1F20),
its parameters, whether its arrival has been answered, and the ABSENT count of its RELEASE once that
has arrived. -/
structure MyBarrier where
  req : Option WbReq
  params : PbParams
  answered : Bool := false
  released : Option Nat := none
deriving DecidableEq, Repr

/-- The pack engine beside its registers (R464 to R478): the roster by member, the digest last computed
(empty: that of the empty string), Syncs in a row beyond and within the bound, whether the next Sync steps the counter, the fraction of a
root period that the rate trim has gathered, the barriers, the number of the DISCOVER it last sent, and the
lead dog. -/
structure PackSt where
  roster : SMap RosterEntry := []
  digest : List Byte := []
  beyond : Nat := 0
  bounded : Nat := 0
  stepNext : Bool := false
  frac : Int := 0
  opened : List OpenBarrier := []
  closed : List DoneBarrier := []
  mine : Option MyBarrier := none
  discover : Option Nat := none
  lead : Option Nat := none
deriving DecidableEq, Repr

/-- The device: everything the spec gives it but the queue of waiting commands. -/
structure Dev where
  /-- The register file of the CSR space, by offset (R41, R81). -/
  csr : SMap Word := []
  /-- Initiators that hold an armed unlock (R76). -/
  unlocks : List Who := []
  /-- Offsets of the CTL registers that have failed their parity check (R90). -/
  parityFailed : List Nat := []
  /-- What CTL registers held when software first wrote them in their block's safe state (R207, R398). -/
  kept : SMap (Option Word) := []
  /-- Change counters of the dictionary, by index (R72). -/
  changes : SMap Nat := []
  /-- Status of the dictionary's command objects, by index * 256 + subindex (R70). -/
  cmds : SMap CmdStatus := []
  /-- Snapshot holding values, by index * 256 + subindex (R95). -/
  held : SMap Nat := []
  /-- Off flags of the last snapshot: domains that were in D3 (R29, R95). -/
  offFlags : List Nat := []
  /-- Values of the firmware-served objects, by index * 256 + subindex (R519). -/
  fwObjects : SMap (List Byte) := []
  /-- The user-object map (0x1040), by subindex (R75). -/
  userMap : SMap Nat := []
  /-- Configuration frames by (region * 2 + plane) * 5120 + frame, as stored rows: data bits 0 to
  4,095, then check positions 0 to 95 (R210, R263). -/
  frames : SMap (BitVec 4192) := []
  /-- Flip-flops by region * 131072 + cluster * 32 + 2 * cell + (0 FFA, 1 FFB) (R98). -/
  ff : SMap Bool := []
  /-- Inbound border registers by (region * 4 + side) * 512 + port (R129). -/
  borderIn : SMap Bool := []
  /-- Captured HOLD values of outbound ports, by the same key (R131). -/
  borderHold : SMap Bool := []
  /-- I/O cells by region * 64 + cell (R134). -/
  io : SMap IoSt := []
  /-- Levels the board drives at the I/O pins, by the same key; none: it drives none. -/
  pins : SMap (Option Bool) := []
  /-- The supply of general I/O bank b in mV, as the board chooses it (R494, R500); 1,800 where none is listed
  (DESIGN CHOICE, log 130). -/
  vccio : SMap Nat := []
  /-- Trunks disabled by their contention detector, by region * 512 + trunk (R127). -/
  trunkOff : List Nat := []
  /-- Those of them that may resume: scrubbing has rewritten a frame of theirs, or the plane has changed. -/
  trunkFixed : List Nat := []
  /-- Stored bytes of the memory units as 13-bit codewords (R282, R284), by `cellKey`. -/
  cells : SMap (BitVec 13) := []
  /-- Spares that have failed themselves, by unit key * 16 + entry (R295). -/
  deadSpares : List Nat := []
  /-- Write-backs that await their verify read, oldest first (R295). -/
  verify : List VerifySt := []
  /-- The integrity log, oldest first, each entry LOG_LO and LOG_HI (R304). -/
  log : List (Nat × Nat) := []
  march : Option MarchSt := none
  /-- The kind of checker access that has been accepted and not yet done (R302). -/
  ctPending : Option Bool := none
  attach : SMap AttachSt := []
  bm : SMap BmSt := []
  fs : SMap FsSt := []
  gck : SMap GckSt := []
  /-- The root was lost and has not returned (R195, R196). -/
  rootLost : Bool := false
  /-- The root period T0, by `time`, at which the root locked last (R186). -/
  rootT0 : Nat := 0
  /-- Slices by 48n + s. -/
  slice : SMap SliceSt := []
  /-- What the slices of a region recorded at their last edges, for DSP_LAST (R183), by `dspKey`. -/
  dspEdge : SMap DspEdge := []
  /-- The refresh rate that a stack's sensors ask for (R351): true for the fast one. -/
  fastWant : SMap Bool := []
  noc : NocSt := {}
  ni : SMap NiSt := []
  /-- Slot tables by ((copy * 192 + waystation) * 5 + output) * 256 + slot (R319). -/
  slots : SMap Nat := []
  ch : SMap ChSt := []
  /-- The channels of the stripe map in force, in ascending order (R341). -/
  stripe : List Nat := List.range 32
  /-- The context cache, most recently used first (R366). -/
  ctxCache : List CtxLine := []
  ctx : CtxSt := {}
  /-- What each region's engine holds beside its registers. -/
  rgn : SMap RgnSt := []
  /-- What is recorded with each VERIFIED or active plane, by 2n + p (R249). -/
  planes : SMap PlaneInfo := []
  load : Option LoadSt := none
  boot : BootSt := {}
  keys : KeySt := {}
  scrub : ScrubSt := {}
  /-- Lanes: line m at m, heritage m at 64 + m, port m at 128 + m. -/
  lanes : SMap LaneSt := []
  /-- Applied rates of the quad PLLs in kBd, by 2 * quad + PLL, heritage quads from 16; 0 stands for the
  reset rate (R381). -/
  plls : SMap Nat := []
  pwr : PwrSt := {}
  doms : SMap DomSt := []
  /-- Counter values as domains held them when their fences closed, by the holding object's key (R29). -/
  offCounts : SMap Nat := []
  mp : MpSt := {}
  /-- The on-die flash; an unlisted byte is erased (R438). -/
  flash : SMap Byte := []
  /-- Serial ports: UART n at n, I2C n at 4 + n, SPI n at 8 + n, XSPI at 10, MDIO n at 12 + n. -/
  serial : SMap SerialSt := []
  /-- The firmware of the running primary and extension images: header and body (R442). -/
  fwImage : List Byte := []
  extImage : List Byte := []
  tap : TapSt := {}
  /-- Root periods towards the watchdog's next tick, in half root periods (R458). -/
  wdtFrac : Nat := 0
  pack : PackSt := {}
  wb : WbSt := {}
  port0 : PortSt := {}
  port1 : PortSt := {}
  start : StartSt := {}
  /-- Root periods since the model's start: the idle tick counts them (log 2). -/
  time : Nat := 0
  /-- Free values drawn so far (log 3). -/
  fresh : Nat := 0
  /-- The answer to the last command that asks for one. -/
  answer : Answer := {}
deriving DecidableEq, Repr

end Sys2Proof.Machine
end

