-- ==== Sys2Proof/Syntax.lean ====
section
/-! DEFINITION. The commands of the device, one constructor for each row of spec/opcode_table.json, with the
row's operands. The measurements, elapsed times and outside answers that an event carries are operands. -/

namespace Sys2Proof

open Sys2Proof.Machine

/-- The commands (spec/opcode_table.json). -/
inductive Instr where
  /-- VAUX_POWER_ON_RESET (R486). -/
  | vauxPowerOnReset (vbat : Bool)
  /-- STARTUP_STEP1_END (R481). -/
  | startupStep1End (cfgsrc : BitVec 3) (cfgpull : Bool) (us : Nat)
  /-- BOOT_ROM_RUN (R442). -/
  | bootRomRun (vendorA : Bool) (vendorB : Bool) (vendorX : Bool)
  /-- RECOVERY_IMAGE_RECEIVED (R442). -/
  | recoveryImageReceived (image : List Byte) (vendor : Bool) (vendorX : Bool)
  /-- ADVANCE (R481). -/
  | advance (who : Who)
  /-- RSTN_LOW (R482). -/
  | rstnLow (ns : Nat)
  /-- RSTN_HIGH (R482). -/
  | rstnHigh
  /-- DP_RESET (R487). -/
  | dpReset (who : Who)
  /-- WARM_RESET (R486). -/
  | warmReset (who : Who)
  /-- INITN_SAMPLE (R484). -/
  | initnSample (boardLow : Bool)
  /-- DONE_PIN_HIGH (R485). -/
  | donePinHigh
  /-- RAIL_OUT_OF_RANGE (R499). -/
  | railOutOfRange (rail : Fin 16)
  /-- RAIL_IN_RANGE (R498). -/
  | railInRange (rail : Fin 16)
  /-- DIE_TEMP_UPDATE (R516). -/
  | dieTempUpdate (readings : List (BitVec 8))
  /-- CSR_WRITE (R85). -/
  | csrWrite (who : Who) (off : BitVec 24) (words : List Word)
  /-- EVT_READ (R81). -/
  | evtRead (who : Who) (off : BitVec 24)
  /-- CNT_WRITE (R81). -/
  | cntWrite (who : Who) (off : BitVec 24) (value : Word)
  /-- PARITY_MISMATCH (R90). -/
  | parityMismatch (off : BitVec 24) (cls : Cls)
  /-- TMR_VOTE (R92). -/
  | tmrVote (off : BitVec 24) (three : Bool)
  /-- UNLOCK_KEY (R76). -/
  | unlockKey (who : Who) (key : BitVec 16)
  /-- UNLOCK_EXPIRY (R77). -/
  | unlockExpiry (who : Who)
  /-- SNAP (R94). -/
  | snap (who : Who)
  /-- SNAPSHOT_COPY (R29). -/
  | snapshotCopy
  /-- PORT_TRAINING_START (R45). -/
  | portTrainingStart (port : Fin 2)
  /-- PORT_LINK_UP (R45). -/
  | portLinkUp (port : Fin 2)
  /-- PORT_LINK_DOWN (R46). -/
  | portLinkDown (port : Fin 2)
  /-- PORT_CTL_WRITE (R46). -/
  | portCtlWrite (who : Who) (port : Fin 2) (value : Word)
  /-- PORT_RX_FRAME (R49). -/
  | portRxFrame (port : Fin 2) (frame : RxFrame) (taken : Nat) (flips : List (Nat × BitVec 13))
  /-- PORT_TX_FRAME (R51). -/
  | portTxFrame (port : Fin 2) (user : List FifoWord)
  /-- READ (R60). -/
  | read (req : WbReq)
  /-- WRITE (R60). -/
  | write (req : WbReq)
  /-- READ_BLOCK (R61). -/
  | readBlock (req : WbReq)
  /-- WRITE_BLOCK (R61). -/
  | writeBlock (req : WbReq)
  /-- SNAPSHOT (R60). -/
  | snapshot (req : WbReq)
  /-- WB_FENCE (R62). -/
  | wbFence (req : WbReq)
  /-- WB_FENCE_COMPLETE (R62). -/
  | wbFenceComplete
  /-- BARRIER (R66). -/
  | barrier (req : WbReq)
  /-- NOTIFY_RECEIVED (R520). -/
  | notifyReceived (req : WbReq)
  /-- DISCOVER (R64). -/
  | discover (req : WbReq)
  /-- DISCOVER_ANSWER_DUE (R64). -/
  | discoverAnswerDue (k : Fin 64)
  /-- STREAM_REQUEST_RECEIVED (R520). -/
  | streamRequestReceived (req : WbReq)
  /-- ATTEST (R258). -/
  | attest (req : WbReq)
  /-- ATTEST_SIGNED (R258). -/
  | attestSigned
  /-- WB_RESPONSE_RECEIVED (R520). -/
  | wbResponseReceived (req : WbReq)
  /-- NOTIFICATION_RAISED (R63). -/
  | notificationRaised (index : BitVec 16) (sub : BitVec 8)
  /-- NOTIFY_HOLD_EXPIRY (R63). -/
  | notifyHoldExpiry (index : BitVec 16) (sub : BitVec 8)
  /-- NOTIFY_RESEND_EXPIRY (R63). -/
  | notifyResendExpiry (seq : BitVec 32)
  /-- USER_OBJECT_FORWARD (R75). -/
  | userObjectForward (req : WbReq)
  /-- FIRMWARE_OBJECT_FORWARD (R74). -/
  | firmwareObjectForward (req : WbReq)
  /-- PERSISTENT_OBJECT_STORED (R519). -/
  | persistentObjectStored
  /-- REINIT (R118). -/
  | reinit (who : Who) (region : Region)
  /-- REINIT_PULSE (R118). -/
  | reinitPulse (region : Region)
  /-- TRUNK_CONTENTION (R127). -/
  | trunkContention (region : Region) (trunk : Fin 512)
  /-- TRUNK_RESTORE (R127). -/
  | trunkRestore (region : Region) (trunk : Fin 512)
  /-- BORDER_FORCE (R133). -/
  | borderForce (who : Who) (region : Region) (force : BitVec 4)
  /-- IO_SLIP (R137). -/
  | ioSlip (region : Region) (cell : Fin 48)
  /-- BM_PORT_REQUEST (R149). -/
  | bmPortRequest (region : Region) (block : Fin 64) (edge : PortEdge) (a : Option BmReq) (b : Option BmReq)
  /-- BM_RETAINED_EXECUTE (R150). -/
  | bmRetainedExecute (region : Region) (block : Fin 64) (a : Option BmReq)
  /-- BM_READ_DATA (R148). -/
  | bmReadData (region : Region) (block : Fin 64) (portB : Bool)
  /-- BM_FILL_DONE (R154). -/
  | bmFillDone (region : Region)
  /-- SLICE_OPERAND_SET (R166). -/
  | sliceOperandSet (region : Region) (slice : Fin 48) (ce : Bool) (operands : OperandSet)
  /-- SLICE_ACCUMULATE (R170). -/
  | sliceAccumulate (region : Region) (slice : Fin 48) (ce : Bool)
  /-- SLICE_STORE (R171). -/
  | sliceStore (region : Region) (slice : Fin 48) (ce : Bool)
  /-- SWITCH (R173). -/
  | switchBank (region : Region) (slice : Fin 48) (ce : Bool) (bsel : Fin 4)
  /-- AG_ADV (R177). -/
  | agAdv (region : Region) (slice : Fin 48) (ce : Bool)
  /-- AG_WE (R178). -/
  | agWe (region : Region) (slice : Fin 48) (ce : Bool) (set : Fin 4) (reg : Fin 4) (data : BitVec 16)
  /-- AG_APPLY (R179). -/
  | agApply (region : Region) (slice : Fin 48) (ce : Bool)
  /-- ROOT_LOCK (R186). -/
  | rootLock
  /-- ROOT_LOSS (R195). -/
  | rootLoss (clockGood : Bool)
  /-- ROOT_RETURN (R196). -/
  | rootReturn
  /-- LEVEL_SWITCH (R190). -/
  | levelSwitch
  /-- APPLY (R200). -/
  | apply (who : Who) (synth : Fin 16)
  /-- FS_APPLY_MEASURED (R200). -/
  | fsApplyMeasured (synth : Fin 16) (present : Bool) (khz : Nat)
  /-- FS_LOCK (R200). -/
  | fsLock (synth : Fin 16)
  /-- FS_LOL (R201). -/
  | fsLol (synth : Fin 16) (drift : Bool) (written : List (Fin 32))
  /-- FS_INPUT_RETURN (R201). -/
  | fsInputReturn (synth : Fin 16)
  /-- FS_OUT_EN_WRITE (R200). -/
  | fsOutEnWrite (who : Who) (synth : Fin 16) (outputs : BitVec 4)
  /-- GCK_SEL_WRITE (R202). -/
  | gckSelWrite (who : Who) (buffer : Fin 32) (value : Word)
  /-- GCK_SWITCH_DONE (R202). -/
  | gckSwitchDone (buffer : Fin 32)
  /-- RING_CTL_WRITE (R198). -/
  | ringCtlWrite (who : Who) (ring : Fin 4) (value : Word)
  /-- RING_MEASURE (R198). -/
  | ringMeasure (ring : Fin 4) (mhz : Nat)
  /-- LOAD (R218). -/
  | load (who : Who) (region : Region)
  /-- SWAP (R219). -/
  | swap (who : Who) (region : Region)
  /-- SWAP_EDGE (R221). -/
  | swapEdge (region : Region) (cd48 : Nat)
  /-- RELEASE (R223). -/
  | release (region : Region)
  /-- ABORT (R216). -/
  | abort (who : Who) (region : Region)
  /-- DISCARD (R217). -/
  | discard (who : Who) (region : Region)
  /-- RETIRE (R227). -/
  | retire (who : Who) (region : Region)
  /-- HLOAD (R521). -/
  | hload (who : Who)
  /-- HABORT (R260). -/
  | habort (who : Who)
  /-- SEGMENT_PROCESS (R248). -/
  | segmentProcess (stream : List (Nat × List Byte))
  /-- SEAL_CHECK (R249). -/
  | sealCheck (stream : List (Nat × List Byte))
  /-- STARTUP_LOADER_ATTEMPT (R254). -/
  | startupLoaderAttempt (stream : Option (List (Nat × List Byte)))
  /-- LOADER_ATTEMPT_FAIL (R256). -/
  | loaderAttemptFail
  /-- LOADER_BACKOFF_EXPIRY (R256). -/
  | loaderBackoffExpiry
  /-- STREAM (R255). -/
  | stream
  /-- STREAM_RESPONSE (R255). -/
  | streamResponse (mac : BitVec 48) (seq : BitVec 32) (code : Code) (more : Bool) (data : List Byte)
  /-- STREAM_RESEND_EXPIRY (R255). -/
  | streamResendExpiry (seq : BitVec 32)
  /-- BOOT_LINK_WAIT_EXPIRY (R255). -/
  | bootLinkWaitExpiry
  /-- SEC_KEY_DATA_WRITE (R245). -/
  | secKeyDataWrite (who : Who) (word : Fin 16) (value : Word)
  /-- FUSE_KEY_PROGRAM (R246). -/
  | fuseKeyProgram (who : Who)
  /-- BBRAM_WRITE (R246). -/
  | bbramWrite (who : Who)
  /-- BBRAM_ZERO (R246). -/
  | bbramZero (who : Who)
  /-- SLOT_PROGRAM (R246). -/
  | slotProgram (who : Who) (slot : Fin 4)
  /-- SLOT_REVOKE (R246). -/
  | slotRevoke (who : Who) (slot : Fin 4)
  /-- SEC_CMD_DONE (R246). -/
  | secCmdDone
  /-- SCRUB_SLOT (R267). -/
  | scrubSlot (upsets : List (Nat × Fin 4192)) (edge : Bool)
  /-- SCRUB_REREAD (R271). -/
  | scrubReread (upsets : List (Nat × Fin 4192))
  /-- SCRUB_PASS_END (R269). -/
  | scrubPassEnd
  /-- FULL_NOW (R280). -/
  | fullNow (who : Who)
  /-- GOLDEN_BUILD (R274). -/
  | goldenBuild
  /-- GOLDEN_BUILD_DONE (R274). -/
  | goldenBuildDone
  /-- BM_SCRUB_READ (R289). -/
  | bmScrubRead (block : Fin 8192) (flips : List (Nat × BitVec 13))
  /-- SCRUB_STARVED (R289). -/
  | scrubStarved (unit : MemUnit)
  /-- DRAM_SCRUB_READ (R290). -/
  | dramScrubRead (channel : Fin 32) (flips : List (Nat × BitVec 13))
  /-- VERIFY_READ (R295). -/
  | verifyRead (flips : List (Nat × BitVec 13))
  /-- CH_RETIRE (R297). -/
  | chRetire (who : Who) (channel : Fin 32)
  /-- INT_ATTACHMENT_EVENT (R293). -/
  | intAttachmentEvent (region : Region)
  /-- START (R299). -/
  | start (who : Who)
  /-- MARCH_ACCESS (R298). -/
  | marchAccess (flips : List (Nat × BitVec 13))
  /-- MARCH_DONE (R301). -/
  | marchDone
  /-- MARCH_ABORT (R301). -/
  | marchAbort (who : Who)
  /-- WRITE_RAW (R302). -/
  | writeRaw (who : Who)
  /-- READ_RAW (R302). -/
  | readRaw (who : Who)
  /-- LOG_POP (R304). -/
  | logPop (who : Who)
  /-- NI_REQUEST (R311). -/
  | niRequest (ni : Fin 170) (packet : Pkt) (taken : Nat) (last : Bool)
  /-- GT_SLOT_INJECT (R320). -/
  | gtSlotInject (ni : Fin 170)
  /-- TOKEN_REFILL (R322). -/
  | tokenRefill (ni : Fin 170)
  /-- WAYSTATION_HOP (R314). -/
  | waystationHop (station : Fin 192) (input : Fin 5) (vc : Fin 4) (flips : List (Nat × BitVec 13))
  /-- RD (R310). -/
  | rd (ni : Fin 170) (answer : FabricAnswer)
  /-- WR (R310). -/
  | wr (ni : Fin 170) (answer : FabricAnswer)
  /-- WRA (R310). -/
  | wra (ni : Fin 170) (answer : FabricAnswer)
  /-- ATOM (R326). -/
  | atom (ni : Fin 170) (answer : FabricAnswer)
  /-- MSG (R310). -/
  | msg (ni : Fin 170) (answer : FabricAnswer)
  /-- WAKE (R411). -/
  | wake (ni : Fin 170)
  /-- FENCE_PACKET (R325). -/
  | fencePacket (ni : Fin 170) (user : BitVec 48)
  /-- FENCE_PACKET_COMPLETE (R35). -/
  | fencePacketComplete (ni : Fin 170)
  /-- RSP (R324). -/
  | rsp (ni : Fin 170) (taken : Nat)
  /-- NI_TIMEOUT (R324). -/
  | niTimeout (ni : Fin 170) (tag : Fin 4096)
  /-- FENCE_GUARD_REQUEST (R332). -/
  | fenceGuardRequest (ni : Fin 170)
  /-- EPOCH (R328). -/
  | epoch (who : Who)
  /-- EPOCH_TAKES_EFFECT (R328). -/
  | epochTakesEffect
  /-- GT_QUIET_END (R329). -/
  | gtQuietEnd
  /-- OLD_EPOCH_DRAINED (R330). -/
  | oldEpochDrained
  /-- OLD_REQUEST_EXPIRY (R330). -/
  | oldRequestExpiry (ni : Fin 170)
  /-- RB_WRITE (R315). -/
  | rbWrite (who : Who)
  /-- RB_READ (R335). -/
  | rbRead (who : Who)
  /-- RB_COPY (R335). -/
  | rbCopy (who : Who)
  /-- ST_WRITE (R335). -/
  | stWrite (who : Who)
  /-- ST_READ (R335). -/
  | stRead (who : Who)
  /-- DRAM_REQ_ENQUEUE (R345). -/
  | dramReqEnqueue (channel : Fin 32)
  /-- DRAM_COMMAND_ISSUE (R349). -/
  | dramCommandIssue (channel : Fin 32) (ready : BitVec 32)
  /-- DRAM_RESPONSE (R346). -/
  | dramResponse (channel : Fin 32) (age : Nat)
  /-- URGENCY_RISE (R348). -/
  | urgencyRise (channel : Fin 32) (request : Nat)
  /-- REFRESH_DUE (R351). -/
  | refreshDue (channel : Fin 32)
  /-- REFRESH_FORCED (R351). -/
  | refreshForced (channel : Fin 32)
  /-- DRAM_TEMP_READ (R352). -/
  | dramTempRead (stack : Fin 2) (t0 : BitVec 8) (t1 : BitVec 8) (t2 : BitVec 8) (t3 : BitVec 8)
  /-- DELAY_MOVE (R354). -/
  | delayMove (channel : Fin 32)
  /-- BRINGUP (R355). -/
  | bringup (who : Who) (channel : Fin 32)
  /-- BRINGUP_DONE (R355). -/
  | bringupDone (channel : Fin 32) (mismatch : Bool)
  /-- LP_REQUEST (R367). -/
  | lpRequest (region : Region) (request : LookupReq)
  /-- LOOKUP (R368). -/
  | lookup (engine : Fin 4)
  /-- ADD (R368). -/
  | add (engine : Fin 4)
  /-- SEQ (R368). -/
  | seq (engine : Fin 4)
  /-- SET (R368). -/
  | set (engine : Fin 4)
  /-- CAS (R368). -/
  | cas (engine : Fin 4)
  /-- CTX_REFILL (R366). -/
  | ctxRefill
  /-- INIT (R364). -/
  | init (who : Who)
  /-- INIT_DONE (R364). -/
  | initDone
  /-- CREATE (R372). -/
  | create (who : Who)
  /-- DELETE (R372). -/
  | delete (who : Who)
  /-- REKEY (R372). -/
  | rekey (who : Who)
  /-- CTX_READ (R372). -/
  | ctxRead (who : Who)
  /-- COMMIT (R373). -/
  | commit (who : Who)
  /-- COMMIT_TAKES_EFFECT (R373). -/
  | commitTakesEffect
  /-- CLEANUP_DONE (R373). -/
  | cleanupDone
  /-- CTX_DISCARD (R373). -/
  | ctxDiscard (who : Who)
  /-- SWEEP (R374). -/
  | sweep (who : Who)
  /-- SWEEP_DONE (R374). -/
  | sweepDone
  /-- CTX_ABORT (R374). -/
  | ctxAbort (who : Who)
  /-- ENG_RETIRE (R375). -/
  | engRetire (who : Who) (mask : BitVec 4)
  /-- ENGINE_MISMATCH (R375). -/
  | engineMismatch (engine : Fin 4)
  /-- LANE_EN_WRITE (R383). -/
  | laneEnWrite (who : Who) (lane : LaneId) (value : Word)
  /-- APPLY_A (R381). -/
  | applyA (who : Who) (quad : Fin 32)
  /-- APPLY_B (R381). -/
  | applyB (who : Who) (quad : Fin 32)
  /-- LANE_PLL_SETTLED (R383). -/
  | lanePllSettled (lane : LaneId)
  /-- LANE_SIGNAL_DETECT (R383). -/
  | laneSignalDetect (lane : LaneId)
  /-- LOS (R383). -/
  | los (lane : LaneId) (acq : Bool)
  /-- EQF_UPDATE (R384). -/
  | eqfUpdate (lane : LaneId) (eyes : Fin 4097 × Fin 4097 × Fin 4097)
  /-- ADAPT_STEP (R385). -/
  | adaptStep (lane : LaneId) (tap : Fin 25) (up : Bool)
  /-- ACQ_FAIL (R383). -/
  | acqFail (lane : LaneId)
  /-- EQF_LOW (R383). -/
  | eqfLow (lane : LaneId)
  /-- FREEZE (R383). -/
  | freeze (who : Who) (lane : LaneId) (on : Bool)
  /-- RESTART (R383). -/
  | restart (who : Who) (lane : LaneId)
  /-- LANE_RETIRE (R395). -/
  | laneRetire (who : Who) (lane : LaneId)
  /-- CODEWORD_ALIGN (R387). -/
  | codewordAlign (lane : LaneId) (errors : Nat) (kind : Fin 3)
  /-- LANE_RX_WORD (R390). -/
  | laneRxWord (lane : LaneId) (word : LaneWord) (taken : Nat) (errors : Nat) (flips : List (Nat × BitVec 13))
  /-- LANE_TX_WORD (R390). -/
  | laneTxWord (lane : LaneId) (offered : List LaneWord) (flips : List (Nat × BitVec 13))
  /-- SLIP (R394). -/
  | slip (who : Who) (lane : LaneId)
  /-- SLIP_DONE (R394). -/
  | slipDone (lane : LaneId)
  /-- PAT_CTL_WRITE (R392). -/
  | patCtlWrite (who : Who) (lane : LaneId) (value : Word)
  /-- CHK_LOCK (R392). -/
  | chkLock (lane : LaneId)
  /-- GO (R393). -/
  | go (who : Who) (lane : LaneId)
  /-- INJECTION_DONE (R393). -/
  | injectionDone (lane : LaneId)
  /-- DOM_GO (R404). -/
  | domGo (who : Who) (domain : Fin 256) (target : BitVec 2) (fires : BitVec 2) (swap : Bool)
  /-- DRAIN_COMPLETE (R405). -/
  | drainComplete (domain : Fin 256)
  /-- DOMAIN_STATE_REACHED (R405). -/
  | domainStateReached (domain : Fin 256)
  /-- DRAIN_TIMEOUT (R406). -/
  | drainTimeout (domain : Fin 256)
  /-- DOMAIN_WAKE (R407). -/
  | domainWake (domain : Fin 256)
  /-- DOMAIN_WAKE_DONE (R407). -/
  | domainWakeDone (domain : Fin 256)
  /-- WAKE_TIMER (R409). -/
  | wakeTimer (domain : Fin 256)
  /-- WAKE_SIGNAL (R409). -/
  | wakeSignal (domain : Fin 256)
  /-- LEVEL_REQ (R413). -/
  | levelReq (who : Who) (level : BitVec 3)
  /-- AVS_WRITE (R414). -/
  | avsWrite (good : Bool)
  /-- AVS_STATUS_READ (R414). -/
  | avsStatusRead (vdone : Bool)
  /-- AVS_FAULT (R415). -/
  | avsFault
  /-- VINT_UPDATE (R416). -/
  | vintUpdate (margin : Nat)
  /-- VTIER_WRITE (R416). -/
  | vtierWrite (who : Who) (tier : BitVec 2)
  /-- GOVERNOR_DECISION (R417). -/
  | governorDecision (utilization : Nat) (full : Bool)
  /-- LOCKSTEP_MISMATCH (R422). -/
  | lockstepMismatch
  /-- SOFT_RESET (R423). -/
  | softReset (who : Who)
  /-- EXCEPTION_ENTRY (R428). -/
  | exceptionEntry (cause : Fin 8) (code : Fin 16) (addr : Word)
  /-- TIMER_CMP_MATCH (R427). -/
  | timerCmpMatch
  /-- ADD_INSN (R426). -/
  | addInsn (rd : Fin 16) (ra : Fin 16) (rb : Fin 16)
  /-- SUB (R426). -/
  | sub (rd : Fin 16) (ra : Fin 16) (rb : Fin 16)
  /-- AND (R426). -/
  | and (rd : Fin 16) (ra : Fin 16) (rb : Fin 16)
  /-- OR (R426). -/
  | or (rd : Fin 16) (ra : Fin 16) (rb : Fin 16)
  /-- XOR (R426). -/
  | xor (rd : Fin 16) (ra : Fin 16) (rb : Fin 16)
  /-- SLL (R426). -/
  | sll (rd : Fin 16) (ra : Fin 16) (rb : Fin 16)
  /-- SRL (R426). -/
  | srl (rd : Fin 16) (ra : Fin 16) (rb : Fin 16)
  /-- SRA (R426). -/
  | sra (rd : Fin 16) (ra : Fin 16) (rb : Fin 16)
  /-- SLT (R426). -/
  | slt (rd : Fin 16) (ra : Fin 16) (rb : Fin 16)
  /-- SLTU (R426). -/
  | sltu (rd : Fin 16) (ra : Fin 16) (rb : Fin 16)
  /-- MUL (R426). -/
  | mul (rd : Fin 16) (ra : Fin 16) (rb : Fin 16)
  /-- MULH (R426). -/
  | mulh (rd : Fin 16) (ra : Fin 16) (rb : Fin 16)
  /-- DIV (R426). -/
  | div (rd : Fin 16) (ra : Fin 16) (rb : Fin 16)
  /-- DIVU (R426). -/
  | divu (rd : Fin 16) (ra : Fin 16) (rb : Fin 16)
  /-- JR (R426). -/
  | jr (ra : Fin 16)
  /-- JRL (R426). -/
  | jrl (ra : Fin 16)
  /-- RET (R426). -/
  | ret
  /-- ADDI (R426). -/
  | addi (rd : Fin 16) (ra : Fin 16) (imm : BitVec 18)
  /-- ANDI (R426). -/
  | andi (rd : Fin 16) (ra : Fin 16) (imm : BitVec 18)
  /-- ORI (R426). -/
  | ori (rd : Fin 16) (ra : Fin 16) (imm : BitVec 18)
  /-- XORI (R426). -/
  | xori (rd : Fin 16) (ra : Fin 16) (imm : BitVec 18)
  /-- SLLI (R426). -/
  | slli (rd : Fin 16) (ra : Fin 16) (imm : BitVec 18)
  /-- SRLI (R426). -/
  | srli (rd : Fin 16) (ra : Fin 16) (imm : BitVec 18)
  /-- SRAI (R426). -/
  | srai (rd : Fin 16) (ra : Fin 16) (imm : BitVec 18)
  /-- LUI (R426). -/
  | lui (rd : Fin 16) (imm : BitVec 18)
  /-- LDW (R426). -/
  | ldw (rd : Fin 16) (ra : Fin 16) (imm : BitVec 18)
  /-- LDH (R426). -/
  | ldh (rd : Fin 16) (ra : Fin 16) (imm : BitVec 18)
  /-- LDHU (R426). -/
  | ldhu (rd : Fin 16) (ra : Fin 16) (imm : BitVec 18)
  /-- LDB (R426). -/
  | ldb (rd : Fin 16) (ra : Fin 16) (imm : BitVec 18)
  /-- LDBU (R426). -/
  | ldbu (rd : Fin 16) (ra : Fin 16) (imm : BitVec 18)
  /-- STW (R426). -/
  | stw (rd : Fin 16) (ra : Fin 16) (imm : BitVec 18)
  /-- STH (R426). -/
  | sth (rd : Fin 16) (ra : Fin 16) (imm : BitVec 18)
  /-- STB (R426). -/
  | stb (rd : Fin 16) (ra : Fin 16) (imm : BitVec 18)
  /-- RSV (R434). -/
  | rsv (rd : Fin 16) (ra : Fin 16) (imm : BitVec 18)
  /-- CMT (R434). -/
  | cmt (rd : Fin 16) (ra : Fin 16) (imm : BitVec 18)
  /-- SWP (R436). -/
  | swp (rd : Fin 16) (ra : Fin 16) (imm : BitVec 18)
  /-- B (R426). -/
  | b (cond : Fin 7) (ra : Fin 16) (off : BitVec 18)
  /-- J (R426). -/
  | j (off : BitVec 26)
  /-- JL (R426). -/
  | jl (off : BitVec 26)
  /-- MFC (R427). -/
  | mfc (rd : Fin 16) (num : BitVec 12)
  /-- MTC (R427). -/
  | mtc (num : BitVec 12) (ra : Fin 16)
  /-- MSET (R427). -/
  | mset (num : BitVec 12) (ra : Fin 16)
  /-- MCLR (R427). -/
  | mclr (num : BitVec 12) (ra : Fin 16)
  /-- FENCE (R433). -/
  | fence
  /-- BRK (R452). -/
  | brk
  /-- WAIT (R429). -/
  | wait
  /-- RTE (R428). -/
  | rte
  /-- MP_NETWORK_LOAD_DONE (R432). -/
  | mpNetworkLoadDone
  /-- PATCH_WRITE (R437). -/
  | patchWrite (who : Who) (unit : Fin 16) (reg : Fin 3) (value : Word)
  /-- ERASE (R438). -/
  | erase (who : Who)
  /-- PROGRAM (R438). -/
  | program (who : Who)
  /-- FLASH_DONE (R438). -/
  | flashDone
  /-- UART_TXD (R446). -/
  | uartTxd (who : Who) (uart : Fin 4) (data : Byte)
  /-- UART_RXD (R446). -/
  | uartRxd (who : Who) (uart : Fin 4)
  /-- UART_RX_BYTE (R443). -/
  | uartRxByte (uart : Fin 4) (data : Byte) (frameErr : Bool) (parityErr : Bool)
  /-- I2C_GO (R446). -/
  | i2cGo (who : Who) (port : Fin 4)
  /-- SPI_GO (R446). -/
  | spiGo (who : Who) (port : Fin 2)
  /-- XSPI_GO (R444). -/
  | xspiGo (who : Who)
  /-- MDIO_GO (R446). -/
  | mdioGo (who : Who) (port : Fin 2)
  /-- SERIAL_TRANSFER_DONE (R446). -/
  | serialTransferDone (port : Serial) (rx : List Byte) (status : BitVec 4)
  /-- TAP_RESET (R449). -/
  | tapReset
  /-- EXTEST (R450). -/
  | extest
  /-- SAMPLE_PRELOAD (R449). -/
  | samplePreload (preload : List (Nat × BitVec 2))
  /-- IDCODE (R449). -/
  | idcode
  /-- HIGHZ (R450). -/
  | highz
  /-- CLAMP (R450). -/
  | clamp
  /-- DBGACC (R451). -/
  | dbgacc
  /-- BYPASS (R449). -/
  | bypass
  /-- TAP_LEAVE_BOUNDARY (R450). -/
  | tapLeaveBoundary
  /-- DBGACC_ACCESS (R451). -/
  | dbgaccAccess (dr : BitVec 64)
  /-- HALT (R452). -/
  | halt (who : Who) (expiry : Bool)
  /-- HALT_ENTERED (R453). -/
  | haltEntered
  /-- RESUME (R455). -/
  | resume (who : Who)
  /-- STEP (R455). -/
  | step (who : Who)
  /-- DINSTR_GO (R455). -/
  | dinstrGo (who : Who)
  /-- DBG_RESET (R456). -/
  | dbgReset (who : Who)
  /-- DBM_GO (R457). -/
  | dbmGo (who : Who)
  /-- DBM_RESPONSE (R457). -/
  | dbmResponse
  /-- KICK (R458). -/
  | kick (who : Who) (expiry : Bool)
  /-- WDT_CTL_WRITE (R458). -/
  | wdtCtlWrite (who : Who) (value : Word)
  /-- BARK (R459). -/
  | bark
  /-- BITE (R459). -/
  | bite
  /-- HELLO_SEND (R465). -/
  | helloSend
  /-- PACK_ENABLE (R465). -/
  | packEnable (who : Who)
  /-- PACK_JOIN_TIMEOUT (R466). -/
  | packJoinTimeout
  /-- MEMBER_UNREACHABLE (R465). -/
  | memberUnreachable (member : Fin 4096)
  /-- PACK_STATE_JUDGE (R470). -/
  | packStateJudge (dupGone : Bool) (longGone : Bool)
  /-- PERSONA_DIGEST_RECOMPUTE (R468). -/
  | personaDigestRecompute
  /-- SYNC_RECEIVED (R471). -/
  | syncReceived (offset : Int)
  /-- SYNC_SEND (R471). -/
  | syncSend
  /-- SYNC_TIMEOUT (R472). -/
  | syncTimeout
  /-- ARRIVAL_RESEND_EXPIRY (R474). -/
  | arrivalResendExpiry
  /-- ARRIVE (R475). -/
  | arrive (req : WbReq)
  /-- PACK_BARRIER_TIMEOUT (R475). -/
  | packBarrierTimeout (bid : BitVec 32)
  /-- RELEASE_RESEND_EXPIRY (R475). -/
  | releaseResendExpiry (bid : BitVec 32)
  /-- PACK_RELEASE_TIME (R477). -/
  | packReleaseTime
  /-- VAUX_FALL (R499). -/
  | vauxFall
  /-- ACTIVE_CLOCK_EDGE (R105). -/
  | activeClockEdge (net : Net) (falling : Bool) (samples : List IoSample) (hazards : List Nat)
  /-- ASYNC_SET_RESET (R105). -/
  | asyncSetReset (region : Region) (cluster : Fin 4096) (line : Fin 2)
  /-- OP_DONE (R372). -/
  | opDone
  /-- CT_DONE (R302). -/
  | ctDone
  /-- TGT_REQ (R443). -/
  | tgtReq (port : Fin 4)
  /-- ARRIVAL_ANSWER_RECEIVED (R474). -/
  | arrivalAnswerReceived (code : Code)
  /-- DISCOVER_ANSWER_RECEIVED (R465). -/
  | discoverAnswerReceived (mac : BitVec 48) (port : Fin 2) (seq : BitVec 32) (payload : List Byte)
deriving DecidableEq, Repr

end Sys2Proof
end

