-- ==== Sys2Proof/Decode.lean ====
section
/-! DEFINITION. The commands that words spell. No row of spec/opcode_table.json gives bits: a command reaches the
device as a register access, a message, a packet, a pin or an event, and none of them is a word of an
instruction set of the device. So no word spells a command here. The instruction words of the management
processor (R425) are memory contents, which the model decodes where the core fetches them
(`Dev.mpDecode`). -/

namespace Sys2Proof

/-- The command that `w` spells by the table's bits: none, as no row gives any. -/
def decodeTableWord (_nbits _w : Nat) : Option Instr := none

end Sys2Proof
end

