-- ==== Sys2Proof/Config.lean ====
section
/-! DEFINITION. What the spec leaves open. Each constant is opaque: nothing in Lean can evaluate it
or prove a value of it, so a claim holds whatever it is. The assumption log names each one. -/

namespace Sys2Proof.Config

/-- A free value: what the spec leaves undetermined, one fresh number per draw (log 3). -/
opaque freeNat : Nat → Nat

/-- A free bit (log 3). -/
opaque freeBit : Nat → Bool

/-- What a combinational loop of the fabric settles to: the spec gives no value (log 10). -/
opaque loopBit : Nat → Bool

/-- Which of the wires of one number and length that end at a region's last cluster is read there:
the spec shortens them all to end there and does not say (log 11). -/
opaque shortWire : Nat → Nat → Nat → Nat

/-- The bytes of the boot ROM, which the spec does not list (log 13). -/
opaque bootRom : Nat → BitVec 8

/-- The factory delay of DQ line `j` of channel `k` in the fuse array, in taps (R353): a value of each
device (log 18). -/
opaque fuseDelay : Nat → Nat → BitVec 7

/-- The offset for band `i` in the temperature table of stack `s` in the fuse array (R353): a value of each
device (log 18). -/
opaque fuseTemp : Nat → Nat → BitVec 8

end Sys2Proof.Config
end

