-- ==== Sys2Proof/Machine/Fields.lean ====
section
/-! DEFINITION. The registers and fields of the CSR space by name, with their offsets (R41) and the
index of their dictionary alias (R42), from the register tables of the chapters. -/

namespace Sys2Proof.Machine.Reg

/-- The offset of register PORT_CTL. -/
def PORT_CTL (i : Nat) : Nat := 0xC0000 + i * 0x1000
def PORT_CTL_MODE (i : Nat) : Fld := ⟨PORT_CTL i, 0, 2, true, 0x5800 + i⟩
def PORT_CTL_ENABLE (i : Nat) : Fld := ⟨PORT_CTL i, 2, 1, false, 0x5800 + i⟩
def PORT_CTL_AN_EN (i : Nat) : Fld := ⟨PORT_CTL i, 3, 1, false, 0x5800 + i⟩
def PORT_CTL_PAUSE_EN (i : Nat) : Fld := ⟨PORT_CTL i, 4, 1, false, 0x5800 + i⟩
def PORT_CTL_PFC_EN (i : Nat) : Fld := ⟨PORT_CTL i, 5, 8, false, 0x5800 + i⟩
def PORT_CTL_WB_PRIO (i : Nat) : Fld := ⟨PORT_CTL i, 13, 3, false, 0x5800 + i⟩
def PORT_CTL_MAX_FRAME (i : Nat) : Fld := ⟨PORT_CTL i, 16, 14, false, 0x5800 + i⟩
def PORT_CTL_TS_ONESTEP (i : Nat) : Fld := ⟨PORT_CTL i, 30, 1, false, 0x5800 + i⟩

/-- The offset of register PORT_STS. -/
def PORT_STS (i : Nat) : Nat := 0xC0004 + i * 0x1000
def PORT_STS_LINK_UP (i : Nat) : Fld := ⟨PORT_STS i, 0, 1, false, 0x5800 + i⟩
def PORT_STS_KR1_ACTIVE (i : Nat) : Fld := ⟨PORT_STS i, 1, 1, false, 0x5800 + i⟩
def PORT_STS_LANE_OK (i : Nat) : Fld := ⟨PORT_STS i, 2, 4, false, 0x5800 + i⟩

/-- The offset of register PORT_EVT. -/
def PORT_EVT (i : Nat) : Nat := 0xC0008 + i * 0x1000
def PORT_EVT_LINK_DOWN (i : Nat) : Fld := ⟨PORT_EVT i, 0, 1, false, 0x5800 + i⟩
def PORT_EVT_LINK_RISE (i : Nat) : Fld := ⟨PORT_EVT i, 1, 1, false, 0x5800 + i⟩
def PORT_EVT_OVERSIZE (i : Nat) : Fld := ⟨PORT_EVT i, 2, 1, false, 0x5800 + i⟩
def PORT_EVT_FEC_UNCORR (i : Nat) : Fld := ⟨PORT_EVT i, 3, 1, false, 0x5800 + i⟩
def PORT_EVT_RX_OVERFLOW (i : Nat) : Fld := ⟨PORT_EVT i, 4, 1, false, 0x5800 + i⟩
def PORT_EVT_RUNT (i : Nat) : Fld := ⟨PORT_EVT i, 5, 1, false, 0x5800 + i⟩
def PORT_EVT_WB_BAD_FCS (i : Nat) : Fld := ⟨PORT_EVT i, 6, 1, false, 0x5800 + i⟩

/-- The offset of register PORT_CNT. -/
def PORT_CNT (i : Nat) : Nat := 0xC000C + i * 0x1000
def PORT_CNT_RUNT_CNT (i : Nat) : Fld := ⟨PORT_CNT i, 0, 8, false, 0x5800 + i⟩
def PORT_CNT_OVERSIZE_CNT (i : Nat) : Fld := ⟨PORT_CNT i, 8, 8, false, 0x5800 + i⟩
def PORT_CNT_WB_FCS_CNT (i : Nat) : Fld := ⟨PORT_CNT i, 16, 8, false, 0x5800 + i⟩
def PORT_CNT_RX_DROP_CNT (i : Nat) : Fld := ⟨PORT_CNT i, 24, 8, false, 0x5800 + i⟩

/-- The offset of register WB_CTL. -/
def WB_CTL : Nat := 0xC2000
def WB_CTL_L2_EN : Fld := ⟨WB_CTL, 0, 1, false, 0x1010⟩
def WB_CTL_UDP_EN : Fld := ⟨WB_CTL, 1, 1, false, 0x1010⟩
def WB_CTL_WB_UDP_PORT : Fld := ⟨WB_CTL, 16, 16, true, 0x1010⟩

/-- The offset of register WB_DROP. -/
def WB_DROP : Nat := 0xC2004
def WB_DROP_BAD_VERSION : Fld := ⟨WB_DROP, 0, 8, false, 0x1010⟩
def WB_DROP_WRONG_PACK : Fld := ⟨WB_DROP, 8, 8, false, 0x1010⟩
def WB_DROP_WRONG_MEMBER : Fld := ⟨WB_DROP, 16, 8, false, 0x1010⟩
def WB_DROP_QUEUE_FULL : Fld := ⟨WB_DROP, 24, 8, false, 0x1010⟩

/-- The offset of register DEV_IDCODE. -/
def DEV_IDCODE : Nat := 0x0
def DEV_IDCODE_IDCODE : Fld := ⟨DEV_IDCODE, 0, 32, false, 0x1100⟩

/-- The offset of register DEV_STEP. -/
def DEV_STEP : Nat := 0x4
def DEV_STEP_STEP_LETTER : Fld := ⟨DEV_STEP, 0, 8, false, 0x1100⟩
def DEV_STEP_STEP_DIGIT : Fld := ⟨DEV_STEP, 8, 8, false, 0x1100⟩

/-- The offset of register UNLOCK_KEY. -/
def UNLOCK_KEY : Nat := 0x10
def UNLOCK_KEY_KEY : Fld := ⟨UNLOCK_KEY, 0, 16, false, 0x1F00⟩

/-- The offset of register SNAP_CTL. -/
def SNAP_CTL : Nat := 0x20
def SNAP_CTL_SNAP : Fld := ⟨SNAP_CTL, 0, 1, false, 0x1F10⟩

/-- The offset of register SNAP_STS. -/
def SNAP_STS : Nat := 0x24
def SNAP_STS_SNAP_SEQ : Fld := ⟨SNAP_STS, 0, 16, false, 0x1F10⟩
def SNAP_STS_SNAP_BUSY : Fld := ⟨SNAP_STS, 16, 1, false, 0x1F10⟩

/-- The offset of register SNAP_TIME. -/
def SNAP_TIME (i : Nat) : Nat := 0x28 + i * 0x4
def SNAP_TIME_WORD (i : Nat) : Fld := ⟨SNAP_TIME i, 0, 32, false, 0x1F10⟩

/-- The offset of register FAULT_EVT. -/
def FAULT_EVT : Nat := 0x30
def FAULT_EVT_PARITY_FAULT : Fld := ⟨FAULT_EVT, 0, 1, false, 0x1F30⟩
def FAULT_EVT_TMR_FIX : Fld := ⟨FAULT_EVT, 1, 1, false, 0x1F30⟩
def FAULT_EVT_SNAP_DONE : Fld := ⟨FAULT_EVT, 2, 1, false, 0x1F30⟩

/-- The offset of register PARITY_ADDR. -/
def PARITY_ADDR : Nat := 0x34
def PARITY_ADDR_OFFSET : Fld := ⟨PARITY_ADDR, 0, 24, false, 0x1F30⟩
def PARITY_ADDR_VALID : Fld := ⟨PARITY_ADDR, 31, 1, false, 0x1F30⟩

/-- The offset of register TMR_ADDR. -/
def TMR_ADDR : Nat := 0x38
def TMR_ADDR_OFFSET : Fld := ⟨TMR_ADDR, 0, 24, false, 0x1F30⟩
def TMR_ADDR_VALID : Fld := ⟨TMR_ADDR, 31, 1, false, 0x1F30⟩

/-- The offset of register FAULT_CNT. -/
def FAULT_CNT : Nat := 0x3C
def FAULT_CNT_PARITY_CNT : Fld := ⟨FAULT_CNT, 0, 16, false, 0x1F30⟩
def FAULT_CNT_TMR_FIX_CNT : Fld := ⟨FAULT_CNT, 16, 16, false, 0x1F30⟩

/-- The offset of register FF_CTL. -/
def FF_CTL (i : Nat) : Nat := 0x100100 + i * 0x10000
def FF_CTL_REINIT (i : Nat) : Fld := ⟨FF_CTL i, 0, 1, true, 0x3C00 + i⟩

/-- The offset of register FF_STS. -/
def FF_STS (i : Nat) : Nat := 0x100104 + i * 0x10000
def FF_STS_HOLD (i : Nat) : Fld := ⟨FF_STS i, 0, 1, false, 0x3C00 + i⟩
def FF_STS_REINIT_BUSY (i : Nat) : Fld := ⟨FF_STS i, 1, 1, false, 0x3C00 + i⟩

/-- The offset of register FF_EVT. -/
def FF_EVT (i : Nat) : Nat := 0x100108 + i * 0x10000
def FF_EVT_REINIT_DONE (i : Nat) : Fld := ⟨FF_EVT i, 0, 1, false, 0x3C00 + i⟩

/-- The offset of register ROUTE_EVT. -/
def ROUTE_EVT (i : Nat) : Nat := 0x100200 + i * 0x10000
def ROUTE_EVT_TRUNK_CONTEND (i : Nat) : Fld := ⟨ROUTE_EVT i, 0, 1, false, 0x3D00 + i⟩
def ROUTE_EVT_TRUNK_CLEAR (i : Nat) : Fld := ⟨ROUTE_EVT i, 1, 1, false, 0x3D00 + i⟩

/-- The offset of register ROUTE_STS. -/
def ROUTE_STS (i : Nat) : Nat := 0x100204 + i * 0x10000
def ROUTE_STS_LAST_TRUNK (i : Nat) : Fld := ⟨ROUTE_STS i, 0, 9, false, 0x3D00 + i⟩
def ROUTE_STS_DISABLED (i : Nat) : Fld := ⟨ROUTE_STS i, 16, 10, false, 0x3D00 + i⟩

/-- The offset of register ROUTE_CNT. -/
def ROUTE_CNT (i : Nat) : Nat := 0x100208 + i * 0x10000
def ROUTE_CNT_CONTEND_CNT (i : Nat) : Fld := ⟨ROUTE_CNT i, 0, 16, false, 0x3D00 + i⟩

/-- The offset of register BORDER_CTL. -/
def BORDER_CTL (i : Nat) : Nat := 0x100300 + i * 0x10000
def BORDER_CTL_FORCE (i : Nat) : Fld := ⟨BORDER_CTL i, 0, 4, true, 0x3D00 + i⟩

/-- The offset of register BORDER_STS. -/
def BORDER_STS (i : Nat) : Nat := 0x100304 + i * 0x10000
def BORDER_STS_GATED (i : Nat) : Fld := ⟨BORDER_STS i, 0, 4, false, 0x3D00 + i⟩

/-- The offset of register IO_IN. -/
def IO_IN (i j : Nat) : Nat := 0x100400 + i * 0x10000 + j * 0x4
def IO_IN_LEVEL (i j : Nat) : Fld := ⟨IO_IN i j, 0, 32, false, 0x3D00 + i⟩

/-- The offset of register IO_STS. -/
def IO_STS (i : Nat) : Nat := 0x100408 + i * 0x10000
def IO_STS_SWAP_DRIVE (i : Nat) : Fld := ⟨IO_STS i, 0, 1, false, 0x3D00 + i⟩
def IO_STS_UNCONFIGURED (i : Nat) : Fld := ⟨IO_STS i, 1, 1, false, 0x3D00 + i⟩

/-- The offset of register RGN_CTL. -/
def RGN_CTL (i : Nat) : Nat := 0x100000 + i * 0x10000
def RGN_CTL_LOAD (i : Nat) : Fld := ⟨RGN_CTL i, 0, 1, true, 0x3800 + i⟩
def RGN_CTL_SWAP (i : Nat) : Fld := ⟨RGN_CTL i, 1, 1, true, 0x3800 + i⟩
def RGN_CTL_ABORT (i : Nat) : Fld := ⟨RGN_CTL i, 2, 1, false, 0x3800 + i⟩
def RGN_CTL_DISCARD (i : Nat) : Fld := ⟨RGN_CTL i, 3, 1, true, 0x3800 + i⟩
def RGN_CTL_RETIRE (i : Nat) : Fld := ⟨RGN_CTL i, 4, 1, true, 0x3800 + i⟩
def RGN_CTL_DELAY (i : Nat) : Fld := ⟨RGN_CTL i, 16, 16, false, 0x3800 + i⟩

/-- The offset of register RGN_SRC_LO. -/
def RGN_SRC_LO (i : Nat) : Nat := 0x100004 + i * 0x10000
def RGN_SRC_LO_SRC (i : Nat) : Fld := ⟨RGN_SRC_LO i, 0, 32, false, 0x3800 + i⟩

/-- The offset of register RGN_SRC_HI. -/
def RGN_SRC_HI (i : Nat) : Nat := 0x100008 + i * 0x10000
def RGN_SRC_HI_SRC (i : Nat) : Fld := ⟨RGN_SRC_HI i, 0, 16, false, 0x3800 + i⟩

/-- The offset of register RGN_LEN. -/
def RGN_LEN (i : Nat) : Nat := 0x10000C + i * 0x10000
def RGN_LEN_LEN (i : Nat) : Fld := ⟨RGN_LEN i, 0, 32, false, 0x3800 + i⟩

/-- The offset of register RGN_STS. -/
def RGN_STS (i : Nat) : Nat := 0x100010 + i * 0x10000
def RGN_STS_STATE (i : Nat) : Fld := ⟨RGN_STS i, 0, 3, false, 0x3800 + i⟩
def RGN_STS_SHADOW (i : Nat) : Fld := ⟨RGN_STS i, 3, 2, false, 0x3800 + i⟩
def RGN_STS_ACTIVE_PLANE (i : Nat) : Fld := ⟨RGN_STS i, 5, 1, false, 0x3800 + i⟩
def RGN_STS_CARRIED (i : Nat) : Fld := ⟨RGN_STS i, 6, 1, false, 0x3800 + i⟩
def RGN_STS_WAIT_SCRUB (i : Nat) : Fld := ⟨RGN_STS i, 7, 1, false, 0x3800 + i⟩
def RGN_STS_WAIT_REINIT (i : Nat) : Fld := ⟨RGN_STS i, 8, 1, false, 0x3800 + i⟩
def RGN_STS_CLASS (i : Nat) : Fld := ⟨RGN_STS i, 9, 1, false, 0x3800 + i⟩
def RGN_STS_LOAD_CODE (i : Nat) : Fld := ⟨RGN_STS i, 12, 4, false, 0x3800 + i⟩
def RGN_STS_HOLD_LEFT (i : Nat) : Fld := ⟨RGN_STS i, 16, 16, false, 0x3800 + i⟩

/-- The offset of register RGN_EVT. -/
def RGN_EVT (i : Nat) : Nat := 0x100014 + i * 0x10000
def RGN_EVT_LOADED (i : Nat) : Fld := ⟨RGN_EVT i, 0, 1, false, 0x3800 + i⟩
def RGN_EVT_LOAD_FAIL (i : Nat) : Fld := ⟨RGN_EVT i, 1, 1, false, 0x3800 + i⟩
def RGN_EVT_SWAPPED (i : Nat) : Fld := ⟨RGN_EVT i, 2, 1, false, 0x3800 + i⟩
def RGN_EVT_RELEASED (i : Nat) : Fld := ⟨RGN_EVT i, 3, 1, false, 0x3800 + i⟩
def RGN_EVT_CARRY_IGNORED (i : Nat) : Fld := ⟨RGN_EVT i, 4, 1, false, 0x3800 + i⟩
def RGN_EVT_SCRUB_WAIT (i : Nat) : Fld := ⟨RGN_EVT i, 5, 1, false, 0x3800 + i⟩
def RGN_EVT_RETIRED_EVT (i : Nat) : Fld := ⟨RGN_EVT i, 6, 1, false, 0x3800 + i⟩

/-- The offset of register RGN_CNT. -/
def RGN_CNT (i : Nat) : Nat := 0x100018 + i * 0x10000
def RGN_CNT_SWAP_CNT (i : Nat) : Fld := ⟨RGN_CNT i, 0, 16, false, 0x3800 + i⟩
def RGN_CNT_RSP_DISCARD (i : Nat) : Fld := ⟨RGN_CNT i, 16, 16, false, 0x3800 + i⟩

/-- The offset of register ACTIVE_DIGEST. -/
def ACTIVE_DIGEST (i j : Nat) : Nat := 0x100040 + i * 0x10000 + j * 0x4
def ACTIVE_DIGEST_DIGEST (i j : Nat) : Fld := ⟨ACTIVE_DIGEST i j, 0, 32, false, 0x3800 + i⟩

/-- The offset of register SHADOW_DIGEST. -/
def SHADOW_DIGEST (i j : Nat) : Nat := 0x100080 + i * 0x10000 + j * 0x4
def SHADOW_DIGEST_DIGEST (i j : Nat) : Fld := ⟨SHADOW_DIGEST i j, 0, 32, false, 0x3800 + i⟩

/-- The offset of register BM_STS. -/
def BM_STS (i : Nat) : Nat := 0x100500 + i * 0x10000
def BM_STS_FILL_BUSY (i : Nat) : Fld := ⟨BM_STS i, 0, 1, false, 0x3E00 + i⟩

/-- The offset of register BM_EVT. -/
def BM_EVT (i : Nat) : Nat := 0x100504 + i * 0x10000
def BM_EVT_FILL_DONE (i : Nat) : Fld := ⟨BM_EVT i, 0, 1, false, 0x3E00 + i⟩
def BM_EVT_PACKED_WR (i : Nat) : Fld := ⟨BM_EVT i, 1, 1, false, 0x3E00 + i⟩

/-- The offset of register BM_LAST. -/
def BM_LAST (i : Nat) : Nat := 0x100508 + i * 0x10000
def BM_LAST_BLOCK (i : Nat) : Fld := ⟨BM_LAST i, 0, 6, false, 0x3E00 + i⟩
def BM_LAST_VALID (i : Nat) : Fld := ⟨BM_LAST i, 31, 1, false, 0x3E00 + i⟩

/-- The offset of register BM_STALL. -/
def BM_STALL (i j : Nat) : Nat := 0x10050C + i * 0x10000 + j * 0x4
def BM_STALL_STALLS (i j : Nat) : Fld := ⟨BM_STALL i j, 0, 32, false, 0x3E00 + i⟩

/-- The offset of register DSP_EVT. -/
def DSP_EVT (i : Nat) : Nat := 0x100600 + i * 0x10000
def DSP_EVT_SAT (i : Nat) : Fld := ⟨DSP_EVT i, 0, 1, false, 0x3F00 + i⟩
def DSP_EVT_GOV (i : Nat) : Fld := ⟨DSP_EVT i, 1, 1, false, 0x3F00 + i⟩
def DSP_EVT_STORE_OVERRUN (i : Nat) : Fld := ⟨DSP_EVT i, 2, 1, false, 0x3F00 + i⟩

/-- The offset of register DSP_LAST. -/
def DSP_LAST (i : Nat) : Nat := 0x100604 + i * 0x10000
def DSP_LAST_SAT_SLICE (i : Nat) : Fld := ⟨DSP_LAST i, 0, 6, false, 0x3F00 + i⟩
def DSP_LAST_SAT_BANK (i : Nat) : Fld := ⟨DSP_LAST i, 6, 2, false, 0x3F00 + i⟩
def DSP_LAST_GOV_SLICE (i : Nat) : Fld := ⟨DSP_LAST i, 8, 6, false, 0x3F00 + i⟩
def DSP_LAST_GOV_BANK (i : Nat) : Fld := ⟨DSP_LAST i, 14, 2, false, 0x3F00 + i⟩
def DSP_LAST_OVR_SLICE (i : Nat) : Fld := ⟨DSP_LAST i, 16, 6, false, 0x3F00 + i⟩
def DSP_LAST_SAT_VALID (i : Nat) : Fld := ⟨DSP_LAST i, 22, 1, false, 0x3F00 + i⟩
def DSP_LAST_GOV_VALID (i : Nat) : Fld := ⟨DSP_LAST i, 23, 1, false, 0x3F00 + i⟩
def DSP_LAST_OVR_VALID (i : Nat) : Fld := ⟨DSP_LAST i, 24, 1, false, 0x3F00 + i⟩

/-- The offset of register DSP_SAT_CNT. -/
def DSP_SAT_CNT (i : Nat) : Nat := 0x100608 + i * 0x10000
def DSP_SAT_CNT_SAT_CNT (i : Nat) : Fld := ⟨DSP_SAT_CNT i, 0, 32, false, 0x3F00 + i⟩

/-- The offset of register DSP_GOV_CNT. -/
def DSP_GOV_CNT (i : Nat) : Nat := 0x10060C + i * 0x10000
def DSP_GOV_CNT_GOV_CNT (i : Nat) : Fld := ⟨DSP_GOV_CNT i, 0, 16, false, 0x3F00 + i⟩
def DSP_GOV_CNT_OVR_CNT (i : Nat) : Fld := ⟨DSP_GOV_CNT i, 16, 16, false, 0x3F00 + i⟩

/-- The offset of register CLK_STS. -/
def CLK_STS : Nat := 0x10000
def CLK_STS_ROOT_LOCK : Fld := ⟨CLK_STS, 0, 1, false, 0x2100⟩
def CLK_STS_ON_INTOSC : Fld := ⟨CLK_STS, 1, 1, false, 0x2100⟩
def CLK_STS_ROOTCLK_OK : Fld := ⟨CLK_STS, 2, 1, false, 0x2100⟩
def CLK_STS_NOC_DIV : Fld := ⟨CLK_STS, 3, 5, false, 0x2100⟩
def CLK_STS_LAST_FS : Fld := ⟨CLK_STS, 8, 4, false, 0x2100⟩
def CLK_STS_FS_LOCK : Fld := ⟨CLK_STS, 16, 16, false, 0x2100⟩

/-- The offset of register CLK_EVT. -/
def CLK_EVT : Nat := 0x10004
def CLK_EVT_ROOT_LOSS : Fld := ⟨CLK_EVT, 0, 1, false, 0x2100⟩
def CLK_EVT_ROOT_RETURN : Fld := ⟨CLK_EVT, 1, 1, false, 0x2100⟩
def CLK_EVT_FS_LOL : Fld := ⟨CLK_EVT, 2, 1, false, 0x2100⟩
def CLK_EVT_APPLY_DONE : Fld := ⟨CLK_EVT, 3, 1, false, 0x2100⟩
def CLK_EVT_GCK_AUTO : Fld := ⟨CLK_EVT, 4, 1, false, 0x2100⟩
def CLK_EVT_GCK_SWITCH_DONE : Fld := ⟨CLK_EVT, 5, 1, false, 0x2100⟩
def CLK_EVT_LEVEL_SWITCH : Fld := ⟨CLK_EVT, 6, 1, false, 0x2100⟩

/-- The offset of register ROOT_CNT. -/
def ROOT_CNT (i : Nat) : Nat := 0x10008 + i * 0x4
def ROOT_CNT_WORD (i : Nat) : Fld := ⟨ROOT_CNT i, 0, 32, false, 0x2100⟩

/-- The offset of register FS_CTL. -/
def FS_CTL (i : Nat) : Nat := 0x10100 + i * 0x10
def FS_CTL_APPLY (i : Nat) : Fld := ⟨FS_CTL i, 1, 1, true, 0x2110 + i⟩
def FS_CTL_OUT_EN (i : Nat) : Fld := ⟨FS_CTL i, 2, 4, false, 0x2110 + i⟩
def FS_CTL_SRC (i : Nat) : Fld := ⟨FS_CTL i, 6, 2, true, 0x2110 + i⟩
def FS_CTL_SRC_SEL (i : Nat) : Fld := ⟨FS_CTL i, 8, 8, true, 0x2110 + i⟩

/-- The offset of register FS_DIV. -/
def FS_DIV (i : Nat) : Nat := 0x10104 + i * 0x10
def FS_DIV_M (i : Nat) : Fld := ⟨FS_DIV i, 0, 6, true, 0x2110 + i⟩
def FS_DIV_N (i : Nat) : Fld := ⟨FS_DIV i, 6, 9, true, 0x2110 + i⟩

/-- The offset of register FS_ODIV. -/
def FS_ODIV (i : Nat) : Nat := 0x10108 + i * 0x10
def FS_ODIV_O0 (i : Nat) : Fld := ⟨FS_ODIV i, 0, 8, true, 0x2110 + i⟩
def FS_ODIV_O1 (i : Nat) : Fld := ⟨FS_ODIV i, 8, 8, true, 0x2110 + i⟩
def FS_ODIV_O2 (i : Nat) : Fld := ⟨FS_ODIV i, 16, 8, true, 0x2110 + i⟩
def FS_ODIV_O3 (i : Nat) : Fld := ⟨FS_ODIV i, 24, 8, true, 0x2110 + i⟩

/-- The offset of register FS_STS. -/
def FS_STS (i : Nat) : Nat := 0x1010C + i * 0x10
def FS_STS_LOCK (i : Nat) : Fld := ⟨FS_STS i, 0, 1, false, 0x2110 + i⟩
def FS_STS_APPLY_BUSY (i : Nat) : Fld := ⟨FS_STS i, 1, 1, false, 0x2110 + i⟩
def FS_STS_SRC_PRESENT (i : Nat) : Fld := ⟨FS_STS i, 2, 1, false, 0x2110 + i⟩
def FS_STS_APPLY_ERR (i : Nat) : Fld := ⟨FS_STS i, 3, 1, false, 0x2110 + i⟩
def FS_STS_IN_MHZ (i : Nat) : Fld := ⟨FS_STS i, 16, 12, false, 0x2110 + i⟩

/-- The offset of register GCK_SEL. -/
def GCK_SEL (i : Nat) : Nat := 0x10200 + i * 0x4
def GCK_SEL_SRC (i : Nat) : Fld := ⟨GCK_SEL i, 0, 7, true, 0x2130 + i⟩
def GCK_SEL_ALT (i : Nat) : Fld := ⟨GCK_SEL i, 7, 7, true, 0x2130 + i⟩
def GCK_SEL_AUTO_ALT (i : Nat) : Fld := ⟨GCK_SEL i, 14, 1, false, 0x2130 + i⟩
def GCK_SEL_ON_ALT (i : Nat) : Fld := ⟨GCK_SEL i, 15, 1, false, 0x2130 + i⟩
def GCK_SEL_SWITCH_BUSY (i : Nat) : Fld := ⟨GCK_SEL i, 16, 1, false, 0x2130 + i⟩

/-- The offset of register RING_CTL. -/
def RING_CTL (i : Nat) : Nat := 0x10300 + i * 0x4
def RING_CTL_EN (i : Nat) : Fld := ⟨RING_CTL i, 0, 1, false, 0x2150 + i⟩
def RING_CTL_FREQ (i : Nat) : Fld := ⟨RING_CTL i, 1, 7, false, 0x2150 + i⟩
def RING_CTL_MEAS_MHZ (i : Nat) : Fld := ⟨RING_CTL i, 16, 10, false, 0x2150 + i⟩

/-- The offset of register CFG_CTL. -/
def CFG_CTL : Nat := 0x30000
def CFG_CTL_SRC_EN : Fld := ⟨CFG_CTL, 0, 4, true, 0x3010⟩
def CFG_CTL_HLOAD : Fld := ⟨CFG_CTL, 4, 1, true, 0x3010⟩
def CFG_CTL_HABORT : Fld := ⟨CFG_CTL, 5, 1, false, 0x3010⟩

/-- The offset of register CFG_HSRC_LO. -/
def CFG_HSRC_LO : Nat := 0x30004
def CFG_HSRC_LO_SRC : Fld := ⟨CFG_HSRC_LO, 0, 32, false, 0x3012⟩

/-- The offset of register CFG_HSRC_HI. -/
def CFG_HSRC_HI : Nat := 0x30008
def CFG_HSRC_HI_SRC : Fld := ⟨CFG_HSRC_HI, 0, 16, false, 0x3012⟩

/-- The offset of register CFG_HLEN. -/
def CFG_HLEN : Nat := 0x3000C
def CFG_HLEN_LEN : Fld := ⟨CFG_HLEN, 0, 32, false, 0x3012⟩

/-- The offset of register CFG_XSPI_OFFSET. -/
def CFG_XSPI_OFFSET : Nat := 0x30010
def CFG_XSPI_OFFSET_OFFSET : Fld := ⟨CFG_XSPI_OFFSET, 12, 20, false, 0x3010⟩

/-- The offset of register CFG_LOAD_STS. -/
def CFG_LOAD_STS : Nat := 0x30014
def CFG_LOAD_STS_CAUSE : Fld := ⟨CFG_LOAD_STS, 0, 8, false, 0x3011⟩
def CFG_LOAD_STS_SEGMENT : Fld := ⟨CFG_LOAD_STS, 8, 8, false, 0x3011⟩
def CFG_LOAD_STS_REGION : Fld := ⟨CFG_LOAD_STS, 16, 7, false, 0x3011⟩
def CFG_LOAD_STS_KIND : Fld := ⟨CFG_LOAD_STS, 24, 2, false, 0x3011⟩
def CFG_LOAD_STS_BUSY : Fld := ⟨CFG_LOAD_STS, 26, 1, false, 0x3011⟩

/-- The offset of register CFG_LOAD_FRAME. -/
def CFG_LOAD_FRAME : Nat := 0x30018
def CFG_LOAD_FRAME_DEV_FRAME : Fld := ⟨CFG_LOAD_FRAME, 0, 20, false, 0x3011⟩
def CFG_LOAD_FRAME_VALID : Fld := ⟨CFG_LOAD_FRAME, 31, 1, false, 0x3011⟩

/-- The offset of register CFG_EVT. -/
def CFG_EVT : Nat := 0x3001C
def CFG_EVT_LOAD_DONE : Fld := ⟨CFG_EVT, 0, 1, false, 0x3011⟩
def CFG_EVT_LOAD_FAIL : Fld := ⟨CFG_EVT, 1, 1, false, 0x3011⟩
def CFG_EVT_BOOT_DONE : Fld := ⟨CFG_EVT, 2, 1, false, 0x3011⟩
def CFG_EVT_BOOT_RETRY : Fld := ⟨CFG_EVT, 3, 1, false, 0x3011⟩
def CFG_EVT_HLOAD_DONE : Fld := ⟨CFG_EVT, 4, 1, false, 0x3011⟩

/-- The offset of register CFG_BOOT_STS. -/
def CFG_BOOT_STS : Nat := 0x30020
def CFG_BOOT_STS_SOURCE : Fld := ⟨CFG_BOOT_STS, 0, 2, false, 0x3010⟩
def CFG_BOOT_STS_ACTIVE : Fld := ⟨CFG_BOOT_STS, 2, 1, false, 0x3010⟩
def CFG_BOOT_STS_LAST_CAUSE : Fld := ⟨CFG_BOOT_STS, 8, 8, false, 0x3010⟩

/-- The offset of register CFG_BOOT_ATTEMPTS. -/
def CFG_BOOT_ATTEMPTS : Nat := 0x30024
def CFG_BOOT_ATTEMPTS_ATTEMPTS : Fld := ⟨CFG_BOOT_ATTEMPTS, 0, 32, false, 0x3010⟩

/-- The offset of register CFG_BOOT_WAIT. -/
def CFG_BOOT_WAIT : Nat := 0x30028
def CFG_BOOT_WAIT_WAIT_MS : Fld := ⟨CFG_BOOT_WAIT, 0, 14, false, 0x3010⟩

/-- The offset of register CFG_HSKIP. -/
def CFG_HSKIP : Nat := 0x3002C
def CFG_HSKIP_SKIPPED : Fld := ⟨CFG_HSKIP, 0, 16, false, 0x3012⟩

/-- The offset of register CFG_HLAST. -/
def CFG_HLAST : Nat := 0x30030
def CFG_HLAST_OFFSET : Fld := ⟨CFG_HLAST, 0, 24, false, 0x3012⟩
def CFG_HLAST_VALID : Fld := ⟨CFG_HLAST, 31, 1, false, 0x3012⟩

/-- The offset of register SEC_KEY_STS. -/
def SEC_KEY_STS : Nat := 0xE0000
def SEC_KEY_STS_FUSE_KEY : Fld := ⟨SEC_KEY_STS, 0, 1, false, 0x8010⟩
def SEC_KEY_STS_BBRAM_KEY : Fld := ⟨SEC_KEY_STS, 1, 1, false, 0x8010⟩
def SEC_KEY_STS_SLOT_PROG : Fld := ⟨SEC_KEY_STS, 2, 4, false, 0x8010⟩
def SEC_KEY_STS_SLOT_REVOKED : Fld := ⟨SEC_KEY_STS, 6, 4, false, 0x8010⟩
def SEC_KEY_STS_CMD_BUSY : Fld := ⟨SEC_KEY_STS, 10, 1, false, 0x8010⟩

/-- The offset of register SEC_CTL. -/
def SEC_CTL : Nat := 0xE0004
def SEC_CTL_FUSE_KEY_PROGRAM : Fld := ⟨SEC_CTL, 0, 1, true, 0x8011⟩
def SEC_CTL_BBRAM_WRITE : Fld := ⟨SEC_CTL, 1, 1, true, 0x8011⟩
def SEC_CTL_BBRAM_ZERO : Fld := ⟨SEC_CTL, 2, 1, true, 0x8011⟩
def SEC_CTL_SLOT_PROGRAM : Fld := ⟨SEC_CTL, 3, 1, true, 0x8011⟩
def SEC_CTL_SLOT_REVOKE : Fld := ⟨SEC_CTL, 4, 1, true, 0x8011⟩
def SEC_CTL_SLOT : Fld := ⟨SEC_CTL, 5, 2, true, 0x8011⟩

/-- The offset of register SEC_EVT. -/
def SEC_EVT : Nat := 0xE0008
def SEC_EVT_CMD_DONE : Fld := ⟨SEC_EVT, 0, 1, false, 0x8010⟩
def SEC_EVT_CMD_REFUSED : Fld := ⟨SEC_EVT, 1, 1, false, 0x8010⟩
def SEC_EVT_BBRAM_LOST : Fld := ⟨SEC_EVT, 2, 1, false, 0x8010⟩
def SEC_EVT_SLOT_CHANGE : Fld := ⟨SEC_EVT, 3, 1, false, 0x8010⟩

/-- The offset of register SEC_KEY_DATA. -/
def SEC_KEY_DATA (i : Nat) : Nat := 0xE0040 + i * 0x4
def SEC_KEY_DATA_DATA (i : Nat) : Fld := ⟨SEC_KEY_DATA i, 0, 32, false, 0⟩

/-- The offset of register SCRUB_CTL. -/
def SCRUB_CTL : Nat := 0x40000
def SCRUB_CTL_ENABLE : Fld := ⟨SCRUB_CTL, 0, 1, true, 0x4100⟩
def SCRUB_CTL_PIN : Fld := ⟨SCRUB_CTL, 1, 1, true, 0x4100⟩
def SCRUB_CTL_FULL_NOW : Fld := ⟨SCRUB_CTL, 2, 1, false, 0x4100⟩
def SCRUB_CTL_RAISE_AT : Fld := ⟨SCRUB_CTL, 8, 8, false, 0x4100⟩
def SCRUB_CTL_QUIET_PASSES : Fld := ⟨SCRUB_CTL, 16, 8, false, 0x4100⟩

/-- The offset of register SCRUB_PERIOD. -/
def SCRUB_PERIOD : Nat := 0x40004
def SCRUB_PERIOD_PERIOD_MS : Fld := ⟨SCRUB_PERIOD, 0, 16, false, 0x4100⟩

/-- The offset of register SCRUB_STS. -/
def SCRUB_STS : Nat := 0x40008
def SCRUB_STS_POINTER : Fld := ⟨SCRUB_STS, 0, 20, false, 0x4100⟩
def SCRUB_STS_FULL_RATE : Fld := ⟨SCRUB_STS, 20, 1, false, 0x4100⟩
def SCRUB_STS_SHADOW_ON : Fld := ⟨SCRUB_STS, 21, 1, false, 0x4100⟩
def SCRUB_STS_PENDING : Fld := ⟨SCRUB_STS, 22, 1, false, 0x4100⟩
def SCRUB_STS_BUILDING : Fld := ⟨SCRUB_STS, 23, 1, false, 0x4100⟩
def SCRUB_STS_GOLDEN_USABLE : Fld := ⟨SCRUB_STS, 24, 1, false, 0x4100⟩

/-- The offset of register SCRUB_EVT. -/
def SCRUB_EVT : Nat := 0x4000C
def SCRUB_EVT_CORRECTED : Fld := ⟨SCRUB_EVT, 0, 1, false, 0x4100⟩
def SCRUB_EVT_RELOADED : Fld := ⟨SCRUB_EVT, 1, 1, false, 0x4100⟩
def SCRUB_EVT_UNRECOVERABLE : Fld := ⟨SCRUB_EVT, 2, 1, false, 0x4100⟩
def SCRUB_EVT_STUCK : Fld := ⟨SCRUB_EVT, 3, 1, false, 0x4100⟩
def SCRUB_EVT_PASS_DONE : Fld := ⟨SCRUB_EVT, 4, 1, false, 0x4100⟩
def SCRUB_EVT_RATE_UP : Fld := ⟨SCRUB_EVT, 5, 1, false, 0x4100⟩
def SCRUB_EVT_RATE_DOWN : Fld := ⟨SCRUB_EVT, 6, 1, false, 0x4100⟩
def SCRUB_EVT_GOLDEN_READY : Fld := ⟨SCRUB_EVT, 7, 1, false, 0x4100⟩
def SCRUB_EVT_GOLDEN_FAIL : Fld := ⟨SCRUB_EVT, 8, 1, false, 0x4100⟩
def SCRUB_EVT_SHADOW_LOST : Fld := ⟨SCRUB_EVT, 9, 1, false, 0x4100⟩

/-- The offset of register SCRUB_LAST. -/
def SCRUB_LAST : Nat := 0x40010
def SCRUB_LAST_DEV_FRAME : Fld := ⟨SCRUB_LAST, 0, 20, false, 0x4100⟩
def SCRUB_LAST_PLANE : Fld := ⟨SCRUB_LAST, 20, 1, false, 0x4100⟩
def SCRUB_LAST_KIND : Fld := ⟨SCRUB_LAST, 21, 3, false, 0x4100⟩
def SCRUB_LAST_VALID : Fld := ⟨SCRUB_LAST, 31, 1, false, 0x4100⟩

/-- The offset of register SCRUB_PASSES. -/
def SCRUB_PASSES : Nat := 0x40014
def SCRUB_PASSES_CNT : Fld := ⟨SCRUB_PASSES, 0, 32, false, 0x4100⟩

/-- The offset of register SCRUB_CORRECTED. -/
def SCRUB_CORRECTED : Nat := 0x40018
def SCRUB_CORRECTED_CNT : Fld := ⟨SCRUB_CORRECTED, 0, 32, false, 0x4100⟩

/-- The offset of register SCRUB_RELOADS. -/
def SCRUB_RELOADS : Nat := 0x4001C
def SCRUB_RELOADS_CNT : Fld := ⟨SCRUB_RELOADS, 0, 32, false, 0x4100⟩

/-- The offset of register SCRUB_UNREC. -/
def SCRUB_UNREC : Nat := 0x40020
def SCRUB_UNREC_UNRECOV_CNT : Fld := ⟨SCRUB_UNREC, 0, 16, false, 0x4100⟩
def SCRUB_UNREC_STUCK_CNT : Fld := ⟨SCRUB_UNREC, 16, 16, false, 0x4100⟩

/-- The offset of register SCRUB_LAST_PASS. -/
def SCRUB_LAST_PASS : Nat := 0x40024
def SCRUB_LAST_PASS_LAST_PASS_FIX : Fld := ⟨SCRUB_LAST_PASS, 0, 16, false, 0x4100⟩
def SCRUB_LAST_PASS_QUIET : Fld := ⟨SCRUB_LAST_PASS, 16, 16, false, 0x4100⟩

/-- The offset of register GOLDEN_VALID. -/
def GOLDEN_VALID (i : Nat) : Nat := 0x40040 + i * 0x4
def GOLDEN_VALID_VALID (i : Nat) : Fld := ⟨GOLDEN_VALID i, 0, 32, false, 0x4101⟩

/-- The offset of register INT_CTL. -/
def INT_CTL : Nat := 0x50000
def INT_CTL_DSCRUB_BM : Fld := ⟨INT_CTL, 0, 1, true, 0x4200⟩
def INT_CTL_DSCRUB_DRAM : Fld := ⟨INT_CTL, 1, 1, true, 0x4200⟩
def INT_CTL_AUTO_CH_RETIRE : Fld := ⟨INT_CTL, 2, 1, true, 0x4200⟩

/-- The offset of register INT_BM_INTERVAL. -/
def INT_BM_INTERVAL : Nat := 0x50004
def INT_BM_INTERVAL_BM_INTERVAL : Fld := ⟨INT_BM_INTERVAL, 0, 14, false, 0x4200⟩

/-- The offset of register INT_DR_INTERVAL. -/
def INT_DR_INTERVAL : Nat := 0x50008
def INT_DR_INTERVAL_DR_INTERVAL : Fld := ⟨INT_DR_INTERVAL, 0, 17, false, 0x4200⟩

/-- The offset of register INT_EVT. -/
def INT_EVT : Nat := 0x5000C
def INT_EVT_CORRECTED : Fld := ⟨INT_EVT, 0, 1, false, 0x4200⟩
def INT_EVT_POISONED : Fld := ⟨INT_EVT, 1, 1, false, 0x4200⟩
def INT_EVT_POISON_READ : Fld := ⟨INT_EVT, 2, 1, false, 0x4200⟩
def INT_EVT_REMAPPED : Fld := ⟨INT_EVT, 3, 1, false, 0x4200⟩
def INT_EVT_UNIT_FAILED : Fld := ⟨INT_EVT, 4, 1, false, 0x4200⟩
def INT_EVT_STARVED : Fld := ⟨INT_EVT, 5, 1, false, 0x4200⟩
def INT_EVT_CH_RETIRED : Fld := ⟨INT_EVT, 6, 1, false, 0x4200⟩
def INT_EVT_MARCH_DONE : Fld := ⟨INT_EVT, 7, 1, false, 0x4200⟩
def INT_EVT_CT_DONE : Fld := ⟨INT_EVT, 8, 1, false, 0x4200⟩
def INT_EVT_LOG_LOST : Fld := ⟨INT_EVT, 9, 1, false, 0x4200⟩

/-- The offset of register MEM_CORRECTED. -/
def MEM_CORRECTED : Nat := 0x50010
def MEM_CORRECTED_CNT : Fld := ⟨MEM_CORRECTED, 0, 32, false, 0x4200⟩

/-- The offset of register MEM_POISONED. -/
def MEM_POISONED : Nat := 0x50014
def MEM_POISONED_CNT : Fld := ⟨MEM_POISONED, 0, 32, false, 0x4200⟩

/-- The offset of register REMAP_STARVED. -/
def REMAP_STARVED : Nat := 0x50018
def REMAP_STARVED_REMAP_CNT : Fld := ⟨REMAP_STARVED, 0, 16, false, 0x4200⟩
def REMAP_STARVED_STARVED_CNT : Fld := ⟨REMAP_STARVED, 16, 16, false, 0x4200⟩

/-- The offset of register LOG_LOST. -/
def LOG_LOST : Nat := 0x5001C
def LOG_LOST_CNT : Fld := ⟨LOG_LOST, 0, 16, false, 0x4200⟩

/-- The offset of register LOG_LO. -/
def LOG_LO : Nat := 0x50020
def LOG_LO_WORD : Fld := ⟨LOG_LO, 0, 32, false, 0x4200⟩

/-- The offset of register LOG_HI. -/
def LOG_HI : Nat := 0x50024
def LOG_HI_WORD : Fld := ⟨LOG_HI, 0, 32, false, 0x4200⟩

/-- The offset of register LOG_COUNT. -/
def LOG_COUNT : Nat := 0x50028
def LOG_COUNT_COUNT : Fld := ⟨LOG_COUNT, 0, 5, false, 0x4200⟩

/-- The offset of register CH_FAILED. -/
def CH_FAILED : Nat := 0x50030
def CH_FAILED_MASK : Fld := ⟨CH_FAILED, 0, 32, false, 0x4200⟩

/-- The offset of register CH_RETIRED. -/
def CH_RETIRED : Nat := 0x50034
def CH_RETIRED_MASK : Fld := ⟨CH_RETIRED, 0, 32, false, 0x4200⟩

/-- The offset of register CH_RETIRE. -/
def CH_RETIRE : Nat := 0x50038
def CH_RETIRE_CHANNEL : Fld := ⟨CH_RETIRE, 0, 5, true, 0x4200⟩
def CH_RETIRE_RETIRE : Fld := ⟨CH_RETIRE, 8, 1, true, 0x4200⟩

/-- The offset of register HS_FAILED. -/
def HS_FAILED : Nat := 0x5003C
def HS_FAILED_LAST : Fld := ⟨HS_FAILED, 0, 9, false, 0x4200⟩
def HS_FAILED_VALID : Fld := ⟨HS_FAILED, 31, 1, false, 0x4200⟩

/-- The offset of register MARCH_CTL. -/
def MARCH_CTL : Nat := 0x50040
def MARCH_CTL_START : Fld := ⟨MARCH_CTL, 0, 1, true, 0x4200⟩
def MARCH_CTL_ABORT : Fld := ⟨MARCH_CTL, 1, 1, false, 0x4200⟩
def MARCH_CTL_MODE : Fld := ⟨MARCH_CTL, 2, 1, false, 0x4200⟩
def MARCH_CTL_KIND : Fld := ⟨MARCH_CTL, 3, 2, false, 0x4200⟩
def MARCH_CTL_UNIT : Fld := ⟨MARCH_CTL, 5, 13, false, 0x4200⟩
def MARCH_CTL_ALL : Fld := ⟨MARCH_CTL, 18, 1, false, 0x4200⟩

/-- The offset of register MARCH_STS. -/
def MARCH_STS : Nat := 0x50044
def MARCH_STS_BUSY : Fld := ⟨MARCH_STS, 0, 1, false, 0x4200⟩
def MARCH_STS_RESULT : Fld := ⟨MARCH_STS, 1, 3, false, 0x4200⟩
def MARCH_STS_FAULTS : Fld := ⟨MARCH_STS, 4, 16, false, 0x4200⟩
def MARCH_STS_PARTIAL : Fld := ⟨MARCH_STS, 20, 1, false, 0x4200⟩

/-- The offset of register CT_CTL. -/
def CT_CTL : Nat := 0x50050
def CT_CTL_ARM : Fld := ⟨CT_CTL, 0, 1, true, 0⟩
def CT_CTL_KIND : Fld := ⟨CT_CTL, 1, 2, false, 0⟩
def CT_CTL_WRITE_RAW : Fld := ⟨CT_CTL, 3, 1, false, 0⟩
def CT_CTL_READ_RAW : Fld := ⟨CT_CTL, 4, 1, false, 0⟩
def CT_CTL_UNIT : Fld := ⟨CT_CTL, 5, 13, false, 0⟩

/-- The offset of register CT_ADDR. -/
def CT_ADDR : Nat := 0x50058
def CT_ADDR_ADDR : Fld := ⟨CT_ADDR, 0, 32, false, 0⟩

/-- The offset of register CT_DATA. -/
def CT_DATA : Nat := 0x5005C
def CT_DATA_DATA : Fld := ⟨CT_DATA, 0, 32, false, 0⟩

/-- The offset of register CT_CHECK. -/
def CT_CHECK : Nat := 0x50060
def CT_CHECK_CHECK : Fld := ⟨CT_CHECK, 0, 20, false, 0⟩

/-- The offset of register CT_RDATA. -/
def CT_RDATA : Nat := 0x50064
def CT_RDATA_DATA : Fld := ⟨CT_RDATA, 0, 32, false, 0⟩

/-- The offset of register CT_RCHECK. -/
def CT_RCHECK : Nat := 0x50068
def CT_RCHECK_CHECK : Fld := ⟨CT_RCHECK, 0, 20, false, 0⟩

/-- The offset of register DRAM_REMAP. -/
def DRAM_REMAP (i j : Nat) : Nat := 0x51000 + i * 0x40 + j * 0x4
def DRAM_REMAP_LINE (i j : Nat) : Fld := ⟨DRAM_REMAP i j, 0, 24, false, 0x4201⟩
def DRAM_REMAP_VALID (i j : Nat) : Fld := ⟨DRAM_REMAP i j, 31, 1, false, 0x4201⟩

/-- The offset of register HS_REMAP. -/
def HS_REMAP (i j : Nat) : Nat := 0x52000 + i * 0x20 + j * 0x4
def HS_REMAP_GRANULE (i j : Nat) : Fld := ⟨HS_REMAP i j, 0, 17, false, 0x4202⟩
def HS_REMAP_VALID (i j : Nat) : Fld := ⟨HS_REMAP i j, 31, 1, false, 0x4202⟩

/-- The offset of register RI_STS. -/
def RI_STS (i : Nat) : Nat := 0x100700 + i * 0x10000
def RI_STS_FAILED (i : Nat) : Fld := ⟨RI_STS i, 0, 1, false, 0x4400 + i⟩
def RI_STS_FAILED_BLOCK (i : Nat) : Fld := ⟨RI_STS i, 1, 6, false, 0x4400 + i⟩
def RI_STS_ARMED_BM (i : Nat) : Fld := ⟨RI_STS i, 7, 1, false, 0x4400 + i⟩
def RI_STS_ARMED_DRAM (i : Nat) : Fld := ⟨RI_STS i, 8, 1, false, 0x4400 + i⟩

/-- The offset of register RI_EVT. -/
def RI_EVT (i : Nat) : Nat := 0x100704 + i * 0x10000
def RI_EVT_POISONED (i : Nat) : Fld := ⟨RI_EVT i, 0, 1, false, 0x4400 + i⟩
def RI_EVT_REMAPPED (i : Nat) : Fld := ⟨RI_EVT i, 1, 1, false, 0x4400 + i⟩
def RI_EVT_FAILED_EVT (i : Nat) : Fld := ⟨RI_EVT i, 2, 1, false, 0x4400 + i⟩
def RI_EVT_STARVED (i : Nat) : Fld := ⟨RI_EVT i, 3, 1, false, 0x4400 + i⟩

/-- The offset of register BM_REMAP. -/
def BM_REMAP (i j : Nat) : Nat := 0x100B00 + i * 0x10000 + j * 0x4
def BM_REMAP_WADDR (i j : Nat) : Fld := ⟨BM_REMAP i j, 0, 11, false, 0x4400 + i⟩
def BM_REMAP_VALID (i j : Nat) : Fld := ⟨BM_REMAP i j, 31, 1, false, 0x4400 + i⟩

/-- The offset of register NOC_CTL. -/
def NOC_CTL : Nat := 0x60000
def NOC_CTL_EPOCH : Fld := ⟨NOC_CTL, 0, 1, true, 0x6000⟩
def NOC_CTL_RB_COPY : Fld := ⟨NOC_CTL, 1, 1, true, 0x6000⟩
def NOC_CTL_RB_WRITE : Fld := ⟨NOC_CTL, 2, 1, true, 0x6000⟩
def NOC_CTL_RB_READ : Fld := ⟨NOC_CTL, 3, 1, false, 0x6000⟩
def NOC_CTL_ST_WRITE : Fld := ⟨NOC_CTL, 4, 1, true, 0x6000⟩
def NOC_CTL_ST_READ : Fld := ⟨NOC_CTL, 5, 1, false, 0x6000⟩
def NOC_CTL_RB_ALL : Fld := ⟨NOC_CTL, 6, 1, false, 0x6000⟩
def NOC_CTL_READ_ACTIVE : Fld := ⟨NOC_CTL, 7, 1, false, 0x6000⟩

/-- The offset of register NOC_RBSEL. -/
def NOC_RBSEL : Nat := 0x60004
def NOC_RBSEL_RB_NI : Fld := ⟨NOC_RBSEL, 0, 8, false, 0x6010⟩
def NOC_RBSEL_RB_IDX : Fld := ⟨NOC_RBSEL, 8, 9, false, 0x6010⟩

/-- The offset of register NOC_STSEL. -/
def NOC_STSEL : Nat := 0x60008
def NOC_STSEL_WS : Fld := ⟨NOC_STSEL, 0, 8, false, 0x6020⟩
def NOC_STSEL_PORT : Fld := ⟨NOC_STSEL, 8, 3, false, 0x6020⟩
def NOC_STSEL_GROUP : Fld := ⟨NOC_STSEL, 11, 5, false, 0x6020⟩

/-- The offset of register RB_DATA. -/
def RB_DATA (i : Nat) : Nat := 0x60010 + i * 0x4
def RB_DATA_DATA (i : Nat) : Fld := ⟨RB_DATA i, 0, 32, false, 0x6010⟩

/-- The offset of register ST_DATA. -/
def ST_DATA : Nat := 0x60020
def ST_DATA_OWNER_0 : Fld := ⟨ST_DATA, 0, 4, false, 0x6020⟩
def ST_DATA_OWNER_1 : Fld := ⟨ST_DATA, 4, 4, false, 0x6020⟩
def ST_DATA_OWNER_2 : Fld := ⟨ST_DATA, 8, 4, false, 0x6020⟩
def ST_DATA_OWNER_3 : Fld := ⟨ST_DATA, 12, 4, false, 0x6020⟩
def ST_DATA_OWNER_4 : Fld := ⟨ST_DATA, 16, 4, false, 0x6020⟩
def ST_DATA_OWNER_5 : Fld := ⟨ST_DATA, 20, 4, false, 0x6020⟩
def ST_DATA_OWNER_6 : Fld := ⟨ST_DATA, 24, 4, false, 0x6020⟩
def ST_DATA_OWNER_7 : Fld := ⟨ST_DATA, 28, 4, false, 0x6020⟩

/-- The offset of register NOC_STS. -/
def NOC_STS : Nat := 0x60024
def NOC_STS_EPOCH_CUR : Fld := ⟨NOC_STS, 0, 1, false, 0x6000⟩
def NOC_STS_COMMIT_PENDING : Fld := ⟨NOC_STS, 1, 1, false, 0x6000⟩
def NOC_STS_DRAINED : Fld := ⟨NOC_STS, 2, 1, false, 0x6000⟩
def NOC_STS_GT_QUIET : Fld := ⟨NOC_STS, 3, 1, false, 0x6000⟩
def NOC_STS_SLOT : Fld := ⟨NOC_STS, 4, 8, false, 0x6000⟩
def NOC_STS_OLD_LEFT : Fld := ⟨NOC_STS, 12, 20, false, 0x6000⟩

/-- The offset of register NOC_EVT. -/
def NOC_EVT : Nat := 0x60028
def NOC_EVT_EPOCH_DONE : Fld := ⟨NOC_EVT, 0, 1, false, 0x6000⟩
def NOC_EVT_DRAINED_EVT : Fld := ⟨NOC_EVT, 1, 1, false, 0x6000⟩
def NOC_EVT_DROP : Fld := ⟨NOC_EVT, 2, 1, false, 0x6000⟩
def NOC_EVT_GT_MISS : Fld := ⟨NOC_EVT, 3, 1, false, 0x6000⟩
def NOC_EVT_RB_REFUSED : Fld := ⟨NOC_EVT, 4, 1, false, 0x6000⟩
def NOC_EVT_STALE_RSP : Fld := ⟨NOC_EVT, 5, 1, false, 0x6000⟩

/-- The offset of register NOC_LAST_DROP. -/
def NOC_LAST_DROP : Nat := 0x6002C
def NOC_LAST_DROP_WHERE : Fld := ⟨NOC_LAST_DROP, 0, 8, false, 0x6000⟩
def NOC_LAST_DROP_AT_NI : Fld := ⟨NOC_LAST_DROP, 8, 1, false, 0x6000⟩
def NOC_LAST_DROP_PORT : Fld := ⟨NOC_LAST_DROP, 9, 3, false, 0x6000⟩
def NOC_LAST_DROP_REASON : Fld := ⟨NOC_LAST_DROP, 12, 4, false, 0x6000⟩
def NOC_LAST_DROP_VALID : Fld := ⟨NOC_LAST_DROP, 31, 1, false, 0x6000⟩

/-- The offset of register RB_ERR. -/
def RB_ERR : Nat := 0x60030
def RB_ERR_CAUSE : Fld := ⟨RB_ERR, 0, 4, false, 0x6000⟩
def RB_ERR_HOP : Fld := ⟨RB_ERR, 4, 5, false, 0x6000⟩

/-- The offset of register NOC_CNT. -/
def NOC_CNT : Nat := 0x60034
def NOC_CNT_DROP_CNT : Fld := ⟨NOC_CNT, 0, 16, false, 0x6000⟩
def NOC_CNT_GT_MISS_CNT : Fld := ⟨NOC_CNT, 16, 16, false, 0x6000⟩

/-- The offset of register PORT_EN. -/
def PORT_EN (i : Nat) : Nat := 0x60100 + i * 0x4
def PORT_EN_SHADOW (i : Nat) : Fld := ⟨PORT_EN i, 0, 5, true, 0x6030⟩
def PORT_EN_ACTIVE (i : Nat) : Fld := ⟨PORT_EN i, 8, 5, false, 0x6030⟩

/-- The offset of register NI_TO. -/
def NI_TO (i : Nat) : Nat := 0x61000 + i * 0x20
def NI_TO_TO_US (i : Nat) : Fld := ⟨NI_TO i, 0, 14, false, 0x6100 + i⟩

/-- The offset of register NI_TB. -/
def NI_TB (i : Nat) : Nat := 0x61004 + i * 0x20
def NI_TB_RATE (i : Nat) : Fld := ⟨NI_TB i, 0, 9, false, 0x6100 + i⟩
def NI_TB_DEPTH (i : Nat) : Fld := ⟨NI_TB i, 16, 16, false, 0x6100 + i⟩

/-- The offset of register NI_STS. -/
def NI_STS (i : Nat) : Nat := 0x61008 + i * 0x20
def NI_STS_GUARD_CLOSED (i : Nat) : Fld := ⟨NI_STS i, 0, 1, false, 0x6100 + i⟩
def NI_STS_OUTSTANDING (i : Nat) : Fld := ⟨NI_STS i, 1, 13, false, 0x6100 + i⟩
def NI_STS_OLD (i : Nat) : Fld := ⟨NI_STS i, 14, 12, false, 0x6100 + i⟩

/-- The offset of register NI_CNT. -/
def NI_CNT (i : Nat) : Nat := 0x6100C + i * 0x20
def NI_CNT_TIMEOUT_CNT (i : Nat) : Fld := ⟨NI_CNT i, 0, 16, false, 0x6100 + i⟩
def NI_CNT_LATE_RSP (i : Nat) : Fld := ⟨NI_CNT i, 16, 16, false, 0x6100 + i⟩

/-- The offset of register NI_CNT2. -/
def NI_CNT2 (i : Nat) : Nat := 0x61010 + i * 0x20
def NI_CNT2_GT_DROP (i : Nat) : Fld := ⟨NI_CNT2 i, 0, 16, false, 0x6100 + i⟩
def NI_CNT2_FENCED_CNT (i : Nat) : Fld := ⟨NI_CNT2 i, 16, 16, false, 0x6100 + i⟩

/-- The offset of register FW_RD. -/
def FW_RD (i j : Nat) : Nat := 0x63000 + i * 0x40 + j * 0x4
def FW_RD_MASK (i j : Nat) : Fld := ⟨FW_RD i j, 0, 32, true, 0x6300 + i⟩

/-- The offset of register FW_WR. -/
def FW_WR (i j : Nat) : Nat := 0x63020 + i * 0x40 + j * 0x4
def FW_WR_MASK (i j : Nat) : Fld := ⟨FW_WR i j, 0, 32, true, 0x6300 + i⟩

/-- The offset of register DR_MAP. -/
def DR_MAP : Nat := 0x80000
def DR_MAP_MAP_MODE : Fld := ⟨DR_MAP, 0, 1, true, 0x4800⟩
def DR_MAP_MODE_ACTIVE : Fld := ⟨DR_MAP, 1, 1, false, 0x4800⟩
def DR_MAP_N_CH : Fld := ⟨DR_MAP, 2, 6, false, 0x4800⟩

/-- The offset of register DR_GAP. -/
def DR_GAP : Nat := 0x80004
def DR_GAP_GAP_BASE : Fld := ⟨DR_GAP, 0, 16, false, 0x4800⟩
def DR_GAP_GAP_SIZE : Fld := ⟨DR_GAP, 16, 16, false, 0x4800⟩

/-- The offset of register DR_TEMP. -/
def DR_TEMP (i : Nat) : Nat := 0x80010 + i * 0x10000
def DR_TEMP_T0 (i : Nat) : Fld := ⟨DR_TEMP i, 0, 8, false, 0x4808 + i⟩
def DR_TEMP_T1 (i : Nat) : Fld := ⟨DR_TEMP i, 8, 8, false, 0x4808 + i⟩
def DR_TEMP_T2 (i : Nat) : Fld := ⟨DR_TEMP i, 16, 8, false, 0x4808 + i⟩
def DR_TEMP_T3 (i : Nat) : Fld := ⟨DR_TEMP i, 24, 8, false, 0x4808 + i⟩

/-- The offset of register DR_TEMP_EVT. -/
def DR_TEMP_EVT (i : Nat) : Nat := 0x80014 + i * 0x10000
def DR_TEMP_EVT_FAST_ON (i : Nat) : Fld := ⟨DR_TEMP_EVT i, 0, 1, false, 0x4808 + i⟩
def DR_TEMP_EVT_FAST_OFF (i : Nat) : Fld := ⟨DR_TEMP_EVT i, 1, 1, false, 0x4808 + i⟩
def DR_TEMP_EVT_HOT95 (i : Nat) : Fld := ⟨DR_TEMP_EVT i, 2, 1, false, 0x4808 + i⟩

/-- The offset of register CH_CTL. -/
def CH_CTL (i j : Nat) : Nat := 0x81000 + i * 0x10000 + j * 0x100
def CH_CTL_PAGE_MODE (i j : Nat) : Fld := ⟨CH_CTL i j, 0, 2, false, 0x4810 + i * 16 + j⟩
def CH_CTL_HIT_LIMIT (i j : Nat) : Fld := ⟨CH_CTL i j, 2, 4, false, 0x4810 + i * 16 + j⟩
def CH_CTL_BRINGUP (i j : Nat) : Fld := ⟨CH_CTL i j, 6, 1, true, 0x4810 + i * 16 + j⟩

/-- The offset of register CH_STS. -/
def CH_STS (i j : Nat) : Nat := 0x81004 + i * 0x10000 + j * 0x100
def CH_STS_QUEUED (i j : Nat) : Fld := ⟨CH_STS i j, 0, 10, false, 0x4810 + i * 16 + j⟩
def CH_STS_FAST_REFRESH (i j : Nat) : Fld := ⟨CH_STS i j, 10, 1, false, 0x4810 + i * 16 + j⟩
def CH_STS_SELF_REFRESH (i j : Nat) : Fld := ⟨CH_STS i j, 11, 1, false, 0x4810 + i * 16 + j⟩
def CH_STS_DLY_MOVING (i j : Nat) : Fld := ⟨CH_STS i j, 12, 1, false, 0x4810 + i * 16 + j⟩
def CH_STS_BRINGUP_BUSY (i j : Nat) : Fld := ⟨CH_STS i j, 13, 1, false, 0x4810 + i * 16 + j⟩

/-- The offset of register CH_EVT. -/
def CH_EVT (i j : Nat) : Nat := 0x81008 + i * 0x10000 + j * 0x100
def CH_EVT_OVERDUE (i j : Nat) : Fld := ⟨CH_EVT i j, 0, 1, false, 0x4810 + i * 16 + j⟩
def CH_EVT_MISSED (i j : Nat) : Fld := ⟨CH_EVT i j, 1, 1, false, 0x4810 + i * 16 + j⟩
def CH_EVT_BRINGUP_FAIL (i j : Nat) : Fld := ⟨CH_EVT i j, 2, 1, false, 0x4810 + i * 16 + j⟩
def CH_EVT_DLY_DONE (i j : Nat) : Fld := ⟨CH_EVT i j, 3, 1, false, 0x4810 + i * 16 + j⟩
def CH_EVT_REFRESH_FORCED (i j : Nat) : Fld := ⟨CH_EVT i j, 4, 1, false, 0x4810 + i * 16 + j⟩

/-- The offset of register CTX_CTL. -/
def CTX_CTL : Nat := 0x70000
def CTX_CTL_INIT : Fld := ⟨CTX_CTL, 0, 1, true, 0x6800⟩
def CTX_CTL_COMMIT : Fld := ⟨CTX_CTL, 1, 1, true, 0x6800⟩
def CTX_CTL_DISCARD : Fld := ⟨CTX_CTL, 2, 1, true, 0x6800⟩
def CTX_CTL_SWEEP : Fld := ⟨CTX_CTL, 3, 1, true, 0x6800⟩
def CTX_CTL_ABORT : Fld := ⟨CTX_CTL, 4, 1, false, 0x6800⟩
def CTX_CTL_OP_GO : Fld := ⟨CTX_CTL, 5, 1, true, 0x6800⟩
def CTX_CTL_KEY_BITS : Fld := ⟨CTX_CTL, 6, 2, true, 0x6800⟩
def CTX_CTL_OP : Fld := ⟨CTX_CTL, 8, 2, false, 0x6800⟩
def CTX_CTL_SEL : Fld := ⟨CTX_CTL, 10, 2, false, 0x6800⟩
def CTX_CTL_REPORT_ONLY : Fld := ⟨CTX_CTL, 12, 1, false, 0x6800⟩

/-- The offset of register CTX_KEY. -/
def CTX_KEY (i : Nat) : Nat := 0x70010 + i * 0x4
def CTX_KEY_KEY (i : Nat) : Fld := ⟨CTX_KEY i, 0, 32, false, 0x6801⟩

/-- The offset of register CTX_NKEY. -/
def CTX_NKEY (i : Nat) : Nat := 0x70040 + i * 0x4
def CTX_NKEY_NKEY (i : Nat) : Fld := ⟨CTX_NKEY i, 0, 32, false, 0x6801⟩

/-- The offset of register CTX_DATA. -/
def CTX_DATA (i : Nat) : Nat := 0x70080 + i * 0x4
def CTX_DATA_DATA (i : Nat) : Fld := ⟨CTX_DATA i, 0, 32, false, 0x6801⟩

/-- The offset of register CTX_AGE. -/
def CTX_AGE : Nat := 0x700E0
def CTX_AGE_AGE_MS : Fld := ⟨CTX_AGE, 0, 32, false, 0x6802⟩

/-- The offset of register CTX_MATCH_VAL. -/
def CTX_MATCH_VAL (i : Nat) : Nat := 0x700E4 + i * 0x4
def CTX_MATCH_VAL_WORD (i : Nat) : Fld := ⟨CTX_MATCH_VAL i, 0, 32, false, 0x6802⟩

/-- The offset of register CTX_MATCH_MASK. -/
def CTX_MATCH_MASK (i : Nat) : Nat := 0x700EC + i * 0x4
def CTX_MATCH_MASK_WORD (i : Nat) : Fld := ⟨CTX_MATCH_MASK i, 0, 32, false, 0x6802⟩

/-- The offset of register CTX_ENG_MAP. -/
def CTX_ENG_MAP : Nat := 0x700F4
def CTX_ENG_MAP_SHADOW : Fld := ⟨CTX_ENG_MAP, 0, 8, true, 0x6803⟩

/-- The offset of register CTX_ENG_RETIRE. -/
def CTX_ENG_RETIRE : Nat := 0x700F8
def CTX_ENG_RETIRE_MASK : Fld := ⟨CTX_ENG_RETIRE, 0, 4, true, 0x6803⟩

/-- The offset of register CTX_OPRES. -/
def CTX_OPRES : Nat := 0x70100
def CTX_OPRES_OP_CODE : Fld := ⟨CTX_OPRES, 0, 4, false, 0x6801⟩
def CTX_OPRES_OP_REASON : Fld := ⟨CTX_OPRES, 4, 4, false, 0x6801⟩
def CTX_OPRES_OP_INDEX : Fld := ⟨CTX_OPRES, 8, 22, false, 0x6801⟩

/-- The offset of register CTX_SWEEP_RES. -/
def CTX_SWEEP_RES : Nat := 0x70104
def CTX_SWEEP_RES_COUNT : Fld := ⟨CTX_SWEEP_RES, 0, 23, false, 0x6802⟩

/-- The offset of register CTX_VISIBLE. -/
def CTX_VISIBLE : Nat := 0x70108
def CTX_VISIBLE_COUNT : Fld := ⟨CTX_VISIBLE, 0, 23, false, 0x6804⟩

/-- The offset of register CTX_POISON. -/
def CTX_POISON : Nat := 0x7010C
def CTX_POISON_POISON_IDX : Fld := ⟨CTX_POISON, 0, 22, false, 0x6804⟩
def CTX_POISON_POISON_VALID : Fld := ⟨CTX_POISON, 31, 1, false, 0x6804⟩

/-- The offset of register CTX_STS. -/
def CTX_STS : Nat := 0x70120
def CTX_STS_IN_USE : Fld := ⟨CTX_STS, 0, 1, false, 0x6804⟩
def CTX_STS_COMMITTED : Fld := ⟨CTX_STS, 1, 1, false, 0x6804⟩
def CTX_STS_CLEANUP : Fld := ⟨CTX_STS, 2, 1, false, 0x6804⟩
def CTX_STS_BUSY : Fld := ⟨CTX_STS, 3, 1, false, 0x6804⟩
def CTX_STS_LIST_OVERFLOW : Fld := ⟨CTX_STS, 4, 1, false, 0x6804⟩
def CTX_STS_STAGED : Fld := ⟨CTX_STS, 5, 11, false, 0x6804⟩
def CTX_STS_ENG_MAP : Fld := ⟨CTX_STS, 16, 8, false, 0x6804⟩
def CTX_STS_ENG_LIVE : Fld := ⟨CTX_STS, 24, 4, false, 0x6804⟩

/-- The offset of register CTX_EVT. -/
def CTX_EVT : Nat := 0x70124
def CTX_EVT_OP_DONE : Fld := ⟨CTX_EVT, 0, 1, false, 0x6804⟩
def CTX_EVT_COMMIT_DONE : Fld := ⟨CTX_EVT, 1, 1, false, 0x6804⟩
def CTX_EVT_CLEANUP_DONE : Fld := ⟨CTX_EVT, 2, 1, false, 0x6804⟩
def CTX_EVT_SWEEP_DONE : Fld := ⟨CTX_EVT, 3, 1, false, 0x6804⟩
def CTX_EVT_INIT_DONE : Fld := ⟨CTX_EVT, 4, 1, false, 0x6804⟩
def CTX_EVT_REC_POISON : Fld := ⟨CTX_EVT, 5, 1, false, 0x6804⟩
def CTX_EVT_ENG_RETIRED : Fld := ⟨CTX_EVT, 6, 1, false, 0x6804⟩
def CTX_EVT_STORE_LOST : Fld := ⟨CTX_EVT, 7, 1, false, 0x6804⟩

/-- The offset of register CTX_HITS. -/
def CTX_HITS (i j : Nat) : Nat := 0x70200 + i * 0x10 + j * 0x4
def CTX_HITS_WORD (i j : Nat) : Fld := ⟨CTX_HITS i j, 0, 32, false, 0x6810 + i⟩

/-- The offset of register CTX_MISSES. -/
def CTX_MISSES (i : Nat) : Nat := 0x70208 + i * 0x10
def CTX_MISSES_CNT (i : Nat) : Fld := ⟨CTX_MISSES i, 0, 32, false, 0x6810 + i⟩

/-- The offset of register CTX_NO_CTX. -/
def CTX_NO_CTX (i : Nat) : Nat := 0x7020C + i * 0x10
def CTX_NO_CTX_CNT (i : Nat) : Fld := ⟨CTX_NO_CTX i, 0, 32, false, 0x6810 + i⟩

/-- The offset of register PORT_LAT0. -/
def PORT_LAT0 (i j : Nat) : Nat := 0x81010 + i * 0x100 + j * 0x4
def PORT_LAT0_LAT_NS (i j : Nat) : Fld := ⟨PORT_LAT0 i j, 0, 16, false, 0x4810 + i⟩

/-- The offset of register PORT_LAT1. -/
def PORT_LAT1 (i j : Nat) : Nat := 0x91010 + i * 0x100 + j * 0x4
def PORT_LAT1_LAT_NS (i j : Nat) : Fld := ⟨PORT_LAT1 i j, 0, 16, false, 0x4820 + i⟩

/-- The offset of register CH_RDWR0. -/
def CH_RDWR0 (i j : Nat) : Nat := 0x81030 + i * 0x100 + j * 0x4
def CH_RDWR0_WORD (i j : Nat) : Fld := ⟨CH_RDWR0 i j, 0, 32, false, 0x4810 + i⟩

/-- The offset of register CH_RDWR1. -/
def CH_RDWR1 (i j : Nat) : Nat := 0x91030 + i * 0x100 + j * 0x4
def CH_RDWR1_WORD (i j : Nat) : Fld := ⟨CH_RDWR1 i j, 0, 32, false, 0x4820 + i⟩

/-- The offset of register DLY0. -/
def DLY0 (i j : Nat) : Nat := 0x81080 + i * 0x100 + j * 0x4
def DLY0_DELAY0 (i j : Nat) : Fld := ⟨DLY0 i j, 0, 7, false, 0x4810 + i⟩
def DLY0_DELAY1 (i j : Nat) : Fld := ⟨DLY0 i j, 8, 7, false, 0x4810 + i⟩
def DLY0_DELAY2 (i j : Nat) : Fld := ⟨DLY0 i j, 16, 7, false, 0x4810 + i⟩
def DLY0_DELAY3 (i j : Nat) : Fld := ⟨DLY0 i j, 24, 7, false, 0x4810 + i⟩

/-- The offset of register DLY1. -/
def DLY1 (i j : Nat) : Nat := 0x91080 + i * 0x100 + j * 0x4
def DLY1_DELAY0 (i j : Nat) : Fld := ⟨DLY1 i j, 0, 7, false, 0x4820 + i⟩
def DLY1_DELAY1 (i j : Nat) : Fld := ⟨DLY1 i j, 8, 7, false, 0x4820 + i⟩
def DLY1_DELAY2 (i j : Nat) : Fld := ⟨DLY1 i j, 16, 7, false, 0x4820 + i⟩
def DLY1_DELAY3 (i j : Nat) : Fld := ⟨DLY1 i j, 24, 7, false, 0x4820 + i⟩

/-- The offset of register CH_LAT_CNT. -/
def CH_LAT_CNT (i j : Nat) : Nat := 0x81040 + i * 0x10000 + j * 0x100
def CH_LAT_CNT_MISSED_CNT (i j : Nat) : Fld := ⟨CH_LAT_CNT i j, 0, 16, false, 0x4810 + i * 16 + j⟩
def CH_LAT_CNT_OVERDUE_CNT (i j : Nat) : Fld := ⟨CH_LAT_CNT i j, 16, 16, false, 0x4810 + i * 16 + j⟩

/-- The offset of register LINE_LANE_CTL. -/
def LINE_LANE_CTL (i : Nat) : Nat := 0xA0000 + i * 0x100
def LINE_LANE_CTL_EN (i : Nat) : Fld := ⟨LINE_LANE_CTL i, 0, 1, false, 0x5000 + i⟩
def LINE_LANE_CTL_PLL_SEL (i : Nat) : Fld := ⟨LINE_LANE_CTL i, 1, 1, false, 0x5000 + i⟩
def LINE_LANE_CTL_DIV (i : Nat) : Fld := ⟨LINE_LANE_CTL i, 2, 3, false, 0x5000 + i⟩
def LINE_LANE_CTL_PAM4 (i : Nat) : Fld := ⟨LINE_LANE_CTL i, 5, 1, false, 0x5000 + i⟩
def LINE_LANE_CTL_CODER (i : Nat) : Fld := ⟨LINE_LANE_CTL i, 6, 3, false, 0x5000 + i⟩
def LINE_LANE_CTL_WIDTH (i : Nat) : Fld := ⟨LINE_LANE_CTL i, 9, 2, false, 0x5000 + i⟩
def LINE_LANE_CTL_RX_INV (i : Nat) : Fld := ⟨LINE_LANE_CTL i, 11, 1, false, 0x5000 + i⟩
def LINE_LANE_CTL_TX_INV (i : Nat) : Fld := ⟨LINE_LANE_CTL i, 12, 1, false, 0x5000 + i⟩
def LINE_LANE_CTL_AUTO_ALIGN (i : Nat) : Fld := ⟨LINE_LANE_CTL i, 13, 1, false, 0x5000 + i⟩
def LINE_LANE_CTL_SCRAMBLE (i : Nat) : Fld := ⟨LINE_LANE_CTL i, 14, 1, false, 0x5000 + i⟩
def LINE_LANE_CTL_FREEZE (i : Nat) : Fld := ⟨LINE_LANE_CTL i, 15, 1, false, 0x5000 + i⟩
def LINE_LANE_CTL_SLIP (i : Nat) : Fld := ⟨LINE_LANE_CTL i, 16, 1, false, 0x5000 + i⟩
def LINE_LANE_CTL_RESTART (i : Nat) : Fld := ⟨LINE_LANE_CTL i, 17, 1, false, 0x5000 + i⟩
def LINE_LANE_CTL_RETIRE (i : Nat) : Fld := ⟨LINE_LANE_CTL i, 18, 1, true, 0x5000 + i⟩

/-- The offset of register LINE_TX_FIR. -/
def LINE_TX_FIR (i : Nat) : Nat := 0xA0004 + i * 0x100
def LINE_TX_FIR_PRE2 (i : Nat) : Fld := ⟨LINE_TX_FIR i, 0, 6, false, 0x5000 + i⟩
def LINE_TX_FIR_PRE1 (i : Nat) : Fld := ⟨LINE_TX_FIR i, 6, 6, false, 0x5000 + i⟩
def LINE_TX_FIR_MAIN (i : Nat) : Fld := ⟨LINE_TX_FIR i, 12, 6, false, 0x5000 + i⟩
def LINE_TX_FIR_POST1 (i : Nat) : Fld := ⟨LINE_TX_FIR i, 18, 6, false, 0x5000 + i⟩

/-- The offset of register LINE_CTLE. -/
def LINE_CTLE (i : Nat) : Nat := 0xA0008 + i * 0x100
def LINE_CTLE_CTLE (i : Nat) : Fld := ⟨LINE_CTLE i, 0, 5, false, 0x5000 + i⟩

/-- The offset of register LINE_FFE_LO. -/
def LINE_FFE_LO (i : Nat) : Nat := 0xA000C + i * 0x100
def LINE_FFE_LO_FFE0 (i : Nat) : Fld := ⟨LINE_FFE_LO i, 0, 8, false, 0x5000 + i⟩
def LINE_FFE_LO_FFE1 (i : Nat) : Fld := ⟨LINE_FFE_LO i, 8, 8, false, 0x5000 + i⟩
def LINE_FFE_LO_FFE2 (i : Nat) : Fld := ⟨LINE_FFE_LO i, 16, 8, false, 0x5000 + i⟩
def LINE_FFE_LO_FFE3 (i : Nat) : Fld := ⟨LINE_FFE_LO i, 24, 8, false, 0x5000 + i⟩

/-- The offset of register LINE_FFE_HI. -/
def LINE_FFE_HI (i : Nat) : Nat := 0xA0010 + i * 0x100
def LINE_FFE_HI_FFE4 (i : Nat) : Fld := ⟨LINE_FFE_HI i, 0, 8, false, 0x5000 + i⟩
def LINE_FFE_HI_FFE5 (i : Nat) : Fld := ⟨LINE_FFE_HI i, 8, 8, false, 0x5000 + i⟩
def LINE_FFE_HI_FFE6 (i : Nat) : Fld := ⟨LINE_FFE_HI i, 16, 8, false, 0x5000 + i⟩
def LINE_FFE_HI_FFE7 (i : Nat) : Fld := ⟨LINE_FFE_HI i, 24, 8, false, 0x5000 + i⟩

/-- The offset of register LINE_DFE. -/
def LINE_DFE (i j : Nat) : Nat := 0xA0014 + i * 0x100 + j * 0x4
def LINE_DFE_T0 (i j : Nat) : Fld := ⟨LINE_DFE i j, 0, 8, false, 0x5000 + i⟩
def LINE_DFE_T1 (i j : Nat) : Fld := ⟨LINE_DFE i j, 8, 8, false, 0x5000 + i⟩
def LINE_DFE_T2 (i j : Nat) : Fld := ⟨LINE_DFE i j, 16, 8, false, 0x5000 + i⟩
def LINE_DFE_T3 (i j : Nat) : Fld := ⟨LINE_DFE i j, 24, 8, false, 0x5000 + i⟩

/-- The offset of register LINE_ADAPT_CTL. -/
def LINE_ADAPT_CTL (i : Nat) : Nat := 0xA0024 + i * 0x100
def LINE_ADAPT_CTL_EQF_MIN (i : Nat) : Fld := ⟨LINE_ADAPT_CTL i, 0, 8, false, 0x5000 + i⟩
def LINE_ADAPT_CTL_ACQ_MS (i : Nat) : Fld := ⟨LINE_ADAPT_CTL i, 8, 16, false, 0x5000 + i⟩
def LINE_ADAPT_CTL_AUTO_RETIRE (i : Nat) : Fld := ⟨LINE_ADAPT_CTL i, 24, 1, false, 0x5000 + i⟩

/-- The offset of register LINE_LANE_STS. -/
def LINE_LANE_STS (i : Nat) : Nat := 0xA0028 + i * 0x100
def LINE_LANE_STS_STATE (i : Nat) : Fld := ⟨LINE_LANE_STS i, 0, 3, false, 0x5000 + i⟩
def LINE_LANE_STS_SIGNAL (i : Nat) : Fld := ⟨LINE_LANE_STS i, 3, 1, false, 0x5000 + i⟩
def LINE_LANE_STS_CDR_LOCK (i : Nat) : Fld := ⟨LINE_LANE_STS i, 4, 1, false, 0x5000 + i⟩
def LINE_LANE_STS_ALIGNED (i : Nat) : Fld := ⟨LINE_LANE_STS i, 5, 1, false, 0x5000 + i⟩
def LINE_LANE_STS_PLL_LOCK (i : Nat) : Fld := ⟨LINE_LANE_STS i, 6, 1, false, 0x5000 + i⟩
def LINE_LANE_STS_CHK_LOCKED (i : Nat) : Fld := ⟨LINE_LANE_STS i, 7, 1, false, 0x5000 + i⟩
def LINE_LANE_STS_EQF (i : Nat) : Fld := ⟨LINE_LANE_STS i, 8, 8, false, 0x5000 + i⟩
def LINE_LANE_STS_SLIP_BUSY (i : Nat) : Fld := ⟨LINE_LANE_STS i, 16, 1, false, 0x5000 + i⟩

/-- The offset of register LINE_LANE_EVT. -/
def LINE_LANE_EVT (i : Nat) : Nat := 0xA002C + i * 0x100
def LINE_LANE_EVT_LOS (i : Nat) : Fld := ⟨LINE_LANE_EVT i, 0, 1, false, 0x5000 + i⟩
def LINE_LANE_EVT_UP (i : Nat) : Fld := ⟨LINE_LANE_EVT i, 1, 1, false, 0x5000 + i⟩
def LINE_LANE_EVT_EQF_LOW (i : Nat) : Fld := ⟨LINE_LANE_EVT i, 2, 1, false, 0x5000 + i⟩
def LINE_LANE_EVT_ACQ_FAIL (i : Nat) : Fld := ⟨LINE_LANE_EVT i, 3, 1, false, 0x5000 + i⟩
def LINE_LANE_EVT_SLIP_DONE (i : Nat) : Fld := ⟨LINE_LANE_EVT i, 4, 1, false, 0x5000 + i⟩
def LINE_LANE_EVT_SLIP_REFUSED (i : Nat) : Fld := ⟨LINE_LANE_EVT i, 5, 1, false, 0x5000 + i⟩
def LINE_LANE_EVT_ALIGN_LOST (i : Nat) : Fld := ⟨LINE_LANE_EVT i, 6, 1, false, 0x5000 + i⟩
def LINE_LANE_EVT_RETIRED_EVT (i : Nat) : Fld := ⟨LINE_LANE_EVT i, 7, 1, false, 0x5000 + i⟩
def LINE_LANE_EVT_TX_UNDERFLOW (i : Nat) : Fld := ⟨LINE_LANE_EVT i, 8, 1, false, 0x5000 + i⟩
def LINE_LANE_EVT_RX_OVERFLOW (i : Nat) : Fld := ⟨LINE_LANE_EVT i, 9, 1, false, 0x5000 + i⟩
def LINE_LANE_EVT_DEC_UNCORR (i : Nat) : Fld := ⟨LINE_LANE_EVT i, 10, 1, false, 0x5000 + i⟩

/-- The offset of register LINE_PAT_CTL. -/
def LINE_PAT_CTL (i : Nat) : Nat := 0xA0030 + i * 0x100
def LINE_PAT_CTL_GEN (i : Nat) : Fld := ⟨LINE_PAT_CTL i, 0, 4, false, 0x5000 + i⟩
def LINE_PAT_CTL_CHK (i : Nat) : Fld := ⟨LINE_PAT_CTL i, 4, 4, false, 0x5000 + i⟩
def LINE_PAT_CTL_GEN_INV (i : Nat) : Fld := ⟨LINE_PAT_CTL i, 8, 1, false, 0x5000 + i⟩
def LINE_PAT_CTL_CHK_INV (i : Nat) : Fld := ⟨LINE_PAT_CTL i, 9, 1, false, 0x5000 + i⟩

/-- The offset of register LINE_USER_PAT. -/
def LINE_USER_PAT (i j : Nat) : Nat := 0xA0034 + i * 0x100 + j * 0x4
def LINE_USER_PAT_WORD (i j : Nat) : Fld := ⟨LINE_USER_PAT i j, 0, 32, false, 0x5000 + i⟩

/-- The offset of register LINE_INJ_CTL. -/
def LINE_INJ_CTL (i : Nat) : Nat := 0xA0044 + i * 0x100
def LINE_INJ_CTL_MODE (i : Nat) : Fld := ⟨LINE_INJ_CTL i, 0, 2, false, 0x5000 + i⟩
def LINE_INJ_CTL_LEN (i : Nat) : Fld := ⟨LINE_INJ_CTL i, 2, 8, false, 0x5000 + i⟩
def LINE_INJ_CTL_RATE_LOG (i : Nat) : Fld := ⟨LINE_INJ_CTL i, 10, 5, false, 0x5000 + i⟩
def LINE_INJ_CTL_GO (i : Nat) : Fld := ⟨LINE_INJ_CTL i, 15, 1, false, 0x5000 + i⟩

/-- The offset of register LINE_CHK_ERR. -/
def LINE_CHK_ERR (i j : Nat) : Nat := 0xA0048 + i * 0x100 + j * 0x4
def LINE_CHK_ERR_WORD (i j : Nat) : Fld := ⟨LINE_CHK_ERR i j, 0, 32, false, 0x5000 + i⟩

/-- The offset of register LINE_CHK_BITS. -/
def LINE_CHK_BITS (i j : Nat) : Nat := 0xA0050 + i * 0x100 + j * 0x4
def LINE_CHK_BITS_WORD (i j : Nat) : Fld := ⟨LINE_CHK_BITS i j, 0, 32, false, 0x5000 + i⟩

/-- The offset of register LINE_DEC_CORR. -/
def LINE_DEC_CORR (i : Nat) : Nat := 0xA0058 + i * 0x100
def LINE_DEC_CORR_CNT (i : Nat) : Fld := ⟨LINE_DEC_CORR i, 0, 32, false, 0x5000 + i⟩

/-- The offset of register LINE_DEC_UNCORR. -/
def LINE_DEC_UNCORR (i : Nat) : Nat := 0xA005C + i * 0x100
def LINE_DEC_UNCORR_CNT (i : Nat) : Fld := ⟨LINE_DEC_UNCORR i, 0, 32, false, 0x5000 + i⟩

/-- The offset of register LINE_CNT1. -/
def LINE_CNT1 (i : Nat) : Nat := 0xA0060 + i * 0x100
def LINE_CNT1_SLIP_CNT (i : Nat) : Fld := ⟨LINE_CNT1 i, 0, 16, false, 0x5000 + i⟩
def LINE_CNT1_ACQ_CNT (i : Nat) : Fld := ⟨LINE_CNT1 i, 16, 16, false, 0x5000 + i⟩

/-- The offset of register LINE_CNT2. -/
def LINE_CNT2 (i : Nat) : Nat := 0xA0064 + i * 0x100
def LINE_CNT2_TX_UNDER_CNT (i : Nat) : Fld := ⟨LINE_CNT2 i, 0, 16, false, 0x5000 + i⟩
def LINE_CNT2_RX_OVER_CNT (i : Nat) : Fld := ⟨LINE_CNT2 i, 16, 16, false, 0x5000 + i⟩

/-- The offset of register LINE_PLLA_KBD. -/
def LINE_PLLA_KBD (i : Nat) : Nat := 0xA4000 + i * 0x10
def LINE_PLLA_KBD_KBD (i : Nat) : Fld := ⟨LINE_PLLA_KBD i, 0, 32, true, 0x5300 + i⟩

/-- The offset of register LINE_PLLB_KBD. -/
def LINE_PLLB_KBD (i : Nat) : Nat := 0xA4004 + i * 0x10
def LINE_PLLB_KBD_KBD (i : Nat) : Fld := ⟨LINE_PLLB_KBD i, 0, 32, true, 0x5300 + i⟩

/-- The offset of register LINE_PLL_CMD. -/
def LINE_PLL_CMD (i : Nat) : Nat := 0xA4008 + i * 0x10
def LINE_PLL_CMD_APPLY_A (i : Nat) : Fld := ⟨LINE_PLL_CMD i, 0, 1, true, 0x5300 + i⟩
def LINE_PLL_CMD_APPLY_B (i : Nat) : Fld := ⟨LINE_PLL_CMD i, 1, 1, true, 0x5300 + i⟩

/-- The offset of register LINE_PLL_STS. -/
def LINE_PLL_STS (i : Nat) : Nat := 0xA400C + i * 0x10
def LINE_PLL_STS_LOCK_A (i : Nat) : Fld := ⟨LINE_PLL_STS i, 0, 1, false, 0x5300 + i⟩
def LINE_PLL_STS_LOCK_B (i : Nat) : Fld := ⟨LINE_PLL_STS i, 1, 1, false, 0x5300 + i⟩
def LINE_PLL_STS_APPLY_ERR (i : Nat) : Fld := ⟨LINE_PLL_STS i, 2, 1, false, 0x5300 + i⟩

/-- The offset of register HER_LANE_CTL. -/
def HER_LANE_CTL (i : Nat) : Nat := 0xB0000 + i * 0x100
def HER_LANE_CTL_EN (i : Nat) : Fld := ⟨HER_LANE_CTL i, 0, 1, false, 0x5100 + i⟩
def HER_LANE_CTL_PLL_SEL (i : Nat) : Fld := ⟨HER_LANE_CTL i, 1, 1, false, 0x5100 + i⟩
def HER_LANE_CTL_DIV (i : Nat) : Fld := ⟨HER_LANE_CTL i, 2, 3, false, 0x5100 + i⟩
def HER_LANE_CTL_CODER (i : Nat) : Fld := ⟨HER_LANE_CTL i, 6, 3, false, 0x5100 + i⟩
def HER_LANE_CTL_WIDTH (i : Nat) : Fld := ⟨HER_LANE_CTL i, 9, 2, false, 0x5100 + i⟩
def HER_LANE_CTL_RX_INV (i : Nat) : Fld := ⟨HER_LANE_CTL i, 11, 1, false, 0x5100 + i⟩
def HER_LANE_CTL_TX_INV (i : Nat) : Fld := ⟨HER_LANE_CTL i, 12, 1, false, 0x5100 + i⟩
def HER_LANE_CTL_AUTO_ALIGN (i : Nat) : Fld := ⟨HER_LANE_CTL i, 13, 1, false, 0x5100 + i⟩
def HER_LANE_CTL_SCRAMBLE (i : Nat) : Fld := ⟨HER_LANE_CTL i, 14, 1, false, 0x5100 + i⟩
def HER_LANE_CTL_FREEZE (i : Nat) : Fld := ⟨HER_LANE_CTL i, 15, 1, false, 0x5100 + i⟩
def HER_LANE_CTL_SLIP (i : Nat) : Fld := ⟨HER_LANE_CTL i, 16, 1, false, 0x5100 + i⟩
def HER_LANE_CTL_RESTART (i : Nat) : Fld := ⟨HER_LANE_CTL i, 17, 1, false, 0x5100 + i⟩
def HER_LANE_CTL_RETIRE (i : Nat) : Fld := ⟨HER_LANE_CTL i, 18, 1, true, 0x5100 + i⟩

/-- The offset of register HER_TX_FIR. -/
def HER_TX_FIR (i : Nat) : Nat := 0xB0004 + i * 0x100
def HER_TX_FIR_PRE1 (i : Nat) : Fld := ⟨HER_TX_FIR i, 6, 6, false, 0x5100 + i⟩
def HER_TX_FIR_MAIN (i : Nat) : Fld := ⟨HER_TX_FIR i, 12, 6, false, 0x5100 + i⟩
def HER_TX_FIR_POST1 (i : Nat) : Fld := ⟨HER_TX_FIR i, 18, 6, false, 0x5100 + i⟩

/-- The offset of register HER_CTLE. -/
def HER_CTLE (i : Nat) : Nat := 0xB0008 + i * 0x100
def HER_CTLE_CTLE (i : Nat) : Fld := ⟨HER_CTLE i, 0, 5, false, 0x5100 + i⟩

/-- The offset of register HER_DFE. -/
def HER_DFE (i : Nat) : Nat := 0xB0014 + i * 0x100
def HER_DFE_T0 (i : Nat) : Fld := ⟨HER_DFE i, 0, 8, false, 0x5100 + i⟩
def HER_DFE_T1 (i : Nat) : Fld := ⟨HER_DFE i, 8, 8, false, 0x5100 + i⟩
def HER_DFE_T2 (i : Nat) : Fld := ⟨HER_DFE i, 16, 8, false, 0x5100 + i⟩
def HER_DFE_T3 (i : Nat) : Fld := ⟨HER_DFE i, 24, 8, false, 0x5100 + i⟩

/-- The offset of register HER_DFE5. -/
def HER_DFE5 (i : Nat) : Nat := 0xB0018 + i * 0x100
def HER_DFE5_T0 (i : Nat) : Fld := ⟨HER_DFE5 i, 0, 8, false, 0x5100 + i⟩

/-- The offset of register HER_ADAPT_CTL. -/
def HER_ADAPT_CTL (i : Nat) : Nat := 0xB0024 + i * 0x100
def HER_ADAPT_CTL_EQF_MIN (i : Nat) : Fld := ⟨HER_ADAPT_CTL i, 0, 8, false, 0x5100 + i⟩
def HER_ADAPT_CTL_ACQ_MS (i : Nat) : Fld := ⟨HER_ADAPT_CTL i, 8, 16, false, 0x5100 + i⟩
def HER_ADAPT_CTL_AUTO_RETIRE (i : Nat) : Fld := ⟨HER_ADAPT_CTL i, 24, 1, false, 0x5100 + i⟩

/-- The offset of register HER_LANE_STS. -/
def HER_LANE_STS (i : Nat) : Nat := 0xB0028 + i * 0x100
def HER_LANE_STS_STATE (i : Nat) : Fld := ⟨HER_LANE_STS i, 0, 3, false, 0x5100 + i⟩
def HER_LANE_STS_SIGNAL (i : Nat) : Fld := ⟨HER_LANE_STS i, 3, 1, false, 0x5100 + i⟩
def HER_LANE_STS_CDR_LOCK (i : Nat) : Fld := ⟨HER_LANE_STS i, 4, 1, false, 0x5100 + i⟩
def HER_LANE_STS_ALIGNED (i : Nat) : Fld := ⟨HER_LANE_STS i, 5, 1, false, 0x5100 + i⟩
def HER_LANE_STS_PLL_LOCK (i : Nat) : Fld := ⟨HER_LANE_STS i, 6, 1, false, 0x5100 + i⟩
def HER_LANE_STS_CHK_LOCKED (i : Nat) : Fld := ⟨HER_LANE_STS i, 7, 1, false, 0x5100 + i⟩
def HER_LANE_STS_EQF (i : Nat) : Fld := ⟨HER_LANE_STS i, 8, 8, false, 0x5100 + i⟩
def HER_LANE_STS_SLIP_BUSY (i : Nat) : Fld := ⟨HER_LANE_STS i, 16, 1, false, 0x5100 + i⟩

/-- The offset of register HER_LANE_EVT. -/
def HER_LANE_EVT (i : Nat) : Nat := 0xB002C + i * 0x100
def HER_LANE_EVT_LOS (i : Nat) : Fld := ⟨HER_LANE_EVT i, 0, 1, false, 0x5100 + i⟩
def HER_LANE_EVT_UP (i : Nat) : Fld := ⟨HER_LANE_EVT i, 1, 1, false, 0x5100 + i⟩
def HER_LANE_EVT_EQF_LOW (i : Nat) : Fld := ⟨HER_LANE_EVT i, 2, 1, false, 0x5100 + i⟩
def HER_LANE_EVT_ACQ_FAIL (i : Nat) : Fld := ⟨HER_LANE_EVT i, 3, 1, false, 0x5100 + i⟩
def HER_LANE_EVT_SLIP_DONE (i : Nat) : Fld := ⟨HER_LANE_EVT i, 4, 1, false, 0x5100 + i⟩
def HER_LANE_EVT_SLIP_REFUSED (i : Nat) : Fld := ⟨HER_LANE_EVT i, 5, 1, false, 0x5100 + i⟩
def HER_LANE_EVT_ALIGN_LOST (i : Nat) : Fld := ⟨HER_LANE_EVT i, 6, 1, false, 0x5100 + i⟩
def HER_LANE_EVT_RETIRED_EVT (i : Nat) : Fld := ⟨HER_LANE_EVT i, 7, 1, false, 0x5100 + i⟩
def HER_LANE_EVT_TX_UNDERFLOW (i : Nat) : Fld := ⟨HER_LANE_EVT i, 8, 1, false, 0x5100 + i⟩
def HER_LANE_EVT_RX_OVERFLOW (i : Nat) : Fld := ⟨HER_LANE_EVT i, 9, 1, false, 0x5100 + i⟩
def HER_LANE_EVT_DEC_UNCORR (i : Nat) : Fld := ⟨HER_LANE_EVT i, 10, 1, false, 0x5100 + i⟩

/-- The offset of register HER_PAT_CTL. -/
def HER_PAT_CTL (i : Nat) : Nat := 0xB0030 + i * 0x100
def HER_PAT_CTL_GEN (i : Nat) : Fld := ⟨HER_PAT_CTL i, 0, 4, false, 0x5100 + i⟩
def HER_PAT_CTL_CHK (i : Nat) : Fld := ⟨HER_PAT_CTL i, 4, 4, false, 0x5100 + i⟩
def HER_PAT_CTL_GEN_INV (i : Nat) : Fld := ⟨HER_PAT_CTL i, 8, 1, false, 0x5100 + i⟩
def HER_PAT_CTL_CHK_INV (i : Nat) : Fld := ⟨HER_PAT_CTL i, 9, 1, false, 0x5100 + i⟩

/-- The offset of register HER_USER_PAT. -/
def HER_USER_PAT (i j : Nat) : Nat := 0xB0034 + i * 0x100 + j * 0x4
def HER_USER_PAT_WORD (i j : Nat) : Fld := ⟨HER_USER_PAT i j, 0, 32, false, 0x5100 + i⟩

/-- The offset of register HER_INJ_CTL. -/
def HER_INJ_CTL (i : Nat) : Nat := 0xB0044 + i * 0x100
def HER_INJ_CTL_MODE (i : Nat) : Fld := ⟨HER_INJ_CTL i, 0, 2, false, 0x5100 + i⟩
def HER_INJ_CTL_LEN (i : Nat) : Fld := ⟨HER_INJ_CTL i, 2, 8, false, 0x5100 + i⟩
def HER_INJ_CTL_RATE_LOG (i : Nat) : Fld := ⟨HER_INJ_CTL i, 10, 5, false, 0x5100 + i⟩
def HER_INJ_CTL_GO (i : Nat) : Fld := ⟨HER_INJ_CTL i, 15, 1, false, 0x5100 + i⟩

/-- The offset of register HER_CHK_ERR. -/
def HER_CHK_ERR (i j : Nat) : Nat := 0xB0048 + i * 0x100 + j * 0x4
def HER_CHK_ERR_WORD (i j : Nat) : Fld := ⟨HER_CHK_ERR i j, 0, 32, false, 0x5100 + i⟩

/-- The offset of register HER_CHK_BITS. -/
def HER_CHK_BITS (i j : Nat) : Nat := 0xB0050 + i * 0x100 + j * 0x4
def HER_CHK_BITS_WORD (i j : Nat) : Fld := ⟨HER_CHK_BITS i j, 0, 32, false, 0x5100 + i⟩

/-- The offset of register HER_DEC_CORR. -/
def HER_DEC_CORR (i : Nat) : Nat := 0xB0058 + i * 0x100
def HER_DEC_CORR_CNT (i : Nat) : Fld := ⟨HER_DEC_CORR i, 0, 32, false, 0x5100 + i⟩

/-- The offset of register HER_DEC_UNCORR. -/
def HER_DEC_UNCORR (i : Nat) : Nat := 0xB005C + i * 0x100
def HER_DEC_UNCORR_CNT (i : Nat) : Fld := ⟨HER_DEC_UNCORR i, 0, 32, false, 0x5100 + i⟩

/-- The offset of register HER_CNT1. -/
def HER_CNT1 (i : Nat) : Nat := 0xB0060 + i * 0x100
def HER_CNT1_SLIP_CNT (i : Nat) : Fld := ⟨HER_CNT1 i, 0, 16, false, 0x5100 + i⟩
def HER_CNT1_ACQ_CNT (i : Nat) : Fld := ⟨HER_CNT1 i, 16, 16, false, 0x5100 + i⟩

/-- The offset of register HER_CNT2. -/
def HER_CNT2 (i : Nat) : Nat := 0xB0064 + i * 0x100
def HER_CNT2_TX_UNDER_CNT (i : Nat) : Fld := ⟨HER_CNT2 i, 0, 16, false, 0x5100 + i⟩
def HER_CNT2_RX_OVER_CNT (i : Nat) : Fld := ⟨HER_CNT2 i, 16, 16, false, 0x5100 + i⟩

/-- The offset of register HER_PLLA_KBD. -/
def HER_PLLA_KBD (i : Nat) : Nat := 0xB4000 + i * 0x10
def HER_PLLA_KBD_KBD (i : Nat) : Fld := ⟨HER_PLLA_KBD i, 0, 32, true, 0x5310 + i⟩

/-- The offset of register HER_PLLB_KBD. -/
def HER_PLLB_KBD (i : Nat) : Nat := 0xB4004 + i * 0x10
def HER_PLLB_KBD_KBD (i : Nat) : Fld := ⟨HER_PLLB_KBD i, 0, 32, true, 0x5310 + i⟩

/-- The offset of register HER_PLL_CMD. -/
def HER_PLL_CMD (i : Nat) : Nat := 0xB4008 + i * 0x10
def HER_PLL_CMD_APPLY_A (i : Nat) : Fld := ⟨HER_PLL_CMD i, 0, 1, true, 0x5310 + i⟩
def HER_PLL_CMD_APPLY_B (i : Nat) : Fld := ⟨HER_PLL_CMD i, 1, 1, true, 0x5310 + i⟩

/-- The offset of register HER_PLL_STS. -/
def HER_PLL_STS (i : Nat) : Nat := 0xB400C + i * 0x10
def HER_PLL_STS_LOCK_A (i : Nat) : Fld := ⟨HER_PLL_STS i, 0, 1, false, 0x5310 + i⟩
def HER_PLL_STS_LOCK_B (i : Nat) : Fld := ⟨HER_PLL_STS i, 1, 1, false, 0x5310 + i⟩
def HER_PLL_STS_APPLY_ERR (i : Nat) : Fld := ⟨HER_PLL_STS i, 2, 1, false, 0x5310 + i⟩

/-- The offset of register PL_LANE_CTL. -/
def PL_LANE_CTL (i : Nat) : Nat := 0xC4000 + i * 0x100
def PL_LANE_CTL_RX_INV (i : Nat) : Fld := ⟨PL_LANE_CTL i, 11, 1, false, 0x5200 + i⟩
def PL_LANE_CTL_TX_INV (i : Nat) : Fld := ⟨PL_LANE_CTL i, 12, 1, false, 0x5200 + i⟩
def PL_LANE_CTL_FREEZE (i : Nat) : Fld := ⟨PL_LANE_CTL i, 15, 1, false, 0x5200 + i⟩
def PL_LANE_CTL_RESTART (i : Nat) : Fld := ⟨PL_LANE_CTL i, 17, 1, false, 0x5200 + i⟩
def PL_LANE_CTL_RETIRE (i : Nat) : Fld := ⟨PL_LANE_CTL i, 18, 1, true, 0x5200 + i⟩

/-- The offset of register PL_TX_FIR. -/
def PL_TX_FIR (i : Nat) : Nat := 0xC4004 + i * 0x100
def PL_TX_FIR_PRE2 (i : Nat) : Fld := ⟨PL_TX_FIR i, 0, 6, false, 0x5200 + i⟩
def PL_TX_FIR_PRE1 (i : Nat) : Fld := ⟨PL_TX_FIR i, 6, 6, false, 0x5200 + i⟩
def PL_TX_FIR_MAIN (i : Nat) : Fld := ⟨PL_TX_FIR i, 12, 6, false, 0x5200 + i⟩
def PL_TX_FIR_POST1 (i : Nat) : Fld := ⟨PL_TX_FIR i, 18, 6, false, 0x5200 + i⟩

/-- The offset of register PL_CTLE. -/
def PL_CTLE (i : Nat) : Nat := 0xC4008 + i * 0x100
def PL_CTLE_CTLE (i : Nat) : Fld := ⟨PL_CTLE i, 0, 5, false, 0x5200 + i⟩

/-- The offset of register PL_FFE_LO. -/
def PL_FFE_LO (i : Nat) : Nat := 0xC400C + i * 0x100
def PL_FFE_LO_FFE0 (i : Nat) : Fld := ⟨PL_FFE_LO i, 0, 8, false, 0x5200 + i⟩
def PL_FFE_LO_FFE1 (i : Nat) : Fld := ⟨PL_FFE_LO i, 8, 8, false, 0x5200 + i⟩
def PL_FFE_LO_FFE2 (i : Nat) : Fld := ⟨PL_FFE_LO i, 16, 8, false, 0x5200 + i⟩
def PL_FFE_LO_FFE3 (i : Nat) : Fld := ⟨PL_FFE_LO i, 24, 8, false, 0x5200 + i⟩

/-- The offset of register PL_FFE_HI. -/
def PL_FFE_HI (i : Nat) : Nat := 0xC4010 + i * 0x100
def PL_FFE_HI_FFE4 (i : Nat) : Fld := ⟨PL_FFE_HI i, 0, 8, false, 0x5200 + i⟩
def PL_FFE_HI_FFE5 (i : Nat) : Fld := ⟨PL_FFE_HI i, 8, 8, false, 0x5200 + i⟩
def PL_FFE_HI_FFE6 (i : Nat) : Fld := ⟨PL_FFE_HI i, 16, 8, false, 0x5200 + i⟩
def PL_FFE_HI_FFE7 (i : Nat) : Fld := ⟨PL_FFE_HI i, 24, 8, false, 0x5200 + i⟩

/-- The offset of register PL_DFE. -/
def PL_DFE (i j : Nat) : Nat := 0xC4014 + i * 0x100 + j * 0x4
def PL_DFE_T0 (i j : Nat) : Fld := ⟨PL_DFE i j, 0, 8, false, 0x5200 + i⟩
def PL_DFE_T1 (i j : Nat) : Fld := ⟨PL_DFE i j, 8, 8, false, 0x5200 + i⟩
def PL_DFE_T2 (i j : Nat) : Fld := ⟨PL_DFE i j, 16, 8, false, 0x5200 + i⟩
def PL_DFE_T3 (i j : Nat) : Fld := ⟨PL_DFE i j, 24, 8, false, 0x5200 + i⟩

/-- The offset of register PL_ADAPT_CTL. -/
def PL_ADAPT_CTL (i : Nat) : Nat := 0xC4024 + i * 0x100
def PL_ADAPT_CTL_EQF_MIN (i : Nat) : Fld := ⟨PL_ADAPT_CTL i, 0, 8, false, 0x5200 + i⟩
def PL_ADAPT_CTL_ACQ_MS (i : Nat) : Fld := ⟨PL_ADAPT_CTL i, 8, 16, false, 0x5200 + i⟩
def PL_ADAPT_CTL_AUTO_RETIRE (i : Nat) : Fld := ⟨PL_ADAPT_CTL i, 24, 1, false, 0x5200 + i⟩

/-- The offset of register PL_LANE_STS. -/
def PL_LANE_STS (i : Nat) : Nat := 0xC4028 + i * 0x100
def PL_LANE_STS_STATE (i : Nat) : Fld := ⟨PL_LANE_STS i, 0, 3, false, 0x5200 + i⟩
def PL_LANE_STS_SIGNAL (i : Nat) : Fld := ⟨PL_LANE_STS i, 3, 1, false, 0x5200 + i⟩
def PL_LANE_STS_CDR_LOCK (i : Nat) : Fld := ⟨PL_LANE_STS i, 4, 1, false, 0x5200 + i⟩
def PL_LANE_STS_ALIGNED (i : Nat) : Fld := ⟨PL_LANE_STS i, 5, 1, false, 0x5200 + i⟩
def PL_LANE_STS_PLL_LOCK (i : Nat) : Fld := ⟨PL_LANE_STS i, 6, 1, false, 0x5200 + i⟩
def PL_LANE_STS_CHK_LOCKED (i : Nat) : Fld := ⟨PL_LANE_STS i, 7, 1, false, 0x5200 + i⟩
def PL_LANE_STS_EQF (i : Nat) : Fld := ⟨PL_LANE_STS i, 8, 8, false, 0x5200 + i⟩
def PL_LANE_STS_SLIP_BUSY (i : Nat) : Fld := ⟨PL_LANE_STS i, 16, 1, false, 0x5200 + i⟩

/-- The offset of register PL_LANE_EVT. -/
def PL_LANE_EVT (i : Nat) : Nat := 0xC402C + i * 0x100
def PL_LANE_EVT_LOS (i : Nat) : Fld := ⟨PL_LANE_EVT i, 0, 1, false, 0x5200 + i⟩
def PL_LANE_EVT_UP (i : Nat) : Fld := ⟨PL_LANE_EVT i, 1, 1, false, 0x5200 + i⟩
def PL_LANE_EVT_EQF_LOW (i : Nat) : Fld := ⟨PL_LANE_EVT i, 2, 1, false, 0x5200 + i⟩
def PL_LANE_EVT_ACQ_FAIL (i : Nat) : Fld := ⟨PL_LANE_EVT i, 3, 1, false, 0x5200 + i⟩
def PL_LANE_EVT_SLIP_DONE (i : Nat) : Fld := ⟨PL_LANE_EVT i, 4, 1, false, 0x5200 + i⟩
def PL_LANE_EVT_SLIP_REFUSED (i : Nat) : Fld := ⟨PL_LANE_EVT i, 5, 1, false, 0x5200 + i⟩
def PL_LANE_EVT_ALIGN_LOST (i : Nat) : Fld := ⟨PL_LANE_EVT i, 6, 1, false, 0x5200 + i⟩
def PL_LANE_EVT_RETIRED_EVT (i : Nat) : Fld := ⟨PL_LANE_EVT i, 7, 1, false, 0x5200 + i⟩
def PL_LANE_EVT_TX_UNDERFLOW (i : Nat) : Fld := ⟨PL_LANE_EVT i, 8, 1, false, 0x5200 + i⟩
def PL_LANE_EVT_RX_OVERFLOW (i : Nat) : Fld := ⟨PL_LANE_EVT i, 9, 1, false, 0x5200 + i⟩
def PL_LANE_EVT_DEC_UNCORR (i : Nat) : Fld := ⟨PL_LANE_EVT i, 10, 1, false, 0x5200 + i⟩

/-- The offset of register PL_PAT_CTL. -/
def PL_PAT_CTL (i : Nat) : Nat := 0xC4030 + i * 0x100
def PL_PAT_CTL_GEN (i : Nat) : Fld := ⟨PL_PAT_CTL i, 0, 4, false, 0x5200 + i⟩
def PL_PAT_CTL_CHK (i : Nat) : Fld := ⟨PL_PAT_CTL i, 4, 4, false, 0x5200 + i⟩
def PL_PAT_CTL_GEN_INV (i : Nat) : Fld := ⟨PL_PAT_CTL i, 8, 1, false, 0x5200 + i⟩
def PL_PAT_CTL_CHK_INV (i : Nat) : Fld := ⟨PL_PAT_CTL i, 9, 1, false, 0x5200 + i⟩

/-- The offset of register PL_USER_PAT. -/
def PL_USER_PAT (i j : Nat) : Nat := 0xC4034 + i * 0x100 + j * 0x4
def PL_USER_PAT_WORD (i j : Nat) : Fld := ⟨PL_USER_PAT i j, 0, 32, false, 0x5200 + i⟩

/-- The offset of register PL_INJ_CTL. -/
def PL_INJ_CTL (i : Nat) : Nat := 0xC4044 + i * 0x100
def PL_INJ_CTL_MODE (i : Nat) : Fld := ⟨PL_INJ_CTL i, 0, 2, false, 0x5200 + i⟩
def PL_INJ_CTL_LEN (i : Nat) : Fld := ⟨PL_INJ_CTL i, 2, 8, false, 0x5200 + i⟩
def PL_INJ_CTL_RATE_LOG (i : Nat) : Fld := ⟨PL_INJ_CTL i, 10, 5, false, 0x5200 + i⟩
def PL_INJ_CTL_GO (i : Nat) : Fld := ⟨PL_INJ_CTL i, 15, 1, false, 0x5200 + i⟩

/-- The offset of register PL_CHK_ERR. -/
def PL_CHK_ERR (i j : Nat) : Nat := 0xC4048 + i * 0x100 + j * 0x4
def PL_CHK_ERR_WORD (i j : Nat) : Fld := ⟨PL_CHK_ERR i j, 0, 32, false, 0x5200 + i⟩

/-- The offset of register PL_CHK_BITS. -/
def PL_CHK_BITS (i j : Nat) : Nat := 0xC4050 + i * 0x100 + j * 0x4
def PL_CHK_BITS_WORD (i j : Nat) : Fld := ⟨PL_CHK_BITS i j, 0, 32, false, 0x5200 + i⟩

/-- The offset of register PL_DEC_CORR. -/
def PL_DEC_CORR (i : Nat) : Nat := 0xC4058 + i * 0x100
def PL_DEC_CORR_CNT (i : Nat) : Fld := ⟨PL_DEC_CORR i, 0, 32, false, 0x5200 + i⟩

/-- The offset of register PL_DEC_UNCORR. -/
def PL_DEC_UNCORR (i : Nat) : Nat := 0xC405C + i * 0x100
def PL_DEC_UNCORR_CNT (i : Nat) : Fld := ⟨PL_DEC_UNCORR i, 0, 32, false, 0x5200 + i⟩

/-- The offset of register PL_CNT1. -/
def PL_CNT1 (i : Nat) : Nat := 0xC4060 + i * 0x100
def PL_CNT1_SLIP_CNT (i : Nat) : Fld := ⟨PL_CNT1 i, 0, 16, false, 0x5200 + i⟩
def PL_CNT1_ACQ_CNT (i : Nat) : Fld := ⟨PL_CNT1 i, 16, 16, false, 0x5200 + i⟩

/-- The offset of register PL_CNT2. -/
def PL_CNT2 (i : Nat) : Nat := 0xC4064 + i * 0x100
def PL_CNT2_TX_UNDER_CNT (i : Nat) : Fld := ⟨PL_CNT2 i, 0, 16, false, 0x5200 + i⟩
def PL_CNT2_RX_OVER_CNT (i : Nat) : Fld := ⟨PL_CNT2 i, 16, 16, false, 0x5200 + i⟩

/-- The offset of register PWR_CTL. -/
def PWR_CTL : Nat := 0x20000
def PWR_CTL_COMPAT_WAKE : Fld := ⟨PWR_CTL, 0, 1, true, 0x2000⟩
def PWR_CTL_PIN_LEVEL : Fld := ⟨PWR_CTL, 1, 1, false, 0x2000⟩
def PWR_CTL_LEVEL_REQ : Fld := ⟨PWR_CTL, 2, 3, false, 0x2000⟩
def PWR_CTL_PIN_VINT : Fld := ⟨PWR_CTL, 5, 1, true, 0x2000⟩
def PWR_CTL_VTIER : Fld := ⟨PWR_CTL, 6, 2, true, 0x2000⟩

/-- The offset of register PWR_VINT. -/
def PWR_VINT : Nat := 0x20004
def PWR_VINT_VINT_PIN_MV : Fld := ⟨PWR_VINT, 0, 10, true, 0x2000⟩
def PWR_VINT_VINT_MV : Fld := ⟨PWR_VINT, 16, 10, false, 0x2000⟩
def PWR_VINT_VTIER_CUR : Fld := ⟨PWR_VINT, 26, 2, false, 0x2000⟩

/-- The offset of register PWR_STS. -/
def PWR_STS : Nat := 0x20008
def PWR_STS_LEVEL : Fld := ⟨PWR_STS, 0, 3, false, 0x2000⟩
def PWR_STS_LEVEL_BUSY : Fld := ⟨PWR_STS, 3, 1, false, 0x2000⟩
def PWR_STS_VOLT_UNCONFIRMED : Fld := ⟨PWR_STS, 4, 1, false, 0x2000⟩
def PWR_STS_AVS_BUSY : Fld := ⟨PWR_STS, 5, 1, false, 0x2000⟩
def PWR_STS_AVS_LAST_RAIL : Fld := ⟨PWR_STS, 6, 1, false, 0x2000⟩
def PWR_STS_VNOC_MV : Fld := ⟨PWR_STS, 16, 10, false, 0x2000⟩

/-- The offset of register PWR_EVT. -/
def PWR_EVT : Nat := 0x2000C
def PWR_EVT_LEVEL_DONE : Fld := ⟨PWR_EVT, 0, 1, false, 0x2000⟩
def PWR_EVT_AVS_FAULT : Fld := ⟨PWR_EVT, 1, 1, false, 0x2000⟩
def PWR_EVT_DOMAIN_DONE : Fld := ⟨PWR_EVT, 2, 1, false, 0x2000⟩
def PWR_EVT_DRAIN_TIMEOUT : Fld := ⟨PWR_EVT, 3, 1, false, 0x2000⟩
def PWR_EVT_WAKE_RACE : Fld := ⟨PWR_EVT, 4, 1, false, 0x2000⟩
def PWR_EVT_ACCESS_CANCEL : Fld := ⟨PWR_EVT, 5, 1, false, 0x2000⟩

/-- The offset of register PWR_AVS. -/
def PWR_AVS : Nat := 0x20010
def PWR_AVS_RAIL_NOC : Fld := ⟨PWR_AVS, 0, 4, true, 0x2000⟩
def PWR_AVS_RAIL_INT : Fld := ⟨PWR_AVS, 4, 4, true, 0x2000⟩

/-- The offset of register PWR_DRAIN. -/
def PWR_DRAIN : Nat := 0x20014
def PWR_DRAIN_DRAIN_US : Fld := ⟨PWR_DRAIN, 0, 16, false, 0x2000⟩

/-- The offset of register PWR_LAST. -/
def PWR_LAST : Nat := 0x20018
def PWR_LAST_DOMAIN : Fld := ⟨PWR_LAST, 0, 8, false, 0x2000⟩
def PWR_LAST_OUTCOME : Fld := ⟨PWR_LAST, 8, 4, false, 0x2000⟩
def PWR_LAST_VALID : Fld := ⟨PWR_LAST, 31, 1, false, 0x2000⟩

/-- The offset of register DOM_CTL. -/
def DOM_CTL (i : Nat) : Nat := 0x21000 + i * 0x10
def DOM_CTL_TARGET (i : Nat) : Fld := ⟨DOM_CTL i, 0, 2, false, 0x2200 + i⟩
def DOM_CTL_GO (i : Nat) : Fld := ⟨DOM_CTL i, 2, 1, true, 0x2200 + i⟩
def DOM_CTL_WAKE_EN (i : Nat) : Fld := ⟨DOM_CTL i, 3, 2, false, 0x2200 + i⟩

/-- The offset of register DOM_STS. -/
def DOM_STS (i : Nat) : Nat := 0x21004 + i * 0x10
def DOM_STS_STATE (i : Nat) : Fld := ⟨DOM_STS i, 0, 2, false, 0x2200 + i⟩
def DOM_STS_DRAINING (i : Nat) : Fld := ⟨DOM_STS i, 2, 1, false, 0x2200 + i⟩
def DOM_STS_WAKING (i : Nat) : Fld := ⟨DOM_STS i, 3, 1, false, 0x2200 + i⟩
def DOM_STS_GUARD_CLOSED (i : Nat) : Fld := ⟨DOM_STS i, 4, 1, false, 0x2200 + i⟩
def DOM_STS_WAKE_PENDING (i : Nat) : Fld := ⟨DOM_STS i, 5, 1, false, 0x2200 + i⟩
def DOM_STS_OUTCOME (i : Nat) : Fld := ⟨DOM_STS i, 8, 4, false, 0x2200 + i⟩

/-- The offset of register DOM_WAKE_AT. -/
def DOM_WAKE_AT (i : Nat) : Nat := 0x21008 + i * 0x10
def DOM_WAKE_AT_WAKE_AT (i : Nat) : Fld := ⟨DOM_WAKE_AT i, 0, 32, false, 0x2200 + i⟩

/-- The offset of register RAIL_STS. -/
def RAIL_STS : Nat := 0x20020
def RAIL_STS_VCCINT_OK : Fld := ⟨RAIL_STS, 0, 1, false, 0x2000⟩
def RAIL_STS_VCCNOC_OK : Fld := ⟨RAIL_STS, 1, 1, false, 0x2000⟩
def RAIL_STS_VCCCFG_OK : Fld := ⟨RAIL_STS, 2, 1, false, 0x2000⟩
def RAIL_STS_VDDL09_OK : Fld := ⟨RAIL_STS, 3, 1, false, 0x2000⟩
def RAIL_STS_VDDL12_OK : Fld := ⟨RAIL_STS, 4, 1, false, 0x2000⟩
def RAIL_STS_VDDQ_OK : Fld := ⟨RAIL_STS, 5, 1, false, 0x2000⟩
def RAIL_STS_VCCIO_G_OK : Fld := ⟨RAIL_STS, 6, 8, false, 0x2000⟩
def RAIL_STS_VCCIO_H_OK : Fld := ⟨RAIL_STS, 14, 2, false, 0x2000⟩

/-- The offset of register RAIL_EVT. -/
def RAIL_EVT : Nat := 0x20024
def RAIL_EVT_RAIL_DROP : Fld := ⟨RAIL_EVT, 0, 16, false, 0x2000⟩

/-- The offset of register PWR_TEMP. -/
def PWR_TEMP : Nat := 0x20028
def PWR_TEMP_TJ : Fld := ⟨PWR_TEMP, 0, 8, false, 0x2000⟩
def PWR_TEMP_SENSOR : Fld := ⟨PWR_TEMP, 8, 4, false, 0x2000⟩
def PWR_TEMP_VALID : Fld := ⟨PWR_TEMP, 31, 1, false, 0x2000⟩

/-- The offset of register SOFT_RESET. -/
def SOFT_RESET : Nat := 0xF0000
def SOFT_RESET_SOFT_RESET : Fld := ⟨SOFT_RESET, 0, 1, true, 0x1200⟩

/-- The offset of register MP_STS. -/
def MP_STS : Nat := 0xF0004
def MP_STS_RUNNING : Fld := ⟨MP_STS, 0, 1, false, 0x1200⟩
def MP_STS_RECOVERY : Fld := ⟨MP_STS, 1, 1, false, 0x1200⟩
def MP_STS_SLOT : Fld := ⟨MP_STS, 2, 1, false, 0x1200⟩
def MP_STS_EXT_VALID : Fld := ⟨MP_STS, 3, 1, false, 0x1200⟩
def MP_STS_RST_CAUSE : Fld := ⟨MP_STS, 8, 4, false, 0x1200⟩

/-- The offset of register MP_EVT. -/
def MP_EVT : Nat := 0xF0008
def MP_EVT_MP_RESET : Fld := ⟨MP_EVT, 0, 1, false, 0x1200⟩
def MP_EVT_LOCKSTEP_FAULT : Fld := ⟨MP_EVT, 1, 1, false, 0x1200⟩
def MP_EVT_FW_REJECTED : Fld := ⟨MP_EVT, 2, 1, false, 0x1200⟩

/-- The offset of register MP_CNT. -/
def MP_CNT : Nat := 0xF000C
def MP_CNT_LOCKSTEP_CNT : Fld := ⟨MP_CNT, 0, 16, false, 0x1200⟩
def MP_CNT_RESET_CNT : Fld := ⟨MP_CNT, 16, 16, false, 0x1200⟩

/-- The offset of register PATCH_ADDR. -/
def PATCH_ADDR (i : Nat) : Nat := 0xF1000 + i * 0x10
def PATCH_ADDR_ADDR (i : Nat) : Fld := ⟨PATCH_ADDR i, 2, 19, true, 0x9100 + i⟩

/-- The offset of register PATCH_VAL. -/
def PATCH_VAL (i : Nat) : Nat := 0xF1004 + i * 0x10
def PATCH_VAL_VAL (i : Nat) : Fld := ⟨PATCH_VAL i, 0, 32, true, 0x9100 + i⟩

/-- The offset of register PATCH_CTL. -/
def PATCH_CTL (i : Nat) : Nat := 0xF1008 + i * 0x10
def PATCH_CTL_FETCH (i : Nat) : Fld := ⟨PATCH_CTL i, 0, 1, true, 0x9100 + i⟩
def PATCH_CTL_DATA (i : Nat) : Fld := ⟨PATCH_CTL i, 1, 1, true, 0x9100 + i⟩

/-- The offset of register FLASH_CMD. -/
def FLASH_CMD : Nat := 0xF2000
def FLASH_CMD_ERASE : Fld := ⟨FLASH_CMD, 0, 1, true, 0x1201⟩
def FLASH_CMD_PROGRAM : Fld := ⟨FLASH_CMD, 1, 1, true, 0x1201⟩

/-- The offset of register FLASH_ADDR. -/
def FLASH_ADDR : Nat := 0xF2004
def FLASH_ADDR_ADDR : Fld := ⟨FLASH_ADDR, 0, 21, false, 0x1201⟩

/-- The offset of register FLASH_DATA. -/
def FLASH_DATA (i : Nat) : Nat := 0xF2008 + i * 0x4
def FLASH_DATA_WORD (i : Nat) : Fld := ⟨FLASH_DATA i, 0, 32, false, 0x1201⟩

/-- The offset of register FLASH_STS. -/
def FLASH_STS : Nat := 0xF2010
def FLASH_STS_BUSY : Fld := ⟨FLASH_STS, 0, 1, false, 0x1201⟩

/-- The offset of register FLASH_EVT. -/
def FLASH_EVT : Nat := 0xF2014
def FLASH_EVT_DONE : Fld := ⟨FLASH_EVT, 0, 1, false, 0x1201⟩
def FLASH_EVT_REFUSED : Fld := ⟨FLASH_EVT, 1, 1, false, 0x1201⟩

/-- The offset of register UART_CTL. -/
def UART_CTL (i : Nat) : Nat := 0xF3000 + i * 0x100
def UART_CTL_DIV (i : Nat) : Fld := ⟨UART_CTL i, 0, 16, false, 0x1210 + i⟩
def UART_CTL_PARITY (i : Nat) : Fld := ⟨UART_CTL i, 16, 2, false, 0x1210 + i⟩
def UART_CTL_STOP2 (i : Nat) : Fld := ⟨UART_CTL i, 18, 1, false, 0x1210 + i⟩
def UART_CTL_FLOW (i : Nat) : Fld := ⟨UART_CTL i, 19, 1, false, 0x1210 + i⟩
def UART_CTL_EN (i : Nat) : Fld := ⟨UART_CTL i, 20, 1, false, 0x1210 + i⟩

/-- The offset of register UART_TXD. -/
def UART_TXD (i : Nat) : Nat := 0xF3004 + i * 0x100
def UART_TXD_DATA (i : Nat) : Fld := ⟨UART_TXD i, 0, 8, false, 0x1210 + i⟩

/-- The offset of register UART_RXD. -/
def UART_RXD (i : Nat) : Nat := 0xF3008 + i * 0x100
def UART_RXD_DATA (i : Nat) : Fld := ⟨UART_RXD i, 0, 8, false, 0x1210 + i⟩
def UART_RXD_RX_EMPTY (i : Nat) : Fld := ⟨UART_RXD i, 8, 1, false, 0x1210 + i⟩

/-- The offset of register UART_EVT. -/
def UART_EVT (i : Nat) : Nat := 0xF3010 + i * 0x100
def UART_EVT_RX_AVAIL (i : Nat) : Fld := ⟨UART_EVT i, 0, 1, false, 0x1210 + i⟩
def UART_EVT_TX_EMPTY (i : Nat) : Fld := ⟨UART_EVT i, 1, 1, false, 0x1210 + i⟩
def UART_EVT_FRAME_ERR (i : Nat) : Fld := ⟨UART_EVT i, 2, 1, false, 0x1210 + i⟩
def UART_EVT_PARITY_ERR (i : Nat) : Fld := ⟨UART_EVT i, 3, 1, false, 0x1210 + i⟩
def UART_EVT_RX_OVERRUN (i : Nat) : Fld := ⟨UART_EVT i, 4, 1, false, 0x1210 + i⟩

/-- The offset of register I2C_CTL. -/
def I2C_CTL (i : Nat) : Nat := 0xF4000 + i * 0x100
def I2C_CTL_SPEED (i : Nat) : Fld := ⟨I2C_CTL i, 0, 2, false, 0x1218 + i⟩
def I2C_CTL_EN (i : Nat) : Fld := ⟨I2C_CTL i, 2, 1, false, 0x1218 + i⟩
def I2C_CTL_PEC (i : Nat) : Fld := ⟨I2C_CTL i, 3, 1, false, 0x1218 + i⟩
def I2C_CTL_TGT_EN (i : Nat) : Fld := ⟨I2C_CTL i, 4, 1, false, 0x1218 + i⟩

/-- The offset of register I2C_XFER. -/
def I2C_XFER (i : Nat) : Nat := 0xF4004 + i * 0x100
def I2C_XFER_ADDR (i : Nat) : Fld := ⟨I2C_XFER i, 0, 10, false, 0x1218 + i⟩
def I2C_XFER_READ (i : Nat) : Fld := ⟨I2C_XFER i, 10, 1, false, 0x1218 + i⟩
def I2C_XFER_LEN (i : Nat) : Fld := ⟨I2C_XFER i, 11, 8, false, 0x1218 + i⟩
def I2C_XFER_GO (i : Nat) : Fld := ⟨I2C_XFER i, 19, 1, false, 0x1218 + i⟩

/-- The offset of register I2C_FIFO. -/
def I2C_FIFO (i : Nat) : Nat := 0xF4008 + i * 0x100
def I2C_FIFO_DATA (i : Nat) : Fld := ⟨I2C_FIFO i, 0, 8, false, 0x1218 + i⟩

/-- The offset of register I2C_EVT. -/
def I2C_EVT (i : Nat) : Nat := 0xF4010 + i * 0x100
def I2C_EVT_DONE (i : Nat) : Fld := ⟨I2C_EVT i, 0, 1, false, 0x1218 + i⟩
def I2C_EVT_NACK (i : Nat) : Fld := ⟨I2C_EVT i, 1, 1, false, 0x1218 + i⟩
def I2C_EVT_ARB_LOST (i : Nat) : Fld := ⟨I2C_EVT i, 2, 1, false, 0x1218 + i⟩
def I2C_EVT_TIMEOUT (i : Nat) : Fld := ⟨I2C_EVT i, 3, 1, false, 0x1218 + i⟩
def I2C_EVT_PEC_ERR (i : Nat) : Fld := ⟨I2C_EVT i, 4, 1, false, 0x1218 + i⟩
def I2C_EVT_TGT_REQ (i : Nat) : Fld := ⟨I2C_EVT i, 5, 1, false, 0x1218 + i⟩

/-- The offset of register SPI_CTL. -/
def SPI_CTL (i : Nat) : Nat := 0xF5000 + i * 0x100
def SPI_CTL_DIV (i : Nat) : Fld := ⟨SPI_CTL i, 0, 8, false, 0x1220 + i⟩
def SPI_CTL_MODE (i : Nat) : Fld := ⟨SPI_CTL i, 8, 2, false, 0x1220 + i⟩
def SPI_CTL_CS (i : Nat) : Fld := ⟨SPI_CTL i, 10, 2, false, 0x1220 + i⟩
def SPI_CTL_LSB_FIRST (i : Nat) : Fld := ⟨SPI_CTL i, 12, 1, false, 0x1220 + i⟩

/-- The offset of register SPI_XFER. -/
def SPI_XFER (i : Nat) : Nat := 0xF5004 + i * 0x100
def SPI_XFER_LEN (i : Nat) : Fld := ⟨SPI_XFER i, 0, 16, false, 0x1220 + i⟩
def SPI_XFER_GO (i : Nat) : Fld := ⟨SPI_XFER i, 16, 1, false, 0x1220 + i⟩

/-- The offset of register SPI_FIFO. -/
def SPI_FIFO (i : Nat) : Nat := 0xF5008 + i * 0x100
def SPI_FIFO_DATA (i : Nat) : Fld := ⟨SPI_FIFO i, 0, 8, false, 0x1220 + i⟩

/-- The offset of register SPI_EVT. -/
def SPI_EVT (i : Nat) : Nat := 0xF5010 + i * 0x100
def SPI_EVT_DONE (i : Nat) : Fld := ⟨SPI_EVT i, 0, 1, false, 0x1220 + i⟩

/-- The offset of register XSPI_CTL. -/
def XSPI_CTL : Nat := 0xF6000
def XSPI_CTL_CS : Fld := ⟨XSPI_CTL, 0, 1, false, 0x1228⟩
def XSPI_CTL_MODE_8D : Fld := ⟨XSPI_CTL, 1, 1, false, 0x1228⟩
def XSPI_CTL_OPCODE : Fld := ⟨XSPI_CTL, 8, 8, false, 0x1228⟩

/-- The offset of register XSPI_ADDR. -/
def XSPI_ADDR : Nat := 0xF6004
def XSPI_ADDR_ADDR : Fld := ⟨XSPI_ADDR, 0, 32, false, 0x1228⟩

/-- The offset of register XSPI_XFER. -/
def XSPI_XFER : Nat := 0xF6008
def XSPI_XFER_LEN : Fld := ⟨XSPI_XFER, 0, 16, false, 0x1228⟩
def XSPI_XFER_GO : Fld := ⟨XSPI_XFER, 16, 1, false, 0x1228⟩
def XSPI_XFER_WRITE : Fld := ⟨XSPI_XFER, 17, 1, false, 0x1228⟩

/-- The offset of register XSPI_FIFO. -/
def XSPI_FIFO : Nat := 0xF600C
def XSPI_FIFO_DATA : Fld := ⟨XSPI_FIFO, 0, 8, false, 0x1228⟩

/-- The offset of register XSPI_EVT. -/
def XSPI_EVT : Nat := 0xF6010
def XSPI_EVT_DONE : Fld := ⟨XSPI_EVT, 0, 1, false, 0x1228⟩

/-- The offset of register MDIO_CTL. -/
def MDIO_CTL (i : Nat) : Nat := 0xF7000 + i * 0x100
def MDIO_CTL_DIV (i : Nat) : Fld := ⟨MDIO_CTL i, 0, 8, false, 0x1230 + i⟩
def MDIO_CTL_C45 (i : Nat) : Fld := ⟨MDIO_CTL i, 8, 1, false, 0x1230 + i⟩

/-- The offset of register MDIO_XFER. -/
def MDIO_XFER (i : Nat) : Nat := 0xF7004 + i * 0x100
def MDIO_XFER_PRTAD (i : Nat) : Fld := ⟨MDIO_XFER i, 0, 5, false, 0x1230 + i⟩
def MDIO_XFER_DEVAD (i : Nat) : Fld := ⟨MDIO_XFER i, 5, 5, false, 0x1230 + i⟩
def MDIO_XFER_OP (i : Nat) : Fld := ⟨MDIO_XFER i, 10, 2, false, 0x1230 + i⟩
def MDIO_XFER_GO (i : Nat) : Fld := ⟨MDIO_XFER i, 12, 1, false, 0x1230 + i⟩
def MDIO_XFER_DATA (i : Nat) : Fld := ⟨MDIO_XFER i, 16, 16, false, 0x1230 + i⟩

/-- The offset of register MDIO_EVT. -/
def MDIO_EVT (i : Nat) : Nat := 0xF7010 + i * 0x100
def MDIO_EVT_DONE (i : Nat) : Fld := ⟨MDIO_EVT i, 0, 1, false, 0x1230 + i⟩

/-- The offset of register DBG_CTL. -/
def DBG_CTL : Nat := 0xF8000
def DBG_CTL_HALT : Fld := ⟨DBG_CTL, 0, 1, false, 0x9000⟩
def DBG_CTL_RESUME : Fld := ⟨DBG_CTL, 1, 1, false, 0x9000⟩
def DBG_CTL_STEP : Fld := ⟨DBG_CTL, 2, 1, false, 0x9000⟩
def DBG_CTL_DINSTR_GO : Fld := ⟨DBG_CTL, 3, 1, false, 0x9000⟩
def DBG_CTL_DBG_RESET : Fld := ⟨DBG_CTL, 4, 1, true, 0x9000⟩
def DBG_CTL_BRK_TAKE : Fld := ⟨DBG_CTL, 5, 1, false, 0x9000⟩
def DBG_CTL_HALT_ON_RESET : Fld := ⟨DBG_CTL, 6, 1, true, 0x9000⟩

/-- The offset of register DBG_STS. -/
def DBG_STS : Nat := 0xF8004
def DBG_STS_HALTED : Fld := ⟨DBG_STS, 0, 1, false, 0x9000⟩
def DBG_STS_HALT_CAUSE : Fld := ⟨DBG_STS, 1, 3, false, 0x9000⟩
def DBG_STS_DEXC : Fld := ⟨DBG_STS, 4, 4, false, 0x9000⟩
def DBG_STS_DBUSY : Fld := ⟨DBG_STS, 8, 1, false, 0x9000⟩

/-- The offset of register DBG_EVT. -/
def DBG_EVT : Nat := 0xF8008
def DBG_EVT_HALTED_EVT : Fld := ⟨DBG_EVT, 0, 1, false, 0x9000⟩
def DBG_EVT_DINSTR_DONE : Fld := ⟨DBG_EVT, 1, 1, false, 0x9000⟩
def DBG_EVT_DINSTR_REFUSED : Fld := ⟨DBG_EVT, 2, 1, false, 0x9000⟩
def DBG_EVT_DEXC_EVT : Fld := ⟨DBG_EVT, 3, 1, false, 0x9000⟩

/-- The offset of register DINSTR. -/
def DINSTR : Nat := 0xF800C
def DINSTR_WORD : Fld := ⟨DINSTR, 0, 32, false, 0x9000⟩

/-- The offset of register DPC. -/
def DPC : Nat := 0xF8010
def DPC_PC : Fld := ⟨DPC, 0, 32, false, 0x9000⟩

/-- The offset of register DREG_SEL. -/
def DREG_SEL : Nat := 0xF8014
def DREG_SEL_SEL : Fld := ⟨DREG_SEL, 0, 5, false, 0x9000⟩

/-- The offset of register DREG_DATA. -/
def DREG_DATA : Nat := 0xF8018
def DREG_DATA_DATA : Fld := ⟨DREG_DATA, 0, 32, false, 0x9000⟩

/-- The offset of register DBM_ADDR_LO. -/
def DBM_ADDR_LO : Nat := 0xF8100
def DBM_ADDR_LO_ADDR : Fld := ⟨DBM_ADDR_LO, 0, 32, false, 0x9001⟩

/-- The offset of register DBM_ADDR_HI. -/
def DBM_ADDR_HI : Nat := 0xF8104
def DBM_ADDR_HI_ADDR : Fld := ⟨DBM_ADDR_HI, 0, 16, false, 0x9001⟩

/-- The offset of register DBM_DATA. -/
def DBM_DATA : Nat := 0xF8108
def DBM_DATA_DATA : Fld := ⟨DBM_DATA, 0, 32, false, 0x9001⟩

/-- The offset of register DBM_CTL. -/
def DBM_CTL : Nat := 0xF810C
def DBM_CTL_GO : Fld := ⟨DBM_CTL, 0, 1, false, 0x9001⟩
def DBM_CTL_WRITE : Fld := ⟨DBM_CTL, 1, 1, false, 0x9001⟩
def DBM_CTL_NOSIDE : Fld := ⟨DBM_CTL, 2, 1, false, 0x9001⟩
def DBM_CTL_DBM_BE : Fld := ⟨DBM_CTL, 3, 4, false, 0x9001⟩

/-- The offset of register DBM_STS. -/
def DBM_STS : Nat := 0xF8110
def DBM_STS_CODE : Fld := ⟨DBM_STS, 0, 4, false, 0x9001⟩
def DBM_STS_BUSY : Fld := ⟨DBM_STS, 4, 1, false, 0x9001⟩
def DBM_STS_POISON : Fld := ⟨DBM_STS, 5, 1, false, 0x9001⟩

/-- The offset of register WDT_CTL. -/
def WDT_CTL : Nat := 0xF8200
def WDT_CTL_EN : Fld := ⟨WDT_CTL, 0, 1, true, 0x9010⟩
def WDT_CTL_LOCK : Fld := ⟨WDT_CTL, 1, 1, true, 0x9010⟩
def WDT_CTL_KICK : Fld := ⟨WDT_CTL, 2, 1, false, 0x9010⟩

/-- The offset of register WDT_TIMEOUT. -/
def WDT_TIMEOUT : Nat := 0xF8204
def WDT_TIMEOUT_TIMEOUT : Fld := ⟨WDT_TIMEOUT, 0, 22, false, 0x9010⟩

/-- The offset of register WDT_GRACE. -/
def WDT_GRACE : Nat := 0xF8208
def WDT_GRACE_GRACE : Fld := ⟨WDT_GRACE, 0, 22, false, 0x9010⟩

/-- The offset of register WDT_STS. -/
def WDT_STS : Nat := 0xF8210
def WDT_STS_REMAIN : Fld := ⟨WDT_STS, 0, 22, false, 0x9010⟩
def WDT_STS_STAGE : Fld := ⟨WDT_STS, 22, 1, false, 0x9010⟩
def WDT_STS_FROZEN : Fld := ⟨WDT_STS, 23, 1, false, 0x9010⟩

/-- The offset of register WDT_EVT. -/
def WDT_EVT : Nat := 0xF8214
def WDT_EVT_BARK : Fld := ⟨WDT_EVT, 0, 1, false, 0x9010⟩
def WDT_EVT_BITE : Fld := ⟨WDT_EVT, 1, 1, false, 0x9010⟩

/-- The offset of register WDT_CNT. -/
def WDT_CNT : Nat := 0xF8218
def WDT_CNT_BARK_CNT : Fld := ⟨WDT_CNT, 0, 16, false, 0x9010⟩
def WDT_CNT_BITE_CNT : Fld := ⟨WDT_CNT, 16, 16, false, 0x9010⟩

/-- The offset of register DBG_FUSE. -/
def DBG_FUSE : Nat := 0xF8300
def DBG_FUSE_JTAG_DBG : Fld := ⟨DBG_FUSE, 0, 1, false, 0x9002⟩
def DBG_FUSE_WB_DBG : Fld := ⟨DBG_FUSE, 1, 1, false, 0x9002⟩

/-- The offset of register PACK_CTL. -/
def PACK_CTL : Nat := 0xD0000
def PACK_CTL_EN : Fld := ⟨PACK_CTL, 0, 1, true, 0x7000⟩
def PACK_CTL_FREQ_LANE : Fld := ⟨PACK_CTL, 1, 1, false, 0x7000⟩
def PACK_CTL_FREQ_SRC_SEL : Fld := ⟨PACK_CTL, 2, 8, false, 0x7000⟩

/-- The offset of register PACK_IDS. -/
def PACK_IDS : Nat := 0xD0004
def PACK_IDS_PACK_ID : Fld := ⟨PACK_IDS, 0, 16, true, 0x7000⟩
def PACK_IDS_MEMBER : Fld := ⟨PACK_IDS, 16, 12, true, 0x7000⟩

/-- The offset of register PACK_PARAM. -/
def PACK_PARAM : Nat := 0xD0008
def PACK_PARAM_PRIORITY : Fld := ⟨PACK_PARAM, 0, 8, false, 0x7000⟩
def PACK_PARAM_PACK_SIZE : Fld := ⟨PACK_PARAM, 8, 13, false, 0x7000⟩

/-- The offset of register PACK_TIMING. -/
def PACK_TIMING : Nat := 0xD000C
def PACK_TIMING_HELLO_MS : Fld := ⟨PACK_TIMING, 0, 10, false, 0x7000⟩
def PACK_TIMING_DEAD_MULT : Fld := ⟨PACK_TIMING, 10, 6, false, 0x7000⟩
def PACK_TIMING_OFFSET_BOUND_NS : Fld := ⟨PACK_TIMING, 16, 16, false, 0x7000⟩

/-- The offset of register PACK_SCOPE. -/
def PACK_SCOPE (i : Nat) : Nat := 0xD0010 + i * 0x4
def PACK_SCOPE_MASK (i : Nat) : Fld := ⟨PACK_SCOPE i, 0, 32, false, 0x7000⟩

/-- The offset of register PACK_STS. -/
def PACK_STS : Nat := 0xD0020
def PACK_STS_STATE : Fld := ⟨PACK_STS, 0, 2, false, 0x7000⟩
def PACK_STS_LEAD : Fld := ⟨PACK_STS, 2, 12, false, 0x7000⟩
def PACK_STS_JOINED : Fld := ⟨PACK_STS, 14, 1, false, 0x7000⟩
def PACK_STS_DIVERGENT : Fld := ⟨PACK_STS, 15, 1, false, 0x7000⟩
def PACK_STS_TIME_SUSPECT : Fld := ⟨PACK_STS, 16, 1, false, 0x7000⟩
def PACK_STS_REFUSED : Fld := ⟨PACK_STS, 17, 1, false, 0x7000⟩
def PACK_STS_IS_LEAD : Fld := ⟨PACK_STS, 18, 1, false, 0x7000⟩
def PACK_STS_TIME_VALID : Fld := ⟨PACK_STS, 19, 1, false, 0x7000⟩
def PACK_STS_REFUSE_CAUSE : Fld := ⟨PACK_STS, 20, 2, false, 0x7000⟩

/-- The offset of register PACK_CENSUS. -/
def PACK_CENSUS : Nat := 0xD0024
def PACK_CENSUS_REACHABLE : Fld := ⟨PACK_CENSUS, 0, 13, false, 0x7000⟩
def PACK_CENSUS_FLAGGED : Fld := ⟨PACK_CENSUS, 16, 13, false, 0x7000⟩

/-- The offset of register PACK_OFFSET. -/
def PACK_OFFSET : Nat := 0xD0028
def PACK_OFFSET_OFFSET_NS : Fld := ⟨PACK_OFFSET, 0, 32, false, 0x7000⟩

/-- The offset of register PACK_TRIM. -/
def PACK_TRIM : Nat := 0xD002C
def PACK_TRIM_TRIM_PPB : Fld := ⟨PACK_TRIM, 0, 32, false, 0x7000⟩

/-- The offset of register PACK_TIME. -/
def PACK_TIME (i : Nat) : Nat := 0xD0030 + i * 0x4
def PACK_TIME_WORD (i : Nat) : Fld := ⟨PACK_TIME i, 0, 32, false, 0x7000⟩

/-- The offset of register PACK_EVT. -/
def PACK_EVT : Nat := 0xD003C
def PACK_EVT_LEAD_CHANGE : Fld := ⟨PACK_EVT, 0, 1, false, 0x7000⟩
def PACK_EVT_STATE_CHANGE : Fld := ⟨PACK_EVT, 1, 1, false, 0x7000⟩
def PACK_EVT_DIVERGED : Fld := ⟨PACK_EVT, 2, 1, false, 0x7000⟩
def PACK_EVT_SUSPECT : Fld := ⟨PACK_EVT, 3, 1, false, 0x7000⟩
def PACK_EVT_ABSENT_MARKED : Fld := ⟨PACK_EVT, 4, 1, false, 0x7000⟩
def PACK_EVT_JOIN_REFUSED : Fld := ⟨PACK_EVT, 5, 1, false, 0x7000⟩
def PACK_EVT_BARRIER_DONE : Fld := ⟨PACK_EVT, 6, 1, false, 0x7000⟩
def PACK_EVT_TIME_STEP : Fld := ⟨PACK_EVT, 7, 1, false, 0x7000⟩

/-- The offset of register PACK_CNT. -/
def PACK_CNT : Nat := 0xD0040
def PACK_CNT_BARRIER_CNT : Fld := ⟨PACK_CNT, 0, 16, false, 0x7000⟩
def PACK_CNT_LEAD_CNT : Fld := ⟨PACK_CNT, 16, 16, false, 0x7000⟩

/-- The offset of register PB_BID. -/
def PB_BID : Nat := 0xD0050
def PB_BID_BID : Fld := ⟨PB_BID, 0, 32, false, 0x7000⟩

/-- The offset of register PB_STS. -/
def PB_STS : Nat := 0xD0054
def PB_STS_CODE : Fld := ⟨PB_STS, 0, 4, false, 0x7000⟩
def PB_STS_BUSY : Fld := ⟨PB_STS, 4, 1, false, 0x7000⟩
def PB_STS_LATE : Fld := ⟨PB_STS, 5, 1, false, 0x7000⟩
def PB_STS_ABSENT : Fld := ⟨PB_STS, 6, 13, false, 0x7000⟩

/-- The offset of register RST_CTL. -/
def RST_CTL : Nat := 0x100
def RST_CTL_DP_RESET : Fld := ⟨RST_CTL, 0, 1, true, 0x1300⟩
def RST_CTL_WARM_RESET : Fld := ⟨RST_CTL, 1, 1, true, 0x1300⟩
def RST_CTL_ADVANCE : Fld := ⟨RST_CTL, 2, 1, false, 0x1300⟩
def RST_CTL_DONE_WAIT : Fld := ⟨RST_CTL, 3, 1, false, 0x1300⟩

/-- The offset of register START_STS. -/
def START_STS : Nat := 0x104
def START_STS_STEP : Fld := ⟨START_STS, 0, 3, false, 0x1300⟩
def START_STS_RAILS_OK : Fld := ⟨START_STS, 3, 1, false, 0x1300⟩
def START_STS_INITN_PIN : Fld := ⟨START_STS, 4, 1, false, 0x1300⟩
def START_STS_DONE_PIN : Fld := ⟨START_STS, 5, 1, false, 0x1300⟩
def START_STS_INITN_HELD : Fld := ⟨START_STS, 6, 1, false, 0x1300⟩
def START_STS_DP_BUSY : Fld := ⟨START_STS, 7, 1, false, 0x1300⟩
def START_STS_CFGSRC : Fld := ⟨START_STS, 8, 3, false, 0x1300⟩
def START_STS_CFGPULL : Fld := ⟨START_STS, 11, 1, false, 0x1300⟩

/-- The offset of register RST_CAUSE. -/
def RST_CAUSE : Nat := 0x108
def RST_CAUSE_CAUSE : Fld := ⟨RST_CAUSE, 0, 4, false, 0x1300⟩

/-- The offset of register RST_EVT. -/
def RST_EVT : Nat := 0x10C
def RST_EVT_START_DONE : Fld := ⟨RST_EVT, 0, 1, false, 0x1300⟩
def RST_EVT_DP_STARTED : Fld := ⟨RST_EVT, 1, 1, false, 0x1300⟩
def RST_EVT_MGMT_RESET : Fld := ⟨RST_EVT, 2, 1, false, 0x1300⟩
def RST_EVT_CRITICAL : Fld := ⟨RST_EVT, 3, 1, false, 0x1300⟩
def RST_EVT_INITN_WAIT : Fld := ⟨RST_EVT, 4, 1, false, 0x1300⟩

/-- The offset of register RST_CNT. -/
def RST_CNT : Nat := 0x110
def RST_CNT_DP_CNT : Fld := ⟨RST_CNT, 0, 16, false, 0x1300⟩
def RST_CNT_WARM_CNT : Fld := ⟨RST_CNT, 16, 16, false, 0x1300⟩

/-- The offset of register CRIT_ADDR. -/
def CRIT_ADDR : Nat := 0x114
def CRIT_ADDR_OFFSET : Fld := ⟨CRIT_ADDR, 0, 24, false, 0x1300⟩
def CRIT_ADDR_VALID : Fld := ⟨CRIT_ADDR, 31, 1, false, 0x1300⟩

end Sys2Proof.Machine.Reg
end

