-- ==== Sys2Proof/Machine/Regs.lean ====
section
/-! DEFINITION. The register tables: every register of every block, with the class, the G and T attributes,
the reset value and the range of each of its fields (R81, R82, R518). A register that a table does
not list is unimplemented or reserved (R84). -/

namespace Sys2Proof.Machine

/-- Registers of block 0x00: DEV_IDCODE, DEV_STEP, UNLOCK_KEY, SNAP_CTL, SNAP_STS, SNAP_TIME, FAULT_EVT, PARITY_ADDR, TMR_ADDR, FAULT_CNT, RST_CTL, START_STS. -/
def regs00a : List RegDef := [
  ⟨0x0, 1, 0x0, 1, 0x0, 0x1100, 0, 0,
   [⟨0, 32, .sts, false, 0x2c4e9a3b, [], false⟩]⟩,
  ⟨0x4, 1, 0x0, 1, 0x0, 0x1100, 0, 0,
   [⟨0, 8, .sts, false, 0x42, [], false⟩,
    ⟨8, 8, .sts, false, 0x30, [], false⟩]⟩,
  ⟨0x10, 1, 0x0, 1, 0x0, 0x1F00, 0, 0,
   [⟨0, 16, .key, false, 0, [], false⟩]⟩,
  ⟨0x20, 1, 0x0, 1, 0x0, 0x1F10, 0, 0,
   [⟨0, 1, .cmd, false, 0, [], false⟩]⟩,
  ⟨0x24, 1, 0x0, 1, 0x0, 0x1F10, 0, 0,
   [⟨0, 16, .sts, false, 0, [], false⟩,
    ⟨16, 1, .sts, false, 0, [], false⟩]⟩,
  ⟨0x28, 2, 0x4, 1, 0x0, 0x1F10, 0, 0,
   [⟨0, 32, .sts, false, 0, [], false⟩]⟩,
  ⟨0x30, 1, 0x0, 1, 0x0, 0x1F30, 0, 0,
   [⟨0, 1, .evt, false, 0, [], false⟩,
    ⟨1, 1, .evt, false, 0, [], false⟩,
    ⟨2, 1, .evt, false, 0, [], false⟩]⟩,
  ⟨0x34, 1, 0x0, 1, 0x0, 0x1F30, 0, 0,
   [⟨0, 24, .sts, false, 0, [], false⟩,
    ⟨31, 1, .sts, false, 0, [], false⟩]⟩,
  ⟨0x38, 1, 0x0, 1, 0x0, 0x1F30, 0, 0,
   [⟨0, 24, .sts, false, 0, [], false⟩,
    ⟨31, 1, .sts, false, 0, [], false⟩]⟩,
  ⟨0x3C, 1, 0x0, 1, 0x0, 0x1F30, 0, 0,
   [⟨0, 16, .cnt, false, 0, [], false⟩,
    ⟨16, 16, .cnt, false, 0, [], false⟩]⟩,
  ⟨0x100, 1, 0x0, 1, 0x0, 0x1300, 0, 0,
   [⟨0, 1, .cmd, true, 0, [], false⟩,
    ⟨1, 1, .cmd, true, 0, [], false⟩,
    ⟨2, 1, .cmd, false, 0, [], false⟩,
    ⟨3, 1, .ctl, false, 0, [], false⟩]⟩,
  ⟨0x104, 1, 0x0, 1, 0x0, 0x1300, 0, 0,
   [⟨0, 3, .sts, false, 1, [], true⟩,
    ⟨3, 1, .sts, false, 0, [], false⟩,
    ⟨4, 1, .sts, false, 0, [], false⟩,
    ⟨5, 1, .sts, false, 0, [], false⟩,
    ⟨6, 1, .sts, false, 0, [], false⟩,
    ⟨7, 1, .sts, false, 0, [], false⟩,
    ⟨8, 3, .sts, false, 0, [], false⟩,
    ⟨11, 1, .sts, false, 0, [], false⟩]⟩
]

/-- Registers of block 0x00: RST_CAUSE, RST_EVT, RST_CNT, CRIT_ADDR. -/
def regs00b : List RegDef := [
  ⟨0x108, 1, 0x0, 1, 0x0, 0x1300, 0, 0,
   [⟨0, 4, .sts, false, 0, [], false⟩]⟩,
  ⟨0x10C, 1, 0x0, 1, 0x0, 0x1300, 0, 0,
   [⟨0, 1, .evt, false, 0, [], false⟩,
    ⟨1, 1, .evt, false, 0, [], false⟩,
    ⟨2, 1, .evt, false, 0, [], false⟩,
    ⟨3, 1, .evt, false, 0, [], false⟩,
    ⟨4, 1, .evt, false, 0, [], false⟩]⟩,
  ⟨0x110, 1, 0x0, 1, 0x0, 0x1300, 0, 0,
   [⟨0, 16, .cnt, false, 0, [], false⟩,
    ⟨16, 16, .cnt, false, 0, [], false⟩]⟩,
  ⟨0x114, 1, 0x0, 1, 0x0, 0x1300, 0, 0,
   [⟨0, 24, .sts, false, 0, [], false⟩,
    ⟨31, 1, .sts, false, 0, [], false⟩]⟩
]

/-- Registers of block 0x01: CLK_STS, CLK_EVT, ROOT_CNT, FS_CTL, FS_DIV, FS_ODIV, FS_STS, GCK_SEL, RING_CTL. -/
def regs01a : List RegDef := [
  ⟨0x10000, 1, 0x0, 1, 0x0, 0x2100, 0, 0,
   [⟨0, 1, .sts, false, 0, [], false⟩,
    ⟨1, 1, .sts, false, 1, [], false⟩,
    ⟨2, 1, .sts, false, 0, [], false⟩,
    ⟨3, 5, .sts, false, 0x10, [], true⟩,
    ⟨8, 4, .sts, false, 0, [], false⟩,
    ⟨16, 16, .sts, false, 0, [], false⟩]⟩,
  ⟨0x10004, 1, 0x0, 1, 0x0, 0x2100, 0, 0,
   [⟨0, 1, .evt, false, 0, [], false⟩,
    ⟨1, 1, .evt, false, 0, [], false⟩,
    ⟨2, 1, .evt, false, 0, [], false⟩,
    ⟨3, 1, .evt, false, 0, [], false⟩,
    ⟨4, 1, .evt, false, 0, [], false⟩,
    ⟨5, 1, .evt, false, 0, [], false⟩,
    ⟨6, 1, .evt, false, 0, [], false⟩]⟩,
  ⟨0x10008, 2, 0x4, 1, 0x0, 0x2100, 0, 0,
   [⟨0, 32, .sts, false, 0, [], false⟩]⟩,
  ⟨0x10100, 16, 0x10, 1, 0x0, 0x2110, 1, 0,
   [⟨1, 1, .cmd, true, 0, [], false⟩,
    ⟨2, 4, .ctl, false, 0, [], false⟩,
    ⟨6, 2, .ctl, true, 3, [], false⟩,
    ⟨8, 8, .ctl, true, 0, [(0, 135)], false⟩]⟩,
  ⟨0x10104, 16, 0x10, 1, 0x0, 0x2110, 1, 0,
   [⟨0, 6, .ctl, true, 1, [], false⟩,
    ⟨6, 9, .ctl, true, 0x40, [(8, 511)], false⟩]⟩,
  ⟨0x10108, 16, 0x10, 1, 0x0, 0x2110, 1, 0,
   [⟨0, 8, .ctl, true, 0x10, [], false⟩,
    ⟨8, 8, .ctl, true, 0x10, [], false⟩,
    ⟨16, 8, .ctl, true, 0x10, [], false⟩,
    ⟨24, 8, .ctl, true, 0x10, [], false⟩]⟩,
  ⟨0x1010C, 16, 0x10, 1, 0x0, 0x2110, 1, 0,
   [⟨0, 1, .sts, false, 0, [], false⟩,
    ⟨1, 1, .sts, false, 0, [], false⟩,
    ⟨2, 1, .sts, false, 0, [], false⟩,
    ⟨3, 1, .sts, false, 0, [], false⟩,
    ⟨16, 12, .sts, false, 0, [], false⟩]⟩,
  ⟨0x10200, 32, 0x4, 1, 0x0, 0x2130, 1, 0,
   [⟨0, 7, .ctl, true, 0x7f, [], false⟩,
    ⟨7, 7, .ctl, true, 0x7f, [], false⟩,
    ⟨14, 1, .ctl, false, 0, [], false⟩,
    ⟨15, 1, .sts, false, 0, [], false⟩,
    ⟨16, 1, .sts, false, 0, [], false⟩]⟩,
  ⟨0x10300, 4, 0x4, 1, 0x0, 0x2150, 1, 0,
   [⟨0, 1, .ctl, false, 0, [], false⟩,
    ⟨1, 7, .ctl, false, 0, [(0, 120)], false⟩,
    ⟨16, 10, .sts, false, 0, [], false⟩]⟩
]

/-- Registers of block 0x02: PWR_CTL, PWR_VINT, PWR_STS, PWR_EVT, PWR_AVS, PWR_DRAIN, PWR_LAST, DOM_CTL, DOM_STS, DOM_WAKE_AT, RAIL_STS, RAIL_EVT. -/
def regs02a : List RegDef := [
  ⟨0x20000, 1, 0x0, 1, 0x0, 0x2000, 0, 0,
   [⟨0, 1, .ctl, true, 0, [], false⟩,
    ⟨1, 1, .ctl, false, 0, [], false⟩,
    ⟨2, 3, .ctl, false, 0, [(0, 5)], false⟩,
    ⟨5, 1, .ctl, true, 0, [], false⟩,
    ⟨6, 2, .ctl, true, 3, [], false⟩]⟩,
  ⟨0x20004, 1, 0x0, 1, 0x0, 0x2000, 0, 0,
   [⟨0, 10, .ctl, true, 0x370, [(720, 880)], false⟩,
    ⟨16, 10, .sts, false, 0x370, [], false⟩,
    ⟨26, 2, .sts, false, 3, [], true⟩]⟩,
  ⟨0x20008, 1, 0x0, 1, 0x0, 0x2000, 0, 0,
   [⟨0, 3, .sts, false, 0, [], true⟩,
    ⟨3, 1, .sts, false, 0, [], false⟩,
    ⟨4, 1, .sts, false, 0, [], false⟩,
    ⟨5, 1, .sts, false, 0, [], false⟩,
    ⟨6, 1, .sts, false, 0, [], false⟩,
    ⟨16, 10, .sts, false, 0x258, [], false⟩]⟩,
  ⟨0x2000C, 1, 0x0, 1, 0x0, 0x2000, 0, 0,
   [⟨0, 1, .evt, false, 0, [], false⟩,
    ⟨1, 1, .evt, false, 0, [], false⟩,
    ⟨2, 1, .evt, false, 0, [], false⟩,
    ⟨3, 1, .evt, false, 0, [], false⟩,
    ⟨4, 1, .evt, false, 0, [], false⟩,
    ⟨5, 1, .evt, false, 0, [], false⟩]⟩,
  ⟨0x20010, 1, 0x0, 1, 0x0, 0x2000, 0, 0,
   [⟨0, 4, .ctl, true, 0, [], false⟩,
    ⟨4, 4, .ctl, true, 1, [], false⟩]⟩,
  ⟨0x20014, 1, 0x0, 1, 0x0, 0x2000, 0, 0,
   [⟨0, 16, .ctl, false, 0x3e8, [(1, 65535)], false⟩]⟩,
  ⟨0x20018, 1, 0x0, 1, 0x0, 0x2000, 0, 0,
   [⟨0, 8, .sts, false, 0, [], false⟩,
    ⟨8, 4, .sts, false, 0, [], false⟩,
    ⟨31, 1, .sts, false, 0, [], false⟩]⟩,
  ⟨0x21000, 256, 0x10, 1, 0x0, 0x2200, 1, 0,
   [⟨0, 2, .ctl, false, 0, [], false⟩,
    ⟨2, 1, .cmd, true, 0, [], false⟩,
    ⟨3, 2, .ctl, false, 0, [], false⟩]⟩,
  ⟨0x21004, 256, 0x10, 1, 0x0, 0x2200, 1, 0,
   [⟨0, 2, .sts, false, 0, [], true⟩,
    ⟨2, 1, .sts, false, 0, [], false⟩,
    ⟨3, 1, .sts, false, 0, [], false⟩,
    ⟨4, 1, .sts, false, 0, [], false⟩,
    ⟨5, 1, .sts, false, 0, [], false⟩,
    ⟨8, 4, .sts, false, 0, [], false⟩]⟩,
  ⟨0x21008, 256, 0x10, 1, 0x0, 0x2200, 1, 0,
   [⟨0, 32, .ctl, false, 0, [], false⟩]⟩,
  ⟨0x20020, 1, 0x0, 1, 0x0, 0x2000, 0, 0,
   [⟨0, 1, .sts, false, 0, [], false⟩,
    ⟨1, 1, .sts, false, 0, [], false⟩,
    ⟨2, 1, .sts, false, 0, [], false⟩,
    ⟨3, 1, .sts, false, 0, [], false⟩,
    ⟨4, 1, .sts, false, 0, [], false⟩,
    ⟨5, 1, .sts, false, 0, [], false⟩,
    ⟨6, 8, .sts, false, 0, [], false⟩,
    ⟨14, 2, .sts, false, 0, [], false⟩]⟩,
  ⟨0x20024, 1, 0x0, 1, 0x0, 0x2000, 0, 0,
   [⟨0, 16, .evt, false, 0, [], false⟩]⟩
]

/-- Registers of block 0x02: PWR_TEMP. -/
def regs02b : List RegDef := [
  ⟨0x20028, 1, 0x0, 1, 0x0, 0x2000, 0, 0,
   [⟨0, 8, .sts, false, 0, [], false⟩,
    ⟨8, 4, .sts, false, 0, [], false⟩,
    ⟨31, 1, .sts, false, 0, [], false⟩]⟩
]

/-- Registers of block 0x03: CFG_CTL, CFG_HSRC_LO, CFG_HSRC_HI, CFG_HLEN, CFG_XSPI_OFFSET, CFG_LOAD_STS, CFG_LOAD_FRAME, CFG_EVT, CFG_BOOT_STS, CFG_BOOT_ATTEMPTS, CFG_BOOT_WAIT, CFG_HSKIP. -/
def regs03a : List RegDef := [
  ⟨0x30000, 1, 0x0, 1, 0x0, 0x3010, 0, 0,
   [⟨0, 4, .ctl, true, 0xf, [], false⟩,
    ⟨4, 1, .cmd, true, 0, [], false⟩,
    ⟨5, 1, .cmd, false, 0, [], false⟩]⟩,
  ⟨0x30004, 1, 0x0, 1, 0x0, 0x3012, 0, 0,
   [⟨0, 32, .ctl, false, 0, [], false⟩]⟩,
  ⟨0x30008, 1, 0x0, 1, 0x0, 0x3012, 0, 0,
   [⟨0, 16, .ctl, false, 0, [], false⟩]⟩,
  ⟨0x3000C, 1, 0x0, 1, 0x0, 0x3012, 0, 0,
   [⟨0, 32, .ctl, false, 0, [], false⟩]⟩,
  ⟨0x30010, 1, 0x0, 1, 0x0, 0x3010, 0, 0,
   [⟨12, 20, .ctl, false, 0, [], false⟩]⟩,
  ⟨0x30014, 1, 0x0, 1, 0x0, 0x3011, 0, 0,
   [⟨0, 8, .sts, false, 0, [], false⟩,
    ⟨8, 8, .sts, false, 0, [], false⟩,
    ⟨16, 7, .sts, false, 0, [], false⟩,
    ⟨24, 2, .sts, false, 0, [], false⟩,
    ⟨26, 1, .sts, false, 0, [], false⟩]⟩,
  ⟨0x30018, 1, 0x0, 1, 0x0, 0x3011, 0, 0,
   [⟨0, 20, .sts, false, 0, [], false⟩,
    ⟨31, 1, .sts, false, 0, [], false⟩]⟩,
  ⟨0x3001C, 1, 0x0, 1, 0x0, 0x3011, 0, 0,
   [⟨0, 1, .evt, false, 0, [], false⟩,
    ⟨1, 1, .evt, false, 0, [], false⟩,
    ⟨2, 1, .evt, false, 0, [], false⟩,
    ⟨3, 1, .evt, false, 0, [], false⟩,
    ⟨4, 1, .evt, false, 0, [], false⟩]⟩,
  ⟨0x30020, 1, 0x0, 1, 0x0, 0x3010, 0, 0,
   [⟨0, 2, .sts, false, 0, [], false⟩,
    ⟨2, 1, .sts, false, 0, [], false⟩,
    ⟨8, 8, .sts, false, 0, [], false⟩]⟩,
  ⟨0x30024, 1, 0x0, 1, 0x0, 0x3010, 0, 0,
   [⟨0, 32, .cnt, false, 0, [], false⟩]⟩,
  ⟨0x30028, 1, 0x0, 1, 0x0, 0x3010, 0, 0,
   [⟨0, 14, .sts, false, 0, [], false⟩]⟩,
  ⟨0x3002C, 1, 0x0, 1, 0x0, 0x3012, 0, 0,
   [⟨0, 16, .cnt, false, 0, [], false⟩]⟩
]

/-- Registers of block 0x03: CFG_HLAST. -/
def regs03b : List RegDef := [
  ⟨0x30030, 1, 0x0, 1, 0x0, 0x3012, 0, 0,
   [⟨0, 24, .sts, false, 0, [], false⟩,
    ⟨31, 1, .sts, false, 0, [], false⟩]⟩
]

/-- Registers of block 0x04: SCRUB_CTL, SCRUB_PERIOD, SCRUB_STS, SCRUB_EVT, SCRUB_LAST, SCRUB_PASSES, SCRUB_CORRECTED, SCRUB_RELOADS, SCRUB_UNREC, SCRUB_LAST_PASS, GOLDEN_VALID. -/
def regs04a : List RegDef := [
  ⟨0x40000, 1, 0x0, 1, 0x0, 0x4100, 0, 0,
   [⟨0, 1, .ctl, true, 1, [], false⟩,
    ⟨1, 1, .ctl, true, 0, [], false⟩,
    ⟨2, 1, .cmd, false, 0, [], false⟩,
    ⟨8, 8, .ctl, false, 4, [(1, 255)], false⟩,
    ⟨16, 8, .ctl, false, 8, [(1, 255)], false⟩]⟩,
  ⟨0x40004, 1, 0x0, 1, 0x0, 0x4100, 0, 0,
   [⟨0, 16, .ctl, false, 0, [(0, 0), (55, 60000)], false⟩]⟩,
  ⟨0x40008, 1, 0x0, 1, 0x0, 0x4100, 0, 0,
   [⟨0, 20, .sts, false, 0, [], false⟩,
    ⟨20, 1, .sts, false, 1, [], false⟩,
    ⟨21, 1, .sts, false, 0, [], false⟩,
    ⟨22, 1, .sts, false, 0, [], false⟩,
    ⟨23, 1, .sts, false, 0, [], false⟩,
    ⟨24, 1, .sts, false, 0, [], false⟩]⟩,
  ⟨0x4000C, 1, 0x0, 1, 0x0, 0x4100, 0, 0,
   [⟨0, 1, .evt, false, 0, [], false⟩,
    ⟨1, 1, .evt, false, 0, [], false⟩,
    ⟨2, 1, .evt, false, 0, [], false⟩,
    ⟨3, 1, .evt, false, 0, [], false⟩,
    ⟨4, 1, .evt, false, 0, [], false⟩,
    ⟨5, 1, .evt, false, 0, [], false⟩,
    ⟨6, 1, .evt, false, 0, [], false⟩,
    ⟨7, 1, .evt, false, 0, [], false⟩,
    ⟨8, 1, .evt, false, 0, [], false⟩,
    ⟨9, 1, .evt, false, 0, [], false⟩]⟩,
  ⟨0x40010, 1, 0x0, 1, 0x0, 0x4100, 0, 0,
   [⟨0, 20, .sts, false, 0, [], false⟩,
    ⟨20, 1, .sts, false, 0, [], false⟩,
    ⟨21, 3, .sts, false, 0, [], false⟩,
    ⟨31, 1, .sts, false, 0, [], false⟩]⟩,
  ⟨0x40014, 1, 0x0, 1, 0x0, 0x4100, 0, 0,
   [⟨0, 32, .cnt, false, 0, [], false⟩]⟩,
  ⟨0x40018, 1, 0x0, 1, 0x0, 0x4100, 0, 0,
   [⟨0, 32, .cnt, false, 0, [], false⟩]⟩,
  ⟨0x4001C, 1, 0x0, 1, 0x0, 0x4100, 0, 0,
   [⟨0, 32, .cnt, false, 0, [], false⟩]⟩,
  ⟨0x40020, 1, 0x0, 1, 0x0, 0x4100, 0, 0,
   [⟨0, 16, .cnt, false, 0, [], false⟩,
    ⟨16, 16, .cnt, false, 0, [], false⟩]⟩,
  ⟨0x40024, 1, 0x0, 1, 0x0, 0x4100, 0, 0,
   [⟨0, 16, .sts, false, 0, [], false⟩,
    ⟨16, 16, .sts, false, 0, [], false⟩]⟩,
  ⟨0x40040, 4, 0x4, 1, 0x0, 0x4101, 0, 0,
   [⟨0, 32, .sts, false, 0, [], true⟩]⟩
]

/-- Registers of block 0x05: INT_CTL, INT_BM_INTERVAL, INT_DR_INTERVAL, INT_EVT, MEM_CORRECTED, MEM_POISONED, REMAP_STARVED, LOG_LOST, LOG_LO, LOG_HI, LOG_COUNT, CH_FAILED. -/
def regs05a : List RegDef := [
  ⟨0x50000, 1, 0x0, 1, 0x0, 0x4200, 0, 0,
   [⟨0, 1, .ctl, true, 1, [], false⟩,
    ⟨1, 1, .ctl, true, 1, [], false⟩,
    ⟨2, 1, .ctl, true, 1, [], false⟩]⟩,
  ⟨0x50004, 1, 0x0, 1, 0x0, 0x4200, 0, 0,
   [⟨0, 14, .ctl, false, 0x64, [(10, 10000)], false⟩]⟩,
  ⟨0x50008, 1, 0x0, 1, 0x0, 0x4200, 0, 0,
   [⟨0, 17, .ctl, false, 0xe10, [(60, 86400)], false⟩]⟩,
  ⟨0x5000C, 1, 0x0, 1, 0x0, 0x4200, 0, 0,
   [⟨0, 1, .evt, false, 0, [], false⟩,
    ⟨1, 1, .evt, false, 0, [], false⟩,
    ⟨2, 1, .evt, false, 0, [], false⟩,
    ⟨3, 1, .evt, false, 0, [], false⟩,
    ⟨4, 1, .evt, false, 0, [], false⟩,
    ⟨5, 1, .evt, false, 0, [], false⟩,
    ⟨6, 1, .evt, false, 0, [], false⟩,
    ⟨7, 1, .evt, false, 0, [], false⟩,
    ⟨8, 1, .evt, false, 0, [], false⟩,
    ⟨9, 1, .evt, false, 0, [], false⟩]⟩,
  ⟨0x50010, 1, 0x0, 1, 0x0, 0x4200, 0, 0,
   [⟨0, 32, .cnt, false, 0, [], false⟩]⟩,
  ⟨0x50014, 1, 0x0, 1, 0x0, 0x4200, 0, 0,
   [⟨0, 32, .cnt, false, 0, [], false⟩]⟩,
  ⟨0x50018, 1, 0x0, 1, 0x0, 0x4200, 0, 0,
   [⟨0, 16, .cnt, false, 0, [], false⟩,
    ⟨16, 16, .cnt, false, 0, [], false⟩]⟩,
  ⟨0x5001C, 1, 0x0, 1, 0x0, 0x4200, 0, 0,
   [⟨0, 16, .cnt, false, 0, [], false⟩]⟩,
  ⟨0x50020, 1, 0x0, 1, 0x0, 0x4200, 0, 0,
   [⟨0, 32, .sts, false, 0, [], false⟩]⟩,
  ⟨0x50024, 1, 0x0, 1, 0x0, 0x4200, 0, 0,
   [⟨0, 32, .sts, false, 0, [], false⟩]⟩,
  ⟨0x50028, 1, 0x0, 1, 0x0, 0x4200, 0, 0,
   [⟨0, 5, .sts, false, 0, [], false⟩]⟩,
  ⟨0x50030, 1, 0x0, 1, 0x0, 0x4200, 0, 0,
   [⟨0, 32, .sts, false, 0, [], true⟩]⟩
]

/-- Registers of block 0x05: CH_RETIRED, CH_RETIRE, HS_FAILED, MARCH_CTL, MARCH_STS, CT_CTL, CT_ADDR, CT_DATA, CT_CHECK, CT_RDATA, CT_RCHECK, DRAM_REMAP. -/
def regs05b : List RegDef := [
  ⟨0x50034, 1, 0x0, 1, 0x0, 0x4200, 0, 0,
   [⟨0, 32, .sts, false, 0, [], true⟩]⟩,
  ⟨0x50038, 1, 0x0, 1, 0x0, 0x4200, 0, 0,
   [⟨0, 5, .ctl, true, 0, [], false⟩,
    ⟨8, 1, .cmd, true, 0, [], false⟩]⟩,
  ⟨0x5003C, 1, 0x0, 1, 0x0, 0x4200, 0, 0,
   [⟨0, 9, .sts, false, 0, [], false⟩,
    ⟨31, 1, .sts, false, 0, [], false⟩]⟩,
  ⟨0x50040, 1, 0x0, 1, 0x0, 0x4200, 0, 0,
   [⟨0, 1, .cmd, true, 0, [], false⟩,
    ⟨1, 1, .cmd, false, 0, [], false⟩,
    ⟨2, 1, .ctl, false, 1, [], false⟩,
    ⟨3, 2, .ctl, false, 0, [(0, 2)], false⟩,
    ⟨5, 13, .ctl, false, 0, [], false⟩,
    ⟨18, 1, .ctl, false, 0, [], false⟩]⟩,
  ⟨0x50044, 1, 0x0, 1, 0x0, 0x4200, 0, 0,
   [⟨0, 1, .sts, false, 0, [], false⟩,
    ⟨1, 3, .sts, false, 0, [], false⟩,
    ⟨4, 16, .sts, false, 0, [], false⟩,
    ⟨20, 1, .sts, false, 0, [], false⟩]⟩,
  ⟨0x50050, 1, 0x0, 1, 0x0, 0, 0, 0,
   [⟨0, 1, .ctl, true, 0, [], false⟩,
    ⟨1, 2, .ctl, false, 0, [(0, 2)], false⟩,
    ⟨3, 1, .cmd, false, 0, [], false⟩,
    ⟨4, 1, .cmd, false, 0, [], false⟩,
    ⟨5, 13, .ctl, false, 0, [], false⟩]⟩,
  ⟨0x50058, 1, 0x0, 1, 0x0, 0, 0, 0,
   [⟨0, 32, .ctl, false, 0, [], false⟩]⟩,
  ⟨0x5005C, 1, 0x0, 1, 0x0, 0, 0, 0,
   [⟨0, 32, .ctl, false, 0, [], false⟩]⟩,
  ⟨0x50060, 1, 0x0, 1, 0x0, 0, 0, 0,
   [⟨0, 20, .ctl, false, 0, [], false⟩]⟩,
  ⟨0x50064, 1, 0x0, 1, 0x0, 0, 0, 0,
   [⟨0, 32, .sts, false, 0, [], false⟩]⟩,
  ⟨0x50068, 1, 0x0, 1, 0x0, 0, 0, 0,
   [⟨0, 20, .sts, false, 0, [], false⟩]⟩,
  ⟨0x51000, 32, 0x40, 16, 0x4, 0x4201, 0, 0,
   [⟨0, 24, .sts, false, 0, [], false⟩,
    ⟨31, 1, .sts, false, 0, [], false⟩]⟩
]

/-- Registers of block 0x05: HS_REMAP. -/
def regs05c : List RegDef := [
  ⟨0x52000, 258, 0x20, 8, 0x4, 0x4202, 0, 0,
   [⟨0, 17, .sts, false, 0, [], false⟩,
    ⟨31, 1, .sts, false, 0, [], false⟩]⟩
]

/-- Registers of block 0x06: NOC_CTL, NOC_RBSEL, NOC_STSEL, RB_DATA, ST_DATA, NOC_STS, NOC_EVT, NOC_LAST_DROP, RB_ERR, NOC_CNT, PORT_EN, NI_TO. -/
def regs06a : List RegDef := [
  ⟨0x60000, 1, 0x0, 1, 0x0, 0x6000, 0, 0,
   [⟨0, 1, .cmd, true, 0, [], false⟩,
    ⟨1, 1, .cmd, true, 0, [], false⟩,
    ⟨2, 1, .cmd, true, 0, [], false⟩,
    ⟨3, 1, .cmd, false, 0, [], false⟩,
    ⟨4, 1, .cmd, true, 0, [], false⟩,
    ⟨5, 1, .cmd, false, 0, [], false⟩,
    ⟨6, 1, .ctl, false, 0, [], false⟩,
    ⟨7, 1, .ctl, false, 0, [], false⟩]⟩,
  ⟨0x60004, 1, 0x0, 1, 0x0, 0x6010, 0, 0,
   [⟨0, 8, .ctl, false, 0, [], false⟩,
    ⟨8, 9, .ctl, false, 0, [], false⟩]⟩,
  ⟨0x60008, 1, 0x0, 1, 0x0, 0x6020, 0, 0,
   [⟨0, 8, .ctl, false, 0, [(0, 191)], false⟩,
    ⟨8, 3, .ctl, false, 0, [(0, 4)], false⟩,
    ⟨11, 5, .ctl, false, 0, [], false⟩]⟩,
  ⟨0x60010, 4, 0x4, 1, 0x0, 0x6010, 0, 0,
   [⟨0, 32, .ctl, false, 0, [], false⟩]⟩,
  ⟨0x60020, 1, 0x0, 1, 0x0, 0x6020, 0, 0,
   [⟨0, 4, .ctl, false, 7, [], false⟩,
    ⟨4, 4, .ctl, false, 7, [], false⟩,
    ⟨8, 4, .ctl, false, 7, [], false⟩,
    ⟨12, 4, .ctl, false, 7, [], false⟩,
    ⟨16, 4, .ctl, false, 7, [], false⟩,
    ⟨20, 4, .ctl, false, 7, [], false⟩,
    ⟨24, 4, .ctl, false, 7, [], false⟩,
    ⟨28, 4, .ctl, false, 7, [], false⟩]⟩,
  ⟨0x60024, 1, 0x0, 1, 0x0, 0x6000, 0, 0,
   [⟨0, 1, .sts, false, 0, [], true⟩,
    ⟨1, 1, .sts, false, 0, [], false⟩,
    ⟨2, 1, .sts, false, 1, [], false⟩,
    ⟨3, 1, .sts, false, 0, [], false⟩,
    ⟨4, 8, .sts, false, 0, [], false⟩,
    ⟨12, 20, .sts, false, 0, [], false⟩]⟩,
  ⟨0x60028, 1, 0x0, 1, 0x0, 0x6000, 0, 0,
   [⟨0, 1, .evt, false, 0, [], false⟩,
    ⟨1, 1, .evt, false, 0, [], false⟩,
    ⟨2, 1, .evt, false, 0, [], false⟩,
    ⟨3, 1, .evt, false, 0, [], false⟩,
    ⟨4, 1, .evt, false, 0, [], false⟩,
    ⟨5, 1, .evt, false, 0, [], false⟩]⟩,
  ⟨0x6002C, 1, 0x0, 1, 0x0, 0x6000, 0, 0,
   [⟨0, 8, .sts, false, 0, [], false⟩,
    ⟨8, 1, .sts, false, 0, [], false⟩,
    ⟨9, 3, .sts, false, 0, [], false⟩,
    ⟨12, 4, .sts, false, 0, [], false⟩,
    ⟨31, 1, .sts, false, 0, [], false⟩]⟩,
  ⟨0x60030, 1, 0x0, 1, 0x0, 0x6000, 0, 0,
   [⟨0, 4, .sts, false, 0, [], false⟩,
    ⟨4, 5, .sts, false, 0, [], false⟩]⟩,
  ⟨0x60034, 1, 0x0, 1, 0x0, 0x6000, 0, 0,
   [⟨0, 16, .cnt, false, 0, [], false⟩,
    ⟨16, 16, .cnt, false, 0, [], false⟩]⟩,
  ⟨0x60100, 192, 0x4, 1, 0x0, 0x6030, 0, 0,
   [⟨0, 5, .ctl, true, 0x1f, [], false⟩,
    ⟨8, 5, .sts, false, 0x1f, [], false⟩]⟩,
  ⟨0x61000, 256, 0x20, 1, 0x0, 0x6100, 1, 0,
   [⟨0, 14, .ctl, false, 0x64, [(1, 16000)], false⟩]⟩
]

/-- Registers of block 0x06: NI_TB, NI_STS, NI_CNT, NI_CNT2, FW_RD, FW_WR. -/
def regs06b : List RegDef := [
  ⟨0x61004, 256, 0x20, 1, 0x0, 0x6100, 1, 0,
   [⟨0, 9, .ctl, false, 0x100, [(0, 256)], false⟩,
    ⟨16, 16, .ctl, false, 0xffff, [(257, 65535)], false⟩]⟩,
  ⟨0x61008, 256, 0x20, 1, 0x0, 0x6100, 1, 0,
   [⟨0, 1, .sts, false, 0, [], false⟩,
    ⟨1, 13, .sts, false, 0, [], false⟩,
    ⟨14, 12, .sts, false, 0, [], false⟩]⟩,
  ⟨0x6100C, 256, 0x20, 1, 0x0, 0x6100, 1, 0,
   [⟨0, 16, .cnt, false, 0, [], false⟩,
    ⟨16, 16, .cnt, false, 0, [], false⟩]⟩,
  ⟨0x61010, 256, 0x20, 1, 0x0, 0x6100, 1, 0,
   [⟨0, 16, .cnt, false, 0, [], false⟩,
    ⟨16, 16, .cnt, false, 0, [], false⟩]⟩,
  ⟨0x63000, 32, 0x40, 8, 0x4, 0x6300, 1, 0,
   [⟨0, 32, .ctl, true, 0xffffffff, [], false⟩]⟩,
  ⟨0x63020, 32, 0x40, 8, 0x4, 0x6300, 1, 0,
   [⟨0, 32, .ctl, true, 0xffffffff, [], false⟩]⟩
]

/-- Registers of block 0x07: CTX_CTL, CTX_KEY, CTX_NKEY, CTX_DATA, CTX_AGE, CTX_MATCH_VAL, CTX_MATCH_MASK, CTX_ENG_MAP, CTX_ENG_RETIRE, CTX_OPRES, CTX_SWEEP_RES, CTX_VISIBLE. -/
def regs07a : List RegDef := [
  ⟨0x70000, 1, 0x0, 1, 0x0, 0x6800, 0, 0,
   [⟨0, 1, .cmd, true, 0, [], false⟩,
    ⟨1, 1, .cmd, true, 0, [], false⟩,
    ⟨2, 1, .cmd, true, 0, [], false⟩,
    ⟨3, 1, .cmd, true, 0, [], false⟩,
    ⟨4, 1, .cmd, false, 0, [], false⟩,
    ⟨5, 1, .cmd, true, 0, [], false⟩,
    ⟨6, 2, .ctl, true, 1, [], false⟩,
    ⟨8, 2, .ctl, false, 0, [], false⟩,
    ⟨10, 2, .ctl, false, 0, [(0, 2)], false⟩,
    ⟨12, 1, .ctl, false, 1, [], false⟩]⟩,
  ⟨0x70010, 12, 0x4, 1, 0x0, 0x6801, 0, 0,
   [⟨0, 32, .ctl, false, 0, [], false⟩]⟩,
  ⟨0x70040, 12, 0x4, 1, 0x0, 0x6801, 0, 0,
   [⟨0, 32, .ctl, false, 0, [], false⟩]⟩,
  ⟨0x70080, 18, 0x4, 1, 0x0, 0x6801, 0, 0,
   [⟨0, 32, .ctl, false, 0, [], false⟩]⟩,
  ⟨0x700E0, 1, 0x0, 1, 0x0, 0x6802, 0, 0,
   [⟨0, 32, .ctl, false, 0x7530, [], false⟩]⟩,
  ⟨0x700E4, 2, 0x4, 1, 0x0, 0x6802, 0, 0,
   [⟨0, 32, .ctl, false, 0, [], false⟩]⟩,
  ⟨0x700EC, 2, 0x4, 1, 0x0, 0x6802, 0, 0,
   [⟨0, 32, .ctl, false, 0, [], false⟩]⟩,
  ⟨0x700F4, 1, 0x0, 1, 0x0, 0x6803, 0, 0,
   [⟨0, 8, .ctl, true, 0xe4, [], false⟩]⟩,
  ⟨0x700F8, 1, 0x0, 1, 0x0, 0x6803, 0, 0,
   [⟨0, 4, .cmd, true, 0, [], false⟩]⟩,
  ⟨0x70100, 1, 0x0, 1, 0x0, 0x6801, 0, 0,
   [⟨0, 4, .sts, false, 0, [], false⟩,
    ⟨4, 4, .sts, false, 0, [], false⟩,
    ⟨8, 22, .sts, false, 0, [], false⟩]⟩,
  ⟨0x70104, 1, 0x0, 1, 0x0, 0x6802, 0, 0,
   [⟨0, 23, .sts, false, 0, [], false⟩]⟩,
  ⟨0x70108, 1, 0x0, 1, 0x0, 0x6804, 0, 0,
   [⟨0, 23, .sts, false, 0, [], false⟩]⟩
]

/-- Registers of block 0x07: CTX_POISON, CTX_STS, CTX_EVT, CTX_HITS, CTX_MISSES, CTX_NO_CTX. -/
def regs07b : List RegDef := [
  ⟨0x7010C, 1, 0x0, 1, 0x0, 0x6804, 0, 0,
   [⟨0, 22, .sts, false, 0, [], false⟩,
    ⟨31, 1, .sts, false, 0, [], false⟩]⟩,
  ⟨0x70120, 1, 0x0, 1, 0x0, 0x6804, 0, 0,
   [⟨0, 1, .sts, false, 0, [], true⟩,
    ⟨1, 1, .sts, false, 0, [], true⟩,
    ⟨2, 1, .sts, false, 0, [], false⟩,
    ⟨3, 1, .sts, false, 0, [], false⟩,
    ⟨4, 1, .sts, false, 0, [], false⟩,
    ⟨5, 11, .sts, false, 0, [], false⟩,
    ⟨16, 8, .sts, false, 0xe4, [], true⟩,
    ⟨24, 4, .sts, false, 0xf, [], true⟩]⟩,
  ⟨0x70124, 1, 0x0, 1, 0x0, 0x6804, 0, 0,
   [⟨0, 1, .evt, false, 0, [], false⟩,
    ⟨1, 1, .evt, false, 0, [], false⟩,
    ⟨2, 1, .evt, false, 0, [], false⟩,
    ⟨3, 1, .evt, false, 0, [], false⟩,
    ⟨4, 1, .evt, false, 0, [], false⟩,
    ⟨5, 1, .evt, false, 0, [], false⟩,
    ⟨6, 1, .evt, false, 0, [], false⟩,
    ⟨7, 1, .evt, false, 0, [], false⟩]⟩,
  ⟨0x70200, 4, 0x10, 2, 0x4, 0x6810, 1, 0,
   [⟨0, 32, .cnt, false, 0, [], false⟩]⟩,
  ⟨0x70208, 4, 0x10, 1, 0x0, 0x6810, 1, 0,
   [⟨0, 32, .cnt, false, 0, [], false⟩]⟩,
  ⟨0x7020C, 4, 0x10, 1, 0x0, 0x6810, 1, 0,
   [⟨0, 32, .cnt, false, 0, [], false⟩]⟩
]

/-- Registers of block 0x08: DR_MAP, DR_GAP, DR_TEMP, DR_TEMP_EVT, CH_CTL, CH_STS, CH_EVT, PORT_LAT0, CH_RDWR0, DLY0, CH_LAT_CNT. -/
def regs08a : List RegDef := [
  ⟨0x80000, 1, 0x0, 1, 0x0, 0x4800, 0, 0,
   [⟨0, 1, .ctl, true, 0, [], false⟩,
    ⟨1, 1, .sts, false, 0, [], false⟩,
    ⟨2, 6, .sts, false, 0x20, [], false⟩]⟩,
  ⟨0x80004, 1, 0x0, 1, 0x0, 0x4800, 0, 0,
   [⟨0, 16, .sts, false, 0, [], false⟩,
    ⟨16, 16, .sts, false, 0, [], false⟩]⟩,
  ⟨0x80010, 2, 0x10000, 1, 0x0, 0x4808, 1, 0,
   [⟨0, 8, .sts, false, 0, [], false⟩,
    ⟨8, 8, .sts, false, 0, [], false⟩,
    ⟨16, 8, .sts, false, 0, [], false⟩,
    ⟨24, 8, .sts, false, 0, [], false⟩]⟩,
  ⟨0x80014, 2, 0x10000, 1, 0x0, 0x4808, 1, 0,
   [⟨0, 1, .evt, false, 0, [], false⟩,
    ⟨1, 1, .evt, false, 0, [], false⟩,
    ⟨2, 1, .evt, false, 0, [], false⟩]⟩,
  ⟨0x81000, 2, 0x10000, 16, 0x100, 0x4810, 16, 1,
   [⟨0, 2, .ctl, false, 0, [(0, 2)], false⟩,
    ⟨2, 4, .ctl, false, 4, [], false⟩,
    ⟨6, 1, .cmd, true, 0, [], false⟩]⟩,
  ⟨0x81004, 2, 0x10000, 16, 0x100, 0x4810, 16, 1,
   [⟨0, 10, .sts, false, 0, [], false⟩,
    ⟨10, 1, .sts, false, 0, [], false⟩,
    ⟨11, 1, .sts, false, 0, [], false⟩,
    ⟨12, 1, .sts, false, 0, [], false⟩,
    ⟨13, 1, .sts, false, 0, [], false⟩]⟩,
  ⟨0x81008, 2, 0x10000, 16, 0x100, 0x4810, 16, 1,
   [⟨0, 1, .evt, false, 0, [], false⟩,
    ⟨1, 1, .evt, false, 0, [], false⟩,
    ⟨2, 1, .evt, false, 0, [], false⟩,
    ⟨3, 1, .evt, false, 0, [], false⟩,
    ⟨4, 1, .evt, false, 0, [], false⟩]⟩,
  ⟨0x81010, 16, 0x100, 8, 0x4, 0x4810, 1, 0,
   [⟨0, 16, .ctl, false, 0x3e8, [(50, 65535)], false⟩]⟩,
  ⟨0x81030, 16, 0x100, 4, 0x4, 0x4810, 1, 0,
   [⟨0, 32, .cnt, false, 0, [], false⟩]⟩,
  ⟨0x81080, 16, 0x100, 26, 0x4, 0x4810, 1, 0,
   [⟨0, 7, .ctl, false, 0, [], false⟩,
    ⟨8, 7, .ctl, false, 0, [], false⟩,
    ⟨16, 7, .ctl, false, 0, [], false⟩,
    ⟨24, 7, .ctl, false, 0, [], false⟩]⟩,
  ⟨0x81040, 2, 0x10000, 16, 0x100, 0x4810, 16, 1,
   [⟨0, 16, .cnt, false, 0, [], false⟩,
    ⟨16, 16, .cnt, false, 0, [], false⟩]⟩
]

/-- Registers of block 0x09: PORT_LAT1, CH_RDWR1, DLY1. -/
def regs09a : List RegDef := [
  ⟨0x91010, 16, 0x100, 8, 0x4, 0x4820, 1, 0,
   [⟨0, 16, .ctl, false, 0x3e8, [(50, 65535)], false⟩]⟩,
  ⟨0x91030, 16, 0x100, 4, 0x4, 0x4820, 1, 0,
   [⟨0, 32, .cnt, false, 0, [], false⟩]⟩,
  ⟨0x91080, 16, 0x100, 26, 0x4, 0x4820, 1, 0,
   [⟨0, 7, .ctl, false, 0, [], false⟩,
    ⟨8, 7, .ctl, false, 0, [], false⟩,
    ⟨16, 7, .ctl, false, 0, [], false⟩,
    ⟨24, 7, .ctl, false, 0, [], false⟩]⟩
]

/-- Registers of block 0x0A: LINE_LANE_CTL, LINE_TX_FIR, LINE_CTLE, LINE_FFE_LO, LINE_FFE_HI, LINE_DFE, LINE_ADAPT_CTL, LINE_LANE_STS, LINE_LANE_EVT, LINE_PAT_CTL, LINE_USER_PAT, LINE_INJ_CTL. -/
def regs0Aa : List RegDef := [
  ⟨0xA0000, 64, 0x100, 1, 0x0, 0x5000, 1, 0,
   [⟨0, 1, .ctl, false, 0, [], false⟩,
    ⟨1, 1, .ctl, false, 0, [], false⟩,
    ⟨2, 3, .ctl, false, 0, [(0, 5)], false⟩,
    ⟨5, 1, .ctl, false, 1, [], false⟩,
    ⟨6, 3, .ctl, false, 1, [(0, 4)], false⟩,
    ⟨9, 2, .ctl, false, 0, [], false⟩,
    ⟨11, 1, .ctl, false, 0, [], false⟩,
    ⟨12, 1, .ctl, false, 0, [], false⟩,
    ⟨13, 1, .ctl, false, 1, [], false⟩,
    ⟨14, 1, .ctl, false, 1, [], false⟩,
    ⟨15, 1, .ctl, false, 0, [], false⟩,
    ⟨16, 1, .cmd, false, 0, [], false⟩,
    ⟨17, 1, .cmd, false, 0, [], false⟩,
    ⟨18, 1, .cmd, true, 0, [], false⟩]⟩,
  ⟨0xA0004, 64, 0x100, 1, 0x0, 0x5000, 1, 0,
   [⟨0, 6, .ctl, false, 0, [], false⟩,
    ⟨6, 6, .ctl, false, 0, [], false⟩,
    ⟨12, 6, .ctl, false, 0x3f, [], false⟩,
    ⟨18, 6, .ctl, false, 0, [], false⟩]⟩,
  ⟨0xA0008, 64, 0x100, 1, 0x0, 0x5000, 1, 0,
   [⟨0, 5, .ctl, false, 8, [], false⟩]⟩,
  ⟨0xA000C, 64, 0x100, 1, 0x0, 0x5000, 1, 0,
   [⟨0, 8, .ctl, false, 0, [], false⟩,
    ⟨8, 8, .ctl, false, 0x40, [], false⟩,
    ⟨16, 8, .ctl, false, 0, [], false⟩,
    ⟨24, 8, .ctl, false, 0, [], false⟩]⟩,
  ⟨0xA0010, 64, 0x100, 1, 0x0, 0x5000, 1, 0,
   [⟨0, 8, .ctl, false, 0, [], false⟩,
    ⟨8, 8, .ctl, false, 0, [], false⟩,
    ⟨16, 8, .ctl, false, 0, [], false⟩,
    ⟨24, 8, .ctl, false, 0, [], false⟩]⟩,
  ⟨0xA0014, 64, 0x100, 4, 0x4, 0x5000, 1, 0,
   [⟨0, 8, .ctl, false, 0, [], false⟩,
    ⟨8, 8, .ctl, false, 0, [], false⟩,
    ⟨16, 8, .ctl, false, 0, [], false⟩,
    ⟨24, 8, .ctl, false, 0, [], false⟩]⟩,
  ⟨0xA0024, 64, 0x100, 1, 0x0, 0x5000, 1, 0,
   [⟨0, 8, .ctl, false, 0x40, [], false⟩,
    ⟨8, 16, .ctl, false, 0x32, [(1, 65535)], false⟩,
    ⟨24, 1, .ctl, false, 0, [], false⟩]⟩,
  ⟨0xA0028, 64, 0x100, 1, 0x0, 0x5000, 1, 0,
   [⟨0, 3, .sts, false, 0, [], false⟩,
    ⟨3, 1, .sts, false, 0, [], false⟩,
    ⟨4, 1, .sts, false, 0, [], false⟩,
    ⟨5, 1, .sts, false, 0, [], false⟩,
    ⟨6, 1, .sts, false, 0, [], false⟩,
    ⟨7, 1, .sts, false, 0, [], false⟩,
    ⟨8, 8, .sts, false, 0, [], false⟩,
    ⟨16, 1, .sts, false, 0, [], false⟩]⟩,
  ⟨0xA002C, 64, 0x100, 1, 0x0, 0x5000, 1, 0,
   [⟨0, 1, .evt, false, 0, [], false⟩,
    ⟨1, 1, .evt, false, 0, [], false⟩,
    ⟨2, 1, .evt, false, 0, [], false⟩,
    ⟨3, 1, .evt, false, 0, [], false⟩,
    ⟨4, 1, .evt, false, 0, [], false⟩,
    ⟨5, 1, .evt, false, 0, [], false⟩,
    ⟨6, 1, .evt, false, 0, [], false⟩,
    ⟨7, 1, .evt, false, 0, [], false⟩,
    ⟨8, 1, .evt, false, 0, [], false⟩,
    ⟨9, 1, .evt, false, 0, [], false⟩,
    ⟨10, 1, .evt, false, 0, [], false⟩]⟩,
  ⟨0xA0030, 64, 0x100, 1, 0x0, 0x5000, 1, 0,
   [⟨0, 4, .ctl, false, 0, [], false⟩,
    ⟨4, 4, .ctl, false, 0, [], false⟩,
    ⟨8, 1, .ctl, false, 0, [], false⟩,
    ⟨9, 1, .ctl, false, 0, [], false⟩]⟩,
  ⟨0xA0034, 64, 0x100, 4, 0x4, 0x5000, 1, 0,
   [⟨0, 32, .ctl, false, 0, [], false⟩]⟩,
  ⟨0xA0044, 64, 0x100, 1, 0x0, 0x5000, 1, 0,
   [⟨0, 2, .ctl, false, 0, [], false⟩,
    ⟨2, 8, .ctl, false, 1, [(1, 255)], false⟩,
    ⟨10, 5, .ctl, false, 0x10, [(4, 31)], false⟩,
    ⟨15, 1, .cmd, false, 0, [], false⟩]⟩
]

/-- Registers of block 0x0A: LINE_CHK_ERR, LINE_CHK_BITS, LINE_DEC_CORR, LINE_DEC_UNCORR, LINE_CNT1, LINE_CNT2, LINE_PLLA_KBD, LINE_PLLB_KBD, LINE_PLL_CMD, LINE_PLL_STS. -/
def regs0Ab : List RegDef := [
  ⟨0xA0048, 64, 0x100, 2, 0x4, 0x5000, 1, 0,
   [⟨0, 32, .cnt, false, 0, [], false⟩]⟩,
  ⟨0xA0050, 64, 0x100, 2, 0x4, 0x5000, 1, 0,
   [⟨0, 32, .cnt, false, 0, [], false⟩]⟩,
  ⟨0xA0058, 64, 0x100, 1, 0x0, 0x5000, 1, 0,
   [⟨0, 32, .cnt, false, 0, [], false⟩]⟩,
  ⟨0xA005C, 64, 0x100, 1, 0x0, 0x5000, 1, 0,
   [⟨0, 32, .cnt, false, 0, [], false⟩]⟩,
  ⟨0xA0060, 64, 0x100, 1, 0x0, 0x5000, 1, 0,
   [⟨0, 16, .cnt, false, 0, [], false⟩,
    ⟨16, 16, .cnt, false, 0, [], false⟩]⟩,
  ⟨0xA0064, 64, 0x100, 1, 0x0, 0x5000, 1, 0,
   [⟨0, 16, .cnt, false, 0, [], false⟩,
    ⟨16, 16, .cnt, false, 0, [], false⟩]⟩,
  ⟨0xA4000, 16, 0x10, 1, 0x0, 0x5300, 1, 0,
   [⟨0, 32, .ctl, true, 0x32a9f88, [], false⟩]⟩,
  ⟨0xA4004, 16, 0x10, 1, 0x0, 0x5300, 1, 0,
   [⟨0, 32, .ctl, true, 0x32a9f88, [], false⟩]⟩,
  ⟨0xA4008, 16, 0x10, 1, 0x0, 0x5300, 1, 0,
   [⟨0, 1, .cmd, true, 0, [], false⟩,
    ⟨1, 1, .cmd, true, 0, [], false⟩]⟩,
  ⟨0xA400C, 16, 0x10, 1, 0x0, 0x5300, 1, 0,
   [⟨0, 1, .sts, false, 0, [], false⟩,
    ⟨1, 1, .sts, false, 0, [], false⟩,
    ⟨2, 1, .sts, false, 0, [], false⟩]⟩
]

/-- Registers of block 0x0B: HER_LANE_CTL, HER_TX_FIR, HER_CTLE, HER_DFE, HER_DFE5, HER_ADAPT_CTL, HER_LANE_STS, HER_LANE_EVT, HER_PAT_CTL, HER_USER_PAT, HER_INJ_CTL, HER_CHK_ERR. -/
def regs0Ba : List RegDef := [
  ⟨0xB0000, 64, 0x100, 1, 0x0, 0x5100, 1, 0,
   [⟨0, 1, .ctl, false, 0, [], false⟩,
    ⟨1, 1, .ctl, false, 0, [], false⟩,
    ⟨2, 3, .ctl, false, 0, [(0, 4)], false⟩,
    ⟨6, 3, .ctl, false, 4, [(0, 4)], false⟩,
    ⟨9, 2, .ctl, false, 0, [], false⟩,
    ⟨11, 1, .ctl, false, 0, [], false⟩,
    ⟨12, 1, .ctl, false, 0, [], false⟩,
    ⟨13, 1, .ctl, false, 1, [], false⟩,
    ⟨14, 1, .ctl, false, 1, [], false⟩,
    ⟨15, 1, .ctl, false, 0, [], false⟩,
    ⟨16, 1, .cmd, false, 0, [], false⟩,
    ⟨17, 1, .cmd, false, 0, [], false⟩,
    ⟨18, 1, .cmd, true, 0, [], false⟩]⟩,
  ⟨0xB0004, 64, 0x100, 1, 0x0, 0x5100, 1, 0,
   [⟨6, 6, .ctl, false, 0, [], false⟩,
    ⟨12, 6, .ctl, false, 0x3f, [], false⟩,
    ⟨18, 6, .ctl, false, 0, [], false⟩]⟩,
  ⟨0xB0008, 64, 0x100, 1, 0x0, 0x5100, 1, 0,
   [⟨0, 5, .ctl, false, 8, [(0, 15)], false⟩]⟩,
  ⟨0xB0014, 64, 0x100, 1, 0x0, 0x5100, 1, 0,
   [⟨0, 8, .ctl, false, 0, [], false⟩,
    ⟨8, 8, .ctl, false, 0, [], false⟩,
    ⟨16, 8, .ctl, false, 0, [], false⟩,
    ⟨24, 8, .ctl, false, 0, [], false⟩]⟩,
  ⟨0xB0018, 64, 0x100, 1, 0x0, 0x5100, 1, 0,
   [⟨0, 8, .ctl, false, 0, [], false⟩]⟩,
  ⟨0xB0024, 64, 0x100, 1, 0x0, 0x5100, 1, 0,
   [⟨0, 8, .ctl, false, 0x40, [], false⟩,
    ⟨8, 16, .ctl, false, 0x32, [(1, 65535)], false⟩,
    ⟨24, 1, .ctl, false, 0, [], false⟩]⟩,
  ⟨0xB0028, 64, 0x100, 1, 0x0, 0x5100, 1, 0,
   [⟨0, 3, .sts, false, 0, [], false⟩,
    ⟨3, 1, .sts, false, 0, [], false⟩,
    ⟨4, 1, .sts, false, 0, [], false⟩,
    ⟨5, 1, .sts, false, 0, [], false⟩,
    ⟨6, 1, .sts, false, 0, [], false⟩,
    ⟨7, 1, .sts, false, 0, [], false⟩,
    ⟨8, 8, .sts, false, 0, [], false⟩,
    ⟨16, 1, .sts, false, 0, [], false⟩]⟩,
  ⟨0xB002C, 64, 0x100, 1, 0x0, 0x5100, 1, 0,
   [⟨0, 1, .evt, false, 0, [], false⟩,
    ⟨1, 1, .evt, false, 0, [], false⟩,
    ⟨2, 1, .evt, false, 0, [], false⟩,
    ⟨3, 1, .evt, false, 0, [], false⟩,
    ⟨4, 1, .evt, false, 0, [], false⟩,
    ⟨5, 1, .evt, false, 0, [], false⟩,
    ⟨6, 1, .evt, false, 0, [], false⟩,
    ⟨7, 1, .evt, false, 0, [], false⟩,
    ⟨8, 1, .evt, false, 0, [], false⟩,
    ⟨9, 1, .evt, false, 0, [], false⟩,
    ⟨10, 1, .evt, false, 0, [], false⟩]⟩,
  ⟨0xB0030, 64, 0x100, 1, 0x0, 0x5100, 1, 0,
   [⟨0, 4, .ctl, false, 0, [], false⟩,
    ⟨4, 4, .ctl, false, 0, [], false⟩,
    ⟨8, 1, .ctl, false, 0, [], false⟩,
    ⟨9, 1, .ctl, false, 0, [], false⟩]⟩,
  ⟨0xB0034, 64, 0x100, 4, 0x4, 0x5100, 1, 0,
   [⟨0, 32, .ctl, false, 0, [], false⟩]⟩,
  ⟨0xB0044, 64, 0x100, 1, 0x0, 0x5100, 1, 0,
   [⟨0, 2, .ctl, false, 0, [], false⟩,
    ⟨2, 8, .ctl, false, 1, [(1, 255)], false⟩,
    ⟨10, 5, .ctl, false, 0x10, [(4, 31)], false⟩,
    ⟨15, 1, .cmd, false, 0, [], false⟩]⟩,
  ⟨0xB0048, 64, 0x100, 2, 0x4, 0x5100, 1, 0,
   [⟨0, 32, .cnt, false, 0, [], false⟩]⟩
]

/-- Registers of block 0x0B: HER_CHK_BITS, HER_DEC_CORR, HER_DEC_UNCORR, HER_CNT1, HER_CNT2, HER_PLLA_KBD, HER_PLLB_KBD, HER_PLL_CMD, HER_PLL_STS. -/
def regs0Bb : List RegDef := [
  ⟨0xB0050, 64, 0x100, 2, 0x4, 0x5100, 1, 0,
   [⟨0, 32, .cnt, false, 0, [], false⟩]⟩,
  ⟨0xB0058, 64, 0x100, 1, 0x0, 0x5100, 1, 0,
   [⟨0, 32, .cnt, false, 0, [], false⟩]⟩,
  ⟨0xB005C, 64, 0x100, 1, 0x0, 0x5100, 1, 0,
   [⟨0, 32, .cnt, false, 0, [], false⟩]⟩,
  ⟨0xB0060, 64, 0x100, 1, 0x0, 0x5100, 1, 0,
   [⟨0, 16, .cnt, false, 0, [], false⟩,
    ⟨16, 16, .cnt, false, 0, [], false⟩]⟩,
  ⟨0xB0064, 64, 0x100, 1, 0x0, 0x5100, 1, 0,
   [⟨0, 16, .cnt, false, 0, [], false⟩,
    ⟨16, 16, .cnt, false, 0, [], false⟩]⟩,
  ⟨0xB4000, 16, 0x10, 1, 0x0, 0x5310, 1, 0,
   [⟨0, 32, .ctl, true, 0x9d5b34, [], false⟩]⟩,
  ⟨0xB4004, 16, 0x10, 1, 0x0, 0x5310, 1, 0,
   [⟨0, 32, .ctl, true, 0x9d5b34, [], false⟩]⟩,
  ⟨0xB4008, 16, 0x10, 1, 0x0, 0x5310, 1, 0,
   [⟨0, 1, .cmd, true, 0, [], false⟩,
    ⟨1, 1, .cmd, true, 0, [], false⟩]⟩,
  ⟨0xB400C, 16, 0x10, 1, 0x0, 0x5310, 1, 0,
   [⟨0, 1, .sts, false, 0, [], false⟩,
    ⟨1, 1, .sts, false, 0, [], false⟩,
    ⟨2, 1, .sts, false, 0, [], false⟩]⟩
]

/-- Registers of block 0x0C: PORT_CTL, PORT_STS, PORT_EVT, PORT_CNT, WB_CTL, WB_DROP, PL_LANE_CTL, PL_TX_FIR, PL_CTLE, PL_FFE_LO, PL_FFE_HI, PL_DFE. -/
def regs0Ca : List RegDef := [
  ⟨0xC0000, 2, 0x1000, 1, 0x0, 0x5800, 1, 0,
   [⟨0, 2, .ctl, true, 0, [(0, 1)], false⟩,
    ⟨2, 1, .ctl, false, 1, [], false⟩,
    ⟨3, 1, .ctl, false, 1, [], false⟩,
    ⟨4, 1, .ctl, false, 0, [], false⟩,
    ⟨5, 8, .ctl, false, 0, [], false⟩,
    ⟨13, 3, .ctl, false, 7, [], false⟩,
    ⟨16, 14, .ctl, false, 0x2400, [(64, 9216)], false⟩,
    ⟨30, 1, .ctl, false, 0, [], false⟩]⟩,
  ⟨0xC0004, 2, 0x1000, 1, 0x0, 0x5800, 1, 0,
   [⟨0, 1, .sts, false, 0, [], false⟩,
    ⟨1, 1, .sts, false, 0, [], false⟩,
    ⟨2, 4, .sts, false, 0, [], false⟩]⟩,
  ⟨0xC0008, 2, 0x1000, 1, 0x0, 0x5800, 1, 0,
   [⟨0, 1, .evt, false, 0, [], false⟩,
    ⟨1, 1, .evt, false, 0, [], false⟩,
    ⟨2, 1, .evt, false, 0, [], false⟩,
    ⟨3, 1, .evt, false, 0, [], false⟩,
    ⟨4, 1, .evt, false, 0, [], false⟩,
    ⟨5, 1, .evt, false, 0, [], false⟩,
    ⟨6, 1, .evt, false, 0, [], false⟩]⟩,
  ⟨0xC000C, 2, 0x1000, 1, 0x0, 0x5800, 1, 0,
   [⟨0, 8, .cnt, false, 0, [], false⟩,
    ⟨8, 8, .cnt, false, 0, [], false⟩,
    ⟨16, 8, .cnt, false, 0, [], false⟩,
    ⟨24, 8, .cnt, false, 0, [], false⟩]⟩,
  ⟨0xC2000, 1, 0x0, 1, 0x0, 0x1010, 0, 0,
   [⟨0, 1, .ctl, false, 1, [], false⟩,
    ⟨1, 1, .ctl, false, 1, [], false⟩,
    ⟨16, 16, .ctl, true, 0xc933, [], false⟩]⟩,
  ⟨0xC2004, 1, 0x0, 1, 0x0, 0x1010, 0, 0,
   [⟨0, 8, .cnt, false, 0, [], false⟩,
    ⟨8, 8, .cnt, false, 0, [], false⟩,
    ⟨16, 8, .cnt, false, 0, [], false⟩,
    ⟨24, 8, .cnt, false, 0, [], false⟩]⟩,
  ⟨0xC4000, 8, 0x100, 1, 0x0, 0x5200, 1, 0,
   [⟨11, 1, .ctl, false, 0, [], false⟩,
    ⟨12, 1, .ctl, false, 0, [], false⟩,
    ⟨15, 1, .ctl, false, 0, [], false⟩,
    ⟨17, 1, .cmd, false, 0, [], false⟩,
    ⟨18, 1, .cmd, true, 0, [], false⟩]⟩,
  ⟨0xC4004, 8, 0x100, 1, 0x0, 0x5200, 1, 0,
   [⟨0, 6, .sts, false, 0, [], false⟩,
    ⟨6, 6, .sts, false, 0, [], false⟩,
    ⟨12, 6, .sts, false, 0x3f, [], false⟩,
    ⟨18, 6, .sts, false, 0, [], false⟩]⟩,
  ⟨0xC4008, 8, 0x100, 1, 0x0, 0x5200, 1, 0,
   [⟨0, 5, .ctl, false, 8, [], false⟩]⟩,
  ⟨0xC400C, 8, 0x100, 1, 0x0, 0x5200, 1, 0,
   [⟨0, 8, .ctl, false, 0, [], false⟩,
    ⟨8, 8, .ctl, false, 0x40, [], false⟩,
    ⟨16, 8, .ctl, false, 0, [], false⟩,
    ⟨24, 8, .ctl, false, 0, [], false⟩]⟩,
  ⟨0xC4010, 8, 0x100, 1, 0x0, 0x5200, 1, 0,
   [⟨0, 8, .ctl, false, 0, [], false⟩,
    ⟨8, 8, .ctl, false, 0, [], false⟩,
    ⟨16, 8, .ctl, false, 0, [], false⟩,
    ⟨24, 8, .ctl, false, 0, [], false⟩]⟩,
  ⟨0xC4014, 8, 0x100, 4, 0x4, 0x5200, 1, 0,
   [⟨0, 8, .ctl, false, 0, [], false⟩,
    ⟨8, 8, .ctl, false, 0, [], false⟩,
    ⟨16, 8, .ctl, false, 0, [], false⟩,
    ⟨24, 8, .ctl, false, 0, [], false⟩]⟩
]

/-- Registers of block 0x0C: PL_ADAPT_CTL, PL_LANE_STS, PL_LANE_EVT, PL_PAT_CTL, PL_USER_PAT, PL_INJ_CTL, PL_CHK_ERR, PL_CHK_BITS, PL_DEC_CORR, PL_DEC_UNCORR, PL_CNT1, PL_CNT2. -/
def regs0Cb : List RegDef := [
  ⟨0xC4024, 8, 0x100, 1, 0x0, 0x5200, 1, 0,
   [⟨0, 8, .ctl, false, 0x40, [], false⟩,
    ⟨8, 16, .ctl, false, 0x32, [(1, 65535)], false⟩,
    ⟨24, 1, .ctl, false, 0, [], false⟩]⟩,
  ⟨0xC4028, 8, 0x100, 1, 0x0, 0x5200, 1, 0,
   [⟨0, 3, .sts, false, 0, [], false⟩,
    ⟨3, 1, .sts, false, 0, [], false⟩,
    ⟨4, 1, .sts, false, 0, [], false⟩,
    ⟨5, 1, .sts, false, 0, [], false⟩,
    ⟨6, 1, .sts, false, 0, [], false⟩,
    ⟨7, 1, .sts, false, 0, [], false⟩,
    ⟨8, 8, .sts, false, 0, [], false⟩,
    ⟨16, 1, .sts, false, 0, [], false⟩]⟩,
  ⟨0xC402C, 8, 0x100, 1, 0x0, 0x5200, 1, 0,
   [⟨0, 1, .evt, false, 0, [], false⟩,
    ⟨1, 1, .evt, false, 0, [], false⟩,
    ⟨2, 1, .evt, false, 0, [], false⟩,
    ⟨3, 1, .evt, false, 0, [], false⟩,
    ⟨4, 1, .evt, false, 0, [], false⟩,
    ⟨5, 1, .evt, false, 0, [], false⟩,
    ⟨6, 1, .evt, false, 0, [], false⟩,
    ⟨7, 1, .evt, false, 0, [], false⟩,
    ⟨8, 1, .evt, false, 0, [], false⟩,
    ⟨9, 1, .evt, false, 0, [], false⟩,
    ⟨10, 1, .evt, false, 0, [], false⟩]⟩,
  ⟨0xC4030, 8, 0x100, 1, 0x0, 0x5200, 1, 0,
   [⟨0, 4, .ctl, false, 0, [], false⟩,
    ⟨4, 4, .ctl, false, 0, [], false⟩,
    ⟨8, 1, .ctl, false, 0, [], false⟩,
    ⟨9, 1, .ctl, false, 0, [], false⟩]⟩,
  ⟨0xC4034, 8, 0x100, 4, 0x4, 0x5200, 1, 0,
   [⟨0, 32, .ctl, false, 0, [], false⟩]⟩,
  ⟨0xC4044, 8, 0x100, 1, 0x0, 0x5200, 1, 0,
   [⟨0, 2, .ctl, false, 0, [], false⟩,
    ⟨2, 8, .ctl, false, 1, [(1, 255)], false⟩,
    ⟨10, 5, .ctl, false, 0x10, [(4, 31)], false⟩,
    ⟨15, 1, .cmd, false, 0, [], false⟩]⟩,
  ⟨0xC4048, 8, 0x100, 2, 0x4, 0x5200, 1, 0,
   [⟨0, 32, .cnt, false, 0, [], false⟩]⟩,
  ⟨0xC4050, 8, 0x100, 2, 0x4, 0x5200, 1, 0,
   [⟨0, 32, .cnt, false, 0, [], false⟩]⟩,
  ⟨0xC4058, 8, 0x100, 1, 0x0, 0x5200, 1, 0,
   [⟨0, 32, .cnt, false, 0, [], false⟩]⟩,
  ⟨0xC405C, 8, 0x100, 1, 0x0, 0x5200, 1, 0,
   [⟨0, 32, .cnt, false, 0, [], false⟩]⟩,
  ⟨0xC4060, 8, 0x100, 1, 0x0, 0x5200, 1, 0,
   [⟨0, 16, .cnt, false, 0, [], false⟩,
    ⟨16, 16, .cnt, false, 0, [], false⟩]⟩,
  ⟨0xC4064, 8, 0x100, 1, 0x0, 0x5200, 1, 0,
   [⟨0, 16, .cnt, false, 0, [], false⟩,
    ⟨16, 16, .cnt, false, 0, [], false⟩]⟩
]

/-- Registers of block 0x0D: PACK_CTL, PACK_IDS, PACK_PARAM, PACK_TIMING, PACK_SCOPE, PACK_STS, PACK_CENSUS, PACK_OFFSET, PACK_TRIM, PACK_TIME, PACK_EVT, PACK_CNT. -/
def regs0Da : List RegDef := [
  ⟨0xD0000, 1, 0x0, 1, 0x0, 0x7000, 0, 0,
   [⟨0, 1, .ctl, true, 0, [], false⟩,
    ⟨1, 1, .ctl, false, 0, [], false⟩,
    ⟨2, 8, .ctl, false, 0, [(0, 135)], false⟩]⟩,
  ⟨0xD0004, 1, 0x0, 1, 0x0, 0x7000, 0, 0,
   [⟨0, 16, .ctl, true, 0, [], false⟩,
    ⟨16, 12, .ctl, true, 0, [], false⟩]⟩,
  ⟨0xD0008, 1, 0x0, 1, 0x0, 0x7000, 0, 0,
   [⟨0, 8, .ctl, false, 0x80, [], false⟩,
    ⟨8, 13, .ctl, false, 0, [(0, 4096)], false⟩]⟩,
  ⟨0xD000C, 1, 0x0, 1, 0x0, 0x7000, 0, 0,
   [⟨0, 10, .ctl, false, 0x64, [(10, 1000)], false⟩,
    ⟨10, 6, .ctl, false, 3, [(2, 63)], false⟩,
    ⟨16, 16, .ctl, false, 0x64, [(10, 65535)], false⟩]⟩,
  ⟨0xD0010, 4, 0x4, 1, 0x0, 0x7000, 0, 0,
   [⟨0, 32, .ctl, false, 0, [], false⟩]⟩,
  ⟨0xD0020, 1, 0x0, 1, 0x0, 0x7000, 0, 0,
   [⟨0, 2, .sts, false, 0, [], true⟩,
    ⟨2, 12, .sts, false, 0, [], false⟩,
    ⟨14, 1, .sts, false, 0, [], false⟩,
    ⟨15, 1, .sts, false, 0, [], false⟩,
    ⟨16, 1, .sts, false, 0, [], false⟩,
    ⟨17, 1, .sts, false, 0, [], false⟩,
    ⟨18, 1, .sts, false, 0, [], false⟩,
    ⟨19, 1, .sts, false, 0, [], false⟩,
    ⟨20, 2, .sts, false, 0, [], false⟩]⟩,
  ⟨0xD0024, 1, 0x0, 1, 0x0, 0x7000, 0, 0,
   [⟨0, 13, .sts, false, 0, [], false⟩,
    ⟨16, 13, .sts, false, 0, [], false⟩]⟩,
  ⟨0xD0028, 1, 0x0, 1, 0x0, 0x7000, 0, 0,
   [⟨0, 32, .sts, false, 0, [], false⟩]⟩,
  ⟨0xD002C, 1, 0x0, 1, 0x0, 0x7000, 0, 0,
   [⟨0, 32, .sts, false, 0, [], false⟩]⟩,
  ⟨0xD0030, 2, 0x4, 1, 0x0, 0x7000, 0, 0,
   [⟨0, 32, .sts, false, 0, [], false⟩]⟩,
  ⟨0xD003C, 1, 0x0, 1, 0x0, 0x7000, 0, 0,
   [⟨0, 1, .evt, false, 0, [], false⟩,
    ⟨1, 1, .evt, false, 0, [], false⟩,
    ⟨2, 1, .evt, false, 0, [], false⟩,
    ⟨3, 1, .evt, false, 0, [], false⟩,
    ⟨4, 1, .evt, false, 0, [], false⟩,
    ⟨5, 1, .evt, false, 0, [], false⟩,
    ⟨6, 1, .evt, false, 0, [], false⟩,
    ⟨7, 1, .evt, false, 0, [], false⟩]⟩,
  ⟨0xD0040, 1, 0x0, 1, 0x0, 0x7000, 0, 0,
   [⟨0, 16, .cnt, false, 0, [], false⟩,
    ⟨16, 16, .cnt, false, 0, [], false⟩]⟩
]

/-- Registers of block 0x0D: PB_BID, PB_STS. -/
def regs0Db : List RegDef := [
  ⟨0xD0050, 1, 0x0, 1, 0x0, 0x7000, 0, 0,
   [⟨0, 32, .sts, false, 0, [], false⟩]⟩,
  ⟨0xD0054, 1, 0x0, 1, 0x0, 0x7000, 0, 0,
   [⟨0, 4, .sts, false, 0, [], false⟩,
    ⟨4, 1, .sts, false, 0, [], false⟩,
    ⟨5, 1, .sts, false, 0, [], false⟩,
    ⟨6, 13, .sts, false, 0, [], false⟩]⟩
]

/-- Registers of block 0x0E: SEC_KEY_STS, SEC_CTL, SEC_EVT, SEC_KEY_DATA. -/
def regs0Ea : List RegDef := [
  ⟨0xE0000, 1, 0x0, 1, 0x0, 0x8010, 0, 0,
   [⟨0, 1, .sts, false, 0, [], true⟩,
    ⟨1, 1, .sts, false, 0, [], true⟩,
    ⟨2, 4, .sts, false, 0, [], true⟩,
    ⟨6, 4, .sts, false, 0, [], true⟩,
    ⟨10, 1, .sts, false, 0, [], false⟩]⟩,
  ⟨0xE0004, 1, 0x0, 1, 0x0, 0x8011, 0, 0,
   [⟨0, 1, .cmd, true, 0, [], false⟩,
    ⟨1, 1, .cmd, true, 0, [], false⟩,
    ⟨2, 1, .cmd, true, 0, [], false⟩,
    ⟨3, 1, .cmd, true, 0, [], false⟩,
    ⟨4, 1, .cmd, true, 0, [], false⟩,
    ⟨5, 2, .ctl, true, 0, [], false⟩]⟩,
  ⟨0xE0008, 1, 0x0, 1, 0x0, 0x8010, 0, 0,
   [⟨0, 1, .evt, false, 0, [], false⟩,
    ⟨1, 1, .evt, false, 0, [], false⟩,
    ⟨2, 1, .evt, false, 0, [], false⟩,
    ⟨3, 1, .evt, false, 0, [], false⟩]⟩,
  ⟨0xE0040, 16, 0x4, 1, 0x0, 0, 0, 0,
   [⟨0, 32, .ctl, false, 0, [], false⟩]⟩
]

/-- Registers of block 0x0F: SOFT_RESET, MP_STS, MP_EVT, MP_CNT, PATCH_ADDR, PATCH_VAL, PATCH_CTL, FLASH_CMD, FLASH_ADDR, FLASH_DATA, FLASH_STS, FLASH_EVT. -/
def regs0Fa : List RegDef := [
  ⟨0xF0000, 1, 0x0, 1, 0x0, 0x1200, 0, 0,
   [⟨0, 1, .cmd, true, 0, [], false⟩]⟩,
  ⟨0xF0004, 1, 0x0, 1, 0x0, 0x1200, 0, 0,
   [⟨0, 1, .sts, false, 0, [], false⟩,
    ⟨1, 1, .sts, false, 0, [], false⟩,
    ⟨2, 1, .sts, false, 0, [], false⟩,
    ⟨3, 1, .sts, false, 0, [], false⟩,
    ⟨8, 4, .sts, false, 0, [], false⟩]⟩,
  ⟨0xF0008, 1, 0x0, 1, 0x0, 0x1200, 0, 0,
   [⟨0, 1, .evt, false, 0, [], false⟩,
    ⟨1, 1, .evt, false, 0, [], false⟩,
    ⟨2, 1, .evt, false, 0, [], false⟩]⟩,
  ⟨0xF000C, 1, 0x0, 1, 0x0, 0x1200, 0, 0,
   [⟨0, 16, .cnt, false, 0, [], false⟩,
    ⟨16, 16, .cnt, false, 0, [], false⟩]⟩,
  ⟨0xF1000, 16, 0x10, 1, 0x0, 0x9100, 1, 0,
   [⟨2, 19, .ctl, true, 0, [], false⟩]⟩,
  ⟨0xF1004, 16, 0x10, 1, 0x0, 0x9100, 1, 0,
   [⟨0, 32, .ctl, true, 0, [], false⟩]⟩,
  ⟨0xF1008, 16, 0x10, 1, 0x0, 0x9100, 1, 0,
   [⟨0, 1, .ctl, true, 0, [], false⟩,
    ⟨1, 1, .ctl, true, 0, [], false⟩]⟩,
  ⟨0xF2000, 1, 0x0, 1, 0x0, 0x1201, 0, 0,
   [⟨0, 1, .cmd, true, 0, [], false⟩,
    ⟨1, 1, .cmd, true, 0, [], false⟩]⟩,
  ⟨0xF2004, 1, 0x0, 1, 0x0, 0x1201, 0, 0,
   [⟨0, 21, .ctl, false, 0, [], false⟩]⟩,
  ⟨0xF2008, 2, 0x4, 1, 0x0, 0x1201, 0, 0,
   [⟨0, 32, .ctl, false, 0xffffffff, [], false⟩]⟩,
  ⟨0xF2010, 1, 0x0, 1, 0x0, 0x1201, 0, 0,
   [⟨0, 1, .sts, false, 0, [], false⟩]⟩,
  ⟨0xF2014, 1, 0x0, 1, 0x0, 0x1201, 0, 0,
   [⟨0, 1, .evt, false, 0, [], false⟩,
    ⟨1, 1, .evt, false, 0, [], false⟩]⟩
]

/-- Registers of block 0x0F: UART_CTL, UART_TXD, UART_RXD, UART_EVT, I2C_CTL, I2C_XFER, I2C_FIFO, I2C_EVT, SPI_CTL, SPI_XFER, SPI_FIFO, SPI_EVT. -/
def regs0Fb : List RegDef := [
  ⟨0xF3000, 4, 0x100, 1, 0x0, 0x1210, 1, 0,
   [⟨0, 16, .ctl, false, 0x6d, [(1, 65535)], false⟩,
    ⟨16, 2, .ctl, false, 0, [(0, 2)], false⟩,
    ⟨18, 1, .ctl, false, 0, [], false⟩,
    ⟨19, 1, .ctl, false, 0, [], false⟩,
    ⟨20, 1, .ctl, false, 0, [], false⟩]⟩,
  ⟨0xF3004, 4, 0x100, 1, 0x0, 0x1210, 1, 0,
   [⟨0, 8, .ctl, false, 0, [], false⟩]⟩,
  ⟨0xF3008, 4, 0x100, 1, 0x0, 0x1210, 1, 0,
   [⟨0, 8, .sts, false, 0, [], false⟩,
    ⟨8, 1, .sts, false, 1, [], false⟩]⟩,
  ⟨0xF3010, 4, 0x100, 1, 0x0, 0x1210, 1, 0,
   [⟨0, 1, .evt, false, 0, [], false⟩,
    ⟨1, 1, .evt, false, 0, [], false⟩,
    ⟨2, 1, .evt, false, 0, [], false⟩,
    ⟨3, 1, .evt, false, 0, [], false⟩,
    ⟨4, 1, .evt, false, 0, [], false⟩]⟩,
  ⟨0xF4000, 4, 0x100, 1, 0x0, 0x1218, 1, 0,
   [⟨0, 2, .ctl, false, 0, [(0, 2)], false⟩,
    ⟨2, 1, .ctl, false, 0, [], false⟩,
    ⟨3, 1, .ctl, false, 0, [], false⟩,
    ⟨4, 1, .ctl, false, 0, [], false⟩]⟩,
  ⟨0xF4004, 4, 0x100, 1, 0x0, 0x1218, 1, 0,
   [⟨0, 10, .ctl, false, 0, [], false⟩,
    ⟨10, 1, .ctl, false, 0, [], false⟩,
    ⟨11, 8, .ctl, false, 0, [], false⟩,
    ⟨19, 1, .cmd, false, 0, [], false⟩]⟩,
  ⟨0xF4008, 4, 0x100, 1, 0x0, 0x1218, 1, 0,
   [⟨0, 8, .ctl, false, 0, [], false⟩]⟩,
  ⟨0xF4010, 4, 0x100, 1, 0x0, 0x1218, 1, 0,
   [⟨0, 1, .evt, false, 0, [], false⟩,
    ⟨1, 1, .evt, false, 0, [], false⟩,
    ⟨2, 1, .evt, false, 0, [], false⟩,
    ⟨3, 1, .evt, false, 0, [], false⟩,
    ⟨4, 1, .evt, false, 0, [], false⟩,
    ⟨5, 1, .evt, false, 0, [], false⟩]⟩,
  ⟨0xF5000, 2, 0x100, 1, 0x0, 0x1220, 1, 0,
   [⟨0, 8, .ctl, false, 0x32, [(1, 255)], false⟩,
    ⟨8, 2, .ctl, false, 0, [], false⟩,
    ⟨10, 2, .ctl, false, 0, [], false⟩,
    ⟨12, 1, .ctl, false, 0, [], false⟩]⟩,
  ⟨0xF5004, 2, 0x100, 1, 0x0, 0x1220, 1, 0,
   [⟨0, 16, .ctl, false, 0, [], false⟩,
    ⟨16, 1, .cmd, false, 0, [], false⟩]⟩,
  ⟨0xF5008, 2, 0x100, 1, 0x0, 0x1220, 1, 0,
   [⟨0, 8, .ctl, false, 0, [], false⟩]⟩,
  ⟨0xF5010, 2, 0x100, 1, 0x0, 0x1220, 1, 0,
   [⟨0, 1, .evt, false, 0, [], false⟩]⟩
]

/-- Registers of block 0x0F: XSPI_CTL, XSPI_ADDR, XSPI_XFER, XSPI_FIFO, XSPI_EVT, MDIO_CTL, MDIO_XFER, MDIO_EVT, DBG_CTL, DBG_STS, DBG_EVT, DINSTR. -/
def regs0Fc : List RegDef := [
  ⟨0xF6000, 1, 0x0, 1, 0x0, 0x1228, 0, 0,
   [⟨0, 1, .ctl, false, 0, [], false⟩,
    ⟨1, 1, .ctl, false, 0, [], false⟩,
    ⟨8, 8, .ctl, false, 0, [], false⟩]⟩,
  ⟨0xF6004, 1, 0x0, 1, 0x0, 0x1228, 0, 0,
   [⟨0, 32, .ctl, false, 0, [], false⟩]⟩,
  ⟨0xF6008, 1, 0x0, 1, 0x0, 0x1228, 0, 0,
   [⟨0, 16, .ctl, false, 0, [], false⟩,
    ⟨16, 1, .cmd, false, 0, [], false⟩,
    ⟨17, 1, .ctl, false, 0, [], false⟩]⟩,
  ⟨0xF600C, 1, 0x0, 1, 0x0, 0x1228, 0, 0,
   [⟨0, 8, .ctl, false, 0, [], false⟩]⟩,
  ⟨0xF6010, 1, 0x0, 1, 0x0, 0x1228, 0, 0,
   [⟨0, 1, .evt, false, 0, [], false⟩]⟩,
  ⟨0xF7000, 2, 0x100, 1, 0x0, 0x1230, 1, 0,
   [⟨0, 8, .ctl, false, 0x14, [], false⟩,
    ⟨8, 1, .ctl, false, 0, [], false⟩]⟩,
  ⟨0xF7004, 2, 0x100, 1, 0x0, 0x1230, 1, 0,
   [⟨0, 5, .ctl, false, 0, [], false⟩,
    ⟨5, 5, .ctl, false, 0, [], false⟩,
    ⟨10, 2, .ctl, false, 0, [], false⟩,
    ⟨12, 1, .cmd, false, 0, [], false⟩,
    ⟨16, 16, .ctl, false, 0, [], false⟩]⟩,
  ⟨0xF7010, 2, 0x100, 1, 0x0, 0x1230, 1, 0,
   [⟨0, 1, .evt, false, 0, [], false⟩]⟩,
  ⟨0xF8000, 1, 0x0, 1, 0x0, 0x9000, 0, 0,
   [⟨0, 1, .cmd, false, 0, [], false⟩,
    ⟨1, 1, .cmd, false, 0, [], false⟩,
    ⟨2, 1, .cmd, false, 0, [], false⟩,
    ⟨3, 1, .cmd, false, 0, [], false⟩,
    ⟨4, 1, .cmd, true, 0, [], false⟩,
    ⟨5, 1, .ctl, false, 0, [], false⟩,
    ⟨6, 1, .ctl, true, 0, [], false⟩]⟩,
  ⟨0xF8004, 1, 0x0, 1, 0x0, 0x9000, 0, 0,
   [⟨0, 1, .sts, false, 0, [], false⟩,
    ⟨1, 3, .sts, false, 0, [], false⟩,
    ⟨4, 4, .sts, false, 0, [], false⟩,
    ⟨8, 1, .sts, false, 0, [], false⟩]⟩,
  ⟨0xF8008, 1, 0x0, 1, 0x0, 0x9000, 0, 0,
   [⟨0, 1, .evt, false, 0, [], false⟩,
    ⟨1, 1, .evt, false, 0, [], false⟩,
    ⟨2, 1, .evt, false, 0, [], false⟩,
    ⟨3, 1, .evt, false, 0, [], false⟩]⟩,
  ⟨0xF800C, 1, 0x0, 1, 0x0, 0x9000, 0, 0,
   [⟨0, 32, .ctl, false, 0, [], false⟩]⟩
]

/-- Registers of block 0x0F: DPC, DREG_SEL, DREG_DATA, DBM_ADDR_LO, DBM_ADDR_HI, DBM_DATA, DBM_CTL, DBM_STS, WDT_CTL, WDT_TIMEOUT, WDT_GRACE, WDT_STS. -/
def regs0Fd : List RegDef := [
  ⟨0xF8010, 1, 0x0, 1, 0x0, 0x9000, 0, 0,
   [⟨0, 32, .ctl, false, 0, [], false⟩]⟩,
  ⟨0xF8014, 1, 0x0, 1, 0x0, 0x9000, 0, 0,
   [⟨0, 5, .ctl, false, 0, [(0, 18)], false⟩]⟩,
  ⟨0xF8018, 1, 0x0, 1, 0x0, 0x9000, 0, 0,
   [⟨0, 32, .ctl, false, 0, [], false⟩]⟩,
  ⟨0xF8100, 1, 0x0, 1, 0x0, 0x9001, 0, 0,
   [⟨0, 32, .ctl, false, 0, [], false⟩]⟩,
  ⟨0xF8104, 1, 0x0, 1, 0x0, 0x9001, 0, 0,
   [⟨0, 16, .ctl, false, 0, [], false⟩]⟩,
  ⟨0xF8108, 1, 0x0, 1, 0x0, 0x9001, 0, 0,
   [⟨0, 32, .ctl, false, 0, [], false⟩]⟩,
  ⟨0xF810C, 1, 0x0, 1, 0x0, 0x9001, 0, 0,
   [⟨0, 1, .cmd, false, 0, [], false⟩,
    ⟨1, 1, .ctl, false, 0, [], false⟩,
    ⟨2, 1, .ctl, false, 1, [], false⟩,
    ⟨3, 4, .ctl, false, 0xf, [], false⟩]⟩,
  ⟨0xF8110, 1, 0x0, 1, 0x0, 0x9001, 0, 0,
   [⟨0, 4, .sts, false, 0, [], false⟩,
    ⟨4, 1, .sts, false, 0, [], false⟩,
    ⟨5, 1, .sts, false, 0, [], false⟩]⟩,
  ⟨0xF8200, 1, 0x0, 1, 0x0, 0x9010, 0, 0,
   [⟨0, 1, .ctl, true, 0, [], false⟩,
    ⟨1, 1, .ctl, true, 0, [], false⟩,
    ⟨2, 1, .cmd, false, 0, [], false⟩]⟩,
  ⟨0xF8204, 1, 0x0, 1, 0x0, 0x9010, 0, 0,
   [⟨0, 22, .ctl, false, 0x8000, [(33, 2097152)], false⟩]⟩,
  ⟨0xF8208, 1, 0x0, 1, 0x0, 0x9010, 0, 0,
   [⟨0, 22, .ctl, false, 0x148, [(33, 2097152)], false⟩]⟩,
  ⟨0xF8210, 1, 0x0, 1, 0x0, 0x9010, 0, 0,
   [⟨0, 22, .sts, false, 0x8000, [], false⟩,
    ⟨22, 1, .sts, false, 0, [], false⟩,
    ⟨23, 1, .sts, false, 0, [], false⟩]⟩
]

/-- Registers of block 0x0F: WDT_EVT, WDT_CNT, DBG_FUSE. -/
def regs0Fe : List RegDef := [
  ⟨0xF8214, 1, 0x0, 1, 0x0, 0x9010, 0, 0,
   [⟨0, 1, .evt, false, 0, [], false⟩,
    ⟨1, 1, .evt, false, 0, [], false⟩]⟩,
  ⟨0xF8218, 1, 0x0, 1, 0x0, 0x9010, 0, 0,
   [⟨0, 16, .cnt, false, 0, [], false⟩,
    ⟨16, 16, .cnt, false, 0, [], false⟩]⟩,
  ⟨0xF8300, 1, 0x0, 1, 0x0, 0x9002, 0, 0,
   [⟨0, 1, .sts, false, 0, [], true⟩,
    ⟨1, 1, .sts, false, 0, [], true⟩]⟩
]

/-- Registers of block 0x10 and up: FF_CTL, FF_STS, FF_EVT, ROUTE_EVT, ROUTE_STS, ROUTE_CNT, BORDER_CTL, BORDER_STS, IO_IN, IO_STS, RGN_CTL, RGN_SRC_LO. -/
def regs10a : List RegDef := [
  ⟨0x100100, 128, 0x10000, 1, 0x0, 0x3C00, 1, 0,
   [⟨0, 1, .cmd, true, 0, [], false⟩]⟩,
  ⟨0x100104, 128, 0x10000, 1, 0x0, 0x3C00, 1, 0,
   [⟨0, 1, .sts, false, 1, [], false⟩,
    ⟨1, 1, .sts, false, 0, [], false⟩]⟩,
  ⟨0x100108, 128, 0x10000, 1, 0x0, 0x3C00, 1, 0,
   [⟨0, 1, .evt, false, 0, [], false⟩]⟩,
  ⟨0x100200, 128, 0x10000, 1, 0x0, 0x3D00, 1, 0,
   [⟨0, 1, .evt, false, 0, [], false⟩,
    ⟨1, 1, .evt, false, 0, [], false⟩]⟩,
  ⟨0x100204, 128, 0x10000, 1, 0x0, 0x3D00, 1, 0,
   [⟨0, 9, .sts, false, 0, [], false⟩,
    ⟨16, 10, .sts, false, 0, [], false⟩]⟩,
  ⟨0x100208, 128, 0x10000, 1, 0x0, 0x3D00, 1, 0,
   [⟨0, 16, .cnt, false, 0, [], false⟩]⟩,
  ⟨0x100300, 128, 0x10000, 1, 0x0, 0x3D00, 1, 0,
   [⟨0, 4, .ctl, true, 0, [], false⟩]⟩,
  ⟨0x100304, 128, 0x10000, 1, 0x0, 0x3D00, 1, 0,
   [⟨0, 4, .sts, false, 0xf, [], false⟩]⟩,
  ⟨0x100400, 128, 0x10000, 2, 0x4, 0x3D00, 1, 0,
   [⟨0, 32, .sts, false, 0, [], false⟩]⟩,
  ⟨0x100408, 128, 0x10000, 1, 0x0, 0x3D00, 1, 0,
   [⟨0, 1, .sts, false, 0, [], false⟩,
    ⟨1, 1, .sts, false, 1, [], false⟩]⟩,
  ⟨0x100000, 128, 0x10000, 1, 0x0, 0x3800, 1, 0,
   [⟨0, 1, .cmd, true, 0, [], false⟩,
    ⟨1, 1, .cmd, true, 0, [], false⟩,
    ⟨2, 1, .cmd, false, 0, [], false⟩,
    ⟨3, 1, .cmd, true, 0, [], false⟩,
    ⟨4, 1, .cmd, true, 0, [], false⟩,
    ⟨16, 16, .ctl, false, 0x10, [(4, 65535)], false⟩]⟩,
  ⟨0x100004, 128, 0x10000, 1, 0x0, 0x3800, 1, 0,
   [⟨0, 32, .ctl, false, 0, [], false⟩]⟩
]

/-- Registers of block 0x10 and up: RGN_SRC_HI, RGN_LEN, RGN_STS, RGN_EVT, RGN_CNT, ACTIVE_DIGEST, SHADOW_DIGEST, BM_STS, BM_EVT, BM_LAST, BM_STALL, DSP_EVT. -/
def regs10b : List RegDef := [
  ⟨0x100008, 128, 0x10000, 1, 0x0, 0x3800, 1, 0,
   [⟨0, 16, .ctl, false, 0, [], false⟩]⟩,
  ⟨0x10000C, 128, 0x10000, 1, 0x0, 0x3800, 1, 0,
   [⟨0, 32, .ctl, false, 0, [], false⟩]⟩,
  ⟨0x100010, 128, 0x10000, 1, 0x0, 0x3800, 1, 0,
   [⟨0, 3, .sts, false, 0, [], true⟩,
    ⟨3, 2, .sts, false, 0, [], true⟩,
    ⟨5, 1, .sts, false, 0, [], true⟩,
    ⟨6, 1, .sts, false, 0, [], false⟩,
    ⟨7, 1, .sts, false, 0, [], false⟩,
    ⟨8, 1, .sts, false, 0, [], false⟩,
    ⟨9, 1, .sts, false, 0, [], false⟩,
    ⟨12, 4, .sts, false, 0, [], false⟩,
    ⟨16, 16, .sts, false, 0, [], false⟩]⟩,
  ⟨0x100014, 128, 0x10000, 1, 0x0, 0x3800, 1, 0,
   [⟨0, 1, .evt, false, 0, [], false⟩,
    ⟨1, 1, .evt, false, 0, [], false⟩,
    ⟨2, 1, .evt, false, 0, [], false⟩,
    ⟨3, 1, .evt, false, 0, [], false⟩,
    ⟨4, 1, .evt, false, 0, [], false⟩,
    ⟨5, 1, .evt, false, 0, [], false⟩,
    ⟨6, 1, .evt, false, 0, [], false⟩]⟩,
  ⟨0x100018, 128, 0x10000, 1, 0x0, 0x3800, 1, 0,
   [⟨0, 16, .cnt, false, 0, [], false⟩,
    ⟨16, 16, .cnt, false, 0, [], false⟩]⟩,
  ⟨0x100040, 128, 0x10000, 16, 0x4, 0x3800, 1, 0,
   [⟨0, 32, .sts, false, 0, [], false⟩]⟩,
  ⟨0x100080, 128, 0x10000, 16, 0x4, 0x3800, 1, 0,
   [⟨0, 32, .sts, false, 0, [], false⟩]⟩,
  ⟨0x100500, 128, 0x10000, 1, 0x0, 0x3E00, 1, 0,
   [⟨0, 1, .sts, false, 0, [], false⟩]⟩,
  ⟨0x100504, 128, 0x10000, 1, 0x0, 0x3E00, 1, 0,
   [⟨0, 1, .evt, false, 0, [], false⟩,
    ⟨1, 1, .evt, false, 0, [], false⟩]⟩,
  ⟨0x100508, 128, 0x10000, 1, 0x0, 0x3E00, 1, 0,
   [⟨0, 6, .sts, false, 0, [], false⟩,
    ⟨31, 1, .sts, false, 0, [], false⟩]⟩,
  ⟨0x10050C, 128, 0x10000, 2, 0x4, 0x3E00, 1, 0,
   [⟨0, 32, .cnt, false, 0, [], false⟩]⟩,
  ⟨0x100600, 128, 0x10000, 1, 0x0, 0x3F00, 1, 0,
   [⟨0, 1, .evt, false, 0, [], false⟩,
    ⟨1, 1, .evt, false, 0, [], false⟩,
    ⟨2, 1, .evt, false, 0, [], false⟩]⟩
]

/-- Registers of block 0x10 and up: DSP_LAST, DSP_SAT_CNT, DSP_GOV_CNT, RI_STS, RI_EVT, BM_REMAP. -/
def regs10c : List RegDef := [
  ⟨0x100604, 128, 0x10000, 1, 0x0, 0x3F00, 1, 0,
   [⟨0, 6, .sts, false, 0, [], false⟩,
    ⟨6, 2, .sts, false, 0, [], false⟩,
    ⟨8, 6, .sts, false, 0, [], false⟩,
    ⟨14, 2, .sts, false, 0, [], false⟩,
    ⟨16, 6, .sts, false, 0, [], false⟩,
    ⟨22, 1, .sts, false, 0, [], false⟩,
    ⟨23, 1, .sts, false, 0, [], false⟩,
    ⟨24, 1, .sts, false, 0, [], false⟩]⟩,
  ⟨0x100608, 128, 0x10000, 1, 0x0, 0x3F00, 1, 0,
   [⟨0, 32, .cnt, false, 0, [], false⟩]⟩,
  ⟨0x10060C, 128, 0x10000, 1, 0x0, 0x3F00, 1, 0,
   [⟨0, 16, .cnt, false, 0, [], false⟩,
    ⟨16, 16, .cnt, false, 0, [], false⟩]⟩,
  ⟨0x100700, 128, 0x10000, 1, 0x0, 0x4400, 1, 0,
   [⟨0, 1, .sts, false, 0, [], true⟩,
    ⟨1, 6, .sts, false, 0, [], false⟩,
    ⟨7, 1, .sts, false, 0, [], false⟩,
    ⟨8, 1, .sts, false, 0, [], false⟩]⟩,
  ⟨0x100704, 128, 0x10000, 1, 0x0, 0x4400, 1, 0,
   [⟨0, 1, .evt, false, 0, [], false⟩,
    ⟨1, 1, .evt, false, 0, [], false⟩,
    ⟨2, 1, .evt, false, 0, [], false⟩,
    ⟨3, 1, .evt, false, 0, [], false⟩]⟩,
  ⟨0x100B00, 128, 0x10000, 256, 0x4, 0x4400, 1, 0,
   [⟨0, 11, .sts, false, 0, [], false⟩,
    ⟨31, 1, .sts, false, 0, [], false⟩]⟩
]

/-- The register table of a block of 64 KiB (R41); the region pages share one. -/
def blockRegs (b : Nat) : List RegDef :=
  match b with
  | 0x00 => regs00a ++ regs00b
  | 0x01 => regs01a
  | 0x02 => regs02a ++ regs02b
  | 0x03 => regs03a ++ regs03b
  | 0x04 => regs04a
  | 0x05 => regs05a ++ regs05b ++ regs05c
  | 0x06 => regs06a ++ regs06b
  | 0x07 => regs07a ++ regs07b
  | 0x08 => regs08a
  | 0x09 => regs09a ++ regs08a
  | 0x0A => regs0Aa ++ regs0Ab
  | 0x0B => regs0Ba ++ regs0Bb
  | 0x0C => regs0Ca ++ regs0Cb
  | 0x0D => regs0Da ++ regs0Db
  | 0x0E => regs0Ea
  | 0x0F => regs0Fa ++ regs0Fb ++ regs0Fc ++ regs0Fd ++ regs0Fe
  | b => if 0x10 ≤ b ∧ b < 0x90 then regs10a ++ regs10b ++ regs10c else []

end Sys2Proof.Machine
end

