-- ==== Sys2Proof/Machine/Ops.lean ====
section
/-! DEFINITION. The named operations on the device: reading and writing registers and their fields,
the classes of R81, guards and unlocks (R76 to R83), parity (R90 to R92), command objects (R70),
change counters (R72) and free values. -/

namespace Sys2Proof.Machine

/-! ## Registers by offset -/

/-- Register `r` lies at offset `off`: its indexes in the array (R41). -/
def RegDef.locate (r : RegDef) (off : Nat) : Option (Nat × Nat) :=
  if off < r.base then none
  else
    let d := off - r.base
    let i := if r.n1 = 1 then 0 else d / r.s1
    let e := if r.n1 = 1 then d else d % r.s1
    let j := if r.n2 = 1 then 0 else e / r.s2
    let f := if r.n2 = 1 then e else e % r.s2
    if f = 0 ∧ i < r.n1 ∧ j < r.n2 then some (i, j) else none

/-- The register at an offset, where one is implemented. -/
def regAt (off : Nat) : Option RegDef :=
  (blockRegs (off / 0x10000)).find? (fun r => (r.locate off).isSome)

/-- The dictionary index under which the register at `off` is aliased; 0 for none (R42). -/
def aliasIndex (off : Nat) : Nat :=
  match regAt off with
  | none => 0
  | some r =>
    match r.locate off with
    | none => 0
    | some (i, j) => if r.ix = 0 then 0 else r.ix + i * r.k1 + j * r.k2

/-- The word whose fields hold their reset values. -/
def RegDef.resetWord (r : RegDef) : Word :=
  r.fields.foldl (fun x f => withField x f.lsb f.w f.rst) 0

/-- A region is an edge region when its column is 0 or 15 (R12). -/
def isEdge (n : Nat) : Bool := n % 16 = 0 || n % 16 = 15

/-- The word the register at `off` holds after reset; RGN_STS.CLASS resets by region (R233). -/
def resetWord (off : Nat) : Word :=
  match regAt off with
  | none => 0
  | some r =>
    if r.base = Reg.RGN_STS 0 ∧ isEdge (off / 0x10000 - 0x10) then withField r.resetWord 9 1 1
    else r.resetWord

namespace Dev

/-- The word the register at `off` holds. -/
def word (d : Dev) (off : Nat) : Word := SMap.get (resetWord off) d.csr off

/-- The device with register `off` holding `x`. -/
def putWord (d : Dev) (off : Nat) (x : Word) : Dev :=
  { d with csr := SMap.put (resetWord off) d.csr off x }

/-- The value of a field. -/
def get (d : Dev) (f : Fld) : Nat := fieldOf (d.word f.off) f.lsb f.w

/-- A one-bit field reads 1. -/
def on (d : Dev) (f : Fld) : Bool := d.get f != 0

/-- The device with field `f` holding `v`. -/
def set (d : Dev) (f : Fld) (v : Nat) : Dev :=
  d.putWord f.off (withField (d.word f.off) f.lsb f.w v)

/-- Hardware sets a bit: an EVT or STS bit (R81). -/
def raise (d : Dev) (f : Fld) : Dev := d.set f 1

/-- Hardware clears a field. -/
def clear (d : Dev) (f : Fld) : Dev := d.set f 0

/-- Hardware sets or clears a bit. -/
def setBit (d : Dev) (f : Fld) (b : Bool) : Dev := d.set f (if b then 1 else 0)

/-- Hardware counts `n` in a CNT field, which holds at all ones (R81). -/
def count (d : Dev) (f : Fld) (n : Nat := 1) : Dev := d.set f (min (d.get f + n) (2 ^ f.w - 1))

/-- Hardware counts in a 64-bit counter of two registers, LO and HI (R86), saturating (R81). -/
def count64 (d : Dev) (lo hi : Fld) (n : Nat := 1) : Dev :=
  let v := min (d.get hi * 2 ^ 32 + d.get lo + n) (2 ^ 64 - 1)
  (d.set lo (v % 2 ^ 32)).set hi (v / 2 ^ 32)

/-- The 64-bit value of two registers, LO and HI. -/
def get64 (d : Dev) (lo hi : Fld) : Nat := d.get hi * 2 ^ 32 + d.get lo

/-- Hardware writes a 64-bit value to two registers, LO and HI. -/
def set64 (d : Dev) (lo hi : Fld) (v : Nat) : Dev := (d.set lo v).set hi (v / 2 ^ 32)

/-- Bit `k` of a mask field. -/
def bit (d : Dev) (f : Fld) (k : Nat) : Bool := (d.get f).testBit k

/-- Hardware sets bit `k` of a mask field to `b`. -/
def setMask (d : Dev) (f : Fld) (k : Nat) (b : Bool) : Dev :=
  d.set f (if b then d.get f ||| 2 ^ k else d.get f &&& (2 ^ f.w - 1 - 2 ^ k % 2 ^ f.w))

/-- A step of a domain that the root's loss stops (R195): without the root, as before its first lock, nothing
happens (R197). -/
def rooted (f : Dev → Dev) (d : Dev) : Dev := if d.on Reg.CLK_STS_ROOT_LOCK then f d else d

/-! ## Free values -/

/-- A value the spec leaves open, below `bound` (log 3), and the device that has drawn it. -/
def freeBelow (d : Dev) (bound : Nat) : Nat × Dev :=
  (Config.freeNat d.fresh % bound, { d with fresh := d.fresh + 1 })

/-- A bit the spec leaves open (log 3), and the device that has drawn it. -/
def freeBit (d : Dev) : Bool × Dev :=
  (Config.freeBit d.fresh, { d with fresh := d.fresh + 1 })

/-! ## Change counters and command objects -/

/-- A completed write moves the index's change counter: 0xFFFF_FFFF wraps to 1 (R72). Index 0
stands for a register without an alias. -/
def touch (d : Dev) (ix : Nat) : Dev :=
  if ix = 0 then d
  else
    let c := SMap.get 0 d.changes ix
    { d with changes := SMap.put 0 d.changes ix (if c = 0xFFFFFFFF then 1 else c + 1) }

/-- The change counter of an index (R72). -/
def changeOf (d : Dev) (ix : Nat) : Nat := SMap.get 0 d.changes ix

/-- The key of a dictionary object. -/
def objKey (ix sub : Nat) : Nat := ix * 256 + sub

/-- A run of command object `ix:sub` starts (R70). -/
def cmdStart (d : Dev) (ix sub : Nat) : Dev :=
  let k := objKey ix sub
  { d with cmds := SMap.put {} d.cmds k { SMap.get {} d.cmds k with busy := true } }

/-- A run of command object `ix:sub` completes with `code` (R70); the count wraps. -/
def cmdDone (d : Dev) (ix sub : Nat) (code : Code) (late : Bool := false) : Dev :=
  let k := objKey ix sub
  let c := SMap.get {} d.cmds k
  { d with cmds := SMap.put {} d.cmds k ⟨code, late, false, (c.runs + 1) % 0x10000⟩ }

/-- An abort of command object `ix:sub` came no earlier than its completion (R89). -/
def cmdLate (d : Dev) (ix sub : Nat) : Dev :=
  let k := objKey ix sub
  { d with cmds := SMap.put {} d.cmds k { SMap.get {} d.cmds k with late := true } }

/-- The status word of a command object (R70). -/
def cmdWord (d : Dev) (ix sub : Nat) : Word :=
  let c := SMap.get {} d.cmds (objKey ix sub)
  BitVec.ofNat 32 (c.code.num + (if c.busy then 16 else 0) + (if c.late then 32 else 0)
    + c.runs * 0x10000)

/-! ## Parity and safe states -/

/-- The register at `off` has failed its parity check (R90). -/
def failed (d : Dev) (off : Nat) : Bool := d.parityFailed.contains off

/-- The block that holds `off` is in its safe state: a CTL register of it has failed (R90). -/
def safe (d : Dev) (off : Nat) : Bool := d.parityFailed.any (fun a => a / 0x10000 == off / 0x10000)

end Dev

/-- What a block in its safe state takes a field as, whichever of its registers has failed (R90; R280, R305, R462,
R491). -/
def blockField (f : Fld) : Option Nat :=
  if f = Reg.SCRUB_CTL_ENABLE then some 1
  else if f = Reg.SCRUB_CTL_PIN then some 0
  else if f = Reg.SCRUB_CTL_RAISE_AT then some 1
  else if f = Reg.SCRUB_CTL_QUIET_PASSES then some 255
  else if f = Reg.SCRUB_PERIOD_PERIOD_MS then some 0
  else if f = Reg.INT_CTL_AUTO_CH_RETIRE ∨ f = Reg.CT_CTL_ARM then some 0
  else if f = Reg.DBG_CTL_BRK_TAKE ∨ f = Reg.RST_CTL_DONE_WAIT then some 0
  else none

/-- What a block takes the field of a failed register as, where its chapter gives another value than the
register's reset value (R90; R141, R260, R335, R398). -/
def safeField (f : Fld) : Option Nat :=
  if f = Reg.CFG_CTL_SRC_EN then some 15
  else if 0x063000 ≤ f.off ∧ f.off < 0x063800 then some 0
  else if 0x0A0000 ≤ f.off ∧ f.off < 0x0C4800 ∧ (f.off % 0x100 = 0x30 ∨ f.off % 0x100 = 0x44)
  then some 0
  else none

/-- Registers whose block goes on with the values in force in its safe state (R90): those of the lanes, but for
PAT_CTL and INJ_CTL (R398), and of PACK but for PACK_TIMING (R479). -/
def keepsForce (off : Nat) : Bool :=
  (0x0A0000 ≤ off && off < 0x0C0000 || 0x0C4000 ≤ off && off < 0x0C4800) && off % 0x100 != 0x30 && off % 0x100 != 0x44
    || off / 0x10000 == 0x0D && off != Reg.PACK_TIMING

/-- The register at `off` holds a triplicated field (R82). -/
def triplicated (off : Nat) : Bool :=
  match regAt off with
  | some r => r.fields.any (fun f => f.t)
  | none => false

namespace Dev

/-- The word of a CTL register whose block keeps its settings in its safe state (R207, R398): what the register
held when software first wrote it there. -/
def inForce (d : Dev) (off : Nat) : Word :=
  if d.safe off then (SMap.get none d.kept off).getD (d.word off) else d.word off

/-- The value of a CTL field as its block uses it: a failed register's value is not used (R90). -/
def ctl (d : Dev) (f : Fld) : Nat :=
  match if d.safe f.off then blockField f else none with
  | some v => v
  | none =>
    if keepsForce f.off then fieldOf (d.inForce f.off) f.lsb f.w
    else if d.failed f.off then (safeField f).getD (fieldOf (resetWord f.off) f.lsb f.w)
    else d.get f

/-- A one-bit CTL field as its block uses it. -/
def ctlOn (d : Dev) (f : Fld) : Bool := d.ctl f != 0

/-- Software writes the register at `off` in its block's safe state: what it held first is kept. -/
def keepWord (d : Dev) (off : Nat) : Dev :=
  if d.safe off ∧ (SMap.get none d.kept off).isNone then
    { d with kept := SMap.put none d.kept off (some (d.word off)) }
  else d

/-- The faults of the registers that `hit` picks end, and what blocks that leave their safe state with them kept is
no longer needed (R90). -/
def unfail (hit : Nat → Bool) (d : Dev) : Dev :=
  let d1 := { d with parityFailed := d.parityFailed.filter (fun o => !hit o) }
  { d1 with kept := SMap.only d1.safe d.kept }

/-- A software write of the whole register clears its fault (R90). -/
def parityClear (d : Dev) (off : Nat) : Dev :=
  d.unfail (· == off)

/-! ## Unlocks and guarded writes -/

/-- The initiator holds an armed unlock (R76). -/
def armed (d : Dev) (who : Who) : Bool := d.unlocks.contains who

/-- The unlock is armed for this initiator alone (R76). -/
def arm (d : Dev) (who : Who) : Dev :=
  if d.armed who then d else { d with unlocks := who :: d.unlocks }

/-- The initiator's unlock is disarmed (R76, R77). -/
def disarm (d : Dev) (who : Who) : Dev := { d with unlocks := d.unlocks.filter (· != who) }

/-- The unlock check of a write that changes a guarded field, or that writes an RWL object: it
passes and consumes the unlock, or it fails (R77, R83). -/
def unlockCheck (d : Dev) (who : Who) (guarded : Bool) : Option Dev :=
  if !guarded then some d
  else if d.armed who then some (d.disarm who)
  else none

end Dev

/-- No initiator of the data plane writes in the CSR space (R21, R22). -/
def Who.deniedCsr : Who → Bool
  | .fabric _ => true
  | .data _ => true
  | _ => false

namespace Dev

/-! ## Plain register writes -/

end Dev

/-- A value lies in the range of a field (R518). -/
def FieldDef.inRange (f : FieldDef) (x : Word) : Bool :=
  let v := fieldOf x f.lsb f.w
  f.cls != .ctl || f.ranges.isEmpty || f.ranges.any (fun r => r.1 ≤ v && v ≤ r.2)

/-- What a software write of `x` leaves in a register that holds `old`: CTL fields take the written
value, CNT fields clear, and every other field keeps its value (R81). -/
def RegDef.written (r : RegDef) (old x : Word) : Word :=
  r.fields.foldl (fun a f =>
    match f.cls with
    | .ctl => withField a f.lsb f.w (fieldOf x f.lsb f.w)
    | .cnt => withField a f.lsb f.w 0
    | _ => a) old

/-- A write of `x` to a register that holds `old` changes a G field: a CTL field to another value,
or a CMD field by writing 1 to it (R83). -/
def RegDef.changesG (r : RegDef) (old x : Word) : Bool :=
  r.fields.any (fun f => f.g &&
    (match f.cls with
     | .ctl => fieldOf x f.lsb f.w != fieldOf old f.lsb f.w
     | .cmd => fieldOf x f.lsb f.w != 0
     | _ => false))

/-- A write of `x` presents a command: it writes 1 to a CMD field. -/
def RegDef.presents (r : RegDef) (x : Word) : Bool :=
  r.fields.any (fun f => f.cls == .cmd && fieldOf x f.lsb f.w != 0)

/-- The bits of the EVT fields of a register cleared (R81). -/
def RegDef.evtCleared (r : RegDef) (x : Word) : Word :=
  r.fields.foldl (fun a f => if f.cls = .evt then withField a f.lsb f.w 0 else a) x

/-- The readable bits of a register: KEY fields read 0 (R81). -/
def RegDef.readable (r : RegDef) (x : Word) : Word :=
  r.fields.foldl (fun a f => if f.cls = .key then withField a f.lsb f.w 0 else a) x

/-- The counters of 64 bits whose two halves a write to either half clears together (R161, R360,
R378, R398): the offset of the other half. -/
def otherHalf (off : Nat) : Option Nat :=
  let inPage := off % 0x10000
  if 0x100000 ≤ off ∧ off < 0x900000 then
    if inPage = 0x50C then some (off + 4) else if inPage = 0x510 then some (off - 4) else none
  else if 0x080000 ≤ off ∧ off < 0x0A0000 ∧ 0x1000 ≤ inPage then
    if off % 0x100 = 0x30 ∨ off % 0x100 = 0x38 then some (off + 4)
    else if off % 0x100 = 0x34 ∨ off % 0x100 = 0x3C then some (off - 4) else none
  else if 0x070200 ≤ off ∧ off < 0x070240 then
    if off % 0x10 = 0 then some (off + 4) else if off % 0x10 = 4 then some (off - 4) else none
  else if (0x0A0000 ≤ off ∧ off < 0x0A4000) ∨ (0x0B0000 ≤ off ∧ off < 0x0B4000) ∨
      (0x0C4000 ≤ off ∧ off < 0x0C4800) then
    if off % 0x100 = 0x48 ∨ off % 0x100 = 0x50 then some (off + 4)
    else if off % 0x100 = 0x4C ∨ off % 0x100 = 0x54 then some (off - 4) else none
  else none

namespace Dev

/-- The device after the plain part of a software write: the register's CTL and CNT fields, and the other
half of a 64-bit counter. -/
def plainWrite (d : Dev) (r : RegDef) (off : Nat) (x : Word) : Dev :=
  let d1 := d.putWord off (r.written (d.word off) x)
  match otherHalf off with
  | some o => d1.putWord o 0
  | none => d1

/-! ## Answers -/

/-- The device with the answer of the last command. -/
def reply (d : Dev) (c : Code) : Dev := { d with answer := { code := c } }

/-- The device with a whole answer. -/
def replyWith (d : Dev) (a : Answer) : Dev := { d with answer := a }

end Dev

end Sys2Proof.Machine
end

