-- ==== Sys2Proof/Machine/Operands.lean ====
section
/-! DEFINITION. The operand forms of the commands: bytes and little-endian words (R8), and the
Waybill header (R53). -/

namespace Sys2Proof.Machine

/-- The `n` low bytes of `v`, least significant first (R8). -/
def leBytes (n v : Nat) : List Byte :=
  (List.range n).map (fun i => BitVec.ofNat 8 (v / 2 ^ (8 * i)))

/-- The number that bytes stand for, least significant first (R8). -/
def ofLe : List Byte → Nat
  | [] => 0
  | b :: bs => b.toNat + 256 * ofLe bs

/-- The number that bytes stand for, most significant first. -/
def ofBe (bs : List Byte) : Nat := ofLe bs.reverse

/-- `n` bytes from byte `i` of a list, 0x00 beyond its end. -/
def bytesAt (bs : List Byte) (i n : Nat) : List Byte :=
  (List.range n).map (fun k => bs.getD (i + k) 0)

/-- The value of `n` bytes from byte `i`. -/
def leAt (bs : List Byte) (i n : Nat) : Nat := ofLe (bytesAt bs i n)

/-- A list of bytes cut or padded with 0x00 to `n` bytes. -/
def fit (n : Nat) (bs : List Byte) : List Byte := bytesAt bs 0 n

/-- The bytes of a list of words, each least significant byte first. -/
def wordsBytes (ws : List Word) : List Byte := ws.flatMap (fun w => leBytes 4 w.toNat)

/-- A bit as a number. -/
def bit01 (b : Bool) : Nat := if b then 1 else 0

/-- The bytes of a Waybill message: the 32-byte header, then the payload (R53). -/
def WbMsg.encode (m : WbMsg) : List Byte :=
  leBytes 1 m.version
  ++ leBytes 1 (m.op % 128 + 128 * bit01 m.resp)
  ++ leBytes 1 (m.code.num + 16 * bit01 m.late + 32 * bit01 m.more + 64 * bit01 m.stale)
  ++ leBytes 1 (bit01 m.noside + 2 * bit01 m.cond + 4 * bit01 m.desc)
  ++ leBytes 4 m.seq ++ leBytes 2 m.packId
  ++ leBytes 2 (m.member % 4096 + 0x8000 * bit01 m.all)
  ++ leBytes 2 m.index ++ leBytes 1 m.sub ++ leBytes 1 0
  ++ leBytes 4 m.length ++ leBytes 4 m.change ++ leBytes 8 m.arg ++ m.payload

/-- The Waybill message that the bytes of a frame's payload stand for (R53): reserved bits are
ignored, and a received code above 0xB is TARGET_ERR (R43). The payload is what follows the
header, cut at LENGTH. -/
def WbMsg.parse (bs : List Byte) : WbMsg :=
  let b := fun i => leAt bs i 1
  { version := b 0, op := b 1 % 128, resp := (b 1).testBit 7
    code := Code.ofNum (b 2 % 16), late := (b 2).testBit 4, more := (b 2).testBit 5
    stale := (b 2).testBit 6
    noside := (b 3).testBit 0, cond := (b 3).testBit 1, desc := (b 3).testBit 2
    seq := leAt bs 4 4, packId := leAt bs 8 2, member := leAt bs 10 2 % 4096
    all := (leAt bs 10 2).testBit 15, index := leAt bs 12 2, sub := b 14
    length := leAt bs 16 4, change := leAt bs 20 4, arg := leAt bs 24 8
    payload := (bs.drop 32).take (leAt bs 16 4) }

/-- A 32-byte target entry (R80): MAC address, transport, UDP port and address. -/
structure Target where
  mac : Nat
  transport : Nat
  port : Nat
  addr : Nat
deriving DecidableEq, Repr

/-- The target that 32 bytes stand for (R80). -/
def Target.parse (bs : List Byte) : Target :=
  ⟨leAt bs 0 6, leAt bs 6 1, leAt bs 8 2, leAt bs 16 16⟩

/-- How frames to a target travel (R80). -/
def Target.carrier (t : Target) : Carrier := if t.transport = 2 then .udp t.port t.addr else .l2

/-! ## Ethernet frames (R47 to R50, log 101) -/

/-- The value of `n` bytes from byte `i`, most significant first: the order of Ethernet, IP and UDP headers
(R53). -/
def beAt (bs : List Byte) (i n : Nat) : Nat := ofBe (bytesAt bs i n)

/-- The EtherType of a frame, past one IEEE 802.1Q tag, and the place of what follows it. -/
def etherAt (bs : List Byte) : Nat × Nat :=
  if beAt bs 12 2 = 0x8100 then (beAt bs 16 2, 18) else (beAt bs 12 2, 14)

/-- A UDP datagram in a frame: source and destination address as 16 bytes (an IPv4 address in its IPv6-mapped
form), the ports, and the place and length of its payload. -/
structure Udp where
  src : List Byte
  dst : List Byte
  sport : Nat
  dport : Nat
  body : Nat
  length : Nat
deriving DecidableEq, Repr

/-- An IPv4 address of four bytes in its IPv6-mapped form (R80). -/
def mapped (v4 : List Byte) : List Byte := List.replicate 10 0 ++ [0xFF, 0xFF] ++ v4

/-- The UDP datagram that a frame carries over IPv4 or IPv6, where it carries one. -/
def udpAt (bs : List Byte) : Option Udp :=
  let e := etherAt bs
  let at' := fun (o : Nat) (src dst : List Byte) =>
    some (⟨src, dst, beAt bs o 2, beAt bs (o + 2) 2, o + 8, beAt bs (o + 4) 2 - 8⟩ : Udp)
  if e.1 = 0x0800 ∧ beAt bs (e.2 + 9) 1 = 17 then
    at' (e.2 + 4 * (beAt bs e.2 1 % 16)) (mapped (bytesAt bs (e.2 + 12) 4)) (mapped (bytesAt bs (e.2 + 16) 4))
  else if e.1 = 0x86DD ∧ beAt bs (e.2 + 6) 1 = 17 then
    at' (e.2 + 40) (bytesAt bs (e.2 + 8) 16) (bytesAt bs (e.2 + 24) 16)
  else none

/-- Where the IEEE 1588 event message of a frame begins: EtherType 0x88F7, or UDP to port 319, with a message
type below 4 (R48). -/
def ptpEventAt (bs : List Byte) : Option Nat :=
  let e := etherAt bs
  let o := if e.1 = 0x88F7 then some e.2
    else (udpAt bs).bind (fun u => if u.dport = 319 then some u.body else none)
  o.bind (fun i => if beAt bs i 1 % 16 < 4 then some i else none)

/-- `bs` with the bytes from byte `i` on replaced by `v`. -/
def patchAt (bs : List Byte) (i : Nat) (v : List Byte) : List Byte :=
  bs.take i ++ v ++ bs.drop (i + v.length)

/-- The 10-byte IEEE 1588 timestamp of `t` root periods of 156.25 ps: seconds in 48 bits and nanoseconds in
32. -/
def ptpStamp (t : Nat) : List Byte :=
  let ns := t * 5 / 32
  (leBytes 6 (ns / 1000000000)).reverse ++ (leBytes 4 (ns % 1000000000)).reverse

/-- A frame in words of the 1,024-bit interface: each frame starts a new word (R50). -/
def frameWords (bs : List Byte) (err : Bool) : List FifoWord :=
  let k := (bs.length + 127) / 128
  (List.range k).map (fun i =>
    ⟨fit 128 (bs.drop (128 * i)), i == 0, i + 1 == k, if i + 1 = k then bs.length % 128 else 0, err⟩)

/-- The first whole frame of a list of words, and the words after it. -/
def firstFrame (ws : List FifoWord) : Option (List Byte × List FifoWord) :=
  (ws.findIdx? (·.eop)).map (fun k =>
    ((ws.take (k + 1)).flatMap (fun w => if w.eop ∧ w.count ≠ 0 then w.data.take w.count else w.data),
     ws.drop (k + 1)))

end Sys2Proof.Machine
end

