-- ==== Sys2Proof/Machine/Flags.lean ====
section
/-! DEFINITION. What the device tells the outside: frames queued at the ports (R51), Waybill
responses (R55, R58), management notifications (R63) and the completion of local barriers (R37). -/

namespace Sys2Proof.Machine

namespace Dev

/-! ## Ports -/

/-- The state of port `p`. -/
def port (d : Dev) (p : Nat) : PortSt := if p = 0 then d.port0 else d.port1

/-- The device with port `p` in state `x`. -/
def setPort (d : Dev) (p : Nat) (x : PortSt) : Dev :=
  if p = 0 then { d with port0 := x } else { d with port1 := x }

/-- The link of port `p` is up. -/
def linkUp (d : Dev) (p : Nat) : Bool := d.on (Reg.PORT_STS_LINK_UP p)

/-- A frame is queued for transmission; one queued for a port whose link is down is discarded
(R51). -/
def queueTx (d : Dev) (p : Nat) (f : TxFrame) : Dev :=
  if d.linkUp p then d.setPort p { d.port p with txWb := (d.port p).txWb ++ [f] } else d

/-- The port that frames to a NOTIFY target leave by (R80): port 0 when its link is up, otherwise
port 1 when its link is up. -/
def upPort (d : Dev) : Option Nat :=
  if d.linkUp 0 then some 0 else if d.linkUp 1 then some 1 else none

/-! ## Waybill responses -/

/-- The management MAC address of port `p`: the base MAC address plus `p` (R49). The base address
is held in fuses. -/
def portMac (base p : Nat) : Nat := (base + p) % 2 ^ 48

/-- The device takes part in a pack (R464). -/
def packOn (d : Dev) : Bool :=
  d.ctlOn Reg.PACK_CTL_EN && d.ctl Reg.PACK_IDS_PACK_ID != 0 && d.ctl Reg.PACK_IDS_PACK_ID != 0xFFFF

/-- The device's own pack ID: 0 outside a pack (R54). -/
def ownPack (d : Dev) : Nat := if d.packOn then d.ctl Reg.PACK_IDS_PACK_ID else 0

/-- The device's own member ID: 0 outside a pack (R54). -/
def ownId (d : Dev) : Nat := if d.packOn then d.ctl Reg.PACK_IDS_MEMBER else 0

/-- The message that answers a request with answer `a` (R53, R55). -/
def respMsg (d : Dev) (r : WbReq) (a : Answer) : WbMsg :=
  { op := r.msg.op, resp := true, code := a.code, late := a.late, stale := a.stale
    seq := r.msg.seq, packId := d.ownPack, member := d.ownId
    index := r.msg.index, sub := r.msg.sub, length := a.data.length, change := a.change
    arg := a.result * 2 ^ 32, payload := a.data }

/-- The fragments of a response (R55): at most 8,192 payload bytes each, every one but the last
with MORE set, ARG[31:0] holding the byte offset of the fragment. -/
def fragments (m : WbMsg) : List WbMsg :=
  let k := (m.payload.length + 8191) / 8192
  if k ≤ 1 then [m]
  else (List.range k).map (fun i =>
    let p := (m.payload.drop (8192 * i)).take 8192
    { m with payload := p, length := p.length, more := decide (i + 1 < k),
             arg := m.arg + 8192 * i })

/-- A response is sent to the request's source, out of the port on which it arrived (R55). -/
def sendResp (d : Dev) (r : WbReq) (m : WbMsg) : Dev :=
  match r.who with
  | .client mac =>
    (fragments m).foldl (fun d f =>
      d.queueTx r.port.val
        (.waybill mac r.carrier (d.ctl (Reg.PORT_CTL_WB_PRIO r.port.val)) f.encode)) d
  | _ => d

end Dev

namespace WbSt

/-- The completed request's code is recorded for the FENCEs that cover it, and kept for later ones unless it
is OK (R62), and the request is no longer executing. -/
def completed (w : WbSt) (mac seq : Nat) (c : Code) : WbSt :=
  { w with
    executing := w.executing.erase (mac, seq)
    codes := (w.codes.map (fun e =>
      if e.1 = mac ∧ e.2.1 = seq ∧ e.2.2.isNone then (e.1, e.2.1, some c) else e)).filter (·.2.2 != some .ok)
    fences := w.fences.map (fun f =>
      if f.req.who = .client mac then
        { f with covered := f.covered.map (fun e =>
            if e.1 = seq ∧ e.2.isNone then (e.1, some c) else e) }
      else f) }

/-- The response of an executed request enters its client's replay cache, which holds the last 8
(R58). -/
def cacheResp (w : WbSt) (mac seq : Nat) (m : WbMsg) : WbSt :=
  { w with clients := w.clients.map (fun c =>
      if c.mac = mac then { c with replay := ((seq, m) :: c.replay).take 8 } else c) }

end WbSt

namespace Dev

/-- A request completes with answer `a`: the response is sent (R55) and cached (R58), and the
device answers with it. -/
def respond (d : Dev) (r : WbReq) (a : Answer) : Dev :=
  match r.who with
  | .client mac =>
    let m := d.respMsg r a
    let d1 := d.sendResp r m
    { d1 with wb := (d1.wb.completed mac r.msg.seq a.code).cacheResp mac r.msg.seq m, answer := a }
  | _ => { d with answer := a }

/-! ## Notifications -/

/-- The value of a firmware-served object; `dflt` when it has none of its own (R519). -/
def fwGet (d : Dev) (ix sub : Nat) (dflt : List Byte) : List Byte :=
  let v := SMap.get [] d.fwObjects (objKey ix sub)
  if v = [] then dflt else v

/-- The device with a firmware-served object's value set. -/
def fwSet (d : Dev) (ix sub : Nat) (v : List Byte) : Dev :=
  { d with fwObjects := SMap.put [] d.fwObjects (objKey ix sub) v }

/-- NOTIFY target `t`, 1 to 4, of object 0x1020 (R79, R80). -/
def notifyTarget (d : Dev) (t : Nat) : Target := Target.parse (d.fwGet 0x1020 t (leBytes 32 0))

/-- One NOTIFY frame to one target, out of the port R80 gives; when neither link is up it is not
sent, which counts as a send that went unanswered. -/
def sendNotify (d : Dev) (n : NotifySt) : Dev :=
  let t := d.notifyTarget n.target
  let m : WbMsg :=
    { op := 8, seq := n.seq, packId := d.ownPack
      member := d.ownId, index := n.index, sub := n.sub, length := 4
      payload := leBytes 4 n.value.toNat }
  match d.upPort with
  | none => d
  | some p => d.queueTx p (.waybill t.mac t.carrier (d.ctl (Reg.PORT_CTL_WB_PRIO p)) m.encode)

/-- The targets that are set: transport 1 or 2 (R80). -/
def notifyTargets (d : Dev) : List Nat :=
  [1, 2, 3, 4].filter (fun t => (d.notifyTarget t).transport = 1 ∨ (d.notifyTarget t).transport = 2)

/-- The next number of the device-wide counter of NOTIFYs (R63). -/
def nextSeq (d : Dev) : Nat × Dev :=
  (d.wb.notifySeq, { d with wb := { d.wb with notifySeq := (d.wb.notifySeq + 1) % 2 ^ 32 } })

/-- A NOTIFY of object `ix:sub` with value `v` is sent to every target set, each under a number of its own
(R63). -/
def notifyAll (d : Dev) (ix sub : Nat) (v : Word) : Dev :=
  d.notifyTargets.foldl (fun a t =>
    let s := a.nextSeq
    let n : NotifySt := ⟨s.1, t, ix, sub, v, 0⟩
    (sendNotify { s.2 with wb := { s.2.wb with notifies := s.2.wb.notifies ++ [n] } } n)) d

/-- A management notification that names object `ix:sub`, the alias of the EVT register at `off`
(R63): the first is sent at once and opens a window of 1 ms; a further one within it is held, with
the value read at the last of them. -/
def notify (d : Dev) (ix sub off : Nat) : Dev :=
  let v := d.word off
  if d.wb.holds.any (fun h => h.index = ix ∧ h.sub = sub) then
    { d with wb := { d.wb with holds := d.wb.holds.map (fun h =>
        if h.index = ix ∧ h.sub = sub then { h with value := some v } else h) } }
  else
    let d1 := d.notifyAll ix sub v
    { d1 with wb := { d1.wb with holds := d1.wb.holds ++ [⟨ix, sub, none⟩] } }

/-! ## Local barriers -/

/-- The local barriers that name point `point` and object `object` complete with code `c`, LATE where the commit was (R37, R406):
a request is answered, and a run of object 0x1F20 ends. -/
def barrierDone (d : Dev) (point object : Nat) (c : Code) (late : Bool := false) : Dev :=
  let hit := fun (b : BarrierSt) => b.point == point && b.object == object
  let done := d.wb.barriers.filter hit
  let d1 := { d with wb := { d.wb with barriers := d.wb.barriers.filter (fun b => !hit b) } }
  done.foldl (fun a b =>
    match b.req with
    | some r => a.respond r { code := c, late := late, change := a.changeOf r.msg.index }
    | none => a.cmdDone 0x1F20 0 c late) d1

end Dev

end Sys2Proof.Machine
end

