-- ==== Sys2Proof/Machine/Ports.lean ====
section
/-! DEFINITION. The two 400G ports (R45 to R52): training, link up and link down, the effect of a write
of PORT_CTL, and transmission. -/

namespace Sys2Proof.Machine

/-- A lane's place in the stores. -/
def LaneId.key : LaneId → Nat
  | .line m => m.val
  | .heritage m => 64 + m.val
  | .port m => 128 + m.val

/-- The offset of a lane's registers (R398, R399). -/
def LaneId.base : LaneId → Nat
  | .line m => 0x0A0000 + 0x100 * m.val
  | .heritage m => 0x0B0000 + 0x100 * m.val
  | .port m => 0x0C4000 + 0x100 * m.val

/-- The dictionary index of a lane's registers (R400). -/
def LaneId.ix : LaneId → Nat
  | .line m => 0x5000 + m.val
  | .heritage m => 0x5100 + m.val
  | .port m => 0x5200 + m.val

/-- A field of a lane's registers, not guarded. -/
def LaneId.fld (l : LaneId) (off lsb w : Nat) : Fld := ⟨l.base + off, lsb, w, false, l.ix⟩

def LaneId.STATE (l : LaneId) : Fld := l.fld 0x28 0 3
def LaneId.SIGNAL (l : LaneId) : Fld := l.fld 0x28 3 1
def LaneId.CDR_LOCK (l : LaneId) : Fld := l.fld 0x28 4 1
def LaneId.ALIGNED (l : LaneId) : Fld := l.fld 0x28 5 1
def LaneId.PLL_LOCK (l : LaneId) : Fld := l.fld 0x28 6 1
def LaneId.CHK_LOCKED (l : LaneId) : Fld := l.fld 0x28 7 1
def LaneId.EQF (l : LaneId) : Fld := l.fld 0x28 8 8
def LaneId.SLIP_BUSY (l : LaneId) : Fld := l.fld 0x28 16 1
def LaneId.EN (l : LaneId) : Fld := l.fld 0 0 1
def LaneId.PLL_SEL (l : LaneId) : Fld := l.fld 0 1 1
def LaneId.DIV (l : LaneId) : Fld := l.fld 0 2 3
def LaneId.PAM4 (l : LaneId) : Fld := l.fld 0 5 1
def LaneId.CODER (l : LaneId) : Fld := l.fld 0 6 3
def LaneId.WIDTH (l : LaneId) : Fld := l.fld 0 9 2
def LaneId.AUTO_ALIGN (l : LaneId) : Fld := l.fld 0 13 1
def LaneId.FREEZE (l : LaneId) : Fld := l.fld 0 15 1
def LaneId.GEN (l : LaneId) : Fld := l.fld 0x30 0 4
def LaneId.CHK (l : LaneId) : Fld := l.fld 0x30 4 4

namespace Dev

/-- The state of a lane beside its registers. -/
def laneSt (d : Dev) (l : LaneId) : LaneSt := SMap.get {} d.lanes l.key

/-- The device with a lane's state replaced. -/
def setLane (d : Dev) (l : LaneId) (x : LaneSt) : Dev :=
  { d with lanes := SMap.put {} d.lanes l.key x }

/-- LANE_STS.STATE (R398): 0 DISABLED, 1 PLL_WAIT, 2 WAIT_SIGNAL, 3 ACQUIRE, 4 TRACK, 5 FROZEN,
6 RETIRED. -/
def lstate (d : Dev) (l : LaneId) : Nat := d.get l.STATE

/-- The receiver's status and its running work end: what any state before ACQUIRE shows (R383, R384). -/
def laneQuiet (d : Dev) (l : LaneId) : Dev :=
  let d1 := ((((((d.clear l.SIGNAL).clear l.CDR_LOCK).clear l.ALIGNED).clear l.CHK_LOCKED).clear
    l.EQF).clear l.SLIP_BUSY)
  d1.setLane l { d1.laneSt l with
    step := none, tried := [], gained := false, align := 0, good := 0, bad := 0 }

/-- The lane enters DISABLED (R383): its transmitter is in electrical idle. A retired lane stays
retired. -/
def laneDisable (d : Dev) (l : LaneId) : Dev :=
  if d.lstate l = 6 then d
  else
    let d1 := (d.laneQuiet l).set l.STATE 0
    d1.setLane l { d1.laneSt l with fails := 0, freezeDue := false, inj := 0, injLeft := 0, out := none }

/-! ## Links -/

/-- The lanes of port `p` that its mode uses: all four, or lane 0 alone in KR1 mode (R46). -/
def portLanes (d : Dev) (p : Fin 2) : List LaneId :=
  if d.ctl (Reg.PORT_CTL_MODE p.val) = 1 then [.port ⟨4 * p.val, by omega⟩]
  else
    [.port ⟨4 * p.val, by omega⟩, .port ⟨4 * p.val + 1, by omega⟩, .port ⟨4 * p.val + 2, by omega⟩,
     .port ⟨4 * p.val + 3, by omega⟩]

/-- All four lanes of port `p`. -/
def quadLanes (p : Fin 2) : List LaneId :=
  [.port ⟨4 * p.val, by omega⟩, .port ⟨4 * p.val + 1, by omega⟩, .port ⟨4 * p.val + 2, by omega⟩,
   .port ⟨4 * p.val + 3, by omega⟩]

/-- The power domain of port `p` is clocked: in D0 (R401, R402). -/
def portAwake (d : Dev) (p : Nat) : Bool := d.get (Reg.DOM_STS_STATE (2 + p)) == 0

/-- The port can train: enabled, clocked, with the root locked, and no retired lane in its mode
(R45, R46, R395). -/
def portCanTrain (d : Dev) (p : Fin 2) : Bool :=
  d.ctlOn (Reg.PORT_CTL_ENABLE p.val) && d.portAwake p.val && d.on Reg.CLK_STS_ROOT_LOCK
    && (d.portLanes p).all (fun l => d.lstate l != 6)

/-- PORT_TRAINING_START: auto-negotiation and link training begin (R45, R46). -/
def portTrainingStart (p : Fin 2) (d : Dev) : Dev :=
  if d.linkUp p.val ∨ !d.portCanTrain p then d
  else
    (d.portLanes p).foldl (fun a l => (a.laneQuiet l).set l.STATE 1)
      (d.setPort p.val { d.port p.val with training := true })

/-- PORT_LINK_UP: training has completed with FEC lock (R45, R46). -/
def portLinkUp (p : Fin 2) (d : Dev) : Dev :=
  if d.linkUp p.val ∨ !(d.port p.val).training ∨ !d.portCanTrain p then d
  else
    let kr1 := d.ctl (Reg.PORT_CTL_MODE p.val) = 1
    let d1 := (d.portLanes p).foldl (fun a l =>
      (((((a.set l.STATE (if a.ctlOn l.FREEZE then 5 else 4)).raise l.SIGNAL).raise l.CDR_LOCK).raise
        l.ALIGNED).raise l.PLL_LOCK)) (d.setPort p.val { d.port p.val with training := false })
    (((d1.raise (Reg.PORT_STS_LINK_UP p.val)).setBit (Reg.PORT_STS_KR1_ACTIVE p.val) kr1).set
      (Reg.PORT_STS_LANE_OK p.val) (if kr1 then 1 else 15)).raise (Reg.PORT_EVT_LINK_RISE p.val)

/-- The link of port `p` goes down: frames queued for it and frames in flight are lost (R46, R51). -/
def linkLost (d : Dev) (p : Nat) : Dev :=
  if !d.linkUp p then d
  else
    let d1 := d.setPort p { d.port p with txWb := [], txFifo := [], training := false }
    (((d1.clear (Reg.PORT_STS_LINK_UP p)).clear (Reg.PORT_STS_KR1_ACTIVE p)).clear
      (Reg.PORT_STS_LANE_OK p)).raise (Reg.PORT_EVT_LINK_DOWN p)

/-- PORT_LINK_DOWN: the link is lost (R46). -/
def portLinkDown (p : Fin 2) (d : Dev) : Dev := d.linkLost p.val

/-- The port leaves its link and starts again: training in the mode that PORT_CTL holds, or reset with
the transmitters in electrical idle (R46, R52). -/
def portRestart (d : Dev) (p : Fin 2) : Dev :=
  let d1 := (quadLanes p).foldl laneDisable (d.linkLost p.val)
  portTrainingStart p (d1.setPort p.val { d1.port p.val with training := false })

/-- PORT_CTL of port `p` has been written and held `old` before: a change of MODE or ENABLE is kept for
the end of the command, with the number of frames queued so far, so that the response of the write leaves
first (R46). -/
def portCtlWritten (p : Nat) (old : Word) (d : Dev) : Dev :=
  if fieldOf (d.word (Reg.PORT_CTL p)) 0 3 = fieldOf old 0 3 ∨ (d.port p).pendingCtl.isSome then d
  else d.setPort p { d.port p with pendingCtl := some (d.port p).txWb.length }

/-- The end of a command: a port whose MODE or ENABLE it changed restarts. The response that the command
queued on that port leaves in the old mode; every other frame queued there is lost (R46). -/
def portSettle (d : Dev) : Dev :=
  [(0 : Fin 2), 1].foldl (fun a p =>
    let x := a.port p.val
    match x.pendingCtl with
    | none => a
    | some k =>
      (a.setPort p.val { x with pendingCtl := none, sent := x.txWb.drop k, txWb := [] }).portRestart p) d

/-! ## Transmission -/

/-- The root periods that `q` pause quanta of 512 bit times last, in the port's mode (R47). -/
def quanta (d : Dev) (p q : Nat) : Nat :=
  (q * (if d.on (Reg.PORT_STS_KR1_ACTIVE p) then 32768 else 8192) + 999) / 1000

/-- A frame of 802.1Q priority `prio` is held back: by 802.3 pause, or by PFC for its priority, where the
port honours them, until the pause time is over (R47). -/
def txHeld (d : Dev) (p prio : Nat) : Bool :=
  let live := fun (i : Nat) => decide (d.time < (d.port p).paused.getD i 0)
  (d.ctlOn (Reg.PORT_CTL_PAUSE_EN p) && live 8)
    || ((d.ctl (Reg.PORT_CTL_PFC_EN p)).testBit prio && live prio)

/-- The IEEE 802.1Q priority of a frame's bytes: that of its tag, 0 without one. -/
def bytesPrio (bs : List Byte) : Nat := if beAt bs 12 2 = 0x8100 then beAt bs 14 1 / 32 else 0

/-- The IEEE 802.1Q priority of a frame. -/
def framePrio : TxFrame → Nat
  | .waybill _ _ prio _ => prio
  | .user bs => bytesPrio bs
  | _ => 0

/-- The pack time to a root period: the counter as it stood at the last edge of CD52, and the root periods
since (R48, R188). -/
def stamp (d : Dev) : Nat :=
  (d.get64 (Reg.PACK_TIME_WORD 0) (Reg.PACK_TIME_WORD 1) + d.get (Reg.ROOT_CNT_WORD 0) % 16) % 2 ^ 64

/-- A user frame as the port sends it at stamp `t`: a Sync message takes its origin timestamp when the port
sends Sync messages one-step (R48). -/
def stampedUser (oneStep : Bool) (t : Nat) (bs : List Byte) : List Byte :=
  match ptpEventAt bs with
  | some i => if oneStep ∧ beAt bs i 1 % 16 = 0 then patchAt bs (i + 34) (ptpStamp t) else bs
  | none => bs

/-- The words that the fabric writes enter the transmit FIFO of 16 KiB while it has room (R50). -/
def txAccept (d : Dev) (p : Nat) (ws : List FifoWord) : Dev :=
  let x := d.port p
  d.setPort p { x with txFifo := x.txFifo ++ ws.take (128 - x.txFifo.length) }

/-- PORT_TX_FRAME: the fabric has written the words `user`; at a frame boundary the port sends its next frame,
a queued frame of the device before the user frame at the front of the transmit FIFO (R50, R51). An event
message takes a timestamp as it leaves; a one-step Sync carries it, and after a two-step Sync of the device
a Follow_Up, IEEE 1588 message type 8, does (R48, log 22). A user frame for a port whose link is down is
discarded. -/
def portTxFrame (p : Fin 2) (user : List FifoWord) (d0 : Dev) : Dev :=
  if !d0.portAwake p.val then d0
  else
    let d := d0.txAccept p.val user
    let x := d.port p.val
    let one := d.ctlOn (Reg.PORT_CTL_TS_ONESTEP p)
    match x.txWb.find? (fun f => match f with
      | .pause _ => true
      | f => !d.txHeld p.val (framePrio f)) with
    | some f =>
      let s := match f with
        | .ptp 0 _ => TxFrame.ptp 0 (if one then d.stamp else 0)
        | f => f
      let t := match f with
        | .ptp k _ => if k < 8 then d.stamp else x.txStamp
        | _ => x.txStamp
      let follow := match f with
        | .ptp 0 _ => if one then [] else [TxFrame.ptp 8 d.stamp]
        | _ => []
      if d.linkUp p.val then
        d.setPort p.val { x with txWb := x.txWb.erase f ++ follow, sent := [s], txStamp := t }
      else d.setPort p.val { x with txWb := x.txWb.erase f }
    | none =>
      match firstFrame x.txFifo with
      | some (bs, rest) =>
        if !d.linkUp p.val then d.setPort p.val { x with txFifo := rest }
        else if d.txHeld p.val (bytesPrio bs) then d
        else d.setPort p.val { x with
          txFifo := rest, sent := [.user (stampedUser one d.stamp bs)]
          txStamp := if (ptpEventAt bs).isSome then d.stamp else x.txStamp }
      | none => d

end Dev

end Sys2Proof.Machine
end

