-- ==== Sys2Proof/Machine/Crypto.lean ====
section
/-! DEFINITION. The cryptography that the security engine performs, from the standards that the spec
names: SHA-512 (FIPS 180-4), AES-256-GCM (NIST SP 800-38D) and ECDSA P-521 verification (FIPS
186-5). The spec names the standards and does not restate them (log 12). -/

namespace Sys2Proof.Machine

/-! ## SHA-512 -/

/-- The round constants of SHA-512. -/
def sha512K0 : List Nat :=
  [0x428A2F98D728AE22, 0x7137449123EF65CD, 0xB5C0FBCFEC4D3B2F, 0xE9B5DBA58189DBBC,
   0x3956C25BF348B538, 0x59F111F1B605D019, 0x923F82A4AF194F9B, 0xAB1C5ED5DA6D8118,
   0xD807AA98A3030242, 0x12835B0145706FBE, 0x243185BE4EE4B28C, 0x550C7DC3D5FFB4E2,
   0x72BE5D74F27B896F, 0x80DEB1FE3B1696B1, 0x9BDC06A725C71235, 0xC19BF174CF692694,
   0xE49B69C19EF14AD2, 0xEFBE4786384F25E3, 0x0FC19DC68B8CD5B5, 0x240CA1CC77AC9C65]

/-- Rounds 20 to 39. -/
def sha512K1 : List Nat :=
  [0x2DE92C6F592B0275, 0x4A7484AA6EA6E483, 0x5CB0A9DCBD41FBD4, 0x76F988DA831153B5,
   0x983E5152EE66DFAB, 0xA831C66D2DB43210, 0xB00327C898FB213F, 0xBF597FC7BEEF0EE4,
   0xC6E00BF33DA88FC2, 0xD5A79147930AA725, 0x06CA6351E003826F, 0x142929670A0E6E70,
   0x27B70A8546D22FFC, 0x2E1B21385C26C926, 0x4D2C6DFC5AC42AED, 0x53380D139D95B3DF,
   0x650A73548BAF63DE, 0x766A0ABB3C77B2A8, 0x81C2C92E47EDAEE6, 0x92722C851482353B]

/-- Rounds 40 to 59. -/
def sha512K2 : List Nat :=
  [0xA2BFE8A14CF10364, 0xA81A664BBC423001, 0xC24B8B70D0F89791, 0xC76C51A30654BE30,
   0xD192E819D6EF5218, 0xD69906245565A910, 0xF40E35855771202A, 0x106AA07032BBD1B8,
   0x19A4C116B8D2D0C8, 0x1E376C085141AB53, 0x2748774CDF8EEB99, 0x34B0BCB5E19B48A8,
   0x391C0CB3C5C95A63, 0x4ED8AA4AE3418ACB, 0x5B9CCA4F7763E373, 0x682E6FF3D6B2B8A3,
   0x748F82EE5DEFB2FC, 0x78A5636F43172F60, 0x84C87814A1F0AB72, 0x8CC702081A6439EC]

/-- Rounds 60 to 79. -/
def sha512K3 : List Nat :=
  [0x90BEFFFA23631E28, 0xA4506CEBDE82BDE9, 0xBEF9A3F7B2C67915, 0xC67178F2E372532B,
   0xCA273ECEEA26619C, 0xD186B8C721C0C207, 0xEADA7DD6CDE0EB1E, 0xF57D4F7FEE6ED178,
   0x06F067AA72176FBA, 0x0A637DC5A2C898A6, 0x113F9804BEF90DAE, 0x1B710B35131C471B,
   0x28DB77F523047D84, 0x32CAAB7B40C72493, 0x3C9EBE0A15C9BEBC, 0x431D67C49C100D4C,
   0x4CC5D4BECB3E42B6, 0x597F299CFC657E2A, 0x5FCB6FAB3AD6FAEC, 0x6C44198C4A475817]

/-- All 80 round constants. -/
def sha512K : List Nat := sha512K0 ++ sha512K1 ++ sha512K2 ++ sha512K3

/-- The initial hash value of SHA-512. -/
def sha512H : List Nat :=
  [0x6A09E667F3BCC908, 0xBB67AE8584CAA73B, 0x3C6EF372FE94F82B, 0xA54FF53A5F1D36F1,
   0x510E527FADE682D1, 0x9B05688C2B3E6C1F, 0x1F83D9ABFB41BD6B, 0x5BE0CD19137E2179]

/-- A 64-bit rotation to the right. -/
def rotr64 (x k : Nat) : Nat := x / 2 ^ k + x % 2 ^ k * 2 ^ (64 - k)

/-- The message schedule, newest word first, after `k` more words. -/
def sha512Schedule : Nat → List Nat → List Nat
  | 0, w => w
  | k + 1, w =>
    let at_ := fun i => w.getD (i - 1) 0
    let s0 := rotr64 (at_ 15) 1 ^^^ rotr64 (at_ 15) 8 ^^^ (at_ 15 / 2 ^ 7)
    let s1 := rotr64 (at_ 2) 19 ^^^ rotr64 (at_ 2) 61 ^^^ (at_ 2 / 2 ^ 6)
    sha512Schedule k ((at_ 16 + s0 + at_ 7 + s1) % 2 ^ 64 :: w)

/-- One round on the working variables a to h. -/
def sha512Round (v : List Nat) (kw : Nat × Nat) : List Nat :=
  match v with
  | [a, b, c, d, e, f, g, h] =>
    let s1 := rotr64 e 14 ^^^ rotr64 e 18 ^^^ rotr64 e 41
    let ch := (e &&& f) ^^^ ((2 ^ 64 - 1 - e) &&& g)
    let t1 := h + s1 + ch + kw.1 + kw.2
    let s0 := rotr64 a 28 ^^^ rotr64 a 34 ^^^ rotr64 a 39
    let maj := (a &&& b) ^^^ (a &&& c) ^^^ (b &&& c)
    [(t1 + s0 + maj) % 2 ^ 64, a, b, c, (d + t1) % 2 ^ 64, e, f, g]
  | _ => v

/-- One block of 128 bytes. -/
def sha512Block (h : List Nat) (block : List Byte) : List Nat :=
  let w16 := (List.range 16).map (fun i => ofBe (bytesAt block (8 * i) 8))
  let w := (sha512Schedule 64 w16.reverse).reverse
  let v := (sha512K.zip w).foldl sha512Round h
  (h.zip v).map (fun p => (p.1 + p.2) % 2 ^ 64)

/-- The blocks of a message, `fuel` at most. -/
def sha512Blocks : Nat → List Nat → List Byte → List Nat
  | 0, h, _ => h
  | fuel + 1, h, m => if m = [] then h else sha512Blocks fuel (sha512Block h (m.take 128)) (m.drop 128)

/-- The SHA-512 digest of a message: 64 bytes. -/
def sha512 (m : List Byte) : List Byte :=
  let pad := (111 + 128 - m.length % 128) % 128
  let full := m ++ [0x80] ++ List.replicate pad 0 ++ (leBytes 16 (8 * m.length)).reverse
  (sha512Blocks (full.length / 128) sha512H full).flatMap (fun x => (leBytes 8 x).reverse)

/-! ## AES-256 -/

/-- Multiplication in the AES field. -/
def aesMul (a b : Nat) : Nat :=
  ((List.range 8).foldl (fun (s : Nat × Nat) i =>
    (if b.testBit i then s.1 ^^^ s.2 else s.1,
     (s.2 * 2 % 256) ^^^ (if s.2.testBit 7 then 0x1B else 0))) (0, a)).1

/-- The AES substitution of a byte: the inverse in the field, then the affine map. -/
def aesSub (x : Nat) : Nat :=
  let sq := fun y => aesMul y y
  let inv := ((List.range 6).foldl (fun (s : Nat × Nat) _ => (aesMul s.1 (sq s.2), sq s.2)) (sq x, sq x)).1
  let rot := fun k => (inv * 2 ^ k + inv / 2 ^ (8 - k)) % 256
  inv ^^^ rot 1 ^^^ rot 2 ^^^ rot 3 ^^^ rot 4 ^^^ 0x63

/-- The expanded key of AES-256, newest word first, after `k` more words; `i` is the next index. -/
def aesExpand : Nat → Nat → List (List Nat) → List (List Nat)
  | 0, _, w => w
  | k + 1, i, w =>
    let prev := w.getD 0 []
    let t := if i % 8 = 0 then
        ((prev.drop 1 ++ prev.take 1).map aesSub).zipIdx.map
          (fun e => if e.2 = 0 then e.1 ^^^ 2 ^ (i / 8 - 1) else e.1)
      else if i % 8 = 4 then prev.map aesSub else prev
    aesExpand k (i + 1) (((w.getD 7 []).zip t).map (fun p => p.1 ^^^ p.2) :: w)

/-- The 15 round keys of a 32-byte key, 16 bytes each. -/
def aesKeys (key : List Byte) : List (List Nat) :=
  let w8 := (List.range 8).map (fun i => (bytesAt key (4 * i) 4).map BitVec.toNat)
  let w := (aesExpand 52 8 w8.reverse).reverse
  (List.range 15).map (fun r => ((w.drop (4 * r)).take 4).flatten)

/-- The mix of one column. -/
def aesMix (c : List Nat) : List Nat :=
  (List.range 4).map (fun i =>
    aesMul (c.getD i 0) 2 ^^^ aesMul (c.getD ((i + 1) % 4) 0) 3 ^^^ c.getD ((i + 2) % 4) 0
      ^^^ c.getD ((i + 3) % 4) 0)

/-- One block under the round keys. -/
def aesBlock (keys : List (List Nat)) (block : List Nat) : List Nat :=
  let add := fun (s k : List Nat) => (s.zip k).map (fun p => p.1 ^^^ p.2)
  let shift := fun (s : List Nat) => (List.range 16).map (fun i =>
    aesSub (s.getD ((i + 4 * (i % 4)) % 16) 0))
  let s0 := add block (keys.getD 0 [])
  let s13 := (List.range 13).foldl (fun s r =>
    let m := shift s
    add ((List.range 4).flatMap (fun c => aesMix ((m.drop (4 * c)).take 4)))
      (keys.getD (r + 1) [])) s0
  add (shift s13) (keys.getD 14 [])

/-! ## GCM -/

/-- Multiplication in the GCM field; elements are 128-bit numbers, bit 127 first. -/
def gcmMul (x y : Nat) : Nat :=
  ((List.range 128).foldl (fun (s : Nat × Nat) i =>
    (if x.testBit (127 - i) then s.1 ^^^ s.2 else s.1,
     s.2 / 2 ^^^ (if s.2 % 2 = 1 then 0xE1 * 2 ^ 120 else 0))) (0, y)).1

/-- GHASH over data padded to blocks, `fuel` blocks at most. -/
def ghash (h : Nat) : Nat → Nat → List Byte → Nat
  | 0, y, _ => y
  | fuel + 1, y, m =>
    if m = [] then y else ghash h fuel (gcmMul (y ^^^ ofBe (fit 16 (m.take 16))) h) (m.drop 16)

/-- The key stream of counter mode from counter `c`, over data, `fuel` blocks at most. -/
def gcmCtr (keys : List (List Nat)) (iv : List Byte) : Nat → Nat → List Byte → List Byte
  | 0, _, _ => []
  | fuel + 1, c, m =>
    if m = [] then []
    else
      let ks := aesBlock keys ((iv ++ (leBytes 4 c).reverse).map BitVec.toNat)
      ((m.take 16).zip ks).map (fun p => p.1 ^^^ BitVec.ofNat 8 p.2)
        ++ gcmCtr keys iv fuel (c + 1) (m.drop 16)

/-- The text of AES-256-GCM under a 32-byte key and a 12-byte IV: the other side of `data`. -/
def gcmText (key iv data : List Byte) : List Byte :=
  gcmCtr (aesKeys key) iv ((data.length + 15) / 16) 2 data

/-- The 16-byte tag of a ciphertext and its additional authenticated data. -/
def gcmTag (key iv aad cipher : List Byte) : List Byte :=
  let keys := aesKeys key
  let h := ofBe ((aesBlock keys (List.replicate 16 0)).map (BitVec.ofNat 8))
  let y1 := ghash h ((aad.length + 15) / 16) 0 aad
  let y2 := ghash h ((cipher.length + 15) / 16) y1 cipher
  let y3 := gcmMul (y2 ^^^ (8 * aad.length * 2 ^ 64 + 8 * cipher.length)) h
  let e := ofBe ((aesBlock keys ((iv ++ [0, 0, 0, 1]).map BitVec.toNat)).map (BitVec.ofNat 8))
  (leBytes 16 (y3 ^^^ e)).reverse

/-! ## ECDSA P-521 -/

/-- The field prime of P-521. -/
def p521P : Nat := 2 ^ 521 - 1

/-- The coefficient b of the curve y² = x³ − 3x + b. -/
def p521B : Nat :=
  0x51953EB9618E1C9A1F929A21A0B68540EEA2DA725B99B315F3B8B489918EF109E156193951EC7E937B1652C0BD3BB1BF073573DF883D2C34F1EF451FD46B503F00

/-- The order of the group. -/
def p521N : Nat :=
  0x1FFFFFFFFFFFFFFFFFFFFFFFFFFFFFFFFFFFFFFFFFFFFFFFFFFFFFFFFFFFFFFFFFFFA51868783BF2F966B7FCC0148F709A5D03BB5C9B8899C47AEBB6FB71E91386409

/-- The base point. -/
def p521G : Nat × Nat :=
  (0xC6858E06B70404E9CD9E3ECB662395B4429C648139053FB521F828AF606B4D3DBAA14B5E77EFE75928FE1DC127A2FFA8DE3348B3C1856A429BF97E7E31C2E5BD66,
   0x11839296A789A3BC0045C8A5FB42C7D1BD998F54449579B446817AFBD17273E662C97EE72995EF42640C550B9013FAD0761353C7086A272C24088BE94769FD16650)

/-- `b` to the power `e` modulo `m`, the exponent having at most `fuel` bits. -/
def powMod (m : Nat) : Nat → Nat → Nat → Nat
  | 0, _, _ => 1 % m
  | fuel + 1, b, e =>
    let r := powMod m fuel (b * b % m) (e / 2)
    if e % 2 = 1 then b * r % m else r

/-- The inverse modulo a prime. -/
def invMod (m x : Nat) : Nat := powMod m 521 (x % m) (m - 2)

/-- The sum of two points; none is the point at infinity. -/
def p521Add (a b : Option (Nat × Nat)) : Option (Nat × Nat) :=
  match a, b with
  | none, q => q
  | q, none => q
  | some (x1, y1), some (x2, y2) =>
    let p := p521P
    if x1 = x2 ∧ (y1 + y2) % p = 0 then none
    else
      let l := if x1 = x2 then (3 * x1 * x1 + p - 3) * invMod p (2 * y1) % p
        else (y2 + p - y1) * invMod p (x2 + p - x1) % p
      let x := (l * l + 2 * p - x1 - x2) % p
      some (x, (l * (x1 + p - x) + p - y1) % p)

/-- A multiple of a point, the factor having at most `fuel` bits. -/
def p521Mul : Nat → Nat → Option (Nat × Nat) → Option (Nat × Nat)
  | 0, _, _ => none
  | fuel + 1, k, q =>
    let r := p521Mul fuel (k / 2) (p521Add q q)
    if k % 2 = 1 then p521Add q r else r

/-- The point of an uncompressed 133-byte encoding, when it is one (R237, R247). -/
def p521Point (key : List Byte) : Option (Nat × Nat) :=
  let x := ofBe (bytesAt key 1 66)
  let y := ofBe (bytesAt key 67 66)
  if key.headD 0 = 0x04 ∧ x < p521P ∧ y < p521P
      ∧ y * y % p521P = (x * x * x + (p521P - 3) * x + p521B) % p521P then some (x, y)
  else none

/-- The public key of a private one, as an uncompressed 133-byte encoding. -/
def p521Public (priv : Nat) : List Byte :=
  match p521Mul 521 priv (some p521G) with
  | some (x, y) => 0x04 :: ((leBytes 66 x).reverse ++ (leBytes 66 y).reverse)
  | none => []

/-- The ECDSA signature (r, s) over a message with SHA-512, with the per-message secret number `k`. -/
def p521Sign (priv k : Nat) (m : List Byte) : Nat × Nat :=
  match p521Mul 521 k (some p521G) with
  | some (x, _) => (x % p521N, invMod p521N k * (ofBe (sha512 m) + x % p521N * priv) % p521N)
  | none => (0, 0)

/-- The ECDSA signature (r, s) over a message with SHA-512 verifies under a public key. -/
def p521Verify (key m : List Byte) (r s : Nat) : Bool :=
  match p521Point key with
  | none => false
  | some q =>
    if r = 0 ∨ p521N ≤ r ∨ s = 0 ∨ p521N ≤ s then false
    else
      let e := ofBe (sha512 m)
      let w := invMod p521N s
      let t := p521Add (p521Mul 521 (e * w % p521N) (some p521G))
        (p521Mul 521 (r * w % p521N) (some q))
      match t with
      | none => false
      | some (x, _) => x % p521N == r

end Sys2Proof.Machine
end

