-- ==== Sys2Proof/Machine/Codes.lean ====
section
/-! DEFINITION. The codes the device stores with its data: the SEC-DED(13,8) byte code with its
poison pattern (R282, R283), and the frame codes, eight extended Hamming codewords and a CRC-8
(R263 to R266). -/

namespace Sys2Proof.Machine

/-! ## The byte code -/

/-- The xor of the bits of `x` that `mask` selects. -/
def parityOf (x mask w : Nat) : Bool :=
  (List.range w).foldl (fun a i => if mask.testBit i then a ^^ x.testBit i else a) false

/-- The check bits c0 to c3 of eight data bits (R282). -/
def check4 (v : Nat) : Nat :=
  bit01 (parityOf v 0x5B 8) + 2 * bit01 (parityOf v 0x6D 8) + 4 * bit01 (parityOf v 0x8E 8)
    + 8 * bit01 (parityOf v 0xF0 8)

/-- The 13-bit codeword of a byte (R282): data in bits [7:0], c0 to c4 in bits [12:8]. -/
def encodeByte (b : Byte) : BitVec 13 :=
  let v := b.toNat
  let x := v + 256 * check4 v
  BitVec.ofNat 13 (x + 4096 * bit01 (parityOf x 0xFFF 12))

/-- The poison pattern (R283). -/
def poisonWord : BitVec 13 := 0x1F00

/-- What a checker decides of a stored byte (R283). -/
inductive Decoded where
  | poisoned
  | clean (b : Byte)
  | fixed (b : Byte)
  | bad
deriving DecidableEq, Repr

/-- The data bit at a Hamming position, as a mask of the data byte; 0 for a check position. -/
def positionMask (s : Nat) : Nat :=
  match s with
  | 3 => 1 | 5 => 2 | 6 => 4 | 7 => 8 | 9 => 16 | 10 => 32 | 11 => 64 | 12 => 128 | _ => 0

/-- The checker's decision, in the order of R283. -/
def decodeByte (c : BitVec 13) : Decoded :=
  let x := c.toNat
  let diff := x ^^^ 0x1F00
  if diff = 0 ∨ (List.range 13).any (fun i => diff == 2 ^ i) then .poisoned
  else
    let v := x % 256
    let s := check4 v ^^^ (x / 256 % 16)
    let q := parityOf x 0x1FFF 13
    if s = 0 ∧ !q then .clean (BitVec.ofNat 8 v)
    else if q ∧ s ≤ 12 then .fixed (BitVec.ofNat 8 (v ^^^ positionMask s))
    else .bad

/-- What a reader receives of a decoded byte (R287): the data, and whether it is poisoned. -/
def Decoded.value : Decoded → Byte × Bool
  | .poisoned => (0, true)
  | .clean b => (b, false)
  | .fixed b => (b, false)
  | .bad => (0, true)

/-! ## Frame codes -/

/-- The (k + 1)-th integer from 1 upward that is not a power of two (R264). -/
def hammingPos (k : Nat) : Nat :=
  if k = 0 then 3 else if k ≤ 3 then k + 4 else if k ≤ 10 then k + 5 else if k ≤ 25 then k + 6
  else if k ≤ 56 then k + 7 else if k ≤ 119 then k + 8 else if k ≤ 246 then k + 9
  else if k ≤ 501 then k + 10 else k + 11

/-- The xor of the Hamming positions of the data bits of codeword `j` that are 1, and their parity
(R263, R264). -/
def codewordSum (x : Nat) (j : Nat) : Nat × Bool :=
  (List.range 512).foldl
    (fun a k => if x.testBit (8 * k + j) then (a.1 ^^^ hammingPos k, !a.2) else a) (0, false)

/-- The 11 check bits of codeword `j` of frame data `x` (R264). -/
def codewordCheck (x j : Nat) : Nat :=
  let s := codewordSum x j
  s.1 % 1024 + 1024 * bit01 (s.2 ^^ parityOf s.1 1023 10)

/-- One step of the CRC-8 with polynomial x⁸ + x² + x + 1 (R265). -/
def crcStep (c : Nat) (b : Bool) : Nat :=
  let t := (c.testBit 7) ^^ b
  (c * 2 % 256) ^^^ (if t then 7 else 0)

/-- The frame sequence check of frame data `x` at device frame address `a` (R265). -/
def frameFsc (a x : Nat) : Nat :=
  let c := (List.range 20).foldl (fun c i => crcStep c (a.testBit (19 - i))) 0
  (List.range 4096).foldl (fun c i => crcStep c (x.testBit i)) c

/-- The 88 check bits of the eight codewords, check bit c of codeword j at position 8c + j. -/
def codewordBits (x : Nat) : Nat :=
  (List.range 88).foldl
    (fun a p => a + bit01 ((codewordCheck x (p % 8)).testBit (p / 8)) * 2 ^ p) 0

/-- A frame as the configuration controller writes it: the data and all 96 check bits for the
address (R263, R265). -/
def encodeFrame (a x : Nat) : BitVec 4192 :=
  BitVec.ofNat 4192 (x % 2 ^ 4096 + (codewordBits x + frameFsc a x * 2 ^ 88) * 2 ^ 4096)

/-- The classes of R266. -/
inductive FrameClass where
  | clean | checkFix | correctable | uncorrectable
deriving DecidableEq, Repr

/-- One codeword of a stored frame decoded (R264): the data bit to flip, if any, whether it was
corrected, and whether it is uncorrectable. -/
def decodeCodeword (row j : Nat) : Option Nat × Bool × Bool :=
  let x := row % 2 ^ 4096
  let stored := (List.range 11).foldl
    (fun a c => a + bit01 (row.testBit (4096 + 8 * c + j)) * 2 ^ c) 0
  let sum := codewordSum x j
  let s := (sum.1 ^^^ stored) % 1024
  let q := sum.2 ^^ parityOf stored 2047 11
  if s = 0 ∧ !q then (none, false, false)
  else if !q then (none, false, true)
  else if s = 0 then (none, true, false)
  else if s > 522 then (none, false, true)
  else
    match (List.range 512).find? (fun k => hammingPos k == s) with
    | some k => (some (8 * k + j), true, false)
    | none => (none, true, false)

/-- The class of a stored frame at address `a` and its data after correction (R266). -/
def classify (a : Nat) (row : BitVec 4192) : FrameClass × Nat :=
  let x := row.toNat % 2 ^ 4096
  let ds := (List.range 8).map (decodeCodeword row.toNat)
  let x' := ds.foldl (fun v e => match e.1 with | some i => v ^^^ 2 ^ i | none => v) x
  let fsc := row.toNat / 2 ^ (4096 + 88) % 256
  let ok := decide (frameFsc a x' = fsc)
  if ds.any (fun e => e.2.2) then (.uncorrectable, x)
  else if ds.any (fun e => e.2.1) then (if ok then (.correctable, x') else (.uncorrectable, x))
  else (if ok then (.clean, x) else (.checkFix, x))

end Sys2Proof.Machine
end

