-- ==== Sys2Proof/Machine/Package.lean ====
section
/-! DEFINITION. The package (R17, R134, R510 to R515): which ball of the 56 by 56 array carries which pin, lane,
system signal, supply or ground. Rows and columns count from 1. -/

namespace Sys2Proof.Machine

/-- The letters of the row names, in their order (R17). -/
def rowLetters : List String :=
  ["A", "B", "C", "D", "E", "F", "G", "H", "J", "K", "L", "M", "N", "P", "T", "U", "V", "W", "Y"]

/-- The name of row `r` (R511). -/
def rowName (r : Nat) : String :=
  if r ≤ 19 then rowLetters.getD (r - 1) ""
  else if r ≤ 38 then "A" ++ rowLetters.getD (r - 20) ""
  else "B" ++ rowLetters.getD (r - 39) ""

/-- The name of the ball at row `r` and column `c` (R17). -/
def ballName (r c : Nat) : String := rowName r ++ toString c

/-- A user I/O pin: GIOb_k or HIOb_k (R134). -/
inductive IoPin where
  | gio (b k : Nat)
  | hio (b k : Nat)
deriving DecidableEq, Repr

/-- The pin of cell `c` of region `n`, where it has one (R134). -/
def cellPin (n c : Nat) : Option IoPin :=
  let y := n / 16
  if n % 16 ≠ 0 ∧ n % 16 ≠ 15 then none
  else if c < 24 then some (.gio (y / 2 + (if n % 16 = 0 then 0 else 4)) (24 * (y % 2) + c))
  else if c < 48 ∧ n = 64 then some (.hio 0 (c - 24))
  else if c < 48 ∧ n = 79 then some (.hio 1 (c - 24))
  else none

/-- The supplies of the package (R494, R513). -/
inductive Supply where
  | vccint | vccnoc | vcccfg | vddlane09 | vddlane12 | vddq | vccioG (b : Nat) | vccioH (b : Nat) | vaux | vbat
deriving DecidableEq, Repr

/-- What a ball carries: ground; the transmit or receive pair of a lane, its P or N side; a user pin; a system signal
by its position, from 88 on reserved (R514); a supply. -/
inductive Ball where
  | ground
  | lane (l : LaneId) (tx : Bool) (neg : Bool)
  | pin (p : IoPin)
  | system (pos : Nat)
  | supply (s : Supply)
deriving DecidableEq, Repr

/-- The lane balls: pair `j` of signal row `t` of the top or the bottom block (R512). -/
def lanePair (top : Bool) (p : Nat) (neg : Bool) : Ball :=
  if top then
    if p < 128 then .lane (.line (Fin.ofNat 64 p)) (p < 64) neg
    else .lane (.port (Fin.ofNat 8 (p - 128))) (p < 136) neg
  else if p < 128 then .lane (.heritage (Fin.ofNat 64 p)) (p < 64) neg
  else .ground

/-- A ball of the lane blocks, rows 1 to 16 and 41 to 56 (R512). -/
def laneBall (r c : Nat) : Ball :=
  let top := r ≤ 16
  let t := if top then r / 2 - 1 else r / 2 - 21
  if r % 2 = 1 ∨ c % 3 = 1 ∨ 55 ≤ c then .ground
  else lanePair top (18 * t + (c - 2) / 3) (c % 3 == 0)

/-- The 17 supply balls of a core row, in ascending column (R513). -/
def coreSupplies (r : Nat) : List Supply :=
  if r ≤ 18 then List.replicate 17 .vddlane09
  else if r = 19 then List.replicate 17 .vddlane12
  else if r ≤ 21 then List.replicate 17 .vccnoc
  else if r ≤ 33 then List.replicate 17 .vccint
  else if r = 34 then List.replicate 8 .vcccfg ++ List.replicate 8 .vaux ++ [.vbat]
  else if r = 35 then [0, 1, 2, 3].flatMap (fun b => List.replicate 4 (.vccioG b)) ++ [.vccioH 0]
  else if r = 36 then [4, 5, 6, 7].flatMap (fun b => List.replicate 4 (.vccioG b)) ++ [.vccioH 1]
  else if r ≤ 39 then List.replicate 17 .vddq
  else List.replicate 9 .vddlane09 ++ List.replicate 8 .vddlane12

/-- A ball of the core, rows 17 to 40 and columns 12 to 45: ground where r + c is even (R513). -/
def coreBall (r c : Nat) : Ball :=
  if (r + c) % 2 = 0 then .ground else .supply ((coreSupplies r).getD ((c - 12) / 2) .vccint)

/-- What the ball at row `r` and column `c` carries (R512 to R514). -/
def ballAt (r c : Nat) : Ball :=
  if r ≤ 16 ∨ 41 ≤ r then laneBall r c
  else if c ≤ 8 then .pin (.gio ((r - 17) / 6) (8 * ((r - 17) % 6) + (c - 1)))
  else if 49 ≤ c then .pin (.gio (4 + (r - 17) / 6) (8 * ((r - 17) % 6) + (56 - c)))
  else if 12 ≤ c ∧ c ≤ 45 then coreBall r c
  else if c = 11 then .system (24 + (r - 17))
  else if c = 46 then .system (72 + (r - 17))
  else if 29 ≤ r then .system ((if c ≤ 10 then 12 * (c - 9) else 48 + 12 * (48 - c)) + (r - 29))
  else if c ≤ 10 then .pin (.hio 0 (2 * (r - 17) + (c - 9)))
  else .pin (.hio 1 (2 * (r - 17) + (48 - c)))

/-- The system signals, in the order of their positions; the last eight are reserved (R514). -/
def systemSignals : List String :=
  ["ROOTCLK_P", "ROOTCLK_N"]
    ++ (List.range 8).flatMap (fun i => ["GCLKIN" ++ toString i ++ "_P", "GCLKIN" ++ toString i ++ "_N"])
    ++ ["TCK", "TMS", "TDI", "TDO", "TRSTN", "CFGSRC0", "CFGSRC1", "CFGSRC2", "CFGPULL", "RSTN", "INITN", "DONE",
        "AVS_CLK", "AVS_MDATA", "AVS_SDATA", "XSPI_CLK", "XSPI_DQS"]
    ++ (List.range 8).map (fun i => "XSPI_DQ" ++ toString i) ++ ["XSPI_CS0N", "XSPI_CS1N", "XSPI_RESETN"]
    ++ (List.range 4).flatMap (fun n => ["TX", "RX", "RTSN", "CTSN"].map (fun s => "UART" ++ toString n ++ "_" ++ s))
    ++ (List.range 4).flatMap (fun n => ["SCL", "SDA"].map (fun s => "I2C" ++ toString n ++ "_" ++ s))
    ++ (List.range 2).flatMap (fun n => ["SCLK", "MOSI", "MISO", "CS0N", "CS1N", "CS2N", "CS3N"].map
        (fun s => "SPI" ++ toString n ++ "_" ++ s))
    ++ ["MDIO0_MDC", "MDIO0_MDIO", "MDIO1_MDC", "MDIO1_MDIO"] ++ List.replicate 8 "RSVD"

end Sys2Proof.Machine
end

