-- ==== Sys2Proof/Machine/Fabric.lean ====
section
/-! DEFINITION. The fabric: the records an image holds in its frames (R115, R116, R211, R212), the
combinational network of cells, merge trees, carry chains, wires and trunks (R99 to R127), border
ports (R128 to R133), flip-flops (R103 to R107) and I/O cells (R134 to R140). -/

namespace Sys2Proof.Machine

/-! ## Frames and records -/

/-- The key of a frame (R210). -/
def frameKey (n p f : Nat) : Nat := (n * 2 + p) * 5120 + f

/-- The region states of RGN_STS.STATE (R233). -/
def rsEmpty : Nat := 0
def rsActive : Nat := 1
def rsSwapping : Nat := 2
def rsHeld : Nat := 3
def rsFenced : Nat := 4
def rsRetired : Nat := 5

/-- The shadow states of RGN_STS.SHADOW (R233). -/
def ssEmpty : Nat := 0
def ssLoading : Nat := 1
def ssVerified : Nat := 2

namespace Dev

/-- What a region's engine holds beside its registers. -/
def rgnSt (d : Dev) (n : Nat) : RgnSt := SMap.get {} d.rgn n

/-- The device with a region's engine state replaced. -/
def setRgn (d : Dev) (n : Nat) (x : RgnSt) : Dev := { d with rgn := SMap.put {} d.rgn n x }

/-- A LOAD (1) or a SWAP (2) of region `n` has ended. -/
def rgnEnded (d : Dev) (n k : Nat) : Dev := d.setRgn n { d.rgnSt n with last := k }

/-- A frame of plane `p` of region `n`, as stored. -/
def frame (d : Dev) (n p f : Nat) : BitVec 4192 := SMap.get 0 d.frames (frameKey n p f)

/-- The device with a frame stored. -/
def setFrame (d : Dev) (n p f : Nat) (x : BitVec 4192) : Dev :=
  { d with frames := SMap.put 0 d.frames (frameKey n p f) x }

/-- The device with every frame of plane `p` of region `n` cleared. -/
def clearPlane (d : Dev) (n p : Nat) : Dev :=
  { d with frames := SMap.only (fun k => k / 5120 != n * 2 + p) d.frames }

/-- The active plane of region `n`. -/
def activePlane (d : Dev) (n : Nat) : Nat := d.get (Reg.RGN_STS_ACTIVE_PLANE n)

/-- `w` configuration bits at bit `b` of the section that starts at frame `sec` of plane `p` of
region `n` (R211). -/
def cfgAt (d : Dev) (n p sec b w : Nat) : Nat :=
  let lo := (d.frame n p (sec + b / 4096)).toNat % 2 ^ 4096 / 2 ^ (b % 4096)
  let hi := if b % 4096 + w ≤ 4096 then 0 else (d.frame n p (sec + b / 4096 + 1)).toNat % 2 ^ 4096
  (lo + hi * 2 ^ (4096 - b % 4096)) % 2 ^ w

/-- The same, of the active plane. -/
def cfg (d : Dev) (n sec b w : Nat) : Nat := d.cfgAt n (d.activePlane n) sec b w

/-- The region state. -/
def rstate (d : Dev) (n : Nat) : Nat := d.get (Reg.RGN_STS_STATE n)

/-- The shadow state. -/
def sstate (d : Dev) (n : Nat) : Nat := d.get (Reg.RGN_STS_SHADOW n)

/-- The region's active plane holds an ACTIVE image (R215). -/
def hasImage (d : Dev) (n : Nat) : Bool :=
  let s := d.rstate n
  s == rsActive || s == rsHeld || s == rsFenced || (s == rsSwapping && (d.rgnSt n).fromActive)

/-- The active image runs: its hold is released and its guard is open (R215). -/
def runs (d : Dev) (n : Nat) : Bool :=
  d.rstate n == rsActive || (d.rstate n == rsSwapping && (d.rgnSt n).fromActive)

/-- The region's hold is asserted (R117). -/
def holdOn (d : Dev) (n : Nat) : Bool := d.on (Reg.FF_STS_HOLD n)

/-- The power domain of region `n` (R401). -/
def regionDom (n : Nat) : Nat := 128 + n

/-- The power state of domain `d`, 0 to 3 for D0 to D3. -/
def domState (d : Dev) (dom : Nat) : Nat := d.get (Reg.DOM_STS_STATE dom)

/-- Clock edges reach the elements of region `n`: its fabric clock gate is open (R485) and its domain is in D0
(R189, R402). -/
def clocked (d : Dev) (n : Nat) : Bool := (d.rgnSt n).gateOpen && d.domState (regionDom n) == 0

end Dev

/-- What region `n` presents to its fabric at its hard attachment (R230): RGN_ID, and RGN_EDGE. No rule places
the attachment in the routing (log 105). -/
def rgnAttachment (n : Region) : BitVec 7 × Bool := (BitVec.ofNat 7 n.val, isEdge n.val)

/-- A field of a cluster record (R116) or of the switch-box record behind it (R212), at bit `b` of
the cluster's 2,048 bits. -/
def Dev.clusterBits (d : Dev) (n i b w : Nat) : Nat := d.cfg n 1536 (i * 2048 + b) w

/-- A field of the cell record of cell `c` of cluster `i` (R115). -/
def Dev.cellBits (d : Dev) (n i c b w : Nat) : Nat := d.cfg n 0 (i * 1536 + 96 * c + b) w

/-- The network that number `k` of region `n` selects (R203). -/
def netOf (n : Region) (k : Nat) : Net :=
  if h : k < 32 then .gck ⟨k, h⟩
  else if h : k - 32 < 8 then .rck n ⟨k - 32, h⟩
  else if h : k - 40 < 4 then .ring ⟨k - 40, h⟩
  else .stopped

/-! ## The combinational network -/

/-- A point of the combinational network of a region: a crossbar source, a cell's input, its table
outputs, carries and OB path, a merge output, a cluster output (32: CO), a wire where it starts,
a wire arriving at a crossing, a trunk, and an inbound and an outbound border port. -/
inductive Node where
  | src (n i s : Nat)
  | input (n i c k : Nat)
  | oa (n i c : Nat)
  | ob (n i c : Nat)
  | obPath (n i c : Nat)
  | cin (n i c : Nat)
  | cout (n i c : Nat)
  | merge (n i st j : Nat)
  | out (n i k : Nat)
  | wire (n i len dir w : Nat)
  | arrive (n i len dir w : Nat)
  | trunk (n t : Nat)
  | inbound (n side k : Nat)
  | outbound (n side k : Nat)
deriving DecidableEq, Repr

/-- Wires per direction of a length, and where their selects start in the switch-box record. -/
def wireCount (len : Nat) : Nat := if len = 1 ∨ len = 2 then 16 else if len = 4 then 12 else 8
def wireBase (len : Nat) : Nat :=
  if len = 1 then 0 else if len = 2 then 64 else if len = 4 then 128 else 176

/-- The distance from cluster `i` to the region's last cluster in direction `dir` (0 N, 1 E, 2 S,
3 W). -/
def ahead (i dir : Nat) : Nat :=
  if dir = 0 then 63 - i / 64 else if dir = 1 then 63 - i % 64
  else if dir = 2 then i / 64 else i % 64

/-- The cluster `k` steps behind `i`, for a wire travelling `dir`. -/
def behind (i dir k : Nat) : Nat :=
  if dir = 0 then i - 64 * k else if dir = 1 then i - k else if dir = 2 then i + 64 * k else i + k

/-- The boundary cluster at position `pos` of side `side` (R128). -/
def sideCluster (side pos : Nat) : Nat :=
  if side = 0 then 63 * 64 + pos else if side = 1 then pos * 64 + 63
  else if side = 2 then pos else pos * 64

/-- The position of boundary cluster `i` along side `side` (R128). -/
def sidePos (side i : Nat) : Nat := if side = 0 ∨ side = 2 then i % 64 else i / 64

/-- The opposite side. -/
def opposite (side : Nat) : Nat := (side + 2) % 4

/-- The region across side `side` of region `n`; none on an outer side of the fabric (R128). -/
def neighbour (n side : Nat) : Option Nat :=
  if side = 0 then (if n / 16 < 7 then some (n + 16) else none)
  else if side = 1 then (if n % 16 < 15 then some (n + 1) else none)
  else if side = 2 then (if n / 16 > 0 then some (n - 16) else none)
  else (if n % 16 > 0 then some (n - 1) else none)

namespace Dev

/-- Bit `b` of the cell's table. -/
def tableBit (d : Dev) (n i c b : Nat) : Bool := d.cellBits n i c b 1 = 1

/-- A flip-flop (b = 0 FFA, b = 1 FFB). -/
def ffOf (d : Dev) (n i c b : Nat) : Bool := SMap.get false d.ff (n * 131072 + i * 32 + 2 * c + b)

/-- The border value of an outbound port while its gate is closed (R129, R130). -/
def borderValue (d : Dev) (n side k : Nat) : Bool :=
  match d.cfg n 3585 (side * 2048 + 2 * k) 2 with
  | 0 => SMap.get false d.borderHold ((n * 4 + side) * 512 + k)
  | 2 => true
  | _ => false

/-- The gates of side `side` of region `n` are closed (R130). -/
def gateClosed (d : Dev) (n side : Nat) : Bool :=
  !d.runs n || ((d.rgnSt n).force.testBit side)

/-- The value of a point of the network, with `fuel` steps of depth left. `free` is what a loop
settles to. A registered inbound port of an outer side shows its register, which holds BINIT until the first edge
after a release, though an inbound port of an outer side reads 0 (DESIGN CHOICE, log 131). -/
def eval (d : Dev) (free : Bool) : Nat → Node → Bool
  | 0, _ => free
  | fuel + 1, node =>
    match node with
    | .src n i s =>
      if s < 72 then
        let sel := d.clusterBits n i (968 + 832 + 2 * s) 2
        if s < 16 then eval d free fuel (.arrive n i 1 sel s)
        else if s < 32 then eval d free fuel (.arrive n i 2 sel (s - 16))
        else if s < 56 then eval d free fuel (.arrive n i 4 sel ((s - 32) % 12))
        else eval d free fuel (.arrive n i 12 sel ((s - 56) % 8))
      else if s < 76 then eval d free fuel (.trunk n (4 * (i / 64) + (s - 72)))
      else if s < 80 then eval d free fuel (.trunk n (256 + 4 * (i % 64) + (s - 76)))
      else if s < 112 then eval d free fuel (.out n i (s - 80))
      else if s = 113 then true
      else if s = 114 then eval d free fuel (.out n i 32)
      else false
    | .input n i c k => eval d free fuel (.src n i (d.clusterBits n i (72 + 7 * (8 * c + k)) 7))
    | .oa n i c =>
      let b := fun k => bit01 (eval d free fuel (.input n i c k))
      let lo4 := b 0 + 2 * b 1 + 4 * b 2 + 8 * b 3
      match d.cellBits n i c 64 2 with
      | 0 => d.tableBit n i c (lo4 + 16 * b 4 + 32 * b 5)
      | 1 => d.tableBit n i c (lo4 + 16 * b 4)
      | 2 => d.tableBit n i c lo4
      | _ => (d.tableBit n i c lo4) ^^ (eval d free fuel (.cin n i c))
    | .ob n i c =>
      let b := fun k => bit01 (eval d free fuel (.input n i c k))
      let lo4 := b 0 + 2 * b 1 + 4 * b 2 + 8 * b 3
      let hi4 := b 4 + 2 * b 5 + 4 * b 6 + 8 * b 7
      match d.cellBits n i c 64 2 with
      | 0 => d.tableBit n i c (lo4 + 16 * b 4 + 32 * b 5)
      | 1 => d.tableBit n i c (32 + lo4 + 16 * b 4)
      | 2 => d.tableBit n i c (32 + hi4)
      | _ =>
        let c1 := if d.tableBit n i c lo4 then eval d free fuel (.cin n i c)
          else d.tableBit n i c (16 + lo4)
        (d.tableBit n i c (32 + hi4)) ^^ c1
    | .cin n i c =>
      if c > 0 then eval d free fuel (.cout n i (c - 1))
      else match d.clusterBits n i 63 2 with
        | 0 => if i / 64 = 0 then false else eval d free fuel (.cout n (i - 64) 15)
        | 1 => false
        | 2 => true
        | _ => eval d free fuel (.src n i (d.clusterBits n i 65 7))
    | .cout n i c =>
      if d.cellBits n i c 64 2 = 3 then
        let b := fun k => bit01 (eval d free fuel (.input n i c k))
        let lo4 := b 0 + 2 * b 1 + 4 * b 2 + 8 * b 3
        let hi4 := b 4 + 2 * b 5 + 4 * b 6 + 8 * b 7
        let c1 := if d.tableBit n i c lo4 then eval d free fuel (.cin n i c)
          else d.tableBit n i c (16 + lo4)
        if d.tableBit n i c (32 + hi4) then c1 else d.tableBit n i c (48 + hi4)
      else eval d free fuel (.cin n i c)
    | .merge n i st j =>
      let k := 2 ^ st
      let sel := eval d free fuel (.input n i (k * j + k / 2 - 1) 7)
      let u := if sel then 2 * j + 1 else 2 * j
      if st = 1 then eval d free fuel (.oa n i u) else eval d free fuel (.merge n i (st - 1) u)
    | .obPath n i c =>
      let m := d.cellBits n i c 86 3
      if 1 ≤ m ∧ m ≤ 4 ∧ (c + 1) % 2 ^ m = 0 then
        eval d free fuel (.merge n i m ((c + 1) / 2 ^ m - 1))
      else eval d free fuel (.ob n i c)
    | .out n i k =>
      if k = 32 then eval d free fuel (.cout n i 15)
      else if k % 2 = 0 then
        (if d.cellBits n i (k / 2) 84 1 = 1 then d.ffOf n i (k / 2) 0
         else eval d free fuel (.oa n i (k / 2)))
      else
        (if d.cellBits n i (k / 2) 85 1 = 1 then d.ffOf n i (k / 2) 1
         else eval d free fuel (.obPath n i (k / 2)))
    | .wire n i len dir w =>
      let sel := d.clusterBits n i (968 + 4 * (wireBase len + dir * wireCount len + w)) 4
      if sel = 0 then false
      else if sel ≤ 8 then eval d free fuel (.out n i ((w + 4 * (sel - 1)) % 32))
      else if sel = 9 then eval d free fuel (.out n i 32)
      else if sel = 10 then eval d free fuel (.arrive n i len dir w)
      else if sel = 11 then eval d free fuel (.arrive n i len ((dir + 1) % 4) w)
      else if sel = 12 then eval d free fuel (.arrive n i len ((dir + 3) % 4) w)
      else if sel = 13 then
        eval d free fuel (.arrive n i (if len = 1 then 2 else if len = 2 then 1
          else if len = 4 then 2 else 4) dir w)
      else if sel = 14 then
        eval d free fuel (.trunk n (if dir = 1 ∨ dir = 3 then 4 * (i / 64) + w % 4
          else 256 + 4 * (i % 64) + w % 4))
      else
        (if len = 12 then eval d free fuel (.arrive n i 1 dir w)
         else eval d free fuel (.arrive n i 12 dir (w % 8)))
    | .arrive n i len dir w =>
      if w ≥ wireCount len then false
      else if ahead i (opposite dir) < 1 then
        (if len = 1 ∧ w < 8 then
          eval d free fuel (.inbound n (opposite dir) (8 * sidePos dir i + w))
         else false)
      else
        let k := if ahead i dir = 0 ∧ len > 1 then
            1 + Config.shortWire len dir w % min len (ahead i (opposite dir)) else len
        if k ≤ ahead i (opposite dir) then eval d free fuel (.wire n (behind i dir k) len dir w)
        else false
    | .trunk n t =>
      if d.trunkOff.contains (n * 512 + t) then false
      else
        (List.range 64).any (fun a =>
          let i := if t < 256 then (t / 4) * 64 + a else a * 64 + (t - 256) / 4
          let tap := d.clusterBits n i (968 + 976 + 7 * (if t < 256 then t % 4 else 4 + t % 4)) 7
          if tap % 2 = 0 then false
          else if tap / 2 ≤ 32 then eval d free fuel (.out n i (tap / 2)) else false)
    | .inbound n side k =>
      if d.cfg n 3585 (side * 2048 + 1024 + 2 * k) 1 = 1 then
        SMap.get false d.borderIn ((n * 4 + side) * 512 + k)
      else match neighbour n side with
        | none => false
        | some m => eval d free fuel (.outbound m (opposite side) k)
    | .outbound n side k =>
      if !d.hasImage n then false
      else if d.gateClosed n side then d.borderValue n side k
      else eval d free fuel (.wire n (sideCluster side (k / 8)) 1 side (k % 8))

/-- The value of a point, deep enough for every path of the fabric. -/
def value (d : Dev) (node : Node) : Bool := d.eval (Config.loopBit d.fresh) (2 ^ 24) node

/-! ## Elements that an image configures -/

/-- The clusters of region `n` whose records some listed frame of plane `p` holds. -/
def clustersOf (d : Dev) (n p : Nat) : List Nat :=
  (d.frames.filterMap (fun e => if e.1 / 5120 = n * 2 + p then some (e.1 % 5120) else none)).flatMap
    (fun f =>
      if f < 1536 then
        let a := f * 4096 / 1536
        (List.range ((f * 4096 + 4095) / 1536 + 1 - a)).map (a + ·)
      else if f < 3584 then [2 * (f - 1536), 2 * (f - 1536) + 1]
      else [])
    |>.dedup

/-- The keys of region `n`'s flip-flops that an image configures or that hold 1. -/
def ffKeys (d : Dev) (n p : Nat) : List Nat :=
  let cl := (d.clustersOf n p).flatMap
    (fun i => (List.range 32).map (fun k => n * 131072 + i * 32 + k))
  (cl ++ d.ff.filterMap (fun e => if e.1 / 131072 = n then some e.1 else none)).dedup

/-- The INIT bit of the flip-flop of key `k` in plane `p` (R107). -/
def ffInit (d : Dev) (n p k : Nat) : Bool :=
  let i := k % 131072 / 32
  let c := k % 32 / 2
  d.cfgAt n p 0 (i * 1536 + 96 * c + (if k % 2 = 0 then 74 else 83)) 1 = 1

/-- The inbound ports of region `n` whose registers plane `p` may use: those of the sides whose
records a listed frame holds, and those that hold 1. -/
def inboundKeys (d : Dev) (n p : Nat) : List Nat :=
  let cl := if d.frame n p 3585 = 0 ∧ d.frame n p 3586 = 0 then []
    else (List.range 2048).map (fun k => n * 2048 + k)
  (cl ++ d.borderIn.filterMap (fun e => if e.1 / 2048 = n then some e.1 else none)).dedup

/-! ## Flip-flops -/

/-- The D input of a flip-flop (R103). -/
def ffD (d : Dev) (n i c b : Nat) : Bool :=
  if b = 0 then
    (if d.cellBits n i c 66 1 = 1 then d.value (.input n i c 6) else d.value (.oa n i c))
  else
    (if d.cellBits n i c 75 1 = 1 then d.value (.input n i c 7) else d.value (.obPath n i c))

/-- Where a flip-flop's controls start in its cell record: FFA at bit 67, FFB at bit 76. -/
def ffBase (b : Nat) : Nat := if b = 0 then 67 else 76

/-- The set/reset signal `k` (0 or 1) of a cluster is asserted, after its inversion (R110). -/
def srOn (d : Dev) (n i k : Nat) : Bool :=
  (d.value (.src n i (d.clusterBits n i (46 + 7 * k) 7))) ^^ (d.clusterBits n i (60 + k) 1 = 1)

/-- The flip-flop's set/reset signal is asserted; an encoding 0b11 acts as none (R104, R115). -/
def ffSr (d : Dev) (n i c b : Nat) : Bool :=
  match d.cellBits n i c (ffBase b + 4) 2 with
  | 1 => d.srOn n i 0
  | 2 => d.srOn n i 1
  | _ => false

/-- The flip-flop's clock enable is asserted; a reserved encoding means always enabled. -/
def ffCe (d : Dev) (n i c b : Nat) : Bool :=
  let k := d.cellBits n i c (ffBase b + 1) 3
  if k < 4 then
    (d.value (.src n i (d.clusterBits n i (14 + 7 * k) 7))) ^^ (d.clusterBits n i (42 + k) 1 = 1)
  else true

/-- The flip-flop's SRVAL bit. -/
def ffSrval (d : Dev) (n i c b : Nat) : Bool := d.cellBits n i c (ffBase b + 6) 1 = 1

/-- The flip-flop's clock is `net`, and its active edge is the falling one when `falling`. -/
def ffClocked (d : Dev) (n : Region) (i c b : Nat) (net : Net) (falling : Bool) : Bool :=
  let k := d.cellBits n i c (ffBase b) 1
  netOf n (d.clusterBits n i (6 * k) 6) == net
    && (d.clusterBits n i (12 + k) 1 == 1) == falling

/-- The flip-flop has an asynchronous set/reset: its cluster's SRMODE is asynchronous, and it selects one of the
cluster's two signals (R104, R106). -/
def ffAsync (d : Dev) (n i c b : Nat) : Bool :=
  let k := d.cellBits n i c (ffBase b + 4) 2
  d.clusterBits n i 62 1 == 1 && (k == 1 || k == 2)

/-- The value of a flip-flop after an edge of `net` (R105 rows 1 and 3 to 6). Where an asynchronous set/reset
was released inside the recovery window, it takes SRVAL or D, and the spec does not say which
(R106): `pick` decides. -/
def ffNext (d : Dev) (n : Region) (i c b : Nat) (net : Net) (falling : Bool) (pick : Option Bool) :
    Bool :=
  let old := d.ffOf n.val i c b
  if d.holdOn n.val then old
  else
    let async := d.clusterBits n.val i 62 1 == 1
    let sr := d.ffSr n.val i c b
    if async && sr then d.ffSrval n.val i c b
    else if !d.ffClocked n i c b net falling then old
    else match if d.ffAsync n.val i c b then pick else none with
      | some true => d.ffSrval n.val i c b
      | some false => d.ffD n.val i c b
      | none =>
        if sr then d.ffSrval n.val i c b
        else if d.ffCe n.val i c b then d.ffD n.val i c b
        else old

/-- Every flip-flop of region `n` takes its INIT value of plane `p` (R107), but those `keep` keeps. -/
def ffReset (d : Dev) (n p : Nat) (keep : Nat → Bool) : Dev :=
  let ff := (d.ffKeys n p).foldl
    (fun m k => if keep k then m else SMap.put false m k (d.ffInit n p k)) d.ff
  { d with ff := ff }

/-- Every inbound register of region `n` takes its BINIT of plane `p` (R129), but those `keep`
keeps. -/
def inboundReset (d : Dev) (n p : Nat) (keep : Nat → Bool) : Dev :=
  let bin := (d.inboundKeys n p).foldl
    (fun m k =>
      if keep k then m
      else SMap.put false m k
        (d.cfgAt n p 3585 (k % 2048 / 512 * 2048 + 1024 + 2 * (k % 512) + 1) 1 = 1))
    d.borderIn
  { d with borderIn := bin }

/-! ## Border gates and I/O cells -/

/-- The value the outbound port carries now (R130). -/
def borderOut (d : Dev) (n side k : Nat) : Bool := d.value (.outbound n side k)

/-- The HOLD values of the sides in `sides` are captured (R131): the value that each port carried in `was`, the
device before the capturing edge. A port whose gate is open carries 0 where plane `p` configures nothing of its
cluster (R122). -/
def captureBorder (was : Dev) (n p sides : Nat) (d : Dev) : Dev :=
  let cl := was.clustersOf n p
  let keys := (List.range 4).flatMap (fun s =>
    if sides.testBit s then
      (List.range 512).filterMap (fun k =>
        if was.gateClosed n s ∨ cl.contains (sideCluster s (k / 8)) then some ((n * 4 + s) * 512 + k, s, k)
        else none)
    else [])
  let base := SMap.only (fun k => !(k / 2048 == n && sides.testBit (k % 2048 / 512))) d.borderHold
  let held := keys.foldl (fun m e => SMap.put false m e.1 (was.borderOut n e.2.1 e.2.2)) base
  { d with borderHold := held }

/-- The I/O cell's state. -/
def ioSt (d : Dev) (n c : Nat) : IoSt := SMap.get {} d.io (n * 64 + c)

/-- The device with an I/O cell's state replaced. -/
def setIo (d : Dev) (n c : Nat) (x : IoSt) : Dev :=
  { d with io := SMap.put {} d.io (n * 64 + c) x }

/-- A field of the I/O cell's record in the active plane (R135). -/
def ioBits (d : Dev) (n c b w : Nat) : Nat := d.cfg n 3588 (2048 + 32 * c + b) w

/-- The cells a region owns (R134). -/
def ioCells (n : Nat) : Nat :=
  if n = 64 ∨ n = 79 then 48 else if isEdge n then 24 else 0

/-- The general bank of edge region `n` (R134). -/
def ioBank (n : Nat) : Nat :=
  match cellPin n 0 with
  | some (.gio b _) => b
  | _ => 0

/-- The bank's supply lets a cell drive LVDS: 1.8 or 2.5 V (R500). -/
def lvdsBank (d : Dev) (n : Nat) : Bool :=
  let v := SMap.get 1800 d.vccio (ioBank n)
  v == 1800 || v == 2500

/-- The mode a cell honours (R135): LVDS modes only on an even general cell, and LVDS outputs only in a bank at 1.8
or 2.5 V (R500); 0b111 is unused; the odd partner of an LVDS cell is ignored. -/
def ioMode (d : Dev) (n c : Nat) : Nat :=
  let m := d.ioBits n c 0 3
  let partner := if c % 2 = 1 ∧ c < 24 then d.ioBits n (c - 1) 0 3 else 0
  if c ≥ ioCells n ∨ m = 7 then 0
  else if partner = 5 ∨ partner = 6 then 0
  else if (m = 5 ∨ m = 6) ∧ (c % 2 = 1 ∨ c ≥ 24) then 0
  else if m = 6 ∧ !d.lvdsBank n then 0
  else m

/-- Bits per word of the cell's serializer; 0 in bypass. Heritage cells ignore SERDES (R135). -/
def ioWidth (d : Dev) (n c : Nat) : Nat :=
  if c ≥ 24 then 0
  else match d.ioBits n c 3 2 with
    | 1 => 8
    | 2 => 10
    | _ => 0

/-- The level and enable a cell gives its pin while the image runs (R136, R137): the word in
transmission, or D_OUT[0] in bypass; the record's MODE gates the driver. -/
def ioRun (d : Dev) (n c : Nat) : Nat × Bool :=
  let s := d.ioSt n c
  match d.ioMode n c with
  | 2 => (s.txNow, true)
  | 3 => (s.txNow, s.oe)
  | 4 => (0, s.txNow % 2 = 0)
  | 6 => (s.txNow, true)
  | _ => (0, false)

/-- The level and enable a cell's own driver gives now (R138, R139). -/
def ioOwn (d : Dev) (n c : Nat) : Nat × Bool :=
  if !d.hasImage n then (0, false)
  else if d.runs n then d.ioRun n c
  else
    match d.ioMode n c with
    | 0 => (0, false)
    | 1 => (0, false)
    | 5 => (0, false)
    | m =>
      match d.ioBits n c 17 2 with
      | 0 => ((d.ioSt n c).held, (d.ioSt n c).heldOe)
      | 1 => (0, false)
      | 2 => (0, true)
      | _ => (1, m != 4)

/-- The level and enable at a cell's own driver this moment: of a running serializer one bit of the word it
sends, and the spec does not say which (R137, log 3). -/
def ioNow (d : Dev) (n c : Nat) : Nat × Bool :=
  let r := d.ioOwn n c
  let w := if d.runs n then d.ioWidth n c else 0
  if w = 0 then r else (r.1 / 2 ^ (Config.freeNat (d.fresh + c) % w) % 2, r.2)

/-- Cell `c` is the N pin of an LVDS output, whose record is that of the cell before it (R135). -/
def lvdsPartner (d : Dev) (n c : Nat) : Bool := c % 2 == 1 && d.ioMode n (c - 1) == 6

/-- The level and enable a cell gives its pin now: its own driver's, or at the N pin of an LVDS output the
inverse of the P pin's (R135, R138). -/
def ioDrive (d : Dev) (n c : Nat) : Nat × Bool :=
  if d.lvdsPartner n c then
    let r := d.ioNow n (c - 1)
    ((r.1 + 1) % 2, r.2)
  else d.ioNow n c

/-- The test access port holds the pins: its instruction is EXTEST, HIGHZ or CLAMP (R450). -/
def tapOwns (d : Dev) : Bool := d.tap.ir == 0 || d.tap.ir == 3 || d.tap.ir == 4

/-- The level and enable at a cell's pin: its own, or under EXTEST and CLAMP the boundary register's;
under HIGHZ every output is high-impedance (R449, R450). -/
def pinDrive (d : Dev) (n c : Nat) : Nat × Bool :=
  if d.tap.ir = 3 then (0, false)
  else if d.tapOwns then
    let v := SMap.get 0 d.tap.boundary (n * 64 + c)
    (v % 2, v / 2 % 2 = 1)
  else d.ioDrive n c

/-- The device pulls INITN (`k` = 5) or DONE (`k` = 6) low: its own output `own`, or under EXTEST and CLAMP the
boundary register's, whose cells of the pins CFGSRC, CFGPULL, RSTN, INITN and DONE are 8,192 to 8,198 here; under HIGHZ
it does not (R449, R450, R484). -/
def drivesLow (d : Dev) (k : Nat) (own : Bool) : Bool :=
  if d.tap.ir = 3 then false
  else if d.tapOwns then SMap.get 0 d.tap.boundary (8192 + k) == 2
  else own

/-- The pull at the pin of a cell: PULL of the image's record, in a hold that of the incoming image (R135,
R138); without an image a general cell has a weak pull-up when the CFGPULL strap is high, and a heritage cell none
(R139). -/
def pinPull (d : Dev) (n c : Nat) : Nat :=
  if d.hasImage n then d.ioBits n c 8 2
  else if c < 24 ∧ d.on Reg.START_STS_CFGPULL then 1
  else 0

/-- The level at the pin of a cell (R141): what the device drives, or what the board drives, or where neither
drives what the pull gives: up, down, or the level last seen (R135). The level of an undriven pin without a pull
is free (log 3). -/
def pinLevel (d : Dev) (n c : Nat) : Bool :=
  let r := d.pinDrive n c
  if r.2 then r.1 % 2 = 1
  else match SMap.get none d.pins (n * 64 + c) with
    | some b => b
    | none =>
      match d.pinPull n c with
      | 1 => true
      | 2 => false
      | 3 => (d.ioSt n c).level
      | _ => Config.freeBit (d.fresh + n * 64 + c)

/-- The levels and enables at the pins of region `n` are captured for HOLD; a serializer holds the bit it
was sending (R138, R139). -/
def captureIo (d : Dev) (n : Nat) : Dev :=
  (List.range (ioCells n)).foldl (fun a c =>
    let r := d.ioDrive n c
    a.setIo n c { d.ioSt n c with held := r.1 % 2, heldOe := r.2 }) { d with fresh := d.fresh + 48 }

/-- The registers that show a region's condition follow it: GATED, SWAP_DRIVE and UNCONFIGURED
(R141). -/
def showRegion (d : Dev) (n : Nat) : Dev :=
  let d1 := d.set (Reg.BORDER_STS_GATED n) (if d.runs n then (d.rgnSt n).force else 15)
  if isEdge n then
    (d1.setBit (Reg.IO_STS_SWAP_DRIVE n) (d.hasImage n && !d.runs n)).setBit
      (Reg.IO_STS_UNCONFIGURED n) (!d.hasImage n)
  else d1

/-! ## Region clock and hold -/

/-- The region clock's network number in plane `p` (R213). -/
def rclk (d : Dev) (n p : Nat) : Nat := d.cfgAt n p 3584 0 6

/-- One I/O cell at an edge of its word clock (R137): the serializer sends a word 2 cycles after it
was sampled, the deserializer shows a word 3 cycles after the cycle in which its last bit arrived; a pending SLIP
comes one cycle nearer. At word boundary 0 a word arrives in one cycle, at boundary b its first bits in the cycle
before; a boundary that moves from 0 to 1 completes no word in its cycle, and the word before it is shown
again. OE acts at the edge that samples it, though the word sampled with it waits 2 cycles (DESIGN CHOICE,
log 132). -/
def ioStep (w : Nat) (x : IoSample) (s : IoSt) : IoSt :=
  let m := 2 ^ w
  let word := if s.boundary = 0 then x.rx % m
    else (s.rxLast % m / 2 ^ s.boundary + x.rx * 2 ^ (w - s.boundary)) % m
  let q := s.rxWords ++ [if s.skip then s.rxWords.getLast?.getD s.din else word]
  let t := s.txWords ++ [x.dout % m]
  let move := s.slipIn == 1
  { s with
    txWords := t.drop (t.length - 2), txNow := if t.length > 2 then t.headD 0 else s.txNow
    oe := x.oe, rxLast := x.rx
    rxWords := q.drop (q.length - 3), din := if q.length > 3 then q.headD 0 else s.din
    boundary := if move then (s.boundary + 1) % w else s.boundary
    skip := move && s.boundary == 0
    slipIn := s.slipIn - 1 }

/-- The inbound register of key `k` after an edge of `net` (R129): a flip-flop of its region that
follows R105. -/
def inboundNext (d : Dev) (n : Region) (k : Nat) (net : Net) (falling : Bool) : Bool :=
  let side := k % 2048 / 512
  let p := k % 512
  let old := SMap.get false d.borderIn k
  let on := netOf n (d.cfg n.val 3587 (8 * side) 6) == net
    && (d.cfg n.val 3587 (8 * side + 6) 1 == 1) == falling
  if d.holdOn n.val || !on then old
  else match neighbour n.val side with
    | none => false
    | some m => d.borderOut m (opposite side) p

/-- A closing or opening FORCE takes effect at a region-clock edge (R133): ports of a side that
closes capture the value they carried in `was`, before the edge (R131). -/
def forceEdge (was d : Dev) (n : Nat) : Dev :=
  let st := d.rgnSt n
  let want := d.ctl (Reg.BORDER_CTL_FORCE n)
  let closing := (List.range 4).foldl
    (fun a s => if want.testBit s && !st.force.testBit s then a + 2 ^ s else a) 0
  let d1 := if d.runs n ∧ closing ≠ 0 then captureBorder was n (d.activePlane n) closing d else d
  (d1.setRgn n { st with force := want, forceDue := false }).showRegion n

/-- What the region clock's edge does in a region beside its flip-flops: a waiting FORCE takes
effect, and a hold counts one cycle (R133, R223). `was`: the device before the edge. -/
def regionEdge (was : Dev) (net : Net) (d : Dev) (n : Region) : Dev :=
  if netOf n (d.rclk n.val (d.activePlane n.val)) = net then
    let d1 := if (d.rgnSt n.val).forceDue then was.forceEdge d n.val else d
    if d1.rstate n.val = rsHeld then
      d1.set (Reg.RGN_STS_HOLD_LEFT n.val) (d1.get (Reg.RGN_STS_HOLD_LEFT n.val) - 1)
    else d1
  else d

/-- The fabric clock gate of a region is open (R485). -/
def gateOpen (d : Dev) (n : Nat) : Bool := (d.rgnSt n).gateOpen

/-- An asserted asynchronous set/reset signal of a cluster loads SRVAL into its flip-flops at once,
unless the region's hold is asserted (R105 rows 1 and 3). -/
def asyncSetReset (n : Region) (i k : Nat) (d : Dev) : Dev :=
  if d.holdOn n.val ∨ 2 ≤ d.domState (regionDom n.val) ∨ d.clusterBits n.val i 62 1 = 0 ∨ !d.srOn n.val i k then d
  else
    { d with ff := (List.range 32).foldl (fun m e =>
        let c := e / 2
        let b := e % 2
        if d.cellBits n.val i c (ffBase b + 4) 2 = k + 1 then
          SMap.put false m (n.val * 131072 + i * 32 + e) (d.ffSrval n.val i c b)
        else m) d.ff }

/-! ## REINIT (R118) -/

/-- Acceptance of REINIT: only while the region is ACTIVE and not held; otherwise BUSY. A REINIT
that still waits makes the next one BUSY (R87). -/
def reinitEff (n : Region) (d : Dev) : Dev × Code :=
  if d.rstate n.val ≠ rsActive ∨ d.holdOn n.val ∨ d.on (Reg.FF_CTL_REINIT n.val) then (d, .busy)
  else
    (((d.raise (Reg.FF_CTL_REINIT n.val)).raise (Reg.FF_STS_REINIT_BUSY n.val)).cmdStart
      (0x3C00 + n.val) 1, .ok)

/-- The REINIT ends: REINIT and REINIT_BUSY clear and the run completes with `c`. -/
def reinitEnd (n : Nat) (c : Code) (d : Dev) : Dev :=
  ((d.clear (Reg.FF_CTL_REINIT n)).clear (Reg.FF_STS_REINIT_BUSY n)).cmdDone (0x3C00 + n) 1 c

/-- The pulse, at the next active edge of the region clock: every flip-flop of the region takes its INIT value,
REINIT_DONE is set and REINIT clears. A hold wins over the pulse, and the flip-flops stay as they are (R105).
Inbound registers are border ports and keep their values (R118, log 106). -/
def reinitPulseFf (n : Region) (d : Dev) : Dev :=
  if d.on (Reg.FF_STS_REINIT_BUSY n.val) then
    let d1 := if d.holdOn n.val then d else d.ffReset n.val (d.activePlane n.val) (fun _ => false)
    (reinitEnd n.val .ok d1).raise (Reg.FF_EVT_REINIT_DONE n.val)
  else d

/-! ## Trunk contention (R127) -/

/-- The enabled taps of a trunk in the active plane. -/
def tapsOf (d : Dev) (n t : Nat) : Nat :=
  (List.range 64).countP (fun a =>
    let i := if t < 256 then (t / 4) * 64 + a else a * 64 + (t - 256) / 4
    d.clusterBits n i (968 + 976 + 7 * (if t < 256 then t % 4 else 4 + t % 4)) 1 == 1)

/-- Two or more enabled taps on a trunk: the detector disables every tap of it. -/
def trunkContention (n : Region) (t : Fin 512) (d : Dev) : Dev :=
  let k := n.val * 512 + t.val
  if d.trunkOff.contains k ∨ d.tapsOf n.val t.val < 2 then d
  else
    let d1 := { d with trunkOff := k :: d.trunkOff }
    (((d1.raise (Reg.ROUTE_EVT_TRUNK_CONTEND n.val)).set (Reg.ROUTE_STS_LAST_TRUNK n.val) t.val).set
      (Reg.ROUTE_STS_DISABLED n.val)
      (d1.trunkOff.countP (fun x => x / 512 == n.val))).count (Reg.ROUTE_CNT_CONTEND_CNT n.val)

/-- The trunk resumes once scrubbing has rewritten the faulty frame, or another plane has become active, and at
most one tap is enabled (R127, log 107). -/
def trunkRestore (n : Region) (t : Fin 512) (d : Dev) : Dev :=
  let k := n.val * 512 + t.val
  if !d.trunkOff.contains k ∨ !d.trunkFixed.contains k ∨ d.tapsOf n.val t.val ≥ 2 then d
  else
    let d1 := { d with trunkOff := d.trunkOff.erase k, trunkFixed := d.trunkFixed.erase k }
    (d1.raise (Reg.ROUTE_EVT_TRUNK_CLEAR n.val)).set (Reg.ROUTE_STS_DISABLED n.val)
      (d1.trunkOff.countP (fun x => x / 512 == n.val))

/-- Frame `f` holds a tap of trunk `t` (R212). -/
def tapIn (t f : Nat) : Bool :=
  if t < 256 then decide (1536 + t / 4 * 32 ≤ f ∧ f < 1536 + t / 4 * 32 + 32)
  else decide (1536 ≤ f ∧ f < 3584 ∧ (f - 1536) % 32 = (t - 256) / 8)

/-- Disabled trunks of region `n` that `hit` names may resume. -/
def trunkFix (n : Nat) (hit : Nat → Bool) (d : Dev) : Dev :=
  { d with trunkFixed :=
      d.trunkOff.filter (fun k => d.trunkFixed.contains k || (k / 512 == n && hit (k % 512))) }

/-! ## I/O SLIP (R137) -/

/-- A SLIP pulse is sampled: the word boundary moves one bit later 2 word-clock cycles on. A pulse
sampled in the cycle after an accepted one is ignored. -/
def ioSlip (n : Region) (c : Fin 48) (d : Dev) : Dev :=
  let s := d.ioSt n.val c.val
  if c.val ≥ ioCells n.val ∨ d.ioWidth n.val c.val = 0 ∨ d.holdOn n.val ∨ !d.clocked n.val ∨ s.slipIn ≥ 1 then d
  else d.setIo n.val c.val { s with slipIn := 2 }

end Dev

end Sys2Proof.Machine
end

