-- ==== Sys2Proof/Machine/Integrity.lean ====
section
/-! DEFINITION. Memory integrity: the memory units with their remap (R294), reads through the
checker (R286, R287), scrubbing (R289 to R292), the verify read and remapping (R295), failed units
and channel retirement (R296, R297), the march test (R298 to R301), checker test mode (R302), the
log (R304) and the region integrity attachment (R293). -/

namespace Sys2Proof.Machine

/-! ## Units -/

namespace MemUnit

/-- The kind number of R304. -/
def kind : MemUnit → Nat
  | .bm _ => 0 | .dram _ => 1 | .hs _ => 2

/-- The unit number of R304. -/
def num : MemUnit → Nat
  | .bm b => b | .dram k => k | .hs u => u

/-- The unit of a kind and number. -/
def ofNums (kind num : Nat) : MemUnit :=
  if kind = 0 then .bm num else if kind = 1 then .dram num else .hs num

/-- Bytes of a granule of remap (R294). -/
def granule : MemUnit → Nat
  | .bm _ => 4 | .dram _ => 64 | .hs _ => 8

/-- Remap entries (R294). -/
def entries : MemUnit → Nat
  | .bm _ => 4 | .dram _ => 16 | .hs _ => 8

/-- Bytes of the unit: a block memory (R143), a channel (R337), the MP SRAM, the context cache
(R366), a route book of two copies of 512 entries of 16 bytes (R312, R313). -/
def bytes : MemUnit → Nat
  | .bm _ => 8192
  | .dram _ => 0x40000000
  | .hs u => if u = 0 then 0x80000 else if u = 1 then 0x100000 else 0x4000

/-- A number for the unit among all units. -/
def key (m : MemUnit) : Nat := m.kind * 8192 + m.num

/-- The field that holds the address of remap entry `e`. -/
def entryAddr (m : MemUnit) (e : Nat) : Fld :=
  match m with
  | .bm b => Reg.BM_REMAP_WADDR (b / 64) (b % 64 * 4 + e)
  | .dram k => Reg.DRAM_REMAP_LINE k e
  | .hs u => Reg.HS_REMAP_GRANULE u e

/-- The field that says remap entry `e` is in use. -/
def entryValid (m : MemUnit) (e : Nat) : Fld :=
  match m with
  | .bm b => Reg.BM_REMAP_VALID (b / 64) (b % 64 * 4 + e)
  | .dram k => Reg.DRAM_REMAP_VALID k e
  | .hs u => Reg.HS_REMAP_VALID u e

end MemUnit

/-- The key of a stored byte: byte `i` of a unit, its spares following its last byte. -/
def cellKey (m : MemUnit) (i : Nat) : Nat := m.key * 2 ^ 31 + i

/-- Byte 15 of a route-book entry that the hardware loads with a default route (R487): the books
of NIs 160 to 169, half 0, to every assigned NI. -/
def isDefaultRoute (u i : Nat) : Bool :=
  162 ≤ u && u ≤ 171 && i / 16 % 512 < 170 && i < 0x4000

/-- The waystation of an assigned NI (R308). -/
def niWs (i : Nat) : Nat :=
  if i < 128 then i + 32
  else if i < 144 then i - 128
  else if i < 160 then 176 + (i - 144)
  else match i with
    | 160 => 22 | 161 => 25 | 162 => 166 | 163 => 169
    | 164 => 23 | 165 => 24 | 166 => 167 | 167 => 168
    | 168 => 21 | _ => 26

/-- The default route of R487 from NI `a` to NI `b`: west first, then north or south, then east,
then L. -/
def defaultRoute (a b : Nat) : Nat :=
  let ax := niWs a % 16
  let ay := niWs a / 16
  let bx := niWs b % 16
  let byy := niWs b / 16
  let hops := List.replicate (ax - bx) 3 ++ List.replicate (byy - ay) 0
    ++ List.replicate (ay - byy) 2 ++ List.replicate (bx - ax) 1 ++ [4]
  hops.foldr (fun h acc => h + 8 * acc) 0

/-- A default route-book entry (R312, R487): VALID, the default route, and the class management for
NIs 164 to 168 and best-effort for the others. -/
def defaultEntry (a b : Nat) : Nat :=
  defaultRoute a b + (if 164 ≤ a ∧ a ≤ 168 then 2 * 2 ^ 104 else 0) + 2 ^ 127

/-- What a stored byte that nothing has written holds: a default route where the hardware loads
one (R487), and the zero codeword everywhere else (log 20). -/
def cellDflt (key : Nat) : BitVec 13 :=
  let m := key / 2 ^ 31
  let i := key % 2 ^ 31
  if m / 8192 = 2 ∧ isDefaultRoute (m % 8192) i then
    encodeByte (BitVec.ofNat 8 (defaultEntry (m % 8192 - 2) (i / 16 % 512) / 2 ^ (8 * (i % 16))))
  else 0

namespace Dev

/-- The remap entry that redirects granule `g` of a unit, if any (R294). -/
def remapEntry (d : Dev) (m : MemUnit) (g : Nat) : Option Nat :=
  (List.range m.entries).find? (fun e => d.on (m.entryValid e) && d.get (m.entryAddr e) == g)

/-- Where byte `a` of a unit is stored, through remap (R294). -/
def place (d : Dev) (m : MemUnit) (a : Nat) : Nat :=
  match d.remapEntry m (a / m.granule) with
  | some e => m.bytes + e * m.granule + a % m.granule
  | none => a

/-- The raw codeword of byte `a` of a unit. -/
def cell (d : Dev) (m : MemUnit) (a : Nat) : BitVec 13 :=
  let k := cellKey m (d.place m a)
  SMap.get (cellDflt k) d.cells k

/-- The device with a raw codeword stored at byte `a` of a unit. -/
def setCell (d : Dev) (m : MemUnit) (a : Nat) (c : BitVec 13) : Dev :=
  let k := cellKey m (d.place m a)
  { d with cells := SMap.put (cellDflt k) d.cells k c }

/-- A write stores a byte as a complete codeword, or as the poison pattern (R284, R288). A
write-back of that byte, at its address or at the spare that serves it, that is still pending is cancelled
(R303). -/
def storeByte (d : Dev) (m : MemUnit) (a : Nat) (b : Byte) (poison : Bool := false) : Dev :=
  let d1 := d.setCell m a (if poison then poisonWord else encodeByte b)
  { d1 with verify := d1.verify.map (fun v =>
      if v.unit = m then
        { v with wrote := v.wrote.filter (fun w => d.place m (v.addr + w.1) != d.place m a) } else v) }

/-- Bytes stored from byte `a` upward. -/
def storeBytes (d : Dev) (m : MemUnit) (a : Nat) (bs : List Byte) : Dev :=
  (bs.zipIdx).foldl (fun d e => d.storeByte m (a + e.2) e.1) d

/-! ## The log and notifications (R304, R63) -/

/-- A log entry; a full log discards it, with LOG_LOST set and counted (R303). -/
def logEvent (d : Dev) (m : MemUnit) (addr event : Nat) (requested : Bool) : Dev :=
  if d.log.length ≥ 16 then
    (d.raise Reg.INT_EVT_LOG_LOST).count Reg.LOG_LOST_CNT
  else
    let hi := m.num % 8192 + m.kind * 2 ^ 13 + event * 2 ^ 16 + (if requested then 2 ^ 20 else 0)
    let d1 := { d with log := d.log ++ [(addr, hi)] }
    d1.set Reg.LOG_COUNT_COUNT d1.log.length

/-- The integrity notification: the alias of INT_EVT (R305, R307). -/
def notifyInt (d : Dev) : Dev := d.notify 0x4200 4 Reg.INT_EVT

/-- The state of a region's integrity attachment. -/
def attachSt (d : Dev) (n : Nat) : AttachSt := SMap.get {} d.attach n

/-- An armed event enters the queue of a region's attachment, or is dropped when it is full
(R293). -/
def attachPush (d : Dev) (n : Nat) (e : Nat × Nat) : Dev :=
  let s := d.attachSt n
  let s' := if s.queue.length < 4 then { s with queue := s.queue ++ [e] }
    else { s with lost := s.lost + 1 }
  { d with attach := SMap.put {} d.attach n s' }

/-- An event that arms attachments (POISONED, POISON_READ, REMAPPED, UNIT_FAILED) reaches those
that armed it: the block's own region with ARM_BM, every region with ARM_DRAM (R293). -/
def attachEvent (d : Dev) (m : MemUnit) (addr event : Nat) (requested : Bool) : Dev :=
  let hi := m.num % 8192 + m.kind * 2 ^ 13 + event * 2 ^ 16 + (if requested then 2 ^ 20 else 0)
  match m with
  | .bm b => if d.on (Reg.RI_STS_ARMED_BM (b / 64)) then d.attachPush (b / 64) (addr, hi) else d
  | .dram _ =>
    (List.range 128).foldl
      (fun a n => if a.on (Reg.RI_STS_ARMED_DRAM n) then a.attachPush n (addr, hi) else a) d
  | .hs _ => d

/-- An event is logged, and presented to the attachments that armed it. -/
def intEvent (d : Dev) (m : MemUnit) (addr event : Nat) (requested : Bool) : Dev :=
  (d.logEvent m addr event requested).attachEvent m addr event requested

/-! ## Reading through the checker -/

/-- A write-back of the granule at byte address `g` is made, or, in a block memory, waits for an idle port cycle
(R158); its verify read follows (R295). One that waits for the granule already takes it along. -/
def writeBackTo (d : Dev) (m : MemUnit) (g : Nat) (wrote : List (Nat × BitVec 13)) : Dev :=
  if wrote = [] then d
  else match m with
    | .bm _ =>
      if d.verify.any (fun v => v.due && v.unit == m && v.addr == g) then
        { d with verify := d.verify.map (fun v =>
            if v.due ∧ v.unit = m ∧ v.addr = g then { v with wrote := v.wrote ++ wrote } else v) }
      else { d with verify := d.verify ++ [⟨m, g, wrote, true⟩] }
    | _ =>
      let d1 := wrote.foldl (fun d e => d.setCell m (g + e.1) e.2) d
      { d1 with verify := d1.verify ++ [⟨m, g, wrote, false⟩] }

/-- An uncorrectable byte that no initiator has asked for is counted, logged and notified (R291). -/
def poisonFound (d : Dev) (m : MemUnit) (a : Nat) : Dev :=
  let d1 := ((d.count Reg.MEM_POISONED_CNT).raise Reg.INT_EVT_POISONED).intEvent m a 1 false
  (match m with | .bm b => d1.raise (Reg.RI_EVT_POISONED (b / 64)) | _ => d1).notifyInt

/-- The checker's work on the bytes `ks` of the granule at byte address `g`: single errors are corrected and
written back, counting one write-back; uncorrectable bytes are rewritten with the poison pattern, counted and
logged (R286, R291). What a write-back that waits holds already is not found again (R303). -/
def checkBytes (d : Dev) (m : MemUnit) (g : Nat) (ks : List Nat) (requested : Bool) : Dev :=
  let waits := d.verify.filter (fun v => v.due && v.unit == m && v.addr == g)
  let look := (ks.filter (fun k => !waits.any (fun v => v.wrote.any (fun w => w.1 == k)))).map
    (fun k => (k, decodeByte (d.cell m (g + k))))
  let fixes := look.filterMap (fun e => match e.2 with
    | .fixed b => some (e.1, encodeByte b) | _ => none)
  let bads := look.filterMap (fun e => match e.2 with | .bad => some e.1 | _ => none)
  let d1 := if fixes = [] ∨ waits ≠ [] then d else (d.raise Reg.INT_EVT_CORRECTED).count Reg.MEM_CORRECTED_CNT
  let d2 := bads.foldl (fun d k =>
    if requested then ((d.count Reg.MEM_POISONED_CNT).raise Reg.INT_EVT_POISON_READ).intEvent m (g + k) 2 true
    else d.poisonFound m (g + k)) d1
  let d3 := if requested ∧ bads ≠ [] then
    (match m with | .bm b => d2.raise (Reg.RI_EVT_POISONED (b / 64)) | _ => d2) else d2
  d3.writeBackTo m g (fixes ++ bads.map (fun k => (k, poisonWord)))

/-- The checker's work on the bytes `i` to `i + n - 1` of a granule. -/
def checkGranule (d : Dev) (m : MemUnit) (g i n : Nat) (requested : Bool) : Dev :=
  d.checkBytes m g ((List.range n).map (i + ·)) requested

/-- A requested read of `n` bytes from byte `a` (R286, R287): each byte with whether it is
poisoned, and the device after the checker's work. -/
def readBytes (d : Dev) (m : MemUnit) (a n : Nat) : List (Byte × Bool) × Dev :=
  let out := (List.range n).map (fun k => (decodeByte (d.cell m (a + k))).value)
  let gr := m.granule
  let d' := (List.range ((a % gr + n + gr - 1) / gr)).foldl (fun d k =>
    let g := a / gr * gr + k * gr
    let i := if k = 0 then a % gr else 0
    let e := min gr (a + n - g)
    d.checkGranule m g i (e - i) true) d
  (out, d')

/-- A little-endian value and whether any byte of it is poisoned. -/
def readLe (d : Dev) (m : MemUnit) (a n : Nat) : Nat × Bool × Dev :=
  let r := d.readBytes m a n
  (ofLe (r.1.map (·.1)), r.1.any (·.2), r.2)

/-! ## The DRAM map (R340 to R342) -/

/-- The stripe mode is in force. -/
def stripeMode (d : Dev) : Bool := d.on Reg.DR_MAP_MODE_ACTIVE

/-- Where a DRAM system address lies (R340, R341): the channel and the offset in it; none in the
stripe gap. -/
def dramPlace (d : Dev) (a : Nat) : Option (Nat × Nat) :=
  if !d.stripeMode then some (a / 0x40000000, a % 0x40000000)
  else
    let n := d.stripe.length
    let fold := if a < n * 0x40000000 - 0x38000000 then some a
      else if 0x7C8000000 ≤ a then some (a - (32 - n) * 0x40000000) else none
    fold.bind (fun f =>
      if n = 0 then none
      else
        let p := f / 4096
        some (d.stripe.getD (p % n) 0, p / n * 4096 + f % 4096))

/-- Channel `k` is retired. -/
def chRetired (d : Dev) (k : Nat) : Bool := d.bit Reg.CH_RETIRED_MASK k

/-- A store range held in DRAM has a line in channel `k` (R340, R341). -/
def storeInChannel (d : Dev) (k : Nat) : Bool :=
  if d.stripeMode then d.stripe.contains k else k == 31

/-- The state of a channel. -/
def chSt (d : Dev) (k : Nat) : ChSt := SMap.get {} d.ch k

/-- The device with a channel's state replaced. -/
def setCh (d : Dev) (k : Nat) (x : ChSt) : Dev := { d with ch := SMap.put {} d.ch k x }

/-- The state of a network interface. -/
def niSt (d : Dev) (i : Nat) : NiSt := SMap.get {} d.ni i

/-- The device with a network interface's state replaced. -/
def setNi (d : Dev) (i : Nat) (x : NiSt) : Dev := { d with ni := SMap.put {} d.ni i x }

end Dev

/-! ## Packets in the buffers of the network (R309, R317, R318) -/

/-- Flits of a packet (R309): RD and ATOM carry no data flit. -/
def Pkt.flits (p : Pkt) : Nat := 1 + (p.data.length + 63) / 64

/-- Flits that the packets in flight hold in one input buffer. -/
def flitsAt (fs : List Flight) (w inp vc : Nat) : Nat :=
  (fs.map (fun f => ((f.body.filter (fun q => q.ws == w && q.inp == inp && q.vc == vc)).map
    (·.flits)).sum)).sum

/-- Flits of room in an input buffer: 16 for each of MG, RSP and BE (R318). A guaranteed packet crosses in the
slots that are its own. -/
def roomOf (fs : List Flight) (w inp vc : Nat) : Nat :=
  if vc = 0 then 256 else 16 - flitsAt fs w inp vc

/-- The packet has a flit yet to enter that buffer. -/
def Flight.entering (f : Flight) (w inp vc : Nat) : Bool :=
  match f.body.findIdx? (fun q => q.ws == w && q.inp == inp && q.vc == vc) with
  | some k => decide (((f.body.take (k + 1)).map (·.flits)).sum < f.pkt.flits)
  | none => false

/-- The packet's flits follow its header as far as the room that the other packets leave them lets them, and
it gives up the buffers that its last flit has left. -/
def Flight.pull (others : List Flight) (f : Flight) : Flight :=
  let r := f.body.foldl (fun (a : Nat × List Place) q =>
    let k := min a.1 (roomOf others q.ws q.inp q.vc)
    (a.1 - k, if a.1 = 0 then a.2 else a.2 ++ [{ q with flits := k }])) (f.pkt.flits, [])
  { f with body := r.2 }

/-- Every packet's flits follow its header. -/
def compact (fs : List Flight) : List Flight :=
  (List.range fs.length).foldl (fun a k =>
    match a[k]? with
    | some f => a.set k (f.pull (a.eraseIdx k))
    | none => a) fs

/-- The header flit as 64 bytes (R309). -/
def Pkt.headerBytes (p : Pkt) : List Byte :=
  leBytes 64 (p.route + p.cmd * 2 ^ 96 + p.src * 2 ^ 100 + p.tag * 2 ^ 108 + p.addr * 2 ^ 120
    + p.len * 2 ^ 168 + p.cls * 2 ^ 176 + bit01 p.epoch * 2 ^ 178 + p.dport * 2 ^ 179
    + bit01 p.page * 2 ^ 182 + bit01 p.noside * 2 ^ 183 + bit01 p.poison * 2 ^ 184
    + p.code.num * 2 ^ 185 + p.atop * 2 ^ 189 + bit01 p.asize * 2 ^ 191 + p.dst * 2 ^ 192
    + p.hops * 2 ^ 200 + bit01 p.alt * 2 ^ 206 + p.beFirst * 2 ^ 208 + p.beLast * 2 ^ 272
    + p.operand * 2 ^ 336 + p.compare * 2 ^ 400 + p.user * 2 ^ 464)

/-- Bytes that leave a transit buffer, whose stored codewords the error patterns of `flips` have changed, each
at its byte (R285): a single error is corrected, and an uncorrectable byte is delivered as a poisoned one,
which the second value says. -/
def transit (flips : List (Nat × BitVec 13)) (bs : List Byte) : List Byte × Bool :=
  flips.foldl (fun a e =>
    match a.1[e.1]? with
    | some b =>
      let v := (decodeByte (encodeByte b ^^^ e.2)).value
      (a.1.set e.1 v.1, a.2 || v.2)
    | none => a) (bs, false)

/-- The response to a request (R316): its route is the request's path reversed, and SRC and DST are
exchanged. -/
def Pkt.response (p : Pkt) (code : Code) (poison : Bool) (data : List Byte) : Pkt :=
  let back := (List.range p.hops).map (fun j => p.route / 2 ^ (93 - 3 * j) % 8)
  { p with
    route := back.foldr (fun h acc => h + 8 * acc) 0
    cmd := 5, src := p.dst, dst := p.src, code := code, poison := poison, hops := 0
    len := data.length / 64, data := data, cls := 0 }

namespace Dev

/-- The device with the packets in flight replaced. -/
def setFlight (d : Dev) (fs : List Flight) : Dev := { d with noc := { d.noc with flight := fs } }

/-- A packet can enter the input buffer of channel `vc` behind port `inp` of waystation `w`: a flit of room is
there, and no other packet is still entering it (R317, R318). -/
def bufferFree (d : Dev) (w inp vc : Nat) : Bool :=
  decide (roomOf d.noc.flight w inp vc ≠ 0) && d.noc.flight.all (fun f => !f.entering w inp vc)

/-- NI `i` sends a packet on virtual channel `vc`: it enters its waystation by the local port. -/
def inject (d : Dev) (i vc : Nat) (p : Pkt) : Dev :=
  d.setFlight (compact (d.noc.flight ++ [⟨niWs i, 4, vc, p, [⟨niWs i, 4, vc, 0⟩]⟩]))

/-- The oldest response that waits in NI `i` enters the network where the RSP channel takes it (R317,
R318). -/
def rspOffer (i : Nat) (d : Dev) (p : Pkt) : Dev :=
  if (d.niSt i).rspOut.head? = some p ∧ d.bufferFree (niWs i) 4 2 then
    (d.setNi i { d.niSt i with rspOut := (d.niSt i).rspOut.tail }).inject i 2 p
  else d

/-- The responses of NI `i` that can enter the network do so, in order. -/
def rspPump (d : Dev) (i : Nat) : Dev := (d.niSt i).rspOut.foldl (rspOffer i) d

/-- NI `i` answers a received request with a response on the RSP channel (R316, R317). -/
def sendRsp (d : Dev) (i : Nat) (p : Pkt) (code : Code) (poison : Bool := false)
    (data : List Byte := []) : Dev :=
  (d.setNi i { d.niSt i with rspOut := (d.niSt i).rspOut ++ [p.response code poison data] }).rspPump i

/-! ## The end of a march run -/

/-- Whether a run has found a fault in a part that counts (R301): not those of a unit retired during it. -/
def marchFailed (s : MarchSt) : Bool := s.failed || decide (0 < s.mine)

/-- A run ends with a RESULT (R301): 1 PASS, 2 FAIL, 3 ABORTED. The run of start-up is no command. -/
def marchEnd (d : Dev) (s : MarchSt) (result : Nat) (c : Code) : Dev :=
  let d1 := { d with march := none }
  let d2 := (((d1.clear Reg.MARCH_STS_BUSY).set Reg.MARCH_STS_RESULT result).set
    Reg.MARCH_STS_FAULTS s.faults).setBit Reg.MARCH_STS_PARTIAL s.partialRun
  let d3 := d2.raise Reg.INT_EVT_MARCH_DONE
  (if s.startup then d3 else d3.cmdDone 0x4200 0xC c).notifyInt

/-- Units are retired under a run: their part ends, and a run of such a unit alone ends ABORTED (R301,
R303). -/
def marchDrop (d : Dev) (gone : MemUnit → Bool) : Dev :=
  match d.march with
  | none => d
  | some s =>
    if !s.units.any gone then d
    else if !s.several then d.marchEnd s 3 .aborted
    else
      let head := s.units.head?.any gone
      { d with march := some { s with units := s.units.filter (fun u => !gone u), partialRun := true
                                      mine := if head then 0 else s.mine
                                      granule := if head then 0 else s.granule
                                      step := if head then 0 else s.step } }

/-! ## Retired channels and failed units -/

/-- A channel's retirement takes effect (R297, R343): its requests are answered RETIRED, its queued
writes are not performed, the golden entries it holds become invalid and a build of one fails (R274), and the
context store is
lost in slice mode (R371) or drops the dirty lines it holds there. -/
def retireChannel (d : Dev) (k : Nat) : Dev :=
  if d.chRetired k then d
  else
    let c := d.chSt k
    let d0 := d.marchDrop (fun u => u == .dram k)
    let d1 := c.reqs.foldl (fun a r => a.sendRsp (128 + k) r.pkt .retired) d0
    let d2 := d1.setCh k { c with reqs := [], queue := [], refreshDue := [], refreshForced := [] }
    let d3 := d2.setMask Reg.CH_RETIRED_MASK k true
    let d4 := ((d3.raise Reg.INT_EVT_CH_RETIRED).logEvent (.dram k) 0 7 false).notifyInt
    let d5 := if d4.storeInChannel k then
        let any := (List.range 4).any (fun w => d4.get (Reg.GOLDEN_VALID_VALID w) != 0)
        let e := (List.range 4).foldl (fun a w => a.clear (Reg.GOLDEN_VALID_VALID w)) d4
        let e := if any ∨ e.scrub.building.isSome then e.raise Reg.SCRUB_EVT_GOLDEN_FAIL else e
        let e := ({ e with scrub := { e.scrub with building := none } }).setBit Reg.SCRUB_STS_BUILDING
          (!e.scrub.builds.isEmpty)
        if !e.stripeMode then e.clear Reg.SCRUB_STS_GOLDEN_USABLE else e
      else d4
    if d5.storeInChannel k ∧ d5.on Reg.CTX_STS_IN_USE then
      if !d5.stripeMode then
        { ((d5.clear Reg.CTX_STS_IN_USE).clear Reg.CTX_VISIBLE_COUNT).raise Reg.CTX_EVT_STORE_LOST with
          ctxCache := [] }
      else
        { d5 with ctxCache := d5.ctxCache.filter (fun l =>
            !(l.dirty && (d5.dramPlace (0x7C8000000 + l.idx * 128)).any (fun p => p.1 == k))) }
    else d5

/-- A unit has failed (R296). -/
def unitFailed (d : Dev) (m : MemUnit) (addr : Nat) (requested : Bool) : Dev :=
  let d1 := ((d.raise Reg.INT_EVT_UNIT_FAILED).intEvent m addr 4 requested).notifyInt
  match m with
  | .bm b =>
    let n := b / 64
    let d2 := if d1.on (Reg.RI_STS_FAILED n) then d1
      else (d1.raise (Reg.RI_STS_FAILED n)).set (Reg.RI_STS_FAILED_BLOCK n) (b % 64)
    d2.raise (Reg.RI_EVT_FAILED_EVT n)
  | .dram k =>
    let d2 := d1.setMask Reg.CH_FAILED_MASK k true
    if d2.ctlOn Reg.INT_CTL_AUTO_CH_RETIRE then d2.retireChannel k else d2
  | .hs u => (d1.set Reg.HS_FAILED_LAST u).raise Reg.HS_FAILED_VALID

/-- The next free remap entry of a unit: not valid, and its spare not known to be faulty. -/
def freeEntry (d : Dev) (m : MemUnit) : Option Nat :=
  (List.range m.entries).find? (fun e =>
    !d.on (m.entryValid e) && !d.deadSpares.contains (m.key * 16 + e))

/-- A faulty granule takes the next free remap entry, its spare being written with `content`; an
address whose spare is faulty moves to the next one; with no entry free the unit fails (R295, R296). -/
def remapGranule (d : Dev) (m : MemUnit) (g : Nat) (content : List (BitVec 13)) : Dev :=
  let d0 := match d.remapEntry m (g / m.granule) with
    | some e => { d.clear (m.entryValid e) with deadSpares := (m.key * 16 + e) :: d.deadSpares }
    | none => d
  match d0.freeEntry m with
  | none => d.unitFailed m g false
  | some e =>
    let d1 := (d0.set (m.entryAddr e) (g / m.granule)).raise (m.entryValid e)
    let d2 := (content.zipIdx).foldl (fun a c => a.setCell m (g + c.2) c.1) d1
    let d3 := (((d2.raise Reg.INT_EVT_REMAPPED).count Reg.REMAP_STARVED_REMAP_CNT).intEvent
      m g 3 false)
    match m with
    | .bm b => d3.raise (Reg.RI_EVT_REMAPPED (b / 64))
    | _ => d3

/-- A fault at byte `g` of a unit is remapped (R295): at a spare, which lies past the unit's last byte, the
address it serves moves; a spare that serves none is used no more (log 76). -/
def remap (d : Dev) (m : MemUnit) (g : Nat) (content : List (BitVec 13)) : Dev :=
  if g < m.bytes then d.remapGranule m g content
  else
    let e := (g - m.bytes) / m.granule
    if d.on (m.entryValid e) then d.remapGranule m (d.get (m.entryAddr e) * m.granule) content
    else { d with deadSpares := (m.key * 16 + e) :: d.deadSpares }

/-- The corrected content of a codeword: a clean or corrected byte, or poison (R295). -/
def correctedContent (c : BitVec 13) : BitVec 13 :=
  match decodeByte c with
  | .clean _ => c
  | .fixed b => encodeByte b
  | _ => poisonWord

/-! ## Background scrubbing (R289 to R292) -/

/-- The unit is under checker test: the scrubber skips it (R302). -/
def underTest (d : Dev) (m : MemUnit) : Bool :=
  d.ctlOn Reg.CT_CTL_ARM && d.ctl Reg.CT_CTL_KIND == m.kind && d.ctl Reg.CT_CTL_UNIT == m.num

/-- Upsets: what the cells of a granule hold now, changed by `flips` since they were written. -/
def upset (d : Dev) (m : MemUnit) (g : Nat) (flips : List (Nat × BitVec 13)) : Dev :=
  flips.foldl (fun a f => a.setCell m (g + f.1) (a.cell m (g + f.1) ^^^ f.2)) d

/-- The state of a block memory's ports. -/
def bmSt (d : Dev) (b : Nat) : BmSt := SMap.get {} d.bm b

/-- The device with a block memory's port state replaced. -/
def setBm (d : Dev) (b : Nat) (x : BmSt) : Dev := { d with bm := SMap.put {} d.bm b x }

/-- Where a scrub pointer goes from granule `p` (R289, R290): up the unit's granules, then over the spares in
use of a block memory, or over all spare lines of a channel, and back to 0. -/
def scrubNext (d : Dev) (m : MemUnit) (p : Nat) : Nat :=
  let n := m.bytes / m.granule
  if p + 1 < n then p + 1
  else
    match (List.range m.entries).find? (fun e =>
      decide (p < n + e) && (decide (m.kind = 1) || d.on (m.entryValid e))) with
    | some e => n + e
    | none => 0

/-! ## CH_RETIRE, the log and the attachment -/

/-- The CH_RETIRE command takes effect (R297); a channel that is retired already stays so. -/
def chRetireEff (d : Dev) : Dev × Code :=
  let k := d.get Reg.CH_RETIRE_CHANNEL
  if d.chRetired k then (d, .retired)
  else (((d.cmdStart 0x4200 0xB).retireChannel k).cmdDone 0x4200 0xB .ok, .ok)

/-- The oldest log entry, as LOG_HI and LOG_LO read; 0 when the log is empty. -/
def logHead (d : Dev) : Nat × Nat := d.log.headD (0, 0)

/-- A read of LOG_HI, or of its object, without NOSIDE pops the oldest entry (R305, R307). -/
def logPop (d : Dev) : Dev :=
  let d1 := { d with log := d.log.tail }
  d1.set Reg.LOG_COUNT_COUNT d1.log.length

/-- One region-clock cycle of a region's integrity attachment: it presents the oldest queued event
with INT_VALID, and INT_LOST when one was dropped; nothing during a hold (R293). -/
def intAttachmentEvent (n : Region) (d : Dev) : Dev :=
  if d.holdOn n.val then d
  else
    let s := d.attachSt n.val
    let s' : AttachSt :=
      { queue := s.queue.tail, info := s.queue.head?
        lostNow := s.queue.isEmpty && decide (0 < s.lost)
        lost := if s.queue.isEmpty then s.lost - 1 else s.lost }
    { d with attach := SMap.put {} d.attach n.val s' }

/-! ## The march test -/

/-- The units a run covers (R299, R305): one, or every one of its kind; for blocks with ALL, every
block of region UNIT div 64, and destructive runs take all blocks of the region in parallel. -/
def marchUnits (kind unit : Nat) (all destructive : Bool) (d : Dev) : List MemUnit :=
  if kind = 0 then
    (if all || destructive then (List.range 64).map (fun j => .bm (unit / 64 * 64 + j))
     else [.bm unit])
  else if kind = 1 then
    (if all then ((List.range 32).filter (fun k => !d.chRetired k)).map .dram else [.dram unit])
  else
    (if all then (List.range 258).filterMap (fun u => if u = 0 && destructive then none else some (.hs u))
     else [.hs unit])

/-- The request names a unit that exists, and the case is one that R299 lists. -/
def marchAllowed (d : Dev) : Bool :=
  let kind := d.get Reg.MARCH_CTL_KIND
  let unit := d.get Reg.MARCH_CTL_UNIT
  let pres := d.on Reg.MARCH_CTL_MODE
  let all := d.on Reg.MARCH_CTL_ALL
  if kind = 0 then
    (if pres then d.domState (regionDom (unit / 64)) == 0
     else d.rstate (unit / 64) == rsEmpty)
  else if kind = 1 then all || (unit < 32 && !d.chRetired unit)
  else if all then true
  else unit < 258 && (pres || unit != 0)

/-- START: a run starts, or is refused TARGET_ERR, or BUSY while one runs (R299). The blocks of a run lie
in one region and are retired together. -/
def marchStart (d : Dev) : Dev × Code :=
  if d.march.isSome then (d, .busy)
  else if !d.marchAllowed then (d, .targetErr)
  else
    let pres := d.on Reg.MARCH_CTL_MODE
    let kind := d.get Reg.MARCH_CTL_KIND
    let us := marchUnits kind (d.get Reg.MARCH_CTL_UNIT) (d.on Reg.MARCH_CTL_ALL) (!pres) d
    let d1 := ((d.raise Reg.MARCH_STS_BUSY).clear Reg.MARCH_STS_PARTIAL).cmdStart 0x4200 0xC
    ({ d1 with march := some ⟨pres, decide (kind ≠ 0 ∧ 1 < us.length), false, us, 0, 0, 0, 0, false, false⟩ }, .ok)

/-- The destructive run of step 5 (R300): every block memory, every hard SRAM but unit 0, and, after a
VAUX power-on reset or a loss of DRAM (R196, R344), every channel in service. It waits for no other run:
a run that goes on already stands. -/
def marchStartup (d : Dev) : Dev :=
  let lost := d.start.dramLost
  let d0 := { d with start := { d.start with dramLost := false } }
  if d0.fwGet 0x4200 14 [1] ≠ [1] ∨ d0.march.isSome then d0
  else
    let us := (List.range 8192).map MemUnit.bm ++ (List.range 257).map (fun u => .hs (u + 1))
      ++ (if lost then ((List.range 32).filter (fun k => !d0.chRetired k)).map .dram else [])
    let d1 := (d0.raise Reg.MARCH_STS_BUSY).clear Reg.MARCH_STS_PARTIAL
    { d1 with march := some ⟨false, true, true, us, 0, 0, 0, 0, false, false⟩ }

/-- The raw content of a granule. -/
def rawGranule (d : Dev) (m : MemUnit) (g : Nat) : List (BitVec 13) :=
  (List.range m.granule).map (fun i => d.cell m (g + i))

/-- A granule stored raw. -/
def storeRaw (d : Dev) (m : MemUnit) (g : Nat) (c : List (BitVec 13)) : Dev :=
  (c.zipIdx).foldl (fun d e => d.setCell m (g + e.2) e.1) d

/-- A fault at a granule (R298, R295): logged, counted, and remapped with `content`. -/
def marchFault (d : Dev) (m : MemUnit) (g : Nat) (content : List (BitVec 13)) : Dev :=
  (d.logEvent m g 5 false).remap m g content

/-- Granules of a unit, its spares among them (R298). -/
def marchCount (u : MemUnit) : Nat := u.bytes / u.granule + u.entries

/-- The part of a run over its first unit ends. -/
def marchUnitEnd (s : MarchSt) : MarchSt :=
  { s with units := s.units.tail, granule := 0, step := 0, failed := marchFailed s, mine := 0 }

/-- A preserving run goes on at the next granule, the spares after the unit's last (R298), or at the next unit. -/
def marchNext (s : MarchSt) : MarchSt :=
  match s.units with
  | [] => s
  | u :: _ =>
    if s.granule + 1 < marchCount u then { s with granule := s.granule + 1, step := 0 } else marchUnitEnd s

/-- A destructive run goes on: elements 0 to 5 of March C−, each over every granule of the unit, the fourth and the
fifth downward (R298). -/
def marchOn (s : MarchSt) : MarchSt :=
  match s.units with
  | [] => s
  | u :: _ =>
    let last := if s.step = 3 ∨ s.step = 4 then s.granule == 0 else s.granule + 1 == marchCount u
    if !last then { s with granule := if s.step = 3 ∨ s.step = 4 then s.granule - 1 else s.granule + 1 }
    else if 5 ≤ s.step then marchUnitEnd s
    else { s with step := s.step + 1, granule := if s.step = 2 ∨ s.step = 3 then marchCount u - 1 else 0 }

/-- What an element of March C− reads in every cell, if it reads, and what it writes, if it writes: all 13 cells of
each byte 0, or all 1 (R298). -/
def marchElement (e : Nat) : Option (BitVec 13) × Option (BitVec 13) :=
  match e with
  | 0 => (none, some 0)
  | 1 => (some 0, some 0x1FFF)
  | 2 => (some 0x1FFF, some 0)
  | 3 => (some 0, some 0x1FFF)
  | 4 => (some 0x1FFF, some 0)
  | _ => (some 0, none)

/-- Byte offset `x` of a unit's store, spares behind its bytes, as the logical granule it serves. -/
def granuleOf (d : Dev) (m : MemUnit) (x : Nat) : Nat :=
  if x < m.bytes then x / m.granule * m.granule
  else d.get (m.entryAddr ((x - m.bytes) / m.granule)) * m.granule

/-- What a run does to unit `u` from granule `g0` on when no access finds a fault (R298): a destructive
run leaves the zero codeword, a preserving one reads each granule, correcting or poisoning it. -/
def marchUnitRest (d : Dev) (s : MarchSt) (u : MemUnit) (g0 : Nat) : Dev :=
  let lo := cellKey u 0
  let mine := fun (key : Nat) => decide (lo ≤ key ∧ key < lo + 2 ^ 31 ∧ g0 * u.granule ≤ key - lo)
  if s.preserving then
    let gs := ((d.cells.filter (fun e => mine e.1)).map (fun e => d.granuleOf u (e.1 - lo))).eraseDups
    gs.foldl (fun a g => if g0 * u.granule ≤ g then a.checkGranule u g 0 u.granule false else a) d
  else
    let d1 := { d with cells := SMap.only (fun key => !(mine key)) d.cells }
    match u with
    | .hs n =>
      if 162 ≤ n ∧ n ≤ 171 then
        (List.range 0x4000).foldl (fun a i => if g0 * 8 ≤ i then a.setCell u i 0 else a) d1
      else d1
    | _ => d1

/-- The accesses that are left of a run, none of which finds a fault. -/
def marchRest (d : Dev) (s : MarchSt) : Dev :=
  match s.units with
  | [] => d
  | u :: us => us.foldl (fun a v => a.marchUnitRest s v 0)
      (d.marchUnitRest s u (if !s.preserving then 0 else if 0 < s.step then s.granule + 1 else s.granule))

/-- ABORT stops a run after the granule in progress (R301). -/
def marchAbort (d : Dev) : Dev × Code :=
  match d.march with
  | none => (d.cmdLate 0x4200 0xC, .ok)
  | some s => (d.marchEnd s 3 .aborted, .ok)

/-- A run of the given mode covers a block of region `n` (R303). -/
def marchCovers (d : Dev) (preserving : Bool) (n : Nat) : Bool :=
  match d.march with
  | none => false
  | some s => s.preserving == preserving && s.units.any (fun u => match u with
    | .bm b => b / 64 == n
    | _ => false)

/-- Edge E of region `n` ends a preserving run over its blocks (R303). -/
def marchCut (d : Dev) (n : Nat) : Dev :=
  match d.march with
  | none => d
  | some s => if d.marchCovers true n then d.marchEnd s 3 .aborted else d

/-! ## Checker test mode (R302) -/

/-- WRITE_RAW or READ_RAW is accepted while ARM is 1; its access takes its place among the unit's
accesses (R302). -/
def rawStart (read : Bool) (d : Dev) : Dev × Code :=
  if !d.ctlOn Reg.CT_CTL_ARM then (d, .targetErr)
  else if d.ctPending.isSome then (d, .busy)
  else ({ d with ctPending := some read }, .ok)

/-- The raw access completes: CT_DONE is set, and a raw read fills CT_RDATA and CT_RCHECK. Past the unit's last byte
there is nothing to write, and what a read returns is free (log 114). -/
def ctDone (d : Dev) : Dev :=
  match d.ctPending with
  | none => d
  | some read =>
    let m := MemUnit.ofNums (d.get Reg.CT_CTL_KIND) (d.get Reg.CT_CTL_UNIT)
    let a := d.get Reg.CT_ADDR_ADDR / 4 * 4
    let d0 := { d with ctPending := none }
    let d1 := if m.bytes ≤ a then
        (if read then
          let x := d0.freeBelow (2 ^ 32)
          let y := x.2.freeBelow (2 ^ 20)
          (y.2.set Reg.CT_RDATA_DATA x.1).set Reg.CT_RCHECK_CHECK y.1
        else d0)
      else if read then
        let cs := (List.range 4).map (fun i => d0.cell m (a + i))
        (d0.set Reg.CT_RDATA_DATA (ofLe (cs.map (fun c => BitVec.ofNat 8 c.toNat)))).set
          Reg.CT_RCHECK_CHECK
          ((cs.zipIdx).foldl (fun v e => v + e.1.toNat / 256 * 2 ^ (5 * e.2)) 0)
      else
        (List.range 4).foldl (fun x i =>
          x.setCell m (a + i) (BitVec.ofNat 13
            (d.get Reg.CT_DATA_DATA / 2 ^ (8 * i) % 256
              + d.get Reg.CT_CHECK_CHECK / 2 ^ (5 * i) % 32 * 256))) d0
    d1.raise Reg.INT_EVT_CT_DONE

end Dev

end Sys2Proof.Machine
end

