-- ==== Sys2Proof/Machine/Lanes.lean ====
section
/-! DEFINITION. The serial lanes (R380 to R400): PLLs and rates, the lane states, adaptation, the
coders' alignment, the word FIFOs, patterns, injection, bit-slip and retirement. -/

namespace Sys2Proof.Machine

/-! ## Kinds, rates and quads -/

/-- The lane is a line lane. -/
def LaneId.isLine : LaneId → Bool
  | .line _ => true
  | _ => false

/-- The lane is a port lane. -/
def LaneId.isPort : LaneId → Bool
  | .port _ => true
  | _ => false

/-- The PLL quad of a line lane, or of a heritage lane from 16. -/
def LaneId.quad : LaneId → Nat
  | .line m => m.val / 4
  | .heritage m => 16 + m.val / 4
  | .port m => 32 + m.val / 4

/-- The power domain of a lane (R401). -/
def LaneId.domain (l : LaneId) : Nat := 48 + l.quad

/-- The lanes of PLL quad `q`, 0 to 31. -/
def lanesOf (q : Nat) : List LaneId :=
  (List.range 4).map (fun i =>
    if q < 16 then .line (Fin.ofNat 64 (4 * q + i)) else .heritage (Fin.ofNat 64 (4 * (q - 16) + i)))

/-- The region that holds a lane's quad, and the lane's number at its attachment (R380, R389). -/
def LaneId.attach : LaneId → Option (Nat × Nat)
  | .line m =>
    let q := m.val / 4
    some (if q < 8 then 16 * q else 16 * (q - 8) + 15, m.val % 4)
  | .heritage m =>
    let q := m.val / 4
    some (if q < 8 then 16 * q else 16 * (q - 8) + 15, 4 + m.val % 4)
  | .port _ => none

/-- The lanes attached to region `n` (R380). -/
def lanesAt (n : Nat) : List LaneId :=
  if n % 16 = 0 then lanesOf (n / 16) ++ lanesOf (16 + n / 16)
  else if n % 16 = 15 then lanesOf (8 + n / 16) ++ lanesOf (24 + n / 16)
  else []

/-- The offset of a PLL quad's registers (R398), for `q` below 32. -/
def pllBase (q : Nat) : Nat := if q < 16 then 0x0A4000 + 0x10 * q else 0x0B4000 + 0x10 * (q - 16)

/-- A field of a PLL quad's registers. -/
def pllFld (q off lsb w : Nat) (g : Bool) : Fld :=
  ⟨pllBase q + off, lsb, w, g, if q < 16 then 0x5300 + q else 0x5310 + (q - 16)⟩

/-- LOCK of PLL `x` (0 A, 1 B) of quad `q`. -/
def pllLock (q x : Nat) : Fld := pllFld q 0xC x 1 false

/-- A PLL rate in kBd lies in the range of R380. -/
def pllInRange (q kbd : Nat) : Bool :=
  if q < 16 then 28000000 ≤ kbd && kbd ≤ 113000000 else 9600000 ≤ kbd && kbd ≤ 32000000

/-- The lane rate that a PLL rate, a DIV field and a format give lies in the range of R380 (R381). -/
def rateInRange (line : Bool) (kbd div : Nat) (pam4 : Bool) : Bool :=
  let s := 2 ^ div
  if !line then div ≤ 4 && 600000 * s ≤ kbd && kbd ≤ 32000000 * s
  else if pam4 then div ≤ 5 && 50000000 * s ≤ 2 * kbd && 2 * kbd ≤ 226000000 * s
  else div ≤ 5 && 1000000 * s ≤ kbd && kbd ≤ 56000000 * s

/-- The line bits of a word of a coder and WIDTH, where the lane kind lists them (R386). -/
def lineBits (line : Bool) (coder width : Nat) : Option Nat :=
  match line, coder, width with
  | true, 0, 0 => some 512
  | true, 0, 1 => some 256
  | true, 1, 0 => some 544
  | true, 1, 1 => some 272
  | true, 2, 0 => some 528
  | true, 2, 1 => some 264
  | false, 0, 0 => some 20
  | false, 0, 1 => some 32
  | false, 0, 2 => some 40
  | false, 0, 3 => some 64
  | false, 3, 0 => some 20
  | false, 3, 1 => some 40
  | false, 4, 0 => some 66
  | false, 4, 1 => some 132
  | _, _, _ => none

/-- The blocks or characters of a word, and the data bits of each; RAW words are one item (R386). -/
def wordItems (line : Bool) (coder width : Nat) : Nat × Nat :=
  if coder = 0 then (1, (lineBits line 0 width).getD 0)
  else if line then (if width = 0 then 8 else 4, 64)
  else if coder = 3 then (if width = 0 then 2 else 4, 8)
  else (if width = 0 then 1 else 2, 64)

namespace Dev

/-- The applied rate of PLL `x` of quad `q` in kBd (R381). -/
def pllRate (d : Dev) (q x : Nat) : Nat :=
  match SMap.get 0 d.plls (2 * q + x) with
  | 0 => if q < 16 then 53125000 else 10312500
  | r => r

/-- A write of `w` to LANE_CTL of a line or heritage lane gives it a configuration and a rate that R381
and R386 allow. -/
def laneCtlOk (d : Dev) (l : LaneId) (w : Word) : Bool :=
  if l.isPort then true
  else
    let div := fieldOf w 2 3
    let pam4 := fieldOf w 5 1 = 1
    let coder := fieldOf w 6 3
    let kbd := d.pllRate l.quad (fieldOf w 1 1)
    match lineBits l.isLine coder (fieldOf w 9 2) with
    | none => false
    | some b =>
      rateInRange l.isLine kbd div pam4 && !(coder = 2 && pam4)
        && (!l.isLine || fieldOf w 9 2 = 0
          || (if pam4 then 2 * kbd else kbd) ≤ 500000 * b * 2 ^ div)

/-- The lane's clocks run: its domain is in D0 (R383, R402). -/
def laneAwake (d : Dev) (l : LaneId) : Bool := d.get (Reg.DOM_STS_STATE l.domain) == 0

/-- The lane can follow events: its domain is in D0 or D1 (R383). -/
def lanePowered (d : Dev) (l : LaneId) : Bool := d.get (Reg.DOM_STS_STATE l.domain) ≤ 1

/-- The line lane's format is PAM4; port lanes always are (R380). -/
def lanePam4 (d : Dev) (l : LaneId) : Bool := l.isPort || (l.isLine && d.ctlOn l.PAM4)

/-- The lane's coder; a port lane runs the RS(544,514) code of its port (R45, R380). -/
def laneCoder (d : Dev) (l : LaneId) : Nat := if l.isPort then 1 else d.ctl l.CODER

/-- The line bits of a word of the lane. -/
def laneBits (d : Dev) (l : LaneId) : Nat :=
  (lineBits (l.isLine || l.isPort) (d.laneCoder l) (if l.isPort then 0 else d.ctl l.WIDTH)).getD 0

/-- PLL_LOCK of each lane follows its PLL, and a PLL that no enabled lane selects stops (R381). -/
def pllShow (d : Dev) (q : Nat) : Dev :=
  let ls := lanesOf q
  let d1 := [0, 1].foldl (fun a x =>
    if ls.any (fun l => a.get l.PLL_SEL == x && a.lstate l != 0 && a.lstate l != 6) then a
    else a.clear (pllLock q x)) d
  ls.foldl (fun a l => a.setBit l.PLL_LOCK (a.on (pllLock q (a.get l.PLL_SEL)))) d1

/-- The same, for the quad of a lane that has PLL registers. -/
def pllShowOf (d : Dev) (l : LaneId) : Dev := if l.isPort then d else d.pllShow l.quad

/-! ## Lane states -/

/-- The EQ registers of a lane take their reset values (R383). -/
def eqReset (d : Dev) (l : LaneId) : Dev :=
  [0x08, 0x0C, 0x10, 0x14, 0x18, 0x1C, 0x20].foldl
    (fun a o => a.putWord (l.base + o) (resetWord (l.base + o))) d

/-- The lane passes to PLL_WAIT (R383): from DISABLED, or in a restart, whose held equalization stays
while FREEZE is 1. Slip, injection and pattern check end. -/
def lanePllWait (d : Dev) (l : LaneId) (restart : Bool) : Dev :=
  let d1 := if restart ∧ !d.ctlOn l.FREEZE then d.eqReset l else d
  let d2 := ((d1.laneQuiet l).set l.STATE 1).clear (l.fld 0x44 15 1)
  d2.setLane l { d2.laneSt l with fails := 0, freezeDue := false, inj := 0, injLeft := 0, out := none }

/-- The lane is in one of PLL_WAIT to FROZEN. -/
def laneRunning (d : Dev) (l : LaneId) : Bool := 1 ≤ d.lstate l && d.lstate l ≤ 5

/-- A restart (R382, R383). -/
def laneRestart (d : Dev) (l : LaneId) : Dev :=
  if d.laneRunning l then (d.lanePllWait l true).pllShowOf l else d

/-- Retirement (R395): transmitter idle, receiver ignored, FIFOs empty. A port lane's retirement takes a
link that uses it down. -/
def laneRetireNow (d : Dev) (l : LaneId) : Dev :=
  if d.lstate l = 6 then d
  else
    let d1 := ((d.laneQuiet l).set l.STATE 6).clear (l.fld 0x44 15 1)
    let d2 := (d1.setLane l {}).raise (l.fld 0x2C 7 1)
    let d3 := (d2.pllShowOf l).notify l.ix 6 (l.base + 0x2C)
    match l with
    | .port m =>
      let p := m.val / 4
      if m.val % 4 = 0 ∨ !d3.on (Reg.PORT_STS_KR1_ACTIVE p) then d3.linkLost p else d3
    | _ => d3

/-- The lane enters ACQUIRE: an acquisition starts (R383). -/
def laneAcquire (d : Dev) (l : LaneId) : Dev :=
  let d1 := (d.set l.STATE 3).count (l.fld 0x60 16 16)
  d1.setLane l { d1.laneSt l with step := none, tried := [], gained := false }

/-- The lane enters TRACK or FROZEN; UP is set when it comes from ACQUIRE (R383). -/
def laneEnter (d : Dev) (l : LaneId) (state : Nat) : Dev :=
  let d1 := if d.lstate l = 3 then d.raise (l.fld 0x2C 1 1) else d
  let d2 := d1.set l.STATE state
  d2.setLane l { d2.laneSt l with
    fails := 0, freezeDue := false, step := none, tried := [], gained := false }

/-- LANE_PLL_SETTLED: the selected PLL is locked and the dividers have settled (R383). The PLLs need the
root (R380). -/
def lanePllSettled (l : LaneId) (d : Dev) : Dev :=
  if d.lstate l ≠ 1 ∨ !d.laneAwake l ∨ !d.on Reg.CLK_STS_ROOT_LOCK then d
  else
    let d1 := (d.set l.STATE 2).raise l.PLL_LOCK
    if l.isPort then d1 else (d1.raise (pllLock l.quad (d.get l.PLL_SEL))).pllShow l.quad

/-- LANE_SIGNAL_DETECT: signal detected and CDR locked (R383). A RAW coder has ALIGNED at 1 (R388). -/
def laneSignalDetect (l : LaneId) (d : Dev) : Dev :=
  if d.lstate l ≠ 2 ∨ !d.laneAwake l then d
  else
    let d1 := ((d.raise l.SIGNAL).raise l.CDR_LOCK).setBit l.ALIGNED (d.laneCoder l == 0)
    if d.ctlOn l.FREEZE then d1.laneEnter l 5 else d1.laneAcquire l

/-- An acquisition fails (R383): it starts again from the reset settings, or the eighth failure in a row
retires the lane where AUTO_RETIRE is 1. -/
def acqFail (l : LaneId) (d : Dev) : Dev :=
  if d.lstate l ≠ 3 ∨ !d.laneAwake l then d
  else
    let k := (d.laneSt l).fails + 1
    let d1 := (d.raise (l.fld 0x2C 3 1)).setLane l { d.laneSt l with fails := k }
    if 8 ≤ k ∧ d.ctlOn (l.fld 0x24 24 1) then d1.laneRetireNow l
    else
      let d2 := ((d1.eqReset l).clear l.EQF).laneAcquire l
      if (d2.laneSt l).freezeDue then d2.laneEnter l 5 else d2

/-- LOS: the signal is lost (R383); the pattern checker keeps its lock (R392). `acq`: an acquisition limit expires in the same cycle, and a
retirement that it causes wins (R397). -/
def los (l : LaneId) (acq : Bool) (d : Dev) : Dev :=
  if !(2 ≤ d.lstate l && d.lstate l ≤ 5) ∨ !d.laneAwake l then d
  else if acq ∧ d.lstate l = 3 ∧ 7 ≤ (d.laneSt l).fails ∧ d.ctlOn (l.fld 0x24 24 1) then d.acqFail l
  else
    let slip := d.on l.SLIP_BUSY
    let d0 := (d.laneQuiet l).setBit l.CHK_LOCKED (d.on l.CHK_LOCKED)
    let d1 := (d0.set l.STATE 2).raise (l.fld 0x2C 0 1)
    let d2 := d1.setLane l { d1.laneSt l with freezeDue := false }
    if slip then d2.raise (l.fld 0x2C 5 1) else d2

/-! ## Adaptation -/

/-- The eye quality figure of the worst eye's open cells of 4,096 (R384). -/
def eqfOf (d : Dev) (l : LaneId) (eyes : Fin 4097 × Fin 4097 × Fin 4097) : Nat :=
  let cells := if d.lanePam4 l then min eyes.1.val (min eyes.2.1.val eyes.2.2.val) else eyes.1.val
  min 255 (256 * cells / 4096)

/-- EQF_UPDATE: EQF is computed from the eye monitor (R384); a frozen lane reports one below EQF_MIN
(R383). -/
def eqfUpdate (l : LaneId) (eyes : Fin 4097 × Fin 4097 × Fin 4097) (d : Dev) : Dev :=
  if !d.laneAwake l then d
  else if !(3 ≤ d.lstate l && d.lstate l ≤ 5) then d.clear l.EQF
  else
    let e := d.eqfOf l eyes
    let s := d.laneSt l
    let d1 := (d.set l.EQF e).setLane l { s with
      step := s.step.map (fun x => { x with next := some (x.next.getD e) }) }
    if d.lstate l = 5 ∧ e < d.ctl (l.fld 0x24 0 8) then d1.raise (l.fld 0x2C 2 1) else d1

/-- How many settings adaptation has: CTLE, the FFE taps of line and port lanes, and the DFE taps
(R385). -/
def laneTaps (l : LaneId) : Nat :=
  match l with
  | .heritage _ => 6
  | _ => 25

/-- The field of setting `t`: 0 CTLE, then FFE0 to FFE7 where there are any, then DFE1 on. -/
def tapFld (l : LaneId) (t : Nat) : Fld :=
  if t = 0 then l.fld 8 0 5
  else
    let byte := match l with
      | .heritage _ => 8 + (t - 1)
      | _ => t - 1
    l.fld (0x0C + 4 * (byte / 4)) (8 * (byte % 4)) 8

/-- A setting one step up or down; at the end of its range it stays (R385, R398). -/
def tapMoved (l : LaneId) (t v : Nat) (up : Bool) : Nat :=
  if t = 0 then
    let top := match l with
      | .heritage _ => 15
      | _ => 31
    if up then min (v + 1) top else v - 1
  else if up then (if v = 127 then v else (v + 1) % 256)
  else if v = 128 then v else (v + 255) % 256

/-- What follows the end of a step, and the next step (R383, R385). -/
def stepEnd (d : Dev) (l : LaneId) (tap : Nat) (up : Bool) (s : LaneSt) : Dev :=
  if s.freezeDue then (d.setLane l s).laneEnter l 5
  else
    let round := (List.range (laneTaps l)).all s.tried.contains
    if round ∧ !s.gained ∧ d.lstate l = 3 ∧ d.ctl (l.fld 0x24 0 8) ≤ d.get l.EQF then
      (d.setLane l s).laneEnter l 4
    else
      let s1 := if round then { s with tried := [], gained := false } else s
      let t := tap % laneTaps l
      let v := d.get (tapFld l t)
      (d.set (tapFld l t) (tapMoved l t v up)).setLane l { s1 with
        step := some ⟨t, v, d.get l.EQF, none⟩
        tried := if s1.tried.contains t then s1.tried else t :: s1.tried }

/-- ADAPT_STEP: the step in progress ends, kept when the next EQF was not lower and undone otherwise; a
FREEZE that waits takes effect; a full round without a gain ends the acquisition; and else the next step
moves setting `tap` (R383, R385). Which setting, and which way, the adaptation chooses. -/
def adaptStep (l : LaneId) (tap : Fin 25) (up : Bool) (d : Dev) : Dev :=
  if !(3 ≤ d.lstate l && d.lstate l ≤ 4) ∨ !d.laneAwake l then d
  else
    let s := d.laneSt l
    match s.step.map (fun x => (x, x.next)) with
    | some (_, none) => d
    | some (x, some e) =>
      let d1 := if e < x.eqf then d.set (tapFld l x.tap) x.old else d
      d1.stepEnd l tap.val up { s with step := none, gained := s.gained || decide (x.eqf < e) }
    | none => d.stepEnd l tap.val up s

/-- Software has written the EQ register at `off` of a lane: the write wins over a step in progress of one
of its settings, which decides again at the next interval (R385, R397). -/
def eqWritten (l : LaneId) (off : Nat) (d : Dev) : Dev :=
  let s := d.laneSt l
  match s.step with
  | some x => if (tapFld l x.tap).off = off then d.setLane l { s with step := none } else d
  | none => d

/-- EQF_LOW: EQF has stayed below EQF_MIN for 1 ms (R383). A FREEZE that has been written keeps the lane
from acquiring again (R397). -/
def eqfLow (l : LaneId) (d : Dev) : Dev :=
  if d.lstate l ≠ 4 ∨ !d.laneAwake l ∨ d.ctl (l.fld 0x24 0 8) ≤ d.get l.EQF then d
  else
    let d1 := d.raise (l.fld 0x2C 2 1)
    if d.ctlOn l.FREEZE then d1 else d1.laneAcquire l

/-- FREEZE has been written and held `old` before (R383): the lane freezes at the end of the step in
progress, at once when there is none, and goes back to TRACK when it is cleared. -/
def freezeWritten (l : LaneId) (old : Bool) (d : Dev) : Dev :=
  let new := d.on l.FREEZE
  if new = old then d
  else if new then
    if 3 ≤ d.lstate l ∧ d.lstate l ≤ 4 then
      let d1 := if d.get l.EQF < d.ctl (l.fld 0x24 0 8) then d.raise (l.fld 0x2C 2 1) else d
      if (d1.laneSt l).step.isSome then d1.setLane l { d1.laneSt l with freezeDue := true }
      else d1.laneEnter l 5
    else d
  else
    let d1 := d.setLane l { d.laneSt l with freezeDue := false }
    if d1.lstate l = 5 then d1.laneEnter l 4 else d1

/-- LANE_CTL has been written and held `old` before (R382, R383): the enable, a change of the
configuration, and FREEZE. In D2 and D3 the lane is held in DISABLED. -/
def laneCtlWritten (l : LaneId) (old : Word) (d : Dev) : Dev :=
  let new := d.word l.base
  let d1 := freezeWritten l (fieldOf old 15 1 == 1) d
  if l.isPort ∨ !d.lanePowered l then d1
  else if fieldOf new 0 1 = 0 then
    if d1.laneRunning l then (d1.laneDisable l).pllShow l.quad else d1
  else if d1.lstate l = 0 then (d1.lanePllWait l false).pllShow l.quad
  else if fieldOf new 1 10 ≠ fieldOf old 1 10 ∨ fieldOf new 14 1 ≠ fieldOf old 14 1 then
    d1.laneRestart l
  else d1

/-! ## The commands of LANE_CTL and of the PLLs -/

/-- RESTART (R383). -/
def restartEff (l : LaneId) (d : Dev) : Dev × Code := (d.laneRestart l, .ok)

/-- RETIRE (R395). -/
def laneRetireEff (l : LaneId) (d : Dev) : Dev × Code := (d.laneRetireNow l, .ok)

/-- SLIP (R394): accepted only in FROZEN with FREEZE kept at 1 and AUTO_ALIGN 0. -/
def slipEff (l : LaneId) (d : Dev) : Dev × Code :=
  if l.isPort then (d, .ok)
  else if d.lstate l = 5 ∧ d.on l.FREEZE ∧ !d.on l.AUTO_ALIGN ∧ d.laneAwake l then
    if d.on l.SLIP_BUSY then (d, .busy) else (d.raise l.SLIP_BUSY, .ok)
  else (d.raise (l.fld 0x2C 5 1), .busy)

/-- SLIP_DONE: an accepted slip takes effect (R394): one line bit, or one PAM4 symbol of two. -/
def slipDone (l : LaneId) (d : Dev) : Dev :=
  if !d.on l.SLIP_BUSY ∨ !d.laneAwake l then d
  else
    let s := d.laneSt l
    let b := d.laneBits l
    let move := if d.lanePam4 l then 2 else 1
    ((((d.clear l.SLIP_BUSY).raise (l.fld 0x2C 4 1)).count (l.fld 0x60 0 16)).setBit l.ALIGNED
      (d.laneCoder l == 0)).setLane l
      { s with bound := (s.bound + move) % (if b = 0 then 1 else b), align := 0, good := 0, bad := 0 }

/-- APPLY of PLL `x` (0 A, 1 B) of quad `q` (R381), and whether it is refused: when the staged rate, or the
rate of an enabled lane on this PLL, is out of range. Otherwise every lane on it passes PLL_WAIT, and
its slip, injection and pattern check end (R397). The write is answered OK in either case, and the run of the command
object ends TARGET_ERR where it is refused (log 127). -/
def pllApplyOne (q x : Nat) (d : Dev) : Dev × Bool :=
  let kbd := d.get (pllFld q (4 * x) 0 32 true)
  let on := (lanesOf q).filter (fun l => d.get l.PLL_SEL == x)
  if !pllInRange q kbd ∨ on.any (fun l =>
      d.on l.EN && !rateInRange l.isLine kbd (d.get l.DIV) (d.lanePam4 l)) then (d, true)
  else
    let d1 := ({ d with plls := SMap.put 0 d.plls (2 * q + x) kbd }).clear (pllLock q x)
    ((on.foldl (fun a l => if a.laneRunning l then a.lanePllWait l true else a) d1).pllShow q, false)

/-- A write of 1 to APPLY_A or APPLY_B of quad `q`, or to both, `mask` (R381): APPLY_ERR says whether one was
refused. -/
def pllApplyEff (q mask : Nat) (d : Dev) : Dev × Code :=
  let err := pllFld q 0xC 2 1 false
  let r := [0, 1].foldl (fun (a : Dev × Bool) x =>
    if mask.testBit x then
      let y := pllApplyOne q x a.1
      (y.1, a.2 || y.2)
    else a) (d, false)
  ((r.1.setBit err r.2).cmdDone err.ix 3 (if r.2 then .targetErr else .ok), .ok)

/-! ## Alignment -/

/-- The boundary moves on to the next candidate of the hunt: one code symbol of ten bits, one character
bit, or one bit of a block (R387, R388). -/
def huntOn (d : Dev) (l : LaneId) : Dev :=
  if d.ctlOn l.AUTO_ALIGN ∨ l.isPort then
    let s := d.laneSt l
    let move := if d.laneCoder l = 1 ∨ d.laneCoder l = 2 then 10 else 1
    d.setLane l { s with bound := s.bound + move }
  else d

/-- ALIGNED is lost (R387, R388). -/
def alignLost (d : Dev) (l : LaneId) : Dev :=
  if d.on l.ALIGNED then (d.clear l.ALIGNED).raise (l.fld 0x2C 6 1) else d

/-- What the decoder judges one codeword (R387): `errs` symbol errors. -/
def judgeFec (l : LaneId) (errs : Nat) (d : Dev) : Dev :=
  let s := d.laneSt l
  let top := if d.laneCoder l = 2 then 7 else 15
  let testing := !d.on l.ALIGNED && (d.ctlOn l.AUTO_ALIGN || l.isPort)
  let d1 :=
    if testing ∨ errs = 0 then d
    else if errs ≤ top then d.count (l.fld 0x58 0 32)
    else
      let a := (d.count (l.fld 0x5C 0 32)).raise (l.fld 0x2C 10 1)
      match l with
      | .port m => a.raise (Reg.PORT_EVT_FEC_UNCORR (m.val / 4))
      | _ => a
  if errs ≤ top then
    let k := s.good + 1
    if d.on l.ALIGNED then d1.setLane l { s with good := 0, bad := 0 }
    else if 8 ≤ k then (d1.raise l.ALIGNED).setLane l { s with good := 0, bad := 0 }
    else d1.setLane l { s with good := k, bad := 0 }
  else
    let k := s.bad + 1
    if d.on l.ALIGNED then
      if 4 ≤ k then ((d1.setLane l { s with good := 0, bad := 0 }).alignLost l).huntOn l
      else d1.setLane l { s with good := 0, bad := k }
    else (d1.setLane l { s with good := 0, bad := 0 }).huntOn l

/-- The state after one code group in the synchronization of Clause 36 (R388): 0 loss of
synchronization, 1 to 5 the acquisition, 6 to 9 synchronized with none to three bad groups outstanding,
with the run of good groups. `kind`: 0 data, 1 a comma, 2 another control character. -/
def clause36 (state good : Nat) (bad : Bool) (kind : Nat) : Nat × Nat :=
  if state = 0 then (if !bad ∧ kind = 1 then 1 else 0, 0)
  else if state = 1 ∨ state = 3 ∨ state = 5 then (if !bad ∧ kind = 0 then state + 1 else 0, 0)
  else if state = 2 ∨ state = 4 then
    if bad then (0, 0) else if kind = 1 then (state + 1, 0) else (state, 0)
  else if bad then (if state = 9 then (0, 0) else (state + 1, 0))
  else if state = 6 then (6, 0)
  else if good = 3 then (state - 1, 0)
  else (state, good + 1)

/-- What the 8B10B decoder judges one code group (R388). -/
def judge8b10b (l : LaneId) (bad : Bool) (kind : Nat) (d : Dev) : Dev :=
  let s := d.laneSt l
  let r := clause36 s.align s.good bad kind
  let d1 := d.setLane l { s with align := r.1, good := r.2 }
  if 6 ≤ r.1 then d1.raise l.ALIGNED
  else
    let d2 := if 6 ≤ s.align then d1.alignLost l else d1.clear l.ALIGNED
    if r.1 = 0 then d2.huntOn l else d2

/-- What the 64B66B decoder judges one sync header (R388): lock after 64 valid headers, loss at 16 invalid
headers within 64. -/
def judge64b66b (l : LaneId) (bad : Bool) (d : Dev) : Dev :=
  let s := d.laneSt l
  let k := s.good + 1
  if d.on l.ALIGNED then
    let b := s.bad + (if bad then 1 else 0)
    if 16 ≤ b then ((d.setLane l { s with good := 0, bad := 0 }).alignLost l).huntOn l
    else if 64 ≤ k then d.setLane l { s with good := 0, bad := 0 }
    else d.setLane l { s with good := k, bad := b }
  else if bad then (d.setLane l { s with good := 0, bad := 0 }).huntOn l
  else if 64 ≤ k then (d.raise l.ALIGNED).setLane l { s with good := 0, bad := 0 }
  else d.setLane l { s with good := k, bad := 0 }

/-- CODEWORD_ALIGN: the decoder judges one codeword (its symbol errors), one code group or one sync
header (invalid when `errs` is not 0) (R387, R388). -/
def codewordAlign (l : LaneId) (errs : Nat) (kind : Fin 3) (d : Dev) : Dev :=
  if !(3 ≤ d.lstate l && d.lstate l ≤ 5) ∨ !d.laneAwake l then d
  else if d.laneCoder l = 1 ∨ d.laneCoder l = 2 then judgeFec l errs d
  else if d.laneCoder l = 3 then judge8b10b l (errs != 0) kind.val d
  else if d.laneCoder l = 4 then judge64b66b l (errs != 0) d
  else d

/-! ## The fabric attachment -/

/-- The fabric behind the lane's attachment exchanges words: its region runs an image that enables the
attachment (R389, R391). -/
def laneOpen (d : Dev) (l : LaneId) : Bool :=
  match l.attach with
  | none => false
  | some (n, i) => d.runs n && d.cfg n 3629 (8 * i) 1 == 1

/-- ALIGNED, LANE_UP and LANE_RETIRED as a lane presents them to its region (R389). -/
def laneSignals (d : Dev) (l : LaneId) : Bool × Bool × Bool :=
  (d.on l.ALIGNED, (d.lstate l == 4 || d.lstate l == 5) && d.on l.ALIGNED, d.lstate l == 6)

/-- Edge E of a swap of region `n`: the FIFOs of its lanes are emptied (R391). -/
def laneFlush (d : Dev) (n : Nat) : Dev :=
  (lanesAt n).foldl (fun a l => a.setLane l { a.laneSt l with rx := [], tx := [] }) d

/-- The recovered word clock `k` of region `n` runs: its lane is CDR-locked (R389). -/
def recoveredRuns (d : Dev) (n k : Nat) : Bool :=
  match (lanesAt n)[k]? with
  | some l => d.on l.CDR_LOCK && d.laneAwake l
  | none => false

/-! ## Patterns and injection -/

/-- A port lane whose port is enabled takes no test (R396). -/
def portTestDenied (d : Dev) (l : LaneId) : Bool :=
  match l with
  | .port m => d.on (Reg.PORT_CTL_ENABLE (m.val / 4))
  | _ => false

/-- A write of `w` to PAT_CTL is in range (R392, R396). -/
def patCtlOk (d : Dev) (l : LaneId) (w : Word) : Bool :=
  !d.portTestDenied l && fieldOf w 0 4 ≤ 8 && fieldOf w 4 4 ≤ 8
    && (d.lanePam4 l || (fieldOf w 0 4 != 7 && fieldOf w 4 4 != 7))

/-- The taps of a pattern's shift register: its length and the other exponents (R392). -/
def prbsTaps (p : Nat) : Nat × List Nat :=
  match p with
  | 1 => (7, [6]) | 2 => (9, [5]) | 3 => (13, [12, 2, 1]) | 4 => (15, [14]) | 5 => (23, [18])
  | 6 => (31, [28]) | _ => (13, [12, 2, 1])

/-- PAT_CTL has been written (R392): the checker loses its lock, and a generator that changes its pattern
starts from a state of its own (USER_PAT from bit 0). -/
def patCtlWritten (l : LaneId) (old : Word) (d : Dev) : Dev :=
  let d1 := d.clear l.CHK_LOCKED
  let g := d1.get l.GEN
  if g = fieldOf old 0 4 ∨ g = 0 then d1
  else if g = 8 then d1.setLane l { d1.laneSt l with gen := 0 }
  else
    let r := d1.freeBelow (2 ^ (prbsTaps g).1 - 1)
    r.2.setLane l { r.2.laneSt l with gen := r.1 + 1 }

/-- CHK_LOCK: 64 consecutive bits without an error (R392). -/
def chkLock (l : LaneId) (d : Dev) : Dev :=
  if 3 ≤ d.lstate l ∧ d.lstate l ≤ 5 ∧ d.laneAwake l ∧ d.ctl l.CHK ≠ 0 then d.raise l.CHK_LOCKED else d

/-- INJ_CTL.GO (R393): BUSY on a retired or disabled lane and while an injection runs. -/
def injGoEff (l : LaneId) (d : Dev) : Dev × Code :=
  let s := d.laneSt l
  if d.portTestDenied l then (d, .targetErr)
  else if d.lstate l = 0 ∨ d.lstate l = 6 ∨ s.inj ≠ 0 then (d, .busy)
  else
    let m := d.get (l.fld 0x44 0 2)
    let len := if m = 1 then 1 else if m = 2 then d.get (l.fld 0x44 2 8) else 0
    let d1 := d.setLane l { s with inj := m, injLeft := len, injAt := 0 }
    (if m = 1 ∨ m = 2 then d1.raise (l.fld 0x44 15 1) else d1, .ok)

/-- INJ_CTL has been written: MODE 0b00 ends an injection at a rate (R393). -/
def injCtlWritten (l : LaneId) (d : Dev) : Dev :=
  let s := d.laneSt l
  if s.inj = 3 ∧ d.get (l.fld 0x44 0 2) = 0 then d.setLane l { s with inj := 0, injAt := 0 } else d

/-- INJECTION_DONE: the bits of a single or burst injection have gone (R393). -/
def injectionDone (l : LaneId) (d : Dev) : Dev :=
  let s := d.laneSt l
  if s.inj = 1 ∨ s.inj = 2 then (d.setLane l { s with inj := 0, injLeft := 0 }).clear (l.fld 0x44 15 1) else d

/-! ## Power and resets -/

/-- A data-plane reset ends retirement: the lane is DISABLED (R383, R487). -/
def laneReset (d : Dev) (l : LaneId) : Dev :=
  (((d.laneQuiet l).set l.STATE 0).clear (l.fld 0x44 15 1)).setLane l {}

/-- The quad of domain `dom` (48 to 79) enters D2 or D3: its lanes are held in DISABLED, and in D3 their
registers and the PLLs' take their reset values (R383, R403). Retirement stays. -/
def quadSleep (d : Dev) (dom : Nat) (off : Bool) : Dev :=
  let q := dom - 48
  let d1 := (lanesOf q).foldl (fun a l =>
    let b := a.laneDisable l
    if !off then b
    else
      let st := b.lstate l
      let c := (List.range 26).foldl
        (fun x i => x.putWord (l.base + 4 * i) (resetWord (l.base + 4 * i))) b
      (c.setLane l {}).set l.STATE st) d
  if !off then d1.pllShow q
  else
    let d2 := (List.range 4).foldl
      (fun x i => x.putWord (pllBase q + 4 * i) (resetWord (pllBase q + 4 * i))) d1
    { d2 with plls := SMap.put 0 (SMap.put 0 d2.plls (2 * q) 0) (2 * q + 1) 0 }

/-- The quad of domain `dom` returns from D2 or D3: each enabled lane passes PLL_WAIT (R403). -/
def quadWake (d : Dev) (dom : Nat) : Dev :=
  ((lanesOf (dom - 48)).foldl (fun a l =>
    if a.on l.EN ∧ a.lstate l = 0 then a.lanePllWait l false else a) d).pllShow (dom - 48)

end Dev

end Sys2Proof.Machine
end

