-- ==== Sys2Proof/Machine/Clock.lean ====
section
/-! DEFINITION. The root clock, the fabric clock synthesizers and the clock networks (R185 to R208):
the root's lock, APPLY, loss of lock, glitch-free buffer switches, ring oscillators, and the clock
edges of the fabric. -/

namespace Sys2Proof.Machine

namespace Dev

/-! ## The root -/

/-- The root synthesizer locks for the first time (R186, R197): ROOT_CNT runs from here, and the
management group moves from the internal oscillator to the root. After a loss the root comes back
by `rootReturn` alone (R196). -/
def rootLock (d : Dev) : Dev :=
  if d.on Reg.CLK_STS_ROOT_LOCK ∨ d.rootLost then d
  else ((({ d with rootT0 := d.time }).raise Reg.CLK_STS_ROOT_LOCK).raise Reg.CLK_STS_ROOTCLK_OK).clear
    Reg.CLK_STS_ON_INTOSC

/-! ## Synthesizers -/

/-- The state of synthesizer `s`. -/
def fsSt (d : Dev) (s : Nat) : FsSt := SMap.get {} d.fs s

/-- The device with a synthesizer's state replaced. -/
def setFs (d : Dev) (s : Nat) (x : FsSt) : Dev := { d with fs := SMap.put {} d.fs s x }

/-- The state of global buffer `g`. -/
def gckSt (d : Dev) (g : Nat) : GckSt := SMap.get {} d.gck g

/-- The device with a buffer's state replaced. -/
def setGck (d : Dev) (g : Nat) (x : GckSt) : Dev := { d with gck := SMap.put {} d.gck g x }

/-- LOCK of synthesizer `s`, in FS_STS and in CLK_STS.FS_LOCK. -/
def setLock (d : Dev) (s : Nat) (b : Bool) : Dev :=
  (d.setBit (Reg.FS_STS_LOCK s) b).setMask Reg.CLK_STS_FS_LOCK s b

/-- A buffer starts to switch to source `src` (R202). -/
def gckStart (d : Dev) (g src : Nat) (toAlt : Bool) : Dev :=
  (d.setGck g { d.gckSt g with target := src, toAlt := toAlt, autoDue := false }).raise
    (Reg.GCK_SEL_SWITCH_BUSY g)

/-- A buffer moves to ALT on its own: ON_ALT and GCK_AUTO are set (R202). -/
def gckToAlt (d : Dev) (g : Nat) : Dev :=
  ((d.gckStart g (d.get (Reg.GCK_SEL_ALT g)) true).raise (Reg.GCK_SEL_ON_ALT g)).raise
    Reg.CLK_EVT_GCK_AUTO

/-- The outputs of synthesizer `s` have stopped: every buffer whose SRC is one of them and whose
AUTO_ALT is 1 moves to ALT (R202, R206); one that is switching to SRC does so at the end of its switch. A buffer
whose GCK_SEL is written in the same cycle, one of `written`, follows the write (R206).
In the block's safe state no switch starts (R207). -/
def gckAuto (d : Dev) (s : Nat) (written : List (Fin 32)) : Dev :=
  if d.safe Reg.CLK_STS then d
  else
    (List.finRange 32).foldl (fun a (g : Fin 32) =>
      if a.get (Reg.GCK_SEL_SRC g) / 4 = s ∧ a.get (Reg.GCK_SEL_SRC g) < 64
          ∧ a.on (Reg.GCK_SEL_AUTO_ALT g) ∧ !written.contains g then
        (if a.on (Reg.GCK_SEL_SWITCH_BUSY g) then
          (if (a.gckSt g).toAlt then a else a.setGck g { a.gckSt g with autoDue := true })
         else if a.on (Reg.GCK_SEL_ON_ALT g) then a
         else a.gckToAlt g)
      else a) d

/-- APPLY is accepted: the measurement of the input starts with the staged settings (R200). A relock in progress
does not end before it (R201). -/
def applyEff (s : Fin 16) (d : Dev) : Dev × Code :=
  if d.on (Reg.FS_STS_APPLY_BUSY s) then (d, .busy)
  else
    ((d.setFs s { d.fsSt s with
        measuring := some (d.word (Reg.FS_CTL s), d.word (Reg.FS_DIV s), d.word (Reg.FS_ODIV s)) }
      ).raise (Reg.FS_STS_APPLY_BUSY s), .ok)

/-- M of FS_DIV: 0 stands for 64. -/
def divM (w : Word) : Nat := if fieldOf w 0 6 = 0 then 64 else fieldOf w 0 6

/-- An output divider: 0 stands for 256. -/
def divO (w : Word) (k : Nat) : Nat := if fieldOf w (8 * k) 8 = 0 then 256 else fieldOf w (8 * k) 8

/-- The settings keep the limits of R199 with an input of `khz` kHz. The limit of a word clock (R137) refuses none
(log 124). -/
def limitsHold (set : Word × Word × Word) (khz : Nat) : Bool :=
  let m := divM set.2.1
  let n := fieldOf set.2.1 6 9
  let outs := fieldOf set.1 2 4
  let src := fieldOf set.1 6 2
  (src == 0 || (src == 1 && fieldOf set.1 8 8 < 8) || (src == 2 && fieldOf set.1 8 8 < 136))
    && 4000 * m ≤ khz && khz ≤ 200000 * m && 8 ≤ n
    && 3200000 * m ≤ khz * n && khz * n ≤ 6400000 * m
    && (List.range 4).all (fun k =>
      divO set.2.2 k != 1
        && (!outs.testBit k || khz * n ≤ 1000000 * m * divO set.2.2 k))

/-- The lane whose recovered reference SRC_SEL names (R199). -/
def recoveredLane (sel : Nat) : Option LaneId :=
  if sel < 64 then some (.line (Fin.ofNat 64 sel))
  else if sel < 128 then some (.heritage (Fin.ofNat 64 sel))
  else if sel < 136 then some (.port (Fin.ofNat 8 sel))
  else none

/-- The input that the settings choose, as it is measured (R199): the reference feed shows 100 MHz while the root
is locked, a recovered reference shows edges while its lane is CDR-locked, and SRC 0b11 has none. `present` and
`khz`: what a clock pin or a lane shows. -/
def fsInput (d : Dev) (set : Word × Word × Word) (present : Bool) (khz : Nat) : Option Nat :=
  match fieldOf set.1 6 2 with
  | 0 => if d.on Reg.CLK_STS_ROOT_LOCK then some 100000 else none
  | 1 => if present ∧ fieldOf set.1 8 8 < 8 then some khz else none
  | 2 =>
    match recoveredLane (fieldOf set.1 8 8) with
    | some l => if present ∧ d.on l.CDR_LOCK ∧ d.laneAwake l then some khz else none
    | none => none
  | _ => none

/-- The measurement of an APPLY ends (R200): it is refused with APPLY_ERR, or the outputs stop and
the synthesizer relocks with the new settings. -/
def fsApplyMeasured (s : Fin 16) (present : Bool) (khz : Nat) (d : Dev) : Dev :=
  let x := d.fsSt s
  match x.measuring with
  | none => d
  | some set =>
    let input := d.fsInput set present khz
    let d1 := (d.set (Reg.FS_STS_IN_MHZ s) (input.getD 0 / 1000)).setBit
      (Reg.FS_STS_SRC_PRESENT s) input.isSome
    if input.any (limitsHold set) then
      (((d1.setFs s { x with applied := some set, measuring := none, running := 0, relock := true
                             waitInput := false, before := x.applied }).setLock s false).clear
        (Reg.FS_STS_APPLY_ERR s)).gckAuto s []
    else
      (((d1.setFs s { x with measuring := none }).raise (Reg.FS_STS_APPLY_ERR s)).clear
        (Reg.FS_STS_APPLY_BUSY s)).raise Reg.CLK_EVT_APPLY_DONE

/-- OUT_EN of synthesizer `s` as it is in force (R207). -/
def outEn (d : Dev) (s : Nat) : Nat := fieldOf (d.inForce (Reg.FS_CTL s)) 2 4

/-- The synthesizer locks (R200): its enabled outputs start, LOCK is set, and an APPLY is done. One
on a root feed needs the root, and a relock ends only when no APPLY measures (R201). -/
def fsLock (s : Fin 16) (d : Dev) : Dev :=
  let x := d.fsSt s
  match x.applied with
  | none => d
  | some set =>
    if !x.relock ∨ x.measuring.isSome ∨ (fieldOf set.1 6 2 = 0 ∧ !d.on Reg.CLK_STS_ROOT_LOCK) then d
    else
      let d1 := (d.setFs s { x with relock := false, running := d.outEn s }).setLock s true
      if d1.on (Reg.FS_STS_APPLY_BUSY s) then
        (d1.clear (Reg.FS_STS_APPLY_BUSY s)).raise Reg.CLK_EVT_APPLY_DONE
      else d1

/-- A locked synthesizer's input stops, or with `drift` drifts (R201): its outputs stop, LOCK clears, FS_LOL and
LAST_FS record it, and the buffers follow. -/
def fsLost (s : Fin 16) (drift : Bool) (written : List (Fin 32)) (d : Dev) : Dev :=
  if !d.on (Reg.FS_STS_LOCK s) then d
  else
    let d1 := (d.setFs s { d.fsSt s with running := 0, waitInput := true }).setLock s false
    (((if drift then d1 else d1.clear (Reg.FS_STS_SRC_PRESENT s)).raise Reg.CLK_EVT_FS_LOL).set
      Reg.CLK_STS_LAST_FS s).gckAuto s written

/-- The applied settings take the reference feed, which the root makes (R199). -/
def onRootFeed (d : Dev) (s : Nat) : Bool :=
  match (d.fsSt s).applied with
  | some x => fieldOf x.1 6 2 == 0
  | none => false

/-- FS_LOL: the input of a locked synthesizer stops or drifts; a reference feed does so with the root alone. -/
def fsLol (s : Fin 16) (drift : Bool) (written : List (Fin 32)) (d : Dev) : Dev :=
  if d.onRootFeed s then d else d.fsLost s drift written

/-- The input of a synthesizer that lost it returns: it relocks with its applied settings (R201). A reference
feed returns with the root. -/
def fsInputReturn (s : Fin 16) (d : Dev) : Dev :=
  let x := d.fsSt s
  if !x.waitInput ∨ (d.onRootFeed s ∧ !d.on Reg.CLK_STS_ROOT_LOCK) then d
  else (d.setFs s { x with waitInput := false, relock := true }).raise (Reg.FS_STS_SRC_PRESENT s)

/-- OUT_EN has been written: the outputs of a locked synthesizer start or stop (R200). -/
def outEnWritten (s : Nat) (d : Dev) : Dev :=
  if d.on (Reg.FS_STS_LOCK s) then d.setFs s { d.fsSt s with running := d.outEn s } else d

/-! ## Global buffers -/

/-- GCK_SEL of network `g` has been written, SRC having held `old` (R202): the buffer switches to SRC
when SRC changes, or when it ran from ALT. -/
def gckWritten (g old : Nat) (d : Dev) : Dev :=
  let src := d.get (Reg.GCK_SEL_SRC g)
  if src ≠ old ∨ d.on (Reg.GCK_SEL_ON_ALT g) then d.gckStart g src false else d

/-- A buffer switch completes (R202): the new source is passed and GCK_SWITCH_DONE is set. A loss of
the SRC synthesizer during the switch then moves the buffer to ALT. -/
def gckSwitchDone (g : Fin 32) (d : Dev) : Dev :=
  if !d.on (Reg.GCK_SEL_SWITCH_BUSY g) then d
  else
    let x := d.gckSt g
    let d1 := (((d.setGck g { x with cur := x.target, autoDue := false }).clear
      (Reg.GCK_SEL_SWITCH_BUSY g)).setBit (Reg.GCK_SEL_ON_ALT g) x.toAlt).raise
      Reg.CLK_EVT_GCK_SWITCH_DONE
    if x.autoDue ∧ !x.toAlt ∧ d1.on (Reg.GCK_SEL_AUTO_ALT g)
        ∧ !d1.on (Reg.FS_STS_LOCK (d1.get (Reg.GCK_SEL_SRC g) / 4)) then d1.gckToAlt g
    else d1

/-- Every APPLY and switch in progress is abandoned (R206): the applied settings are those before the APPLY, to
which a synthesizer whose outputs have stopped relocks, and the sources stay as they were. -/
def abandonClocks (d : Dev) : Dev :=
  let d1 := (List.range 16).foldl (fun a s =>
    if a.on (Reg.FS_STS_APPLY_BUSY s) then
      let x := a.fsSt s
      let y := if x.measuring.isSome then { x with measuring := none }
        else { x with applied := x.before, relock := x.before.isSome }
      (a.setFs s y).clear (Reg.FS_STS_APPLY_BUSY s)
    else a) d
  (List.range 32).foldl (fun a g =>
    if a.on (Reg.GCK_SEL_SWITCH_BUSY g) then a.clear (Reg.GCK_SEL_SWITCH_BUSY g) else a) d1

/-- Written sources that an abandoned switch left behind take effect (R206). -/
def resumeSources (d : Dev) : Dev :=
  (List.range 32).foldl (fun a g =>
    let src := a.get (if a.on (Reg.GCK_SEL_ON_ALT g) then Reg.GCK_SEL_ALT g else Reg.GCK_SEL_SRC g)
    a.setGck g { a.gckSt g with cur := src, target := src }) d

/-! ## Ring oscillators and networks -/

/-- Ring oscillator `r` runs, by its setting in force (R198, R207). -/
def ringRuns (d : Dev) (r : Nat) : Bool := fieldOf (d.inForce (Reg.RING_CTL r)) 0 1 == 1

/-- MEAS_MHZ takes the ring oscillator's frequency, measured against the root (R198). -/
def ringMeasure (r : Fin 4) (mhz : Nat) (d : Dev) : Dev :=
  if d.on Reg.CLK_STS_ROOT_LOCK ∧ d.ringRuns r then d.set (Reg.RING_CTL_MEAS_MHZ r) mhz else d

/-- A global buffer's source runs (R202). -/
def sourceRuns (d : Dev) (src : Nat) : Bool :=
  if src < 64 then (d.fsSt (src / 4)).running.testBit (src % 4) else src < 72

/-- The level of regional network `j` of region `n` where it is fabric-made: QA of cell 0 of cluster (31, 8j)
(R204). -/
def rckHigh (d : Dev) (n j : Nat) : Bool := d.value (.out n (512 * j + 31) 0)

/-- Regional network `j` of region `n` can have an edge as plane `p` sets it (R204): a fabric-made clock of the
active image has one due when its level has changed, the input of an I/O cell that the region has may have one at
any time, and an attachment clock while it runs. -/
def rckRuns (d : Dev) (n p j : Nat) : Bool :=
  let sel := d.cfgAt n p 3584 (18 + 8 * j) 6
  match d.cfgAt n p 3584 (16 + 8 * j) 2 with
  | 1 => p == d.activePlane n && d.hasImage n && d.rckHigh n j != (d.rgnSt n).rckLevel.testBit j
  | 2 => decide (sel < ioCells n)
  | 3 => d.recoveredRuns n sel
  | _ => false

/-- A clock network can have an edge as plane `p` of its region sets it: its source is not one that R202 to R204
stop. -/
def netRunsAt (d : Dev) (p : Nat) (net : Net) : Bool :=
  match net with
  | .gck g => d.sourceRuns (d.gckSt g.val).cur
  | .rck n j => d.rckRuns n.val p j.val
  | .ring r => d.ringRuns r.val
  | .stopped => false

/-- A clock network can have an edge. -/
def netRuns (d : Dev) (net : Net) : Bool :=
  match net with
  | .rck n _ => d.netRunsAt (d.activePlane n.val) net
  | _ => d.netRunsAt 0 net

/-- An edge of network number `k` reaches an element of region `n` now: the network runs, and the region is
clocked (R189, R203, R402, R485). -/
def clockReaches (d : Dev) (n : Region) (k : Nat) : Bool := d.clocked n.val && d.netRuns (netOf n k)

/-- The network that region `n`'s clock in plane `p` selects makes edges there (R203, R204, R220, R402). -/
def rclkRuns (d : Dev) (n : Region) (p : Nat) : Bool :=
  d.domState (regionDom n.val) == 0 && d.netRunsAt p (netOf n (d.rclk n.val p))

/-! ## Clock edges -/

/-- The output of a synthesizer that a network passes, with its divider (R202). -/
def netOutput (d : Dev) (net : Net) : Option (Nat × Nat) :=
  match net with
  | .gck g =>
    let src := (d.gckSt g.val).cur
    if src < 64 then (d.fsSt (src / 4)).applied.map (fun x => (src / 4, divO x.2.2 (src % 4))) else none
  | _ => none

/-- The fast clock and the word clock of an I/O cell of `w` bits come from one synthesizer in the ratio that R136
asks for: `w` / 2. -/
def ioRatio (d : Dev) (n : Region) (c w : Nat) : Bool :=
  match d.netOutput (netOf n (d.cfg n.val 3588 3584 6)), d.netOutput (netOf n (d.ioBits n.val c 19 6)) with
  | some f, some x => f.1 == x.1 && 2 * x.2 == w * f.2
  | _, _ => false

/-- One sample of an I/O cell at an edge of `net`: the pin's level is noted. A serializer or deserializer on this
word clock steps while its fast clock, FCLK_SRC, runs; in a wrong ratio of the two clocks its words come
incomplete or repeated, and are free (R136, log 3). In bypass D_OUT[0] reaches the pin, and the pin D_IN[0], with
no register. -/
def ioEdge (net : Net) (falling : Bool) (d : Dev) (x : IoSample) : Dev :=
  let n := x.region.val
  let c := x.cell.val
  if c ≥ ioCells n then d
  else
    let d1 := { d with pins := SMap.put none d.pins (n * 64 + c) x.pin }
    let s := { d1.ioSt n c with level := d1.pinLevel n c }
    let d2 := d1.setIo n c s
    let w := d2.ioWidth n c
    if w = 0 then
      let d3 := d2.setIo n c { s with txNow := x.dout % 2, oe := x.oe }
      d3.setIo n c { d3.ioSt n c with din := bit01 (d3.pinLevel n c), level := d3.pinLevel n c }
    else if !falling && !d2.holdOn n && d2.clocked n && decide (netOf x.region (d2.ioBits n c 19 6) = net)
        && d2.netRuns (netOf x.region (d2.cfg n 3588 3584 6)) then
      let t := ioStep w x s
      if d2.ioRatio x.region c w then d2.setIo n c t
      else
        let a := d2.freeBelow (2 ^ w)
        let b := a.2.freeBelow (2 ^ w)
        b.2.setIo n c { t with txNow := a.1, din := b.1 }
    else d2

/-- An active edge of a fabric clock network, rising or falling (R105, R129, R137): every element
of every clocked region on that network takes its next value from the values before the edge. `hazards`
lists the flip-flops whose set/reset was released inside the recovery window (R106). -/
def clockEdge (net : Net) (falling : Bool) (samples : List IoSample) (hazards : List Nat)
    (d : Dev) : Dev :=
  let regions := (List.finRange 128).filter (fun n => d.clocked n.val)
  let ff := regions.foldl (fun m n =>
    (d.ffKeys n.val (d.activePlane n.val)).foldl (fun m k =>
      let pick := if hazards.contains k then some (Config.freeBit (d.fresh + k)) else none
      SMap.put false m k
        (d.ffNext n (k % 131072 / 32) (k % 32 / 2) (k % 2) net falling pick)) m) d.ff
  let bin := regions.foldl (fun m n =>
    (d.inboundKeys n.val (d.activePlane n.val)).foldl (fun m k =>
      SMap.put false m k (d.inboundNext n k net falling)) m) d.borderIn
  let d1 := { d with ff := ff, borderIn := bin
                     fresh := if hazards = [] then d.fresh else d.fresh + 2 ^ 24 }
  let d2 := samples.foldl (ioEdge net falling) d1
  if falling then d2 else regions.foldl (regionEdge d net) d2

/-- The level of a fabric-made clock follows its source (R204). -/
def rckFollow (net : Net) (d : Dev) : Dev :=
  match net with
  | .rck n j =>
    if d.cfg n.val 3584 (16 + 8 * j.val) 2 = 1 then
      let st := d.rgnSt n.val
      d.setRgn n.val { st with rckLevel := st.rckLevel ^^^ 2 ^ j.val }
    else d
  | _ => d

/-- An edge of this direction is the one that comes next: a fabric-made clock rises where its source is now high
(R204). -/
def edgeDue (d : Dev) (net : Net) (falling : Bool) : Bool :=
  match net with
  | .rck n j => d.cfg n.val 3584 (16 + 8 * j.val) 2 != 1 || d.rckHigh n.val j.val != falling
  | _ => true

/-- ACTIVE_CLOCK_EDGE: an edge of a network that runs (R105, R129, R137). -/
def activeClockEdge (net : Net) (falling : Bool) (samples : List IoSample) (hazards : List Nat)
    (d : Dev) : Dev :=
  if d.netRuns net ∧ d.edgeDue net falling then (d.clockEdge net falling samples hazards).rckFollow net else d

end Dev

end Sys2Proof.Machine
end

