-- ==== Sys2Proof/Machine/BlockMem.lean ====
section
/-! DEFINITION. The block memories' ports (R143 to R158): the block record, item widths and
layouts, same-edge access, retained requests, read data, and the fill of a release; and the accesses to
memory that are not the fabric's: scrubbing, the verify read and the march test. An edge of a
port's clock is one request command, and after it one read-data command of that port. -/

namespace Sys2Proof.Machine

namespace Dev

/-! ## The block record -/

/-- A field of block `j`'s record in plane `p` (R160, R211). -/
def bmBitsAt (d : Dev) (n p j b w : Nat) : Nat := d.cfgAt n p 3588 (32 * j + b) w

/-- A field of block `j`'s record in the active plane. -/
def bmBits (d : Dev) (n j b w : Nat) : Nat := d.bmBitsAt n (d.activePlane n) j b w

/-- Where a port's fields start in the record: port A at bit 0, port B at bit 8. -/
def bmPortBase (portB : Bool) : Nat := if portB then 8 else 0

/-- The port's width in bits; 0b110 and 0b111 act as ×32 (R160). -/
def bmWidth (d : Dev) (n j : Nat) (portB : Bool) : Nat :=
  match d.bmBits n j (bmPortBase portB) 3 with
  | 0 => 1 | 1 => 2 | 2 => 4 | 3 => 8 | 4 => 16 | _ => 32

/-- The port's layout is SPREAD. -/
def bmSpread (d : Dev) (n j : Nat) (portB : Bool) : Bool :=
  d.bmBits n j (bmPortBase portB + 3) 1 == 1

/-- The port is sub-byte PACKED: it only reads (R146). -/
def bmReadOnly (d : Dev) (n j : Nat) (portB : Bool) : Bool :=
  d.bmWidth n j portB < 8 && !d.bmSpread n j portB

/-- A port's read latency in edges (R148). -/
def bmLatency (d : Dev) (n j : Nat) (portB : Bool) : Nat :=
  1 + d.bmBits n j (bmPortBase portB + 4) 1

/-- DOUT_ON_WRITE of the port. -/
def bmKeepOnWrite (d : Dev) (n j : Nat) (portB : Bool) : Bool :=
  d.bmBits n j (bmPortBase portB + 5) 1 == 1

/-- The slice whose generator drives the port's address, if one does (R155, R156). -/
def bmAddrSlice (d : Dev) (n j : Nat) (portB : Bool) : Option Nat :=
  let lo := 3 * (j / 4) + j % 4 / 2
  match d.bmBits n j (bmPortBase portB + 6) 2 with
  | 1 => some lo
  | 2 => some (lo + 1)
  | _ => none

/-- The state of a slice of region `n`. -/
def sliceSt (d : Dev) (n s : Nat) : SliceSt := SMap.get {} d.slice (n * 48 + s)

/-- The request as the block takes it: a generator's AG_ADDR replaces the fabric's address. -/
def bmAddressed (d : Dev) (n j : Nat) (portB : Bool) (r : BmReq) : BmReq :=
  match d.bmAddrSlice n j portB with
  | some s => { r with addr := (d.sliceSt n s).agAddr }
  | none => r

/-! ## Port clocks -/

/-- The number of the clock network of a port: CLKA_SRC, and CLKB_SRC in independent-clock mode (R160). -/
def bmClock (d : Dev) (n j : Nat) (portB : Bool) : Nat :=
  if portB ∧ d.bmBits n j 16 1 = 1 then d.bmBits n j 23 6 else d.bmBits n j 17 6

/-- An edge of the port's clock reaches block `j` of region `n` now (R152, R203). -/
def bmPortRuns (d : Dev) (n : Region) (j : Nat) (portB : Bool) : Bool :=
  d.clockReaches n (d.bmClock n j portB)

/-- Block memory `b` has port cycles: the clock of a port runs (R158, R289). -/
def bmTicks (d : Dev) (b : Nat) : Bool :=
  let n : Region := Fin.ofNat 128 (b / 64)
  d.bmPortRuns n (b % 64) false || d.bmPortRuns n (b % 64) true

/-- The ports of the blocks that `hit` picks return nothing and hold nothing: a hold is asserted over them
(R152). -/
def bmQuiet (hit : Nat → Bool) (d : Dev) : Dev :=
  { d with bm := SMap.remap (fun _ => {}) (fun b s =>
      if hit b then
        { s with a := { s.a with flight := [], rvalid := false }
                 b := { s.b with flight := [], rvalid := false }, retained := none }
      else s) d.bm }

/-! ## Items -/

/-- The word that a request selects (R145). -/
def bmWord (d : Dev) (n j : Nat) (portB : Bool) (r : BmReq) : Nat :=
  let w := d.bmWidth n j portB
  if d.bmReadOnly n j portB then r.addr / (32 / w) % 2048
  else if w ≤ 8 then r.addr / 4 % 2048
  else if w = 16 then r.addr / 2 % 2048
  else r.addr % 2048

/-- The first bit of the item in its word (R145). -/
def bmItemLsb (d : Dev) (n j : Nat) (portB : Bool) (r : BmReq) : Nat :=
  let w := d.bmWidth n j portB
  if d.bmReadOnly n j portB then w * (r.addr % (32 / w))
  else if w ≤ 8 then 8 * (r.addr % 4)
  else if w = 16 then 16 * (r.addr % 2)
  else 0

/-- The bytes of its word that a write stores, each with its data (R147). -/
def bmWritten (d : Dev) (n j : Nat) (portB : Bool) (r : BmReq) : List (Nat × Byte) :=
  let w := d.bmWidth n j portB
  let first := d.bmItemLsb n j portB r / 8
  let byteOf := fun i => BitVec.ofNat 8 (r.din.toNat / 2 ^ (8 * i))
  if w = 32 ∨ w = 16 then
    (List.range (w / 8)).filterMap (fun i =>
      if r.be.testBit i then some (first + i, byteOf i) else none)
  else [(first, BitVec.ofNat 8 (r.din.toNat % 2 ^ w))]

/-- The bytes of its word that a read's item covers. -/
def bmCovered (d : Dev) (n j : Nat) (portB : Bool) (r : BmReq) : List Nat :=
  let w := d.bmWidth n j portB
  let first := d.bmItemLsb n j portB r / 8
  (List.range ((w + 7) / 8)).map (first + ·)

/-! ## Executing requests -/

/-- Whether the two requests of one edge meet as R149 compares them: 0 in different banks, 1 in one
bank on different words, 2 on the same word. -/
def bmMeet (d : Dev) (n j : Nat) (a b : BmReq) : Nat :=
  let wa := d.bmWord n j false a
  let wb := d.bmWord n j true b
  if wa = wb then 2 else if wa % 4 = wb % 4 then 1 else 0

/-- A read item is on its way to DOUT: it appears at the port's latency (R148). -/
def bmLaunch (d : Dev) (n j : Nat) (portB : Bool) (item : Nat) (poison : Bool) : Dev :=
  let s := d.bmSt (64 * n + j)
  let e := (d.bmLatency n j portB + 1, item, poison)
  d.setBm (64 * n + j) (if portB then { s with b := { s.b with flight := s.b.flight ++ [e] } }
    else { s with a := { s.a with flight := s.a.flight ++ [e] } })

/-- A read executes: bytes that the other port writes at this edge come as written (write-first),
the others from the array through the checker, as one read of the word (R149, R286). -/
def bmRead (d : Dev) (n j : Nat) (portB : Bool) (r : BmReq) (fresh : List (Nat × Byte)) : Dev :=
  let m := MemUnit.bm (64 * n + j)
  let w := d.bmWidth n j portB
  let word := d.bmWord n j portB r
  let lsb := d.bmItemLsb n j portB r
  let covered := d.bmCovered n j portB r
  let byte := fun (i : Nat) =>
    match fresh.find? (fun f => f.1 == i) with
    | some f => (f.2, false)
    | none => (decodeByte (d.cell m (4 * word + i))).value
  let item := (covered.map (fun i => (byte i).1.toNat * 2 ^ (8 * i))).sum
  (d.checkBytes m (4 * word) (covered.filter (fun i => !fresh.any (fun f => f.1 == i))) true).bmLaunch
    n j portB (item / 2 ^ lsb % 2 ^ w) (covered.any (fun i => (byte i).2))

/-- A write executes: its bytes are stored but those in `mask`, and the port's own DOUT follows
DOUT_ON_WRITE (R147, R148). The rules do not say what DOUT shows for bytes the write does not store: the model shows
the whole item as it was written (DESIGN CHOICE, log 116). -/
def bmWrite (d : Dev) (n j : Nat) (portB : Bool) (r : BmReq) (mask : List Nat) : Dev :=
  let m := MemUnit.bm (64 * n + j)
  let word := d.bmWord n j portB r
  let bytes := (d.bmWritten n j portB r).filter (fun e => !mask.contains e.1)
  let d1 := bytes.foldl (fun a e => a.storeByte m (4 * word + e.1) e.2) d
  if d.bmKeepOnWrite n j portB then d1
  else d1.bmLaunch n j portB (r.din.toNat % 2 ^ d.bmWidth n j portB) false

/-- A write on a port that only reads is ignored and recorded (R146). -/
def bmPackedWrite (d : Dev) (n j : Nat) : Dev :=
  ((d.raise (Reg.BM_EVT_PACKED_WR n)).set (Reg.BM_LAST_BLOCK n) j).raise (Reg.BM_LAST_VALID n)

/-- One request, with the bytes that the other port writes at this edge; `mask` are those bytes when
the other port wins them. -/
def bmExecute (d : Dev) (n j : Nat) (portB : Bool) (r : BmReq) (fresh : List (Nat × Byte)) : Dev :=
  if r.we then d.bmWrite n j portB r (fresh.map (·.1)) else d.bmRead n j portB r fresh

/-- A request that writes on a port that only reads is ignored. -/
def bmScreen (d : Dev) (n j : Nat) (portB : Bool) (r : Option BmReq) : Dev × Option BmReq :=
  match r with
  | none => (d, none)
  | some q =>
    if q.we && d.bmReadOnly n j portB then (d.bmPackedWrite n j, none)
    else (d, some (d.bmAddressed n j portB q))

/-- Both ports' requests of one edge (R149): `b` is port B's request, already addressed. Port A wins
a bank conflict and port B's request is retained and counted as one stalled cycle (R150, R161). -/
def bmServe (d : Dev) (n j : Nat) (a b : Option BmReq) : Dev :=
  match a, b with
  | none, none => d
  | some x, none => d.bmExecute n j false x []
  | none, some y => d.bmExecute n j true y []
  | some x, some y =>
    match d.bmMeet n j x y with
    | 1 =>
      let d1 := d.bmExecute n j false x []
      let d2 := d1.setBm (64 * n + j) { d1.bmSt (64 * n + j) with retained := some y }
      d2.count64 (Reg.BM_STALL_STALLS n 0) (Reg.BM_STALL_STALLS n 1)
    | 2 =>
      if x.we then
        let d1 := d.bmExecute n j true y (d.bmWritten n j false x)
        d1.bmExecute n j false x []
      else if y.we then
        let d1 := d.bmExecute n j false x (d.bmWritten n j true y)
        d1.bmExecute n j true y []
      else (d.bmExecute n j false x []).bmExecute n j true y []
    | _ => (d.bmExecute n j false x []).bmExecute n j true y []

/-- The block's ports take requests: the region holds an image, its clock gate is open, its hold is
not asserted and its domain is in D0 (R152). -/
def bmOpen (d : Dev) (n : Nat) : Bool :=
  d.hasImage n && d.gateOpen n && !d.holdOn n && d.domState (regionDom n) == 0

/-- An edge at which block `j`'s ports sample requests (R149 to R151). In common-clock mode port A's
clock serves both ports, and `edge` does not matter. A retained request takes the place of what
port B presents (R150). A port whose clock is stopped takes nothing, and a retained request stays (R152). -/
def bmPortRequest (n : Region) (j : Fin 64) (edge : PortEdge) (a b : Option BmReq) (d : Dev) :
    Dev :=
  if !d.bmOpen n.val then d
  else
    let key := 64 * n.val + j.val
    let both := d.bmBits n.val j.val 16 1 = 0 ∨ edge = .both
    let ra := if (both ∨ edge = .a) ∧ d.bmPortRuns n j false then a else none
    let kept := (d.bmSt key).retained
    let takesB := (both ∨ edge = .b) ∧ d.bmPortRuns n j true
    let ca := d.bmScreen n.val j.val false ra
    if !takesB then ca.1.bmServe n.val j.val ca.2 none
    else
      match kept with
      | some y =>
        let d1 := ca.1.setBm key { ca.1.bmSt key with retained := none }
        d1.bmServe n.val j.val ca.2 (some y)
      | none =>
        let cb := ca.1.bmScreen n.val j.val true b
        cb.1.bmServe n.val j.val ca.2 cb.2

/-- The edge at which port B's retained request executes, beside port A's request `a` (R150). -/
def bmRetainedExecute (n : Region) (j : Fin 64) (a : Option BmReq) (d : Dev) : Dev :=
  match (d.bmSt (64 * n.val + j.val)).retained with
  | none => d
  | some _ => d.bmPortRequest n j .both a none

/-- Read data at a port's edge (R148): every read in flight comes one edge nearer, and one that
arrives appears on DOUT with RVALID for one cycle. -/
def bmReadData (n : Region) (j : Fin 64) (portB : Bool) (d : Dev) : Dev :=
  let key := 64 * n.val + j.val
  let s := d.bmSt key
  let p := if portB then s.b else s.a
  let next := p.flight.map (fun e => (e.1 - 1, e.2))
  let p' : BmPort := match next.find? (fun e => e.1 == 0) with
    | some e => { flight := next.filter (fun e => e.1 != 0), dout := e.2.1, rvalid := true
                  poison := e.2.2 }
    | none => { p with flight := next, rvalid := false }
  if d.holdOn n.val ∨ !d.bmPortRuns n j portB then d
  else d.setBm key (if portB then { s with b := p' } else { s with a := p' })

/-! ## The fill (R153, R154) -/

/-- Content frame `k` of block `j` in plane `p`, corrected through its code as it is read, and
whether it is uncorrectable. -/
def contentFrame (d : Dev) (n p j k : Nat) : Nat × Bool :=
  let f := 4096 + 16 * j + k
  let c := classify (n * 5120 + f) (d.frame n p f)
  (c.2, c.1 == .uncorrectable)

/-- Block `j` takes the contents that its INIT_MODE gives (R153): zero, the content frames, or what
it holds; `zeroKeep`: a KEEP block is zeroed. What a block is filled with replaces every write-back that waits. -/
def fillBlock (n : Nat) (zeroKeep : Bool) (d : Dev) (j : Nat) : Dev :=
  let p := d.activePlane n
  let m := MemUnit.bm (64 * n + j)
  let lo := cellKey m 0
  let wipe := fun (d : Dev) =>
    { d with
      cells := SMap.only (fun k => !(decide (lo ≤ k ∧ k < lo + m.bytes + m.entries * m.granule))) d.cells
      verify := d.verify.filter (fun v => v.unit != m) }
  match d.bmBits n j 29 2 with
  | 1 =>
    (List.range 16).foldl (fun a k =>
      let c := d.contentFrame n p j k
      if c.2 then
        (List.range 512).foldl (fun a i => a.setCell m (512 * k + i) poisonWord) a
      else if c.1 = 0 then a
      else a.storeBytes m (512 * k) (leBytes 512 c.1)) (wipe d)
  | 2 => if zeroKeep then wipe d else d
  | _ => wipe d

/-- The fill of region `n` starts (R154). It runs its time also where every block is KEEP, which the rule leaves open
(DESIGN CHOICE, log 115). -/
def fillStart (d : Dev) (n : Nat) : Dev := d.raise (Reg.BM_STS_FILL_BUSY n)

/-- The fill completes: its contents are in the blocks, FILL_BUSY clears and FILL_DONE is set. A
start-up release and a wake from D3 zero a KEEP block (R153). A fill that a RETIRE overtakes runs to its end from the
emptied plane (DESIGN CHOICE, log 115). -/
def bmFillDone (n : Region) (d : Dev) : Dev :=
  if !d.on (Reg.BM_STS_FILL_BUSY n.val) then d
  else
    let waking := decide (d.domState (regionDom n.val) = 3)
    let d1 := (List.range 64).foldl (fillBlock n.val ((d.rgnSt n.val).startup || waking)) d
    (d1.clear (Reg.BM_STS_FILL_BUSY n.val)).raise (Reg.BM_EVT_FILL_DONE n.val)

/-! ## The verify read (R295) -/

/-- The verify read of a write-back can be made now: the unit spares an access (R158, R295). -/
def verifyReady (d : Dev) (v : VerifySt) : Bool :=
  match v.unit with
  | .bm b => d.bmTicks b
  | .dram k => d.on Reg.CLK_STS_ROOT_LOCK && !d.chRetired k && decide (d.domState (16 + k) < 2)
  | .hs _ => true

/-- What the verify read of a write-back finds: each byte of the granule as it reads, an uncorrectable one that the
write-back did not write being poisoned and counted (R291), and a fault remapped (R295). -/
def verifyRest (d : Dev) (v : VerifySt) (got : List (Nat × BitVec 13)) : Dev :=
  let own := fun (i : Nat) => v.wrote.find? (fun w => w.1 == i)
  let lost := got.filter (fun e => (own e.1).isNone && decodeByte e.2 == .bad)
  let bad := got.any (fun e =>
    match own e.1 with
    | some w => e.2 != w.2
    | none => (match decodeByte e.2 with | .clean _ => false | _ => e.2 != poisonWord))
  let d1 := lost.foldl (fun a e =>
    (a.poisonFound v.unit (v.addr + e.1)).setCell v.unit (v.addr + e.1) poisonWord) d
  if bad then
    d1.remap v.unit v.addr (got.map (fun e =>
      match own e.1 with
      | some w => w.2
      | none => correctedContent e.2))
  else d1

/-- The verify read of the oldest write-back whose unit spares an access (R295); one that waited for an idle port
cycle is made now (R158), and one of which nothing is left is dropped (R303). `flips` is what the cells do to the
stored codewords when they are read: byte of the granule, and the bits that come back changed. -/
def verifyRead (flips : List (Nat × BitVec 13)) (d : Dev) : Dev :=
  match d.verify.findIdx? d.verifyReady with
  | none => d
  | some i =>
    match d.verify[i]? with
    | none => d
    | some v =>
      let d1 := { d with verify := d.verify.eraseIdx i }
      if v.due ∧ v.wrote = [] then d1
      else
        let d2 := if v.due then v.wrote.foldl (fun a w => a.setCell v.unit (v.addr + w.1) w.2) d1 else d1
        d2.verifyRest v ((List.range v.unit.granule).map (fun k =>
          (k, d2.cell v.unit (v.addr + k) ^^^ flips.foldl (fun a f => if f.1 = k then a ^^^ f.2 else a) 0)))

/-! ## Scrub reads (R289 to R292) -/

/-- The block-memory scrubber reads the word at a block's pointer in an idle port cycle, and
corrects or poisons its bytes; the pointer moves on. The scrubber skips blocks of a region in D2
or D3, and a block under checker test; a block without a port clock offers no cycle (R289, R292, R302). `flips` are
upsets of that word. -/
def bmScrubRead (b : Nat) (flips : List (Nat × BitVec 13)) (d : Dev) : Dev :=
  let m := MemUnit.bm b
  let s := d.bmSt b
  let d0 := d.upset m (4 * s.scrubPtr) flips
  if !d0.ctlOn Reg.INT_CTL_DSCRUB_BM ∧ !d0.safe Reg.INT_CTL then d0
  else if 2 ≤ d0.domState (regionDom (b / 64)) ∨ d0.underTest m ∨ !d0.bmTicks b then d0
  else
    (d0.checkGranule m (4 * s.scrubPtr) 0 4 false).setBm b
      { s with scrubPtr := d.scrubNext m s.scrubPtr }

/-- The background scrubber works on the unit (R289 to R292, R297, R302). -/
def scrubbed (d : Dev) (m : MemUnit) : Bool :=
  (match m with
   | .bm b => (d.ctlOn Reg.INT_CTL_DSCRUB_BM || d.safe Reg.INT_CTL)
       && decide (d.domState (regionDom (b / 64)) < 2)
   | .dram k => (d.ctlOn Reg.INT_CTL_DSCRUB_DRAM || d.safe Reg.INT_CTL)
       && decide (d.domState (16 + k) < 2) && !d.chRetired k
   | .hs _ => false) && !d.underTest m

/-- The scrub pointer of a unit that is scrubbed has fallen a whole pass behind (R289, R290). -/
def scrubStarved (m : MemUnit) (d : Dev) : Dev :=
  if !d.scrubbed m then d
  else
    let d1 := ((d.raise Reg.INT_EVT_STARVED).count Reg.REMAP_STARVED_STARVED_CNT).logEvent m
      (match m with
       | .bm b => 4 * (d.bmSt b).scrubPtr
       | .dram k => 64 * (d.chSt k).scrubPtr
       | .hs _ => 0) 6 false
    match m with
    | .bm b => d1.raise (Reg.RI_EVT_STARVED (b / 64))
    | _ => d1

/-- The DRAM scrubber reads the line at a channel's pointer from a bank with an empty queue
(R290). -/
def dramScrubRead (k : Nat) (flips : List (Nat × BitVec 13)) (d : Dev) : Dev :=
  let m := MemUnit.dram k
  let c := d.chSt k
  let d0 := d.upset m (64 * c.scrubPtr) flips
  let bank := c.scrubPtr % 8 * 4 + c.scrubPtr / 256 % 4
  if !d0.ctlOn Reg.INT_CTL_DSCRUB_DRAM ∧ !d0.safe Reg.INT_CTL then d0
  else if d0.chRetired k ∨ 2 ≤ d0.domState (16 + k) ∨ d0.underTest m then d0
  else if c.queue.any (fun q => q.line % 8 * 4 + q.line / 256 % 4 == bank) then d0
  else
    (d0.checkGranule m (64 * c.scrubPtr) 0 64 false).setCh k
      { c with scrubPtr := d.scrubNext m c.scrubPtr }

/-! ## The march engine's accesses -/

/-- A preserving run reaches a block memory only in idle cycles of a clocked port, and a line of a DRAM bank only
while the bank's queue is empty (R158, R299). -/
def marchWaits (d : Dev) (u : MemUnit) (granule : Nat) : Bool :=
  match u with
  | .bm b => !d.bmTicks b
  | .dram k => (d.chSt k).queue.any (fun q =>
      q.line % 8 * 4 + q.line / 256 % 4 == granule % 8 * 4 + granule / 256 % 4)
  | .hs _ => false

/-- A preserving run still has a block memory to test whose ports have no clock (R158, R299). -/
def marchStuck (d : Dev) (s : MarchSt) : Bool :=
  s.preserving && s.units.any (fun u => match u with
    | .bm b => !d.bmTicks b
    | _ => false)

/-- An access of a run has found a fault at the granule at byte address `g` (R298): it is counted and remapped with
`content`, and the run goes on by `next` unless the fault has retired the unit (R301). -/
def marchHit (d : Dev) (s : MarchSt) (u : MemUnit) (g : Nat) (content : List (BitVec 13))
    (next : MarchSt → MarchSt) : Dev :=
  let s1 : MarchSt := { s with faults := min (s.faults + 1) 0xFFFF, mine := s.mine + 1 }
  let d1 := ({ d with march := some s1 }).marchFault u g content
  match d1.march with
  | some s2 => if s2.units.head? = some u then { d1 with march := some (next s2) } else d1
  | none => d1

/-- The march engine's next access (R298). In preserving mode a granule takes nine accesses: the first
reads S and saves it, corrected or poisoned, and of those that follow each even-numbered one, counted from
0, reads the granule back. In destructive mode an access is what one element of March C− makes on a granule, a
read and a write. `flips` is what the cells do to what is read: the access finds a fault when it differs from what
the test expects. -/
def marchAccess (flips : List (Nat × BitVec 13)) (d : Dev) : Dev :=
  match d.march with
  | none => d
  | some s =>
    match s.units with
    | [] => d
    | u :: _ =>
      let g := s.granule * u.granule
      let flip := fun (i : Nat) => flips.foldl (fun a f => if f.1 = i then a ^^^ f.2 else a) (0 : BitVec 13)
      let bad := (List.range u.granule).any (fun i => flip i != 0)
      if !s.preserving then
        let e := marchElement s.step
        let read := (d.rawGranule u g).zipIdx.map (fun c => c.1 ^^^ flip c.2)
        let wrong := match e.1 with
          | some x => read.any (· != x)
          | none => false
        let wrote := fun (a : Dev) => match e.2 with
          | some x => a.storeRaw u g (List.replicate u.granule x)
          | none => a
        if wrong then
          wrote (d.marchHit s u g (List.replicate u.granule ((e.1).getD 0)) marchOn)
        else { wrote d with march := some (marchOn s) }
      else if d.marchWaits u s.granule then d
      else if s.step = 0 then
        { (d.checkGranule u g 0 u.granule false) with march := some { s with step := 1 } }
      else if s.step % 2 = 0 ∧ bad then
        d.marchHit s u g ((d.rawGranule u g).map correctedContent) marchNext
      else if 8 ≤ s.step then { d with march := some (marchNext s) }
      else { d with march := some { s with step := s.step + 1 } }

/-- The run reaches its end (R301): what is left of it passes without a fault. RESULT is PASS when no
access found one. -/
def marchDone (d : Dev) : Dev :=
  match d.march with
  | none => d
  | some s => if d.marchStuck s then d else (d.marchRest s).marchEnd s (if marchFailed s then 2 else 1) .ok

end Dev

end Sys2Proof.Machine
end

