-- ==== Sys2Proof/Machine/Slices.lean ====
section
/-! DEFINITION. The arithmetic slices (R163 to R184): operands, the pipeline, the four modes, the
accumulator banks, the store path, bank switches and the address generator. At one edge of the
slice clock its commands come in this order: AG_ADV, AG_WE, AG_APPLY, SWITCH, SLICE_STORE,
SLICE_ACCUMULATE, SLICE_OPERAND_SET; the last one ends the edge. -/

namespace Sys2Proof.Machine

/-! ## Generator sets -/

/-- An integer of `w` bits read as signed. -/
def signed (w v : Nat) : Int := if v % 2 ^ w < 2 ^ (w - 1) then (v % 2 ^ w : Nat)
  else (v % 2 ^ w : Nat) - (2 ^ w : Nat)

/-- LEN as an item count. -/
def AgSet.count (g : AgSet) : Nat := if g.len = 0 then 65536 else g.len

/-- The offset of the pointer in its buffer (R175). -/
def AgSet.offset (g : AgSet) : Nat := (g.ptr + 65536 - g.base) % 65536

/-- A pending length is applied: LEN takes it and PTR is reduced into it (R179). -/
def AgSet.applyPending (g : AgSet) : AgSet :=
  match g.pend with
  | none => g
  | some l =>
    { g with len := l, pend := none
             ptr := (g.base + g.offset % (if l = 0 then 65536 else l)) % 65536 }

/-- A length written beside no wrap of its set (R179): in CIRCULAR and BITREV modes it waits while the
pointer is inside the buffer, and replaces one that waits. -/
def AgSet.takeLen (g : AgSet) (v : Nat) : AgSet :=
  if (g.mode = 1 ∨ g.mode = 2) ∧ (g.offset < g.count ∨ g.pend.isSome) then { g with pend := some v }
  else { g with len := v }

/-- An advance (R177), and whether it wrapped; a wrap applies a pending length. -/
def AgSet.advance (g : AgSet) : AgSet × Bool :=
  if g.mode = 1 ∨ g.mode = 2 then
    let x : Int := (g.offset : Int) + signed 16 g.step
    let wrap := decide (x < 0) || decide ((g.count : Int) ≤ x)
    let g1 := { g with ptr := (g.base + (x % (g.count : Int)).toNat) % 65536 }
    (if wrap then AgSet.applyPending g1 else g1, wrap)
  else ({ g with ptr := (g.ptr + g.step) % 65536 }, false)

namespace Dev

/-! ## Records -/

/-- A field of slice `s`'s record in plane `p` (R181, R211). -/
def sliceBitsAt (d : Dev) (n p s b w : Nat) : Nat := d.cfgAt n p 3589 (384 * s + b) w

/-- A field of slice `s`'s record in the active plane. -/
def sliceBits (d : Dev) (n s b w : Nat) : Nat := d.sliceBitsAt n (d.activePlane n) s b w

/-- The initial values of generator set `i` (R182). -/
def agInit (d : Dev) (n p s i : Nat) : AgSet :=
  let f := fun b w => d.sliceBitsAt n p s (96 + 72 * i + b) w
  { base := f 0 16, len := f 16 16, ptr := f 32 16, step := f 48 16, mode := f 64 2 }

/-- The address a generator set gives (R176). -/
def agAddress (g : AgSet) : Nat :=
  if g.mode = 2 then
    let len := if g.len = 0 then 65536 else g.len
    let b := Nat.log2 len
    let off := (g.ptr + 65536 - g.base) % 65536
    let rev := (List.range b).foldl (fun a k => a + bit01 (off.testBit k) * 2 ^ (b - 1 - k)) 0
    (g.base + rev) % 65536
  else g.ptr

/-- A slice at its initial values of plane `p` (R180). The rule names no value for OUT, OBANK, OSAT, OGOV, the current
generator set and the SWITCHes that wait: the model clears them (DESIGN CHOICE, log 120). -/
def sliceInit (d : Dev) (n p s : Nat) : SliceSt :=
  let sets := (List.range 4).map (d.agInit n p s)
  { ag := sets, agAddr := agAddress (sets.getD 0 {}) }

/-- The device with a slice's state replaced. -/
def setSlice (d : Dev) (n s : Nat) (x : SliceSt) : Dev :=
  { d with slice := SMap.put {} d.slice (n * 48 + s) x }

/-- Every slice of region `n` takes its initial values of plane `p`, but those `keep` keeps. -/
def sliceReset (d : Dev) (n p : Nat) (keep : Nat → Bool) : Dev :=
  (List.range 48).foldl
    (fun a s => if keep s then a else a.setSlice n s (a.sliceInit n p s)) d

/-! ## Operands -/

/-- The neighbour blocks of a slice (R164). -/
def sliceBlocks (s : Nat) : List Nat :=
  let g := s / 3
  if s % 3 = 0 then [4 * g, 4 * g + 1]
  else if s % 3 = 1 then [4 * g, 4 * g + 1, 4 * g + 2, 4 * g + 3]
  else [4 * g + 2, 4 * g + 3]

/-- An operand at M1: from the fabric or from a neighbour block's DOUT, as its source and format
fields name (R164, R165). -/
def operand (d : Dev) (n s srcBit : Nat) (fabric : BitVec 20) : Int :=
  let src := d.sliceBits n s srcBit 4
  if src = 0 then fabric.toInt
  else if src ≤ 8 then
    match (sliceBlocks s)[(src - 1) / 2]? with
    | none => 0
    | some j =>
      let st := d.bmSt (64 * n + j)
      let v := if src % 2 = 1 then st.a.dout else st.b.dout
      match d.sliceBits n s (srcBit + 4) 2 with
      | 0 => signed 20 v
      | 1 => signed 16 v
      | 2 => signed 16 (v / 65536)
      | _ => signed 8 v
  else 0

/-- The slice's state changes at this edge, the active one of its clock network (CLK_SRC, CLK_INV): no hold, the
region runs and the network with it, and CE is 1 or unused (R167, R180, R181, R203). -/
def sliceOpen (d : Dev) (n : Region) (s : Nat) (ce : Bool) : Bool :=
  d.bmOpen n.val && d.clockReaches n (d.sliceBits n.val s 65 6) && (ce || d.sliceBits n.val s 64 1 == 0)

/-! ## The pipeline -/

/-- MODE. -/
def sliceMode (d : Dev) (n s : Nat) : Nat := d.sliceBits n s 42 2

/-- The pre-adder's result (R169); COMPLEX and WIDE use A unchanged. -/
def preAdd (d : Dev) (n s : Nat) (x : SliceSet) : SliceSet :=
  if d.sliceMode n s = 1 ∨ d.sliceMode n s = 2 then x
  else match d.sliceBits n s 44 2 with
    | 0 => x
    | 1 => { x with a := x.a + x.d }
    | 2 => { x with a := x.a - x.d }
    | _ => { x with a := x.d - x.a }

/-- The value of a 20-bit operand read as unsigned (R168). -/
def unsigned20 (x : Int) : Int := x % (2 ^ 20 : Nat)

/-- The sums of an operand set with their banks, and the banks a LAST stores (R168). -/
def sliceSums (d : Dev) (n s : Nat) (x : SliceSet) : SliceSums :=
  let k := x.tag
  let k0 := x.tag / 2 * 2
  let mk := fun (sums : List (Nat × Int)) (stores : List Nat) =>
    ({ sums := sums, stores := stores, first := x.first, last := x.last } : SliceSums)
  match d.sliceMode n s with
  | 0 => mk [(0, x.a * x.b0), (1, x.a * x.b1), (2, x.a * x.b2), (3, x.a * x.b3)] [0, 1, 2, 3]
  | 1 =>
    if d.sliceBits n s 48 1 = 0 then
      mk [(k0, x.a * x.b0 - x.e * x.b1), (k0 + 1, x.a * x.b1 + x.e * x.b0)] [k0, k0 + 1]
    else mk [(k0, x.a * x.b0 + x.e * x.b1), (k0 + 1, x.e * x.b0 - x.a * x.b1)] [k0, k0 + 1]
  | 2 =>
    let p := (x.a * (2 ^ 20 : Nat) + unsigned20 x.e) * (x.b0 * (2 ^ 20 : Nat) + unsigned20 x.b1)
    mk [(k, Int.fdiv p (2 ^ 24 : Nat))] [k]
  | _ =>
    let p0 := x.a * x.b0
    let p1 := if d.sliceBits n s 47 1 = 1 then -(x.e * x.b1) else x.e * x.b1
    if d.sliceBits n s 46 1 = 1 then mk [(k, p0 + p1)] [k]
    else mk [(k0, p0), (k0 + 1, p1)] [k0, k0 + 1]

/-! ## M5: the accumulators -/

/-- A bank after a sum (R170), and whether its GOV became set. -/
def bankAdd (b : Bank) (first : Bool) (v : Int) : Bank × Bool :=
  if first then ({ acc := v }, false)
  else
    let x := b.acc + v
    let past := decide (x < -(2 ^ 71 : Nat)) || decide ((2 ^ 71 : Nat) ≤ x)
    let acc := signed 72 (x % (2 ^ 72 : Nat)).toNat
    if past && !b.gov then ({ acc := acc, gov := true, gsign := decide (x < 0) }, true)
    else ({ b with acc := acc }, false)

/-- The events that DSP_LAST records, in its order (R183). -/
inductive DspEvent where
  | sat | gov | ovr
deriving DecidableEq, Repr

/-- The key of a region's edge record for an event. -/
def dspKey (n : Nat) (e : DspEvent) : Nat :=
  3 * n + (match e with | .sat => 0 | .gov => 1 | .ovr => 2)

/-- The slices that have reached the event's stage at the edge in progress: a slice takes one step an edge, so
a second step of a slice, or a step in a later root period, opens another edge (log 118). -/
def dspSteps (d : Dev) (n s : Nat) (e : DspEvent) : List (Nat × Bool) :=
  let x := SMap.get {} d.dspEdge (dspKey n e)
  if x.period = d.time ∧ !x.steps.any (fun q => q.1 == s) then x.steps else []

/-- Slice `s` takes its step of an edge, and records the event or not. -/
def dspStep (n s : Nat) (e : DspEvent) (hit : Bool) (d : Dev) : Dev :=
  { d with dspEdge := SMap.put {} d.dspEdge (dspKey n e) ⟨d.time, d.dspSteps n s e ++ [(s, hit)]⟩ }

/-- No lower-numbered slice has recorded the event at this edge: DSP_LAST takes this one (R183). -/
def dspLowest (d : Dev) (n s : Nat) (e : DspEvent) : Bool :=
  !(d.dspSteps n s e).any (fun q => q.2 && decide (q.1 < s))

/-- GOV is recorded and counted for bank `b` (R170, R183). -/
def recordGov (n s : Nat) (first : Bool) (d : Dev) (b : Nat) : Dev :=
  let d1 := (d.raise (Reg.DSP_EVT_GOV n)).count (Reg.DSP_GOV_CNT_GOV_CNT n)
  if first then
    ((d1.set (Reg.DSP_LAST_GOV_SLICE n) s).set (Reg.DSP_LAST_GOV_BANK n) b).raise
      (Reg.DSP_LAST_GOV_VALID n)
  else d1

/-- The sums at M4 are added into their banks at M5 (R170). A LAST then makes its sequence of stores
wait, from copies of its banks, unless an earlier sequence is still emitting (R172). -/
def accumulate (n s : Nat) (d : Dev) : Dev :=
  let st := d.sliceSt n s
  match st.m4 with
  | none => d
  | some q =>
    let r := q.sums.foldl (fun (acc : List Bank × List Nat) e =>
      let x := bankAdd (acc.1.getD e.1 {}) q.first e.2
      (acc.1.set e.1 x.1, if x.2 then acc.2 ++ [e.1] else acc.2)) (st.banks, [])
    let st1 := { st with m4 := none, banks := r.1 }
    let st2 := if !q.last then st1
      else if st.stores ≠ [] then { st1 with overruns := st1.overruns + 1 }
      else { st1 with stores := q.stores.map (fun b => (b, r.1.getD b {})) }
    let d1 := d.setSlice n s st2
    let lowest := d.dspLowest n s .gov
    ((r.2.zipIdx).foldl (fun a e => a.recordGov n s (lowest && e.2 == 0) e.1) d1).dspStep n s .gov (r.2 != [])

/-- The M5 step of an edge. -/
def sliceAccumulate (n : Region) (s : Fin 48) (ce : Bool) (d : Dev) : Dev :=
  if d.sliceOpen n s.val ce then accumulate n.val s.val d else d

/-! ## M6: the store path -/

/-- The rounded window of a bank (R171). -/
def roundWindow (rnd shift : Nat) (v : Int) : Int :=
  let q : Int := Int.fdiv v (2 ^ shift : Nat)
  let r : Nat := (v - q * (2 ^ shift : Nat)).toNat
  match rnd with
  | 1 => if 2 ^ shift ≤ 2 * r ∧ 0 < shift then q + 1 else q
  | 2 =>
    if 2 ^ shift < 2 * r then q + 1
    else if 2 * r = 2 ^ shift then (if q % 2 = 0 then q else q + 1)
    else q
  | _ => q

/-- SATW in bits (R181). -/
def satWidth (v : Nat) : Nat :=
  match v with
  | 0 => 20 | 1 => 24 | 2 => 32 | 3 => 40 | _ => 56

/-- The result of a store of a bank, and OSAT (R171). -/
def storeResult (rnd shift w : Nat) (b : Bank) : Int × Bool :=
  let r := roundWindow rnd shift b.acc
  let lo : Int := -(2 ^ (w - 1) : Nat)
  let hi : Int := (2 ^ (w - 1) : Nat) - 1
  let c := if r < lo then lo else if hi < r then hi else r
  if b.gov then (if b.gsign then lo else hi, true) else (c, c != r)

/-- The M6 step of an edge: the next store of the sequence appears on OUT, with SAT recorded; an
overrun of a LAST is recorded (R171, R172, R183). -/
def sliceStore (n : Region) (s : Fin 48) (ce : Bool) (d : Dev) : Dev :=
  if !d.sliceOpen n s.val ce then d
  else
    let st := d.sliceSt n.val s.val
    let d0 := if st.overruns = 0 then d
      else
        let a := (d.raise (Reg.DSP_EVT_STORE_OVERRUN n)).count (Reg.DSP_GOV_CNT_OVR_CNT n) st.overruns
        if d.dspLowest n s .ovr then
          (a.set (Reg.DSP_LAST_OVR_SLICE n) s.val).raise (Reg.DSP_LAST_OVR_VALID n)
        else a
    let d0 := d0.dspStep n s .ovr (decide (0 < st.overruns))
    match st.stores with
    | [] => (d0.dspStep n s .sat false).setSlice n.val s.val { st with overruns := 0, ovalid := false }
    | (b, bank) :: rest =>
      let r := storeResult (d.sliceBits n.val s.val 55 2) (d.sliceBits n.val s.val 49 6)
        (satWidth (d.sliceBits n.val s.val 57 3)) bank
      let d1 := (d0.dspStep n s .sat r.2).setSlice n.val s.val
        { st with overruns := 0, stores := rest, out := r.1, ovalid := true, obank := b
                  osat := r.2, ogov := bank.gov, storedNow := true }
      if r.2 then
        let d2 := (d1.raise (Reg.DSP_EVT_SAT n)).count (Reg.DSP_SAT_CNT_SAT_CNT n)
        if d0.dspLowest n s .sat then
          ((d2.set (Reg.DSP_LAST_SAT_SLICE n) s.val).set (Reg.DSP_LAST_SAT_BANK n) b).raise
            (Reg.DSP_LAST_SAT_VALID n)
        else d2
      else d1

/-- The current generator set: G0 with AG_FOLLOW 0, else the set that SWITCH has made current (R176). -/
def agCurrent (d : Dev) (n s : Nat) : Nat :=
  if d.sliceBits n s 63 1 = 1 then (d.sliceSt n s).agCur else 0

/-! ## M1 to M4: an edge -/

/-- Switches whose delay has run out take effect; the others come one edge nearer (R173). -/
def takeSwitches (cur : Nat) (q : List (Nat × Nat)) : Nat × List (Nat × Nat) :=
  q.foldl (fun a e => if e.1 = 0 then (e.2, a.2) else (a.1, a.2 ++ [(e.1 - 1, e.2)])) (cur, [])

/-- An operand set is sampled at M1 and every stage advances (R166). A set whose sums still wait for
M5 is accumulated first. The edge ends: OVALID and AG_WRAP stay for one cycle, and AG_ADDR follows
the current generator set. -/
def sliceOperandSet (n : Region) (s : Fin 48) (ce : Bool) (x : OperandSet) (d : Dev) : Dev :=
  if !d.sliceOpen n s.val ce then d
  else
    let d0 := Dev.accumulate n.val s.val d
    let st := d0.sliceSt n.val s.val
    let sw := takeSwitches st.cur st.switches
    let op := fun b v => d0.operand n.val s.val b v
    let m1 : SliceSet :=
      { a := op 0 x.a, e := op 6 x.e, d := op 12 x.d, b0 := op 18 x.b0, b1 := op 24 x.b1
        b2 := op 30 x.b2, b3 := op 36 x.b3, first := x.first, last := x.last, tag := sw.1 }
    d0.setSlice n.val s.val
      { st with m1 := some m1, m2 := st.m1.map (d0.preAdd n.val s.val), m3 := st.m2
                m4 := st.m3.map (d0.sliceSums n.val s.val), cur := sw.1, switches := sw.2
                ovalid := st.ovalid && st.storedNow, storedNow := false
                agWrap := st.agWrap && st.wrapNow.isSome, wrapNow := none
                agAddr := agAddress (st.ag.getD (d0.agCurrent n.val s.val) {}) }

/-- SWITCH (R173, R176): the current bank changes SWDLY edges on, and the generator set at once when
AG_FOLLOW is 1. -/
def switchBank (n : Region) (s : Fin 48) (ce : Bool) (bsel : Fin 4) (d : Dev) : Dev :=
  if !d.sliceOpen n s.val ce then d
  else
    let st := d.sliceSt n.val s.val
    d.setSlice n.val s.val
      { st with switches := st.switches ++ [(d.sliceBits n.val s.val 60 3, bsel.val)]
                agCur := if d.sliceBits n.val s.val 63 1 = 1 then bsel.val else st.agCur }

/-! ## The address generator -/

/-- A port that the generator drives drives WAIT in this cycle (R156). -/
def agWaits (d : Dev) (n s : Nat) : Bool :=
  (sliceBlocks s).any (fun j =>
    (d.bmSt (64 * n + j)).retained.isSome && d.bmAddrSlice n j true == some s)

/-- AG_ADV: the set that was current advances, unless a port it drives waits (R177). -/
def agAdv (n : Region) (s : Fin 48) (ce : Bool) (d : Dev) : Dev :=
  if !d.sliceOpen n s.val ce ∨ d.agWaits n.val s.val then d
  else
    let st := d.sliceSt n.val s.val
    let k := d.agCurrent n.val s.val
    let g := st.ag.getD k {}
    let r := AgSet.advance g
    d.setSlice n.val s.val
      { st with ag := st.ag.set k r.1, agWrap := r.2
                wrapNow := if r.2 then some (k, (AgSet.advance { g with pend := none }).1.ptr)
                  else none }

/-- AG_WE: register `reg` of set `set` (0 BASE, 1 LEN, 2 PTR, 3 STEP) takes `wd` (R178). A length
written while the pointer is inside the buffer, or while one waits, waits; one written at the edge of that
set's wrap is applied at that wrap (R179). -/
def agWe (n : Region) (s : Fin 48) (ce : Bool) (set reg : Fin 4) (wd : BitVec 16) (d : Dev) : Dev :=
  if !d.sliceOpen n s.val ce then d
  else
    let st := d.sliceSt n.val s.val
    let g := st.ag.getD set.val {}
    let v := wd.toNat
    let g' := match reg.val with
      | 0 => { g with base := v }
      | 1 =>
        match st.wrapNow with
        | some (k, p) =>
          if k = set.val then AgSet.applyPending { g with ptr := p, pend := some v }
          else AgSet.takeLen g v
        | none => AgSet.takeLen g v
      | 2 => { g with ptr := v }
      | _ => { g with step := v }
    d.setSlice n.val s.val { st with ag := st.ag.set set.val g' }

/-- AG_APPLY: the pending length of the current set is applied (R179). The spec does not say which set is current for
it at the edge of a SWITCH with AG_FOLLOW 1, nor how it meets an AG_ADV of the set that does not wrap: the model
applies to the set that was current before the SWITCH, after the advance of the old length (DESIGN CHOICE, log 119). -/
def agApply (n : Region) (s : Fin 48) (ce : Bool) (d : Dev) : Dev :=
  if !d.sliceOpen n s.val ce then d
  else
    let st := d.sliceSt n.val s.val
    let k := d.agCurrent n.val s.val
    d.setSlice n.val s.val { st with ag := st.ag.set k (AgSet.applyPending (st.ag.getD k {})) }

end Dev

end Sys2Proof.Machine
end

