-- ==== Sys2Proof/Machine/Noc.lean ====
section
/-! DEFINITION. The Caravan network (R308 to R336): initiating network interfaces, route books, the
waystations, guaranteed slots, best-effort tokens, responses, timeouts and FENCEs, route epochs and
the commands of the NOC block. A packet in a waystation's buffer is held where its header stands. -/

namespace Sys2Proof.Machine

/-! ## Addresses -/

/-- The power domain that a network interface's guard belongs to (R332, R401); none has no guard. -/
def niDomain (i : Nat) : Option Nat :=
  if i < 128 then some (128 + i) else if i < 160 then some (16 + (i - 128))
  else if i < 164 then some (12 + (i - 160)) else if i = 165 then some 1 else none

/-- The network partition of a waystation (R188, R308). -/
def wsPart (w : Nat) : Nat := w % 16 / 2

/-- The network interface at waystation `w`, if one is there (R308). -/
def niAtWs (w : Nat) : Option Nat := (List.range 170).find? (fun i => niWs i == w)

/-- Flits of the response to a request (R310): a MSG's answer has up to 255 data flits. -/
def Pkt.owed (p : Pkt) : Nat :=
  match p.cmd with
  | 0 => 1 + p.len | 3 => 2 | 6 => 256 | _ => 1

/-- The write commands of R34: WR, WRA and ATOM. -/
def Pkt.isWrite (p : Pkt) : Bool := p.cmd == 1 || p.cmd == 2 || p.cmd == 3

/-- Byte `b` of data flit `i` of `n` is enabled (R309). -/
def Pkt.enabled (p : Pkt) (n i b : Nat) : Bool :=
  if i = 0 then p.beFirst.testBit b else if i + 1 = n then p.beLast.testBit b else true

/-- The bytes that a request stores or reads, as an address and a length: from the first selected byte to the
last (R309). A request that selects none goes where its address lies. -/
def Pkt.span (p : Pkt) : Nat × Nat :=
  let line := p.addr / 64 * 64
  if p.cmd = 3 then (p.addr, if p.asize then 8 else 4)
  else if p.cmd = 0 then (line, 64 * p.len)
  else
    let n := (p.data.length + 63) / 64
    let inLine := fun (bs : List Nat) (i : Nat) =>
      (bs.find? (p.enabled n i)).map (fun b => 64 * i + b)
    let first := (List.range n).findSome? (inLine (List.range 64))
    let last := (List.range n).reverse.findSome? (inLine (List.range 64).reverse)
    match first, last with
    | some f, some l => (line + f, l + 1 - f)
    | _, _ => (p.addr, 1)

namespace Dev

/-- The network interface that serves a byte address (R38, R311). -/
def niOfByte (d : Dev) (a : Nat) : Option Nat :=
  if a < 0x800000000 then (d.dramPlace a).map (fun p => 128 + p.1)
  else if 0xFE00000000 ≤ a ∧ a < 0xFE01000000 then some 169
  else if 0xFF00000000 ≤ a ∧ a < 0xFF00080000 then some 164
  else if 0xFF10000000 ≤ a ∧ a < 0xFF10200000 then some 164
  else if 0x10000000000 ≤ a ∧ a < 0x18000000000 then some ((a - 0x10000000000) / 0x100000000)
  else none

/-- The network interface a request goes to, or the code it is answered with (R311): a request of a lookup
port names its engine, which has no address range (R367). A request whose first byte lies in the stripe gap
or in a retired channel is answered RETIRED; one whose bytes span two destinations, or two stripes of 4 KiB,
TARGET_ERR (R342, R343). -/
def niDest (d : Dev) (p : Pkt) : Nat × Option Code :=
  if 160 ≤ p.dst ∧ p.dst < 164 ∧ (p.cmd = 6 ∨ p.cmd = 7) then (p.dst, none)
  else
    let s := p.span
    let last := s.1 + (s.2 - 1)
    let lost := fun a => decide (a < 0x800000000) && match d.dramPlace a with
      | some q => d.chRetired q.1
      | none => true
    if lost s.1 then (0, some .retired)
    else match d.niOfByte s.1, d.niOfByte last with
      | none, _ => (0, some .noTarget)
      | some a, some b =>
        if a ≠ b ∨ lost last ∨ (s.1 < 0x800000000 ∧ d.stripeMode ∧ s.1 / 4096 ≠ last / 4096) then
          (a, some .targetErr)
        else (a, none)
      | some a, none => (a, some .targetErr)

/-! ## Route books -/

/-- The current epoch bit. -/
def epoch (d : Dev) : Nat := d.get Reg.NOC_STS_EPOCH_CUR

/-- Entry `e` of copy `c` of NI `i`'s route book, whether it is poisoned, and the device after the
read (R286, R313). -/
def bookRead (d : Dev) (i c e : Nat) : Nat × Bool × Dev :=
  d.readLe (.hs (2 + i)) (c % 2 * 8192 + e % 512 * 16) 16

/-- The device with an entry of a route book stored. -/
def bookStore (d : Dev) (i c e v : Nat) : Dev :=
  d.storeBytes (.hs (2 + i)) (c % 2 * 8192 + e % 512 * 16) (leBytes 16 v)

/-- An entry's raw codewords, as one number: what a discarded change is restored to. -/
def bookRaw (d : Dev) (i c e : Nat) : Nat :=
  (List.range 16).foldl
    (fun a k => a + (d.cell (.hs (2 + i)) (c % 2 * 8192 + e % 512 * 16 + k)).toNat * 2 ^ (13 * k)) 0

/-- The entry of a shadow book is staged: what it held first is kept for R23. -/
def stageBook (d : Dev) (i c e v : Nat) : Dev :=
  let key := i * 512 + e
  let d1 := if d.noc.undoBook.any (fun x => x.1 == key) then d
    else { d with noc := { d.noc with undoBook := d.noc.undoBook.insert key (d.bookRaw i c e) } }
  d1.bookStore i c e v

/-! ## Injection -/

/-- What forming a header decides (R311): the code of the NI's own answer, or the packet with its
route, class and DRAM port, and the entry's SLOT_FIRST and EVERY_LOG. -/
inductive Formed where
  | answer (c : Code)
  | packet (p : Pkt) (slotFirst everyLog : Nat)
deriving DecidableEq, Repr

/-- The NI forms a request's header, reading its route book (R311, R312). -/
def formHeader (d : Dev) (i : Nat) (p : Pkt) : Formed × Dev :=
  match d.niDest p with
  | (_, some c) => (.answer c, d)
  | (dst, none) =>
    if p.cmd = 7 ∧ !d.ctlOn Reg.PWR_CTL_COMPAT_WAKE then (.answer .targetErr, d)
    else
      let r := d.bookRead i d.epoch (dst + 256 * bit01 p.alt)
      let e := r.1
      if r.2.1 then (.answer .poison, r.2.2)
      else if !e.testBit 127 then (.answer .noTarget, r.2.2)
      else
        let cls := e / 2 ^ 104 % 4
        let q := { p with
          route := e % 2 ^ 96, cls := cls, dport := e / 2 ^ 106 % 8, src := i, dst := dst
          epoch := d.epoch == 1, hops := 0, code := .ok }
        let bad := (p.cmd == 0 && p.len == 0) || (cls == 1 && 8 < q.flits)
          || (p.cmd == 6 && 128 ≤ dst && dst < 160)
          || (p.cmd == 3 && p.addr % (if p.asize then 8 else 4) != 0) || 8 ≤ p.cmd || p.cmd == 5
        if bad then (.answer .targetErr, r.2.2)
        else (.packet q (e / 2 ^ 109 % 256) (min (e / 2 ^ 117 % 16) 8), r.2.2)

/-- A forwarded request's answer arrives at the dictionary engine (R75): the response header and
payload go on to the client. -/
def forwardDone (d : Dev) (tag : Nat) (code : Code) (poison : Bool) (data : List Byte) : Dev :=
  match d.wb.forwards.find? (fun f => f.tag == some tag) with
  | none => d
  | some f =>
    let d1 := { d with wb := { d.wb with
      forwards := d.wb.forwards.filter (fun g => g.tag != some tag) } }
    let m := WbMsg.parse data
    if code = .ok ∧ !poison then
      d1.respond f.req { code := m.code, late := m.late, stale := m.stale, change := m.change
                         result := m.arg / 2 ^ 32, data := m.payload }
    else d1.respond f.req { code := code, poison := poison }

/-- A request of NI `i` completes with a response (R324): its tag is free, a write's outcome is
recorded for the FENCEs (R35), and every response but a WR's goes to the block, unless its user has
gone (R222). -/
def niComplete (d : Dev) (i : Nat) (t : TagSt) (code : Code) (poison : Bool) (data : List Byte) :
    Dev :=
  let s := d.niSt i
  let rsp := { t.pkt with cmd := 5, tag := t.tag, code := code, poison := poison, data := data
                          dst := i, src := t.pkt.dst }
  let w := s.writes.map (fun w =>
    if w.tag = t.tag ∧ w.code.isNone then { w with code := some code } else w)
  let keep := !t.dropped && t.pkt.cmd != 1
  let d1 := d.setNi i { s with
    tags := s.tags.filter (fun x => x.tag != t.tag)
    waiting := s.waiting.filter (fun x => x.tag != t.tag)
    writes := w, rs := if keep ∧ i ≠ 166 then s.rs ++ [rsp] else s.rs }
  if i = 166 then d1.forwardDone t.tag code poison data
  else if t.dropped ∧ t.pkt.cmd ≠ 1 ∧ i < 128 then d1.count (Reg.RGN_CNT_RSP_DISCARD i)
  else d1

/-- Flits of response buffer that NI `i` owes or holds (R318). -/
def owedFlits (s : NiSt) : Nat :=
  (s.tags.map (fun t => if t.injected then t.pkt.owed else 0)).sum + (s.rs.map Pkt.flits).sum

/-- The header of a request leaves the NI (R324): its timer starts, and the packet enters the
network on its class's channel. -/
def niInject (d : Dev) (i : Nat) (t : TagSt) (q : Pkt) : Dev :=
  let s := d.niSt i
  let d1 := d.setNi i { s with
    waiting := s.waiting.filter (fun x => x.tag != t.tag)
    tags := s.tags.map (fun x => if x.tag = t.tag then { x with injected := true, pkt := q } else x) }
  d1.inject i (if q.cls = 1 then 0 else if q.cls = 2 then 1 else 3) q

/-- The fence guard of NI `i` is closed. -/
def guardClosed (d : Dev) (i : Nat) : Bool := d.on (Reg.NI_STS_GUARD_CLOSED i)

/-- The tokens that let NI `i` inject a best-effort packet of `f` flits, and what it holds after it (R322):
none where the bucket holds too few. RATE 0 stops best-effort injection, and RATE 256 asks for no token. -/
def takeTokens (d : Dev) (i f : Nat) : Option Nat :=
  let t := min (d.niSt i).tokens (d.ctl (Reg.NI_TB_DEPTH i))
  let r := d.ctl (Reg.NI_TB_RATE i)
  if r = 256 then some t else if r = 0 ∨ t < f then none else some (t - f)

/-- A waiting request leaves the NI when its class lets it (R320, R322): management at once,
best-effort when its tokens are there, guaranteed only at its slots; and when the response buffer has room for
its response (R318) and its channel takes it. `held`: an earlier request waits for the response buffer, and
all later ones wait behind it; an earlier one of the management class; an earlier best-effort one (R33). -/
def niOffer (i : Nat) (acc : Dev × Bool × Bool × Bool) (t : TagSt) : Dev × Bool × Bool × Bool :=
  let (d, all, mg, be) := acc
  if !t.whole then acc
  else match d.formHeader i t.pkt with
  | (.answer c, d1) => (d1.niComplete i t c false [], all, mg, be)
  | (.packet q _ _, d1) =>
    let s := d1.niSt i
    if all ∨ q.cls = 1 then (d1, all, mg, be)
    else if 1024 < owedFlits s + q.owed then (d1, true, mg, be)
    else if q.cls = 2 then
      if mg ∨ !d1.bufferFree (niWs i) 4 1 then (d1, all, true, be) else (d1.niInject i t q, all, mg, be)
    else if be ∨ !d1.bufferFree (niWs i) 4 3 then (d1, all, mg, true)
    else match d1.takeTokens i q.flits with
      | some k => ((d1.setNi i { s with tokens := k }).niInject i t q, all, mg, be)
      | none => (d1, all, mg, true)

/-- The requests of NI `i` with a tag that can leave it do so, in order. -/
def niSend (d : Dev) (i : Nat) : Dev :=
  if d.guardClosed i then d else ((d.niSt i).waiting.foldl (niOffer i) (d, false, false, false)).1

/-- The tag that the next request of an NI takes: the first free one from its counter (R324). -/
def niNextTag (s : NiSt) : Nat :=
  match (List.range 4096).find? (fun k =>
      !(s.tags.any (fun t => t.tag == (s.nextTag + k) % 4096))
        && !(s.fences.any (fun f => f.tag == (s.nextTag + k) % 4096))) with
  | some k => (s.nextTag + k) % 4096
  | none => s.nextTag

/-- A presented request takes a tag (R324), which the NI returns on its request channel (R334): a write its
place in issue order, a FENCE its place among the writes (R325). -/
def niTake (d : Dev) (i : Nat) (p : Pkt) : Dev :=
  let s := d.niSt i
  let tag := niNextTag s
  let s1 := { s with nextTag := (tag + 1) % 4096, rqTag := some tag }
  if p.cmd = 4 then d.setNi i { s1 with fences := s1.fences ++ [⟨tag, s1.nextWrite, p.user⟩] }
  else
    let t : TagSt := { tag := tag, pkt := { p with tag := tag } }
    let s2 := { s1 with tags := s1.tags ++ [t], waiting := s1.waiting ++ [t] }
    d.setNi i (if p.isWrite then
      { s2 with writes := s2.writes ++ [⟨s2.nextWrite, tag, none, false⟩]
                nextWrite := s2.nextWrite + 1 }
      else s2)

/-- Flits of the request that has just taken its tag are still to come. -/
def niOpen (d : Dev) (i : Nat) : Dev :=
  let s := d.niSt i
  let f := fun (t : TagSt) => if some t.tag = s.rqTag then { t with whole := false } else t
  d.setNi i { s with tags := s.tags.map f, waiting := s.waiting.map f }

/-- Requests that the NI holds back are taken while its guard is open and tags are free, and what
can leave it leaves. -/
def niPump (d : Dev) (i : Nat) : Dev :=
  if d.guardClosed i ∨ !d.on Reg.CLK_STS_ROOT_LOCK then d
  else
    let s := d.niSt i
    let room := 4096 - (s.tags.length + s.fences.length)
    let go := s.presented.take room
    let d1 := d.setNi i { s with presented := s.presented.drop room }
    let d2 := go.foldl (fun a p => a.niTake i p) d1
    (if s.opening ∧ go ≠ [] ∧ s.presented.length ≤ room then d2.niOpen i else d2).niSend i

/-- The attachment clock of region `n`'s network interface runs: the network that bits [5:0] of frame 3,627
name, of a kind other than 0b11 (R334). -/
def niClock (d : Dev) (n : Nat) : Bool :=
  let net := netOf (Fin.ofNat 128 n) (d.cfg n 3627 0 6)
  (match net with
   | .rck m j => d.cfg m.val 3584 (16 + 8 * j.val) 2 != 3
   | _ => true) && d.netRuns net && d.domState (128 + n) == 0

/-- The region behind NI `i` lets its logic present requests: an image with NI_EN that runs, with the
attachment clock running. -/
def niEnabled (d : Dev) (i : Nat) : Bool :=
  if i < 128 then d.hasImage i && d.cfg i 3584 8 1 == 1 && !d.holdOn i && d.niClock i else i < 170

/-- An initiator presents a request at NI `i` (R311), its flits up to the `last` or only the first of them. -/
def niEnter (d : Dev) (i : Nat) (p : Pkt) (last : Bool) : Dev :=
  if !d.niEnabled i then d
  else
    (d.setNi i { d.niSt i with
      rqTag := none, presented := (d.niSt i).presented ++ [p], opening := !last }).niPump i

/-- An initiator presents a whole request at NI `i`. -/
def niPresent (d : Dev) (i : Nat) (p : Pkt) : Dev := d.niEnter i p true

/-- Further data flits of the request presented last enter NI `i` (R334). -/
def niBeat (d : Dev) (i : Nat) (bs : List Byte) (last : Bool) : Dev :=
  if !d.niEnabled i then d
  else
    let s := d.niSt i
    let grow := fun (p : Pkt) => { p with data := p.data ++ bs }
    let f := fun (t : TagSt) => if t.whole then t else { t with pkt := grow t.pkt, whole := last }
    let s1 : NiSt := match s.presented.getLast? with
      | some p => { s with presented := s.presented.dropLast ++ [grow p] }
      | none => { s with tags := s.tags.map f, waiting := s.waiting.map f }
    (d.setNi i { s1 with opening := !last }).niPump i

/-- The logic of a region has read `k` responses from its interface (R318, R334). -/
def rsTake (d : Dev) (i k : Nat) : Dev :=
  if 128 ≤ i ∨ k = 0 ∨ !d.niEnabled i then d
  else (d.setNi i { d.niSt i with rs := (d.niSt i).rs.drop k }).niPump i

/-- NI_REQUEST: the logic behind the interface has read `taken` responses since, and presents a request. The
request names no destination but by its address (R311). Where not `last`, data flits are still to come, and the
next presentation brings them (R222, R334). -/
def niRequest (i : Fin 170) (p : Pkt) (taken : Nat) (last : Bool) (d : Dev) : Dev :=
  let d1 := d.rsTake i.val taken
  if (d1.niSt i.val).opening then d1.niBeat i.val p.data last
  else d1.niEnter i.val { p with dst := 0 } (last || p.cmd == 4)

/-- GT_SLOT_INJECT: at a slot boundary, the oldest guaranteed request of the NI that is due in this
slot is injected whole; none during the quiet window, and no second one in a slot (R320, R329). -/
def gtSlotInject (i : Fin 170) (d : Dev) : Dev :=
  let s := d.niSt i.val
  if d.on Reg.NOC_STS_GT_QUIET ∨ d.guardClosed i.val ∨ s.gtSlot = some d.noc.slotNum then d
  else
    let slot := d.get Reg.NOC_STS_SLOT
    let due := s.waiting.find? (fun t => t.whole &&
      match (d.formHeader i.val t.pkt).1 with
      | .packet q f e => q.cls == 1 && (slot + 256 - f) % 2 ^ e == 0
      | .answer _ => false)
    match due with
    | none => d
    | some t =>
      match d.formHeader i.val t.pkt with
      | (.packet q _ _, d1) =>
        if 1024 < owedFlits s + q.owed then d1
        else (d1.setNi i.val { d1.niSt i.val with gtSlot := some d.noc.slotNum }).niInject i.val t q
      | (.answer _, d1) => d1

/-- TOKEN_REFILL: the bucket gains RATE tokens, up to DEPTH (R322). -/
def tokenRefill (i : Fin 170) (d : Dev) : Dev :=
  let s := d.niSt i.val
  let t := min (s.tokens + d.ctl (Reg.NI_TB_RATE i)) (d.ctl (Reg.NI_TB_DEPTH i))
  (d.setNi i.val { s with tokens := t }).niSend i.val

/-! ## Waystations -/

/-- A discard is counted and recorded (R323). -/
def nocDrop (d : Dev) (place : Nat) (atNi : Bool) (port reason : Nat) : Dev :=
  ((((((d.count Reg.NOC_CNT_DROP_CNT).raise Reg.NOC_EVT_DROP).set Reg.NOC_LAST_DROP_WHERE
    place).setBit Reg.NOC_LAST_DROP_AT_NI atNi).set Reg.NOC_LAST_DROP_PORT port).set
    Reg.NOC_LAST_DROP_REASON reason).raise Reg.NOC_LAST_DROP_VALID

/-- Where output `o` of waystation `w` leads: the next waystation, or none off the mesh (R308). -/
def meshStep (w o : Nat) : Option Nat :=
  if o = 0 then (if w / 16 < 11 then some (w + 16) else none)
  else if o = 1 then (if w % 16 < 15 then some (w + 1) else none)
  else if o = 2 then (if 16 ≤ w then some (w - 16) else none)
  else if o = 3 then (if 0 < w % 16 then some (w - 1) else none)
  else none

/-- The input port by which a packet that left by output `o` arrives. -/
def enterPort (o : Nat) : Nat := (o + 2) % 4

/-- The packet whose header is at the front of an input's channel: none while flits of an earlier packet are
still there or on their way there (R317). -/
def front (d : Dev) (w inp vc : Nat) : Option Flight :=
  let here := fun (f : Flight) => f.ws == w && f.inp == inp && f.vc == vc
  if d.noc.flight.any (fun f => !here f && f.body.any (fun q => q.ws == w && q.inp == inp && q.vc == vc)) then
    none
  else d.noc.flight.find? here

/-- The flight list without the first packet of an input's channel. -/
def popFlight (d : Dev) (w inp vc : Nat) : List Flight :=
  match d.noc.flight.findIdx? (fun f => f.ws == w && f.inp == inp && f.vc == vc) with
  | some k => d.noc.flight.eraseIdx k
  | none => d.noc.flight

/-- The copy of an output's enables that a packet's epoch selects (R328). -/
def outEnabled (d : Dev) (w o : Nat) (ep : Bool) : Bool :=
  if (bit01 ep) = d.epoch then d.bit (Reg.PORT_EN_ACTIVE w) o else d.bit (Reg.PORT_EN_SHADOW w) o

/-- The owner of slot `s` of an output (R319): an input, or 7 for free. -/
def slotOwner (d : Dev) (copy w o s : Nat) : Nat :=
  SMap.get 7 d.slots (((copy * 192 + w) * 5 + o) * 256 + s)

/-- A packet's header can take its next hop: its output has room for its channel, and no other packet is on it
(R317, R318); the channel is BE for a guaranteed packet outside its slot (R321). Or the packet is one that
the waystation discards. -/
def canHop (d : Dev) (f : Flight) : Bool :=
  let o := f.pkt.route % 8
  if 4 ≤ o then true
  else match meshStep f.ws o with
    | none => true
    | some w' =>
      let own := d.slotOwner (bit01 f.pkt.epoch) f.ws o (d.get Reg.NOC_STS_SLOT)
      let vc := if f.vc = 0 ∧ own ≠ f.inp then 3 else f.vc
      d.bufferFree w' (enterPort o) vc

/-- The output grants this packet now (R317): first a guaranteed flit from the slot's owner, then
management, responses and best-effort; within a channel the inputs in rotating order. A guaranteed
packet outside its slot asks as best-effort. -/
def granted (d : Dev) (f : Flight) : Bool :=
  let o := f.pkt.route % 8
  let rank := fun (g : Flight) =>
    if g.vc = 0 then
      (if d.slotOwner (bit01 g.pkt.epoch) g.ws o (d.get Reg.NOC_STS_SLOT) = g.inp then 0 else 3)
    else g.vc
  let turn := fun (g : Flight) =>
    (g.inp + 5 - SMap.get 0 d.noc.arb ((g.ws * 8 + o) * 4 + rank g)) % 5
  (List.range 5).all (fun inp => (List.range 4).all (fun vc =>
    match d.front f.ws inp vc with
    | none => true
    | some g =>
      if (inp, vc) = (f.inp, f.vc) ∨ g.pkt.route % 8 ≠ o ∨ !d.canHop g then true
      else rank f < rank g || (rank f == rank g && turn f ≤ turn g)))

/-- A packet is ejected to NI `i` (R321, R323, R332). -/
def eject (d : Dev) (i : Nat) (f : Flight) : Dev :=
  let p := f.pkt
  let s := d.niSt i
  if p.dst ≠ i then d.nocDrop i true 0 6
  else if p.cmd = 5 then
    (match niDomain i with
     | some dom =>
       if d.guardClosed i ∧ (!d.on (Reg.DOM_STS_DRAINING dom) ∨ (SMap.get {} d.doms dom).drained) then
         d.nocDrop i true 0 5
       else d.setNi i { s with rx := s.rx ++ [p] }
     | none => d.setNi i { s with rx := s.rx ++ [p] })
  else if f.vc = 0 ∧
      64 < ((s.rx.filter (fun q => q.cls == 1)).map Pkt.flits).sum + p.flits then
    (d.nocDrop i true 0 4).count (Reg.NI_CNT2_GT_DROP i)
  else d.setNi i { s with rx := s.rx ++ [p] }

/-- The packet as it leaves a buffer whose stored bytes `flips` have changed, header bytes first (R285): none when
a byte of the header is uncorrectable; an uncorrectable data byte leaves the data poisoned (R287). -/
def hopPkt (flips : List (Nat × BitVec 13)) (p : Pkt) : Option Pkt :=
  if (transit (flips.filter (·.1 < 64)) p.headerBytes).2 then none
  else
    let x := transit ((flips.filter (64 ≤ ·.1)).map (fun e => (e.1 - 64, e.2))) p.data
    some (if x.2 then
      { p with data := x.1, poison := true
               code := if p.cmd = 5 ∧ p.code = .ok then .poison else p.code }
      else { p with data := x.1 })

/-- What waits in the network interfaces for room in the network enters it where there is room now. -/
def netPump (d : Dev) : Dev :=
  let d1 := { d with noc := { d.noc with flight := compact d.noc.flight } }
  ((d1.ni.filter (fun e => e.2.rspOut != [] || e.2.waiting != [])).map (·.1)).foldl
    (fun a i => (a.rspPump i).niSend i) d1

/-- WAYSTATION_HOP: the header at the front of an input's channel takes its next hop (R314), when its
output grants it; its flits follow, and what their leaving makes room for. `flips`: errors in the bytes that
the buffer holds of the packet (R285). -/
def waystationHop (w : Fin 192) (inp : Fin 5) (vc : Fin 4) (flips : List (Nat × BitVec 13)) (d : Dev) : Dev :=
  match d.front w.val inp.val vc.val with
  | none => d
  | some f0 =>
    let o := f0.pkt.route % 8
    let gone := { d with noc := { d.noc with flight := d.popFlight w.val inp.val vc.val } }
    if d.domState (4 + wsPart w.val) ≠ 0 then d
    else match hopPkt flips f0.pkt with
    | none => (gone.nocDrop w.val false o 3).netPump
    | some pk =>
      let f := { f0 with pkt := pk }
      if 5 ≤ o ∨ 32 ≤ f.pkt.hops ∨ (o < 4 ∧ (meshStep w.val o).isNone)
          ∨ (o = 4 ∧ (niAtWs w.val).isNone) then (gone.nocDrop w.val false o 2).netPump
      else if !d.outEnabled w.val o f.pkt.epoch then (gone.nocDrop w.val false o 1).netPump
      else if !d.canHop f0 ∨ !d.granted f0 then d
      else
        let own := d.slotOwner (bit01 f.pkt.epoch) w.val o (d.get Reg.NOC_STS_SLOT)
        let miss := decide (vc.val = 0 ∧ own ≠ inp.val)
        let vc' := if miss then 3 else vc.val
        let arb := SMap.put 0 gone.noc.arb ((w.val * 8 + o) * 4 + vc') ((inp.val + 1) % 5)
        let p := { f.pkt with
          route := f.pkt.route / 8 % 2 ^ 93 + inp.val * 2 ^ 93, hops := f.pkt.hops + 1 }
        let d1 := { gone with noc := { gone.noc with arb := arb } }
        let d2 := if miss then
            (d1.raise Reg.NOC_EVT_GT_MISS).count Reg.NOC_CNT_GT_MISS_CNT else d1
        let d3 := if o = 4 then
            (match niAtWs w.val with
             | some i => d2.eject i { f with pkt := p, vc := vc' }
             | none => d2)
          else
            match meshStep w.val o with
            | some w' => d2.setFlight (d2.noc.flight ++
                [⟨w', enterPort o, vc', p, ⟨w', enterPort o, vc', 0⟩ :: f.body⟩])
            | none => d2
        d3.netPump

/-! ## Responses, timeouts, FENCEs -/

/-- The first packet an NI has received that `p` holds for. -/
def firstRx (d : Dev) (i : Nat) (p : Pkt → Bool) : Option Pkt := (d.niSt i).rx.find? p

/-- The device with that packet taken from the NI's buffer. -/
def takeRx (d : Dev) (i : Nat) (p : Pkt → Bool) : Dev :=
  let s := d.niSt i
  match s.rx.findIdx? p with
  | some k => d.setNi i { s with rx := s.rx.eraseIdx k }
  | none => d

/-- The block behind NI `i` takes the oldest received request (R405): one that had passed the guard when
it closed leaves the count of those. -/
def takeReq (d : Dev) (i : Nat) : Dev :=
  let d1 := d.takeRx i (fun p => p.cmd != 5)
  d1.setNi i { d1.niSt i with inside := (d1.niSt i).inside - 1 }

/-- The guard of NI `i` is closed to the oldest received request (R332, R405). -/
def guardBars (d : Dev) (i : Nat) : Bool := d.guardClosed i && (d.niSt i).inside == 0

/-- RSP: the oldest response that has reached NI `i` completes its request; one whose request has
ended is discarded and counted (R324). The logic behind the interface has read `taken` responses since. -/
def rspArrive (i : Fin 170) (taken : Nat) (d0 : Dev) : Dev :=
  let d := d0.rsTake i.val taken
  match d.firstRx i.val (fun p => p.cmd == 5) with
  | none => d
  | some p =>
    let d1 := d.takeRx i.val (fun p => p.cmd == 5)
    match (d1.niSt i.val).tags.find? (fun t => t.tag == p.tag && t.injected) with
    | none => d1.count (Reg.NI_CNT_LATE_RSP i)
    | some t => (d1.niComplete i.val t p.code p.poison p.data).niPump i.val

/-- NI_TIMEOUT: the timer of a request reaches TO_US: a response TIMEOUT is synthesized (R324). A
response that is at the NI in the same cycle wins. -/
def niTimeout (i : Fin 170) (tag : Fin 4096) (d : Dev) : Dev :=
  if (d.niSt i.val).rx.any (fun p => p.cmd == 5 && p.tag == tag.val) then d
  else
    match (d.niSt i.val).tags.find? (fun t => t.tag == tag.val && t.injected) with
    | none => d
    | some t =>
      ((d.count (Reg.NI_CNT_TIMEOUT_CNT i)).niComplete i.val t .timeout false []).niPump i.val

/-- FENCE_PACKET: a FENCE takes a tag at NI `i` (R325). -/
def fencePacket (i : Fin 170) (user : BitVec 48) (d : Dev) : Dev :=
  d.niPresent i.val { cmd := 4, user := user.toNat }

/-- FENCE_PACKET_COMPLETE: the NI's oldest FENCE completes once every earlier write has (R35): its
code is that of the earliest failed write among those it reports on. -/
def fencePacketComplete (i : Fin 170) (d : Dev) : Dev :=
  let s := d.niSt i.val
  match s.fences with
  | [] => d
  | ⟨tag, limit, user⟩ :: rest =>
    let mine := s.writes.filter (fun w => w.num < limit)
    if mine.any (fun w => w.code.isNone) then d
    else
      let code := ((mine.filterMap (fun w => w.code)).find? (· != .ok)).getD .ok
      (d.setNi i.val { s with
        fences := rest, writes := s.writes.filter (fun w => limit ≤ w.num)
        rs := s.rs ++ [{ cmd := 5, tag := tag, code := code, dst := i.val, src := i.val, user := user }] }).niPump
          i.val

/-- A request is answered at its target (R316): the response enters the network on the RSP channel,
unless the NI has stopped counting the request (R330). -/
def answerReq (d : Dev) (i : Nat) (p : Pkt) (code : Code) (poison : Bool := false)
    (data : List Byte := []) : Dev :=
  let s := d.niSt i
  if s.stale.contains (p.src, p.tag) then
    (d.setNi i { s with stale := s.stale.erase (p.src, p.tag) }).raise Reg.NOC_EVT_STALE_RSP
  else d.sendRsp i p code poison data

/-! ## Route epochs -/

/-- Old-epoch items: packets in flight, and at NI `i` packets in its buffers and requests received
and not yet answered (R330). -/
def oldAtNi (d : Dev) (i : Nat) : Nat :=
  let s := d.niSt i
  let old := fun (p : Pkt) => bit01 p.epoch != d.epoch
  let counted := fun (p : Pkt) => old p && !s.stale.contains (p.src, p.tag)
  s.rx.countP (fun p => if p.cmd = 5 then old p else counted p) + s.served.countP counted
    + s.guarded.countP counted + s.rspOut.countP old
    + (if 128 ≤ i ∧ i < 160 then (d.chSt (i - 128)).reqs.countP (fun r => counted r.pkt) else 0)

/-- All old-epoch items of the network. -/
def oldLeft (d : Dev) : Nat :=
  d.noc.flight.countP (fun f => bit01 f.pkt.epoch != d.epoch)
    + ((List.range 170).map d.oldAtNi).sum

/-- From EPOCH acceptance until DRAINED, shadow writes are answered BUSY (R330). -/
def nocBusy (d : Dev) : Bool := d.on Reg.NOC_STS_COMMIT_PENDING || !d.on Reg.NOC_STS_DRAINED

/-- EPOCH is accepted (R328). `copy`: an RB_COPY of the same cycle, which wins (R333). -/
def epochEff (copy : Bool) (d : Dev) : Dev × Code :=
  if copy ∨ d.nocBusy then (d, .busy)
  else ((d.raise Reg.NOC_STS_COMMIT_PENDING).cmdStart 0x6000 1, .ok)

/-- EPOCH_TAKES_EFFECT: at the slot boundary the epoch bit flips everywhere and the copies of the old
epoch become the shadow copies; the quiet window starts (R328, R329). -/
def epochTakesEffect (d : Dev) : Dev :=
  if !d.on Reg.NOC_STS_COMMIT_PENDING then d
  else
    let d1 := (d.set Reg.NOC_STS_EPOCH_CUR (1 - d.epoch)).clear Reg.NOC_STS_COMMIT_PENDING
    let d2 := (List.range 192).foldl (fun a w =>
      (a.set (Reg.PORT_EN_ACTIVE w) (d.get (Reg.PORT_EN_SHADOW w))).set (Reg.PORT_EN_SHADOW w)
        (d.get (Reg.PORT_EN_ACTIVE w))) d1
    let d3 := ((d2.clear Reg.NOC_STS_DRAINED).raise Reg.NOC_STS_GT_QUIET).raise
      Reg.NOC_EVT_EPOCH_DONE
    let d4 := { d3 with noc := { d3.noc with undoBook := [], undoSlot := [], undoEn := [] } }
    (d4.cmdDone 0x6000 1 .ok).barrierDone 1 0 .ok

/-- GT_QUIET_END (R329). -/
def gtQuietEnd (d : Dev) : Dev := d.clear Reg.NOC_STS_GT_QUIET

/-- OLD_EPOCH_DRAINED: every count has reached zero (R330). -/
def oldEpochDrained (d : Dev) : Dev :=
  if d.on Reg.NOC_STS_DRAINED ∨ d.oldLeft ≠ 0 then d
  else (d.raise Reg.NOC_STS_DRAINED).raise Reg.NOC_EVT_DRAINED_EVT

/-- OLD_REQUEST_EXPIRY: 16 ms after the commit, NI `i` stops counting its unanswered old-epoch
requests, wherever they stand (R330). -/
def oldRequestExpiry (i : Fin 170) (d : Dev) : Dev :=
  let s := d.niSt i.val
  let old := fun (p : Pkt) => bit01 p.epoch != d.epoch
  let more := ((s.rx ++ s.guarded).filter (fun p => p.cmd != 5) ++ s.served ++ (if 128 ≤ i.val ∧ i.val < 160
    then (d.chSt (i.val - 128)).reqs.map (·.pkt) else [])).filter old
  d.setNi i.val { s with stale :=
    s.stale ++ (more.map (fun p => (p.src, p.tag))).filter (fun e => !s.stale.contains e) }

/-! ## Commands of the NOC block -/

/-- RB_DATA0 to RB_DATA3 as one entry. -/
def rbData (d : Dev) : Nat :=
  (List.range 4).foldl (fun a w => a + d.get (Reg.RB_DATA_DATA w) * 2 ^ (32 * w)) 0

/-- One hop of the walk of R315: the waystation, whether an N, E or S hop has been made, and the
first failure (cause, hop) or the hop of the L. -/
def walkHop (route : Nat) (acc : Nat × Bool × Option (Nat × Nat) × Bool) (j : Nat) :
    Nat × Bool × Option (Nat × Nat) × Bool :=
  let (w, turned, fail, ended) := acc
  if ended ∨ fail.isSome then acc
  else
    let h := route / 2 ^ (3 * j) % 8
    if 5 ≤ h then (w, turned, some (2, j), false)
    else if h = 4 then (w, turned, some (0, j), true)
    else match meshStep w h with
      | none => (w, turned, some (1, j), false)
      | some w' =>
        if h = 3 ∧ turned then (w, turned, some (5, j), false)
        else (w', turned || h != 3, none, false)

/-- The check of a valid entry of NI `i`'s book (R315): cause and hop of the first failure. -/
def bookCheck (i e v : Nat) : Option (Nat × Nat) :=
  let dst := e % 256
  let cls := v / 2 ^ 104 % 4
  if 170 ≤ dst then some (7, 0)
  else if cls = 3 ∨ (cls = 2 ∧ !(164 ≤ i ∧ i ≤ 168)) then some (6, 0)
  else
    match (List.range 32).foldl (walkHop (v % 2 ^ 96)) (niWs i, false, none, false) with
    | (w, _, some (0, j), true) => if w = niWs dst then none else some (4, j)
    | (_, _, some f, _) => some f
    | (_, _, none, _) => some (3, 31)

/-- RB_NI names an NI without a route book. -/
def rbNoTarget (d : Dev) : Option Code :=
  if 170 ≤ d.get Reg.NOC_RBSEL_RB_NI then some .noTarget else none

/-- RB_WRITE (R315, R330). -/
def rbWriteEff (d : Dev) : Dev × Code :=
  if d.nocBusy then (d, .busy)
  else
    let i := d.get Reg.NOC_RBSEL_RB_NI
    let e := d.get Reg.NOC_RBSEL_RB_IDX
    let v := d.rbData
    match (if v.testBit 127 then bookCheck i e v else none) with
    | some (c, h) =>
      ((((d.set Reg.RB_ERR_CAUSE c).set Reg.RB_ERR_HOP h).raise Reg.NOC_EVT_RB_REFUSED).cmdDone
        0x6010 3 .targetErr, .targetErr)
    | none => ((d.stageBook i (1 - d.epoch) e v).cmdDone 0x6010 3 .ok, .ok)

/-- RB_READ: the entry goes to RB_DATA, from the active copy with READ_ACTIVE; a poisoned one is
answered POISON (R315, R335). -/
def rbReadEff (d : Dev) : Dev × Code :=
  let c := if d.ctlOn Reg.NOC_CTL_READ_ACTIVE then d.epoch else 1 - d.epoch
  let r := d.bookRead (d.get Reg.NOC_RBSEL_RB_NI) c (d.get Reg.NOC_RBSEL_RB_IDX)
  let d1 := (List.range 4).foldl
    (fun a w => a.set (Reg.RB_DATA_DATA w) (r.1 / 2 ^ (32 * w))) r.2.2
  let code : Code := if r.2.1 then .poison else .ok
  (d1.cmdDone 0x6010 4 code, code)

/-- Entry `e` of NI `i`'s active book is copied to its shadow book; a poisoned byte stays poisoned (R288). -/
def copyEntry (i : Nat) (d : Dev) (e : Nat) : Dev :=
  let m := MemUnit.hs (2 + i)
  let r := d.readBytes m (d.epoch * 8192 + e * 16) 16
  (r.1.zipIdx).foldl (fun a b =>
    if b.1.2 then a.storeByte m ((1 - d.epoch) * 8192 + e * 16 + b.2) 0 true else a)
    (r.2.stageBook i (1 - d.epoch) e (ofLe (r.1.map (·.1))))

/-- The active book of NI `i` is copied to its shadow book. -/
def copyBook (d : Dev) (i : Nat) : Dev := (List.range 512).foldl (copyEntry i) d

/-- RB_COPY (R315, R335). -/
def rbCopyEff (d : Dev) : Dev × Code :=
  if d.nocBusy then (d, .busy)
  else
    let is := if d.ctlOn Reg.NOC_CTL_RB_ALL then List.range 170 else [d.get Reg.NOC_RBSEL_RB_NI]
    ((is.foldl copyBook d).cmdDone 0x6010 5 .ok, .ok)

/-- The key of slot 8 × GROUP + k of the output that NOC_STSEL names, in copy `c`. -/
def stKey (d : Dev) (c k : Nat) : Nat :=
  ((c * 192 + d.get Reg.NOC_STSEL_WS) * 5 + d.get Reg.NOC_STSEL_PORT) * 256
    + 8 * d.get Reg.NOC_STSEL_GROUP + k

/-- The slot of a shadow table is staged: what it held first is kept for R23. -/
def stageSlot (d : Dev) (key v : Nat) : Dev :=
  let undo := if d.noc.undoSlot.any (fun x => x.1 == key) then d.noc.undoSlot
    else d.noc.undoSlot.insert key (SMap.get 7 d.slots key)
  { d with slots := SMap.put 7 d.slots key v, noc := { d.noc with undoSlot := undo } }

/-- ST_WRITE: owners 5 and 6 act as free (R335). -/
def stWriteEff (d : Dev) : Dev × Code :=
  if d.nocBusy then (d, .busy)
  else
    (((List.range 8).foldl (fun a k =>
      let v := fieldOf (d.word Reg.ST_DATA) (4 * k) 4 % 8
      a.stageSlot (d.stKey (1 - d.epoch) k) (if 5 ≤ v then 7 else v)) d).cmdDone 0x6020 3 .ok, .ok)

/-- ST_READ. -/
def stReadEff (d : Dev) : Dev × Code :=
  let c := if d.ctlOn Reg.NOC_CTL_READ_ACTIVE then d.epoch else 1 - d.epoch
  let x := (List.range 8).foldl
    (fun x k => withField x (4 * k) 4 (SMap.get 7 d.slots (d.stKey c k))) (0 : Word)
  ((d.putWord Reg.ST_DATA x).cmdDone 0x6020 4 .ok, .ok)

/-- Staged and uncommitted changes of the network are discarded (R23): books, slot tables and port
enables return to what they held. A commit that has been accepted goes on. -/
def nocDiscard (d : Dev) : Dev :=
  if d.on Reg.NOC_STS_COMMIT_PENDING then d
  else
    let c := 1 - d.epoch
    let d1 := d.noc.undoBook.foldl (fun a u =>
      (List.range 16).foldl (fun a k =>
        a.setCell (.hs (2 + u.1 / 512)) (c * 8192 + u.1 % 512 * 16 + k)
          (BitVec.ofNat 13 (u.2 / 2 ^ (13 * k)))) a) d
    let d2 := d.noc.undoSlot.foldl (fun a u => { a with slots := SMap.put 7 a.slots u.1 u.2 }) d1
    let d3 := d.noc.undoEn.foldl (fun a u => a.set (Reg.PORT_EN_SHADOW u.1) u.2) d2
    { d3 with noc := { d3.noc with undoBook := [], undoSlot := [], undoEn := [] } }

/-- PORT_EN.SHADOW of waystation `w` has been written, having held `old`: what it held first is kept
for R23. -/
def portEnWritten (w old : Nat) (d : Dev) : Dev :=
  let undo := if d.noc.undoEn.any (fun x => x.1 == w) then d.noc.undoEn
    else d.noc.undoEn.insert w old
  { d with noc := { d.noc with undoEn := undo } }

/-! ## Fence guards -/

/-- The guard of NI `i` closes: the requests that have reached it have passed it (R405). -/
def guardClose (d : Dev) (i : Nat) : Dev :=
  (d.setNi i { d.niSt i with inside := (d.niSt i).rx.countP (fun p => p.cmd != 5) }).raise
    (Reg.NI_STS_GUARD_CLOSED i)

/-- The block of NI `i` is out of service: a retired region, channel or engine (R227, R297, R375). -/
def unitRetired (d : Dev) (i : Nat) : Bool :=
  if i < 128 then d.rstate i == rsRetired
  else if i < 160 then d.chRetired (i - 128)
  else i < 164 && !d.bit Reg.CTX_STS_ENG_LIVE (i - 160)

/-- A request that has reached a closed fence guard (R332). RETIRED ranks before FENCED (R44), and so does the
NO_TARGET of a region without an ACTIVE image (R40). Outside
compatibility mode the guard answers FENCED and counts it. In compatibility mode (R410), which is that of regions,
channels and engines, it is held, and the answer says that a request was held; a full guard leaves it in the network interface's buffer. -/
def guardRequest (d : Dev) (i : Nat) : Dev × Bool :=
  let s := d.niSt i
  match (s.rx.filter (fun p => p.cmd != 5))[s.inside]? with
  | none => (d, false)
  | some p =>
    let d1 := d.setNi i { s with rx := s.rx.erase p }
    if !d.guardClosed i then (d, false)
    else if d.unitRetired i then (d1.answerReq i p .retired, false)
    else if i < 128 ∧ !d.hasImage i then (d1.answerReq i p .noTarget, false)
    else if !d.ctlOn Reg.PWR_CTL_COMPAT_WAKE ∨ 164 ≤ i then
      ((d1.count (Reg.NI_CNT2_FENCED_CNT i)).answerReq i p .fenced, false)
    else if 16 ≤ s.guarded.length then (d, false)
    else (d1.setNi i { d1.niSt i with guarded := s.guarded ++ [p] }, true)

/-- The guard of NI `i` opens: requests it holds go on in arrival order, and the block's own requests
are taken (R332, R410). -/
def guardOpen (d : Dev) (i : Nat) : Dev :=
  let d1 := d.clear (Reg.NI_STS_GUARD_CLOSED i)
  let s := d1.niSt i
  (d1.setNi i { s with rx := s.guarded ++ s.rx, guarded := [], inside := 0 }).niPump i

end Dev

end Sys2Proof.Machine
end

