-- ==== Sys2Proof/Machine/Dram.lean ====
section
/-! DEFINITION. Stacked DRAM (R337 to R361): the address map, a channel's requests, bank queues and
pick, urgency, refresh, responses in stream order, delay moves and the bring-up check. The timings
of R338 are not counted: a command-issue step is given the banks whose next command is ready. -/

namespace Sys2Proof.Machine

namespace Dev

/-! ## Channel registers -/

/-- A field of channel `k`'s registers, from one indexed by stack and channel. -/
def chF (f : Nat → Nat → Fld) (k : Nat) : Fld := f (k / 16) (k % 16)

/-- The latency target of port `p` of channel `k` as used: 1,000 ns when its register has failed
(R360). -/
def portLat (d : Dev) (k p : Nat) : Nat :=
  if k < 16 then d.ctl (Reg.PORT_LAT0_LAT_NS k p) else d.ctl (Reg.PORT_LAT1_LAT_NS (k - 16) p)

/-- A line read or written by channel `k` is counted, in 64 bits (R360). -/
def countLine (d : Dev) (k : Nat) (write : Bool) : Dev :=
  let w := if write then 2 else 0
  if k < 16 then d.count64 (Reg.CH_RDWR0_WORD k w) (Reg.CH_RDWR0_WORD k (w + 1))
  else d.count64 (Reg.CH_RDWR1_WORD (k - 16) w) (Reg.CH_RDWR1_WORD (k - 16) (w + 1))

/-- The written delay of DQ line `j` of channel `k`; a failed word leaves its lines where they are
(R360). -/
def dqDelay (d : Dev) (k j : Nat) : Nat :=
  let off := if k < 16 then Reg.DLY0 k (j / 4) else Reg.DLY1 (k - 16) (j / 4)
  if d.failed off then SMap.get 0 (d.chSt k).applied j
  else fieldOf (d.word off) (8 * (j % 4)) 7

/-! ## The address map (R340 to R344) -/

/-- The map is built at a data-plane reset: the mode written takes effect, and a stripe map is built
over the channels not retired. Answers whether DRAM counts as lost (R344). -/
def rebuildMap (d : Dev) : Dev × Bool :=
  let stripe := d.ctlOn Reg.DR_MAP_MAP_MODE && !d.failed Reg.DR_MAP
    || (d.failed Reg.DR_MAP && d.stripeMode)
  let live := (List.range 32).filter (fun k => !d.chRetired k)
  let n := live.length
  let lost := stripe != d.stripeMode || (stripe && live != d.stripe)
  let d1 := (d.setBit Reg.DR_MAP_MODE_ACTIVE stripe).set Reg.DR_MAP_N_CH n
  let gap := stripe && n < 32
  let d2 := (d1.set Reg.DR_GAP_GAP_BASE (if gap then n * 1024 - 896 else 0)).set Reg.DR_GAP_GAP_SIZE
    (if gap then (32 - n) * 1024 else 0)
  ({ d2 with stripe := if stripe then live else d2.stripe }, lost)

/-! ## Requests -/

/-- The bank of a line (R339). -/
def bankOf (line : Nat) : Nat := 4 * (line % 8) + line / 256 % 4

/-- The row of a line (R339). -/
def rowOf (line : Nat) : Nat := line / 1024 % 16384

/-- The byte enables of data flit `i` of a write of `n` flits (R309). -/
def flitEnables (p : Pkt) (i n : Nat) : Nat :=
  if i = 0 then p.beFirst else if i + 1 = n then p.beLast else 2 ^ 64 - 1

/-- The lines that a request covers, as line numbers of its channel. -/
def reqLines (d : Dev) (p : Pkt) : List Nat :=
  let n := if p.cmd = 0 then p.len else if p.cmd = 3 then 1 else (p.data.length + 63) / 64
  (List.range n).filterMap (fun i =>
    (d.dramPlace (p.addr / 64 * 64 + 64 * i)).map (fun q => q.2 / 64))

/-- The code with which channel `k` refuses a request at once (R39, R44, R331, R359): a retired
channel, the store ranges, the firewall, and the bring-up check. -/
def dramRefusal (d : Dev) (k : Nat) (p : Pkt) : Option Code :=
  let s := p.span
  let meets := fun (lo hi : Nat) => decide (s.1 < hi ∧ lo < s.1 + s.2)
  let allow := fun (rd : Bool) =>
    d.bit (if rd then Reg.FW_RD_MASK k (p.src / 32) else Reg.FW_WR_MASK k (p.src / 32)) (p.src % 32)
      && !d.failed (if rd then Reg.FW_RD k (p.src / 32) else Reg.FW_WR k (p.src / 32))
  if d.chRetired k then some .retired
  else if d.on Reg.SCRUB_STS_GOLDEN_USABLE ∧ meets 0x7E8000000 0x800000000 ∧ p.src ≠ 165 then
    some .denied
  else if d.on Reg.CTX_STS_IN_USE ∧ meets 0x7C8000000 0x7E8000000
      ∧ !(160 ≤ p.src ∧ p.src < 164) then some .denied
  else if (p.cmd = 0 ∨ p.cmd = 3) ∧ !allow true then some .denied
  else if p.isWrite ∧ !allow false then some .denied
  else if d.on (chF Reg.CH_STS_BRINGUP_BUSY k) then some .busy
  else if p.cmd ≠ 0 ∧ !p.isWrite then some .targetErr
  else none

/-- Two requests belong to one stream: same source, route-book entry, class and epoch (R33, R346). -/
def sameStream (a b : Pkt) : Bool :=
  a.src == b.src && a.alt == b.alt && a.cls == b.cls && a.epoch == b.epoch

/-- A request of command `cmd` that has reached channel `k`'s network interface is refused, its answer keeping its
turn in its stream (R346), or enters
the channel's interface, which holds up to 64 waiting requests, with its target and its age
starting now (R345, R348). -/
def dramTake (k cmd : Nat) (d : Dev) : Dev :=
  let i := 128 + k
  match d.firstRx i (fun p => p.cmd != 5) with
  | none => d
  | some p =>
    if p.cmd ≠ cmd ∨ d.guardBars i then d
    else
      let d1 := d.takeReq i
      let s := d1.chSt k
      match d.dramRefusal k p with
      | some c =>
        if s.reqs.any (fun x => sameStream x.pkt p) then
          d1.setCh k { s with
            reqs := s.reqs ++ [{ id := s.nextId, pkt := p, target := d1.portLat k p.dport, urgency := 0
                                 toQueue := [], left := [], got := [], code := c }]
            nextId := s.nextId + 1 }
        else d1.answerReq i p c
      | none =>
        if 64 ≤ (s.reqs.filter (fun r => r.toQueue ≠ [])).length then d
        else
          let lines := d1.reqLines p
          d1.setCh k { s with
            reqs := s.reqs ++ [⟨s.nextId, p, d1.portLat k p.dport, 0, lines, lines, [], .ok⟩]
            nextId := s.nextId + 1 }

/-- DRAM_REQ_ENQUEUE: every line that waits in the interface moves into its bank's queue while that
has room; a line that waits blocks later ones of the same bank alone (R345). -/
def dramReqEnqueue (k : Fin 32) (d : Dev) : Dev :=
  let s := d.chSt k.val
  let step := fun (acc : List DramLine × List Nat × List DramReq) (r : DramReq) =>
    let inner := r.toQueue.foldl (fun (a : List DramLine × List Nat × List Nat) l =>
      let b := bankOf l
      if a.2.1.contains b ∨ 16 ≤ (a.1.filter (fun q => bankOf q.line == b)).length then
        (a.1, b :: a.2.1, a.2.2 ++ [l])
      else (a.1 ++ [⟨r.id, l⟩], a.2.1, a.2.2)) (acc.1, acc.2.1, [])
    (inner.1, inner.2.1, acc.2.2 ++ [{ r with toQueue := inner.2.2 }])
  let out := s.reqs.foldl step (s.queue, [], [])
  d.setCh k.val { s with queue := out.1, reqs := out.2.2 }

/-! ## The pick -/

/-- The urgency of a queue entry. -/
def urgencyOf (s : ChSt) (q : DramLine) : Nat :=
  match s.reqs.find? (fun r => r.id == q.id) with
  | some r => r.urgency
  | none => 0

/-- Entries of bank `b` that no earlier entry of their own line holds back (R347). -/
def bankEntries (s : ChSt) (b : Nat) : List DramLine :=
  let es := s.queue.filter (fun q => bankOf q.line == b)
  (es.zipIdx.filter (fun e => !(es.take e.2).any (fun x => x.line == e.1.line))).map (·.1)

/-- The entries of bank `b` with the highest urgency there, oldest first (R349). -/
def bankBest (s : ChSt) (b : Nat) : List DramLine :=
  let es := bankEntries s b
  let top := (es.map (urgencyOf s)).foldl max 0
  es.filter (fun q => urgencyOf s q == top)

/-- The candidate of bank `b` (R349): the highest urgency, then a request to the open row while its
passes allow, then the oldest. -/
def bankCandidate (s : ChSt) (limit b : Nat) : Option DramLine :=
  let best := bankBest s b
  let row := SMap.get 0 s.rows b
  match best with
  | [] => none
  | oldest :: _ =>
    match best.find? (fun q => row == rowOf q.line + 1) with
    | some hit =>
      if hit = oldest ∨ SMap.get 0 s.passes b < limit then some hit else some oldest
    | none => some oldest

/-- The merged bytes of a write to line number `i` of its flits. -/
def lineBytes (p : Pkt) (i : Nat) : List (Nat × Byte) :=
  let n := (p.data.length + 63) / 64
  (List.range 64).filterMap (fun b =>
    if (flitEnables p i n).testBit b then some (b, p.data.getD (64 * i + b) 0) else none)

/-- The bytes that an ATOM stores over `old`, little-endian of `w` bytes (R326). -/
def atomValue (p : Pkt) (w old : Nat) : Option Nat :=
  match p.atop with
  | 0 => some (p.operand % 2 ^ (8 * w))
  | 1 => some ((old + p.operand) % 2 ^ (8 * w))
  | 2 => if old = p.compare % 2 ^ (8 * w) then some (p.operand % 2 ^ (8 * w)) else none
  | _ => none

/-- An ATOM on the bytes at `a` of unit `m` (R326): the old bytes with their poison, and the device
after it. A poisoned old value stores nothing. -/
def atomOn (d : Dev) (m : MemUnit) (a : Nat) (p : Pkt) : List (Byte × Bool) × Dev :=
  let w := if p.asize then 8 else 4
  let r := d.readBytes m a w
  if r.1.any (·.2) then (r.1, r.2)
  else
    match atomValue p w (ofLe (r.1.map (·.1))) with
    | some v => (r.1, r.2.storeBytes m a (leBytes w v))
    | none => (r.1, r.2)

/-- The data flit that carries an ATOM's old value in its byte lanes. -/
def atomFlit (p : Pkt) (old : List (Byte × Bool)) : List Byte :=
  List.replicate (p.addr % 64) 0 ++ old.map (·.1)
    ++ List.replicate (64 - p.addr % 64 - old.length) 0

/-- The column command of a queue entry serves its line (R284, R286, R347): a read through the
checker, a write of its enabled bytes, or an ATOM. -/
def serveLine (d : Dev) (k : Nat) (q : DramLine) : Dev :=
  let s := d.chSt k
  let m := MemUnit.dram k
  match s.reqs.find? (fun r => r.id == q.id) with
  | none => d
  | some r =>
    let p := r.pkt
    let base := (d.reqLines p).idxOf q.line
    let done := fun (d : Dev) (got : List (Byte × Bool)) =>
      let s := d.chSt k
      d.setCh k { s with
        queue := s.queue.filter (fun x => x ≠ q)
        reqs := s.reqs.map (fun x => if x.id = q.id then
          { x with left := x.left.filter (· != q.line), got := x.got ++ [(base, got)] } else x) }
    if p.cmd = 0 then
      let x := d.readBytes m (64 * q.line) 64
      (done x.2 x.1).countLine k false
    else if p.cmd = 3 then
      let x := d.atomOn m (64 * q.line + p.addr % 64) p
      ((done x.2 x.1).countLine k false).countLine k true
    else
      let d1 := (lineBytes p base).foldl
        (fun a e => a.storeByte m (64 * q.line + e.1) e.2 p.poison) d
      (done d1 []).countLine k true

/-- A row is kept open after a column command (R350). -/
def keepsRow (d : Dev) (k : Nat) (p : Pkt) : Bool :=
  match d.ctl (chF Reg.CH_CTL_PAGE_MODE k) with
  | 1 => true
  | 2 => false
  | _ => p.page

/-- One command of bank `b` for its candidate: precharge, activate or column (R349, R350). -/
def issueFor (d : Dev) (k b : Nat) (q : DramLine) : Dev :=
  let s := d.chSt k
  let row := SMap.get 0 s.rows b
  let s' := { s with ptr := (b + 1) % 32 }
  if row = 0 then d.setCh k { s' with rows := SMap.put 0 s.rows b (rowOf q.line + 1) }
  else if row ≠ rowOf q.line + 1 then d.setCh k { s' with rows := SMap.put 0 s.rows b 0 }
  else
    let passes := if (bankBest s b).head? = some q then 0 else SMap.get 0 s.passes b + 1
    let keep := match s.reqs.find? (fun r => r.id == q.id) with
      | some r => d.keepsRow k r.pkt
      | none => false
    (d.setCh k { s' with passes := SMap.put 0 s.passes b passes
                         rows := if keep then s.rows else SMap.put 0 s.rows b 0 }).serveLine k q

/-- A bank holds a request of urgency U3 or U4. -/
def bankUrgent (s : ChSt) (b : Nat) : Bool :=
  s.queue.any (fun q => bankOf q.line == b && 3 ≤ urgencyOf s q)

/-- A refresh of bank `b` is issued: its row is closed. -/
def issueRefresh (d : Dev) (k b : Nat) : Dev :=
  let s := d.chSt k
  d.setCh k { s with refreshDue := s.refreshDue.erase b, refreshForced := s.refreshForced.erase b
                     rows := SMap.put 0 s.rows b 0 }

/-- DRAM_COMMAND_ISSUE: one controller cycle of channel `k` (R349, R351). `ready` marks the banks
whose next command the timings of R338 allow now. A forced refresh goes first, then a due refresh
of a bank without urgent requests, then the pick. -/
def dramCommandIssue (k : Fin 32) (ready : BitVec 32) (d : Dev) : Dev :=
  let s := d.chSt k.val
  let limit := d.ctl (chF Reg.CH_CTL_HIT_LIMIT k)
  if d.domState (16 + k.val) ≠ 0 ∨ d.chRetired k.val then d
  else match s.refreshForced.find? (fun b => ready.toNat.testBit b) with
    | some b => d.issueRefresh k b
    | none =>
      match s.refreshDue.find? (fun b => ready.toNat.testBit b && !bankUrgent s b) with
      | some b => d.issueRefresh k b
      | none =>
        let order := (List.range 32).map (fun j => (s.ptr + j) % 32)
        let cands := order.filterMap (fun b =>
          if ready.toNat.testBit b then (bankCandidate s limit b).map (fun q => (b, q)) else none)
        let u := (cands.map (fun c => urgencyOf s c.2)).foldl max 0
        match cands.find? (fun c => urgencyOf s c.2 == u) with
        | some c => d.issueFor k c.1 c.2
        | none => d

/-! ## Responses -/

/-- The bytes of a finished request's response, in order, with whether any is poisoned. -/
def respBytes (r : DramReq) : List Byte × Bool :=
  let parts := (List.range r.got.length).flatMap (fun i =>
    match r.got.find? (fun g => g.1 == i) with
    | some g => g.2
    | none => [])
  if r.pkt.cmd = 0 then (parts.map (·.1), parts.any (·.2))
  else if r.pkt.cmd = 3 then (atomFlit r.pkt parts, parts.any (·.2))
  else ([], false)

/-- DRAM_RESPONSE: the first finished request of channel `k` that no earlier unfinished request of
its stream holds back is answered (R346). One answered after its target has been missed (R348);
`age` is its age in ns. -/
def dramResponse (k : Fin 32) (age : Nat) (d : Dev) : Dev :=
  let s := d.chSt k.val
  let done := s.reqs.zipIdx.find? (fun e =>
    e.1.left.isEmpty && !(s.reqs.take e.2).any (fun x => sameStream x.pkt e.1.pkt))
  match done with
  | none => d
  | some (r, n) =>
    let d1 := d.setCh k.val { s with reqs := s.reqs.eraseIdx n }
    let d2 := if r.code = .ok ∧ r.target < age then
        (d1.raise (chF Reg.CH_EVT_MISSED k)).count (chF Reg.CH_LAT_CNT_MISSED_CNT k)
      else d1
    let x := respBytes r
    let bad := r.pkt.cmd == 3 && r.pkt.atop == 3
    d2.answerReq (128 + k.val) r.pkt (if r.code ≠ .ok then r.code else if x.2 then .poison else if bad then .targetErr else .ok) x.2
      x.1

/-- URGENCY_RISE: a queued request's age reaches its next level; U4 is overdue (R348). -/
def urgencyRise (k : Fin 32) (id : Nat) (d : Dev) : Dev :=
  let s := d.chSt k.val
  match s.reqs.find? (fun r => r.id == id) with
  | none => d
  | some r =>
    if 4 ≤ r.urgency then d
    else
      let d1 := d.setCh k.val { s with reqs := s.reqs.map (fun x =>
        if x.id = id then { x with urgency := x.urgency + 1 } else x) }
      if r.urgency = 3 then
        (d1.raise (chF Reg.CH_EVT_OVERDUE k)).count (chF Reg.CH_LAT_CNT_OVERDUE_CNT k)
      else d1

/-! ## Refresh, temperature, delays -/

/-- The next refresh of stack `s` brings the rate that its sensors ask for into force (R351). -/
def fastApply (s : Fin 2) (d : Dev) : Dev :=
  let b := SMap.get false d.fastWant s.val
  if d.on (Reg.CH_STS_FAST_REFRESH s.val 0) = b then d
  else
    ((List.range 16).foldl (fun a c => a.setBit (Reg.CH_STS_FAST_REFRESH s.val c) b) d).raise
      (if b then Reg.DR_TEMP_EVT_FAST_ON s else Reg.DR_TEMP_EVT_FAST_OFF s)

/-- REFRESH_DUE: a refresh comes due for the next bank in rotation, whose open row closes, and a change of rate comes
into force with it (R350, R351). -/
def refreshDue (k : Fin 32) (d : Dev) : Dev :=
  let s := d.chSt k.val
  if d.chRetired k.val ∨ d.domState (16 + k.val) ≠ 0 then d
  else
    (d.fastApply (Fin.ofNat 2 (k.val / 16))).setCh k.val { s with
      refreshNext := (s.refreshNext + 1) % 32
      rows := SMap.put 0 s.rows s.refreshNext 0
      refreshDue := if s.refreshDue.contains s.refreshNext then s.refreshDue
        else s.refreshDue ++ [s.refreshNext] }

/-- REFRESH_FORCED: the oldest due refresh that urgent requests have delayed 4 × tREFI is forced
(R351). -/
def refreshForced (k : Fin 32) (d : Dev) : Dev :=
  let s := d.chSt k.val
  match s.refreshDue.find? (fun b => bankUrgent s b && !s.refreshForced.contains b) with
  | none => d
  | some b =>
    (d.setCh k.val { s with refreshForced := s.refreshForced ++ [b] }).raise
      (chF Reg.CH_EVT_REFRESH_FORCED k)

/-- DRAM_TEMP_READ: the four sensors of stack `s` are read: the fast refresh rate is asked for above 85 °C
and until all read 82 °C or below, and HOT95 is set at 95 °C (R351, R352). -/
def dramTempRead (s : Fin 2) (t0 t1 t2 t3 : BitVec 8) (d : Dev) : Dev :=
  let ts := [t0, t1, t2, t3].map BitVec.toInt
  let d1 := (((d.set (Reg.DR_TEMP_T0 s) t0.toNat).set (Reg.DR_TEMP_T1 s) t1.toNat).set
    (Reg.DR_TEMP_T2 s) t2.toNat).set (Reg.DR_TEMP_T3 s) t3.toNat
  let want := fun (b : Bool) => { d1 with fastWant := SMap.put false d1.fastWant s.val b }
  let d2 := if ts.any (fun t => 85 < t) then want true
    else if ts.all (fun t => t ≤ 82) then want false
    else d1
  if ts.any (fun t => 95 ≤ t) then d2.raise (Reg.DR_TEMP_EVT_HOT95 s) else d2

/-- Some DQ line of channel `k` has not reached its written delay. -/
def dlyMoving (d : Dev) (k : Nat) : Bool :=
  (List.range 104).any (fun j => SMap.get 0 (d.chSt k).applied j != d.dqDelay k j)

/-- A delay of channel `k` has been written: DLY_MOVING follows (R354). -/
def dlyWritten (k : Nat) (d : Dev) : Dev := d.setBit (chF Reg.CH_STS_DLY_MOVING k) (d.dlyMoving k)

/-- DELAY_MOVE: each moving delay steps one tap; when all have arrived DLY_DONE is set (R354). -/
def delayMove (k : Fin 32) (d : Dev) : Dev :=
  if !d.on (chF Reg.CH_STS_DLY_MOVING k) then d
  else
    let s := d.chSt k.val
    let d1 := d.setCh k.val { s with applied := (List.range 104).foldl (fun m j =>
      let a := SMap.get 0 m j
      let t := d.dqDelay k j
      SMap.put 0 m j (if a < t then a + 1 else a - (if t < a then 1 else 0))) s.applied }
    if d1.dlyMoving k then d1
    else (d1.clear (chF Reg.CH_STS_DLY_MOVING k)).raise (chF Reg.CH_EVT_DLY_DONE k)

/-! ## The bring-up check (R355) -/

/-- BRINGUP is accepted: the check starts. -/
def bringupEff (k : Fin 32) (d : Dev) : Dev × Code :=
  if d.on (chF Reg.CH_STS_BRINGUP_BUSY k) then (d, .busy)
  else (d.raise (chF Reg.CH_STS_BRINGUP_BUSY k), .ok)

/-- BRINGUP_DONE: once no delay moves and no request is left, the bring-up lines have been written
with the raw codewords and read back, exactly unless `mismatch` (R355, R296). -/
def bringupDone (k : Fin 32) (mismatch : Bool) (d : Dev) : Dev :=
  if !d.on (chF Reg.CH_STS_BRINGUP_BUSY k) ∨ d.on (chF Reg.CH_STS_DLY_MOVING k)
      ∨ (d.chSt k.val).reqs ≠ [] then d
  else
    let m := MemUnit.dram k.val
    let base := m.bytes + m.entries * m.granule
    let d1 := (List.range 512).foldl (fun a i =>
      { a with cells := SMap.put 0 a.cells (cellKey m (base + i)) 0x1555 }) d
    let d2 := d1.clear (chF Reg.CH_STS_BRINGUP_BUSY k)
    if mismatch then (d2.raise (chF Reg.CH_EVT_BRINGUP_FAIL k)).unitFailed m 0 false else d2

end Dev

end Sys2Proof.Machine
end

