-- ==== Sys2Proof/Machine/Direct.lean ====
section
/-! DEFINITION. DRAM as the configuration controller and the context engines reach it: reads and
writes of a range through the map of R340, checked as any requested read (R286). -/

namespace Sys2Proof.Machine

namespace Dev

/-- The code with which the channel of DRAM address `a` answers a read or a write of NI `src` (R39, R44, R331,
R355, R359): RETIRED for the stripe gap and a retired channel (R343), FENCED behind a closed guard (R332), which
compatibility mode opens (R410), the golden store's and the context store's ranges while they are in use, the
firewall, and the bring-up check. -/
def dramCode (d : Dev) (src : Nat) (write : Bool) (a : Nat) : Code :=
  match d.dramPlace a with
  | none => .retired
  | some q =>
    let fw := if write then Reg.FW_WR q.1 (src / 32) else Reg.FW_RD q.1 (src / 32)
    let mask := if write then Reg.FW_WR_MASK q.1 (src / 32) else Reg.FW_RD_MASK q.1 (src / 32)
    if d.chRetired q.1 then .retired
    else if d.guardClosed (128 + q.1) ∧ !d.ctlOn Reg.PWR_CTL_COMPAT_WAKE then .fenced
    else if d.on Reg.SCRUB_STS_GOLDEN_USABLE ∧ 0x7E8000000 ≤ a ∧ a < 0x800000000 ∧ src ≠ 165 then .denied
    else if d.on Reg.CTX_STS_IN_USE ∧ 0x7C8000000 ≤ a ∧ a < 0x7E8000000 ∧ !(160 ≤ src ∧ src < 164) then .denied
    else if d.failed fw ∨ !d.bit mask (src % 32) then .denied
    else if d.on (chF Reg.CH_STS_BRINGUP_BUSY q.1) then .busy
    else .ok

/-- The pieces of a range that lie in one line each: first address and length. -/
def linePieces (a n : Nat) : List (Nat × Nat) :=
  (List.range ((a % 64 + n + 63) / 64)).map (fun i =>
    let lo := max a (a / 64 * 64 + 64 * i)
    (lo, min (a + n) (a / 64 * 64 + 64 * i + 64) - lo))

/-- The first code other than OK in a range that NI `src` reads or writes. -/
def rangeCode (d : Dev) (src : Nat) (write : Bool) (a n : Nat) : Code :=
  (((linePieces a n).map (fun e => d.dramCode src write e.1)).find? (· != .ok)).getD .ok

/-- An access has met the closed guard of channel `k` in compatibility mode: its return to D0 starts when the
command ends (R410). -/
def chAccess (d : Dev) (k : Nat) : Dev :=
  if d.guardClosed (128 + k) then d.setCh k { d.chSt k with accessed := true } else d

/-- The lines of a range count as lines read or written of their channels (R360). -/
def dramCount (d : Dev) (write : Bool) (a n : Nat) : Dev :=
  (linePieces a n).foldl (fun d e =>
    match d.dramPlace e.1 with
    | some q => d.countLine q.1 write
    | none => d) d

/-- The bytes of a range, each with whether it is poisoned, and the device after the reads. -/
def readDram (d : Dev) (a n : Nat) : List (Byte × Bool) × Dev :=
  (linePieces a n).foldl (fun acc e =>
    match acc.2.dramPlace e.1 with
    | none => (acc.1 ++ List.replicate e.2 (0, true), acc.2)
    | some q =>
      let r := (acc.2.chAccess q.1).readBytes (.dram q.1) q.2 e.2
      (acc.1 ++ r.1, r.2)) ([], d.dramCount false a n)

/-- Bytes stored in a range; a piece without a place is lost. -/
def storeDram (d : Dev) (a : Nat) (bs : List Byte) : Dev :=
  (linePieces a bs.length).foldl (fun d e =>
    match d.dramPlace e.1 with
    | none => d
    | some q => (d.chAccess q.1).storeBytes (.dram q.1) q.2 ((bs.drop (e.1 - a)).take e.2)) d

/-- Bytes written to a range. -/
def writeDram (d : Dev) (a : Nat) (bs : List Byte) : Dev := (d.storeDram a bs).dramCount true a bs.length

end Dev

end Sys2Proof.Machine
end

