-- ==== Sys2Proof/Machine/Scrub.lean ====
section
/-! DEFINITION. Configuration scrubbing (R263 to R281): the sweeps, correction in place, the golden
store, shadow planes and the rate policy. -/

namespace Sys2Proof.Machine

namespace Dev

/-- The device with the scrubber's state replaced. -/
def setScrub (d : Dev) (x : ScrubSt) : Dev := { d with scrub := x }

/-- The status bits that follow the scrubber's state (R280). -/
def showScrub (d : Dev) : Dev :=
  let s := d.scrub
  let shadows := (List.range 128).any (fun n => d.sstate n == ssVerified)
  let d1 := (((d.set Reg.SCRUB_STS_POINTER (s.region * 5120 + s.frame)).setBit Reg.SCRUB_STS_SHADOW_ON
    (shadows && d.ctlOn Reg.SCRUB_CTL_ENABLE)).setBit Reg.SCRUB_STS_PENDING
      (!s.pending.isEmpty)).setBit Reg.SCRUB_STS_BUILDING (s.building.isSome || !s.builds.isEmpty)
  if d1.safe Reg.SCRUB_CTL then d1.raise Reg.SCRUB_STS_FULL_RATE else d1

/-- The scrubber's notification: the alias of SCRUB_EVT (R281). -/
def notifyScrub (d : Dev) : Dev := d.notify 0x4100 4 Reg.SCRUB_EVT

/-- SCRUB_LAST records an outcome (R280): 1 corrected, 2 reloaded, 3 unrecoverable, 4 stuck, 5 shadow
lost. -/
def scrubLast (d : Dev) (n p f kind : Nat) : Dev :=
  (((d.set Reg.SCRUB_LAST_DEV_FRAME (n * 5120 + f)).setBit Reg.SCRUB_LAST_PLANE
    (p != d.activePlane n)).set Reg.SCRUB_LAST_KIND kind).raise Reg.SCRUB_LAST_VALID

/-! ## The golden store -/

/-- The address of frame `f` of entry `n`, and of its tag (R272). -/
def goldenAddr (n f : Nat) : Nat := 0x7E8000000 + n * 0x280000 + f * 0x200
def goldenTagAddr (n f : Nat) : Nat := 0x7E8000000 + 0x14000000 + n * 0x14000 + f * 0x10

/-- The IV of a golden frame (R273). -/
def goldenIv (n f gen : Nat) : List Byte := leBytes 4 (n * 5120 + f) ++ leBytes 8 gen

/-- The golden entry of region `n` is valid. -/
def goldenValid (d : Dev) (n : Nat) : Bool := d.bit (Reg.GOLDEN_VALID_VALID (n / 32)) (n % 32)

/-- The golden entry of region `n` becomes valid with a generation, or is no longer held. -/
def setGolden (d : Dev) (n : Nat) (gen : Option Nat) : Dev :=
  let s := d.scrub
  (d.setMask (Reg.GOLDEN_VALID_VALID (n / 32)) (n % 32) gen.isSome).setScrub
    { s with entries := SMap.put 0 s.entries n ((gen.map (· + 1)).getD 0) }

/-- Builds of region `n` are abandoned (R278). -/
def abandonBuild (d : Dev) (n : Nat) : Dev :=
  let s := d.scrub
  d.setScrub { s with
    builds := s.builds.filter (· != n)
    building := match s.building with
      | some b => if b.1 = n then none else some b
      | none => none }

/-- The golden range can hold entries: in slice mode none once channel 31, which holds it, is retired (R343). -/
def goldenPlace (d : Dev) : Bool := d.stripeMode || !d.chRetired 31

/-- Edge E of a swap of region `n`: its entry becomes invalid and its build queues; the golden store is
in use (R274, R276). -/
def goldenSwap (d : Dev) (n : Nat) : Dev :=
  let d1 := (d.setGolden n none).abandonBuild n
  ((d1.setScrub { d1.scrub with builds := d1.scrub.builds ++ [n] }).setBit
    Reg.SCRUB_STS_GOLDEN_USABLE (d1.on Reg.SCRUB_STS_GOLDEN_USABLE || d1.goldenPlace)).showScrub

/-- The location of entry `n` lies in part in a retired channel (R274). -/
def goldenGone (d : Dev) (n : Nat) : Bool :=
  let pages := (List.range 640).map (fun i => goldenAddr n 0 + 4096 * i)
    ++ (List.range 20).map (fun i => goldenTagAddr n 0 + 4096 * i)
  pages.any (fun a =>
    match d.dramPlace a with
    | none => true
    | some q => d.chRetired q.1)

/-- GOLDEN_BUILD: the oldest queued build starts under the next generation (R274); one whose location is
retired fails at once. -/
def goldenBuild (d : Dev) : Dev :=
  let s := d.scrub
  match s.building, s.builds with
  | none, n :: rest =>
    if d.goldenGone n then
      ((d.setScrub { s with builds := rest }).raise Reg.SCRUB_EVT_GOLDEN_FAIL).showScrub
    else
      (d.setScrub { s with builds := rest, building := some (n, s.generation, false)
                           generation := s.generation + 1 }).showScrub
  | _, _ => d

/-- Some frame of region `n` awaits its re-read (R220). -/
def scrubPending (d : Dev) (n : Nat) : Bool := d.scrub.pending.any (fun p => p.region == n)

/-- The scrubber will write `row` into a frame and read it again (R270). -/
def pushFix (d : Dev) (n p f : Nat) (reload : Bool) (row : BitVec 4192) : Dev :=
  (d.setScrub { d.scrub with pending := d.scrub.pending ++ [⟨n, p, f, reload, row⟩] }).showScrub

/-- A corrected frame is to be written back (R270): its data, and all its check bits for its address. -/
def writeBack (d : Dev) (n p f data : Nat) : Dev :=
  d.pushFix n p f false (encodeFrame (n * 5120 + f) data)

/-- The corrected data of frame `f` of the active plane of region `n` and its class. -/
def goldenFrame (d : Dev) (n f : Nat) : FrameClass × Nat :=
  classify (n * 5120 + f) (d.frame n (d.activePlane n) f)

/-- The configuration controller writes a range of the golden store; what its channel refuses is not written. -/
def goldenWrite (d : Dev) (a : Nat) (bs : List Byte) : Dev :=
  if d.rangeCode 165 true a bs.length = .ok then d.writeDram a bs else d

/-- One frame of a build (R274): read, corrected, encrypted and written with its tag. -/
def buildFrame (n gen : Nat) (d : Dev) (f : Nat) : Dev :=
  let c := d.goldenFrame n f
  let d1 := if c.1 = .checkFix ∨ c.1 = .correctable then d.writeBack n (d.activePlane n) f c.2 else d
  let iv := goldenIv n f gen
  let text := gcmText d.keys.golden iv (leBytes 512 c.2)
  (d1.goldenWrite (goldenAddr n f) text).goldenWrite (goldenTagAddr n f)
    (gcmTag d.keys.golden iv [] text)

/-- The digest register `w` of a region: ACTIVE_DIGEST, or SHADOW_DIGEST. -/
def digestOf (d : Dev) (reg : Nat → Nat → Fld) (n : Nat) : List Byte :=
  (List.range 16).flatMap (fun w => leBytes 4 (d.get (reg n w)))

/-- A digest is written to its registers. -/
def setDigest (d : Dev) (reg : Nat → Nat → Fld) (n : Nat) (bs : List Byte) : Dev :=
  (List.range 16).foldl (fun a w => a.set (reg n w) (leAt bs (4 * w) 4)) d

/-- The image digest of plane `p` of region `n` (R214). -/
def planeDigest (d : Dev) (n p : Nat) : List Byte :=
  sha512 ((List.range 5120).flatMap (fun f => leBytes 512 ((d.frame n p f).toNat % 2 ^ 4096)))

/-- GOLDEN_BUILD_DONE: the build in progress completes (R274). The entry becomes valid when the
plaintext has the active plane's digest; otherwise the entry is built once more, and then fails. A re-read that
waits has the readback port first (R267). -/
def goldenBuildDone (d : Dev) : Dev :=
  let s := d.scrub
  match s.building with
  | none => d
  | some (n, gen, again) =>
    if s.pending ≠ [] then d
    else
      let plain := (List.range 5120).flatMap (fun f => leBytes 512 (d.goldenFrame n f).2)
      let same := decide (sha512 plain = d.digestOf Reg.ACTIVE_DIGEST_DIGEST n)
      let d1 := (List.range 5120).foldl (buildFrame n gen) d
      if same then
        let info := SMap.get {} d1.planes (2 * n + d1.activePlane n)
        (((d1.setScrub { d1.scrub with building := none
                                       infos := SMap.put {} d1.scrub.infos n info }).setGolden n
          (some gen)).raise
          Reg.SCRUB_EVT_GOLDEN_READY).showScrub
      else if !again then
        d1.setScrub { d1.scrub with building := some (n, s.generation, true)
                                    generation := s.generation + 1 }
      else
        (((d1.setScrub { d1.scrub with building := none }).raise
          Reg.SCRUB_EVT_GOLDEN_FAIL).showScrub).notifyScrub

/-- The plaintext of a frame of a golden entry, when its read is answered OK and its tag holds (R275). -/
def goldenRead (d : Dev) (n f : Nat) : Option (List Byte) × Dev :=
  let gen := SMap.get 0 d.scrub.entries n - 1
  let r := d.readDram (goldenAddr n f) 512
  let t := r.2.readDram (goldenTagAddr n f) 16
  let text := r.1.map (·.1)
  let ok := d.rangeCode 165 false (goldenAddr n f) 512 == .ok
    && d.rangeCode 165 false (goldenTagAddr n f) 16 == .ok
    && !r.1.any (·.2) && !t.1.any (·.2)
    && decide (t.1.map (·.1) = gcmTag d.keys.golden (goldenIv n f gen) [] text)
  (if ok then some (gcmText d.keys.golden (goldenIv n f gen) text) else none, t.2)

/-! ## Slots -/

/-- The rate policy raises the rate (R269): PERIOD_MS becomes 0. -/
def rateRaise (d : Dev) : Dev :=
  if d.ctlOn Reg.SCRUB_CTL_PIN then d
  else
    let d1 := if d.get Reg.SCRUB_PERIOD_PERIOD_MS = 0 then d
      else (d.clear Reg.SCRUB_PERIOD_PERIOD_MS).raise Reg.SCRUB_EVT_RATE_UP
    (d1.clear Reg.SCRUB_LAST_PASS_QUIET).raise Reg.SCRUB_STS_FULL_RATE

/-- The findings of the pass in progress reach RAISE_AT while the policy is free to act (R269). -/
def rateCheck (d : Dev) : Dev :=
  let s := d.scrub
  if s.passOn ∧ !s.raised ∧ !d.ctlOn Reg.SCRUB_CTL_PIN ∧ d.ctl Reg.SCRUB_CTL_RAISE_AT ≤ s.fixes then
    (d.setScrub { s with raised := true }).rateRaise
  else d

/-- A frame that is not CLEAN has been found in a pass: it counts towards RAISE_AT (R269). -/
def scrubFound (d : Dev) (uncorrectable : Bool) : Dev :=
  let s := d.scrub
  if !s.passOn then d
  else if uncorrectable then (d.setScrub { s with found := true }).rateRaise
  else (d.setScrub { s with fixes := s.fixes + 1, found := true }).rateCheck

/-- A frame is left unrepaired (R275). -/
def unrecoverable (d : Dev) (n p f : Nat) : Dev :=
  (((d.raise Reg.SCRUB_EVT_UNRECOVERABLE).count Reg.SCRUB_UNREC_UNRECOV_CNT).scrubLast n p f
    3).notifyScrub

/-- An uncorrectable frame of an active plane is reloaded from its golden entry, or left as it is
(R275). -/
def goldenReload (d : Dev) (n p f : Nat) : Dev :=
  if !d.goldenValid n then d.unrecoverable n p f
  else
    let r := d.goldenRead n f
    match r.1 with
    | none => ((r.2.setGolden n none).raise Reg.SCRUB_EVT_GOLDEN_FAIL).unrecoverable n p f
    | some bs =>
      (((r.2.raise Reg.SCRUB_EVT_RELOADED).count Reg.SCRUB_RELOADS_CNT).scrubLast n p f 2).pushFix n p f
        true (encodeFrame (n * 5120 + f) (ofLe bs))

/-- Corrections of plane `p` of region `n` that are pending are discarded (R278). -/
def dropFixes (d : Dev) (n p : Nat) : Dev :=
  (d.setScrub { d.scrub with
    pending := d.scrub.pending.filter (fun x => !(x.region == n && x.plane == p)) }).showScrub

/-- The shadow plane of region `n` returns to EMPTY: its contents and its digest are gone. -/
def shadowEmpty (d : Dev) (n : Nat) : Dev :=
  let p := 1 - d.activePlane n
  (((d.clearPlane n p).dropFixes n p).set (Reg.RGN_STS_SHADOW n) ssEmpty).setDigest
    Reg.SHADOW_DIGEST_DIGEST n []

/-- A swap of region `n` that waits for edge E ends (R216): the region returns to its state before. -/
def swapEnd (d : Dev) (n : Nat) (c : Code) : Dev :=
  if d.rstate n ≠ rsSwapping then d
  else
    let d1 := d.set (Reg.RGN_STS_STATE n) (if (d.rgnSt n).fromActive then rsActive else rsEmpty)
    let d2 := (d1.clear (Reg.RGN_STS_WAIT_SCRUB n)).clear (Reg.RGN_STS_WAIT_REINIT n)
    ((d2.cmdDone (0x3800 + n) 2 c).rgnEnded n 2).barrierDone 3 n (if c = .ok then .ok else .aborted)

/-- An uncorrectable frame of a shadow plane returns it to EMPTY, and a swap that waits is refused
(R277, R216). -/
def shadowLost (d : Dev) (n f : Nat) : Dev :=
  let d1 := d.scrubLast n (1 - d.activePlane n) f 5
  let d2 := ((d1.shadowEmpty n).raise (Reg.RGN_EVT_LOAD_FAIL n)).set (Reg.RGN_STS_LOAD_CODE n)
    Code.targetErr.num
  (((d2.swapEnd n .targetErr).raise Reg.SCRUB_EVT_SHADOW_LOST).showScrub).notifyScrub

/-- Plane `p` of region `n` holds an image: an active plane that the sweeps visit, or a VERIFIED shadow (R267). -/
def planeHolds (d : Dev) (n p : Nat) : Bool :=
  if p = d.activePlane n then d.rstate n != rsEmpty && d.rstate n != rsRetired
  else d.sstate n == ssVerified

/-- Bits of the configuration memory flip (R108, R127): each by the key of its frame and its place in the row. A
flipped bit acts on the fabric until a write of its frame. A plane that holds no image has no bit to flip
(log 134). -/
def frameUpset (upsets : List (Nat × Fin 4192)) (d : Dev) : Dev :=
  upsets.foldl (fun a u =>
    let n := u.1 / 10240
    let p := u.1 / 5120 % 2
    if n < 128 ∧ a.planeHolds n p then
      a.setFrame n p (u.1 % 5120) (a.frame n p (u.1 % 5120) ^^^ BitVec.ofNat 4192 (2 ^ u.2.val))
    else a) d

/-- The outcome of the read of a frame is acted on (R266, R270, R275, R277): `row` is what was read, and plane `p`
the physical plane it was read from. -/
def scrubOutcome (d : Dev) (n p f : Nat) (row : BitVec 4192) : Dev :=
  match classify (n * 5120 + f) row with
  | (.clean, _) => d
  | (.checkFix, x) => (d.scrubFound false).writeBack n p f x
  | (.correctable, x) => (d.scrubFound false).writeBack n p f x
  | (.uncorrectable, _) =>
    if p = d.activePlane n then (d.scrubFound true).goldenReload n p f
    else (d.scrubFound true).shadowLost n f

/-- The sweeps skip a region that is EMPTY or RETIRED (R267). -/
def sweepSkips (d : Dev) (n : Nat) : Bool := d.rstate n == rsEmpty || d.rstate n == rsRetired

/-- The first region from `n` on that the active sweep visits; 128 when there is none. -/
def nextActive (d : Dev) (n : Nat) : Nat :=
  ((List.range 128).find? (fun m => n ≤ m && !d.sweepSkips m)).getD 128

/-- The first region whose shadow plane is VERIFIED from `n` on, turning round at 127. -/
def nextShadow (d : Dev) (n : Nat) : Option Nat :=
  ((List.range 128).map (fun i => (n + i) % 128)).find? (fun m => d.sstate m == ssVerified)

/-- The frame that a slot of the shadow sweep reads: region, plane and number. -/
def shadowSlot (d : Dev) : Option (Nat × Nat × Nat) × Dev :=
  let s := d.scrub
  match d.nextShadow s.shRegion with
  | none => (none, d)
  | some n =>
    let f := if n = s.shRegion then s.shFrame else 0
    let d1 := d.setScrub { s with
      shRegion := if f = 5119 then (n + 1) % 128 else n
      shFrame := if f = 5119 then 0 else f + 1 }
    (some (n, 1 - d.activePlane n, f), d1)

/-- The frame that a slot of the active sweep reads; after the last frame of the last region the pass is over. -/
def activeSlot (d : Dev) : Option (Nat × Nat × Nat) × Dev :=
  let s := d.scrub
  let n := if s.frame ≠ 0 ∧ d.rstate s.region ≠ rsRetired ∧ d.rstate s.region ≠ rsEmpty then s.region
    else d.nextActive (if s.frame = 0 then s.region else s.region + 1)
  let f := if n = s.region then s.frame else 0
  if 128 ≤ n then (none, d.setScrub { s with passOver := true })
  else
    let m := if f = 5119 then d.nextActive (n + 1) else n
    let d1 := d.setScrub { s with region := if m = 128 then 0 else m
                                  frame := if f = 5119 then 0 else f + 1
                                  passOver := decide (m = 128) }
    (some (n, d.activePlane n, f), d1)

/-- The GAP of a pass that starts now is 33 (R268): the period over the slots of a pass is no longer than a
slot, as in the block's safe state (R280). -/
def fullRate (d : Dev) : Bool :=
  let active := 5120 * ((List.range 128).filter (fun n => !d.sweepSkips n)).length
  let slots := if (d.nextShadow 0).isSome then active + active / 15 else active
  decide (d.ctl Reg.SCRUB_PERIOD_PERIOD_MS * 400000 / slots ≤ 33)

/-- The frame that a readback slot reads (R267, R268). Slot k of a pass with k mod 16 = 15 goes to the shadow
sweep while a shadow plane is VERIFIED; without a pass the shadow sweep takes every slot. A re-read that waits
and a golden build have the port before the sweeps, which then skip no frame. -/
def slotFrame (d : Dev) : Option (Nat × Nat × Nat) × Dev :=
  if !d.ctlOn Reg.SCRUB_CTL_ENABLE ∨ d.scrub.passOver ∨ d.scrub.pending ≠ [] ∨ d.scrub.building.isSome
      ∨ d.scrub.builds ≠ [] then (none, d)
  else
    let d0 := if d.scrub.passOn then d
      else if (List.range 128).any d.hasImage then
        (d.setScrub { d.scrub with passOn := true, raised := false, slots := 0, fixes := 0, found := false
                                   region := d.nextActive 0, frame := 0 }).setBit Reg.SCRUB_STS_FULL_RATE
          d.fullRate
      else d.raise Reg.SCRUB_STS_FULL_RATE
    let s := d0.scrub
    let shadows := (d0.nextShadow 0).isSome
    if !s.passOn then d0.shadowSlot
    else
      let d1 := d0.setScrub { s with slots := s.slots + 1 }
      if s.slots % 16 = 15 ∧ shadows then d1.shadowSlot else d1.activeSlot

/-- A readback slot: a frame is read and its outcome acted on. `upsets`: the bits of the configuration memory
that flip before the read; `between`: what happens to the frame's region between the read and its decoding
(R278). A read of a plane that no longer holds an image is dropped. -/
def scrubSlotWith (upsets : List (Nat × Fin 4192)) (between : Nat → Dev → Dev) (d : Dev) : Dev :=
  let x := (d.frameUpset upsets).slotFrame
  match x.1 with
  | none => x.2.showScrub
  | some (n, p, f) =>
    let row := x.2.frame n p f
    let d1 := between n x.2
    (if d1.planeHolds n p then d1.scrubOutcome n p f row else d1).showScrub

/-- The oldest correction is written into its frame (R270): an upset since the read goes with it (R278), and a
trunk that the frame had disabled may resume (R127). -/
def writeFix (x : PendingFix) (d : Dev) : Dev :=
  let d1 := d.setFrame x.region x.plane x.frame x.row
  if x.plane = d.activePlane x.region then d1.trunkFix x.region (fun t => tapIn t x.frame) else d1

/-- SCRUB_REREAD: the oldest corrected frame has been written, and is read again (R270, R271): its correction is
CORRECTED when it is clean, and STUCK otherwise; a shadow plane's that is now UNCORRECTABLE is lost (R277).
`upsets`: the bits that flip between the write and the read. -/
def scrubReread (upsets : List (Nat × Fin 4192)) (d : Dev) : Dev :=
  match d.scrub.pending with
  | [] => d.frameUpset upsets
  | x :: rest =>
    let d0 := (writeFix x d).frameUpset upsets
    let row := d0.frame x.region x.plane x.frame
    let d1 := (d0.setScrub { d0.scrub with pending := rest }).showScrub
    let d2 := if d1.scrubPending x.region then d1 else d1.clear (Reg.RGN_STS_WAIT_SCRUB x.region)
    match (classify (x.region * 5120 + x.frame) row).1 with
    | .clean =>
      if x.reload then d2
      else ((d2.raise Reg.SCRUB_EVT_CORRECTED).count Reg.SCRUB_CORRECTED_CNT).scrubLast x.region
        x.plane x.frame 1
    | c =>
      let d3 := (((d2.raise Reg.SCRUB_EVT_STUCK).count Reg.SCRUB_UNREC_STUCK_CNT).scrubLast x.region x.plane
        x.frame 4).notifyScrub
      if c = .uncorrectable ∧ x.plane ≠ d.activePlane x.region ∧ d.sstate x.region = ssVerified then
        d3.shadowLost x.region x.frame
      else d3

/-- SCRUB_PASS_END: the pass that is over is counted, and the policy relaxes the rate or resets its
quiet count (R269). -/
def scrubPassEnd (d : Dev) : Dev :=
  let s := d.scrub
  if !s.passOver then d
  else
    let d1 := ((d.rateCheck.count Reg.SCRUB_PASSES_CNT).raise Reg.SCRUB_EVT_PASS_DONE).set
      Reg.SCRUB_LAST_PASS_LAST_PASS_FIX (min s.fixes 0xFFFF)
    let d2 := d1.setScrub { s with passOn := false, passOver := false, region := 0, frame := 0 }
    let old := d2.ctl Reg.SCRUB_PERIOD_PERIOD_MS
    let d3 :=
      if d2.ctlOn Reg.SCRUB_CTL_PIN then d2
      else if s.found then d2.clear Reg.SCRUB_LAST_PASS_QUIET
      else
        let q := d2.get Reg.SCRUB_LAST_PASS_QUIET + 1
        if q < d2.ctl Reg.SCRUB_CTL_QUIET_PASSES then d2.set Reg.SCRUB_LAST_PASS_QUIET q
        else
          let new := min (2 * max old 55) 60000
          let d' := (d2.set Reg.SCRUB_PERIOD_PERIOD_MS new).clear Reg.SCRUB_LAST_PASS_QUIET
          if new = old then d' else d'.raise Reg.SCRUB_EVT_RATE_DOWN
    d3.showScrub

/-- FULL_NOW (R280). -/
def fullNowEff (d : Dev) : Dev × Code :=
  ((d.clear Reg.SCRUB_PERIOD_PERIOD_MS).clear Reg.SCRUB_LAST_PASS_QUIET, .ok)

/-- Entries of regions that are not ACTIVE are freed when start-up completes (R276). -/
def goldenFree (d : Dev) : Dev :=
  (List.range 128).foldl (fun a n =>
    if a.goldenValid n ∧ a.rstate n ≠ rsActive then a.setGolden n none else a) d

/-- SCRUB_CTL or SCRUB_PERIOD has been written (R269, R280): a lower RAISE_AT acts at once, and the status follows
ENABLE. -/
def scrubWritten (d : Dev) : Dev := d.rateCheck.showScrub

/-- The golden store is no longer held (R276). -/
def goldenLost (d : Dev) : Dev :=
  let d1 := (List.range 128).foldl (fun a n => a.setGolden n none) d
  (d1.setScrub { d1.scrub with builds := [], building := none }).clear Reg.SCRUB_STS_GOLDEN_USABLE

end Dev

end Sys2Proof.Machine
end

