-- ==== Sys2Proof/Machine/Pack.lean ====
section
/-! DEFINITION. The pack (R464 to R478): hellos and the roster, refusals and the election of the lead dog,
the pack state, pack time, and pack barriers at their members and at the lead dog. -/

namespace Sys2Proof.Machine

/-- The member that a PACK_RECORD describes (R467). -/
def MemberRec.parse (mac : Nat) (port : Fin 2) (bs : List Byte) : MemberRec :=
  let f := leAt bs 14 1
  { mac := mac, port := port, serial := leAt bs 0 8, prio := leAt bs 12 1
    joined := f.testBit 0, divergent := f.testBit 1, suspect := f.testBit 2, refused := f.testBit 3
    isLead := f.testBit 4, compat := leAt bs 16 2, offset := leAt bs 20 4, digest := bytesAt bs 32 64 }

/-- The payload of an arrival (R474): BID, kind, TIMEOUT_US, RELEASE_TIME and member, whose places in its
24 bytes the spec does not give (log 47). -/
def PbParams.arrival (p : PbParams) (member : Nat) : List Byte :=
  leBytes 4 p.bid ++ leBytes 4 p.kind ++ leBytes 4 p.timeout ++ leBytes 8 p.release ++ leBytes 4 member

/-- The parameters of an arrival. -/
def PbParams.parse (bs : List Byte) : PbParams :=
  ⟨leAt bs 4 4, leAt bs 0 4, leAt bs 8 4, leAt bs 12 8⟩

namespace Dev

/-- The device with the pack engine's state replaced. -/
def setPack (d : Dev) (x : PackSt) : Dev := { d with pack := x }

/-- This device's member ID. -/
def ownMember (d : Dev) : Nat := d.ctl Reg.PACK_IDS_MEMBER

/-- COMPAT of the primary firmware image that runs; 0 when none runs (R467). -/
def ownCompat (d : Dev) : Nat := leAt d.fwImage 20 2

/-- Pack time (R471). -/
def packTime (d : Dev) : Nat := d.get64 (Reg.PACK_TIME_WORD 0) (Reg.PACK_TIME_WORD 1)

/-- PERSONA_DIGEST as last computed; before that, of the empty string (R468). -/
def personaDigest (d : Dev) : List Byte := if d.pack.digest = [] then sha512 [] else d.pack.digest

/-- FLAGS of the own record (R467). -/
def packFlags (d : Dev) : Nat :=
  d.get Reg.PACK_STS_JOINED + 2 * d.get Reg.PACK_STS_DIVERGENT + 4 * d.get Reg.PACK_STS_TIME_SUSPECT
    + 8 * d.get Reg.PACK_STS_REFUSED + 16 * d.get Reg.PACK_STS_IS_LEAD + 32 * d.get Reg.PACK_STS_TIME_VALID

/-- The PACK_RECORD, 96 bytes (R467). -/
def packRecord (d : Dev) : List Byte :=
  leBytes 8 d.keys.serial ++ leBytes 2 (d.ctl Reg.PACK_IDS_PACK_ID) ++ leBytes 2 d.ownMember
    ++ leBytes 1 (d.ctl Reg.PACK_PARAM_PRIORITY) ++ leBytes 1 (d.get Reg.PACK_STS_STATE)
    ++ leBytes 1 d.packFlags ++ leBytes 1 (d.get Reg.PACK_STS_REFUSE_CAUSE) ++ leBytes 2 d.ownCompat
    ++ leBytes 2 0 ++ leBytes 4 (d.get Reg.PACK_OFFSET_OFFSET_NS) ++ leBytes 8 d.packTime
    ++ fit 64 d.personaDigest

/-- The roster's entry for member `m`. -/
def rosterEntry (d : Dev) (m : Nat) : RosterEntry := SMap.get {} d.pack.roster m

/-- The device with the roster's entry for member `m` replaced. -/
def setRoster (d : Dev) (m : Nat) (e : RosterEntry) : Dev :=
  d.setPack { d.pack with roster := SMap.put {} d.pack.roster m e }

/-- The 8 bytes of a roster entry (R480). -/
def rosterBytes (e : RosterEntry) : List Byte :=
  leBytes 1 (bit01 e.heard + 2 * bit01 e.reachable + 4 * bit01 e.who.joined + 8 * bit01 e.who.divergent
    + 16 * bit01 e.who.suspect + 32 * bit01 e.absent + 64 * bit01 e.who.refused)
    ++ leBytes 1 e.who.prio ++ leBytes 2 e.who.compat ++ leBytes 4 e.who.offset

/-- The ABSENT mask of a lead dog's hello: bit m marks member m (R467). -/
def absentMask (d : Dev) : List Byte :=
  leBytes 512 (d.pack.roster.foldl (fun a e => if e.2.absent then a ||| 2 ^ e.1 else a) 0)

/-! ## Frames of the pack engine -/

/-- A Waybill request of the pack engine, sent out of port `p` to a MAC address. -/
def packSend (d : Dev) (p mac : Nat) (m : WbMsg) : Dev :=
  d.queueTx p (.waybill mac .l2 (d.ctl (Reg.PORT_CTL_WB_PRIO p))
    { m with packId := d.ctl Reg.PACK_IDS_PACK_ID, length := m.payload.length }.encode)

/-- A request broadcast from each port whose link is up, with the ALL bit set (R465, R475). -/
def packBroadcast (d : Dev) (m : WbMsg) : Dev :=
  [0, 1].foldl (fun a p => a.packSend p (2 ^ 48 - 1) { m with all := true }) d

/-- HELLO_SEND: a member broadcasts its record; the lead dog appends the ABSENT mask (R465, R467). -/
def helloSend (d : Dev) : Dev :=
  if !d.packOn then d
  else
    let s := d.nextSeq
    let mask := if d.on Reg.PACK_STS_IS_LEAD then d.absentMask else []
    s.2.packBroadcast { op := 8, seq := s.1, index := 0x1100, sub := 5, payload := d.packRecord ++ mask }

/-- A member that has just been enabled sends DISCOVER once (R465). -/
def packEnabled (d : Dev) : Dev :=
  let s := d.nextSeq
  let d1 := s.2.setPack { s.2.pack with discover := some s.1 }
  d1.packBroadcast { op := 9, seq := s.1 }

/-- A device that no longer takes part is no member: it is not JOINED, and its roster is empty
(log 47). -/
def packLeft (d : Dev) : Dev :=
  let d1 := d.setPack { d.pack with roster := [], opened := [], lead := none, discover := none }
  [Reg.PACK_STS_JOINED, Reg.PACK_STS_IS_LEAD, Reg.PACK_STS_DIVERGENT, Reg.PACK_STS_REFUSED,
    Reg.PACK_STS_REFUSE_CAUSE, Reg.PACK_CENSUS_REACHABLE, Reg.PACK_CENSUS_FLAGGED].foldl clear d1

/-- PACK_CTL or PACK_IDS has been written; `was`: the device took part before, in the pack `id` (R464, R465). One
that changes packs leaves the old one and is new in the other (log 47). -/
def packWritten (was : Bool) (id : Nat) (d : Dev) : Dev :=
  if d.packOn && !was then d.packEnabled
  else if was && !d.packOn then d.packLeft
  else if was && d.ctl Reg.PACK_IDS_PACK_ID != id then d.packLeft.packEnabled
  else d

/-! ## Barriers at a member (R474, R477) -/

/-- This member's barrier completes (R477): the request that started it is answered, or the run of object
0x1F20 ends. -/
def pbEnd (c : Code) (late : Bool) (absent : Nat) (d : Dev) : Dev :=
  match d.pack.mine with
  | none => d
  | some b =>
    let d1 := d.setPack { d.pack with mine := none }
    let d2 := (((d1.set Reg.PB_STS_CODE c.num).clear Reg.PB_STS_BUSY).setBit Reg.PB_STS_LATE late).set
      Reg.PB_STS_ABSENT absent
    let d3 := (d2.raise Reg.PACK_EVT_BARRIER_DONE).count Reg.PACK_CNT_BARRIER_CNT
    match b.req with
    | some r => d3.respond r
        { code := c, late := late, result := absent, change := d3.changeOf r.msg.index }
    | none => d3.cmdDone 0x1F20 0 c late

/-- The instant of the last slot boundary, in pack time. -/
def lastSlot (d : Dev) : Nat := d.packTime - d.noc.phase

/-- A RELEASE reaches this member (R477, R478): kind 0x2 releases at once; kind 0x3 waits for the first
slot boundary at or after RELEASE_TIME, or releases at once with LATE when that boundary has passed. -/
def releaseReceived (bid absent : Nat) (d : Dev) : Dev :=
  match d.pack.mine with
  | none => d
  | some b =>
    if b.params.bid ≠ bid then d
    else if b.params.kind = 2 then d.pbEnd .ok false absent
    else if b.params.release ≤ d.lastSlot then
      let meets := d.noc.phase = 0 ∧ d.packTime < b.params.release + 8 * d.get Reg.CLK_STS_NOC_DIV
      d.pbEnd .ok (!meets) absent
    else d.setPack { d.pack with mine := some { b with released := some absent } }

/-- PACK_RELEASE_TIME: at a slot boundary at or after RELEASE_TIME a kind 0x3 barrier whose RELEASE has arrived is
released (R477). -/
def packReleaseTime (d : Dev) : Dev :=
  match d.pack.mine with
  | some ⟨_, params, _, some absent⟩ =>
    if params.kind = 3 ∧ d.noc.phase = 0 ∧ params.release ≤ d.packTime then d.pbEnd .ok false absent else d
  | _ => d

/-! ## Barriers at the lead dog (R475, R476) -/

/-- Member `m` has become DIVERGENT: it leaves every roll at which it has not arrived (R476, R478). -/
def leaveRolls (d : Dev) (m : Nat) : Dev :=
  if !(d.rosterEntry m).who.divergent then d
  else d.setPack { d.pack with opened := d.pack.opened.map (fun o =>
    if o.arrived.contains m then o else { o with roll := o.roll.filter (fun x => x != m) }) }

/-- The payload of a RELEASE (R475): BID, RELEASE_TIME and the ABSENT count, whose places in its 24 bytes
the spec does not give (log 47). -/
def releaseBytes (b : DoneBarrier) : List Byte :=
  leBytes 4 b.params.bid ++ leBytes 8 b.params.release ++ leBytes 4 b.absent ++ leBytes 8 0

/-- A RELEASE is broadcast (R475). -/
def releaseSend (b : DoneBarrier) (d : Dev) : Dev :=
  let s := d.nextSeq
  s.2.packBroadcast { op := 8, seq := s.1, index := 0x7202, payload := releaseBytes b }

/-- An open barrier completes at the lead dog: members of the roll that have not arrived are marked ABSENT,
and the first RELEASE goes out (R475). -/
def pbComplete (d : Dev) (b : OpenBarrier) : Dev :=
  let missing := b.roll.filter (fun m => !b.arrived.contains m)
  let d1 := missing.foldl (fun a m => a.setRoster m { a.rosterEntry m with absent := true }) d
  let d2 := if missing = [] then d1 else d1.raise Reg.PACK_EVT_ABSENT_MARKED
  let done : DoneBarrier := ⟨b.params, missing.length, 2⟩
  let d3 := d2.setPack { d2.pack with
    opened := d2.pack.opened.filter (fun o => o.params.bid != b.params.bid)
    closed := d2.pack.closed ++ [done] }
  (d3.releaseSend done).releaseReceived b.params.bid missing.length

/-- Every member of the roll has arrived (R475, R476). -/
def pbFull (b : OpenBarrier) : Bool :=
  b.roll.all (fun m => b.arrived.contains m)

/-- The open barriers whose roll is full complete. -/
def pbCheck (d : Dev) : Dev := (d.pack.opened.filter pbFull).foldl pbComplete d

/-- The roll of a barrier (R476): every roster member and the lead dog itself that is JOINED and is neither
DIVERGENT, REFUSED nor ABSENT. -/
def pbRoll (d : Dev) : List Nat :=
  let others := (d.pack.roster.filter (fun e =>
    e.2.heard && e.2.who.joined && !e.2.who.divergent && !e.2.who.refused && !e.2.absent
      && e.1 != d.ownMember)).map (fun e => e.1)
  if (d.rosterEntry d.ownMember).absent then others else d.ownMember :: others

/-- Member `m` arrives at the lead dog (R475, R476): the answer, and whether the barrier was complete. -/
def pbArrive (p : PbParams) (m : Nat) (d : Dev) : Dev × Code × Option DoneBarrier :=
  match d.pack.closed.find? (fun b => b.params.bid == p.bid) with
  | some b => (d.setRoster m { d.rosterEntry m with absent := false }, .ok, some b)
  | none =>
    match d.pack.opened.find? (fun b => b.params.bid == p.bid) with
    | some b =>
      if b.params ≠ p then (d, .denied, none)
      else
        let d1 := d.setRoster m { d.rosterEntry m with absent := false }
        let b1 := { b with arrived := if b.arrived.contains m then b.arrived else b.arrived ++ [m] }
        let d2 := d1.setPack { d1.pack with
          opened := d1.pack.opened.map (fun o => if o.params.bid = p.bid then b1 else o) }
        (d2.pbCheck, .ok, none)
    | none =>
      if 16 ≤ d.pack.opened.length then (d, .busy, none)
      else
        let b : OpenBarrier := ⟨p, d.pbRoll, [m]⟩
        let d1 := d.setRoster m { d.rosterEntry m with absent := false }
        let d2 := d1.setPack { d1.pack with opened := d1.pack.opened ++ [b] }
        (d2.pbCheck, .ok, none)

/-- ARRIVE: a WRITE of object 0x7201 reaches the pack engine (R474, R475). A device that is not the lead
dog answers BUSY (log 47). -/
def arrive (r : WbReq) (d : Dev) : Dev :=
  let change := d.changeOf 0x7201
  if r.msg.payload.length ≠ 24 then d.respond r { code := .targetErr, change := change }
  else if !d.packOn ∨ !d.on Reg.PACK_STS_IS_LEAD then d.respond r { code := .busy, change := change }
  else
    let x := d.pbArrive (PbParams.parse r.msg.payload) (leAt r.msg.payload 20 2 % 4096)
    let d1 := if x.2.1 = .ok then x.1.touch 0x7201 else x.1
    let d2 := d1.respond r { code := x.2.1, change := d1.changeOf 0x7201 }
    match x.2.2, r.who with
    | some b, .client mac =>
      let s := d2.nextSeq
      s.2.packSend r.port.val mac { op := 8, seq := s.1, index := 0x7202, payload := releaseBytes b
                                    member := leAt r.msg.payload 20 2 % 4096 }
    | _, _ => d2

/-- PACK_BARRIER_TIMEOUT: TIMEOUT_US of barrier `bid` has elapsed at the lead dog (R475). -/
def packBarrierTimeout (bid : BitVec 32) (d : Dev) : Dev :=
  match d.pack.opened.find? (fun b => b.params.bid == bid.toNat) with
  | some b => d.pbComplete b
  | none => d

/-- RELEASE_RESEND_EXPIRY: the second and third RELEASE copies of barrier `bid` (R475). -/
def releaseResendExpiry (bid : BitVec 32) (d : Dev) : Dev :=
  match d.pack.closed.find? (fun b => b.params.bid == bid.toNat && b.copies != 0) with
  | some b =>
    let d1 := d.setPack { d.pack with
      closed := d.pack.closed.map (fun c => if c = b then { b with copies := b.copies - 1 } else c) }
    d1.releaseSend b
  | none => d

/-! ## Arrivals of this member (R473, R474) -/

/-- The lead dog answers an arrival (R474, R475): DENIED completes the barrier; every other answer slows
the resends. -/
def arrivalAnswerReceived (c : Code) (d : Dev) : Dev :=
  match d.pack.mine with
  | none => d
  | some b =>
    if c = .denied then d.pbEnd .denied false 0
    else d.setPack { d.pack with mine := some { b with answered := true } }

/-- The arrival of the outstanding barrier goes to the current lead dog, which may be this member. -/
def sendArrival (d : Dev) : Dev :=
  match d.pack.mine with
  | none => d
  | some b =>
    match d.pack.lead with
    | none => d
    | some m =>
      if m = d.ownMember then
        let x := d.pbArrive b.params m
        let d1 := match x.2.2 with
          | some c => x.1.releaseReceived b.params.bid c.absent
          | none => x.1
        d1.arrivalAnswerReceived x.2.1
      else
        let e := (d.rosterEntry m).who
        let s := d.nextSeq
        s.2.packSend e.port.val e.mac { op := 2, seq := s.1, index := 0x7201, member := m
                                        payload := b.params.arrival d.ownMember }

/-- ARRIVAL_RESEND_EXPIRY: the arrival is sent again until release (R474). -/
def arrivalResendExpiry (d : Dev) : Dev := if d.packOn then d.sendArrival else d

/-- The answer that refuses a pack barrier at once (R473, R479): `arg` is ARG of the request. -/
def pbRefusal (d : Dev) (arg : Nat) (payload : List Byte) : Option Code :=
  let p := PbParams.mk (arg % 16) (leAt payload 0 4) (leAt payload 4 4) (leAt payload 8 8)
  if payload.length ≠ 24 ∨ arg / 16 ≠ 0 then some .targetErr
  else if p.timeout = 0 ∨ 60000000 < p.timeout ∨ (p.kind = 3 ∧ p.release = 0) then some .targetErr
  else if d.on Reg.PACK_STS_REFUSED ∨ d.on Reg.PACK_STS_DIVERGENT then some .denied
  else if !d.on Reg.PACK_STS_JOINED ∨ d.get Reg.PACK_STS_STATE = 3 then some .busy
  else if d.pack.mine.isSome ∨ d.safe Reg.PACK_CTL then some .busy
  else none

/-- A pack barrier is accepted: its arrival goes to the lead dog (R474). -/
def pbStart (req : Option WbReq) (arg : Nat) (payload : List Byte) (d : Dev) : Dev :=
  let p := PbParams.mk (arg % 16) (leAt payload 0 4) (leAt payload 4 4) (leAt payload 8 8)
  let d1 := d.setPack { d.pack with mine := some { req := req, params := p } }
  ((d1.set Reg.PB_BID_BID p.bid).raise Reg.PB_STS_BUSY).sendArrival

/-! ## The lead dog, refusals and the roster (R465, R466, R469) -/

/-- The lead dog: the member of lowest (PRIORITY, MEMBER) among this member, where it is JOINED and has not
refused itself, and every reachable JOINED member that is not REFUSED (R469). -/
def electedLead (d : Dev) : Option Nat :=
  let self := if d.on Reg.PACK_STS_JOINED && !d.on Reg.PACK_STS_REFUSED
    then [(d.ctl Reg.PACK_PARAM_PRIORITY, d.ownMember)] else []
  let others := (d.pack.roster.filter (fun e =>
    e.2.heard && e.2.reachable && e.2.who.joined && !e.2.who.refused && e.1 != d.ownMember)).map
      (fun e => (e.2.who.prio, e.1))
  let lower := fun (a b : Nat × Nat) => a.1 < b.1 ∨ (a.1 = b.1 ∧ a.2 < b.2)
  ((self ++ others).foldl (fun (best : Option (Nat × Nat)) c =>
    match best with
    | none => some c
    | some b => if lower c b then some c else some b) none).map (fun b => b.2)

/-- The member elects its lead dog; a change is recorded (R469). The lead dog's time is valid, its offset
0, and it is never DIVERGENT. -/
def packElect (d : Dev) : Dev :=
  let l := d.electedLead
  let changed := d.pack.lead.isSome && decide (l ≠ d.pack.lead)
  let d1 := if changed then (d.raise Reg.PACK_EVT_LEAD_CHANGE).count Reg.PACK_CNT_LEAD_CNT else d
  let d2 := d1.setPack { d1.pack with lead := l }
  let d3 := match l with
    | some m => d2.set Reg.PACK_STS_LEAD m
    | none => d2
  if l = some d.ownMember then
    ([Reg.PACK_STS_DIVERGENT, Reg.PACK_STS_TIME_SUSPECT, Reg.PACK_OFFSET_OFFSET_NS,
      Reg.PACK_TRIM_TRIM_PPB].foldl clear d3).raise Reg.PACK_STS_IS_LEAD |>.raise Reg.PACK_STS_TIME_VALID
  else (d3.clear Reg.PACK_STS_IS_LEAD).setPack { d3.pack with opened := [] }

/-- The reachable JOINED members, this one included, and the flagged roster members (R470, R479). -/
def packCensus (d : Dev) : Dev :=
  let r := d.pack.roster.filter (fun e => e.2.heard && e.1 != d.ownMember)
  let up := (r.filter (fun e => e.2.reachable && e.2.who.joined)).length
  let bad := (r.filter (fun e => !e.2.reachable || e.2.who.divergent || e.2.who.suspect || e.2.absent
    || e.2.who.refused)).length
  (d.set Reg.PACK_CENSUS_REACHABLE (up + bit01 (d.on Reg.PACK_STS_JOINED))).set
    Reg.PACK_CENSUS_FLAGGED bad

/-- The condition of self-refusal cause `c` holds (R466), where a hello is needed for DUP_ID. -/
def refuseHolds (d : Dev) (c : Nat) : Bool :=
  match c with
  | 1 =>
    match d.pack.lead with
    | some m => m != d.ownMember && (d.rosterEntry m).who.compat != d.ownCompat
    | none => false
  | 3 => d.fwImage.isEmpty
  | _ => false

/-- The member refuses itself with cause `c`: it is not JOINED, and stays out of every election (R466). -/
def packRefuse (d : Dev) (c : Nat) : Dev :=
  if d.on Reg.PACK_STS_REFUSED then d
  else ((((d.raise Reg.PACK_STS_REFUSED).set Reg.PACK_STS_REFUSE_CAUSE c).clear
    Reg.PACK_STS_JOINED).raise Reg.PACK_EVT_JOIN_REFUSED).packElect

/-- The member refuses itself where a condition of R466 that stands by itself holds. -/
def packSelfCheck (d : Dev) : Dev :=
  if d.refuseHolds 1 then d.packRefuse 1
  else if d.refuseHolds 3 then d.packRefuse 3
  else d

/-- The lead dog's hello: the member is JOINED unless it has refused itself, and judges DIVERGENT
(R466, R469). -/
def leadHello (d : Dev) (m : Nat) : Dev :=
  if d.on Reg.PACK_STS_REFUSED then d
  else
    let d1 := (d.raise Reg.PACK_STS_JOINED).packElect
    if d1.pack.lead ≠ some m then d1
    else if (d1.rosterEntry m).who.digest = fit 64 d1.personaDigest then d1.clear Reg.PACK_STS_DIVERGENT
    else if d1.on Reg.PACK_STS_DIVERGENT then d1
    else (d1.raise Reg.PACK_STS_DIVERGENT).raise Reg.PACK_EVT_DIVERGED

/-- A hello, or the answer to a DISCOVER, of the sender's PACK_RECORD with the ABSENT mask that a lead dog
appends (R465 to R467): it updates the roster, refusals, the election and DIVERGENT. -/
def helloReceived (mac : Nat) (port : Fin 2) (bs : List Byte) (d : Dev) : Dev :=
  if !d.packOn ∨ bs.length < 96 ∨ leAt bs 8 2 ≠ d.ctl Reg.PACK_IDS_PACK_ID then d
  else
    let m := leAt bs 10 2 % 4096
    let who := MemberRec.parse mac port bs
    if m = d.ownMember then
      if who.serial ≠ d.keys.serial ∧ who.serial < d.keys.serial then d.packRefuse 2 else d
    else
      let d1 := d.setRoster m { d.rosterEntry m with who := who, heard := true, reachable := true }
      let mask := leAt bs 96 512
      let d2 := if who.isLead ∧ 608 ≤ bs.length then
          (List.range 4096).foldl (fun a k =>
            if (a.rosterEntry k).absent = mask.testBit k then a
            else a.setRoster k { a.rosterEntry k with absent := mask.testBit k }) d1
        else d1
      let d3 := (d2.leaveRolls m).packElect.packSelfCheck
      let d4 := if who.isLead ∨ d3.pack.lead = some m then d3.leadHello m else d3
      d4.packSelfCheck.pbCheck.packCensus

/-- DISCOVER_ANSWER_RECEIVED: a device answers this member's DISCOVER with the identity record, whose
PACK_RECORD follows IDCODE, STEP, SERIAL and BASE_MAC (R465, R467). -/
def discoverAnswerReceived (mac : BitVec 48) (port : Fin 2) (seq : BitVec 32) (bs : List Byte)
    (d : Dev) : Dev :=
  if d.pack.discover = some seq.toNat ∧ bs.length = 116 then
    d.helloReceived mac.toNat port (bytesAt bs 20 96)
  else d

/-- A NOTIFY that passes R54 (R520): hellos and RELEASEs are taken by the pack engine, every other is
discarded, and none is answered. -/
def notifyReceived (r : WbReq) (d : Dev) : Dev :=
  match r.who with
  | .client mac =>
    if r.msg.index = 0x1100 ∧ r.msg.sub = 5 then d.helloReceived mac r.port r.msg.payload
    else if r.msg.index = 0x7202 ∧ r.msg.sub = 0 ∧ d.packOn ∧ r.msg.payload.length = 24 then
      d.releaseReceived (leAt r.msg.payload 0 4) (leAt r.msg.payload 12 4)
    else d
  | _ => d

/-- PACK_JOIN_TIMEOUT: no lead dog has been heard for long enough: the member is JOINED as the lead dog of
a pack of one (R466), unless it refuses itself. -/
def packJoinTimeout (d : Dev) : Dev :=
  if !d.packOn ∨ d.on Reg.PACK_STS_JOINED ∨ d.on Reg.PACK_STS_REFUSED ∨ d.pack.lead.isSome then d
  else
    let d1 := d.packSelfCheck
    if d1.on Reg.PACK_STS_REFUSED then d1
    else (d1.raise Reg.PACK_STS_JOINED).packElect.packCensus

/-- MEMBER_UNREACHABLE: the last hello of member `m` is older than HELLO_MS × DEAD_MULT (R465). -/
def memberUnreachable (m : Fin 4096) (d : Dev) : Dev :=
  let e := d.rosterEntry m.val
  if e.heard ∧ e.reachable then
    (d.setRoster m.val { e with reachable := false }).packElect.packSelfCheck.pbCheck.packCensus
  else d

/-- The pack state that holds (R470). -/
def packStateOf (d : Dev) : Nat :=
  let size := d.ctl Reg.PACK_PARAM_PACK_SIZE
  if !d.on Reg.PACK_STS_JOINED ∨ !d.on Reg.PACK_STS_TIME_VALID then 0
  else if size ≠ 0 ∧ d.get Reg.PACK_CENSUS_REACHABLE < size / 2 + 1 then 3
  else if d.get Reg.PACK_CENSUS_FLAGGED ≠ 0 then 2
  else 1

/-- PACK_STATE_JUDGE: once in each hello period (R470). `dupGone`: another serial number with this member
ID has not been heard for HELLO_MS × DEAD_MULT, and `longGone`: nor has the condition of a refusal held for
as long (R466). Entering SPLIT completes the outstanding barrier ABORTED (R477), but for one that releases in that
cycle (R478). -/
def packStateJudge (dupGone longGone : Bool) (d : Dev) : Dev :=
  if !d.packOn then d
  else
    let cause := d.get Reg.PACK_STS_REFUSE_CAUSE
    let gone := longGone && !d.refuseHolds cause && (cause != 2 || dupGone)
    let d1 := if d.on Reg.PACK_STS_REFUSED then
        if gone then
          let a := (d.clear Reg.PACK_STS_REFUSED).clear Reg.PACK_STS_REFUSE_CAUSE
          if a.pack.lead.isSome then a.raise Reg.PACK_STS_JOINED else a
        else d
      else d
    let d2 := d1.packElect.packSelfCheck.packCensus
    let s := d2.packStateOf
    if s = d2.get Reg.PACK_STS_STATE then d2
    else
      let d3 := (d2.set Reg.PACK_STS_STATE s).raise Reg.PACK_EVT_STATE_CHANGE
      if s = 3 then d3.packReleaseTime.pbEnd .aborted false 0 else d3

/-- PERSONA_DIGEST_RECOMPUTE (R468). -/
def personaDigestRecompute (d : Dev) : Dev :=
  let inScope := (List.range 128).filter (fun n => d.bit (Reg.PACK_SCOPE_MASK (n / 32)) (n % 32))
  d.setPack { d.pack with
    digest := sha512 (inScope.flatMap (fun n => leBytes 1 n ++ d.digestOf Reg.ACTIVE_DIGEST_DIGEST n)) }

/-! ## Pack time (R471, R472) -/

/-- An offset of `off` root periods in nanoseconds, 5/32 of their number, saturating (R467). -/
def offsetNs (off : Int) : Int := max (-2147483648) (min 2147483647 (Int.tdiv (off * 5) 32))

/-- TIME_SUSPECT is set: time is no longer valid (R472). -/
def timeSuspect (d : Dev) : Dev :=
  let d1 := d.clear Reg.PACK_STS_TIME_VALID
  if d.on Reg.PACK_STS_TIME_SUSPECT then d1
  else (d1.raise Reg.PACK_STS_TIME_SUSPECT).raise Reg.PACK_EVT_SUSPECT

/-- SYNC_RECEIVED: at a Sync the member finds its offset from the lead dog, in root periods (R471, R472).
More than 1 µs, and the first offset after the root's return, is stepped out; any other is slewed by a
rate trim of at most 200 ppm, of which the spec says no more: it is a free value. -/
def syncReceived (off : Int) (d : Dev) : Dev :=
  if !d.packOn ∨ d.on Reg.PACK_STS_IS_LEAD then d
  else
    let ns := BitVec.ofInt 32 (offsetNs off)
    let d1 := d.set Reg.PACK_OFFSET_OFFSET_NS ns.toNat
    let d2 := if 6400 < off.natAbs ∨ d.pack.stepNext then
        let t := ((d1.packTime : Int) - off) % 2 ^ 64
        ((d1.set64 (Reg.PACK_TIME_WORD 0) (Reg.PACK_TIME_WORD 1) t.toNat).raise
          Reg.PACK_EVT_TIME_STEP).setPack { d1.pack with stepNext := false }
      else
        let v := d1.freeBelow 400001
        v.2.set Reg.PACK_TRIM_TRIM_PPB (BitVec.ofInt 32 ((v.1 : Int) - 200000)).toNat
    if d2.ctl Reg.PACK_TIMING_OFFSET_BOUND_NS * 32 < off.natAbs * 5 then
      let k := min 3 (d2.pack.beyond + 1)
      let d3 := d2.setPack { d2.pack with beyond := k, bounded := 0 }
      if k = 3 then d3.timeSuspect else d3
    else
      let k := min 3 (d2.pack.bounded + 1)
      let d3 := d2.setPack { d2.pack with beyond := 0, bounded := k }
      let d4 := if k = 3 then d3.clear Reg.PACK_STS_TIME_SUSPECT else d3
      if d4.on Reg.PACK_STS_TIME_SUSPECT then d4 else d4.raise Reg.PACK_STS_TIME_VALID

/-- SYNC_TIMEOUT: no Sync for HELLO_MS × DEAD_MULT (R472). -/
def syncTimeout (d : Dev) : Dev :=
  if !d.packOn ∨ d.on Reg.PACK_STS_IS_LEAD then d
  else (d.setPack { d.pack with bounded := 0 }).timeSuspect

/-- SYNC_SEND: every 62.5 ms the lead dog sends Sync, and every other member Delay_Req to it (R471). The
message types are those of IEEE 1588. -/
def syncSend (d : Dev) : Dev :=
  if !d.packOn then d
  else if d.on Reg.PACK_STS_IS_LEAD then [0, 1].foldl (fun a p => a.queueTx p (.ptp 0 0)) d
  else
    match d.pack.lead with
    | some m => d.queueTx (d.rosterEntry m).who.port.val (.ptp 1 0)
    | none => d

end Dev

end Sys2Proof.Machine
end

