-- ==== Sys2Proof/Machine/Region.lean ====
section
/-! DEFINITION. Regions (R209 to R234): SWAP and edge E, the release, ABORT, DISCARD and RETIRE, the
carry map, fencing, REINIT's pulse, the end of start-up, and how a load fails. -/

namespace Sys2Proof.Machine

/-- The segment index that a failure at this point of the load records (R260). -/
def LoadSt.place (l : LoadSt) : Nat :=
  if l.header = [] then 0xFE
  else if (leAt l.header 25 1) ≤ l.seg then 0xFF else l.seg

namespace Dev

/-! ## Loads that fail -/

/-- The response code that a cause records (R252). `source` is the code that a source returned. -/
def causeCode (cause : Nat) (source : Code) : Code :=
  if cause = 0 then .ok else if cause = 0x12 ∨ cause = 0x14 then .aborted
  else if cause = 0x13 then source else .targetErr

/-- The load in progress fails with a cause (R248, R252): its planes return to EMPTY, the staging buffer
and its keys are cleared, and the cause is recorded. `seg`: 0xFE for the header, 0xFF for the seal
(R260); `frame`: the device frame address of a LAYOUT or CONTENTION failure. A start-up attempt has
failed with it. -/
def loadFail (d : Dev) (cause seg : Nat) (source : Code := .targetErr) (frame : Option Nat := none) :
    Dev :=
  match d.load with
  | none => d
  | some l =>
    let d1 := if l.kind = 2 then { d with load := none }.rgnEnded l.region 1 else { d with load := none }
    let d2 := l.touched.foldl (fun a n =>
      ((a.shadowEmpty n).raise (Reg.RGN_EVT_LOAD_FAIL n)).set (Reg.RGN_STS_LOAD_CODE n)
        (causeCode cause source).num) d1
    let d3 := if l.kind = 2 then
        (((if l.touched.contains l.region then d2 else
          (d2.raise (Reg.RGN_EVT_LOAD_FAIL l.region)).shadowEmpty l.region).set
            (Reg.RGN_STS_LOAD_CODE l.region) (causeCode cause source).num).set
              Reg.CFG_LOAD_STS_REGION l.region).cmdDone (0x3800 + l.region) 1
                (causeCode cause source)
      else if l.kind = 3 then d2.cmdDone 0x3012 1 (causeCode cause source)
      else { d2 with boot := { d2.boot with failed := some cause } }
    let d4 := (((d3.set Reg.CFG_LOAD_STS_CAUSE cause).set Reg.CFG_LOAD_STS_SEGMENT seg).set
      Reg.CFG_LOAD_STS_KIND l.kind).clear Reg.CFG_LOAD_STS_BUSY
    let d5 := (d4.set Reg.CFG_LOAD_FRAME_DEV_FRAME (frame.getD 0)).setBit Reg.CFG_LOAD_FRAME_VALID
      frame.isSome
    d5.raise Reg.CFG_EVT_LOAD_FAIL

/-! ## The end of start-up (R485) -/

/-- When the last region of the start-up release has released, STEP becomes 0 and START_DONE is set;
the DONE output is released, and golden entries of regions that are not ACTIVE are freed. -/
def startDone (d : Dev) : Dev :=
  if d.start.released ∧ d.start.releaseSet = [] then
    let d1 := { d with start := { d.start with released := false, doneDriven := false } }
    ((d1.clear Reg.START_STS_STEP).raise Reg.RST_EVT_START_DONE).goldenFree
  else d

/-- Region `n` no longer keeps start-up waiting. -/
def startLeft (d : Dev) (n : Nat) : Dev :=
  if d.start.releaseSet.any (fun m => m.val == n) then
    ({ d with start := { d.start with
        releaseSet := d.start.releaseSet.filter (fun m => m.val != n) } }).startDone
  else d

/-! ## SWAP -/

/-- Refusals of a region command that rank before the unlock: a RETIRED region (R44). -/
def rgnRetired (n : Nat) (d : Dev) : Option Code := if d.rstate n = rsRetired then some .retired else none

/-- Those of SWAP: RETIRED, and FENCED while the guard is closed or the domain is not in D0 (R219). -/
def swapPre (n : Nat) (d : Dev) : Option Code :=
  if d.rstate n = rsRetired then some .retired
  else if d.rstate n = rsFenced ∨ d.domState (regionDom n) ≠ 0 then some .fenced
  else none

/-- A swap of region `n` is accepted (R216, R219). -/
def swapAccept (d : Dev) (n : Nat) (startup : Bool) : Dev :=
  let st := d.rgnSt n
  let d1 := d.setRgn n { st with
    delay := d.get (Reg.RGN_CTL_DELAY n), fromActive := decide (d.rstate n = rsActive)
    startup := startup, waited := false }
  (d1.set (Reg.RGN_STS_STATE n) rsSwapping).cmdStart (0x3800 + n) 2

/-- SWAP (R219, R303); BUSY ranks before TARGET_ERR (R44). -/
def swapEff (n : Nat) (d : Dev) : Dev × Code :=
  if d.rstate n = rsSwapping ∨ d.rstate n = rsHeld ∨ !d.gateOpen n ∨ d.marchCovers false n then (d, .busy)
  else if d.sstate n ≠ ssVerified then (d, .targetErr)
  else (d.swapAccept n false, .ok)

/-- Network interface `n` at edge E (R222): a request of the outgoing image of which only part has entered is
discarded and counted, one that has not entered is gone, responses still to come will be discarded, what was
delivered is gone, requests pending in the outgoing image get no response, and what its lookup port holds is gone. -/
def niHandover (d : Dev) (n : Nat) : Dev :=
  let s := d.niSt n
  let d := { d with ctx := { d.ctx with held := d.ctx.held.filter (fun h => h.1 != n) } }
  (d.setNi n { s with
    presented := [], opening := false, rs := [], fences := [], served := []
    waiting := (s.waiting.filter (·.whole)).map (fun t => { t with dropped := true })
    tags := (s.tags.filter (·.whole)).map (fun t => { t with dropped := true })
    writes := (s.writes.filter (fun w => !s.tags.any (fun t => !t.whole && t.tag == w.tag && w.code.isNone))).map
      (fun w => { w with reported := true }) }).count (Reg.RGN_CNT_RSP_DISCARD n) (s.tags.countP (!·.whole))

/-- The carry map of plane `p` marks the flip-flop, inbound register or slice (R211). -/
def carriesFf (d : Dev) (n p k : Nat) : Bool := d.cfgAt n p 3594 (k % 131072) 1 == 1
def carriesInbound (d : Dev) (n p k : Nat) : Bool := d.cfgAt n p 3626 (k % 2048) 1 == 1
def carriesSlice (d : Dev) (n p s : Nat) : Bool := d.cfgAt n p 3626 (2048 + s) 1 == 1

/-- The carry map applies at edge E (R226). -/
def carryApplies (d : Dev) (n : Nat) : Bool :=
  let p := 1 - d.activePlane n
  d.cfgAt n p 3584 7 1 == 1 && (d.rgnSt n).fromActive
    && decide (leBytes 64 (d.cfgAt n p 3584 512 512) = d.digestOf Reg.ACTIVE_DIGEST_DIGEST n)

/-- The roles of the planes exchange: digests and shadow state go with them (R217, R221). -/
def exchangePlanes (d : Dev) (n : Nat) : Dev :=
  let p := d.activePlane n
  let had := (d.rgnSt n).fromActive
  let a := d.digestOf Reg.ACTIVE_DIGEST_DIGEST n
  let b := d.digestOf Reg.SHADOW_DIGEST_DIGEST n
  let d1 := if had then d else d.clearPlane n p
  ((((d1.set (Reg.RGN_STS_ACTIVE_PLANE n) (1 - p)).set (Reg.RGN_STS_SHADOW n)
    (if had then ssVerified else ssEmpty)).setDigest Reg.ACTIVE_DIGEST_DIGEST n b).setDigest
      Reg.SHADOW_DIGEST_DIGEST n (if had then a else []))

/-- Edge E (R221): the planes exchange roles, the hold is asserted, what is not carried takes its
initial value, the fill starts and the interface hands over. -/
def edgeE (d : Dev) (n : Nat) : Dev :=
  let p := d.activePlane n
  let carry := d.carryApplies n
  let wanted := d.cfgAt n (1 - p) 3584 7 1 == 1
  let d1 := (captureBorder d n p 15 (d.marchCut n)).captureIo n
  let d2 := (d1.exchangePlanes n).set (Reg.RGN_STS_STATE n) rsHeld
  let d3 := (d2.raise (Reg.FF_STS_HOLD n)).set (Reg.RGN_STS_HOLD_LEFT n) (d2.rgnSt n).delay
  let q := 1 - p
  let d4 := ((d3.ffReset n q (fun k => carry && d3.carriesFf n q k)).inboundReset n q
    (fun k => carry && d3.carriesInbound n q k)).sliceReset n q
      (fun s => carry && d3.carriesSlice n q s)
  let d5 := ((d4.bmQuiet (fun b => b / 64 == n)).fillStart n).niHandover n
  let d6 := { d5 with attach := SMap.put {} d5.attach n {} }
  let d7 := (d6.set (Reg.RI_STS_ARMED_BM n) (d6.cfg n 3642 0 1)).set (Reg.RI_STS_ARMED_DRAM n)
    (d6.cfg n 3642 1 1)
  let d8 := (d7.setBit (Reg.RGN_STS_CARRIED n) carry).setBit (Reg.RGN_STS_WAIT_SCRUB n) false
  let d9 := (d8.clear (Reg.RGN_STS_WAIT_REINIT n)).raise (Reg.RGN_EVT_SWAPPED n)
  let d10 := if wanted ∧ !carry then d9.raise (Reg.RGN_EVT_CARRY_IGNORED n) else d9
  let d11 := ((d10.count (Reg.RGN_CNT_SWAP_CNT n)).cmdDone (0x3800 + n) 2 .ok).rgnEnded n 2
  ((((d11.barrierDone 3 n .ok).goldenSwap n).laneFlush n).trunkFix n (fun _ => true)).showRegion n

/-- SWAP_EDGE: an edge of the counting clock, `cd48` CD48 cycles after acceptance, comes to be E unless
it waits for the scrubber or for a REINIT (R220). -/
def swapEdge (n : Region) (cd48 : Nat) (d : Dev) : Dev :=
  let p := if (d.rgnSt n.val).fromActive then d.activePlane n.val else 1 - d.activePlane n.val
  if d.rstate n.val ≠ rsSwapping ∨ cd48 < 2 ∨ !d.rclkRuns n p then d
  else
    let reinit := d.on (Reg.FF_STS_REINIT_BUSY n.val)
    let d1 := (d.setBit (Reg.RGN_STS_WAIT_SCRUB n) (d.scrubPending n.val)).setBit
      (Reg.RGN_STS_WAIT_REINIT n) reinit
    if d.scrubPending n.val then
      let st := d1.rgnSt n.val
      if st.waited then d1
      else (d1.setRgn n.val { st with waited := true }).raise (Reg.RGN_EVT_SCRUB_WAIT n)
    else if reinit then d1
    else d1.edgeE n.val

/-! ## The release -/

/-- The hold lifts (R223): gates open but for sides whose FORCE is set (R133), deserializers restart at
word boundary 0, a SLIP that waits being dropped (R132, log 108), and the interface delivers what it kept
(R222). -/
def releaseEff (d : Dev) (n : Nat) : Dev :=
  let st := d.rgnSt n
  let d1 := ((d.setBit (Reg.FF_STS_HOLD n) (d.tapOwns && isEdge n)).set (Reg.RGN_STS_STATE n) rsActive).raise
    (Reg.RGN_EVT_RELEASED n)
  let d2 := d1.setRgn n { st with force := d.ctl (Reg.BORDER_CTL_FORCE n), forceDue := false
                                  startup := false }
  let d3 := (List.range (ioCells n)).foldl
    (fun a c => a.setIo n c { a.ioSt n c with boundary := 0, slipIn := 0, skip := false }) d2
  (d3.showRegion n).startLeft n

/-- RELEASE: the first edge of the incoming region clock at or after E + D with the fill complete
(R223). While the root is lost every hold stays asserted (R195). -/
def release (n : Region) (d : Dev) : Dev :=
  if d.rstate n.val ≠ rsHeld ∨ d.get (Reg.RGN_STS_HOLD_LEFT n) ≠ 0 ∨ d.on (Reg.BM_STS_FILL_BUSY n)
      ∨ d.rootLost ∨ !d.rclkRuns n (d.activePlane n.val) then d
  else d.releaseEff n.val

/-! ## ABORT, DISCARD, RETIRE -/

/-- An ABORT that finds nothing to abort is flagged LATE on the run that ended last (R89, R228). -/
def abortLate (d : Dev) (n : Nat) : Dev :=
  let k := (d.rgnSt n).last
  if k = 0 then d else d.cmdLate (0x3800 + n) k

/-- ABORT (R216, R217, R89): a load of the region or a swap before E ends ABORTED. An abort that finds neither
comes no earlier than the completion of the one that ended last, and is flagged LATE on that run; where neither
has run it flags none (log 109). -/
def abortEff (n : Nat) (d : Dev) : Dev × Code :=
  let loading := d.load.any (fun l => l.kind == 2 && l.region == n)
  match d.load with
  | some l =>
    if loading then (d.loadFail 0x12 l.place, .ok)
    else if d.rstate n = rsSwapping then (d.swapEnd n .aborted, .ok)
    else (d.abortLate n, .ok)
  | none =>
    if d.rstate n = rsSwapping then (d.swapEnd n .aborted, .ok) else (d.abortLate n, .ok)

/-- DISCARD (R217, R228). -/
def discardEff (n : Nat) (d : Dev) : Dev × Code :=
  if d.rstate n = rsSwapping ∨ d.sstate n = ssLoading then (d, .busy)
  else if d.sstate n = ssEmpty then (d, .ok)
  else ((d.shadowEmpty n).showScrub, .ok)

/-- RETIRE (R227, R228): a load that touches the region and a swap that waits end ABORTED, both planes
become EMPTY and the region leaves service. -/
def retireEff (n : Nat) (d : Dev) : Dev × Code :=
  let d0 := match d.load with
    | some l => if (l.kind = 2 ∧ l.region = n) ∨ l.touched.contains n then d.loadFail 0x12 l.place else d
    | none => d
  let d1 := (d0.swapEnd n .aborted).marchDrop (fun u => match u with
    | .bm b => b / 64 == n
    | _ => false)
  let p := d1.activePlane n
  let d2 := ((((d1.clearPlane n 0).clearPlane n 1).dropFixes n 0).dropFixes n 1).abandonBuild n
  let d3 := (d2.setGolden n none).setScrub { (d2.setGolden n none).scrub with
    pending := d2.scrub.pending.filter (fun x => x.region != n) }
  let d4 := ((d3.set (Reg.RGN_STS_STATE n) rsRetired).set (Reg.RGN_STS_SHADOW n) ssEmpty).set
    (Reg.RGN_STS_HOLD_LEFT n) 0
  let d5 := (d4.setDigest Reg.ACTIVE_DIGEST_DIGEST n []).setDigest Reg.SHADOW_DIGEST_DIGEST n []
  let d5 := (d5.clear (Reg.RI_STS_ARMED_BM n)).clear (Reg.RI_STS_ARMED_DRAM n)
  let d6 := (d5.raise (Reg.FF_STS_HOLD n)).raise (Reg.RGN_EVT_RETIRED_EVT n)
  let d7 := if d6.on (Reg.FF_CTL_REINIT n) then d6.reinitEnd n .aborted else d6
  let d8 := { d7 with planes := (SMap.put {} (SMap.put {} d7.planes (2 * n + p) {}) (2 * n + 1 - p) {}) }
  ((((d8.bmQuiet (fun b => b / 64 == n)).niHandover n).showRegion n).showScrub.startLeft n, .ok)

/-! ## Fencing and REINIT -/

/-- The region's fence guard has closed (R216): border and I/O outputs are captured (R130, R139). -/
def regionFence (d : Dev) (n : Nat) : Dev :=
  if d.rstate n ≠ rsActive then d
  else
    ((((captureBorder d n (d.activePlane n) 15 d).captureIo n).set (Reg.RGN_STS_STATE n)
      rsFenced)).showRegion n

/-- The guard opens with the domain in D0 (R216). -/
def regionUnfence (d : Dev) (n : Nat) : Dev :=
  if d.rstate n ≠ rsFenced then d
  else (d.set (Reg.RGN_STS_STATE n) rsActive).showRegion n

/-- The re-initialization of a wake from D3 (R107, R154): flip-flops, inbound registers and slices take
their initial values. -/
def regionReinit (d : Dev) (n : Nat) : Dev :=
  let p := d.activePlane n
  ((d.ffReset n p (fun _ => false)).inboundReset n p (fun _ => false)).sliceReset n p
    (fun _ => false)

/-- REINIT_PULSE: the pulse of an accepted REINIT, at an edge of the region clock (R118). A hold has priority
(R105): what it holds keeps its value. -/
def reinitPulse (n : Region) (d : Dev) : Dev :=
  if d.on (Reg.FF_STS_REINIT_BUSY n) ∧ d.rclkRuns n (d.activePlane n.val) then
    (if d.holdOn n then d
      else (d.reinitPulseFf n).sliceReset n.val (d.activePlane n.val) (fun _ => false)).clear
      (Reg.RGN_STS_WAIT_REINIT n)
  else d

/-! ## Readback slots (R267) -/

/-- SCRUB_SLOT: a readback slot. `edge`: edge E of the frame's region falls between the read and its decoding
(R278). -/
def scrubSlot (upsets : List (Nat × Fin 4192)) (edge : Bool) (d : Dev) : Dev :=
  d.scrubSlotWith upsets (fun n a =>
    if edge ∧ n < 128 then a.swapEdge (Fin.ofNat 128 n) 2 else a)

end Dev

end Sys2Proof.Machine
end

