-- ==== Sys2Proof/Machine/Context.lean ====
section
/-! DEFINITION. The context store (R362 to R379): the hash, records and their cache, the lookup port and
its operations, control-plane operations, the commit, sweeps and engine retirement. The hash is
SipHash-2-4, which the spec names and does not restate (log 12). -/

namespace Sys2Proof.Machine

/-! ## SipHash-2-4 (R365) -/

/-- The four words of the hash's state. -/
structure SipSt where
  v0 : BitVec 64
  v1 : BitVec 64
  v2 : BitVec 64
  v3 : BitVec 64

/-- One round. -/
def sipRound (s : SipSt) : SipSt :=
  let v0 := s.v0 + s.v1
  let v1 := s.v1.rotateLeft 13 ^^^ v0
  let v0 := v0.rotateLeft 32
  let v2 := s.v2 + s.v3
  let v3 := s.v3.rotateLeft 16 ^^^ v2
  let v0 := v0 + v3
  let v3 := v3.rotateLeft 21 ^^^ v0
  let v2 := v2 + v1
  let v1 := v1.rotateLeft 17 ^^^ v2
  let v2 := v2.rotateLeft 32
  ⟨v0, v1, v2, v3⟩

/-- One message word taken in. -/
def sipWord (s : SipSt) (m : BitVec 64) : SipSt :=
  let t := sipRound (sipRound { s with v3 := s.v3 ^^^ m })
  { t with v0 := t.v0 ^^^ m }

/-- The hash of bytes under a 128-bit key. -/
def sipHash (key : Nat) (bs : List Byte) : Nat :=
  let k0 := BitVec.ofNat 64 key
  let k1 := BitVec.ofNat 64 (key / 2 ^ 64)
  let s0 : SipSt := ⟨k0 ^^^ 0x736F6D6570736575, k1 ^^^ 0x646F72616E646F6D, k0 ^^^ 0x6C7967656E657261,
    k1 ^^^ 0x7465646279746573⟩
  let n := bs.length / 8
  let words := (List.range n).map (fun i => BitVec.ofNat 64 (leAt bs (8 * i) 8))
  let last := BitVec.ofNat 64 (leAt bs (8 * n) (bs.length % 8) + bs.length % 256 * 2 ^ 56)
  let s1 := (words ++ [last]).foldl sipWord s0
  let s2 := { s1 with v2 := s1.v2 ^^^ 0xFF }
  let s3 := sipRound (sipRound (sipRound (sipRound s2)))
  (s3.v0 ^^^ s3.v1 ^^^ s3.v2 ^^^ s3.v3).toNat

/-- What the engines take from a key's hash (R365). -/
structure KeyHash where
  b0 : Nat
  b1 : Nat
  w0 : Nat
  q : Nat
  dig : Nat
  set : Nat
deriving DecidableEq, Repr

/-- The fields of a hash value (R365). -/
def KeyHash.of (h : Nat) : KeyHash :=
  let b0 := h % 2 ^ 20
  let b1 := h / 2 ^ 20 % 2 ^ 20
  let dig := h / 2 ^ 44 % 2 ^ 12
  ⟨b0, if b1 = b0 then b0 ^^^ 1 else b1, h / 2 ^ 40 % 4, h / 2 ^ 42 % 4, if dig = 0 then 1 else dig,
    h % 2 ^ 11⟩

/-! ## Records (R363) -/

/-- A record's fields. -/
def recDig (r : List Byte) (w : Nat) : Nat := leAt r 0 6 / 2 ^ (12 * w) % 2 ^ 12
def recSpill (r : List Byte) : Nat := leAt r 6 1
def recLife (r : List Byte) : Nat := leAt r 7 1 % 4
def recPend (r : List Byte) : Nat := leAt r 7 1 / 4 % 4
def recKey (r : List Byte) : List Byte := bytesAt r 8 48
def recState (r : List Byte) : List Byte := bytesAt r 56 72

/-- Bytes from position `i` replaced. -/
def patch (r : List Byte) (i : Nat) (bs : List Byte) : List Byte :=
  r.take i ++ bs ++ r.drop (i + bs.length)

/-- A record with the digest of way `w` set. -/
def recSetDig (r : List Byte) (w dig : Nat) : List Byte :=
  let x := leAt r 0 6
  patch r 0 (leBytes 6 (x - recDig r w * 2 ^ (12 * w) + dig * 2 ^ (12 * w)))

/-- A record with SPILL set. -/
def recSetSpill (r : List Byte) (v : Nat) : List Byte := patch r 6 (leBytes 1 v)

/-- Record `i`'s address (R362). -/
def recAddr (i : Nat) : Nat := 0x7C8000000 + 128 * i

/-- What reading a record gives. -/
inductive RecRead where
  | ok (r : List Byte) (fromDram : Bool)
  | code (c : Code)
deriving DecidableEq, Repr

namespace Dev

/-- The hash of a key under the store's hash key, of its first KEY_BITS / 8 bytes. -/
def keyHash (d : Dev) (key : List Byte) : KeyHash :=
  KeyHash.of (sipHash d.ctx.hashKey (key.take d.ctx.keyBytes))

/-- Two keys agree in their first KEY_BITS / 8 bytes. -/
def sameKey (d : Dev) (a b : List Byte) : Bool :=
  decide (a.take d.ctx.keyBytes = b.take d.ctx.keyBytes)

/-- The device with the store's state replaced. -/
def setCtx (d : Dev) (x : CtxSt) : Dev := { d with ctx := x }

/-- The NI of the engine at work (R39, R331). -/
def ctxNi (d : Dev) : Nat := 160 + d.ctx.eng

/-- Engine `e` is at work. -/
def ctxBy (d : Dev) (e : Nat) : Dev := d.setCtx { d.ctx with eng := e }

/-- The lowest engine in service is at work: it reads and writes for the control plane (log 110). -/
def ctxByLive (d : Dev) : Dev :=
  d.ctxBy (((List.range 4).find? (fun e => d.bit Reg.CTX_STS_ENG_LIVE e)).getD 0)

/-- A record is visible (R370). -/
def visible (d : Dev) (r : List Byte) : Bool :=
  match recPend r with
  | 0 => recLife r == 1
  | 1 => d.on Reg.CTX_STS_COMMITTED
  | 2 => !d.on Reg.CTX_STS_COMMITTED
  | _ => false

/-! ## The cache (R366) -/

/-- The line that holds record `i`. -/
def ctxLine (d : Dev) (i : Nat) : Option CtxLine := d.ctxCache.find? (fun l => l.idx == i)

/-- A dirty line is written to DRAM; poisoned bytes stay poisoned. -/
def ctxWriteBack (d : Dev) (l : CtxLine) : Dev :=
  if !l.dirty ∨ d.rangeCode d.ctxNi true (recAddr l.idx) 128 ≠ .ok then d
  else
    let r := d.readBytes (.hs 1) (128 * l.slot) 128
    (r.1.zipIdx).foldl (fun a e =>
      match a.dramPlace (recAddr l.idx + e.2) with
      | some q => a.storeByte (.dram q.1) q.2 e.1.1 e.1.2
      | none => a) (r.2.dramCount true (recAddr l.idx) 128)

/-- Record `i`, 128 bytes, fills a line of `set`: a free way, or the least recently used line, which is
written back when it is dirty. -/
def ctxFill (d : Dev) (i set : Nat) (r : List Byte) (dirty : Bool) : Dev :=
  let mine := d.ctxCache.filter (fun l => l.slot / 4 == set)
  let free := (List.range 4).find? (fun w => !mine.any (fun l => l.slot % 4 == w))
  match free with
  | some w =>
    let d1 := { d with ctxCache := ⟨i, 4 * set + w, dirty⟩ :: d.ctxCache }
    d1.storeBytes (.hs 1) (128 * (4 * set + w)) r
  | none =>
    match mine.getLast? with
    | none => d
    | some l =>
      let d1 := d.ctxWriteBack l
      let d2 := { d1 with
        ctxCache := ⟨i, l.slot, dirty⟩ :: d1.ctxCache.filter (fun x => x.slot != l.slot) }
      d2.storeBytes (.hs 1) (128 * l.slot) r

/-- A cached line becomes the most recently used, and dirty or clean as said. -/
def ctxTouchLine (d : Dev) (l : CtxLine) : Dev :=
  { d with ctxCache := l :: d.ctxCache.filter (fun x => x.slot != l.slot) }

/-- A record is found poisoned (R371). -/
def recPoisoned (d : Dev) (i : Nat) : Dev :=
  ((d.raise Reg.CTX_EVT_REC_POISON).set Reg.CTX_POISON_POISON_IDX i).raise Reg.CTX_POISON_POISON_VALID

/-- Record `i` is read, from the cache when it holds it and from DRAM otherwise (R369). -/
def recRead (d : Dev) (i : Nat) : RecRead × Dev :=
  let done := fun (x : List (Byte × Bool) × Dev) (dram : Bool) =>
    if x.1.any (·.2) then (RecRead.code .poison, x.2.recPoisoned i)
    else (RecRead.ok (x.1.map (·.1)) dram, x.2)
  match d.ctxLine i with
  | some l => done ((d.ctxTouchLine l).readBytes (.hs 1) (128 * l.slot) 128) false
  | none =>
    let c := d.rangeCode d.ctxNi false (recAddr i) 128
    if c ≠ .ok then (.code c, d) else done (d.readDram (recAddr i) 128) true

/-- A control-plane write of `bs` from byte `o` of record `i`: the cache and DRAM (R366, R372). A refill
of the record that is on its way is read again (R377). -/
def recStore (d : Dev) (i o : Nat) (bs : List Byte) : Dev :=
  let d1 := match d.ctxLine i with
    | some l => d.storeBytes (.hs 1) (128 * l.slot + o) bs
    | none => d
  if d1.rangeCode d1.ctxNi true (recAddr i) 128 ≠ .ok then d1 
  else (d1.storeDram (recAddr i + o) bs).dramCount true (recAddr i) 128

/-- Device time in ms (R368). -/
def ctxTime (d : Dev) : Nat :=
  d.get64 (Reg.ROOT_CNT_WORD 0) (Reg.ROOT_CNT_WORD 1) / 6400000 % 2 ^ 32

/-! ## Finding a context (R369) -/

/-- What a search ends with. -/
inductive Found where
  | hit (i : Nat) (r : List Byte)
  | none
  | code (c : Code)
deriving DecidableEq, Repr

/-- A search in progress: its result once it has one, whether DRAM was read, the records read from
there, and the first record of the bucket in hand. -/
structure SearchSt where
  dev : Dev
  result : Option Found := none
  dram : Bool := false
  read : List Nat := []
  first : List Byte := []

/-- One candidate: the record is read and compared. -/
def searchAt (key : List Byte) (i : Nat) (first : Bool) (s : SearchSt) : SearchSt :=
  if s.result.isSome then s
  else
    match s.dev.recRead i with
    | (.code c, d) => { s with dev := d, result := some (.code c) }
    | (.ok r dram, d) =>
      let s1 := { s with dev := d, dram := s.dram || dram
                         read := if dram then s.read ++ [i] else s.read
                         first := if first then r else s.first }
      if recLife r = 1 ∧ d.sameKey (recKey r) key ∧ d.visible r then { s1 with result := some (.hit i r) }
      else s1

/-- One bucket: the home way, then the ways whose digest matches. -/
def searchBucket (key : List Byte) (h : KeyHash) (b : Nat) (s : SearchSt) : SearchSt :=
  let s1 := searchAt key (4 * b + h.w0) true s
  (List.range 4).foldl (fun a w =>
    if w ≠ h.w0 ∧ recDig s1.first w = h.dig then searchAt key (4 * b + w) false a else a) s1

/-- The search of R369. -/
def ctxSearch (d : Dev) (key : List Byte) : SearchSt :=
  let h := d.keyHash key
  let s1 := searchBucket key h h.b0 { dev := d }
  if s1.result.isSome then s1
  else if recSpill s1.first = 0 then { s1 with result := some .none }
  else
    let s2 := searchBucket key h h.b1 s1
    if s2.result.isSome then s2 else { s2 with result := some .none }

/-! ## The lookup port (R367) -/

/-- The message of a lookup-port request: KEY, ARG0 and ARG1 in its data flit, and UTAG, OP, TOUCH and WSEL
in USER (log 46). -/
def LookupReq.msg (r : LookupReq) : Pkt :=
  { cmd := 6, len := 1, beFirst := 2 ^ 64 - 1
    user := r.utag.val + 2 ^ 12 * r.op.val + 2 ^ 16 * bit01 r.touch + 2 ^ 17 * r.wsel.val
    data := leBytes 48 r.key.toNat ++ leBytes 8 r.arg0.toNat ++ leBytes 8 r.arg1.toNat }

/-- The fields of such a message. -/
def lqOp (p : Pkt) : Nat := p.user / 2 ^ 12 % 16
def lqTouch (p : Pkt) : Bool := p.user.testBit 16
def lqWsel (p : Pkt) : Nat := p.user / 2 ^ 17 % 8
def lqKey (p : Pkt) : List Byte := bytesAt p.data 0 48
def lqArg (p : Pkt) (i : Nat) : Nat := leAt p.data (48 + 8 * i) 8

/-- The engine of a key's quarter (R375). -/
def engineOf (d : Dev) (key : List Byte) : Nat :=
  d.get Reg.CTX_STS_ENG_MAP / 4 ^ (d.keyHash key).q % 4

/-- The first held request of region `n`'s lookup port that may go is sent: the quarter it names has no
request at another engine, and no request of its quarter is held before it (R367). -/
def lpSend (d : Dev) (n : Nat) : Dev :=
  let s := d.ctx
  let mine := s.held.filter (fun h => h.1 == n)
  let quarter := fun (p : Pkt) => (d.keyHash (lqKey p)).q
  let elsewhere := fun (p x : Pkt) => x.cmd == 6 && 160 ≤ x.dst && x.dst < 164 && quarter x == quarter p
    && x.dst != 160 + d.engineOf (lqKey p)
  let free := fun (p : Pkt) => !((d.niSt n).tags.map (·.pkt) ++ (d.niSt n).presented).any (elsewhere p)
  match mine.find? (fun h => free h.2) with
  | none => d
  | some h =>
    let d1 := d.setCtx { s with held := s.held.erase h }
    let x := d1.niSt n
    (d1.setNi n { x with presented := x.presented ++ [{ h.2 with dst := 160 + d.engineOf (lqKey h.2) }]
      }).niPump n

/-- The lookup port of region `n` sends what it may (R367). -/
def lpPump (n : Nat) (d : Dev) : Dev :=
  (List.range (d.ctx.held.countP (fun h => h.1 == n))).foldl (fun a _ => a.lpSend n) d

/-- LP_REQUEST: a request enters the lookup port of region `n`, which its image enables, at an edge of the attachment
clock (R367, R334). One at a port that is not enabled reaches nothing. -/
def lpRequest (n : Region) (r : LookupReq) (d : Dev) : Dev :=
  if !d.hasImage n.val ∨ d.holdOn n.val ∨ d.cfg n.val 3628 0 1 = 0 ∨ !d.niClock n.val then d
  else
    let p := { (LookupReq.msg r) with alt := d.cfg n.val 3628 1 1 == 1 }
    lpPump n.val (d.setCtx { d.ctx with held := d.ctx.held ++ [(n.val, p)] })

/-! ## Data-plane operations (R368) -/

/-- The answer with STATE, INDEX and FLAG: two data flits (log 46). -/
def ctxAnswer (i : Nat) (r : List Byte) (flag : Bool) : List Byte :=
  fit 128 (recState r ++ leBytes 4 i ++ leBytes 1 (bit01 flag))

/-- The requests that engine `e` holds and has not performed, in order of arrival. -/
def ctxHeld (d : Dev) (e : Nat) : List Pkt :=
  let s := d.niSt (160 + e)
  s.served.filter (fun p => !s.ready.any (fun r => r.1 == p))

/-- The oldest request at engine `e` with operation `op` that no earlier request for its key holds
back: it may pass a request for another key (R376). -/
def ctxPick (d : Dev) (e op : Nat) : Option Pkt :=
  let q := d.ctxHeld e
  (q.zipIdx.find? (fun x => lqOp x.1 == op
    && !(q.take x.2).any (fun y => d.sameKey (lqKey y) (lqKey x.1)))).map (·.1)

/-- Request `p`, which engine `e` holds, is answered once it is performed and no earlier request of its stream is
unanswered (R33, R367). -/
def ctxAnswerNext (e : Nat) (d : Dev) (p : Pkt) : Dev :=
  let i := 160 + e
  let s := d.niSt i
  if (s.served.takeWhile (· != p)).any (fun x => sameStream x p) then d
  else match s.ready.find? (fun r => r.1 == p) with
    | none => d
    | some r =>
      (d.setNi i { s with served := s.served.erase p, ready := s.ready.erase r }).answerReq i p r.2.1
        (r.2.1 == .poison) r.2.2

/-- An engine has performed a request that it holds: it is answered in its stream's order. -/
def ctxReply (d : Dev) (e : Nat) (p : Pkt) (c : Code) (data : List Byte := []) : Dev :=
  let i := 160 + e
  let d1 := d.setNi i { d.niSt i with ready := (d.niSt i).ready ++ [(p, c, data)] }
  (d1.niSt i).served.foldl (ctxAnswerNext e)
    (if c = .noContext then d1.count (Reg.CTX_NO_CTX_CNT e) else d1)

/-- What an operation makes of a record, and its FLAG (R368). -/
def ctxEffect (op : Nat) (p : Pkt) (r : List Byte) : List Byte × Bool :=
  let a0 := lqArg p 0
  let user := 80 + 8 * lqWsel p
  match op with
  | 2 =>
    (patch (patch r 64 (leBytes 8 (leAt r 64 8 + a0))) 72 (leBytes 8 (leAt r 72 8 + lqArg p 1)), false)
  | 3 =>
    if leAt r 60 4 = a0 % 2 ^ 32 then (patch r 60 (leBytes 4 (a0 % 2 ^ 32 + 1)), false) else (r, true)
  | 4 => (patch r user (leBytes 8 a0), false)
  | 5 => if leAt r user 8 = lqArg p 1 then (patch r user (leBytes 8 a0), false) else (r, true)
  | _ => (r, false)

/-- A data-plane update changes the cached line and marks it dirty (R366). -/
def ctxUpdate (d : Dev) (i set : Nat) (r : List Byte) : Dev :=
  match d.ctxLine i with
  | some l => (d.ctxTouchLine { l with dirty := true }).storeBytes (.hs 1) (128 * l.slot) r
  | none => d.ctxFill i set r true

/-- Engine `e` performs its next request with operation `op` (R368 to R371). Records that the search
read from DRAM fill the cache later, but one that is updated fills it at once. -/
def ctxOperate (op : Nat) (e : Fin 4) (d : Dev) : Dev :=
  let d := d.ctxBy e
  match d.ctxPick e op with
  | none => d
  | some p =>
    if !d.on Reg.CTX_STS_IN_USE then d.ctxReply e p .noContext
    else if 6 ≤ lqWsel p then d.ctxReply e p .targetErr
    else
      let h := d.keyHash (lqKey p)
      let s := d.ctxSearch (lqKey p)
      let d1 := if s.dram then s.dev.count (Reg.CTX_MISSES_CNT e) else s.dev
      let later := fun (skip : Option Nat) =>
        (s.read.filter (fun i => some i != skip)).map (fun i => (i, h.set))
      match s.result with
      | some (.hit i r) =>
        let d2 := if s.dram then d1 else d1.count64 (Reg.CTX_HITS_WORD e 0) (Reg.CTX_HITS_WORD e 1)
        let x := ctxEffect op p r
        let touched := op ≠ 1 ∨ lqTouch p
        let r' := if touched then patch x.1 56 (leBytes 4 d2.ctxTime) else x.1
        let d3 := if touched then d2.ctxUpdate i h.set r' else d2
        let d4 := d3.setCtx { d3.ctx with
          refills := d3.ctx.refills ++ later (if touched then some i else none) }
        d4.ctxReply e p .ok (ctxAnswer i r' x.2)
      | some (.code c) => (d1.setCtx { d1.ctx with refills := d1.ctx.refills ++ later none }).ctxReply e p c
      | _ => (d1.setCtx { d1.ctx with refills := d1.ctx.refills ++ later none }).ctxReply e p .noContext

def lookup (e : Fin 4) : Dev → Dev := ctxOperate 1 e
def add (e : Fin 4) : Dev → Dev := ctxOperate 2 e
def seq (e : Fin 4) : Dev → Dev := ctxOperate 3 e
def setUser (e : Fin 4) : Dev → Dev := ctxOperate 4 e
def casUser (e : Fin 4) : Dev → Dev := ctxOperate 5 e

/-- CTX_REFILL: the oldest record read from DRAM fills the cache, unless it is there already (R366); one
that has become poisoned is not cached (R371). -/
def ctxRefill (d : Dev) : Dev :=
  match d.ctx.refills with
  | [] => d
  | (i, set) :: rest =>
    let d1 := d.setCtx { d.ctx with refills := rest }
    if (d1.ctxLine i).isSome ∨ !d1.on Reg.CTX_STS_IN_USE then d1
    else match d1.recRead i with
      | (.ok r _, d2) => d2.ctxFill i set r false
      | (.code _, d2) => d2

/-- A message reaches context engine NI `160 + e`: a retired engine answers RETIRED, an unknown OP
TARGET_ERR, or NO_CONTEXT while the store is not in use (R364, R368, R371), and the others wait to be
performed. -/
def ctxMsg (e : Nat) (d : Dev) : Dev :=
  let i := 160 + e
  match d.firstRx i (fun p => p.cmd != 5) with
  | none => d
  | some p =>
    let d1 := d.takeReq i
    if d.guardBars i then d
    else if !d.bit Reg.CTX_STS_ENG_LIVE e then d1.answerReq i p .retired
    else
      let d2 := d1.setNi i { d1.niSt i with served := (d1.niSt i).served ++ [p] }
      if p.cmd ≠ 6 then d2.ctxReply e p .targetErr
      else if lqOp p = 0 ∨ 5 < lqOp p then
        d2.ctxReply e p (if d2.on Reg.CTX_STS_IN_USE then .targetErr else .noContext)
      else d2

/-! ## Control-plane operations (R372) -/

/-- CTX registers as bytes: KEY, NKEY or DATA. -/
def ctxBytes (d : Dev) (reg : Nat → Fld) (n : Nat) : List Byte :=
  (List.range n).flatMap (fun w => leBytes 4 (d.get (reg w)))

/-- STAGED and LIST_OVERFLOW follow the list. -/
def setStaged (d : Dev) (l : List Nat) : Dev :=
  ((d.setCtx { d.ctx with staged := l }).set Reg.CTX_STS_STAGED (min l.length 1024)).setBit
    Reg.CTX_STS_LIST_OVERFLOW (decide (1024 < l.length))

/-- A bucket's four records as they are, a failing read's code otherwise; records in retired pages read as
none (R371). -/
def bucketRead (d : Dev) (b : Nat) : List (Option (List Byte)) × Option Code × Dev :=
  (List.range 4).foldl (fun acc w =>
    match acc.2.2.recRead (4 * b + w) with
    | (.ok r _, d1) => (acc.1 ++ [some r], acc.2.1, d1)
    | (.code .poison, d1) => (acc.1 ++ [none], some .poison, d1)
    | (.code _, d1) => (acc.1 ++ [none], acc.2.1, d1)) ([], none, d)

/-- The header's first seven bytes of every record of a bucket are changed alike (R363, R372). -/
def bucketStore (d : Dev) (b : Nat) (f : List Byte → List Byte) : Dev :=
  (List.range 4).foldl (fun a w =>
    match a.recRead (4 * b + w) with
    | (.ok r _, a1) => a1.recStore (4 * b + w) 0 ((f r).take 7)
    | (.code _, a1) => a1) d

/-- A free slot of a bucket: the home way if free, else the lowest free way. -/
def freeWay (rs : List (Option (List Byte))) (w0 : Nat) : Option Nat :=
  let free := fun w => match rs.getD w none with
    | some r => recLife r == 0 && recPend r == 0
    | none => false
  if free w0 then some w0 else (List.range 4).find? free

/-- CREATE of a key with its state (R372): the index placed, or the code and reason. -/
def ctxCreate (d : Dev) (key state : List Byte) : Except (Code × Nat) Nat × Dev :=
  let h := d.keyHash key
  let r0 := d.bucketRead h.b0
  let r1 := r0.2.2.bucketRead h.b1
  let d1 := r1.2.2
  let exists_ := (r0.1 ++ r1.1).any (fun x => match x with
    | some r => recLife r == 1 && d1.sameKey (recKey r) key && (d1.visible r || recPend r == 1)
    | none => false)
  let poisoned := r0.2.1.isSome || r1.2.1.isSome
  if 1024 ≤ d1.ctx.staged.length then (.error (.busy, 4), d1)
  else if poisoned then (.error (.poison, 5), d1)
  else if exists_ then (.error (.targetErr, 1), d1)
  else
    let place := match freeWay r0.1 h.w0 with
      | some w => some (h.b0, w)
      | none => (freeWay r1.1 h.w0).map (fun w => (h.b1, w))
    match place with
    | none => (.error (.targetErr, 2), d1)
    | some (b, w) =>
      let i := 4 * b + w
      let d2 := d1.bucketStore b (fun r => recSetDig r w h.dig)
      let d3 := d2.recStore i 7 (leBytes 1 (1 + 4 * 1))
      let d4 := d3.recStore i 8 (fit 48 (key.take d.ctx.keyBytes) ++ fit 72 state)
      let d5 := if b = h.b0 then d4
        else d4.bucketStore h.b0 (fun r => recSetSpill r (min (recSpill r + 1) 255))
      (.ok i, d5.setStaged (d5.ctx.staged ++ [i]))

/-- The visible match of a key for a control-plane operation: index and record, or code and reason. -/
def ctxFind (d : Dev) (key : List Byte) : Except (Code × Nat) (Nat × List Byte) × Dev :=
  let s := d.ctxSearch key
  (match s.result with
   | some (.hit i r) => .ok (i, r)
   | some (.code .poison) => .error (.poison, 5)
   | some (.code c) => .error (c, 3)
   | _ => .error (.noContext, 3), s.dev)

/-- DELETE of the record found: PEND delete (R372). -/
def ctxMarkDelete (d : Dev) (i : Nat) : Dev :=
  let d1 := d.recStore i 7 (leBytes 1 (1 + 4 * 2))
  d1.setStaged (if d1.ctx.staged.contains i then d1.ctx.staged else d1.ctx.staged ++ [i])

/-- The control operations are answered BUSY before INIT, while one runs, and while a commit or its
cleanup is not finished (R364, R373; log 121). -/
def ctxBusy (d : Dev) : Bool :=
  !d.on Reg.CTX_STS_IN_USE || d.on Reg.CTX_STS_BUSY || d.ctx.commitDue || d.on Reg.CTX_STS_CLEANUP

/-- An operation has been performed; its completion records it (R372). -/
def opRuns (d : Dev) (c : Code) (reason idx : Nat) : Dev :=
  ((d.setCtx { d.ctx with op := some (c, reason, idx) }).raise Reg.CTX_STS_BUSY).cmdStart 0x6800 6

/-- OP_GO finds the block busy: READ stages nothing, and waits for no commit (R372, R373). -/
def opBusy (d : Dev) : Bool :=
  if d.get Reg.CTX_CTL_OP = 3 then !d.on Reg.CTX_STS_IN_USE || d.on Reg.CTX_STS_BUSY else d.ctxBusy

/-- OP_GO with the operation OP names. -/
def opGoEff (d : Dev) : Dev × Code :=
  if d.opBusy then (d, .busy)
  else
    let d := d.ctxByLive
    let key := d.ctxBytes Reg.CTX_KEY_KEY 12
    let nkey := d.ctxBytes Reg.CTX_NKEY_NKEY 12
    match d.get Reg.CTX_CTL_OP with
    | 0 =>
      (match d.ctxCreate key (d.ctxBytes Reg.CTX_DATA_DATA 18) with
       | (.ok i, d1) => (d1.opRuns .ok 0 i, .ok)
       | (.error e, d1) => (d1.opRuns e.1 e.2 0, .ok))
    | 1 =>
      (match d.ctxFind key with
       | (.ok x, d1) =>
         if 1024 ≤ d1.ctx.staged.length then (d1.opRuns .busy 4 0, .ok)
         else ((d1.ctxMarkDelete x.1).opRuns .ok 0 x.1, .ok)
       | (.error e, d1) => (d1.opRuns e.1 e.2 0, .ok))
    | 2 =>
      (match d.ctxFind key with
       | (.ok x, d1) =>
         if 1023 ≤ d1.ctx.staged.length then (d1.opRuns .busy 4 0, .ok)
         else match d1.ctxCreate nkey (recState x.2) with
           | (.ok i, d2) => ((d2.ctxMarkDelete x.1).opRuns .ok 0 i, .ok)
           | (.error e, d2) => (d2.opRuns e.1 e.2 0, .ok)
       | (.error e, d1) => (d1.opRuns e.1 e.2 0, .ok))
    | _ =>
      (match d.ctxFind key with
       | (.ok x, d1) =>
         let st := recState x.2
         (((List.range 18).foldl (fun a w => a.set (Reg.CTX_DATA_DATA w) (leAt st (4 * w) 4)) d1).opRuns
           .ok 0 x.1, .ok)
       | (.error e, d1) => (d1.opRuns e.1 e.2 0, .ok))

/-- OP_DONE: the operation completes, and its code, reason and index are recorded (R372). -/
def opDone (d : Dev) : Dev :=
  match d.ctx.op with
  | none => d
  | some (c, reason, idx) =>
    let d1 := (d.setCtx { d.ctx with op := none }).clear Reg.CTX_STS_BUSY
    ((((d1.set Reg.CTX_OPRES_OP_CODE c.num).set Reg.CTX_OPRES_OP_REASON reason).set
      Reg.CTX_OPRES_OP_INDEX idx).raise Reg.CTX_EVT_OP_DONE).cmdDone 0x6800 6 c

/-! ## INIT (R364) -/

/-- The system address of a stored DRAM byte, through the map and the remap entries; none in the stripe
gap's place. -/
def cellSystemAddr (d : Dev) (key : Nat) : Option Nat :=
  let unit := key / 2 ^ 31
  let off := key % 2 ^ 31
  if unit / 8192 ≠ 1 then none
  else
    let k := unit % 8192
    let m := MemUnit.dram k
    let at_ := if off < m.bytes then some off
      else (List.range m.entries).findSome? (fun e =>
        if m.bytes + e * 64 ≤ off ∧ off < m.bytes + e * 64 + 64 ∧ d.on (m.entryValid e) then
          some (d.get (m.entryAddr e) * 64 + off % 64) else none)
    at_.bind (fun o =>
      if !d.stripeMode then some (k * 0x40000000 + o)
      else
        let n := d.stripe.length
        if !d.stripe.contains k then none
        else
          let f := (o / 4096 * n + d.stripe.idxOf k) * 4096 + o % 4096
          some (if f < n * 0x40000000 - 0x38000000 then f else f + (32 - n) * 0x40000000))

/-- The address lies in the context store's range (R362). -/
def inStore (a : Nat) : Bool := decide (0x7C8000000 ≤ a ∧ a < 0x7E8000000)

/-- Every record is zero (R364). -/
def storeWipe (d : Dev) : Dev :=
  { d with
    cells := d.cells.filter (fun e => !((d.cellSystemAddr e.1).any inStore))
    verify := d.verify.filter (fun v => match v.unit with
      | .dram k => !((d.cellSystemAddr (cellKey (.dram k) (d.place v.unit v.addr))).any inStore)
      | _ => true)
    ctxCache := [] }

/-- INIT is refused RETIRED once a retired channel 31 has ended the store in slice mode (R343). -/
def initPre (d : Dev) : Option Code := if !d.stripeMode ∧ d.chRetired 31 then some .retired else none

/-- INIT (R364). The store is not in use until it ends; a commit that was pending ends ABORTED. -/
def initEff (d : Dev) : Dev × Code :=
  if d.on Reg.CTX_STS_BUSY then (d, .busy)
  else if d.failed Reg.CTX_CTL then (d, .targetErr)
  else
    let d1 := if d.ctx.commitDue ∨ d.on Reg.CTX_STS_CLEANUP then
        (d.cmdDone 0x6800 2 .aborted).barrierDone 2 0 .aborted else d
    let d2 := { d1 with ctxCache := [], ctx := { d1.ctx with
      init := some (d.get Reg.CTX_CTL_KEY_BITS), op := none, sweep := false, commitDue := false
      refills := [] } }
    ((((((d2.setStaged []).clear Reg.CTX_STS_IN_USE).clear Reg.CTX_STS_COMMITTED).clear
      Reg.CTX_STS_CLEANUP).raise Reg.CTX_STS_BUSY).cmdStart 0x6800 1, .ok)

/-- INIT_DONE: the records are zero, the key width is the one written, and the hash key is new: a free
value, as is every random number of the security engine (log 3). -/
def initDone (d : Dev) : Dev :=
  match d.ctx.init with
  | none => d
  | some kb =>
    let k := d.freeBelow (2 ^ 128)
    let d1 := k.2.storeWipe
    let d2 := d1.setCtx { d1.ctx with
      init := none, hashKey := k.1
      keyBytes := if kb = 0 then 8 else if kb = 1 then 16 else if kb = 2 then 32 else 48 }
    ((((d2.raise Reg.CTX_STS_IN_USE).clear Reg.CTX_STS_BUSY).clear Reg.CTX_VISIBLE_COUNT).raise
      Reg.CTX_EVT_INIT_DONE).cmdDone 0x6800 1 .ok

/-! ## The commit (R373) -/

/-- COMMIT is accepted in a store in use when no commit is pending, and no cleanup and no sweep runs (R373, R377). -/
def commitEff (d : Dev) : Dev × Code :=
  if !d.on Reg.CTX_STS_IN_USE ∨ d.ctx.commitDue ∨ d.on Reg.CTX_STS_CLEANUP ∨ d.ctx.sweep then (d, .busy)
  else ((d.setCtx { d.ctx with commitDue := true }).cmdStart 0x6800 2, .ok)

/-- The map that a commit brings: ENG_MAP_SHADOW, but for quarters it gives to a retired engine (R377);
a failed ENG_MAP_SHADOW leaves the map (R378). -/
def newEngMap (d : Dev) : Nat :=
  let old := d.get Reg.CTX_STS_ENG_MAP
  let new := d.get Reg.CTX_ENG_MAP_SHADOW
  if d.failed Reg.CTX_ENG_MAP then old
  else (List.range 4).foldl (fun a q =>
    let e := new / 4 ^ q % 4
    a + (if d.bit Reg.CTX_STS_ENG_LIVE e then e else old / 4 ^ q % 4) * 4 ^ q) 0

/-- The raw record at an index: what it holds, without fault handling. -/
def recPeek (d : Dev) (i : Nat) : List Byte :=
  match (d.recRead i).1 with
  | .ok r _ => r
  | .code _ => []

/-- Engine `e` performs every request that it holds, in the order of arrival. -/
def ctxDrain (d : Dev) (e : Fin 4) : Dev :=
  (List.range (d.niSt (160 + e)).served.length).foldl (fun a _ =>
    match (a.ctxHeld e).head? with
    | some p => ctxOperate (lqOp p) e a
    | none => a) d

/-- COMMIT_TAKES_EFFECT: COMMITTED becomes 1 in every engine together, the map takes its shadow, and
cleanup begins. The requests that an engine holds entered it before, and are performed on the old table first
(R26, log 111). -/
def commitTakesEffect (d : Dev) : Dev :=
  if !d.ctx.commitDue then d
  else
    let d := ((List.finRange 4).foldl ctxDrain d).ctxByLive
    let made := d.ctx.staged.countP (fun i => recPend (d.recPeek i) == 1)
    let gone := d.ctx.staged.countP (fun i => recPend (d.recPeek i) == 2)
    let d1 := (d.setCtx { d.ctx with commitDue := false }).set Reg.CTX_STS_ENG_MAP d.newEngMap
    let d2 := ((d1.raise Reg.CTX_STS_COMMITTED).raise Reg.CTX_STS_CLEANUP).raise
      Reg.CTX_EVT_COMMIT_DONE
    let d3 := d2.set Reg.CTX_VISIBLE_COUNT (d2.get Reg.CTX_VISIBLE_COUNT + made - gone)
    let d4 := (d3.cmdDone 0x6800 2 .ok).barrierDone 2 0 .ok
    (List.range 128).foldl (fun a n => lpPump n a) d4

/-- A record is freed: LIFE free, KEY and state cleared, the bucket's digest cleared, and SPILL of its
first-choice bucket decremented when it lies in its second (R373). -/
def recFree (d : Dev) (i : Nat) (r : List Byte) : Dev :=
  let h := d.keyHash (recKey r)
  let d1 := d.bucketStore (i / 4) (fun x => recSetDig x (i % 4) 0)
  let d2 := d1.recStore i 7 (leBytes 121 0)
  if i / 4 = h.b0 then d2
  else d2.bucketStore h.b0 (fun x =>
    if recSpill x = 255 ∨ recSpill x = 0 then x else recSetSpill x (recSpill x - 1))

/-- One staged record is settled: `keep` is the PEND that becomes none, and the other's record is
freed. -/
def recSettle (keep : Nat) (d : Dev) (i : Nat) : Dev :=
  match d.recRead i with
  | (.ok r _, d1) =>
    if recPend r = keep then d1.recStore i 7 (leBytes 1 (recLife r))
    else if recPend r = 0 then d1
    else d1.recFree i r
  | (.code _, d1) => d1

/-- CLEANUP_DONE: each staged record is rewritten, COMMITTED returns to 0 and the list clears. -/
def cleanupDone (d : Dev) : Dev :=
  if !d.on Reg.CTX_STS_CLEANUP then d
  else
    let d := d.ctxByLive
    let d1 := d.ctx.staged.foldl (recSettle 1) d
    (((d1.setStaged []).clear Reg.CTX_STS_COMMITTED).clear Reg.CTX_STS_CLEANUP).raise
      Reg.CTX_EVT_CLEANUP_DONE

/-- Every staged change is undone (R373): a pending create becomes free, a pending delete none. -/
def ctxUndo (d : Dev) : Dev := (d.ctx.staged.foldl (recSettle 2) d.ctxByLive).setStaged []

/-- DISCARD. -/
def discardEffCtx (d : Dev) : Dev × Code := if d.ctxBusy then (d, .busy) else (d.ctxUndo, .ok)

/-- A reset of the management processor or plane discards what is staged (R23); a commit in force goes
on to its cleanup. -/
def ctxResetDiscard (d : Dev) : Dev :=
  if !d.on Reg.CTX_STS_IN_USE ∨ d.ctx.commitDue ∨ d.on Reg.CTX_STS_CLEANUP then d
  else
    let d1 := if d.ctx.sweep then
        (((d.setCtx { d.ctx with sweep := false }).clear Reg.CTX_STS_BUSY).raise
          Reg.CTX_EVT_SWEEP_DONE).cmdDone 0x6800 4 .aborted
      else d
    d1.ctxUndo

/-! ## Sweeps (R374) -/

/-- SWEEP is accepted only while nothing is staged. -/
def sweepEff (d : Dev) : Dev × Code :=
  if d.ctxBusy ∨ d.ctx.staged ≠ [] then (d, .busy)
  else (((d.setCtx { d.ctx with sweep := true }).raise Reg.CTX_STS_BUSY).cmdStart 0x6800 4, .ok)

/-- The records of which a byte is stored: every live record is among them. -/
def storedRecords (d : Dev) : List Nat :=
  ((d.cells.filterMap (fun e => (d.cellSystemAddr e.1).bind (fun a =>
    if inStore a then some ((a - 0x7C8000000) / 128) else none))).dedup).mergeSort

/-- The selector of the sweep holds for a visible record. -/
def sweepMatch (d : Dev) (r : List Byte) : Bool :=
  match d.ctl Reg.CTX_CTL_SEL with
  | 1 => d.ctl Reg.CTX_AGE_AGE_MS ≤ (d.ctxTime + 2 ^ 32 - leAt r 56 4) % 2 ^ 32
  | 2 =>
    let val := d.ctl (Reg.CTX_MATCH_VAL_WORD 1) * 2 ^ 32 + d.ctl (Reg.CTX_MATCH_VAL_WORD 0)
    let mask := d.ctl (Reg.CTX_MATCH_MASK_WORD 1) * 2 ^ 32 + d.ctl (Reg.CTX_MATCH_MASK_WORD 0)
    leAt r 80 8 &&& mask == val
  | _ => true

/-- SWEEP_DONE: every record has been scanned: matches are counted, and staged for deletion unless
REPORT_ONLY. -/
def sweepDone (d : Dev) : Dev :=
  if !d.ctx.sweep then d
  else
    let d := d.ctxByLive
    let scan := d.storedRecords.foldl (fun (acc : List Nat × Dev) i =>
      match acc.2.recRead i with
      | (.ok r _, d1) =>
        if recLife r = 1 ∧ d1.visible r ∧ d1.sweepMatch r then (acc.1 ++ [i], d1) else (acc.1, d1)
      | (.code _, d1) => (acc.1, d1)) ([], d)
    let d1 := if d.ctlOn Reg.CTX_CTL_REPORT_ONLY then scan.2
      else
        let d' := scan.1.foldl (fun a i => a.recStore i 7 (leBytes 1 (1 + 4 * 2))) scan.2
        d'.setStaged scan.1
    ((((d1.setCtx { d1.ctx with sweep := false }).clear Reg.CTX_STS_BUSY).set Reg.CTX_SWEEP_RES_COUNT
      scan.1.length).raise Reg.CTX_EVT_SWEEP_DONE).cmdDone 0x6800 4 .ok

/-- ABORT stops a sweep, which has staged nothing yet; a later abort is LATE (R374, R89). Without a store in use it is
BUSY as every control operation is (R364). -/
def ctxAbortEff (d : Dev) : Dev × Code :=
  if d.ctx.sweep then
    ((((d.setCtx { d.ctx with sweep := false }).clear Reg.CTX_STS_BUSY).raise
      Reg.CTX_EVT_SWEEP_DONE).cmdDone 0x6800 4 .aborted, .ok)
  else if !d.on Reg.CTX_STS_IN_USE then (d, .busy)
  else (d.cmdLate 0x6800 4, .ok)

/-! ## Engine retirement (R375) -/

/-- Engine `e` is retired: its requests are answered RETIRED, and its quarters move to the next engine
that is not retired; without one the context cache is powered off and its contents are lost (R403). -/
def engineRetire (d : Dev) (e : Nat) : Dev :=
  if !d.bit Reg.CTX_STS_ENG_LIVE e then d
  else
    let d1 := (d.setMask Reg.CTX_STS_ENG_LIVE e false).raise Reg.CTX_EVT_ENG_RETIRED
    let next := ((List.range 4).map (fun k => (e + k) % 4)).find? (fun x => d1.bit Reg.CTX_STS_ENG_LIVE x)
    let old := d1.get Reg.CTX_STS_ENG_MAP
    let map := (List.range 4).foldl (fun a q =>
      let x := old / 4 ^ q % 4
      a + (if x = e then next.getD e else x) * 4 ^ q) 0
    let i := 160 + e
    let held := (d1.niSt i).served
    let lo := cellKey (.hs 1) 0
    let d0 : Dev := if next.isSome then d1 else
      { d1 with ctxCache := []
                cells := SMap.only (fun k => !(decide (lo ≤ k ∧ k < lo + 2 ^ 31))) d1.cells
                verify := d1.verify.filter (fun v => v.unit != .hs 1) }
    let d2 := (d0.set Reg.CTX_STS_ENG_MAP map).setNi i { d1.niSt i with served := [], ready := [] }
    let d3 := held.foldl (fun a p => a.answerReq i p .retired) d2
    (List.range 128).foldl (fun a n => lpPump n a) d3

/-- A write of ENG_RETIRE: each set bit retires its engine. Engines that are all retired already answer
RETIRED (R44). -/
def engRetireEff (mask : Nat) (d : Dev) : Dev × Code :=
  (((List.range 4).foldl (fun a e => if mask.testBit e then a.engineRetire e else a) d).cmdDone 0x6803 2
    .ok, .ok)

/-- ENGINE_MISMATCH: an engine's two copies disagree, and it is retired. -/
def engineMismatch (e : Fin 4) (d : Dev) : Dev := d.engineRetire e.val

/-- A data-plane reset clears IN_USE and the cache (R364, R487). -/
def ctxReset (d : Dev) : Dev :=
  let d1 := if d.ctx.commitDue then (d.cmdDone 0x6800 2 .aborted).barrierDone 2 0 .aborted else d
  let d2 := { d1 with ctxCache := [], ctx := { d1.ctx with
    op := none, init := none, sweep := false, commitDue := false, refills := [], held := [] } }
  (((((d2.setStaged []).clear Reg.CTX_STS_IN_USE).clear Reg.CTX_STS_COMMITTED).clear
    Reg.CTX_STS_CLEANUP).clear Reg.CTX_STS_BUSY).clear Reg.CTX_VISIBLE_COUNT

/-- A response reaches NI `i`; a lookup port may send what it has held (R367). -/
def rspToPort (i : Fin 170) (taken : Nat) (d : Dev) : Dev := lpPump i.val (d.rspArrive i taken)

/-- A request of NI `i` times out; a lookup port may send what it has held. -/
def timeoutToPort (i : Fin 170) (tag : Fin 4096) (d : Dev) : Dev := lpPump i.val (d.niTimeout i tag)

end Dev

end Sys2Proof.Machine
end

