-- ==== Sys2Proof/Machine/Loader.lean ====
section
/-! DEFINITION. Configuration streams (R235 to R256): LOAD and HLOAD, the header, the segments and
their blocks, the start-up loader with its four sources, and the network attempt. -/

namespace Sys2Proof.Machine

/-! ## The header (R237, R238, R247) -/

/-- Segments of a stream, and where segment `i` starts, its ciphertext length and its IV. -/
def segCount (h : List Byte) : Nat := leAt h 25 1
def segOffset (h : List Byte) (i : Nat) : Nat := leAt h (512 + 32 * i) 8
def segLength (h : List Byte) (i : Nat) : Nat := leAt h (512 + 32 * i + 8) 4
def segIv (h : List Byte) (i : Nat) : List Byte := bytesAt h (512 + 32 * i + 12) 12

/-- The stream's length, its owner slot, its key mode and whether that rolls. -/
def streamLen (h : List Byte) : Nat := leAt h 32 8
def ownerSlot (h : List Byte) : Nat := leAt h 23 1
def keyMode (h : List Byte) : Nat := leAt h 24 1
def rolling (h : List Byte) : Bool := keyMode h == 0x11 || keyMode h == 0x12

/-- OWNER_KEY. -/
def ownerKey (h : List Byte) : List Byte := bytesAt h 128 133

/-- Check 11: the segment table is consistent under R236, R238 and R244. -/
def tableHolds (h : List Byte) : Bool :=
  let n := segCount h
  let ends := fun i => segOffset h i + segLength h i + 16
  1 ≤ n && n ≤ 112 && segOffset h 0 == 4096
    && (List.range n).all (fun i =>
      32 ≤ segLength h i && segLength h i ≤ 67108864 && segLength h i % 16 == 0
        && (i == 0 || segOffset h i == ends (i - 1)))
    && streamLen h == ends (n - 1) + 256
    && (rolling h || decide ((List.range n).map (segIv h)).Nodup)

namespace Dev

/-- Slot `k` is programmed, is revoked. -/
def slotProgrammed (d : Dev) (k : Nat) : Bool := d.bit Reg.SEC_KEY_STS_SLOT_PROG k
def slotRevoked (d : Dev) (k : Nat) : Bool := d.bit Reg.SEC_KEY_STS_SLOT_REVOKED k

/-- Check 10: KEY_MODE is listed, its base key is held, and a REGION stream does not roll (R243). -/
def keyModeHolds (d : Dev) (h : List Byte) (kind : Nat) : Bool :=
  let m := keyMode h
  (m == 0x01 || m == 0x02 || (kind != 2 && (m == 0x11 || m == 0x12)))
    && (if m % 16 = 1 then d.on Reg.SEC_KEY_STS_FUSE_KEY else d.on Reg.SEC_KEY_STS_BBRAM_KEY)

/-- The first check of R247 that a header fails, as its cause. `given`: the length of a DRAM source. -/
def headerCheck (d : Dev) (h : List Byte) (kind region : Nat) (given : Option Nat) : Option Nat :=
  let idmask := leAt h 16 4
  let step := leAt h 22 1
  let k := ownerSlot h
  if bytesAt h 0 8 ≠ [0x57, 0x45, 0x41, 0x5A, 0x46, 0x48, 0x5A, 0x39] then some 0x01
  else if leAt h 8 2 ≠ 1 then some 0x02
  else if idmask % 2 ^ 28 ≠ 2 ^ 28 - 1
      ∨ ((d.get Reg.DEV_IDCODE_IDCODE ^^^ leAt h 12 4) &&& idmask) ≠ 0 then some 0x03
  else if 1 < step ∨ leAt h 20 1 ≠ d.get Reg.DEV_STEP_STEP_LETTER
      ∨ (step = 0 ∧ leAt h 21 1 ≠ d.get Reg.DEV_STEP_STEP_DIGIT) then some 0x04
  else if leAt h 10 1 ≠ kind then some 0x05
  else if kind = 2 ∧ leAt h 11 1 ≠ bit01 (isEdge region) then some 0x06
  else if 3 < k ∨ (!d.slotProgrammed k ∧ !d.slotRevoked k) then some 0x07
  else if d.slotRevoked k then some 0x08
  else if (p521Point (ownerKey h)).isNone
      ∨ sha512 (ownerKey h) ≠ SMap.get [] d.keys.slots k then some 0x09
  else if !d.keyModeHolds h kind then some 0x0A
  else if !tableHolds h then some 0x0B
  else match given with
    | some n => if n < streamLen h then some 0x0C else none
    | none => none

/-- The base key of a stream (R243). -/
def baseKey (d : Dev) (h : List Byte) : List Byte :=
  if keyMode h % 16 = 1 then d.keys.fuseKey else d.keys.bbram

/-- The header of the load in progress is checked: the load goes on with its first segment, or fails. -/
def takeHeader (d : Dev) (h : List Byte) (given : Option Nat) : Dev :=
  match d.load with
  | none => d
  | some l =>
    match d.headerCheck h l.kind l.region given with
    | some c => d.loadFail c 0xFE
    | none => { d with load := some { l with header := h, key := d.baseKey h, got := h } }

/-! ## Sources -/

/-- The code with which a DRAM range answers a read of the configuration controller, at NI 165. -/
def configRead (d : Dev) (a n : Nat) : Code := d.rangeCode 165 false a n

/-- `n` stream bytes from byte `pos` of the load's source: the bytes; those before the end of the stream or before
a read that fails, with the cause and the code with which the load fails there; or nothing while a network source
has not delivered them. -/
inductive Fetched where
  | wait
  | part (bs : List Byte) (cause : Nat) (code : Code)
  | bytes (bs : List Byte)
deriving DecidableEq, Repr

/-- The bytes from position `pos`, up to `n` of them, as far as pieces of the stream hold them without a gap. -/
def arrivedFrom (chunks : List (Nat × List Byte)) : Nat → Nat → Nat → List Byte
  | 0, _, _ => []
  | fuel + 1, pos, n =>
    if n = 0 then []
    else match chunks.find? (fun c => c.1 ≤ pos && pos < c.1 + c.2.length) with
      | none => []
      | some c =>
        let bs := (c.2.drop (pos - c.1)).take n
        bs ++ arrivedFrom chunks fuel (pos + bs.length) (n - bs.length)

/-- How many of the `n` bytes at DRAM address `a` the configuration controller can read before a read of 16
bytes is answered other than OK, and that answer. -/
def configSpan (d : Dev) (a n : Nat) : Nat × Code :=
  let c := d.configRead a n
  if c = .ok then (n, .ok)
  else match (List.range ((n + 15) / 16)).find? (fun i => d.configRead (a + 16 * i) 16 ≠ .ok) with
    | some i => (16 * i, d.configRead (a + 16 * i) 16)
    | none => (0, c)

/-- The fetch of `n` bytes at `pos` for the load in progress. `ext`: what the xSPI flash holds, by address; a
read of it that finds nothing there passes its last address (R251). -/
def fetch (d : Dev) (src : LoadSrc) (pos n : Nat) (ext : List (Nat × List Byte)) : Fetched × Dev :=
  match src with
  | .dram base =>
    let s := d.configSpan (base + pos) n
    let r := d.readDram (base + pos) s.1
    let bs := (r.1.takeWhile (fun b => !b.2)).map (·.1)
    if bs.length < s.1 then (.part bs 0x13 .poison, r.2)
    else if s.2 ≠ .ok then (.part bs 0x13 s.2, r.2) else (.bytes bs, r.2)
  | .flash _ base =>
    let bs := arrivedFrom ext (ext.length + 1) (base + pos) n
    if bs.length < n then (.part bs 0x0F .ok, d) else (.bytes bs, d)
  | .network =>
    let bs := arrivedFrom d.boot.arrived (d.boot.arrived.length + 1) pos n
    if bs.length = n then (.bytes bs, d)
    else match d.boot.finish with
      | some e => if e ≤ pos + n - 1 then (.part bs 0x0F .ok, d) else (.wait, d)
      | none => (.wait, d)

/-! ## LOAD and HLOAD -/

/-- A load of a kind begins: CFG_LOAD_STS shows it running. -/
def loadBegin (d : Dev) (l : LoadSt) : Dev :=
  let d1 := ({ d with load := some l }.raise Reg.CFG_LOAD_STS_BUSY).set Reg.CFG_LOAD_STS_KIND l.kind
  if l.kind = 2 then d1.set Reg.CFG_LOAD_STS_REGION l.region else d1

/-- The header of a stream in DRAM is read and checked. -/
def dramHeader (d : Dev) (base given : Nat) : Dev :=
  match d.fetch (.dram base) 0 4096 [] with
  | (.bytes h, d1) => d1.takeHeader h (some given)
  | (.part _ c code, d1) => d1.loadFail c 0xFE code
  | (.wait, d1) => d1

/-- A stream address a load accepts (R218, R521). -/
def streamAddrOk (a : Nat) : Bool := decide (a < 0x800000000) && a % 64 == 0

/-- LOAD (R218). -/
def loadEff (n : Region) (d : Dev) : Dev × Code :=
  let a := d.get (Reg.RGN_SRC_HI_SRC n) * 2 ^ 32 + d.get (Reg.RGN_SRC_LO_SRC n)
  if d.load.isSome ∨ d.rstate n.val = rsSwapping then (d, .busy)
  else if !streamAddrOk a then (d, .targetErr)
  else
    let d1 := ((d.shadowEmpty n.val).set (Reg.RGN_STS_SHADOW n) ssLoading).cmdStart (0x3800 + n) 1
    ((((d1.loadBegin { kind := 2, src := .dram a, region := n.val, touched := [n.val] }).dramHeader a
      (d.get (Reg.RGN_LEN_LEN n))).showScrub), .ok)

/-- HLOAD (R521). -/
def hloadEff (d : Dev) : Dev × Code :=
  let a := d.get Reg.CFG_HSRC_HI_SRC * 2 ^ 32 + d.get Reg.CFG_HSRC_LO_SRC
  if d.load.isSome then (d, .busy)
  else if !streamAddrOk a then (d, .targetErr)
  else
    (((d.cmdStart 0x3012 1).loadBegin { kind := 3, src := .dram a }).dramHeader a
      (d.get Reg.CFG_HLEN_LEN), .ok)

/-- HABORT (R260, R89). -/
def habortEff (d : Dev) : Dev × Code :=
  match d.load with
  | some l => if l.kind = 3 then (d.loadFail 0x12 l.place, .ok) else (d.cmdLate 0x3012 1, .ok)
  | none => (d.cmdLate 0x3012 1, .ok)

/-! ## Blocks (R240, R241, R248, R250) -/

/-- The checks of a region record, frame 3,584 of region `n` (R218, R248): its cause when one fails. -/
def regionRecord (kind n data : Nat) : Option Nat :=
  let rclk := data % 64
  let rck := data / 2 ^ (16 + 8 * (rclk - 32)) % 4
  if kind = 1 ∧ data / 64 % 2 ≠ bit01 (isEdge n) then some 0x06
  else if rclk < 32 ∨ (40 ≤ rclk ∧ rclk < 44) then none
  else if 32 ≤ rclk ∧ rclk < 40 ∧ (rck = 3 ∨ (rck = 2 ∧ isEdge n)) then none
  else some 0x11

/-- Frame 3,588 enables a heritage cell, and region `n` is an edge region without heritage pins (R140).
In a core region the I/O records are reserved. -/
def heritageRefused (n data : Nat) : Bool :=
  isEdge n && n != 64 && n != 79 && (List.range 24).any (fun c =>
    let m := data / 2 ^ (2048 + 32 * (24 + c)) % 8
    1 ≤ m && m ≤ 4)

/-- What a block does to the load and the device: the new state, and where it fails the cause and the device
frame. -/
inductive BlockResult where
  | good (l : LoadSt) (d : Dev)
  | fail (cause : Nat) (frame : Option Nat) (l : LoadSt) (d : Dev)

/-- One frame of a region block: written into the shadow plane with its check bits (R218, R240). -/
def writeFrame (n f : Nat) (bs : List Byte) : BlockResult → BlockResult
  | .fail c x l d => .fail c x l d
  | .good l d =>
    let data := ofLe bs
    let seen := SMap.get 0 l.seen n
    if seen.testBit f then .fail 0x0B (some (n * 5120 + f)) l d
    else
      match (if f = 3584 then regionRecord l.kind n data
        else if f = 3588 ∧ heritageRefused n data then some 0x15 else none) with
      | some c => .fail c none l d
      | none =>
        .good { l with seen := SMap.put 0 l.seen n (seen + 2 ^ f) }
          (d.setFrame n (1 - d.activePlane n) f (encodeFrame (n * 5120 + f) data))

/-- A block of `count` frames for region `n`, from frame `first`, of which `data` holds the frames that are there.
A region that a FULL load names is LOADING from its first block on. -/
def regionBlock (n first count : Nat) (data : List Byte) (l : LoadSt) (d : Dev) : BlockResult :=
  if count = 0 ∨ 5120 < first + count then .fail 0x0B none l d
  else if d.rstate n = rsRetired then .fail 0x12 none l d
  else
    let start := if l.touched.contains n then BlockResult.good l d
      else .good { l with touched := l.touched ++ [n] }
        ((d.shadowEmpty n).set (Reg.RGN_STS_SHADOW n) ssLoading)
    (List.range (data.length / 512)).foldl
      (fun r i => writeFrame n (first + i) (bytesAt data (512 * i) 512) r) start

/-- A preset entry breaks R250: its USE, or in use a bad offset, a register marked internal, or a
register that no stream writes. -/
def entryRefused (block : Nat) (e : List Byte) : Bool :=
  let off := block * 0x10000 + leAt e 0 2
  let use := leAt e 2 1
  1 < use || (use == 1 && (leAt e 0 2 % 4 != 0
    || (match regAt off with | some r => r.ix == 0 | none => false)
    || off == Reg.UNLOCK_KEY || off == Reg.SNAP_CTL || off == Reg.RST_CTL || off == Reg.CFG_CTL))

/-- A block of `count` hard-block record units (R250), of which `data` holds those that are there. -/
def hardBlock (h first count : Nat) (data : List Byte) (l : LoadSt) (d : Dev) : BlockResult :=
  let us := (List.range (data.length / 512)).map (fun i => HardUnit.mk h (first + i) (bytesAt data (512 * i) 512))
  if count = 0 ∨ (0x10 < h ∨ h = 0x0E) ∨ (h = 0x10 ∧ (first ≠ 0 ∨ count ≠ 1)) then .fail 0x0B none l d
  else if 512 < l.units.length + count
      ∨ us.any (fun u => l.units.any (fun v => v.block == u.block && v.unit == u.unit)) then
    .fail 0x0B none l d
  else if h ≠ 0x10 ∧ us.any (fun u =>
      (List.range 64).any (fun k => entryRefused h (bytesAt u.bytes (8 * k) 8))) then .fail 0x0B none l d
  else .good { l with units := l.units ++ us } d

/-- The blocks of a segment's plaintext, one after another (R240). `cut`: the source ends with this plaintext, and
the frames of its last block that are whole are written. -/
def processBlocks (cut : Bool) : Nat → List Byte → LoadSt → Dev → BlockResult
  | 0, _, l, d => .good l d
  | fuel + 1, pt, l, d =>
    if pt = [] ∨ (cut = true ∧ pt.length < 16) then .good l d
    else
      let target := leAt pt 0 2
      let first := leAt pt 2 2
      let count := leAt pt 4 2
      let data := (pt.drop 16).take (512 * count)
      if target = 0xFFFF then .good l d
      else if count = 0 ∨ (!cut ∧ data.length < 512 * count) then .fail 0x0B none l d
      else
        let r :=
          if target < 0x80 ∧ l.kind = 1 then regionBlock target first count data l d
          else if target = 0xFF ∧ l.kind = 2 then regionBlock l.region first count data l d
          else if 0x100 ≤ target ∧ target < 0x200 ∧ l.kind ≠ 2 then
            hardBlock (target - 0x100) first count data l d
          else .fail 0x0B none l d
        match r with
        | .fail c x l' d' => .fail c x l' d'
        | .good l' d' => processBlocks cut fuel (pt.drop (16 + 512 * count)) l' d'

/-- The segment that a load is at carries the key of the next one (R244). -/
def carriesKey (l : LoadSt) : Bool := rolling l.header && decide (l.seg + 1 ≠ segCount l.header)

/-- The blocks of the ciphertext `text` of the segment that the load is at are written as they decrypt (R248). -/
def takeBlocks (d : Dev) (cut : Bool) (l : LoadSt) (text : List Byte) : BlockResult :=
  let n := segLength l.header l.seg
  let plain := gcmText l.key (segIv l.header l.seg) text
  processBlocks cut (n / 16 + 1) (if carriesKey l then plain.take (n - 32) else plain) l d

/-- The load's source ends with the bytes `bs` of the segment that it is at, or fails there: the blocks in them
are written, and the load fails with the first fault found in them, or else with the source's cause (R248,
R251). -/
def loadCut (d : Dev) (bs : List Byte) (cause : Nat) (code : Code) : Dev :=
  match d.load with
  | none => d
  | some l =>
    if l.header = [] ∨ segCount l.header ≤ l.seg then d.loadFail cause l.place code
    else match d.takeBlocks true l (bs.take (segLength l.header l.seg)) with
      | .fail c x l' d' => ({ d' with load := some l' }).loadFail c l.seg .targetErr x
      | .good l' d' => ({ d' with load := some l' }).loadFail cause l.seg code

/-- SEGMENT_PROCESS: the next segment of the load, once its data is there (R239, R244, R248): its blocks
are written as they decrypt, and its tag is checked. `ext`: what the xSPI flash holds, by address. -/
def segmentProcess (ext : List (Nat × List Byte)) (d : Dev) : Dev :=
  match d.load with
  | none => d
  | some l =>
    if l.header = [] ∨ segCount l.header ≤ l.seg then d
    else
      let n := segLength l.header l.seg
      match d.fetch l.src (segOffset l.header l.seg) (n + 16) ext with
      | (.wait, d1) => d1
      | (.part bs c code, d1) => d1.loadCut bs c code
      | (.bytes bs, d1) =>
        let iv := segIv l.header l.seg
        let text := bs.take n
        match d1.takeBlocks false l text with
        | .fail c x l' d2 => ({ d2 with load := some l' }).loadFail c l.seg .targetErr x
        | .good l' d2 =>
          if bs.drop n ≠ gcmTag l.key iv (l.header ++ leBytes 4 l.seg) text then
            ({ d2 with load := some l' }).loadFail 0x0D l.seg
          else
            { d2 with load := some { l' with
                seg := l.seg + 1, got := l'.got ++ bs
                key := if carriesKey l then (gcmText l.key iv text).drop (n - 32) else l.key } }

/-! ## The final checks (R249) -/

/-- The frames that an image must hold are all written: the first that is missing, if any. -/
def missingFrame (l : LoadSt) : Option Nat :=
  l.touched.findSome? (fun n =>
    ((List.range 5120).find? (fun f => !(SMap.get 0 l.seen n).testBit f)).map (n * 5120 + ·))

/-- The frame that holds the second enabled tap of a trunk of plane `p` of region `n`, the lowest such
frame over its trunks (R126). -/
def contention (d : Dev) (n p : Nat) : Option Nat :=
  let second := (List.range 512).filterMap (fun t =>
    let fs := (List.range 64).filterMap (fun a =>
      let i := if t < 256 then (t / 4) * 64 + a else a * 64 + (t - 256) / 4
      let b := i * 2048 + 968 + 976 + 7 * (if t < 256 then t % 4 else 4 + t % 4)
      if d.cfgAt n p 1536 b 1 = 1 then some (1536 + b / 4096) else none)
    (fs.mergeSort)[1]?)
  second.min?

/-- The seal, 256 bytes after the last tag, holds (R242): its magic, its digest and its signature over
every byte before it. -/
def sealHolds (l : LoadSt) (bs : List Byte) : Bool :=
  decide (bytesAt bs 0 8 = [0x57, 0x45, 0x41, 0x5A, 0x53, 0x45, 0x41, 0x4C])
    && decide (bytesAt bs 8 64 = sha512 l.got)
    && p521Verify (ownerKey l.header) l.got (ofBe (bytesAt bs 72 66)) (ofBe (bytesAt bs 138 66))

/-- What the final checks find: a cause with the segment and the frame it records, or none. -/
def finalChecks (d : Dev) (l : LoadSt) (bs : List Byte) : Option (Nat × Option Nat) :=
  if d.slotRevoked (ownerSlot l.header) then some (0x08, none)
  else if !sealHolds l bs then some (0x0E, none)
  else match missingFrame l with
    | some f => some (0x0B, some f)
    | none =>
      (l.touched.findSome? (fun n =>
        (d.contention n (1 - d.activePlane n)).map (n * 5120 + ·))).map (fun f => (0x10, some f))

/-- A plane becomes VERIFIED with its digest and what is recorded with it (R217, R249). -/
def planeVerified (d : Dev) (n : Nat) (info : PlaneInfo) : Dev :=
  let p := 1 - d.activePlane n
  let d1 := ((d.set (Reg.RGN_STS_SHADOW n) ssVerified).setDigest Reg.SHADOW_DIGEST_DIGEST n
    (d.planeDigest n p)).raise (Reg.RGN_EVT_LOADED n)
  ({ d1 with planes := SMap.put {} d1.planes (2 * n + p) info }.set (Reg.RGN_STS_LOAD_CODE n) 0).showScrub

/-- The load has passed: its planes are VERIFIED together (R249). The hard-block records are the
caller's. -/
def loadVerified (d : Dev) (l : LoadSt) : Dev :=
  let info : PlaneInfo := ⟨ownerSlot l.header, leAt l.header 28 4⟩
  let d1 := l.touched.foldl (fun a n => a.planeVerified n info) { d with load := none }
  let d2 := if l.kind = 2 then (d1.cmdDone (0x3800 + l.region) 1 .ok).rgnEnded l.region 1
    else if l.kind = 3 then d1.cmdDone 0x3012 1 .ok else d1
  ((((d2.set Reg.CFG_LOAD_STS_CAUSE 0).set Reg.CFG_LOAD_STS_SEGMENT 0).clear
    Reg.CFG_LOAD_STS_BUSY).clear Reg.CFG_LOAD_FRAME_VALID).raise Reg.CFG_EVT_LOAD_DONE

/-! ## The start-up loader (R254 to R256) -/

/-- The device with the loader's state replaced. -/
def setBoot (d : Dev) (x : BootSt) : Dev := { d with boot := x }

/-- INITN's level at the pin: low while the device or the board drives it (R484, R491). -/
def showInitn (d : Dev) : Dev :=
  d.setBit Reg.START_STS_INITN_PIN (!d.start.initnHeld && !d.drivesLow 5 d.start.initnDriven)

/-- INITN_SAMPLE: before an attempt the loader samples INITN: while the board holds it low the attempt
does not start (R484). -/
def initnSample (boardLow : Bool) (d : Dev) : Dev :=
  let b := d.boot
  if !b.running ∨ !b.due ∨ d.load.isSome then d
  else
    let d1 := ({ d with start := { d.start with initnHeld := boardLow } }).showInitn
    if boardLow then
      let d2 := d1.setBoot { b with sampled := false }
      if d2.on Reg.START_STS_INITN_HELD then d2
      else (d2.raise Reg.START_STS_INITN_HELD).raise Reg.RST_EVT_INITN_WAIT
    else (d1.setBoot { b with sampled := true }).clear Reg.START_STS_INITN_HELD

/-- The source of the next attempt (R254): the first from `k` upward, wrapping, whose bit is set. -/
def nextSource (d : Dev) (k : Nat) : Option Nat :=
  ((List.range 4).map (fun i => (k + i) % 4)).find? (fun s =>
    (d.ctl Reg.CFG_CTL_SRC_EN).testBit s)

/-- The start-up release (R485): the clock gates open, and in the next cycle a SWAP is accepted for every
region that the load made VERIFIED. -/
def startupRelease (d : Dev) : Dev :=
  let d1 := (List.range 128).foldl (fun a n => a.setRgn n { a.rgnSt n with gateOpen := true }) d
  let d2 := d1.start.releaseSet.foldl (fun a n =>
    if a.sstate n.val = ssVerified ∧ a.rstate n.val = rsEmpty then a.swapAccept n.val true
    else { a with start := { a.start with releaseSet := a.start.releaseSet.filter (· != n) } }) d1
  ({ d2 with start := { d2.start with released := true, waitDone := false } }).startDone

/-- An attempt passes (R256): it is counted, BOOT_DONE is set, and step 7 begins (R485). With DONE_WAIT
the device releases DONE and waits for the pin. -/
def attemptPass (d : Dev) (regions : List Nat) : Dev :=
  let b := d.boot
  let wait := d.ctlOn Reg.RST_CTL_DONE_WAIT && !d.safe Reg.RST_CTL
  let d1 := d.setBoot { b with running := false, due := false, backoff := false, failures := 0
                               server := none, out := [], arrived := [], finish := none, gaps := [] }
  let d2 := (((d1.count Reg.CFG_BOOT_ATTEMPTS_ATTEMPTS).raise Reg.CFG_EVT_BOOT_DONE).set
    Reg.CFG_BOOT_STS_LAST_CAUSE 0).clear Reg.CFG_BOOT_STS_ACTIVE
  let d3 := ((d2.clear Reg.CFG_BOOT_WAIT_WAIT_MS).set Reg.START_STS_STEP 7).clear
    Reg.START_STS_DP_BUSY
  let set := (List.finRange 128).filter (fun n => regions.contains n.val)
  let d4 := { d3 with start := { d3.start with
    releaseSet := set, released := false, doneWait := wait, waitDone := wait
    doneDriven := !wait && d3.start.doneDriven } }
  if wait then d4 else d4.startupRelease

/-- An attempt on the golden store (R255): whole or nothing. Frames, class by class, come from the
entries of the regions that were ACTIVE at the reset. -/
def goldenRestore (d : Dev) : Option Dev :=
  let rs := d.boot.wasActive
  if !d.on Reg.SCRUB_STS_GOLDEN_USABLE ∨ rs = [] ∨ rs.any (fun n => !d.goldenValid n) then none
  else
    let step := fun (acc : Option Dev) (e : Nat × Nat) => acc.bind (fun a =>
      match a.goldenRead e.1 e.2 with
      | (some bs, a1) =>
        some (a1.setFrame e.1 (1 - a1.activePlane e.1) e.2 (encodeFrame (e.1 * 5120 + e.2) (ofLe bs)))
      | (none, _) => none)
    let start := rs.foldl (fun a n => a.clearPlane n (1 - a.activePlane n)) d
    ((rs.flatMap (fun n => (List.range 5120).map (fun f => (n, f)))).foldl step (some start)).map
      (fun a => rs.foldl (fun a n => a.planeVerified n (SMap.get {} a.scrub.infos n)) a)

/-- The attempt fails at once with cause SOURCE (R255). -/
def attemptSource (d : Dev) : Dev :=
  (d.loadBegin { kind := 1, src := .network }).loadFail 0x13 0xFE .noTarget

/-- STARTUP_LOADER_ATTEMPT: an attempt begins on the next enabled source (R254, R255). `ext`: what the xSPI flash
holds, by address, none where no flash answers; the stream starts at byte CFG_XSPI_OFFSET. An attempt on
the flash waits for an xSPI command of the MP that runs (R444). -/
def startupLoaderAttempt (ext : Option (List (Nat × List Byte))) (d : Dev) : Dev :=
  let b := d.boot
  let from_ := match b.last with
    | some k => (k + 1) % 4
    | none => d.get Reg.START_STS_CFGSRC % 4
  let waits := (SMap.get {} d.serial 10).busy && (d.nextSource from_).any (fun k => k < 2)
  if !b.running ∨ !b.due ∨ !b.sampled ∨ d.load.isSome ∨ waits then d
  else
    let d1 := d.setBoot { b with
      due := false, sampled := false, server := none, next := 0, out := [], arrived := []
      finish := none, gaps := [], linkWait := false }
    let d2 := ({ d1 with start := { d1.start with initnDriven := false } }.raise
      Reg.CFG_BOOT_STS_ACTIVE).clear Reg.CFG_BOOT_WAIT_WAIT_MS
    let d2 := d2.showInitn
    match d2.nextSource from_ with
    | none => d2.attemptSource
    | some k =>
      let d3 := (d2.setBoot { d2.boot with last := some k }).set Reg.CFG_BOOT_STS_SOURCE k
      if k < 2 then
        match ext with
        | none => d3.attemptSource
        | some x =>
          let src := LoadSrc.flash k (4096 * d3.ctl Reg.CFG_XSPI_OFFSET_OFFSET)
          match (d3.loadBegin { kind := 1, src := src }).fetch src 0 4096 x with
          | (.bytes h, d4) => d4.takeHeader h none
          | (.part _ c code, d4) => d4.loadFail c 0xFE code
          | (.wait, d4) => d4
      else if k = 2 then
        match d3.goldenRestore with
        | none => d3.attemptSource
        | some d4 =>
          (((d4.set Reg.CFG_LOAD_STS_CAUSE 0).set Reg.CFG_LOAD_STS_KIND 1).raise
            Reg.CFG_EVT_LOAD_DONE).attemptPass d3.boot.wasActive
      else if (Target.parse (d3.fwGet 0x3010 3 (leBytes 6 0xFFFFFFFFFFFF ++ leBytes 26 1))).transport
          = 0 then d3.attemptSource
      else
        let d4 := d3.loadBegin { kind := 1, src := .network }
        d4.setBoot { d4.boot with linkWait := d4.upPort.isNone }

/-- LOADER_ATTEMPT_FAIL: a failed attempt is counted, sets BOOT_RETRY, drives INITN low and starts the
backoff of min(2^(k−1), 8000) ms (R256, R484). -/
def loaderAttemptFail (d : Dev) : Dev :=
  let b := d.boot
  match b.failed with
  | none => d
  | some c =>
    let d1 := d.setBoot { b with failed := none, failures := b.failures + 1, backoff := true
                                 server := none, out := [], arrived := [], finish := none, gaps := [] }
    let d2 := ((d1.count Reg.CFG_BOOT_ATTEMPTS_ATTEMPTS).raise Reg.CFG_EVT_BOOT_RETRY).set
      Reg.CFG_BOOT_STS_LAST_CAUSE c
    let d3 := (d2.clear Reg.CFG_BOOT_STS_ACTIVE).set Reg.CFG_BOOT_WAIT_WAIT_MS
      (if b.failures < 13 then 2 ^ b.failures else 8000)
    ({ d3 with start := { d3.start with initnDriven := true } }).showInitn

/-- LOADER_BACKOFF_EXPIRY: the next attempt comes due (R256). -/
def loaderBackoffExpiry (d : Dev) : Dev :=
  let b := d.boot
  if !b.running ∨ !b.backoff then d else d.setBoot { b with backoff := false, due := true }

/-! ## The network source (R65, R255) -/

/-- The network attempt in progress. -/
def netLoad (d : Dev) : Bool :=
  match d.load with
  | some l => decide (l.src = .network)
  | none => false

/-- The boot server's entry (R80). -/
def bootServer (d : Dev) : Target :=
  Target.parse (d.fwGet 0x3010 3 (leBytes 6 0xFFFFFFFFFFFF ++ leBytes 26 1))

/-- One STREAM request goes out (R60): port 0 when its link is up, otherwise port 1. -/
def sendStream (d : Dev) (seq offset : Nat) : Dev :=
  let t := d.bootServer
  let m : WbMsg := { op := 0x0A, seq := seq, packId := d.ownPack
                     member := d.ownId, arg := offset }
  match d.upPort with
  | none => d
  | some p => d.queueTx p
    (.waybill (d.boot.server.getD t.mac) t.carrier (d.ctl (Reg.PORT_CTL_WB_PRIO p)) m.encode)

/-- A request for an offset is sent and is outstanding. -/
def askStream (d : Dev) (offset : Nat) : Dev :=
  let b := d.boot
  (d.setBoot { b with out := b.out ++ [⟨b.seq, offset, 0⟩], seq := (b.seq + 1) % 2 ^ 32 }).sendStream b.seq
    offset

/-- The offset at which the stream ends, where it is known. -/
def streamEnd (d : Dev) : Nat :=
  let h := match d.load with
    | some l => if l.header = [] then 2 ^ 48 else streamLen l.header
    | none => 2 ^ 48
  min h (d.boot.finish.getD (2 ^ 48))

/-- The next request, when fewer than 8 are outstanding: an offset to ask for again, or the next one. The
first request is alone until a server has answered it. -/
def nextStream (d : Dev) : Dev :=
  let b := d.boot
  if 8 ≤ b.out.length ∨ (b.server.isNone ∧ b.out ≠ []) then d
  else match b.gaps with
    | g :: rest => (d.setBoot { b with gaps := rest }).askStream g
    | [] =>
      if d.streamEnd ≤ b.next then d
      else (d.setBoot { b with next := b.next + 8192 }).askStream b.next

/-- STREAM: the loader fills its outstanding requests (R255). -/
def stream (d : Dev) : Dev :=
  if !d.netLoad ∨ d.upPort.isNone then d
  else (List.range 8).foldl (fun a _ => a.nextStream)
    (d.setBoot { d.boot with linkWait := false })

/-- The network source ends or fails: what has arrived of the segment that the load is at is taken first. -/
def netCut (d : Dev) (cause : Nat) (code : Code) : Dev :=
  match d.load with
  | some l => d.loadCut (arrivedFrom d.boot.arrived (d.boot.arrived.length + 1) (segOffset l.header l.seg)
      (segLength l.header l.seg)) cause code
  | none => d

/-- STREAM_RESPONSE: a response from `mac` under `seq` delivers bytes, fixes the server, or fails the
attempt with its code (R255). -/
def streamResponse (mac seq : Nat) (code : Code) (more : Bool) (data : List Byte) (d : Dev) : Dev :=
  let b := d.boot
  match b.out.find? (fun r => r.seq == seq) with
  | none => d
  | some r =>
    if !d.netLoad ∨ (b.server.isSome ∧ b.server ≠ some mac) then d
    else if code ≠ .ok then
      (d.setBoot { b with out := [] }).netCut 0x13 code
    else
      let stop := r.offset + data.length
      let d1 := d.setBoot { b with
        server := some (b.server.getD mac)
        out := b.out.filter (fun x => x.seq != seq)
        arrived := b.arrived ++ [(r.offset, data)]
        gaps := if more ∧ data.length < 8192 then b.gaps ++ [stop] else b.gaps
        finish := if more then b.finish else some stop }
      match d1.load with
      | some l =>
        if l.header = [] then
          (match d1.fetch .network 0 4096 [] with
           | (.bytes h, d2) => d2.takeHeader h none
           | (.part _ c code, d2) => d2.loadFail c 0xFE code
           | (.wait, d2) => d2)
        else if (match d1.boot.finish with | some e => decide (e < streamLen l.header) | none => false)
        then d1.netCut 0x0F .ok
        else d1
      | none => d1

/-- STREAM_RESEND_EXPIRY: 10 ms without an answer: the request is resent, up to 3 times, and then the
attempt fails SOURCE (R255). -/
def streamResendExpiry (seq : Nat) (d : Dev) : Dev :=
  let b := d.boot
  match b.out.find? (fun r => r.seq == seq) with
  | none => d
  | some r =>
    if !d.netLoad then d
    else if 3 ≤ r.resends then
      (d.setBoot { b with out := [] }).netCut 0x13 .timeout
    else
      (d.setBoot { b with out := b.out.map (fun x =>
        if x.seq = seq then { x with resends := x.resends + 1 } else x) }).sendStream seq r.offset

/-- BOOT_LINK_WAIT_EXPIRY: no port link came up within 2 s of the attempt's start (R255). -/
def bootLinkWaitExpiry (d : Dev) : Dev :=
  if !d.netLoad ∨ !d.boot.linkWait ∨ d.upPort.isSome then d
  else d.loadFail 0x13 0xFE .noTarget

end Dev

end Sys2Proof.Machine
end

