-- ==== Sys2Proof/Machine/Keys.lean ====
section
/-! DEFINITION. Keys and owner slots (R243 to R246, R257 to R259, R261): SEC_KEY_DATA, the security
commands, and the attestation report. -/

namespace Sys2Proof.Machine

namespace Dev

/-- SEC_KEY_DATA as bytes. -/
def keyData (d : Dev) : List Byte :=
  (List.range 16).flatMap (fun w => leBytes 4 (d.word (Reg.SEC_KEY_DATA w)).toNat)

/-- SEC_KEY_DATA is cleared. -/
def keyDataClear (d : Dev) : Dev :=
  let d1 := (List.range 16).foldl (fun a w => a.putWord (Reg.SEC_KEY_DATA w) 0) d
  { d1 with keys := { d1.keys with written := false } }

/-- A slot is usable: programmed and not revoked. -/
def slotUsable (d : Dev) (k : Nat) : Bool := d.slotProgrammed k && !d.slotRevoked k

/-- The security command is refused DENIED (R246): a fuse that is not blank, or a revocation that would
leave no usable slot. -/
def secDenied (d : Dev) (op slot : Nat) : Bool :=
  match op with
  | 0 => d.on Reg.SEC_KEY_STS_FUSE_KEY
  | 3 => d.slotProgrammed slot || d.slotRevoked slot
  | 4 => (List.range 4).all (fun k => k == slot || !d.slotUsable k)
  | _ => false

/-- A refusal with DENIED or TARGET_ERR sets CMD_REFUSED and clears SEC_KEY_DATA. -/
def secRefuse (d : Dev) (c : Code) : Dev × Code :=
  ((d.keyDataClear).raise Reg.SEC_EVT_CMD_REFUSED, c)

/-- The command is accepted, or refused BUSY, DENIED or TARGET_ERR (R246). -/
def secEff (op slot : Nat) (d : Dev) : Dev × Code :=
  if d.keys.cmd.isSome then (d, .busy)
  else if d.secDenied op slot then d.secRefuse .denied
  else if (op = 0 ∨ op = 1 ∨ op = 3) ∧ !d.keys.written then d.secRefuse .targetErr
  else
    let d1 := (d.raise Reg.SEC_KEY_STS_CMD_BUSY).cmdStart 0x8011 (op + 1)
    ({ d1 with keys := { d1.keys with cmd := some ⟨op, slot, d.keyData⟩ } }, .ok)

/-- What a completed command changes (R245, R246). An erased battery-backed key ends a load keyed from
it that has not made its last check (R253). -/
def secApply (c : SecCmd) (d : Dev) : Dev :=
  match c.op with
  | 0 => ({ d with keys := { d.keys with fuseKey := c.data.take 32 } }).raise Reg.SEC_KEY_STS_FUSE_KEY
  | 1 => ({ d with keys := { d.keys with bbram := c.data.take 32 } }).raise Reg.SEC_KEY_STS_BBRAM_KEY
  | 2 =>
    let d1 := ({ d with keys := { d.keys with bbram := [] } }).clear Reg.SEC_KEY_STS_BBRAM_KEY
    (match d1.load with
     | some l => if l.header ≠ [] ∧ keyMode l.header % 16 = 2 then d1.loadFail 0x0A l.place else d1
     | none => d1)
  | 3 =>
    ({ d with keys := { d.keys with slots := SMap.put [] d.keys.slots c.slot c.data } }.setMask
      Reg.SEC_KEY_STS_SLOT_PROG c.slot true).raise Reg.SEC_EVT_SLOT_CHANGE
  | _ => (d.setMask Reg.SEC_KEY_STS_SLOT_REVOKED c.slot true).raise Reg.SEC_EVT_SLOT_CHANGE

/-- SEC_CMD_DONE: the security command completes. -/
def secCmdDone (d : Dev) : Dev :=
  match d.keys.cmd with
  | none => d
  | some c =>
    let d1 := secApply c { d with keys := { d.keys with cmd := none } }
    (((d1.keyDataClear).clear Reg.SEC_KEY_STS_CMD_BUSY).raise Reg.SEC_EVT_CMD_DONE).cmdDone 0x8011
      (c.op + 1) .ok

end Dev

end Sys2Proof.Machine
end

