-- ==== Sys2Proof/Machine/Mp.lean ====
section
/-! DEFINITION. The management processor (R421 to R447): its registers and control registers,
exceptions, the memory it sees, the meaning of its 47 instruction kinds, the decoding of a word that
is fed or stepped, patch units, flash, and the resets of R423. -/

namespace Sys2Proof.Machine

/-- Where a core address lies. -/
inductive MpPlace where
  | rom (o : Nat)
  | flash (o : Nat)
  | sram (o : Nat)
  | net (a : Nat)
  | none
deriving DecidableEq, Repr

/-- Bytes of a load's width. -/
def MpLoad.size : MpLoad → Nat
  | .word => 4 | .half => 2 | .halfU => 2 | .byte => 1 | .byteU => 1

/-- The register value of a load: bytes little-endian, sign- or zero-extended (R426). -/
def MpLoad.value (op : MpLoad) (bs : List Byte) : Word :=
  let v := ofLe bs
  match op with
  | .word => BitVec.ofNat 32 v
  | .half => (BitVec.ofNat 16 v).signExtend 32
  | .halfU => (BitVec.ofNat 16 v).zeroExtend 32
  | .byte => (BitVec.ofNat 8 v).signExtend 32
  | .byteU => (BitVec.ofNat 8 v).zeroExtend 32

/-- Bytes of a store's width. -/
def MpStore.size : MpStore → Nat
  | .word => 4 | .half => 2 | .byte => 1

namespace Dev

/-- The device with the core's state replaced. -/
def setMp (d : Dev) (x : MpSt) : Dev := { d with mp := x }

/-- The core is halted (R452). -/
def halted (d : Dev) : Bool := d.on Reg.DBG_STS_HALTED

/-- The MP is held in reset: start-up is at step 1 (R481, R482). -/
def mpHeld (d : Dev) : Bool := d.get Reg.START_STS_STEP == 1

/-- The firmware serves its objects: it runs and is not halted (R74, R442). -/
def fwUp (d : Dev) : Bool := d.on Reg.MP_STS_RUNNING && !d.halted && !d.mpHeld

/-- The value of G `a`: G0 reads 0 (R424). -/
def mpG (d : Dev) (a : Fin 16) : Word := if a.val = 0 then 0 else d.mp.g.getD a.val 0

/-- The device with G `r` set: writes to G0 are discarded (R424). -/
def setG (d : Dev) (r : Fin 16) (v : Word) : Dev :=
  if r.val = 0 then d else d.setMp { d.mp with g := d.mp.g.set r.val v }

/-! ## Events -/

/-- Some EVT bit is set in a CSR block between `lo` and `hi` (R41, R429). -/
def evtSet (d : Dev) (lo hi : Nat) : Bool :=
  d.csr.any (fun e =>
    lo ≤ e.1 / 0x10000 && e.1 / 0x10000 ≤ hi &&
      (match regAt e.1 with
       | none => false
       | some r => r.fields.any (fun f => f.cls == .evt && fieldOf e.2 f.lsb f.w != 0)))

/-- EVT_PEND (R429). -/
def evtPend (d : Dev) : Nat :=
  (List.range 16).foldl (fun a b => a + bit01 (d.evtSet b b) * 2 ^ b) 0
    + bit01 (d.evtSet 0x10 0x8F) * 2 ^ 16
    + bit01 (d.wb.forwards.any (fun f => f.tag.isNone && !f.stored)) * 2 ^ 17
    + bit01 d.mp.timerHit * 2 ^ 18

/-- (EVT_PEND and EVT_MASK) ≠ 0 (R428, R429). -/
def evtDue (d : Dev) : Bool := d.evtPend &&& d.mp.evtMask.toNat != 0

/-! ## MP control registers (R427) -/

/-- ST as it reads. -/
def mpStatus (d : Dev) : Word :=
  BitVec.ofNat 32 (bit01 d.mp.ie + 2 * bit01 d.mp.exc + 4 * bit01 d.mp.pie + 8 * bit01 d.mp.resv.isSome)

/-- ST written: RSV_VALID is read only. -/
def setStatus (d : Dev) (v : Word) : Dev :=
  d.setMp { d.mp with ie := v.toNat.testBit 0, exc := v.toNat.testBit 1, pie := v.toNat.testBit 2 }

/-- The content of an MP control register; none for a number that R427 does not list. -/
def mpcr (d : Dev) (n : Nat) : Option Word :=
  match n with
  | 0x000 => some d.mpStatus
  | 0x001 => some d.mp.lk
  | 0x002 => some d.mp.epc
  | 0x003 => some (BitVec.ofNat 32 d.mp.ecause)
  | 0x004 => some d.mp.eaddr
  | 0x005 => some d.mp.vbase
  | 0x006 => some (BitVec.ofNat 32 d.evtPend)
  | 0x007 => some d.mp.evtMask
  | 0x008 => some (BitVec.ofNat 32 d.mp.cyc)
  | 0x009 => some (BitVec.ofNat 32 (d.mp.cyc / 2 ^ 32))
  | 0x00A => some d.mp.timerCmp
  | 0x00B => some (BitVec.ofNat 32 d.mp.fenceCode)
  | 0x020 => some 0x00000B00
  | _ => if 0x010 ≤ n ∧ n ≤ 0x017 then some (d.mp.win.getD (n - 0x010) 0) else none

/-- An MP control register written: read-only registers and bits keep their values, reserved bits read
0, and a write to TIMER_CMP clears event line 18 (R427, R429). -/
def setMpcr (d : Dev) (n : Nat) (v : Word) : Dev :=
  match n with
  | 0x000 => d.setStatus v
  | 0x001 => d.setMp { d.mp with lk := v }
  | 0x002 => d.setMp { d.mp with epc := v }
  | 0x003 => d.setMp { d.mp with ecause := v.toNat % 256 }
  | 0x004 => d.setMp { d.mp with eaddr := v }
  | 0x005 => d.setMp { d.mp with vbase := v &&& 0xFFFFFF00 }
  | 0x007 => d.setMp { d.mp with evtMask := v &&& 0x0007FFFF }
  | 0x00A => d.setMp { d.mp with timerCmp := v, timerHit := false }
  | 0x00B => d.setMp { d.mp with fenceCode := v.toNat % 16 }
  | _ =>
    if 0x010 ≤ n ∧ n ≤ 0x017 then
      d.setMp { d.mp with win := d.mp.win.set (n - 0x010) (v &&& 0x800FFFFF) }
    else d

/-! ## Halts and resets -/

/-- The core halts with a cause (R452 to R454): the reservation is cleared, a WAIT ends unfinished, and
the watchdog freezes. -/
def mpHalt (cause : Nat) (d : Dev) : Dev :=
  let d1 := d.setMp { d.mp with resv := none, stall := none, stepping := false, haltDue := none }
  let d2 := ((d1.raise Reg.DBG_STS_HALTED).set Reg.DBG_STS_HALT_CAUSE cause).clear Reg.DBG_STS_DBUSY
  (d2.raise Reg.DBG_EVT_HALTED_EVT).raise Reg.WDT_STS_FROZEN

/-- The registers that an MP reset returns to their reset values: patch units and serial ports
(R423). -/
def mpPeripheral (off : Nat) : Bool :=
  (0x0F1000 ≤ off && off < 0x0F1100) || (0x0F3000 ≤ off && off < 0x0F8000)

/-- A firmware-served object keeps its value across every reset (R519). -/
def fwPersistent (key : Nat) : Bool :=
  let ix := key / 256
  let sub := key % 256
  (ix == 0x1010 && (sub == 4 || sub == 5)) || ix == 0x1020 || (ix == 0x3010 && sub == 3)
    || (ix == 0x4200 && sub == 14) || ix == 0x2010

/-- A command object that the firmware serves, whose status is volatile (R519): the pack barrier and the
attestation. -/
def fwCommand (key : Nat) : Bool := key == 0x1F2000 || key == 0x820002

/-- Requests that wait on the firmware, and attestation reports that await their signature, end BUSY when the
MP is reset (R74). -/
def fwDrop (d : Dev) : Dev :=
  let waiting := d.wb.forwards.filter (fun f => f.tag.isNone)
  let reports := d.wb.attest
  let d1 := { d with wb := { d.wb with
    forwards := d.wb.forwards.filter (fun f => f.tag.isSome), attest := [] } }
  let d2 := waiting.foldl (fun a f => a.respond f.req { code := .busy }) d1
  reports.foldl (fun a r =>
    match r.1 with
    | some q => a.respond q { code := .busy }
    | none => a.cmdDone 0x8200 2 .busy) d2

/-- A load or a start-up attempt in progress fails with cause RESET (R23, R252, R256). -/
def loadReset (d : Dev) : Dev :=
  match d.load with
  | some l => d.loadFail 0x14 l.place
  | none => d

/-- What an MP reset does (R422, R423): staged control-plane changes are discarded, NI 164 abandons its
requests, and the core, patch units, serial ports and volatile objects take their reset values (R519). A
flash command goes on, and the SRAM keeps its contents. -/
def mpDown (cause : Nat) (d : Dev) : Dev :=
  let d1 := d.nocDiscard.ctxResetDiscard.loadReset.fwDrop
  let d2 := d1.setNi 164 { d1.niSt 164 with
    presented := [], waiting := [], tags := [], writes := [], fences := [], rs := [], guarded := [] }
  let d3 := { d2.unfail mpPeripheral with
    mp := { flashCmd := d2.mp.flashCmd }, serial := [], fwImage := [], extImage := []
    csr := SMap.only (fun o => !mpPeripheral o) d2.csr
    fwObjects := SMap.only fwPersistent d2.fwObjects, cmds := SMap.only (fun k => !fwCommand k) d2.cmds }
  (((d3.clear Reg.MP_STS_RUNNING).clear Reg.MP_STS_RECOVERY).set Reg.MP_STS_RST_CAUSE cause).count
    Reg.MP_CNT_RESET_CNT

/-- The MP leaves reset (R422, R452, R460): it fetches from the boot ROM, or halts there under
HALT_ON_RESET; the watchdog's freeze ends when the core runs. -/
def mpLeave (d : Dev) : Dev :=
  let d1 := (d.raise Reg.MP_EVT_MP_RESET).clear Reg.DBG_STS_DBUSY
  if d1.ctlOn Reg.DBG_CTL_HALT_ON_RESET then d1.mpHalt 4
  else (d1.clear Reg.DBG_STS_HALTED).clear Reg.WDT_STS_FROZEN

/-- An MP reset (R423); while start-up holds the MP, it leaves reset only when step 1 ends. -/
def mpReset (cause : Nat) (d : Dev) : Dev :=
  let d1 := d.mpDown cause
  if d1.mpHeld then d1 else d1.mpLeave

/-! ## Exceptions (R428) -/

/-- An instruction completes: execution goes on at `pc`; a fed instruction leaves the PC (R455), and a
step ends in a halt (R452). -/
def mpRetire (pc : Word) (d : Dev) : Dev :=
  if d.mp.fed then
    ((d.setMp { d.mp with fed := false }).raise Reg.DBG_EVT_DINSTR_DONE).clear Reg.DBG_STS_DBUSY
  else
    let d1 := d.setMp { d.mp with pc := pc }
    if d1.mp.stepping then d1.mpHalt 3 else d1

/-- Exception entry (R428): EPC, ECAUSE and EADDR are set, PIE takes IE, IE is cleared, EXC is set and
the reservation is cleared. The code of a cause other than BUS, and EADDR of a cause without a data
address, are values the spec does not state (log 14). -/
def mpEnter (cause : Nat) (code : Option Nat) (addr : Option Word) (epc : Word) (d : Dev) : Dev :=
  let c := match code with
    | some v => (v, d)
    | none => d.freeBelow 16
  let a := match addr with
    | some v => (v.toNat, c.2)
    | none => c.2.freeBelow (2 ^ 32)
  let m := a.2.mp
  let d1 := a.2.setMp { m with
    epc := epc, ecause := cause + 16 * c.1, eaddr := BitVec.ofNat 32 a.1
    pie := m.ie, ie := false, exc := true, resv := none
    pc := m.vbase + BitVec.ofNat 32 (16 * cause) }
  if d1.mp.stepping then d1.mpHalt 3 else d1

/-- An instruction raises an exception: a fed one only records its cause (R455); one taken while EXC is
1 resets the MP with cause DOUBLE (R428). -/
def mpExc (cause : Nat) (code : Option Nat) (addr : Option Word) (d : Dev) : Dev :=
  if d.mp.fed then
    let d1 := (d.setMp { d.mp with fed := false }).set Reg.DBG_STS_DEXC cause
    ((d1.raise Reg.DBG_EVT_DEXC_EVT).raise Reg.DBG_EVT_DINSTR_DONE).clear Reg.DBG_STS_DBUSY
  else if d.mp.exc then d.mpReset 2
  else d.mpEnter cause code addr d.mp.pc

/-- The NMI is taken at an instruction boundary (R428): EPC names the next instruction. -/
def mpNmi (d : Dev) : Dev :=
  let d1 := d.setMp { d.mp with nmi := false }
  if d1.mp.exc then d1.mpReset 2 else d1.mpEnter 5 none none d1.mp.pc

/-- Between instructions a WAIT ends whose condition holds (R429), and a pending NMI is taken. -/
def mpSettle (d : Dev) : Dev :=
  if d.mpHeld ∨ d.mp.haltDue.isSome ∨ (d.halted ∧ !d.mp.stepping) then d
  else
    let d1 :=
      if d.mp.stall = some .wait ∧ (d.mp.nmi ∨ d.evtDue) then
        (d.setMp { d.mp with stall := none }).mpRetire (d.mp.pc + 4)
      else d
    if d1.mp.nmi ∧ d1.mp.stall.isNone ∧ !d1.halted then d1.mpNmi else d1

/-! ## Memory seen by the core (R430, R431) -/

/-- The place of a core address (R430, R431). -/
def mpPlace (d : Dev) (addr : Word) : MpPlace :=
  let a := addr.toNat
  if a < 0x8000 then .rom a
  else if 0x10000000 ≤ a ∧ a < 0x10200000 then .flash (a - 0x10000000)
  else if 0x20000000 ≤ a ∧ a < 0x20080000 then .sram (a - 0x20000000)
  else if 0x40000000 ≤ a ∧ a < 0x41000000 then .net (0xFE00000000 + (a - 0x40000000))
  else if 0x80000000 ≤ a then
    let w := d.mp.win.getD ((a - 0x80000000) / 0x10000000) 0
    if w.toNat.testBit 31 then .net (w.toNat % 2 ^ 20 * 2 ^ 28 + a % 2 ^ 28) else .none
  else .none

/-- The registers of patch unit `u` as fetches and loads see them (R437): for four CD46 cycles after a
write they are those before it. A unit with a failed register is disabled (R446). -/
def patchUnit (d : Dev) (u : Nat) : Word × Word × Word :=
  match d.mp.patchOld.find? (fun p => p.unit == u && d.mp.cyc < p.cyc + 4) with
  | some p => (p.addr, p.val, p.ctl)
  | none =>
    if d.failed (Reg.PATCH_ADDR u) ∨ d.failed (Reg.PATCH_VAL u) ∨ d.failed (Reg.PATCH_CTL u) then
      (0, 0, 0)
    else (d.word (Reg.PATCH_ADDR u), d.word (Reg.PATCH_VAL u), d.word (Reg.PATCH_CTL u))

/-- A patch unit's register is about to be written: what the unit held stays in force for four cycles. -/
def patchKeep (u : Nat) (d : Dev) : Dev :=
  let old : PatchOld := ⟨u, d.word (Reg.PATCH_ADDR u), d.word (Reg.PATCH_VAL u),
    d.word (Reg.PATCH_CTL u), d.mp.cyc⟩
  d.setMp { d.mp with
    patchOld := d.mp.patchOld.filter (fun p => d.mp.cyc < p.cyc + 4) ++ [old] }

/-- The stored byte `o` of the flash. -/
def flashByte (d : Dev) (o : Nat) : Byte := SMap.get 0xFF d.flash o

/-- The bytes of flash word `o / 4` for a fetch (`bit` 0) or a load (`bit` 1): those of the
lowest-numbered enabled patch unit that names it, or the stored ones (R437). -/
def flashWord (d : Dev) (bit o : Nat) : List Byte :=
  match (List.range 16).find? (fun u =>
      let p := d.patchUnit u
      p.2.2.toNat.testBit bit && p.1.toNat / 4 == o / 4) with
  | some u => leBytes 4 (d.patchUnit u).2.1.toNat
  | none => (List.range 4).map (fun k => d.flashByte (o / 4 * 4 + k))

/-- A flash command runs (R438). -/
def flashBusy (d : Dev) : Bool := d.on Reg.FLASH_STS_BUSY

/-- Byte lanes of an access of `n` bytes at system address `a` within its line. -/
def byteLanes (a n : Nat) : Nat := (2 ^ n - 1) * 2 ^ (a % 64) % 2 ^ 64

/-- The core's network read of `n` bytes (R432). -/
def mpRead (a n : Nat) (d : Dev) : Dev :=
  d.niPresent 164 { cmd := 0, addr := a, len := 1, beFirst := byteLanes a n }

/-- The core's posted network write (R432). -/
def mpWrite (a : Nat) (bs : List Byte) (d : Dev) : Dev :=
  let line := (List.replicate (a % 64) (0 : Byte) ++ bs ++ List.replicate 64 0).take 64
  d.niPresent 164 { cmd := 1, addr := a, len := 1, beFirst := byteLanes a bs.length, data := line }

/-- An effective address: Ga + sext(imm18) (R425). -/
def mpAddr (d : Dev) (a : Fin 16) (imm : BitVec 18) : Word := d.mpG a + imm.signExtend 32

/-- A load (R430 to R433): a misaligned address raises ALIGN; poisoned bytes raise BUS with POISON; a
network load stalls the core. -/
def mpLoad (op : MpLoad) (x : Fin 16) (addr : Word) (i : MpInsn) (d : Dev) : Dev :=
  let n := op.size
  if addr.toNat % n ≠ 0 then d.mpExc 2 none (some addr)
  else match d.mpPlace addr with
    | .rom o => (d.setG x (op.value ((List.range n).map (fun k => Config.bootRom (o + k))))).mpRetire
        (d.mp.pc + 4)
    | .flash o =>
      if d.flashBusy then d.setMp { d.mp with stall := some (.flash i) }
      else (d.setG x (op.value (((d.flashWord 1 o).drop (o % 4)).take n))).mpRetire (d.mp.pc + 4)
    | .sram o =>
      let r := d.readBytes (.hs 0) o n
      if r.1.any (fun b => b.2) then r.2.mpExc 3 (some Code.poison.num) (some addr)
      else (r.2.setG x (op.value (r.1.map (fun b => b.1)))).mpRetire (d.mp.pc + 4)
    | .net a => (d.setMp { d.mp with stall := some (.load op x addr) }).mpRead a n
    | .none => d.mpExc 3 (some Code.noTarget.num) (some addr)

/-- The core stores bytes in the SRAM through port A (R432, R149). -/
def sramStore (o : Nat) (bs : List Byte) (d : Dev) : Dev :=
  let d1 := d.storeBytes (.hs 0) o bs
  d1.setMp { d1.mp with stored := some (o, bs.length) }

/-- A store (R430 to R432): to the boot ROM and the flash it raises BUS with DENIED; to the network it is
posted. -/
def mpStore (op : MpStore) (x : Fin 16) (addr : Word) (d : Dev) : Dev :=
  let n := op.size
  let bs := leBytes n (d.mpG x).toNat
  if addr.toNat % n ≠ 0 then d.mpExc 2 none (some addr)
  else match d.mpPlace addr with
    | .rom _ => d.mpExc 3 (some Code.denied.num) (some addr)
    | .flash _ => d.mpExc 3 (some Code.denied.num) (some addr)
    | .sram o => (d.sramStore o bs).mpRetire (d.mp.pc + 4)
    | .net a => (d.mpWrite a bs).mpRetire (d.mp.pc + 4)
    | .none => d.mpExc 3 (some Code.noTarget.num) (some addr)

/-- RSV (R434). -/
def mpRsv (x : Fin 16) (addr : Word) (d : Dev) : Dev :=
  if addr.toNat % 4 ≠ 0 then d.mpExc 2 none (some addr)
  else match d.mpPlace addr with
    | .sram o =>
      let d1 := d.setMp { d.mp with resv := none }
      let r := d1.readBytes (.hs 0) o 4
      if r.1.any (fun b => b.2) then r.2.mpExc 3 (some Code.poison.num) (some addr)
      else
        let d2 := r.2.setG x (BitVec.ofNat 32 (ofLe (r.1.map (fun b => b.1))))
        (d2.setMp { d2.mp with resv := some (o / 8) }).mpRetire (d.mp.pc + 4)
    | _ => d.mpExc 7 none (some addr)

/-- CMT (R434): it stores only while the reservation is held and covers the word; either outcome clears
it. -/
def mpCmt (x : Fin 16) (addr : Word) (d : Dev) : Dev :=
  if addr.toNat % 4 ≠ 0 then d.mpExc 2 none (some addr)
  else match d.mpPlace addr with
    | .sram o =>
      let d1 := d.setMp { d.mp with resv := none }
      if d.mp.resv = some (o / 8) then
        ((d1.sramStore o (leBytes 4 (d.mpG x).toNat)).setG x 0).mpRetire (d.mp.pc + 4)
      else (d1.setG x 1).mpRetire (d.mp.pc + 4)
    | _ => d.mpExc 7 none (some addr)

/-- SWP (R434, R436): in SRAM at once; on the network as ATOM swap of 4 bytes. -/
def mpSwp (x : Fin 16) (addr : Word) (d : Dev) : Dev :=
  if addr.toNat % 4 ≠ 0 then d.mpExc 2 none (some addr)
  else
    let d1 := d.setMp { d.mp with resv := none }
    match d.mpPlace addr with
    | .rom _ => d.mpExc 3 (some Code.denied.num) (some addr)
    | .flash _ => d.mpExc 3 (some Code.denied.num) (some addr)
    | .sram o =>
      let r := d1.readBytes (.hs 0) o 4
      if r.1.any (fun b => b.2) then r.2.mpExc 3 (some Code.poison.num) (some addr)
      else
        ((r.2.sramStore o (leBytes 4 (d.mpG x).toNat)).setG x
          (BitVec.ofNat 32 (ofLe (r.1.map (fun b => b.1))))).mpRetire (d.mp.pc + 4)
    | .net a =>
      (d1.setMp { d1.mp with stall := some (.swp x addr) }).niPresent 164
        { cmd := 3, addr := a, atop := 0, asize := false, operand := (d.mpG x).toNat }
    | .none => d.mpExc 3 (some Code.noTarget.num) (some addr)

/-- FENCE completes with a code (R433): what was patched before it is in force (R437). -/
def mpFenceDone (code : Nat) (d : Dev) : Dev :=
  (d.setMp { d.mp with fenceCode := code, patchOld := [] }).mpRetire (d.mp.pc + 4)

/-- FENCE (R433): it completes when every earlier network request of the core has. -/
def mpFence (d : Dev) : Dev :=
  if (d.niSt 164).writes = [] ∧ (d.niSt 164).presented = [] then d.mpFenceDone Code.ok.num
  else (d.setMp { d.mp with stall := some .fence }).niPresent 164 { cmd := 4 }

/-! ## Arithmetic (R426) -/

/-- The register operations; a divisor of 0 gives 0xFFFF_FFFF. -/
def aluOp (op : MpAlu) (x y : Word) : Word :=
  match op with
  | .add => x + y
  | .sub => x - y
  | .and => x &&& y
  | .or => x ||| y
  | .xor => x ^^^ y
  | .sll => x <<< (y.toNat % 32)
  | .srl => x >>> (y.toNat % 32)
  | .sra => x.sshiftRight (y.toNat % 32)
  | .slt => if x.toInt < y.toInt then 1 else 0
  | .sltu => if x.toNat < y.toNat then 1 else 0
  | .mul => x * y
  | .mulh => BitVec.ofInt 32 (x.toInt * y.toInt / 2 ^ 32)
  | .div => if y = 0 then 0xFFFFFFFF else BitVec.ofInt 32 (x.toInt.tdiv y.toInt)
  | .divu => if y = 0 then 0xFFFFFFFF else BitVec.ofNat 32 (x.toNat / y.toNat)

/-- The operations with an immediate. -/
def aluImm (op : MpAluI) (x : Word) (imm : BitVec 18) : Word :=
  match op with
  | .addi => x + imm.signExtend 32
  | .andi => x &&& imm.zeroExtend 32
  | .ori => x ||| imm.zeroExtend 32
  | .xori => x ^^^ imm.zeroExtend 32
  | .slli => x <<< (imm.toNat % 32)
  | .srli => x >>> (imm.toNat % 32)
  | .srai => x.sshiftRight (imm.toNat % 32)

/-- The branch conditions AL, EQZ, NEZ, LTZ, GEZ, GTZ and LEZ. -/
def branchHolds (cond : Fin 7) (x : Word) : Bool :=
  match cond.val with
  | 0 => true
  | 1 => x == 0
  | 2 => x != 0
  | 3 => decide (x.toInt < 0)
  | 4 => decide (0 ≤ x.toInt)
  | 5 => decide (0 < x.toInt)
  | _ => decide (x.toInt ≤ 0)

/-- A branch or jump target: the instruction's own address plus 4 × the offset (R425). -/
def target18 (pc : Word) (off : BitVec 18) : Word := pc + 4 * off.signExtend 32
def target26 (pc : Word) (off : BitVec 26) : Word := pc + 4 * off.signExtend 32

/-! ## Execution -/

/-- A control register takes a value computed from its own and Ga; a number not listed raises
ILLEGAL. -/
def mpcrWrite (n : BitVec 12) (f : Word → Word) (d : Dev) : Dev :=
  match d.mpcr n.toNat with
  | none => d.mpExc 1 none none
  | some v => (d.setMpcr n.toNat (f v)).mpRetire (d.mp.pc + 4)

/-- BRK (R452): the debugger takes it while BRK_TAKE is 1; otherwise it raises the BRK exception. -/
def mpBrk (d : Dev) : Dev :=
  if d.ctlOn Reg.DBG_CTL_BRK_TAKE then d.mpHalt 2 else d.mpExc 4 none none

/-- WAIT (R429). -/
def mpWait (d : Dev) : Dev :=
  if d.evtDue ∨ d.mp.nmi then d.mpRetire (d.mp.pc + 4)
  else d.setMp { d.mp with stall := some .wait }

/-- RTE (R428, R434). -/
def mpRte (d : Dev) : Dev :=
  (d.setMp { d.mp with ie := d.mp.pie, exc := false, resv := none }).mpRetire d.mp.epc

/-- The core executes one instruction. -/
def mpExec (i : MpInsn) (d0 : Dev) : Dev :=
  let d := d0.setMp { d0.mp with stored := none }
  let next := d.mp.pc + 4
  match i with
  | .alu op x a b => (d.setG x (aluOp op (d.mpG a) (d.mpG b))).mpRetire next
  | .jr a => d.mpRetire (d.mpG a)
  | .jrl a => (d.setMp { d.mp with lk := next }).mpRetire (d.mpG a)
  | .ret => d.mpRetire d.mp.lk
  | .alui op x a imm => (d.setG x (aluImm op (d.mpG a) imm)).mpRetire next
  | .lui x imm => (d.setG x (imm.zeroExtend 32 <<< 14)).mpRetire next
  | .load op x a imm => d.mpLoad op x (d.mpAddr a imm) i
  | .store op x a imm => d.mpStore op x (d.mpAddr a imm)
  | .rsv x a imm => d.mpRsv x (d.mpAddr a imm)
  | .cmt x a imm => d.mpCmt x (d.mpAddr a imm)
  | .swp x a imm => d.mpSwp x (d.mpAddr a imm)
  | .branch c a off => d.mpRetire (if branchHolds c (d.mpG a) then target18 d.mp.pc off else next)
  | .jump off => d.mpRetire (target26 d.mp.pc off)
  | .jumpLink off => (d.setMp { d.mp with lk := next }).mpRetire (target26 d.mp.pc off)
  | .mfc x n =>
    match d.mpcr n.toNat with
    | none => d.mpExc 1 none none
    | some v => (d.setG x v).mpRetire next
  | .mtc n a => d.mpcrWrite n (fun _ => d.mpG a)
  | .mset n a => d.mpcrWrite n (fun v => v ||| d.mpG a)
  | .mclr n a => d.mpcrWrite n (fun v => v &&& ~~~(d.mpG a))
  | .fence => d.mpFence
  | .brk => d.mpBrk
  | .wait => d.mpWait
  | .rte => d.mpRte

/-- The core is at an instruction boundary and goes on: it is out of reset, neither halted nor about to
halt, and waits for nothing. -/
def mpAtBoundary (d : Dev) : Bool :=
  !d.mpHeld && !d.halted && d.mp.haltDue.isNone && d.mp.stall.isNone

/-- The EVENT exception is due (R428). -/
def eventDue (d : Dev) : Bool := d.mp.ie && d.evtDue

/-- The core runs instruction `i` at its PC (R421, R426; log 15): its fetch may raise ALIGN or BUS, and
waits while a flash command runs (R438). At a pending EVENT no instruction runs. -/
def mpRun (i : MpInsn) (d : Dev) : Dev :=
  if !d.mpAtBoundary ∨ d.eventDue then d
  else if d.mp.pc.toNat % 4 ≠ 0 then d.mpExc 2 none none
  else match d.mpPlace d.mp.pc with
    | .none => d.mpExc 3 (some Code.noTarget.num) none
    | .flash _ => if d.flashBusy then d.setMp { d.mp with stall := some (.flash i) } else d.mpExec i
    | _ => d.mpExec i

/-- The core executes a fetched word; one that stands for no instruction raises ILLEGAL (R426). -/
def mpExecWord (w : Word) (dec : Word → Option MpInsn) (d : Dev) : Dev :=
  match dec w with
  | none => d.mpExc 1 none none
  | some i => d.mpExec i

end Dev

/-! ## Decoding (R425, R426) -/

/-- A 4-bit register field of a word. -/
def mpField (w : Word) (lsb : Nat) : Fin 16 := ⟨w.toNat / 2 ^ lsb % 16, Nat.mod_lt _ (by decide)⟩

/-- The instruction a word stands for; none where its opcode, function or condition is reserved. Unused
fields are ignored. -/
def mpDecode (w : Word) : Option MpInsn :=
  let op := w.toNat / 2 ^ 26
  let x := mpField w 22
  let a := mpField w 18
  let b := mpField w 14
  let fn := w.toNat % 2 ^ 14
  let imm := BitVec.ofNat 18 w.toNat
  let n := BitVec.ofNat 12 (w.toNat / 64)
  let sfn := w.toNat % 64
  match op with
  | 0x00 =>
    ([MpAlu.add, .sub, .and, .or, .xor, .sll, .srl, .sra, .slt, .sltu, .mul, .mulh, .div, .divu][fn]?).map
      (fun o => .alu o x a b)
  | 0x01 => match fn with
    | 0 => some (.jr a)
    | 1 => some (.jrl a)
    | 2 => some .ret
    | _ => none
  | 0x02 => some (.alui .addi x a imm)
  | 0x03 => some (.alui .andi x a imm)
  | 0x04 => some (.alui .ori x a imm)
  | 0x05 => some (.alui .xori x a imm)
  | 0x06 => some (.alui .slli x a imm)
  | 0x07 => some (.alui .srli x a imm)
  | 0x08 => some (.alui .srai x a imm)
  | 0x09 => some (.lui x imm)
  | 0x10 => some (.load .word x a imm)
  | 0x11 => some (.load .half x a imm)
  | 0x12 => some (.load .halfU x a imm)
  | 0x13 => some (.load .byte x a imm)
  | 0x14 => some (.load .byteU x a imm)
  | 0x15 => some (.store .word x a imm)
  | 0x16 => some (.store .half x a imm)
  | 0x17 => some (.store .byte x a imm)
  | 0x18 => some (.rsv x a imm)
  | 0x19 => some (.cmt x a imm)
  | 0x1A => some (.swp x a imm)
  | 0x20 => if h : x.val < 7 then some (.branch ⟨x.val, h⟩ a imm) else none
  | 0x21 => some (.jump (BitVec.ofNat 26 w.toNat))
  | 0x22 => some (.jumpLink (BitVec.ofNat 26 w.toNat))
  | 0x30 => if sfn = 0 then some (.mfc x n) else none
  | 0x31 => match sfn with
    | 0 => some (.mtc n a)
    | 1 => some (.mset n a)
    | 2 => some (.mclr n a)
    | _ => none
  | 0x3F => match fn with
    | 0 => some .fence
    | 1 => some .brk
    | 2 => some .wait
    | 3 => some .rte
    | _ => none
  | _ => none

namespace Dev

/-- The word at the PC is fetched and executed, for a step (R455). -/
def mpFetchExec (d : Dev) : Dev :=
  let pc := d.mp.pc
  if pc.toNat % 4 ≠ 0 then d.mpExc 2 none none
  else match d.mpPlace pc with
    | .rom o => d.mpExecWord
        (BitVec.ofNat 32 (ofLe ((List.range 4).map (fun k => Config.bootRom (o + k))))) mpDecode
    | .flash o =>
      if d.flashBusy then d.setMp { d.mp with stall := some .fetch }
      else d.mpExecWord (BitVec.ofNat 32 (ofLe (d.flashWord 0 o))) mpDecode
    | .sram o =>
      let r := d.readBytes (.hs 0) o 4
      if r.1.any (fun b => b.2) then r.2.mpExc 3 (some Code.poison.num) none
      else r.2.mpExecWord (BitVec.ofNat 32 (ofLe (r.1.map (fun b => b.1)))) mpDecode
    | .net a => (d.setMp { d.mp with stall := some .fetch }).mpRead a 4
    | .none => d.mpExc 3 (some Code.noTarget.num) none

/-- MP_NETWORK_LOAD_DONE: the response the core waits for arrives, and the core resumes, or takes a BUS
exception (R432, R433, R436). -/
def mpNetworkLoadDone (d : Dev) : Dev :=
  match (d.niSt 164).rs with
  | [] => d
  | p :: rest =>
    let d1 := (d.setNi 164 { d.niSt 164 with rs := rest }).niPump 164
    let d2 := d1.setMp { d1.mp with stall := none }
    let lane := fun (addr : Word) => p.data.drop (addr.toNat % 64)
    let bad := if p.code = .ok then (if p.poison then some Code.poison.num else none) else some p.code.num
    match d.mp.stall with
    | some (.load op x addr) =>
      match bad with
      | some c => d2.mpExc 3 (some c) (some addr)
      | none => (d2.setG x (op.value ((lane addr).take op.size))).mpRetire (d.mp.pc + 4)
    | some (.swp x addr) =>
      match bad with
      | some c => d2.mpExc 3 (some c) (some addr)
      | none => (d2.setG x (op32 (lane addr))).mpRetire (d.mp.pc + 4)
    | some .fetch =>
      match bad with
      | some c => d2.mpExc 3 (some c) none
      | none => d2.mpExecWord (op32 (lane d.mp.pc)) mpDecode
    | some .fence => d2.mpFenceDone p.code.num
    | _ => d1
where
  /-- The word of four bytes. -/
  op32 (bs : List Byte) : Word := BitVec.ofNat 32 (leAt bs 0 4)

/-- EXCEPTION_ENTRY: the core enters an exception (R428). Causes 1 to 4 and 7 are those the instruction
at the PC raises, with the code of a BUS and the data address; 5 and 6 are taken when they are pending. -/
def exceptionEntry (cause : Fin 8) (code : Fin 16) (addr : Word) (d : Dev) : Dev :=
  if !d.mpAtBoundary then d
  else match cause.val with
    | 0 => d
    | 1 => d.mpExc 1 none none
    | 2 => d.mpExc 2 none (some addr)
    | 3 => d.mpExc 3 (some code.val) (some addr)
    | 4 => d.mpBrk
    | 5 => if d.mp.nmi then d.mpNmi else d
    | 6 => if d.eventDue then
        (if d.mp.exc then d.mpReset 2 else d.mpEnter 6 none none d.mp.pc)
      else d
    | _ => d.mpExc 7 none (some addr)

/-- TIMER_CMP_MATCH: CYC_LO has come to equal TIMER_CMP (R427). -/
def timerCmpMatch (d : Dev) : Dev :=
  let ahead := (d.mp.timerCmp.toNat + 2 ^ 32 - d.mp.cyc % 2 ^ 32) % 2 ^ 32
  d.setMp { d.mp with cyc := d.mp.cyc + ahead, timerHit := true }

/-- LOCKSTEP_MISMATCH (R422). -/
def lockstepMismatch (d : Dev) : Dev :=
  ((d.raise Reg.MP_EVT_LOCKSTEP_FAULT).count Reg.MP_CNT_LOCKSTEP_CNT).mpReset 1

/-- SOFT_RESET resets the MP with cause SOFT (R423). -/
def softResetEff (d : Dev) : Dev × Code := (((d.mpReset 3).cmdStart 0x1200 4).cmdDone 0x1200 4 .ok, .ok)

/-- DBG_RESET resets the MP with cause DEBUG, whatever its state (R456). -/
def dbgResetEff (d : Dev) : Dev × Code := (d.mpReset 5, .ok)

/-! ## Firmware (R439 to R442) -/

/-- An image's header fields match R440: `maxLen` body bytes at most, role `role`. -/
def fwHeaderOk (h : List Byte) (role maxLen : Nat) : Bool :=
  decide (bytesAt h 0 8 = [0x57, 0x45, 0x41, 0x5A, 0x4D, 0x50, 0x46, 0x57])
    && leAt h 8 2 == 1 && leAt h 10 1 == role && leAt h 11 1 ≤ 4 && leAt h 12 4 == 0x2C4E9A3B
    && leAt h 22 2 == 0 && leAt h 24 4 % 4 == 0 && leAt h 24 4 ≤ maxLen
    && leAt h 28 4 % 4 == 0 && leAt h 28 4 < leAt h 24 4
    && (leAt h 11 1 != 0 || leAt h 32 133 == 0) && leAt h 165 347 == 0

/-- The boot ROM accepts an image (R441): its header, then its seal under the vendor key (`vendor`: it
verifies under that key, whose value the spec does not give, log 16) or under the owner's. `bs` holds
header, body and seal. -/
def fwAccepts (d : Dev) (bs : List Byte) (role maxLen : Nat) (vendor : Bool) : Bool :=
  let signer := leAt bs 11 1
  let n := 512 + leAt bs 24 4
  let sl := bytesAt bs n 256
  fwHeaderOk bs role maxLen
    && decide (bytesAt sl 0 8 = [0x57, 0x45, 0x41, 0x5A, 0x53, 0x45, 0x41, 0x4C])
    && decide (bytesAt sl 8 64 = sha512 (bytesAt bs 0 n))
    && (if signer = 0 then vendor
        else d.slotUsable (signer - 1)
          && decide (sha512 (bytesAt bs 32 133) = SMap.get [] d.keys.slots (signer - 1))
          && p521Verify (bytesAt bs 32 133) (bytesAt bs 0 n) (ofBe (bytesAt sl 72 66))
              (ofBe (bytesAt sl 138 66)))

/-- The image at flash offset `o`: its header, body and seal. -/
def flashImage (d : Dev) (o maxLen : Nat) : List Byte :=
  let h := (List.range 512).map (fun k => d.flashByte (o + k))
  let n := 512 + min (leAt h 24 4) maxLen + 256
  (List.range n).map (fun k => d.flashByte (o + k))

/-- Header and body of an accepted image. -/
def fwBody (bs : List Byte) : List Byte := bytesAt bs 0 (512 + leAt bs 24 4)

/-- Body bytes at most (R440). -/
def primaryMax : Nat := 785664
def extensionMax : Nat := 261376

/-- The firmware of image `bs`, whose body lies at core address `base`, runs (R442): RUNNING is set, the
extension area is checked, and a start-up at step 2 goes on to step 3 (R481). -/
def fwJump (bs : List Byte) (base : Nat) (slot : Option Nat) (vendorX : Bool) (d : Dev) : Dev :=
  let ext := d.flashImage 0x180000 extensionMax
  let extOk := d.fwAccepts ext 2 extensionMax vendorX
  let d1 := { d with
    fwImage := fwBody bs, extImage := if extOk then fwBody ext else []
    mp := { d.mp with pc := BitVec.ofNat 32 (base + leAt bs 28 4), slot := slot } }
  let d2 := ((d1.raise Reg.MP_STS_RUNNING).clear Reg.MP_STS_RECOVERY).setBit Reg.MP_STS_EXT_VALID extOk
  if d2.get Reg.START_STS_STEP = 2 then d2.set Reg.START_STS_STEP 3 else d2

/-- The core runs the boot ROM: it has left reset and jumped nowhere yet. -/
def inBootRom (d : Dev) : Bool :=
  d.mpAtBoundary && !d.on Reg.MP_STS_RUNNING && d.mp.pc.toNat < 0x8000

/-- The boot ROM works in SRAM 0x2007_C000 to 0x2007_FFFF (R442); what it leaves there the spec does not say
(log 128). -/
def romWork (d : Dev) : Dev :=
  let r := d.freeBelow (256 ^ 0x4000)
  r.2.storeBytes (.hs 0) 0x7C000 (leBytes 0x4000 r.1)

/-- BOOT_ROM_RUN: the boot ROM checks slots A and B and runs the valid image with the higher VERSION,
slot A when they are equal; with neither valid it waits for a recovery image (R442). The operands say
whether the seals of vendor-signed images in slot A, slot B and the extension area verify. -/
def bootRomRun (vendorA vendorB vendorX : Bool) (d : Dev) : Dev :=
  if !d.inBootRom ∨ d.flashBusy ∨ d.on Reg.MP_STS_RECOVERY then d
  else
    let a := d.flashImage 0 primaryMax
    let b := d.flashImage 0xC0000 primaryMax
    let okA := d.fwAccepts a 1 primaryMax vendorA
    let okB := d.fwAccepts b 1 primaryMax vendorB
    let d1 := if okA && okB then d.romWork else d.romWork.raise Reg.MP_EVT_FW_REJECTED
    if okA && (!okB || leAt b 16 4 ≤ leAt a 16 4) then
      (d1.clear Reg.MP_STS_SLOT).fwJump a 0x10000200 (some 0) vendorX
    else if okB then (d1.raise Reg.MP_STS_SLOT).fwJump b 0x100C0200 (some 1) vendorX
    else d1.raise Reg.MP_STS_RECOVERY

/-- RECOVERY_IMAGE_RECEIVED: an image has come over UART0; the boot ROM stores its body from
0x2001_0000, checks it and runs it from SRAM, or waits for the next (R442). -/
def recoveryImageReceived (bs : List Byte) (vendor vendorX : Bool) (d : Dev) : Dev :=
  if !d.inBootRom ∨ !d.on Reg.MP_STS_RECOVERY then d
  else
    let body := (bs.drop 512).take (min (leAt bs 24 4) 393216)
    let d1 := d.romWork.storeBytes (.hs 0) 0x10000 body
    if d1.fwAccepts bs 1 393216 vendor then d1.fwJump bs 0x20010000 none vendorX else d1

/-! ## Flash programming (R438) -/

/-- Flash offset `o` lies in the slot of the running primary image (R439). -/
def inRunningSlot (d : Dev) (o : Nat) : Bool :=
  match d.mp.slot with
  | some k => k * 0xC0000 ≤ o && o < (k + 1) * 0xC0000
  | none => false

/-- A flash command is refused: REFUSED is set. -/
def flashRefuse (d : Dev) (c : Code) : Dev × Code :=
  ((((d.raise Reg.FLASH_EVT_REFUSED).cmdStart 0x1201 1).cmdDone 0x1201 1 c), c)

/-- A flash command is accepted or refused: BUSY while one runs, DENIED inside the running primary slot,
and TARGET_ERR for a PROGRAM of bytes that are not all erased. -/
def flashEff (program : Bool) (d : Dev) : Dev × Code :=
  let o := d.get Reg.FLASH_ADDR_ADDR
  let a := if program then o / 8 * 8 else o / 4096 * 4096
  if d.flashBusy then (d, .busy)
  else if d.inRunningSlot o then d.flashRefuse .denied
  else if program ∧ (List.range 8).any (fun k => d.flashByte (a + k) != 0xFF) then
    d.flashRefuse .targetErr
  else
    let data := leBytes 4 (d.get (Reg.FLASH_DATA_WORD 0)) ++ leBytes 4 (d.get (Reg.FLASH_DATA_WORD 1))
    let d1 := d.setMp { d.mp with flashCmd := some (a, if program then some data else none) }
    ((d1.raise Reg.FLASH_STS_BUSY).cmdStart 0x1201 1, .ok)

/-- FLASH_DONE: the command completes, DONE is set, and a core that waits on the flash goes on. -/
def flashDone (d : Dev) : Dev :=
  match d.mp.flashCmd with
  | none => d
  | some (a, data) =>
    let d1 := match data with
      | none => { d with flash := SMap.only (fun k => !(a ≤ k && k < a + 4096)) d.flash }
      | some bs => { d with flash :=
          (List.range 8).foldl (fun f k => SMap.put 0xFF f (a + k) (bs.getD k 0)) d.flash }
    let d2 := d1.setMp { d1.mp with flashCmd := none }
    let d3 := ((d2.clear Reg.FLASH_STS_BUSY).raise Reg.FLASH_EVT_DONE).cmdDone 0x1201 1 .ok
    match d3.mp.stall with
    | some (.flash i) => (d3.setMp { d3.mp with stall := none }).mpExec i
    | some .fetch =>
      match d3.mpPlace d3.mp.pc with
      | .flash _ => (d3.setMp { d3.mp with stall := none }).mpFetchExec
      | _ => d3
    | _ => d3

end Dev

end Sys2Proof.Machine
end

