-- ==== Sys2Proof/Machine/Debug.lean ====
section
/-! DEFINITION. The serial ports (R443, R444, R446), the leash (R452 to R456), the debug bus master
(R457) and the watchdog (R458 to R460). -/

namespace Sys2Proof.Machine

/-- The key of a serial port's state. -/
def Serial.key : Serial → Nat
  | .uart n => n.val
  | .i2c n => 4 + n.val
  | .spi n => 8 + n.val
  | .xspi => 10
  | .mdio n => 12 + n.val

/-- Bytes of a port's FIFO each way (R443). -/
def Serial.depth : Serial → Nat
  | .uart _ => 64
  | .i2c _ => 32
  | .spi _ => 32
  | .xspi => 256
  | .mdio _ => 0

namespace Dev

/-! ## Serial ports -/

/-- The state of a serial port. -/
def serialSt (d : Dev) (p : Serial) : SerialSt := SMap.get {} d.serial p.key

/-- The device with a serial port's state replaced. -/
def setSerial (d : Dev) (p : Serial) (x : SerialSt) : Dev :=
  { d with serial := SMap.put {} d.serial p.key x }

/-- A write of a FIFO data register appends the byte, or is answered BUSY when the FIFO is full
(R446). -/
def fifoWrite (p : Serial) (b : Byte) (d : Dev) : Dev × Code :=
  let s := d.serialSt p
  if p.depth ≤ s.tx.length then (d, .busy) else (d.setSerial p { s with tx := s.tx ++ [b] }, .ok)

/-- A FIFO data register as it reads: the oldest received byte, or RX_EMPTY in bit 8 (R446). -/
def fifoWord (d : Dev) (p : Serial) : Word :=
  match (d.serialSt p).rx with
  | [] => 0x100
  | b :: _ => b.zeroExtend 32

/-- A read without NOSIDE pops the entry it returns (R446). -/
def fifoPop (p : Serial) (d : Dev) : Dev :=
  let s := d.serialSt p
  d.setSerial p { s with rx := s.rx.tail }

/-- The UART is enabled; one whose CTL register has failed is disabled (R446). -/
def uartOn (d : Dev) (n : Nat) : Bool := d.ctlOn (Reg.UART_CTL_EN n)

/-- UART_RX_BYTE: a byte received on UART `n` enters its FIFO, with framing, parity and overrun errors
flagged (R443, R446). -/
def uartRxByte (n : Fin 4) (b : Byte) (frameErr parityErr : Bool) (d : Dev) : Dev :=
  if !d.uartOn n.val then d
  else
    let s := d.serialSt (.uart n)
    let d1 := if frameErr then d.raise (Reg.UART_EVT_FRAME_ERR n) else d
    let d2 := if parityErr ∧ d1.get (Reg.UART_CTL_PARITY n) ≠ 0 then
        d1.raise (Reg.UART_EVT_PARITY_ERR n)
      else d1
    if 64 ≤ s.rx.length then d2.raise (Reg.UART_EVT_RX_OVERRUN n)
    else (d2.setSerial (.uart n) { s with rx := s.rx ++ [b] }).raise (Reg.UART_EVT_RX_AVAIL n)

/-- A transfer of port `p` starts; one that runs makes GO BUSY. -/
def serialGo (p : Serial) (d : Dev) : Dev × Code :=
  let s := d.serialSt p
  if s.busy then (d, .busy) else (d.setSerial p { s with busy := true }, .ok)

/-- I2C GO: LEN runs from 1 to 255 (R446). -/
def i2cGoEff (n : Fin 4) (d : Dev) : Dev × Code :=
  if d.get (Reg.I2C_XFER_LEN n) = 0 then (d, .targetErr) else d.serialGo (.i2c n)

/-- The start-up loader reads a stream from xSPI (R444). -/
def loaderOwnsXspi (d : Dev) : Bool :=
  match d.load with
  | some l => match l.src with | .flash _ _ => true | _ => false
  | none => false

/-- XSPI GO: BUSY while the loader owns the controller (R444). -/
def xspiGoEff (d : Dev) : Dev × Code := if d.loaderOwnsXspi then (d, .busy) else d.serialGo .xspi

/-- Received bytes enter a port's FIFO; those beyond its depth are lost. -/
def serialRx (p : Serial) (bs : List Byte) (d : Dev) : Dev :=
  let s := d.serialSt p
  d.setSerial p { s with rx := (s.rx ++ bs).take p.depth }

/-- The CTL register that disables port `p` when it fails (R446). -/
def serialCtl : Serial → Nat
  | .uart n => Reg.UART_CTL n
  | .i2c n => Reg.I2C_CTL n
  | .spi n => Reg.SPI_CTL n
  | .xspi => Reg.XSPI_CTL
  | .mdio n => Reg.MDIO_CTL n

/-- SERIAL_TRANSFER_DONE: a transfer of a serial port completes (R443, R446). On a UART one byte has left;
elsewhere DONE is set. `rx` are the bytes received, or MDIO's 16 data bits; `status` are NACK, ARB_LOST,
TIMEOUT and PEC_ERR of an I2C transfer. A port that has failed is disabled (R446). -/
def serialTransferDone (p : Serial) (rx : List Byte) (status : BitVec 4) (d : Dev) : Dev :=
  let s := d.serialSt p
  if d.failed (serialCtl p) then d
  else match p with
  | .uart n =>
    if s.tx = [] ∨ !d.uartOn n.val then d
    else
      let d1 := d.setSerial p { s with tx := s.tx.tail }
      if s.tx.tail = [] then d1.raise (Reg.UART_EVT_TX_EMPTY n) else d1
  | .i2c n =>
    if !s.busy then d
    else
      let len := d.get (Reg.I2C_XFER_LEN n)
      let d1 := if d.on (Reg.I2C_XFER_READ n) then
          (d.setSerial p { s with busy := false }).serialRx p (rx.take len)
        else d.setSerial p { s with busy := false, tx := s.tx.drop len }
      let d2 := d1.raise (Reg.I2C_EVT_DONE n)
      d2.set ⟨Reg.I2C_EVT n, 1, 4, false, 0x1218 + n⟩
        (d2.get ⟨Reg.I2C_EVT n, 1, 4, false, 0x1218 + n⟩ ||| status.toNat)
  | .spi n =>
    if !s.busy then d
    else
      let len := d.get (Reg.SPI_XFER_LEN n)
      ((d.setSerial p { s with busy := false, tx := s.tx.drop len }).serialRx p (rx.take len)).raise
        (Reg.SPI_EVT_DONE n)
  | .xspi =>
    if !s.busy then d
    else
      let len := d.get Reg.XSPI_XFER_LEN
      (if d.on Reg.XSPI_XFER_WRITE then
          d.setSerial p { s with busy := false, tx := s.tx.drop len }
        else (d.setSerial p { s with busy := false }).serialRx p (rx.take len)).raise
        Reg.XSPI_EVT_DONE
  | .mdio n =>
    if !s.busy then d
    else
      let d1 := (d.setSerial p { s with busy := false }).raise (Reg.MDIO_EVT_DONE n)
      if 2 ≤ d1.get (Reg.MDIO_XFER_OP n) then d1.set (Reg.MDIO_XFER_DATA n) (leAt rx 0 2) else d1

/-- TGT_REQ: an outside controller addresses I2C port `n`, enabled as target (R443, R446). -/
def tgtReq (n : Fin 4) (d : Dev) : Dev :=
  if d.ctlOn (Reg.I2C_CTL_TGT_EN n) then d.raise (Reg.I2C_EVT_TGT_REQ n) else d

/-! ## The watchdog -/

/-- The watchdog counts (R458, R460): it is enabled and not frozen; a failed WDT_CTL keeps it counting
(R462). -/
def wdtCounts (d : Dev) : Bool :=
  (d.failed Reg.WDT_CTL || d.on Reg.WDT_CTL_EN) && !d.on Reg.WDT_STS_FROZEN

/-- REMAIN reloads with TIMEOUT (R458); a failed register's value stays in force (R462). -/
def wdtReload (d : Dev) : Dev := d.set Reg.WDT_STS_REMAIN (d.get Reg.WDT_TIMEOUT_TIMEOUT)

/-- KICK (R458). -/
def kickEff (d : Dev) : Dev × Code := ((d.wdtReload).clear Reg.WDT_STS_STAGE, .ok)

/-- BARK of the watchdog's own: it is counted, and STAGE and REMAIN follow (R459). -/
def barked (d : Dev) : Dev :=
  (((d.raise Reg.WDT_EVT_BARK).count Reg.WDT_CNT_BARK_CNT).raise Reg.WDT_STS_STAGE).wdtReload

/-- BARK (R459): the MP takes the NMI, or resets with cause DOUBLE when EXC is 1; a halted or waiting core
takes it when it goes on (R454). -/
def barkEff (d : Dev) : Dev :=
  let d2 := d.barked
  if d2.mpHeld then d2
  else if d2.mp.exc ∧ !d2.halted then d2.mpReset 2
  else (d2.setMp { d2.mp with nmi := true }).mpSettle

/-- BARK: REMAIN reaches 0 while COUNTING. -/
def bark (d : Dev) : Dev := if d.wdtCounts ∧ !d.on Reg.WDT_STS_STAGE then d.barkEff else d

/-- The write of EN or LOCK is refused: LOCK holds, and the write changes one of them (R458). -/
def wdtDenied (d : Dev) (w : Word) : Bool :=
  d.on Reg.WDT_CTL_LOCK && (fieldOf w 0 2 != d.get ⟨Reg.WDT_CTL, 0, 2, true, 0x9010⟩)

/-- LOCK makes EN read 1 (R458). -/
def wdtCtlWritten (d : Dev) : Dev := if d.on Reg.WDT_CTL_LOCK then d.raise Reg.WDT_CTL_EN else d

/-! ## The leash -/

/-- The halt is due at once: the core waits for no response and no flash command (R453). -/
def haltNow (d : Dev) : Bool := d.mp.stall.isNone || d.mp.stall == some .wait

/-- HALT (R452, R453); it ends a step of a WAIT as it ends a WAIT. -/
def haltEff (d : Dev) : Dev × Code :=
  if d.mpHeld ∨ (d.halted ∧ !(d.mp.stepping && d.mp.stall == some .wait)) then (d, .ok)
  else if d.haltNow then (d.mpHalt 1, .ok)
  else (d.setMp { d.mp with haltDue := some 1 }, .ok)

/-- HALT_ENTERED: the work that the halt waited for has completed (R453). -/
def haltEntered (d : Dev) : Dev :=
  match d.mp.haltDue with
  | some c => if d.haltNow ∧ !d.halted then d.mpHalt c else d
  | none => d

/-- A leash command is turned away: the core is not halted, or a fed instruction or a step runs
(R455). -/
def leashBusy (d : Dev) : Bool := !d.halted || d.on Reg.DBG_STS_DBUSY

/-- RESUME (R455, R460): the watchdog goes on from REMAIN, but with GRACE at least; a pending NMI is
taken. With HALT in the same write the core stays halted (R461). -/
def resumeEff (withHalt : Bool) (d : Dev) : Dev × Code :=
  if d.leashBusy then (d, .busy)
  else if withHalt then (d, .ok)
  else
    let d1 := (d.clear Reg.DBG_STS_HALTED).clear Reg.WDT_STS_FROZEN
    let grace := d1.get Reg.WDT_GRACE_GRACE
    let d2 := if d1.get Reg.WDT_STS_REMAIN < grace then d1.set Reg.WDT_STS_REMAIN grace else d1
    (d2.mpSettle, .ok)

/-- STEP (R455): the instruction at the PC is executed, and the core halts again with cause 0x3. -/
def stepEff (d : Dev) : Dev × Code :=
  if d.leashBusy then (d, .busy)
  else
    let d1 := (d.setMp { d.mp with stepping := true }).raise Reg.DBG_STS_DBUSY
    (d1.mpFetchExec, .ok)

/-- DINSTR_GO may not execute it (R455). -/
def fedRefused : MpInsn → Bool
  | .branch _ _ _ => true
  | .jump _ => true
  | .jumpLink _ => true
  | .jr _ => true
  | .jrl _ => true
  | .ret => true
  | .rte => true
  | .wait => true
  | .brk => true
  | _ => false

/-- DINSTR_GO (R455): the word in DINSTR is executed once; the PC does not move. -/
def dinstrEff (d : Dev) : Dev × Code :=
  if d.leashBusy then (d, .busy)
  else
    let i := mpDecode (d.word Reg.DINSTR)
    if (i.map fedRefused).getD false then (d.raise Reg.DBG_EVT_DINSTR_REFUSED, .ok)
    else
      let d1 := (d.setMp { d.mp with fed := true }).raise Reg.DBG_STS_DBUSY
      match i with
      | none => (d1.mpExc 1 none none, .ok)
      | some x => (d1.mpExec x, .ok)

/-- The register that DREG_SEL names (R462). -/
def dreg (d : Dev) : Word :=
  let s := d.get Reg.DREG_SEL_SEL
  if s = 16 then d.mp.lk else if s = 17 then d.mpStatus else if s = 18 then d.mp.epc
  else if s = 0 then 0 else d.mp.g.getD s 0

/-- It is written (R454, R462). -/
def setDreg (d : Dev) (v : Word) : Dev :=
  let s := d.get Reg.DREG_SEL_SEL
  if s = 16 then d.setMp { d.mp with lk := v }
  else if s = 17 then d.setStatus v
  else if s = 18 then d.setMp { d.mp with epc := v }
  else if s = 0 then d
  else d.setMp { d.mp with g := d.mp.g.set s v }

/-! ## The debug bus master (R457) -/

/-- DBM_ADDR. -/
def dbmAddr (d : Dev) : Nat := d.get Reg.DBM_ADDR_HI_ADDR * 2 ^ 32 + d.get Reg.DBM_ADDR_LO_ADDR

/-- GO: one read or write of 4 bytes at DBM_ADDR with byte enables DBM_BE; BUSY while one is
outstanding. -/
def dbmGoEff (d : Dev) : Dev × Code :=
  if d.on Reg.DBM_STS_BUSY then (d, .busy)
  else
    let a := d.dbmAddr
    let be := d.get Reg.DBM_CTL_DBM_BE * 2 ^ (a % 64) % 2 ^ 64
    let d1 := d.raise Reg.DBM_STS_BUSY
    let noside := d.on Reg.DBM_CTL_NOSIDE
    if d.on Reg.DBM_CTL_WRITE then
      let line := (List.replicate (a % 64) (0 : Byte) ++ leBytes 4 (d.get Reg.DBM_DATA_DATA)
        ++ List.replicate 64 0).take 64
      (d1.niPresent 167 { cmd := 1, addr := a, len := 1, beFirst := be, noside := noside, data := line },
        .ok)
    else (d1.niPresent 167 { cmd := 0, addr := a, len := 1, beFirst := be, noside := noside }, .ok)

/-- DBM_RESPONSE: the response of a read, or the acknowledgement of a write, has arrived. -/
def dbmResponse (d : Dev) : Dev :=
  let s := d.niSt 167
  if !d.on Reg.DBM_STS_BUSY then d
  else match s.rs with
    | p :: rest =>
      let d1 := (d.setNi 167 { s with rs := rest }).niPump 167
      let d2 := ((d1.set Reg.DBM_STS_CODE p.code.num).setBit Reg.DBM_STS_POISON p.poison).clear
        Reg.DBM_STS_BUSY
      if p.code = .ok ∨ p.code = .poison then
        d2.set Reg.DBM_DATA_DATA (leAt p.data (d.dbmAddr % 64) 4)
      else d2
    | [] =>
      match s.writes with
      | [] => d
      | w :: _ =>
        match w.code with
        | none => d
        | some c =>
          ((d.setNi 167 { s with writes := [] }).set Reg.DBM_STS_CODE c.num).clear Reg.DBM_STS_BUSY

end Dev

end Sys2Proof.Machine
end

