-- ==== Sys2Proof/Machine/LaneWords.lean ====
section
/-! DEFINITION. The words of the serial lanes (R386 to R393): their fit to a coder, the FIFOs between the lane and
the fabric's word clock, patterns, and injection. -/

namespace Sys2Proof.Machine

namespace Dev

/-! ## Words -/

/-- The fabric exchanges words with the lane now: the attachment is open and its word clock, WCLK_SRC, runs
(R389). -/
def laneClocked (d : Dev) (l : LaneId) : Bool :=
  match l.attach with
  | none => false
  | some (n, i) => d.laneOpen l && d.clockReaches (Fin.ofNat 128 n) (d.cfg n 3629 (8 * i + 1) 6)

/-- A received word in the lane's width: unused bits read 0, and a RAW coder never sets ERR (R386, R388,
R389). -/
def laneFit (d : Dev) (l : LaneId) (w : LaneWord) : LaneWord :=
  let c := d.laneCoder l
  let it := wordItems l.isLine c (d.ctl l.WIDTH)
  let hdr := if c = 0 then 0 else if c = 4 then 2 * it.1 else it.1
  { data := BitVec.ofNat 512 (w.data.toNat % 2 ^ (it.1 * it.2))
    hdr := BitVec.ofNat 8 (w.hdr.toNat % 2 ^ hdr)
    err := BitVec.ofNat 8 (if c = 0 then 0 else w.err.toNat % 2 ^ it.1)
    poison := w.poison }

/-- How many of the low eight bits are set. -/
def ones8 (v : Nat) : Nat := ((List.range 8).filter (fun i => v.testBit i)).length

/-- A word as it leaves a lane's FIFO, whose stored bytes `flips` have changed (R285). -/
def fifoOut (flips : List (Nat × BitVec 13)) (w : LaneWord) : LaneWord :=
  let x := transit flips (leBytes 64 w.data.toNat)
  { w with data := BitVec.ofNat 512 (ofLe x.1), poison := w.poison || x.2 }

/-- LANE_RX_WORD: a decoded word arrives (R390, R391), after the fabric has taken `take` words from the FIFO, byte `b`
of the `i`-th at 64 i + b in `flips` (R285). With the
checker locked its line bits are compared, `errs` of them in error (R392). The words of a port lane
go to its port. An error found while the lane is not ALIGNED is not counted (log 126). -/
def laneRxWord (l : LaneId) (w : LaneWord) (take errs : Nat) (flips : List (Nat × BitVec 13)) (d : Dev) : Dev :=
  if l.isPort ∨ !(3 ≤ d.lstate l && d.lstate l ≤ 5) ∨ !d.laneAwake l then d
  else
    let s := d.laneSt l
    let chk := d.ctl l.CHK ≠ 0
    let s1 := if d.laneClocked l ∧ !chk then
        { s with rx := s.rx.drop take
                 rxOut := ((s.rx.take take).zipIdx).map (fun e => fifoOut (flips.filterMap (fun f =>
                   if f.1 / 64 = e.2 then some (f.1 % 64, f.2) else none)) e.1) }
      else s
    let d0 := d.setLane l s1
    let d1 := if d.on l.CHK_LOCKED then
        (d0.count64 (l.fld 0x50 0 32) (l.fld 0x54 0 32) (d.laneBits l)).count64 (l.fld 0x48 0 32)
          (l.fld 0x4C 0 32) (min errs (d.laneBits l))
      else d0
    if !d.on l.ALIGNED then d1
    else
      let v := d.laneFit l w
      let bad := ones8 v.err.toNat
      let d2 := if (d.laneCoder l = 3 ∨ d.laneCoder l = 4) ∧ bad ≠ 0 then
          (d1.count (l.fld 0x5C 0 32) bad).raise (l.fld 0x2C 10 1)
        else d1
      if !d.laneOpen l ∨ 64 ≤ s1.rx.length then
        (d2.count (l.fld 0x64 16 16)).raise (l.fld 0x2C 9 1)
      else d2.setLane l { d2.laneSt l with rx := s1.rx ++ [v] }

/-- One bit of a pattern: the next bit and the register after it. -/
def prbsNext (p s : Nat) : Bool × Nat :=
  let t := prbsTaps p
  let b := t.2.foldl (fun a k => a ^^ s.testBit (k - 1)) (s.testBit (t.1 - 1))
  (b, (2 * s + (if b then 1 else 0)) % 2 ^ t.1)

/-- `n` line bits of a pattern, the first in bit 0, and the generator's state after them (R392). -/
def patternBits (d : Dev) (l : LaneId) (n s : Nat) : Nat × Nat :=
  let p := d.ctl l.GEN
  let inv := d.ctlOn (l.fld 0x30 8 1)
  (List.range n).foldl (fun a i =>
    let r : Bool × Nat :=
      if p = 8 then
        (fieldOf (d.word (l.base + 0x34 + 4 * (a.2 % 128 / 32))) (a.2 % 32) 1 == 1, (a.2 + 1) % 128)
      else prbsNext p a.2
    (if r.1 != inv then a.1 + 2 ^ i else a.1, r.2)) (0, s)

/-- The line bits of a word of `b` bits that an injection flips, and the lane after the word (R393): one bit, LEN
bits in a row, or one in every 2^RATE_LOG. They begin with the next word's first bit (log 125). -/
def injected (d : Dev) (l : LaneId) (b : Nat) (s : LaneSt) : LaneSt :=
  if s.inj = 3 then
    let r := 2 ^ d.ctl (l.fld 0x44 10 5)
    { s with outInj := (List.range b).foldl (fun a i => if (s.injAt + i) % r = 0 then a + 2 ^ i else a) 0
             injAt := (s.injAt + b) % r }
  else
    let k := min s.injLeft b
    { s with outInj := 2 ^ k - 1, injLeft := s.injLeft - k }

/-- LANE_TX_WORD: the transmitter needs its next word (R390 to R393), after the fabric has offered the
words `offered`. Its generator's pattern, a word of the FIFO, whose stored bytes `flips` have changed (R285), or the
idle word. -/
def laneTxWord (l : LaneId) (offered : List LaneWord) (flips : List (Nat × BitVec 13)) (d : Dev) : Dev :=
  if l.isPort ∨ !(2 ≤ d.lstate l && d.lstate l ≤ 5) ∨ !d.laneAwake l then d
  else
    let s := { d.injected l (d.laneBits l) (d.laneSt l) with outInv := d.ctlOn (l.fld 0 12 1) }
    if d.ctl l.GEN ≠ 0 then
      let b := d.patternBits l (d.laneBits l) s.gen
      d.setLane l { s with gen := b.2, out := some (.pattern b.1) }
    else
      let tx := if d.laneClocked l then s.tx ++ (offered.map (d.laneFit l)).take (64 - s.tx.length) else s.tx
      match tx with
      | w :: rest => d.setLane l { s with tx := rest, out := some (.word (fifoOut flips w)) }
      | [] =>
        ((d.count (l.fld 0x64 0 16)).raise (l.fld 0x2C 8 1)).setLane l { s with tx := [], out := some .idle }

end Dev

end Sys2Proof.Machine
end

