-- ==== Sys2Proof/Machine/Power.lean ====
section
/-! DEFINITION. Power (R401 to R420), the rail monitors (R498, R516), the divisor switch (R190) and the
snapshot (R29, R94): domains leave D0 through drain and fence and return on a GO or a wake source;
levels, voltages and the tier move over AVSBus. -/

namespace Sys2Proof.Machine

/-! ## Domains -/

/-- The kinds of domain (R401). -/
inductive DomKind where
  | aon | cfg | port (p : Nat) | part (p : Nat) | eng (e : Nat) | dram (k : Nat) | quad | pq
  | region (n : Nat)
deriving DecidableEq, Repr

/-- The kind of domain `m`; none for the unused numbers (R401). -/
def domKind (m : Nat) : Option DomKind :=
  if m = 0 then some .aon
  else if m = 1 then some .cfg
  else if m < 4 then some (.port (m - 2))
  else if m < 12 then some (.part (m - 4))
  else if m < 16 then some (.eng (m - 12))
  else if m < 48 then some (.dram (m - 16))
  else if m < 80 then some .quad
  else if m < 82 then some .pq
  else if m < 128 then none
  else some (.region (m - 128))

/-- The network interface whose guard is the domain's (R332). -/
def domNi (m : Nat) : Option Nat :=
  match domKind m with
  | some (.region n) => some n
  | some (.dram k) => some (128 + k)
  | some (.eng e) => some (160 + e)
  | some .cfg => some 165
  | _ => none

/-- The states that a kind accepts (R403). -/
def DomKind.accepts (k : DomKind) (target : Nat) : Bool :=
  match k with
  | .aon => target == 0
  | .cfg => target ≤ 1
  | .part p => target == 0 || p ≤ 1 || 6 ≤ p
  | _ => true

/-- The wake sources that a kind has, as a mask of WAKE_EN (R409). -/
def DomKind.sources : DomKind → Nat
  | .aon => 0
  | .pq => 0
  | .quad => 3
  | .port _ => 3
  | _ => 1

namespace Dev

/-- The state of a domain beside its registers. -/
def domSt (d : Dev) (m : Nat) : DomSt := SMap.get {} d.doms m

/-- The device with a domain's state replaced. -/
def setDom (d : Dev) (m : Nat) (x : DomSt) : Dev := { d with doms := SMap.put {} d.doms m x }

/-- DOM_STS.STATE of domain `m`; a port quad shows the state of its port (R403). -/
def setDomState (d : Dev) (m s : Nat) : Dev :=
  let d1 := d.set (Reg.DOM_STS_STATE m) s
  if m = 2 ∨ m = 3 then d1.set (Reg.DOM_STS_STATE (78 + m)) s else d1

/-- The domain is DRAINING or WAKING. -/
def domMoving (d : Dev) (m : Nat) : Bool := d.on (Reg.DOM_STS_DRAINING m) || d.on (Reg.DOM_STS_WAKING m)

/-- Some domain is DRAINING or WAKING (R411). -/
def anyMoving (d : Dev) : Bool := (List.range 256).any d.domMoving

/-- Whether a store's line in channel `k` bars it from D3 (R403). -/
def storeBars (d : Dev) (k : Nat) : Bool :=
  (d.on Reg.SCRUB_STS_GOLDEN_USABLE || d.on Reg.CTX_STS_IN_USE) && d.storeInChannel k

/-- The preconditions of R403 that can change. -/
def domReady (d : Dev) (k : DomKind) : Bool :=
  match k with
  | .cfg => d.load.isNone && !d.ctlOn Reg.SCRUB_CTL_ENABLE && d.scrub.building.isNone
  | .port p =>
    let o := 3 - p
    d.domState o == 0 && !d.domMoving o && d.linkUp (1 - p)
  | .part p =>
    (List.range 170).all (fun i => wsPart (niWs i) != p
        || (match niDomain i with | some m => d.domState m == 3 | none => false))
      && (List.range 12).all (fun y =>
        (p == 0 || !(d.bit (Reg.PORT_EN_ACTIVE (16 * y + (2 * p - 1))) 1))
          && (p == 7 || !(d.bit (Reg.PORT_EN_ACTIVE (16 * y + (2 * p + 2))) 3)))
  | .eng e => (List.range 4).all (fun q => d.get Reg.CTX_STS_ENG_MAP / 4 ^ q % 4 != e)
  | .region n => d.rstate n != rsSwapping && d.rstate n != rsHeld
  | _ => true

/-- The outcome of a domain (R419): its code, and the event that goes with it (none for ABORTED). -/
def domOutcome (d : Dev) (m code : Nat) : Dev :=
  let d1 := (((d.set (Reg.DOM_STS_OUTCOME m) code).set Reg.PWR_LAST_DOMAIN m).set
    Reg.PWR_LAST_OUTCOME code).raise Reg.PWR_LAST_VALID
  match code with
  | 0 => d1.raise Reg.PWR_EVT_DOMAIN_DONE
  | 1 => d1.raise Reg.PWR_EVT_DRAIN_TIMEOUT
  | 2 => d1.raise Reg.PWR_EVT_WAKE_RACE
  | 3 => d1.raise Reg.PWR_EVT_ACCESS_CANCEL
  | _ => d1

/-! ## Snapshots -/

/-- Every counter that a snapshot copies: the key of its holding object, its domain, and its value
(R29, R95). -/
def snapCounters (d : Dev) : List (Nat × Nat × Nat) :=
  let w := fun (f : Fld) => d.get f
  (List.range 128).map (fun n => (objKey (0xE200 + n) 1, 128 + n,
      (d.word (Reg.BM_STALL n 1)).toNat * 2 ^ 32 + (d.word (Reg.BM_STALL n 0)).toNat))
  ++ (List.range 128).map (fun n => (objKey (0xE280 + n) 1, 128 + n, w (Reg.DSP_SAT_CNT_SAT_CNT n)))
  ++ [(objKey 0xE300 1, 1, w Reg.SCRUB_PASSES_CNT), (objKey 0xE300 2, 1, w Reg.SCRUB_CORRECTED_CNT),
      (objKey 0xE300 3, 1, w Reg.SCRUB_RELOADS_CNT), (objKey 0xE300 4, 1, (d.word Reg.SCRUB_UNREC).toNat),
      (objKey 0xE310 1, 0, w Reg.MEM_CORRECTED_CNT), (objKey 0xE310 2, 0, w Reg.MEM_POISONED_CNT)]
  ++ (List.range 256).map (fun i => (objKey (0xE400 + i) 1, if i < 170 then 4 + wsPart (niWs i) else 0,
      (d.word (Reg.NI_CNT i)).toNat))
  ++ (List.range 32).flatMap (fun k =>
      let r := fun j => if k < 16 then w (Reg.CH_RDWR0_WORD k j) else w (Reg.CH_RDWR1_WORD (k - 16) j)
      [(objKey (0xE500 + k) 1, 16 + k, r 1 * 2 ^ 32 + r 0), (objKey (0xE500 + k) 2, 16 + k, r 3 * 2 ^ 32 + r 2)])
  ++ (List.range 4).map (fun e => (objKey (0xE600 + e) 1, 12 + e,
      w (Reg.CTX_HITS_WORD e 1) * 2 ^ 32 + w (Reg.CTX_HITS_WORD e 0)))
  ++ (List.range 64).map (fun m => (objKey (0xE700 + m) 1, 48 + m / 4, w (Reg.LINE_DEC_UNCORR_CNT m)))
  ++ (List.range 64).map (fun m => (objKey (0xE740 + m) 1, 64 + m / 4, w (Reg.HER_DEC_UNCORR_CNT m)))

/-- SNAP is accepted unless one runs (R31, R94). -/
def snapEff (d : Dev) : Dev × Code :=
  if d.on Reg.SNAP_STS_SNAP_BUSY then (d, .busy)
  else ((d.raise Reg.SNAP_STS_SNAP_BUSY).cmdStart 0x1F10 1, .ok)

/-- SNAPSHOT_COPY: in one root period every counter is copied to its holding value, with what a domain in
D3 held when its fence closed, and SNAP_SEQ, SNAP_TIME and the off flags follow (R29, R94, R95). The
Waybill SNAPSHOTs that wait are answered with the stamp. -/
def snapshotCopy (d : Dev) : Dev :=
  if !d.on Reg.SNAP_STS_SNAP_BUSY then d
  else
    let held := d.snapCounters.foldl (fun a e =>
      SMap.put 0 a e.1 (if d.domState e.2.1 = 3 then SMap.get 0 d.offCounts e.1 else e.2.2)) d.held
    let t := d.get64 (Reg.PACK_TIME_WORD 0) (Reg.PACK_TIME_WORD 1)
    let off := (List.range 256).filter (fun m => d.domState m == 3)
    let d1 := { d with held := held, offFlags := off }
    let d2 := (d1.clear Reg.SNAP_STS_SNAP_BUSY).set Reg.SNAP_STS_SNAP_SEQ
      ((d1.get Reg.SNAP_STS_SNAP_SEQ + 1) % 65536)
    let d3 := ((d2.set64 (Reg.SNAP_TIME_WORD 0) (Reg.SNAP_TIME_WORD 1) t).raise
      Reg.FAULT_EVT_SNAP_DONE).cmdDone 0x1F10 1 .ok
    let d4 := d3.wb.snapshots.foldl
      (fun a r => a.respond r { change := a.changeOf r.msg.index, data := leBytes 8 t }) d3
    { d4 with wb := { d4.wb with snapshots := [] } }

/-! ## Leaving D0 -/

/-- D3 is barred to a DRAM channel that holds lines of a store in use (R403, R404). -/
def DomKind.barred (k : DomKind) (d : Dev) (target : Nat) : Bool :=
  match k with
  | .dram c => target == 3 && d.storeBars c
  | _ => false

/-- The refusals of GO that rank before the unlock check: NO_TARGET and DENIED (R404, R44). -/
def domPre (m target : Nat) (d : Dev) : Option Code :=
  match domKind m with
  | none => some .noTarget
  | some k =>
    let s := d.domState m
    if (target = 0 ∧ d.on (Reg.DOM_STS_DRAINING m)) ∨ (target = s ∧ !d.domMoving m) then none
    else if k = .pq ∨ !k.accepts target ∨ (1 ≤ target ∧ target ≤ 2 ∧ target < s)
        ∨ DomKind.barred k d target then some .denied
    else none

/-- The drain of domain `m` is complete (R405). -/
def drainDone (d : Dev) (m : Nat) : Bool :=
  let quiet := fun i => (d.niSt i).inside == 0 && (d.niSt i).served.isEmpty && (d.niSt i).ready.isEmpty
    && (d.niSt i).rspOut.isEmpty && (d.niSt i).tags.all (fun t => !t.injected)
  match domKind m with
  | some (.region n) => quiet n
  | some (.dram k) => quiet (128 + k) && (d.chSt k).reqs.isEmpty
  | some (.eng e) => quiet (160 + e)
  | some (.part p) => d.noc.flight.all (fun f => wsPart f.ws != p && f.body.all (fun q => wsPart q.ws != p))
  | some .quad => (lanesOf (m - 48)).all (fun l => (d.laneSt l).tx.isEmpty)
  | some (.port p) => (d.port p).txWb.isEmpty && d.wb.queue.all (fun r => r.port.val != p)
      && d.wb.fences.all (fun f => f.req.port.val != p) && d.wb.forwards.all (fun f => f.req.port.val != p)
  | _ => true

/-- Cycle C + 1: the clocks are gated, and in D2 and D3 the switches act; D3 loses what R403 says (R405): a region
its flip-flops, block contents and slice state (R152, R180), which read as zeros from then on (log 113). A channel
closes its rows as it enters self-refresh. -/
def domGate (d : Dev) (m target : Nat) : Dev :=
  match domKind m with
  | some (.port p) =>
    if target < 2 then d
    else
      let d1 := [4 * p, 4 * p + 1, 4 * p + 2, 4 * p + 3].foldl
        (fun a i => a.laneDisable (.port (Fin.ofNat 8 i))) (d.linkLost p)
      let d2 := d1.setPort p { d1.port p with training := false }
      if target < 3 then d2
      else
        let d3 := (d2.putWord (Reg.PORT_CNT p) 0).setPort p { d2.port p with rxFifo := [], rxOut := [], txFifo := [], txWb := [] }
        [4 * p, 4 * p + 1, 4 * p + 2, 4 * p + 3].foldl (fun a i =>
          [0x48, 0x4C, 0x50, 0x54, 0x58, 0x5C, 0x60, 0x64].foldl
            (fun b o => b.putWord (0x0C4000 + 0x100 * i + o) 0) a) d3
  | some (.part p) =>
    if target < 3 then d
    else
      let nis := (List.range 170).filter (fun i => wsPart (niWs i) == p)
      let book := fun (key : Nat) => nis.any (fun i =>
        decide (cellKey (.hs (2 + i)) 0 ≤ key ∧ key < cellKey (.hs (2 + i)) 0 + 2 ^ 31))
      let d1 : Dev := { d with
        cells := SMap.only (fun k => !(book k)) d.cells
        verify := d.verify.filter (fun v => nis.all (fun i => v.unit != .hs (2 + i)))
        slots := SMap.only (fun k => wsPart (k / 1280 % 192) != p) d.slots
        noc := { d.noc with
          undoBook := SMap.only (fun k => !(nis.contains (k / 512))) d.noc.undoBook
          undoSlot := SMap.only (fun k => wsPart (k / 1280 % 192) != p) d.noc.undoSlot
          undoEn := SMap.only (fun w => wsPart w != p) d.noc.undoEn } }
      ((List.range 192).filter (fun w => wsPart w == p)).foldl
        (fun a w => a.putWord (Reg.PORT_EN w) (resetWord (Reg.PORT_EN w))) d1
  | some (.dram k) =>
    let d0 := d.setCh k { d.chSt k with rows := [], passes := [] }
    let d1 := d0.setBit (chF Reg.CH_STS_SELF_REFRESH k) (target < 3)
    if target < 3 then d1
    else
      let lo := cellKey (.dram k) 0
      { d1 with
        cells := SMap.only (fun key => !(decide (lo ≤ key ∧ key < lo + 2 ^ 31))) d1.cells
        verify := d1.verify.filter (fun v => v.unit != .dram k) }
  | some .quad => if target < 2 then d else d.quadSleep m (target == 3)
  | some (.region n) =>
    if target < 3 then d
    else
      let mine := fun (key : Nat) =>
        decide (cellKey (.bm (64 * n)) 0 ≤ key ∧ key < cellKey (.bm (64 * n + 64)) 0)
      { d with
        ff := SMap.only (fun k => k / 131072 != n) d.ff
        slice := SMap.only (fun k => k / 48 != n) d.slice
        cells := SMap.only (fun key => !(mine key)) d.cells
        verify := d.verify.filter (fun v => match v.unit with | .bm b => b / 64 != n | _ => true)
        bm := SMap.remap (fun _ => {}) (fun b s => if b / 64 = n then { scrubPtr := s.scrubPtr } else s) d.bm }
  | _ => d

/-- The drain completes (R405): clocks are gated and the switches act. -/
def domDrained (d : Dev) (m : Nat) : Dev :=
  let x := d.domSt m
  (d.setDom m { x with drained := true }).domGate m x.target

/-- The transition of cycle A (R405): the guard closes, and the counters of the domain are kept for a
snapshot in D3 (R29). From D1 or D2 no drain is needed (R404). -/
def domDown (d : Dev) (m target : Nat) (pend : Bool) : Dev :=
  let kept := d.snapCounters.foldl
    (fun a e => if e.2.1 = m then SMap.put 0 a e.1 e.2.2 else a) d.offCounts
  let d1 := { d with offCounts := kept }
  let d2 := (d1.setDom m { d1.domSt m with target := target, drained := false, late := false }).raise
    (Reg.DOM_STS_DRAINING m)
  let d3 := d2.setBit (Reg.DOM_STS_WAKE_PENDING m) pend
  if d.domState m ≠ 0 then ({ d3 with offCounts := d.offCounts }).domDrained m
  else
    match domNi m with
    | none => d3
    | some i =>
      let d4 := (d3.guardClose i).raise (Reg.DOM_STS_GUARD_CLOSED m)
      if i < 128 then d4.regionFence i else d4

/-- The guard of domain `m` opens (R405, R407). -/
def domOpen (d : Dev) (m : Nat) : Dev :=
  match domNi m with
  | none => d
  | some i =>
    let d1 := (d.clear (Reg.DOM_STS_GUARD_CLOSED m)).guardOpen i
    if i < 128 then d1.regionUnfence i else d1

/-- A power-down is refused or cancelled (R406, R410): the domain is unfenced and stays in D0. -/
def domRefuse (d : Dev) (m code : Nat) : Dev :=
  let d1 := (d.clear (Reg.DOM_STS_DRAINING m)).clear (Reg.DOM_STS_WAKE_PENDING m)
  ((d1.domOpen m).domOutcome m code).barrierDone 4 m .aborted

/-- A return to D0 starts (R407): WAKING is set. A region that lost its state in D3 starts its block
fill. -/
def domWakeStart (d : Dev) (m : Nat) : Dev :=
  let d1 := (d.clear (Reg.DOM_STS_WAKE_PENDING m)).raise (Reg.DOM_STS_WAKING m)
  match domKind m with
  | some (.region n) => if d.domState m = 3 ∧ d1.hasImage n then d1.fillStart n else d1
  | _ => d1

/-- GO with TARGET D0 while DRAINING (R406): the power-down is cancelled, or completes with LATE when its
drain is complete in that cycle or earlier. -/
def domCancel (d : Dev) (m : Nat) : Dev :=
  if (d.domSt m).drained ∨ d.drainDone m then
    let d1 := if (d.domSt m).drained then d else d.domDrained m
    d1.setDom m { d1.domSt m with late := true }
  else d.domRefuse m 4

/-- What makes source `b` of domain `m` able to fire (R409): the TIMER is armed and the device time has reached
WAKE_AT; SIGNAL needs a lane with EN at 1, or is a frame at a port. -/
def sourceReady (d : Dev) (m b : Nat) : Bool :=
  if b = 0 then (d.domSt m).timer && d.ctl (Reg.DOM_WAKE_AT_WAKE_AT m) ≤ d.ctxTime
  else
    match domKind m with
    | some .quad => (lanesOf (m - 48)).any (fun l => d.on l.EN)
    | some (.port _) => true
    | _ => false

/-- Of the sources `co` that fire in this cycle those that can, as a mask of WAKE_EN. -/
def sourcesHit (d : Dev) (m co : Nat) : Nat :=
  [0, 1].foldl (fun a b => if co.testBit b ∧ d.sourceReady m b then a + 2 ^ b else a) 0

/-- A SWAP that reaches the region of domain kind `k` in this cycle is accepted (R219). -/
def swapWins (d : Dev) (k : DomKind) : Bool :=
  match k with
  | .region n => (swapPre n d).isNone && (swapEff n d).2 == .ok
  | _ => false

/-- The effect of GO (R404). `co`: what falls in the CD48 cycle: bits 0 and 1 the wake sources that fire (R409), bit
2 a SWAP of the domain's region, against which a power-down loses (R228, R418). TIMER fires once for each write of
WAKE_AT. -/
def domGoEff (m target co : Nat) (d0 : Dev) : Dev × Code :=
  match domKind m with
  | none => (d0, .noTarget)
  | some k =>
    let en := d0.ctl (Reg.DOM_CTL_WAKE_EN m) &&& k.sources
    let fires := d0.sourcesHit m co
    let hit := en &&& fires
    let d := if fires.testBit 0 then d0.setDom m { d0.domSt m with timer := false } else d0
    if target ≠ 0 ∧ co.testBit 2 ∧ d.swapWins k then (d, .busy)
    else if target = 0 ∧ d.on (Reg.DOM_STS_DRAINING m) then (d.domCancel m, .ok)
    else if target = d.domState m ∧ !d.domMoving m then (d, .ok)
    else if d.domMoving m ∨ (target ≠ 0 ∧ !d.domReady k) then (d, .busy)
    else if target ≠ 0 ∧ hit ≠ 0 ∧ en ≠ 3 then
      let d1 := d.domOutcome m 2
      (if d.domState m = 0 then d1 else d1.domWakeStart m, .busy)
    else if target = 0 then (d.domWakeStart m, .ok)
    else (d.domDown m target (hit != 0), .ok)

/-- DRAIN_COMPLETE: nothing that the drain waits for is left (R405). -/
def drainComplete (m : Fin 256) (d : Dev) : Dev :=
  if d.on (Reg.DOM_STS_DRAINING m) ∧ !(d.domSt m).drained ∧ d.drainDone m then d.domDrained m else d

/-- DOMAIN_STATE_REACHED (R405): the state is in force, and a barrier that names the commit completes. A
wake that is pending, a cancel that came late and requests that the guard holds start the return. -/
def domainStateReached (m : Fin 256) (d : Dev) : Dev :=
  let x := d.domSt m
  if !d.on (Reg.DOM_STS_DRAINING m) ∨ !x.drained then d
  else
    let d1 := (d.setDomState m x.target).clear (Reg.DOM_STS_DRAINING m)
    let d2 := (d1.domOutcome m 0).barrierDone 4 m .ok x.late
    let held : Bool := match domNi m with
      | some i => !(d.niSt i).guarded.isEmpty
      | none => false
    let d3 := d2.setDom m { x with drained := false, late := false }
    if x.late ∨ held ∨ d.on (Reg.DOM_STS_WAKE_PENDING m) then d3.domWakeStart m else d3

/-- DRAIN_TIMEOUT: DRAIN_US has passed since cycle A (R406). A drain that is complete in that cycle wins. -/
def drainTimeout (m : Fin 256) (d : Dev) : Dev :=
  if !d.on (Reg.DOM_STS_DRAINING m) ∨ (d.domSt m).drained then d
  else if d.drainDone m then d.domDrained m
  else d.domRefuse m 1

/-! ## Returning to D0 -/

/-- A wake source of domain `m` fires (R409): it is held pending during a drain, starts the return from a
lower state, and has no effect in D0. -/
def wakeFire (d : Dev) (m : Nat) : Dev :=
  if d.on (Reg.DOM_STS_DRAINING m) then d.raise (Reg.DOM_STS_WAKE_PENDING m)
  else if d.domState m ≠ 0 ∧ !d.on (Reg.DOM_STS_WAKING m) then d.domWakeStart m
  else d

/-- The first access to a guard in compatibility mode (R410): it cancels a power-down whose drain is not
complete, and starts the return from a lower state. -/
def wakeAccess (d : Dev) (m : Nat) : Dev :=
  if d.on (Reg.DOM_STS_DRAINING m) then
    if (d.domSt m).drained then d else d.domRefuse m 3
  else if d.domState m ≠ 0 ∧ !d.on (Reg.DOM_STS_WAKING m) then d.domWakeStart m
  else d

/-- FENCE_GUARD_REQUEST: a request at the closed guard of NI `i` is answered FENCED, or held in
compatibility mode, which wakes the domain (R28, R332, R410). -/
def fenceGuardRequest (i : Fin 170) (d : Dev) : Dev :=
  let r := d.guardRequest i.val
  if r.2 then
    match niDomain i.val with
    | some m => r.1.wakeAccess m
    | none => r.1
  else r.1

/-- DOMAIN_WAKE: a GO to D0 or a wake source acts on a domain below D0 (R407). -/
def domainWake (m : Fin 256) (d : Dev) : Dev :=
  if d.domState m.val ≠ 0 ∧ !d.domMoving m.val ∧ domKind m.val ≠ some .pq then d.domWakeStart m.val else d

/-- DOMAIN_WAKE_DONE: the kind's re-initialization has run, the guard opens and the domain is in D0
(R407, R403). -/
def domainWakeDone (m : Fin 256) (d : Dev) : Dev :=
  let s := d.domState m
  let filling : Bool := match domKind m.val with
    | some (.region n) => d.on (Reg.BM_STS_FILL_BUSY n)
    | _ => false
  if !d.on (Reg.DOM_STS_WAKING m) ∨ filling then d
  else
    let d1 := match domKind m.val with
      | some (.region n) => if s = 3 ∧ d.hasImage n then d.regionReinit n else d
      | _ => d
    let d2 := (d1.setDomState m 0).clear (Reg.DOM_STS_WAKING m)
    let d3 := match domKind m.val with
      | some .quad => if s = 2 ∨ s = 3 then d2.quadWake m else d2
      | some (.port p) => if s = 2 ∨ s = 3 then portTrainingStart (Fin.ofNat 2 p) d2 else d2
      | some (.dram k) => d2.clear (chF Reg.CH_STS_SELF_REFRESH k)
      | _ => d2
    ((d3.domOpen m).domOutcome m 0).barrierDone 4 m .ok

/-- WAKE_TIMER: the device time reaches WAKE_AT, or has passed it when WAKE_AT is written (R409, log 82). It fires
once for each write of WAKE_AT. -/
def wakeTimer (m : Fin 256) (d : Dev) : Dev :=
  let x := d.domSt m
  match domKind m.val with
  | some k =>
    if k.sources ≠ 0 ∧ d.sourceReady m 0 then
      let d1 := d.setDom m { x with timer := false }
      if (d.ctl (Reg.DOM_CTL_WAKE_EN m)).testBit 0 then d1.wakeFire m else d1
    else d
  | none => d

/-- WAKE_SIGNAL: signal on a lane with EN at 1 of a quad in D1 or D2, or a frame at a port in D1, also
during the drain (R409). -/
def wakeSignal (m : Fin 256) (d : Dev) : Dev :=
  let s := d.domState m
  let low := d.on (Reg.DOM_STS_DRAINING m)
  let can : Bool := match domKind m.val with
    | some .quad => low || s == 1 || s == 2
    | some (.port _) => low || s == 1
    | _ => false
  if can ∧ d.sourceReady m 1 ∧ (d.ctl (Reg.DOM_CTL_WAKE_EN m)).testBit 1 then d.wakeFire m else d

/-- WAKE_AT has been written: TIMER is armed (R409). -/
def wakeAtWritten (m : Nat) (d : Dev) : Dev :=
  match domKind m with
  | some k => if k.sources = 0 then d else d.setDom m { d.domSt m with timer := true }
  | none => d

/-- DOM_CTL has been written: WAKE_EN bits of sources that the kind lacks read 0 (R409). -/
def domCtlWritten (m : Nat) (d : Dev) : Dev :=
  let k := match domKind m with
    | some k => k.sources
    | none => 0
  d.set (Reg.DOM_CTL_WAKE_EN m) (d.get (Reg.DOM_CTL_WAKE_EN m) &&& k)

/-- WAKE: the WAKE packet at NI `i` (R411) is answered OK when the guard is open, whatever the region behind
it holds (log 103); at a closed guard it is one of the requests that R410 holds. A target without a domain
of its own answers TARGET_ERR, and DENIED to an initiator of the data plane, which has no reach there
(R22). -/
def wakePacket (i : Fin 170) (d : Dev) : Dev :=
  match d.firstRx i.val (fun p => p.cmd != 5) with
  | none => d
  | some p =>
    if p.cmd ≠ 7 then d
    else
      match niDomain i.val with
      | none => (d.takeReq i.val).answerReq i.val p (if p.src < 164 then .denied else .targetErr)
      | some _ =>
        if d.guardBars i.val then fenceGuardRequest i d else (d.takeReq i.val).answerReq i.val p .ok

/-! ## Levels -/

/-- VCCNOC of a level in mV (R412). -/
def levelMv (l : Nat) : Nat := 600 + 50 * l

/-- The divisor of a level (R412). -/
def levelDiv (l : Nat) : Nat :=
  match l with
  | 0 => 16 | 1 => 12 | 2 => 8 | 3 => 6 | 4 => 5 | _ => 4

/-- A level change starts (R413): upward the voltage is requested first, downward the divisor changes
first. -/
def levelStart (l : Nat) (d : Dev) : Dev :=
  let cur := d.get Reg.PWR_STS_LEVEL
  let d1 := d.raise Reg.PWR_STS_LEVEL_BUSY
  if cur < l then { d1 with pwr := { d1.pwr with change := some l, nocMv := some (levelMv l) } }
  else { d1 with pwr := { d1.pwr with change := some l, divDue := true } }

/-- A level change ends (R413, R415). -/
def levelEnd (d : Dev) (done : Bool) : Dev :=
  let d1 := { d with pwr := { d.pwr with change := none, divDue := false } }
  let d2 := d1.clear Reg.PWR_STS_LEVEL_BUSY
  if done then d2.raise Reg.PWR_EVT_LEVEL_DONE else d2

/-- LEVEL_SWITCH: the divisor changes at a schedule-cycle boundary, at which slot 0 begins (R190, R413); without the
root there is none (R195). -/
def levelSwitch (d : Dev) : Dev :=
  match d.pwr.change with
  | none => d
  | some l =>
    if !d.pwr.divDue ∨ d.noc.phase ≠ 0 ∨ d.get Reg.NOC_STS_SLOT ≠ 0 ∨ !d.on Reg.CLK_STS_ROOT_LOCK then d
    else
      let up := d.get Reg.PWR_STS_LEVEL < l
      let d1 := ((d.set Reg.CLK_STS_NOC_DIV (levelDiv l)).raise Reg.CLK_EVT_LEVEL_SWITCH).set
        Reg.PWR_STS_LEVEL l
      let d2 := { d1 with pwr := { d1.pwr with divDue := false } }
      if up then d2.levelEnd true
      else { d2 with pwr := { d2.pwr with nocMv := some (levelMv l) } }

/-- The floor of a tier in mV (R416). -/
def tierFloor (t : Nat) : Nat := 720 + 40 * t

/-- A write of `w` to PWR_CTL writes LEVEL_REQ anew: it changes it, or it asks again for a level that is
not in force while no change runs (R413). -/
def levelWritten (d : Dev) (w : Word) : Bool :=
  let l := fieldOf w 2 3
  l != d.get Reg.PWR_CTL_LEVEL_REQ || (!d.on Reg.PWR_STS_LEVEL_BUSY && l != d.get Reg.PWR_STS_LEVEL)

/-- The refusals of a write of `w` to PWR_CTL (R411, R413, R416). -/
def pwrCtlRefusal (d : Dev) (w : Word) : Option Code :=
  if fieldOf w 0 1 ≠ d.get Reg.PWR_CTL_COMPAT_WAKE ∧ d.anyMoving then some .busy
  else if d.levelWritten w ∧ d.on Reg.PWR_STS_LEVEL_BUSY then some .busy
  else if fieldOf w 5 1 = 1 ∧ d.get Reg.PWR_VINT_VINT_PIN_MV < tierFloor (fieldOf w 6 2) then
    some .targetErr
  else none

/-- A write of `w` to PWR_VINT is below the floor of the tier in force (R416). -/
def pwrVintRefusal (d : Dev) (w : Word) : Option Code :=
  if fieldOf w 0 10 < tierFloor (d.get Reg.PWR_VINT_VTIER_CUR) then some .targetErr else none

/-- A VCCINT request waits to be sent; it replaces one that waits (R414). -/
def askInt (d : Dev) (mv : Nat) (tier : Option Nat) : Dev :=
  { d with pwr := { d.pwr with intMv := some (mv, tier) } }

/-- VTIER has been written (R416): lowering acts at once, raising after the acknowledgement of the floor,
or of the pinned voltage while PIN_VINT is 1. -/
def tierWritten (d : Dev) : Dev :=
  let t := d.get Reg.PWR_CTL_VTIER
  if t ≤ d.get Reg.PWR_VINT_VTIER_CUR then
    let d1 := d.set Reg.PWR_VINT_VTIER_CUR t
    { d1 with pwr := { d1.pwr with
      intMv := d1.pwr.intMv.map (fun e => (e.1, none))
      avs := d1.pwr.avs.map (fun a => { a with tier := none }) } }
  else
    d.askInt (if d.on Reg.PWR_CTL_PIN_VINT then d.get Reg.PWR_VINT_VINT_PIN_MV else tierFloor t) (some t)

/-- PWR_CTL has been written and held `old` before, with `lvl`: LEVEL_REQ was written (R413, R416). In the
block's safe state no level change starts and VCCINT holds (R419). -/
def pwrCtlWritten (old : Word) (lvl : Bool) (d : Dev) : Dev :=
  if d.safe Reg.PWR_CTL then d
  else
    let l := d.get Reg.PWR_CTL_LEVEL_REQ
    let d1 := if lvl ∧ l ≠ d.get Reg.PWR_STS_LEVEL ∧ !d.on Reg.PWR_STS_LEVEL_BUSY then levelStart l d else d
    let t := d1.get Reg.PWR_CTL_VTIER
    let waits := d1.pwr.intMv.any (fun e => e.2 == some t) || d1.pwr.avs.any (fun a => a.tier == some t)
    let d2 := if t ≠ fieldOf old 6 2 ∨ (t ≠ d1.get Reg.PWR_VINT_VTIER_CUR ∧ !waits) then d1.tierWritten else d1
    if d2.on Reg.PWR_CTL_PIN_VINT ∧ fieldOf old 5 1 = 0 then
      d2.askInt (d2.get Reg.PWR_VINT_VINT_PIN_MV) ((d2.pwr.intMv.bind (fun e => e.2)))
    else d2

/-- PWR_VINT has been written: a pinned voltage is requested (R416). -/
def pwrVintWritten (d : Dev) : Dev :=
  if d.on Reg.PWR_CTL_PIN_VINT ∧ !d.safe Reg.PWR_CTL then
    d.askInt (d.get Reg.PWR_VINT_VINT_PIN_MV) ((d.pwr.intMv.bind (fun e => e.2)))
  else d

/-! ## AVSBus -/

/-- AVS_WRITE: the device sends the Vout write that is next, VCCNOC before VCCINT; one request is
outstanding at most (R414). `good`: the frame is acknowledged. -/
def avsWrite (good : Bool) (d : Dev) : Dev :=
  match d.pwr.avs, d.pwr.nocMv, d.pwr.intMv with
  | some _, _, _ => d
  | none, some mv, _ =>
    { d.raise Reg.PWR_STS_AVS_BUSY with pwr := { d.pwr with
      nocMv := none, avs := some ⟨0, d.ctl Reg.PWR_AVS_RAIL_NOC, mv, good, none⟩ } }
  | none, none, some (mv, t) =>
    { d.raise Reg.PWR_STS_AVS_BUSY with pwr := { d.pwr with
      intMv := none, avs := some ⟨1, d.ctl Reg.PWR_AVS_RAIL_INT, mv, good, t⟩ } }
  | none, none, none => d

/-- AVS_STATUS_READ: a status read of the rail; with VDone set a request whose frame was acknowledged is
done (R413 to R416). -/
def avsStatusRead (vdone : Bool) (d : Dev) : Dev :=
  match d.pwr.avs with
  | none => d
  | some a =>
    if !(a.good && vdone) then d
    else
      let d1 := { d.clear Reg.PWR_STS_AVS_BUSY with pwr := { d.pwr with avs := none } }
      if a.rail = 0 then
        let d2 := (d1.set Reg.PWR_STS_VNOC_MV a.mv).clear Reg.PWR_STS_VOLT_UNCONFIRMED
        match d2.pwr.change with
        | none => d2
        | some l =>
          if d2.get Reg.PWR_STS_LEVEL < l then { d2 with pwr := { d2.pwr with divDue := true } }
          else d2.levelEnd true
      else
        let d2 := d1.set Reg.PWR_VINT_VINT_MV a.mv
        match a.tier with
        | some t => if d2.get Reg.PWR_CTL_VTIER = t then d2.set Reg.PWR_VINT_VTIER_CUR t else d2
        | none => d2

/-- AVS_FAULT: 500 µs without an acknowledgement (R415). -/
def avsFault (d : Dev) : Dev :=
  match d.pwr.avs with
  | none => d
  | some a =>
    let d1 := { d.clear Reg.PWR_STS_AVS_BUSY with pwr := { d.pwr with avs := none } }
    let d2 := (d1.raise Reg.PWR_EVT_AVS_FAULT).set Reg.PWR_STS_AVS_LAST_RAIL a.rail
    if a.rail = 0 then
      match d2.pwr.change with
      | none => d2
      | some l =>
        (if d2.get Reg.PWR_STS_LEVEL = l then d2.raise Reg.PWR_STS_VOLT_UNCONFIRMED else d2).levelEnd false
    else d2

/-- VINT_UPDATE: VCCINT moves by at most 10 mV towards its target, the floor of the tier and the margin
that the monitors call for, between the floor and 0.88 V (R416). -/
def vintUpdate (margin : Nat) (d : Dev) : Dev :=
  let busy := d.pwr.intMv.isSome || d.pwr.avs.any (fun a => a.rail == 1)
  if d.ctlOn Reg.PWR_CTL_PIN_VINT ∨ d.safe Reg.PWR_CTL ∨ busy then d
  else
    let cur := d.get Reg.PWR_VINT_VINT_MV
    let target := min (tierFloor (d.get Reg.PWR_VINT_VTIER_CUR) + margin) 880
    if cur = target then d
    else if cur < target then d.askInt (min (cur + 10) target) none
    else d.askInt (max (cur - 10) target) none

/-! ## Rails and temperature -/

/-- RAIL_STS bit `r`, and RAILS_OK, the AND of all sixteen (R498). -/
def setRail (d : Dev) (r : Fin 16) (ok : Bool) : Dev :=
  let d1 := d.putWord Reg.RAIL_STS (withField (d.word Reg.RAIL_STS) r.val 1 (bit01 ok))
  d1.setBit Reg.START_STS_RAILS_OK (decide ((d1.word Reg.RAIL_STS).toNat % 65536 = 65535))

/-- RAIL_IN_RANGE: the monitor of rail `r` reports it in range (R498). -/
def railInRange (r : Fin 16) (d : Dev) : Dev := d.setRail r true

/-- RAIL_OUT_OF_RANGE: the bit clears, and for a rail that leaves its range after start-up step 1 RAIL_DROP is set
(R499). -/
def railOutOfRange (r : Fin 16) (d : Dev) : Dev :=
  let d1 := d.setRail r false
  if d.get Reg.START_STS_STEP = 1 ∨ !(d.word Reg.RAIL_STS).toNat.testBit r.val then d1 else d1.setMask Reg.RAIL_EVT_RAIL_DROP r.val true

/-- DIE_TEMP_UPDATE: PWR_TEMP takes the highest of the sixteen readings and the sensor that gave it; of
equal readings the lowest sensor (R516). -/
def dieTempUpdate (readings : List (BitVec 8)) (d : Dev) : Dev :=
  let best := (List.range 16).foldl (fun a i =>
    if (readings.getD a 0).toInt < (readings.getD i 0).toInt then i else a) 0
  ((d.set Reg.PWR_TEMP_TJ (readings.getD best 0).toNat).set Reg.PWR_TEMP_SENSOR best).raise
    Reg.PWR_TEMP_VALID

end Dev

end Sys2Proof.Machine
end

