-- ==== Sys2Proof/Machine/Resets.lean ====
section
/-! DEFINITION. Start-up and the resets (R481 to R491): the steps, RSTN, INITN and DONE, the data-plane,
management-plane, warm and VAUX power-on resets, the loss and the return of the root (R195, R196), and
votes among triplicated copies (R92, R489). -/

namespace Sys2Proof.Machine

/-! ## What a warm reset keeps (R488) -/

/-- The registers whose CTL fields a warm reset keeps: CLOCK, PACK, the RST registers and the watchdog. -/
def warmKept (off : Nat) : Bool :=
  off / 0x10000 == 0x01 || off / 0x10000 == 0x0D || (0x100 ≤ off && off < 0x118)
    || (0x0F8200 ≤ off && off < 0x0F8300)

/-- A word with its CTL and KEY fields at their reset values. -/
def ctlReset (off : Nat) (x : Word) : Word :=
  match regAt off with
  | none => x
  | some r => r.fields.foldl (fun a f =>
      if f.cls = .ctl ∨ f.cls = .key then withField a f.lsb f.w f.rst else a) x

/-- The offset lies in the page of a region. -/
def inRegionPage (off : Nat) : Bool := 0x100000 ≤ off && off < 0x900000

/-- The offset lies in the registers of a line or heritage lane. -/
def inLaneRegs (off : Nat) : Bool :=
  (0x0A0000 ≤ off && off < 0x0A4000) || (0x0B0000 ≤ off && off < 0x0B4000)

namespace Dev

/-- The CTL fields of the registers that `hit` names take their reset values; a register restored this
way has no parity fault. -/
def ctlResetWhere (hit : Nat → Bool) (d : Dev) : Dev :=
  { d.unfail hit with
    csr := SMap.remap resetWord (fun o x => if hit o then ctlReset o x else x) d.csr }

/-! ## The management-plane reset (R486) -/

/-- The dictionary and Waybill engine, the pack engine's roster and the client table are cleared (R488). -/
def mgmtClear (d : Dev) : Dev :=
  let d1 := { d with
    wb := {}, unlocks := [], changes := []
    pack := { d.pack with roster := [], mine := none, opened := [], closed := [], discover := none
                          lead := none } }
  let d2 := if d1.get Reg.PACK_STS_STATE = 0 then d1
    else (d1.clear Reg.PACK_STS_STATE).raise Reg.PACK_EVT_STATE_CHANGE
  let d3 := [Reg.PACK_STS_LEAD, Reg.PACK_STS_JOINED, Reg.PACK_STS_DIVERGENT, Reg.PACK_STS_REFUSED,
    Reg.PACK_STS_IS_LEAD, Reg.PACK_STS_REFUSE_CAUSE, Reg.PACK_CENSUS_REACHABLE,
    Reg.PACK_CENSUS_FLAGGED, Reg.PB_STS_BUSY].foldl clear d2
  d3

/-- A management-plane reset (R486): the MP is reset with cause BITE, and the data plane runs on. -/
def managementPlane (d : Dev) : Dev :=
  (((d.mpReset 4).mgmtClear).raise Reg.RST_EVT_MGMT_RESET).set Reg.RST_CAUSE_CAUSE 7

/-- BITE: REMAIN reaches 0 while BARKED (R459). -/
def biteEff (d : Dev) : Dev :=
  let d1 := ((d.raise Reg.WDT_EVT_BITE).count Reg.WDT_CNT_BITE_CNT).clear Reg.WDT_STS_STAGE
  d1.wdtReload.managementPlane

/-- BITE: the second expiry of the watchdog. -/
def bite (d : Dev) : Dev := if d.wdtCounts ∧ d.on Reg.WDT_STS_STAGE then d.biteEff else d

/-- The watchdog expires: a bark or a bite by STAGE (R459). -/
def wdtExpire (d : Dev) : Dev := if d.on Reg.WDT_STS_STAGE then d.bite else d.bark

/-- KICK that falls in the tick of an expiry (R461): the expiry first; after a bark the kick then acts,
after a bite it is discarded. -/
def kickAt (expiry : Bool) (d : Dev) : Dev × Code :=
  if expiry ∧ d.wdtCounts then
    if d.on Reg.WDT_STS_STAGE then (d.biteEff, .ok) else d.barkEff.kickEff
  else d.kickEff

/-- HALT that falls in the tick of an expiry (R461): the expiry first; after a bark the NMI is pending until the core
goes on, and after a bite HALT_ON_RESET alone decides. -/
def haltAt (expiry : Bool) (d : Dev) : Dev × Code :=
  if expiry ∧ d.wdtCounts then
    if d.on Reg.WDT_STS_STAGE then (d.biteEff, .ok)
    else
      let d1 := d.barked
      (d1.setMp { d1.mp with nmi := !d1.mpHeld }).haltEff
  else d.haltEff

/-! ## The data-plane reset (R487) -/

/-- Every entry of the books of NIs 0 to 127 has VALID = 0, in both halves and both copies. -/
def booksInvalid (d : Dev) : Dev :=
  let written := (List.range 128).filter (fun i =>
    d.cells.any (fun c => decide (cellKey (.hs (2 + i)) 0 ≤ c.1 ∧ c.1 < cellKey (.hs (2 + i)) 0 + 2 ^ 31)))
  let d1 := written.foldl (fun a i =>
    (List.range 1024).foldl (fun b e =>
      let j := 16 * e + 15
      let v := (decodeByte (b.cell (.hs (2 + i)) j)).value.1
      b.storeByte (.hs (2 + i)) j (v &&& 0x7F)) a) d
  { d1 with noc := { d1.noc with undoBook := SMap.only (fun k => 128 ≤ k / 512) d1.noc.undoBook } }

/-- Every request that NI `i` holds as a target is answered TIMEOUT at its initiator, and what the region
had in progress is dropped. -/
def regionNiReset (d : Dev) (i : Nat) : Dev :=
  let s := d.niSt i
  let held := (s.rx ++ s.served ++ s.guarded).filter (fun p => p.cmd != 5)
  let d1 := d.setNi i { nextTag := s.nextTag, tokens := s.tokens, stale := s.stale }
  held.foldl (fun a p =>
    match (a.niSt p.src).tags.find? (fun t => t.tag == p.tag && t.injected) with
    | some t => (a.niComplete p.src t .timeout false []).niPump p.src
    | none => a) d1

/-- Region `n` and both its planes become EMPTY, a RETIRED region's too (R216, R487). -/
def regionEmpty (d : Dev) (n : Nat) : Dev :=
  let d1 := d.swapEnd n .aborted
  let d2 := if d1.on (Reg.FF_CTL_REINIT n) then d1.reinitEnd n .aborted else d1
  let d3 := (((((d2.clearPlane n 0).clearPlane n 1).dropFixes n 0).dropFixes n 1).set
    (Reg.RGN_STS_STATE n) rsEmpty).set (Reg.RGN_STS_SHADOW n) ssEmpty
  let d4 := (d3.setDigest Reg.ACTIVE_DIGEST_DIGEST n []).setDigest Reg.SHADOW_DIGEST_DIGEST n []
  let d5 := (d4.clear (Reg.RI_STS_ARMED_BM n)).clear (Reg.RI_STS_ARMED_DRAM n)
  ((d5.raise (Reg.FF_STS_HOLD n)).set (Reg.RGN_STS_HOLD_LEFT n) 0).clear (Reg.BM_STS_FILL_BUSY n)

/-- The user logic of every region is gone: flip-flops, border and I/O registers, ports of block memories,
slices, attachments, and what the engines held. -/
def fabricClear (d : Dev) : Dev :=
  { d with
    ff := [], borderIn := [], borderHold := [], io := [], trunkOff := [], trunkFixed := [], bm := [], slice := []
    dspEdge := [], attach := [], rgn := [], planes := [] }

/-- A data-plane domain (R20, R487): its kind is of the regions, network partitions, DRAM channels, engines or line
and heritage quads. -/
def dataDomain (m : Nat) : Bool :=
  match domKind m with
  | some (.region _) => true
  | some (.part _) => true
  | some (.dram _) => true
  | some (.eng _) => true
  | some .quad => true
  | _ => false

/-- A domain returns to D0 by a reset (R487); one whose unit is retired for good does not. A transition in
progress ends ABORTED. -/
def domRestore (d : Dev) (m : Nat) : Dev :=
  let retired : Bool := match domKind m with
    | some (.dram k) => d.chRetired k
    | some (.eng e) => !d.bit Reg.CTX_STS_ENG_LIVE e
    | none => true
    | _ => false
  if retired then d
  else
    let d1 := if d.domMoving m then (d.domOutcome m 4).barrierDone 4 m .aborted else d
    let d2 := [Reg.DOM_STS_DRAINING m, Reg.DOM_STS_WAKING m, Reg.DOM_STS_WAKE_PENDING m].foldl clear d1
    let d3 := ((d2.setDomState m 0).setDom m {}).domOpen m
    match domKind m with
    | some (.dram k) => d3.clear (chF Reg.CH_STS_SELF_REFRESH k)
    | _ => d3

/-- The golden store is lost, and the march of step 5 will cover the channels (R196, R344, R300). -/
def dramGone (d : Dev) : Dev :=
  let d1 := d.goldenLost
  { d1 with start := { d1.start with dramLost := true } }

/-- The stopped domains do not restart where they stopped (R196): packets on their way, requests at the network
interfaces and the engines, and what the channels had queued are gone; a sender finds its tags unanswered
(log 112). -/
def domainsGone (d : Dev) : Dev :=
  { d with
    noc := { d.noc with flight := [] }
    ni := SMap.remap (fun _ => {}) (fun _ s => { s with
      rx := [], served := [], ready := [], guarded := [], rspOut := [], inside := 0 }) d.ni
    ch := SMap.remap (fun _ => {}) (fun _ c => { ({} : ChSt) with scrubPtr := c.scrubPtr }) d.ch }

/-- DRAM contents are lost (R196): with them the golden store and the context store. -/
def dramErase (d : Dev) : Dev :=
  let dram := fun (key : Nat) => decide (key / 2 ^ 31 / 8192 = 1)
  let d1 := { d with
    cells := SMap.only (fun k => !(dram k)) d.cells
    verify := d.verify.filter (fun v => match v.unit with | .dram _ => false | _ => true) }
  d1.dramGone

/-- Every region becomes EMPTY, its hold asserted and its clock gate closed. -/
def regionsDown (d : Dev) : Dev :=
  let d1 := ((List.range 128).foldl regionEmpty d).fabricClear
  let d2 := (List.range 128).foldl (fun a n => (a.clear (Reg.ROUTE_STS_DISABLED n)).showRegion n) d1
  let s := d2.scrub
  ({ d2 with scrub := { s with pending := [], builds := [], building := none } }).showScrub

/-- What a data-plane reset does in the cycle in which it is accepted (R487); `lost`: DRAM has not been
refreshed (R196). BM_LAST keeps its fields (DESIGN CHOICE, log 117). -/
def dataPlane (cause : Nat) (lost : Bool) (d : Dev) : Dev :=
  let was := (List.range 128).filter (fun n => d.hasImage n)
  let d1 := (d.loadReset).regionsDown
  let d2 := (List.finRange 64).foldl (fun a m => (a.laneReset (.line m)).laneReset (.heritage m)) d1
  let d3 := { d2.unfail inLaneRegs with csr := SMap.only (fun o => !inLaneRegs o) d2.csr }
  let d4 := (d3.ctlResetWhere inRegionPage).booksInvalid
  let d5 := (List.range 128).foldl regionNiReset d4
  let d6 := d5.ctxReset
  let d7 := ((List.range 256).filter dataDomain).foldl domRestore d6
  let d8 := if lost then d7.dramErase else d7
  let r := d8.rebuildMap
  let d9 := if r.2 then r.1.dramGone else r.1
  let d10 := { d9 with
    port0 := { d9.port0 with rxFifo := [], rxOut := [] }, port1 := { d9.port1 with rxFifo := [], rxOut := [] }
    boot := { wasActive := was }
    start := { d9.start with
      releaseSet := [], released := false, doneWait := false, waitDone := false, rootWait := false
      initnDriven := true, doneDriven := true } }
  let d11 := [Reg.CFG_BOOT_STS_ACTIVE, Reg.CFG_BOOT_WAIT_WAIT_MS, Reg.START_STS_INITN_PIN,
    Reg.START_STS_DONE_PIN, Reg.START_STS_INITN_HELD].foldl clear d10
  ((((d11.raise Reg.START_STS_DP_BUSY).set Reg.START_STS_STEP 4).raise Reg.RST_EVT_DP_STARTED).count
    Reg.RST_CNT_DP_CNT).set Reg.RST_CAUSE_CAUSE cause

/-- DP_RESET (R487, R490): BUSY while a data-plane reset or start-up is under way. In one write with
WARM_RESET the warm reset wins. -/
def dpResetEff (withWarm : Bool) (d : Dev) : Dev × Code :=
  if d.on Reg.START_STS_DP_BUSY ∨ d.get Reg.START_STS_STEP ≠ 0 then (d, .busy)
  else if withWarm then (d, .ok)
  else (((d.dataPlane 4 false).cmdStart 0x1300 1).cmdDone 0x1300 1 .ok, .ok)

/-! ## The warm reset (R486, R488) -/

/-- The network's copies take their reset values (R487): default routes in the books of NIs 160 to 169,
every other entry not valid, slots free, outputs enabled, epoch 0; packets in flight are gone. -/
def nocReset (d : Dev) : Dev :=
  let book := fun (key : Nat) =>
    decide (cellKey (.hs 2) 0 ≤ key ∧ key < cellKey (.hs 172) 0)
  let d1 := { d with
    cells := SMap.only (fun k => !(book k)) d.cells, slots := [], ni := []
    noc := { arb := [], phase := d.noc.phase } }
  let d2 := (List.range 192).foldl
    (fun a w => a.putWord (Reg.PORT_EN w) (resetWord (Reg.PORT_EN w))) d1
  let d3 := (List.range 170).foldl (fun a i => a.clear (Reg.NI_STS_GUARD_CLOSED i)) d2
  let div := d3.putWord Reg.NOC_STS (resetWord Reg.NOC_STS)
  (List.range 10).foldl (fun a j =>
    let m := MemUnit.hs (162 + j)
    (List.range m.entries).foldl (fun b e =>
      if b.on (m.entryValid e) then
        (List.range m.granule).foldl (fun c k =>
          let x := b.get (m.entryAddr e) * m.granule + k
          c.setCell m x (cellDflt (cellKey m x))) b
      else b) a) div

/-- The ports go down (R488): what a port had queued has left before (R486). -/
def portsDown (d : Dev) : Dev :=
  [(0 : Fin 2), 1].foldl (fun a p =>
    let q := (a.port p.val).txWb
    let a1 := (quadLanes p).foldl (fun b l => b.laneReset l) (a.linkLost p.val)
    a1.setPort p.val { sent := q }) d

/-- A warm reset with a cause (R486, R488, R489): both planes are reset, CTL fields take their reset values
but for those of `warmKept`, and start-up begins at step 1. Of the MP's cause the spec says nothing
(log 17). -/
def warmReset (cause : Nat) (d : Dev) : Dev :=
  let mapMode := d.get Reg.DR_MAP_MAP_MODE
  let d1 := ({ d with start := { d.start with warmDue := none } }).portsDown
  let d2 := match d1.march with
    | some s => d1.marchEnd s 3 .aborted
    | none => d1
  let c := (d2.set Reg.START_STS_STEP 1).freeBelow 6
  let d3 := (c.2.mpReset c.1).mgmtClear.dataPlane cause false
  let d4 := (d3.nocReset.ctlResetWhere (fun o => !warmKept o)).set Reg.DR_MAP_MAP_MODE mapMode
  let d5 : Dev := (List.range 256).foldl domRestore d4
  let d6 := { d5 with
    ch := SMap.remap (fun _ => {}) (fun _ c => { ({} : ChSt) with scrubPtr := c.scrubPtr }) d5.ch
    verify := [], ctPending := none, lanes := [], plls := []
    keys := { d5.keys with written := false }
    ctx := {} }
  let d7 : Dev := (List.range 32).foldl (fun a k => a.raise (chF Reg.CH_STS_SELF_REFRESH k)) d6
  let d8 := if d7.get Reg.PWR_STS_LEVEL = 0 ∨ d7.pwr.change.isSome then d7 else d7.levelStart 0
  ((((d8.set Reg.START_STS_STEP 1).raise Reg.RST_EVT_MGMT_RESET).count Reg.RST_CNT_WARM_CNT).set
    Reg.RST_CAUSE_CAUSE cause).clear Reg.START_STS_CFGPULL

/-- WARM_RESET (R486, R70): it follows the command, so that the response of a write leaves first. -/
def warmResetEff (d : Dev) : Dev × Code :=
  ((({ d with start := { d.start with warmDue := some 2 } }).cmdStart 0x1300 2).cmdDone 0x1300 2 .ok, .ok)

/-- The end of a command: a warm reset that it asked for. -/
def warmSettle (d : Dev) : Dev :=
  match d.start.warmDue with
  | some c => d.warmReset c
  | none => d

/-- RSTN_LOW: RSTN has been low for `ns` nanoseconds (R482): below 100 ns it is ignored, from 1 µs on it
starts a warm reset, and in between the spec does not say. At step 1 it only holds step 1 (R490). -/
def rstnLow (ns : Nat) (d : Dev) : Dev :=
  if ns < 100 then d
  else
    let b : Bool × Dev := if ns < 1000 then d.freeBit else (true, d)
    if !b.1 then b.2
    else
      let d1 : Dev := { b.2 with start := { b.2.start with rstnLow := true } }
      if d1.get Reg.START_STS_STEP = 1 then d1 else d1.warmReset 1

/-- RSTN_HIGH (R482, R490). -/
def rstnHigh (d : Dev) : Dev := { d with start := { d.start with rstnLow := false } }

/-! ## The VAUX power-on reset (R486, R488) -/

/-- What every reset keeps: fuses and keys (R245), the flash, persistent objects, and what the board
drives; a battery-backed key is lost with VBAT. -/
def powerOnState (vbat : Bool) (d : Dev) : Dev :=
  let had := d.on Reg.SEC_KEY_STS_BBRAM_KEY
  let g := d.freeBelow (2 ^ 256)
  let d0 : Dev := {}
  let d1 : Dev := { d0 with
    fwObjects := SMap.only fwPersistent d.fwObjects, flash := d.flash, pins := d.pins, vccio := d.vccio, fresh := g.2.fresh
    keys := { d.keys with
      bbram := if vbat then d.keys.bbram else [], written := false, cmd := none, golden := leBytes 32 g.1 }
    tap := {}
    start := { rstnLow := d.start.rstnLow, donePin := d.start.donePin, initnHeld := d.start.initnHeld }
    time := d.time }
  let d2 := ((d1.putWord Reg.DBG_FUSE (d.word Reg.DBG_FUSE)).putWord Reg.RAIL_STS
    (d.word Reg.RAIL_STS)).putWord Reg.SEC_KEY_STS (d.word Reg.SEC_KEY_STS)
  let d3 := (d2.set Reg.START_STS_RAILS_OK (d.get Reg.START_STS_RAILS_OK)).clear
    Reg.SEC_KEY_STS_CMD_BUSY
  let d4 := if vbat then d3 else d3.clear Reg.SEC_KEY_STS_BBRAM_KEY
  if !vbat ∧ had then d4.raise Reg.SEC_EVT_BBRAM_LOST else d4

/-- A fuse command in progress: the word is left programmed, or blank. -/
def fuseCaught (d : Dev) : Dev :=
  match d.keys.cmd with
  | some c =>
    if c.op = 0 ∨ c.op = 3 ∨ c.op = 4 then
      let b := d.freeBit
      if b.1 then b.2.secApply c else b.2
    else d
  | none => d

/-- VAUX_POWER_ON_RESET: VAUX rises past 2.55 V (R486). `vbat`: VBAT has held the key memory. A fuse
command that a dip of VAUX has caught leaves its fuse word programmed or blank (R499). -/
def vauxPowerOnReset (vbat : Bool) (d : Dev) : Dev :=
  (d.fuseCaught.powerOnState (vbat || d.start.vauxOn))

/-- VAUX_FALL: VAUX falls below 2.45 V, and the power-on reset wins over every other event (R499). -/
def vauxFall (d : Dev) : Dev :=
  let d1 := d.vauxPowerOnReset true
  { d1 with start := { d1.start with vauxOn := false } }

/-! ## The steps of start-up (R481, R482) -/

/-- STARTUP_STEP1_END: VAUX has been above 2.55 V for `us` microseconds; with every rail in range and RSTN
high, 2 ms of it end step 1. The straps are sampled, and the MP leaves reset. -/
def startupStep1End (cfgsrc : BitVec 3) (cfgpull : Bool) (us : Nat) (d : Dev) : Dev :=
  if d.get Reg.START_STS_STEP ≠ 1 ∨ us < 2000 ∨ !d.on Reg.START_STS_RAILS_OK ∨ d.start.rstnLow ∨
      !d.start.vauxOn then d
  else
    let d1 := (d.set Reg.START_STS_CFGSRC cfgsrc.toNat).setBit Reg.START_STS_CFGPULL cfgpull
    let d2 := d1.set Reg.CFG_CTL_SRC_EN (if cfgsrc.toNat.testBit 2 then 7 else 15)
    let d3 := (List.range 32).foldl (fun a k =>
      a.clear (chF Reg.CH_STS_SELF_REFRESH k)) (d2.set Reg.START_STS_STEP 2)
    d3.mpLeave

/-- Step 6 begins (R484, R254, R256): INITN is released, and the loader starts with its first attempt
due. -/
def loaderStart (d : Dev) : Dev :=
  let d1 := { d with
    boot := { running := true, due := true, wasActive := d.boot.wasActive }
    start := { d.start with initnDriven := false } }
  ((d1.set Reg.START_STS_STEP 6).clear Reg.CFG_BOOT_ATTEMPTS_ATTEMPTS).showInitn

/-- ADVANCE (R481): it ends step 3, 4 or 5. Before the DRAM step start-up waits for the root (R197). -/
def advanceEff (d : Dev) : Dev × Code :=
  let s := d.get Reg.START_STS_STEP
  let ran := (d.cmdStart 0x1300 3).cmdDone 0x1300 3 .ok
  if s = 3 then
    if d.on Reg.CLK_STS_ROOT_LOCK then (ran.set Reg.START_STS_STEP 4, .ok)
    else ({ ran with start := { ran.start with rootWait := true } }, .ok)
  else if s = 4 then ((ran.set Reg.START_STS_STEP 5).marchStartup, .ok)
  else if s = 5 then (ran.loaderStart, .ok)
  else (d, .busy)

/-- ROOT_LOCK: the root locks (R186); an ADVANCE that waited for it acts (R197). -/
def rootLockStart (d : Dev) : Dev :=
  let d1 := d.rootLock
  if d1.on Reg.CLK_STS_ROOT_LOCK ∧ d1.start.rootWait ∧ d1.get Reg.START_STS_STEP = 3 then
    ({ d1 with start := { d1.start with rootWait := false } }).set Reg.START_STS_STEP 4
  else d1

/-- DONE_PIN_HIGH: the DONE pin reads high; at step 7 with DONE_WAIT the release starts (R485). -/
def donePinHigh (d : Dev) : Dev :=
  if d.drivesLow 6 d.start.doneDriven then d
  else
    let d1 := ({ d with start := { d.start with donePin := true } }).raise Reg.START_STS_DONE_PIN
    if d1.start.waitDone then d1.startupRelease else d1

/-! ## The root (R195, R196) -/

/-- ROOT_LOSS: the holds are asserted, transmitters go to electrical idle, clocks stop, and the management
group moves to the internal oscillator (R195). `clockGood`: ROOTCLK keeps its edges and its frequency, and the root
synthesizer alone has lost its lock (R194). A lead dog's TIME_VALID is always 1 (R472). -/
def rootLoss (clockGood : Bool) (d : Dev) : Dev :=
  if d.rootLost ∨ !d.on Reg.CLK_STS_ROOT_LOCK then d
  else
    let d1 := ((List.range 128).foldl (fun a n => a.raise (Reg.FF_STS_HOLD n)) d).bmQuiet (fun _ => true)
    let d2 := (List.finRange 64).foldl (fun a m =>
      [LaneId.line m, .heritage m].foldl (fun b l => b.setLane l { b.laneSt l with out := none }) a) d1
    let d3 := [(0 : Fin 2), 1].foldl (fun a p =>
      let a1 := (quadLanes p).foldl laneDisable (a.linkLost p.val)
      a1.setPort p.val { a1.port p.val with training := false }) d2
    let d4 := d3.abandonClocks
    let d5 := (List.finRange 16).foldl (fun a s =>
      if a.onRootFeed s then a.fsLost s false [] else a) d4
    let d6 := ((d5.clear Reg.CLK_STS_ROOT_LOCK).setBit Reg.CLK_STS_ROOTCLK_OK clockGood).raise
      Reg.CLK_STS_ON_INTOSC
    let d7 := ({ d6 with rootLost := true }).raise Reg.CLK_EVT_ROOT_LOSS
    d7.setBit Reg.PACK_STS_TIME_VALID (d7.on Reg.PACK_STS_IS_LEAD)

/-- A start-up that waits for the root goes on (R197). -/
def waited (d : Dev) : Dev :=
  if d.start.rootWait ∧ d.get Reg.START_STS_STEP = 3 then
    ({ d with start := { d.start with rootWait := false } }).set Reg.START_STS_STEP 4
  else d

/-- ROOT_RETURN: the root has locked again (R196): ROOT_RETURN is set, the sources written meanwhile take
effect, and the data-plane reset of R196 runs, DRAM being lost; during steps 1 to 3 the start-up under
way serves as it. The first Sync then steps the pack-time counter (R472). -/
def rootReturn (d : Dev) : Dev :=
  if !d.rootLost then d
  else
    let d1 := (((d.raise Reg.CLK_STS_ROOT_LOCK).raise Reg.CLK_STS_ROOTCLK_OK).clear
      Reg.CLK_STS_ON_INTOSC).raise Reg.CLK_EVT_ROOT_RETURN
    let d2 := ({ d1 with rootLost := false, rootT0 := d1.time
                         pack := { d1.pack with stepNext := true } }).resumeSources
    let d3 := (List.finRange 16).foldl (fun a s => if a.onRootFeed s then a.fsInputReturn s else a) d2
    let d4 := d3.domainsGone
    let s : Nat := d4.get Reg.START_STS_STEP
    if s = 0 ∨ 4 ≤ s then d4.dataPlane 5 true
    else (d4.dramErase).rootLockStart.waited

/-! ## Votes (R92, R489) -/

/-- TMR_VOTE: the copies of a triplicated field of the register at `off` disagree. Two against one, the odd
copy is rewritten; three ways, it is a device critical fault (R92, R489). A register without such a field has
no copies to vote on. -/
def tmrVote (off : BitVec 24) (three : Bool) (d : Dev) : Dev :=
  if !triplicated off.toNat then d
  else if three then
    let d1 := ((d.set Reg.CRIT_ADDR_OFFSET off.toNat).raise Reg.CRIT_ADDR_VALID).raise
      Reg.RST_EVT_CRITICAL
    d1.warmReset 3
  else
    (((d.raise Reg.FAULT_EVT_TMR_FIX).set Reg.TMR_ADDR_OFFSET off.toNat).raise
      Reg.TMR_ADDR_VALID).count Reg.FAULT_CNT_TMR_FIX_CNT

/-! ## The test access port and the pins (R450) -/

/-- The TAP leaves EXTEST, HIGHZ or CLAMP (R450, R490): a data-plane reset, or, before step 4, only its
cause. -/
def tapLeft (d : Dev) : Dev :=
  let s := d.get Reg.START_STS_STEP
  if 1 ≤ s ∧ s < 4 then d.set Reg.RST_CAUSE_CAUSE 6 else d.dataPlane 6 false

/-- INITN and DONE as the boundary register drives them (R450). -/
def tapPins (d : Dev) : Dev :=
  let d1 := if d.tapOwns then d.showInitn else d
  if d1.tapOwns && d1.drivesLow 6 d1.start.doneDriven then d1.clear Reg.START_STS_DONE_PIN else d1

/-- The instruction register takes code `ir` at Update-IR, or IDCODE at a TAP reset (R449, R450). -/
def tapSelect (ir : Nat) (d : Dev) : Dev :=
  let was := d.tapOwns
  let d1 := ({ d with tap := { d.tap with ir := ir } }).tapPins
  if d1.tapOwns then
    (((List.range 128).filter isEdge).foldl (fun a n => a.raise (Reg.FF_STS_HOLD n)) d1).bmQuiet
      (fun b => isEdge (b / 64))
  else if was then d1.tapLeft
  else d1

/-- TAP_RESET. -/
def tapReset (d : Dev) : Dev := d.tapSelect 0x02

/-- EXTEST, HIGHZ and CLAMP. -/
def extest (d : Dev) : Dev := d.tapSelect 0x00
def highz (d : Dev) : Dev := d.tapSelect 0x03
def clamp (d : Dev) : Dev := d.tapSelect 0x04

/-- The level that the boundary register captures (R450): at an I/O cell its pin's; at 8,192 to 8,194 CFGSRC, at 8,195
CFGPULL, as sampled last (log 129); at 8,196 RSTN, 8,197 INITN and 8,198 DONE. -/
def tapCapture (d : Dev) (key : Nat) : Bool :=
  if key < 8192 then d.pinLevel (key / 64) (key % 64)
  else if key < 8195 then (d.get Reg.START_STS_CFGSRC).testBit (key - 8192)
  else if key = 8195 then d.on Reg.START_STS_CFGPULL
  else if key = 8196 then !d.start.rstnLow
  else if key = 8197 then d.on Reg.START_STS_INITN_PIN
  else d.on Reg.START_STS_DONE_PIN

/-- SAMPLE/PRELOAD: the boundary register is selected, and `preload` shifted into it: cell keys with the
level in bit 0 and the enable in bit 1. The answer holds the levels captured at the cells named. -/
def samplePreload (preload : List (Nat × BitVec 2)) (d : Dev) : Dev :=
  let seen := preload.map (fun e => BitVec.ofNat 8 (bit01 (d.tapCapture e.1)))
  let d1 := d.tapSelect 0x01
  let b := preload.foldl (fun m e => SMap.put 0 m e.1 e.2.toNat) d1.tap.boundary
  { d1 with tap := { d1.tap with boundary := b }, answer := { data := seen } }

/-- IDCODE: the identity register (R449). -/
def idcode (d : Dev) : Dev :=
  let d1 := d.tapSelect 0x02
  { d1 with answer := { data := leBytes 4 0x2C4E9A3B } }

/-- BYPASS. -/
def bypass (d : Dev) : Dev := d.tapSelect 0xFF

/-- DBGACC: the CSR access register, or BYPASS while JTAG_DBG is clear (R448, R449). -/
def dbgacc (d : Dev) : Dev := d.tapSelect (if d.on Reg.DBG_FUSE_JTAG_DBG then 0x20 else 0xFF)

/-- TAP_LEAVE_BOUNDARY: the TAP leaves EXTEST, HIGHZ or CLAMP by a TAP reset. -/
def tapLeaveBoundary (d : Dev) : Dev := if d.tapOwns then d.tapSelect 0x02 else d

end Dev

end Sys2Proof.Machine
end

