-- ==== Sys2Proof/Machine/Csr.lean ====
section
/-! DEFINITION. The CSR space (R41, R81 to R93, R408, R518): which command a field presents and to which
engine, what refuses a write, what a write and a read do, in the order of R44, and requests of several
registers (R85). -/

namespace Sys2Proof.Machine

/-- A CMD field of a register: its lowest bit and width, the refusals that rank before the unlock check
(R44), and what its engine does, both given the word written. -/
structure CmdDef where
  lsb : Nat
  w : Nat := 1
  pre : Word → Dev → Option Code := fun _ _ => none
  eff : Word → Dev → Dev × Code

/-- The lane whose registers hold `off` (R398, R399). -/
def laneAt (off : Nat) : Option LaneId :=
  let m := off % 0x10000 / 0x100
  if 0x0A0000 ≤ off ∧ off < 0x0A4000 then some (.line (Fin.ofNat 64 m))
  else if 0x0B0000 ≤ off ∧ off < 0x0B4000 then some (.heritage (Fin.ofNat 64 m))
  else if 0x0C4000 ≤ off ∧ off < 0x0C4800 then some (.port (Fin.ofNat 8 (m - 0x40)))
  else none

/-- The power domain whose registers hold `off`, where its being in D3 fences them (R401, R408): the POWER
block and the region pages stay reachable. -/
def csrDomain (off : Nat) : Option Nat :=
  let b := off / 0x10000
  let lo := off % 0x10000
  match laneAt off with
  | some l => some l.domain
  | none =>
    if b = 0x0C ∧ lo < 0x2000 then some (2 + lo / 0x1000)
    else if b = 0x0A ∧ 0x4000 ≤ lo ∧ lo < 0x4100 then some (48 + (lo - 0x4000) / 0x10)
    else if b = 0x0B ∧ 0x4000 ≤ lo ∧ lo < 0x4100 then some (64 + (lo - 0x4000) / 0x10)
    else if (b = 0x08 ∨ b = 0x09) ∧ 0x1000 ≤ lo ∧ lo < 0x2000 then
      some (16 + 16 * (b - 8) + (lo - 0x1000) / 0x100)
    else if b = 0x07 ∧ 0x200 ≤ lo ∧ lo < 0x240 then some (12 + (lo - 0x200) / 0x10)
    else if b = 0x06 ∧ 0x1000 ≤ lo ∧ lo < 0x1000 + 170 * 0x20 then
      some (4 + wsPart (niWs ((lo - 0x1000) / 0x20)))
    else none

/-- The serial port whose FIFO data register is at `off`, where a write appends (R446). -/
def fifoAt (off : Nat) : Option Serial :=
  if off = Reg.XSPI_FIFO then some .xspi
  else
    match (List.finRange 4).find? (fun n => Reg.UART_TXD n.val == off) with
    | some n => some (.uart n)
    | none =>
      match (List.finRange 4).find? (fun n => Reg.I2C_FIFO n.val == off) with
      | some n => some (.i2c n)
      | none => ((List.finRange 2).find? (fun n => Reg.SPI_FIFO n.val == off)).map Serial.spi

/-- The serial port whose FIFO data register is read at `off`. -/
def fifoReadAt (off : Nat) : Option Serial :=
  match (List.finRange 4).find? (fun n => Reg.UART_RXD n.val == off) with
  | some n => some (.uart n)
  | none =>
    match fifoAt off with
    | some (.uart _) => none
    | x => x

/-! ## Commands -/

/-- A command that is over in its cycle: its object records the run (R70). -/
def atOnce (ix sub : Nat) (eff : Dev → Dev × Code) (d : Dev) : Dev × Code :=
  let r := eff d
  if r.2 = .ok then (r.1.cmdDone ix sub .ok, .ok) else r

/-- Commands of the DEVICE, CLOCK, POWER, CONFIG and SCRUB blocks. `co`: what falls in the same cycle, the
wake sources of the domain that fire. -/
def cmdsLow (co off : Nat) : List CmdDef :=
  if off = Reg.SNAP_CTL then [{ lsb := 0, eff := fun _ => Dev.snapEff }]
  else if off = Reg.RST_CTL then
    [{ lsb := 0, eff := fun x => Dev.dpResetEff (x.toNat.testBit 1) },
     { lsb := 1, eff := fun _ => Dev.warmResetEff }, { lsb := 2, eff := fun _ => Dev.advanceEff }]
  else if Reg.FS_CTL 0 ≤ off ∧ off < Reg.FS_CTL 16 then
    [{ lsb := 1, eff := fun _ => Dev.applyEff (Fin.ofNat 16 ((off - Reg.FS_CTL 0) / 0x10)) }]
  else if Reg.DOM_CTL 0 ≤ off ∧ off < Reg.DOM_CTL 256 then
    let m := (off - Reg.DOM_CTL 0) / 0x10
    [{ lsb := 2, pre := fun x => Dev.domPre m (fieldOf x 0 2), eff := fun x => Dev.domGoEff m (fieldOf x 0 2) co }]
  else if off = Reg.CFG_CTL then
    [{ lsb := 4, eff := fun _ => Dev.hloadEff }, { lsb := 5, eff := fun _ => atOnce 0x3012 2 Dev.habortEff }]
  else if off = Reg.SCRUB_CTL then [{ lsb := 2, eff := fun _ => Dev.fullNowEff }]
  else []

/-- Commands of the INTEGRITY, NOC, CONTEXT and DRAM blocks. -/
def cmdsMid (off : Nat) : List CmdDef :=
  if off = Reg.CH_RETIRE then
    [{ lsb := 8, eff := fun _ => Dev.chRetireEff,
       pre := fun x d => if d.chRetired (fieldOf x 0 5) then some .retired else none }]
  else if off = Reg.MARCH_CTL then
    [{ lsb := 0, eff := fun _ => Dev.marchStart }, { lsb := 1, eff := fun _ => Dev.marchAbort }]
  else if off = Reg.CT_CTL then
    [{ lsb := 3, eff := fun _ => Dev.rawStart false }, { lsb := 4, eff := fun _ => Dev.rawStart true }]
  else if off = Reg.NOC_CTL then
    [{ lsb := 1, eff := fun _ => Dev.rbCopyEff,
       pre := fun x d => if x.toNat.testBit 6 then none else d.rbNoTarget },
     { lsb := 0, eff := fun x => Dev.epochEff (x.toNat.testBit 1) },
     { lsb := 2, pre := fun _ => Dev.rbNoTarget, eff := fun _ => Dev.rbWriteEff },
     { lsb := 3, pre := fun _ => Dev.rbNoTarget, eff := fun _ => Dev.rbReadEff },
     { lsb := 4, eff := fun _ => Dev.stWriteEff }, { lsb := 5, eff := fun _ => Dev.stReadEff }]
  else if off = Reg.CTX_CTL then
    [{ lsb := 0, pre := fun _ => Dev.initPre, eff := fun _ => Dev.initEff },
     { lsb := 1, eff := fun _ => Dev.commitEff }, { lsb := 2, eff := fun _ => atOnce 0x6800 3 Dev.discardEffCtx },
     { lsb := 3, eff := fun _ => Dev.sweepEff }, { lsb := 4, eff := fun _ => atOnce 0x6800 5 Dev.ctxAbortEff },
     { lsb := 5, eff := fun _ => Dev.opGoEff }]
  else if off = Reg.CTX_ENG_RETIRE then
    [{ lsb := 0, w := 4, eff := fun x => Dev.engRetireEff (fieldOf x 0 4),
       pre := fun x d => if (List.range 4).all (fun e => !x.toNat.testBit e || !d.bit Reg.CTX_STS_ENG_LIVE e)
         then some .retired else none }]
  else if 0x080000 ≤ off ∧ off < 0x0A0000 ∧ 0x1000 ≤ off % 0x10000 ∧ off % 0x10000 < 0x2000 ∧ off % 0x100 = 0 then
    let k := 16 * ((off - 0x080000) / 0x10000) + (off % 0x10000 - 0x1000) / 0x100
    [{ lsb := 6, eff := fun _ => Dev.bringupEff (Fin.ofNat 32 k),
       pre := fun _ d => if d.chRetired k then some .retired else none }]
  else []

/-- Commands of the lanes and their PLLs; RETIRE wins over the others of its write (R397). -/
def cmdsLane (off : Nat) : List CmdDef :=
  match laneAt off with
  | some l =>
    if off = l.base ∧ !l.isPort then
      [{ lsb := 18, eff := fun _ => Dev.laneRetireEff l },
       { lsb := 16, eff := fun x d => if x.toNat.testBit 18 then (d, .ok) else Dev.slipEff l d },
       { lsb := 17, eff := fun _ => Dev.restartEff l }]
    else if off = l.base then
      [{ lsb := 18, eff := fun _ => Dev.laneRetireEff l }, { lsb := 17, eff := fun _ => Dev.restartEff l }]
    else if off = l.base + 0x44 then [{ lsb := 15, eff := fun _ => Dev.injGoEff l }]
    else []
  | none =>
    match (List.range 32).find? (fun q => pllBase q + 8 == off) with
    | some q => [{ lsb := 0, w := 2, eff := fun x => Dev.pllApplyEff q (fieldOf x 0 2) }]
    | none => []

/-- Commands of the SECURITY block. -/
def cmdsSec (off : Nat) : List CmdDef :=
  if off = Reg.SEC_CTL then
    (List.range 5).map (fun op =>
      { lsb := op, eff := fun x => Dev.secEff op (fieldOf x 5 2),
        pre := fun x d => if d.keys.cmd.isNone ∧ d.secDenied op (fieldOf x 5 2) then some .denied else none })
  else []

/-- Commands of the management processor's peripherals, debug and the watchdog. `co`: what falls in the same
cycle, 1 for the expiry of the watchdog. -/
def cmdsMp (co off : Nat) : List CmdDef :=
  if off = Reg.SOFT_RESET then [{ lsb := 0, eff := fun _ => Dev.softResetEff }]
  else if off = Reg.FLASH_CMD then
    [{ lsb := 0, eff := fun _ => Dev.flashEff false }, { lsb := 1, eff := fun _ => Dev.flashEff true }]
  else if off = Reg.XSPI_XFER then [{ lsb := 16, eff := fun _ => Dev.xspiGoEff }]
  else if off = Reg.DBG_CTL then
    [{ lsb := 0, eff := fun _ => Dev.haltAt (co != 0) },
     { lsb := 1, eff := fun x => Dev.resumeEff (x.toNat.testBit 0) },
     { lsb := 2, eff := fun _ => Dev.stepEff }, { lsb := 3, eff := fun _ => Dev.dinstrEff },
     { lsb := 4, eff := fun _ => Dev.dbgResetEff }]
  else if off = Reg.DBM_CTL then [{ lsb := 0, eff := fun _ => Dev.dbmGoEff }]
  else if off = Reg.WDT_CTL then [{ lsb := 2, eff := fun _ => Dev.kickAt (co != 0) }]
  else
    match (List.finRange 4).find? (fun n => Reg.I2C_XFER n.val == off) with
    | some n => [{ lsb := 19, eff := fun _ => Dev.i2cGoEff n }]
    | none =>
      match (List.finRange 2).find? (fun n => Reg.SPI_XFER n.val == off) with
      | some n => [{ lsb := 16, eff := fun _ => Dev.serialGo (.spi n) }]
      | none =>
        match (List.finRange 2).find? (fun n => Reg.MDIO_XFER n.val == off) with
        | some n => [{ lsb := 12, eff := fun _ => Dev.serialGo (.mdio n) }]
        | none => []

/-- Commands of a region page. -/
def cmdsRegion (off : Nat) : List CmdDef :=
  let n := off / 0x10000 - 0x10
  let r : Region := Fin.ofNat 128 n
  if off = Reg.RGN_CTL n then
    [{ lsb := 0, pre := fun _ => Dev.rgnRetired n, eff := fun _ => Dev.loadEff r },
     { lsb := 1, pre := fun _ => Dev.swapPre n, eff := fun _ => Dev.swapEff n },
     { lsb := 2, pre := fun _ => Dev.rgnRetired n, eff := fun _ => atOnce (0x3800 + n) 3 (Dev.abortEff n) },
     { lsb := 3, pre := fun _ => Dev.rgnRetired n, eff := fun _ => atOnce (0x3800 + n) 4 (Dev.discardEff n) },
     { lsb := 4, pre := fun _ => Dev.rgnRetired n, eff := fun _ => atOnce (0x3800 + n) 5 (Dev.retireEff n) }]
  else if off = Reg.FF_CTL n then [{ lsb := 0, eff := fun _ => Dev.reinitEff r }]
  else []

/-- The CMD fields of the register at `off`; `co`: what falls in the cycle of the write. -/
def cmdsAt (co off : Nat) : List CmdDef :=
  let b := off / 0x10000
  if b < 0x05 then cmdsLow co off
  else if b < 0x0A then cmdsMid off
  else if b < 0x0D then cmdsLane off
  else if b = 0x0E then cmdsSec off
  else if b = 0x0F then cmdsMp co off
  else if 0x10 ≤ b ∧ b < 0x90 then cmdsRegion off
  else []

/-- The commands that a write of `x` presents: CMD fields written other than 0 (R81). -/
def presented (co off : Nat) (x : Word) : List CmdDef :=
  (cmdsAt co off).filter (fun c => fieldOf x c.lsb c.w != 0)

/-- The safe state of the block at `off` does not start the command of bit `lsb` (R90): HABORT and the ABORT
of a march run start in it (R260, R305). -/
def safeBars (off lsb : Nat) : Bool :=
  !(off == Reg.CFG_CTL && lsb == 5) && !(off == Reg.MARCH_CTL && lsb == 1)

/-- The ranks of R44. -/
def Code.rank : Code → Nat
  | .noTarget => 1 | .retired => 2 | .fenced => 3 | .denied => 4 | .unlockRequired => 5 | .busy => 6
  | _ => 7

/-- Of the codes that apply, the first in the order of R44. -/
def firstCode (cs : List Code) : Option Code :=
  cs.foldl (fun a c =>
    match a with
    | none => some c
    | some b => if c.rank < b.rank then some c else some b) none

namespace Dev

/-! ## Refusals -/

/-- The registers at `off` belong to a domain in D3 (R408). -/
def csrFenced (d : Dev) (off : Nat) : Bool :=
  match csrDomain off with
  | some m => d.domState m == 3
  | none => false

/-- The refusals of a write that rank before the unlock check (R44): NO_TARGET, RETIRED, FENCED, DENIED. -/
def csrRefusal (who : Who) (off : Nat) (x : Word) (d : Dev) : Option Code :=
  firstCode ((if 0x900000 ≤ off then [.noTarget] else [])
    ++ (if d.csrFenced off then [.fenced] else [])
    ++ (if who.deniedCsr then [.denied] else [])
    ++ (if off = Reg.WDT_CTL ∧ d.wdtDenied x then [.denied] else [])
    ++ (if Reg.SEC_KEY_DATA 0 ≤ off ∧ off < Reg.SEC_KEY_DATA 16 ∧ who ≠ .mp then [.denied] else [])
    ++ (presented 0 off x).filterMap (fun c => c.pre x d))

/-- A write of `x` to the register at `off` changes a guarded field (R83). -/
def csrGuarded (d : Dev) (off : Nat) (x : Word) : Bool :=
  match regAt off with
  | some r => r.changesG (d.word off) x
  | none => false

/-- The refusals BUSY of the registers' own rules: a block in its safe state (R90), a buffer that switches
(R202), an epoch that drains (R330), the debug registers of a core that runs (R454), a full FIFO (R446),
and PWR_CTL (R411, R413). -/
def csrBusy (off : Nat) (x : Word) (d : Dev) : Bool :=
  (d.safe off && (presented 0 off x).any (fun c => safeBars off c.lsb))
    || (decide (Reg.GCK_SEL 0 ≤ off ∧ off < Reg.GCK_SEL 32) && d.on (Reg.GCK_SEL_SWITCH_BUSY ((off - Reg.GCK_SEL 0) / 4)))
    || (decide (Reg.PORT_EN 0 ≤ off ∧ off < Reg.PORT_EN 192) && d.nocBusy)
    || (decide (off = Reg.DPC ∨ off = Reg.DREG_DATA) && !d.halted)
    || (match fifoAt off with
        | some p => decide (p.depth ≤ (d.serialSt p).tx.length)
        | none => false)
    || (decide (off = Reg.PWR_CTL) && d.pwrCtlRefusal x == some .busy)

/-- |PRE2| + |PRE1| + MAIN + |POST1| of a TX_FIR word, six bits each, two's complement but for MAIN
(R398). -/
def firSum (x : Word) : Nat :=
  let mag := fun (v : Nat) => if v < 32 then v else 64 - v
  mag (fieldOf x 0 6) + mag (fieldOf x 6 6) + fieldOf x 12 6 + mag (fieldOf x 18 6)

/-- The values that a write gives the CTL fields are in range (R518, R381, R392, R396, R398, R416). -/
def csrInRange (off : Nat) (x : Word) (d : Dev) : Bool :=
  (match regAt off with
   | some r => r.fields.all (fun f => f.inRange x)
   | none => true)
    && (match laneAt off with
        | some l =>
          if off = l.base then d.laneCtlOk l x
          else if off = l.base + 4 then l.isPort || decide (firSum x ≤ 63)
          else if off = l.base + 0x30 then d.patCtlOk l x
          else true
        | none => true)
    && !(decide (off = Reg.PWR_CTL) && d.pwrCtlRefusal x == some .targetErr)
    && !(decide (off = Reg.PWR_VINT) && d.pwrVintRefusal x == some .targetErr)

/-! ## What follows a write -/

/-- What follows a write of a register of the CLOCK and POWER blocks, which held `old`; `lvl`: the write was
a request of LEVEL_REQ. -/
def hookLow (off : Nat) (old : Word) (lvl : Bool) (d : Dev) : Dev :=
  if Reg.GCK_SEL 0 ≤ off ∧ off < Reg.GCK_SEL 32 then
    if d.safe off then d else gckWritten ((off - Reg.GCK_SEL 0) / 4) (fieldOf old 0 7) d
  else if Reg.FS_CTL 0 ≤ off ∧ off < Reg.FS_CTL 16 then
    if off % 0x10 = 0 ∧ !d.safe off then outEnWritten ((off - Reg.FS_CTL 0) / 0x10) d else d
  else if off = Reg.PWR_CTL then pwrCtlWritten old lvl d
  else if off = Reg.PWR_VINT then d.pwrVintWritten
  else if Reg.DOM_CTL 0 ≤ off ∧ off < Reg.DOM_CTL 256 then
    let m := (off - Reg.DOM_CTL 0) / 0x10
    if off % 0x10 = 0 then domCtlWritten m d else if off % 0x10 = 8 then wakeAtWritten m d else d
  else d

/-- What follows a write of a lane's register, which held `old`. In its block's safe state a lane keeps the
configuration in force (R398). -/
def hookLane (l : LaneId) (off : Nat) (old : Word) (d : Dev) : Dev :=
  let o := off - l.base
  if d.safe off ∧ keepsForce off then d
  else if o = 0 then laneCtlWritten l old d
  else if 8 ≤ o ∧ o < 0x24 then eqWritten l off d
  else if o = 0x30 then patCtlWritten l old d
  else if o = 0x44 then injCtlWritten l d
  else d

/-- A FORCE that differs from the one in effect waits for the next edge of the region clock (R133). -/
def forceWritten (n : Nat) (d : Dev) : Dev :=
  let st := d.rgnSt n
  d.setRgn n { st with forceDue := decide (d.ctl (Reg.BORDER_CTL_FORCE n) ≠ st.force) }

/-- What follows a write of the register at `off`, which held `old`; `was`: the device took part in a pack
before. -/
def csrHook (off : Nat) (old : Word) (lvl was : Bool) (d : Dev) : Dev :=
  match laneAt off with
  | some l => hookLane l off old d
  | none =>
    let b := off / 0x10000
    if b = 0x01 ∨ b = 0x02 then hookLow off old lvl d
    else if Reg.PORT_EN 0 ≤ off ∧ off < Reg.PORT_EN 192 then
      portEnWritten ((off - Reg.PORT_EN 0) / 4) (fieldOf old 0 5) d
    else if (b = 0x08 ∨ b = 0x09) ∧ 0x1000 ≤ off % 0x10000 ∧ off % 0x10000 < 0x2000 ∧ 0x80 ≤ off % 0x100 then
      dlyWritten (16 * (b - 8) + (off % 0x10000 - 0x1000) / 0x100) d
    else if off = Reg.PORT_CTL 0 then portCtlWritten 0 old d
    else if off = Reg.PORT_CTL 1 then portCtlWritten 1 old d
    else if off = Reg.PACK_CTL ∨ off = Reg.PACK_IDS then packWritten was (if off = Reg.PACK_IDS then fieldOf old 0 16 else d.ctl Reg.PACK_IDS_PACK_ID) d
    else if off = Reg.SCRUB_CTL ∨ off = Reg.SCRUB_PERIOD then d.scrubWritten
    else if Reg.SEC_KEY_DATA 0 ≤ off ∧ off < Reg.SEC_KEY_DATA 16 then
      { d with keys := { d.keys with written := true } }
    else if off = Reg.WDT_CTL then d.wdtCtlWritten
    else if off = Reg.DPC then d.setMp { d.mp with pc := d.word off }
    else if off = Reg.DREG_DATA then d.setDreg (d.word off)
    else if 0x10 ≤ b ∧ off = Reg.BORDER_CTL (b - 0x10) then forceWritten (b - 0x10) d
    else d

/-! ## Writes -/

/-- A write of field `f` alone writes its whole register: the register has no other CTL field. -/
def wholeBy (f : Fld) : Bool :=
  match regAt f.off with
  | some r => r.fields.all (fun g => g.cls != .ctl || (g.lsb == f.lsb && g.w == f.w))
  | none => true

/-- The register at `off` takes the write of `x`: its fields by their classes, its commands in the order of
their bits, and what follows. A write of the whole register ends its parity fault (R90). A command refused
leaves every field as it was (R43, R81). `co`: what falls in the cycle of the write. -/
def csrStore (co : Nat) (whole : Bool) (who : Who) (off : Nat) (x : Word) (d : Dev) : Dev × Code :=
  match fifoAt off with
  | some p => d.fifoWrite p (BitVec.ofNat 8 (fieldOf x 0 8))
  | none =>
    if off = Reg.UNLOCK_KEY then
      if fieldOf x 0 16 = 0x7A3C then (d.arm who, .ok) else (d.disarm who, .targetErr)
    else
      match regAt off with
      | none => (d, .ok)
      | some r =>
        let old := d.word off
        let d := d.keepWord off
        let d1 := if Reg.PATCH_ADDR 0 ≤ off ∧ off < Reg.PATCH_ADDR 16
          then patchKeep ((off - Reg.PATCH_ADDR 0) / 0x10) d else d
        let lvl := decide (off = Reg.PWR_CTL) && d1.levelWritten x
        let d2 := d1.plainWrite r off x
        let run := (presented co off x).foldl (fun (a : Dev × Code) c =>
          if a.2 = .ok then c.eff x a.1 else a) (if whole then d2.parityClear off else d2, Code.ok)
        if run.2 = .ok then (csrHook off old lvl d.packOn run.1, .ok)
        else
          let back := run.1.putWord off (r.written (run.1.word off) old)
          ({ back with parityFailed := d.parityFailed, kept := d.kept }, run.2)

/-- A write of the register at `off` that has passed the unlock check: BUSY ranks before TARGET_ERR
(R44). -/
def csrExec (co : Nat) (whole : Bool) (who : Who) (off : Nat) (x : Word) (d : Dev) : Dev × Code :=
  if d.csrBusy off x then (d, .busy)
  else if d.csrInRange off x then d.csrStore co whole who off x
  else if (d.csrStore co whole who off x).2 = .busy then (d, .busy)
  else (d, .targetErr)

/-- The refusal with `c` of a write of `x` by `who`: a security command that is refused DENIED while none runs
sets CMD_REFUSED and clears SEC_KEY_DATA (R246). A write that no initiator of its kind may make presents no
command (R22, log 104). -/
def csrRefuse (who : Who) (off : Nat) (x : Word) (c : Code) (d : Dev) : Dev × Code :=
  if off = Reg.SEC_CTL ∧ c = .denied ∧ presented 0 off x ≠ [] ∧ !who.deniedCsr ∧ d.keys.cmd.isNone
  then d.secRefuse .denied else (d, c)

/-- One write that covers the registers of `ws` is admitted (R83): no code that ranks before the unlock check
applies, and one unlock, which it consumes, covers every guarded field that it changes; `rwl`: it writes an
object that needs the unlock whatever it changes (R69). The configuration controller writes without an
unlock (R250). -/
def csrAdmit (who : Who) (rwl : Bool) (ws : List (Nat × Word)) (d : Dev) : Dev × Code :=
  match firstCode (ws.filterMap (fun w => d.csrRefusal who w.1 w.2)) with
  | some c => csrRefuse who ((ws.map (·.1)).headD 0) ((ws.map (·.2)).headD 0) c d
  | none =>
    match d.unlockCheck who (who != .config && (rwl || ws.any (fun w => d.csrGuarded w.1 w.2))) with
    | none => (d, .unlockRequired)
    | some d1 => (d1, .ok)

/-- The registers of an admitted write take it, in order; `whole`: each is written whole. -/
def csrRun (co : Nat) (whole : Bool) (who : Who) (ws : List (Nat × Word)) (d : Dev) : Dev × Code :=
  ws.foldl (fun a w => if a.2 = .ok then a.1.csrExec co whole who w.1 w.2 else a) (d, Code.ok)

/-- The indexes whose change counters a write of `x` to the register at `off`, which held `old`, moves (R42,
R72). Two registers have their aliases under several indexes: there a command moves the index of its own
object, and the index of the CTL fields moves when a field changes or no command is presented (log 102). -/
def aliasesWritten (off : Nat) (old x : Word) : List Nat :=
  let pick := fun (ctl mask : Nat) (cmds : List (Nat × Nat)) =>
    let hit := cmds.filter (fun c => fieldOf x 0 32 &&& c.1 != 0)
    (if hit = [] ∨ (x.toNat ^^^ old.toNat) &&& mask ≠ 0 then [ctl] else []) ++ hit.map (·.2)
  if off = Reg.CFG_CTL then (pick 0x3010 0xF [(0x30, 0x3012)]).dedup
  else if off = Reg.NOC_CTL then (pick 0x6010 0xC0 [(0x1, 0x6000), (0xE, 0x6010), (0x30, 0x6020)]).dedup
  else [aliasIndex off]

/-- A write of one register through its CSR address, with what falls in its cycle; the change counters of its
aliases move (R42, R72). -/
def csrWriteCo (co : Nat) (who : Who) (off : Nat) (x : Word) (d : Dev) : Dev × Code :=
  let a := d.csrAdmit who false [(off, x)]
  if a.2 ≠ .ok then a
  else
    let r := a.1.csrRun co true who [(off, x)]
    if r.2 = .ok then ((aliasesWritten off (d.word off) x).foldl touch r.1, .ok) else r

/-- A write of one register through its CSR address. -/
def csrWrite (who : Who) (off : Nat) (x : Word) (d : Dev) : Dev × Code := d.csrWriteCo 0 who off x

/-- A write of the register of field `f` that leaves its other CTL fields as they are. -/
def fieldWrite (who : Who) (f : Fld) (v : Nat) (d : Dev) : Dev × Code :=
  d.csrWrite who f.off (withField (d.word f.off) f.lsb f.w v)

/-- A write of 1 to command field `f`, the register's CTL fields keeping their values. -/
def command (who : Who) (f : Fld) (d : Dev) : Dev × Code := d.fieldWrite who f 1

/-- A CSR write request (R85): whole aligned registers, 1 to 16 of them, one at a time in ascending order. -/
def csrWriteReq (who : Who) (off : Nat) (xs : List Word) (d : Dev) : Dev × Code :=
  if 0x900000 ≤ off then (d, .noTarget)
  else if off % 4 ≠ 0 ∨ xs = [] ∨ 16 < xs.length then (d, if who.deniedCsr then .denied else .targetErr)
  else
    (xs.zipIdx).foldl (fun (a : Dev × Code) x =>
      if a.2 = .ok then a.1.csrWrite who (off + 4 * x.2) x.1 else a) (d, Code.ok)

/-! ## Parity faults (R90, R91) -/

/-- What a block does at once when the CTL register at `off` fails its check (R90): the value is no longer used. -/
def ctlFails (off : Nat) (d : Dev) : Dev :=
  let d1 := { d with parityFailed := if d.failed off then d.parityFailed else off :: d.parityFailed }
  let b := off / 0x10000
  if 0x10 ≤ b ∧ b < 0x90 ∧ off = Reg.BORDER_CTL (b - 0x10) then forceWritten (b - 0x10) d1
  else if b = 0x04 then d1.scrubWritten
  else d1

/-- A pending command of the register at `off` is discarded with outcome TARGET_ERR (R91): the one whose field
reads 1 while it waits is REINIT. -/
def cmdFails (off : Nat) (d : Dev) : Dev :=
  let n := off / 0x10000 - 0x10
  if 0x10 ≤ off / 0x10000 ∧ n < 128 ∧ off = Reg.FF_CTL n ∧ d.on (Reg.FF_CTL_REINIT n) then
    ((reinitEnd n .targetErr d).clear (Reg.RGN_STS_WAIT_REINIT n)).raise (Reg.FF_EVT_REINIT_DONE n)
  else d

/-- A parity mismatch of a field of class `cls` of the register at `off` (R90, R91): a CTL register stops being
used; an EVT register has every event set; a CNT register reads as saturated; a CMD register's pending command is
discarded. A register without a field of the class has none to check. -/
def parityMismatch (off : Nat) (cls : Cls) (d : Dev) : Dev :=
  match regAt off with
  | none => d
  | some r =>
    if r.fields.all (fun f => f.cls != cls) then d
    else
      let ones := r.fields.foldl (fun a f =>
        if f.cls = cls then withField a f.lsb f.w (2 ^ f.w - 1) else a) (d.word off)
      let d1 := d.raise Reg.FAULT_EVT_PARITY_FAULT
      let d2 := ((d1.set Reg.PARITY_ADDR_OFFSET off).raise Reg.PARITY_ADDR_VALID).count
        Reg.FAULT_CNT_PARITY_CNT
      match cls with
      | .ctl => d2.ctlFails off
      | .evt => d2.putWord off ones
      | .cnt => d2.putWord off ones
      | .cmd => d2.cmdFails off
      | .sts => d2
      | .key => d2

/-! ## Reads -/

/-- The word that the register at `off` shows: for registers that follow other state, from that state. -/
def csrShow (d : Dev) (off : Nat) : Word :=
  let b := off / 0x10000
  let n := b - 0x10
  let lo := off % 0x10000
  match fifoReadAt off with
  | some p => d.fifoWord p
  | none =>
    if off = Reg.LOG_LO then BitVec.ofNat 32 d.logHead.1
    else if off = Reg.LOG_HI then BitVec.ofNat 32 d.logHead.2
    else if Reg.SEC_KEY_DATA 0 ≤ off ∧ off < Reg.SEC_KEY_DATA 16 then 0
    else if off = Reg.DPC then (if d.halted then d.mp.pc else 0)
    else if off = Reg.DREG_DATA then (if d.halted then d.dreg else 0)
    else if off = Reg.NOC_STS then withField (d.word off) 12 20 (min (2 ^ 20 - 1) d.oldLeft)
    else if b = 0x06 ∧ 0x1000 ≤ lo ∧ lo < 0x1000 + 170 * 0x20 ∧ lo % 0x20 = 8 then
      let i := (lo - 0x1000) / 0x20
      withField (withField (d.word off) 1 13 ((d.niSt i).tags.length + (d.niSt i).fences.length)) 14 12 (min (2 ^ 12 - 1) (d.oldAtNi i))
    else if (b = 0x08 ∨ b = 0x09) ∧ 0x1000 ≤ lo ∧ lo < 0x2000 ∧ lo % 0x100 = 4 then
      withField (d.word off) 0 10 (d.chSt (16 * (b - 8) + (lo - 0x1000) / 0x100)).queue.length
    else if 0x10 ≤ b ∧ b < 0x90 ∧ (off = Reg.IO_IN n 0 ∨ off = Reg.IO_IN n 1) then
      let base := if off = Reg.IO_IN n 0 then 0 else 32
      if isEdge n then
        BitVec.ofNat 32 (((List.range 32).map (fun j =>
          if base + j < 48 then bit01 (d.pinLevel n (base + j)) * 2 ^ j else 0)).sum)
      else 0
    else if 0x10 ≤ b ∧ b < 0x90 ∧ off = Reg.IO_STS n then (if isEdge n then d.word off else 0)
    else d.word off

/-- A read of the register at `off` (R81, R90, R93): its word, with KEY fields 0; without NOSIDE it clears
the register's EVT fields and pops what the register pops. -/
def csrReadWord (noside : Bool) (off : Nat) (d : Dev) : Word × Dev × Code :=
  match regAt off with
  | none => (0, d, .ok)
  | some r =>
    let x := r.readable (d.csrShow off)
    let d1 := if noside then d
      else
        let a := d.putWord off (r.evtCleared (d.word off))
        let b := match fifoReadAt off with
          | some p => a.fifoPop p
          | none => a
        if off = Reg.LOG_HI then b.logPop else b
    (x, d1, if d.failed off then .targetErr else .ok)

/-- The refusal of a read by initiator `who` (R22, R41, R408): a fabric network interface reads the page of
its own region alone, and another block of the data plane none (log 30). -/
def csrReadRefusal (who : Who) (off : Nat) (d : Dev) : Option Code :=
  firstCode ((if 0x900000 ≤ off then [.noTarget] else [])
    ++ (if d.csrFenced off then [.fenced] else [])
    ++ (match who with
        | .fabric n => if off / 0x10000 = 0x10 + n.val then [] else [.denied]
        | .data _ => [.denied]
        | _ => []))

/-- A read of one register. -/
def csrRead (who : Who) (noside : Bool) (off : Nat) (d : Dev) : Word × Dev × Code :=
  match d.csrReadRefusal who off with
  | some c => (0, d, c)
  | none => d.csrReadWord noside off

/-- A CSR read request of `k` registers (R85): the words read, up to the first that does not answer OK. -/
def csrReadReq (who : Who) (noside : Bool) (off k : Nat) (d : Dev) : List Word × Dev × Code :=
  if 0x900000 ≤ off then ([], d, .noTarget)
  else if off % 4 ≠ 0 ∨ k = 0 ∨ 16 < k then ([], d, if who.deniedCsr then .denied else .targetErr)
  else
    (List.range k).foldl (fun (a : List Word × Dev × Code) j =>
      if a.2.2 = .ok then
        let r := a.2.1.csrRead who noside (off + 4 * j)
        (a.1 ++ [r.1], r.2)
      else a) ([], d, Code.ok)

end Dev

end Sys2Proof.Machine
end

