-- ==== Sys2Proof/Machine/Seal.lean ====
section
/-! DEFINITION. The end of a load (R249, R250): the seal, the hard-block records, and the passing of a
start-up attempt (R256). -/

namespace Sys2Proof.Machine

namespace Dev

/-- A refused entry is counted and its CSR offset recorded; the next entry runs (R250). -/
def hardSkip (off : Nat) (d : Dev) : Dev :=
  ((d.count Reg.CFG_HSKIP_SKIPPED).set Reg.CFG_HLAST_OFFSET off).raise Reg.CFG_HLAST_VALID

/-- One entry of 8 bytes of a preset unit of block `h`: in use, it is a write of the whole register by the
configuration controller, which needs no unlock (R250). -/
def hardEntry (h : Nat) (e : List Byte) (d : Dev) : Dev :=
  if leAt e 2 1 ≠ 1 then d
  else
    let off := h * 0x10000 + leAt e 0 2
    let r := d.csrWrite .config off (BitVec.ofNat 32 (leAt e 4 4))
    if r.2 = .ok then r.1 else hardSkip off r.1

/-- One unit of the staging buffer: 64 entries, or the POWER tier (R250). -/
def hardUnit (d : Dev) (u : HardUnit) : Dev :=
  if u.block = 0x10 then
    let r := d.fieldWrite .config Reg.PWR_CTL_VTIER (leAt u.bytes 0 1 % 4)
    if r.2 = .ok then r.1 else hardSkip Reg.PWR_CTL r.1
  else (List.range 64).foldl (fun a k => hardEntry u.block (bytesAt u.bytes (8 * k) 8) a) d

/-- SEAL_CHECK: the seal of the load whose last tag has passed is read and the final checks run (R249,
R251). A load that passes makes its planes VERIFIED and hands its records to the hard blocks; a FULL load is
a passed start-up attempt (R256). `ext`: what the xSPI flash holds, by address. -/
def sealCheck (ext : List (Nat × List Byte)) (d : Dev) : Dev :=
  match d.load with
  | none => d
  | some l =>
    if l.header = [] ∨ l.seg ≠ segCount l.header then d
    else
      match d.fetch l.src (streamLen l.header - 256) 256 ext with
      | (.wait, d1) => d1
      | (.part _ c code, d1) => d1.loadFail c 0xFF code
      | (.bytes bs, d1) =>
        match d1.finalChecks l bs with
        | some (c, f) => d1.loadFail c 0xFF .targetErr f
        | none =>
          let d2 := l.units.foldl hardUnit (d1.loadVerified l)
          if l.kind = 3 then d2.raise Reg.CFG_EVT_HLOAD_DONE
          else if l.kind = 1 then d2.attemptPass l.touched
          else d2

end Dev

end Sys2Proof.Machine
end

