-- ==== Sys2Proof/Machine/Reports.lean ====
section
/-! DEFINITION. Two operations that both a Waybill request and a dictionary object start: the attestation
report (R257 to R259) and the barrier of object 0x1F20 (R66, R473). -/

namespace Sys2Proof.Machine

namespace Dev

/-! ## Attestation -/

/-- Byte 168 of the report, and object 0x8110:04: the signer of the running primary image (R258, R447). -/
def fwSigner (d : Dev) : Nat := leAt d.fwImage 11 1

/-- SHA-512 of a firmware image; all zero while none is there (R258, R447). -/
def fwDigest (img : List Byte) : List Byte := if img = [] then leBytes 64 0 else sha512 img

/-- The entry of region `n` (R259): the image of the active plane. -/
def attestRegion (d : Dev) (n : Nat) : List Byte :=
  leBytes 1 (d.rstate n) ++
    (if d.hasImage n then
      let i := SMap.get {} d.planes (2 * n + d.activePlane n)
      leBytes 1 i.slot ++ leBytes 2 0 ++ leBytes 4 i.version
        ++ (List.range 16).flatMap (fun j => leBytes 4 (d.word (Reg.ACTIVE_DIGEST n j)).toNat)
    else leBytes 71 0)

/-- Bytes 0 to 9,471 of the report (R258). -/
def attestReport (d : Dev) (nonce : List Byte) : List Byte :=
  "WEAZATST".toList.map (fun c => BitVec.ofNat 8 c.toNat)
  ++ leBytes 2 1 ++ leBytes 2 128
  ++ leBytes 4 (d.word Reg.DEV_IDCODE).toNat ++ leBytes 2 (d.word Reg.DEV_STEP).toNat ++ leBytes 6 0
  ++ leBytes 8 d.keys.serial
  ++ leBytes 8 (if d.on Reg.PACK_STS_TIME_VALID then d.packTime else 2 ^ 64 - 1)
  ++ fit 64 nonce ++ fwDigest d.fwImage ++ leBytes 1 d.fwSigner ++ leBytes 7 0
  ++ leBytes 4 (d.get Reg.SCRUB_PASSES_CNT) ++ leBytes 4 (d.get Reg.SCRUB_CORRECTED_CNT)
  ++ leBytes 4 (d.get Reg.SCRUB_RELOADS_CNT) ++ leBytes 4 (d.get Reg.MEM_CORRECTED_CNT)
  ++ leBytes 4 (d.get Reg.MEM_POISONED_CNT)
  ++ leBytes 1 ((List.range 128).countP (fun n => d.rstate n == rsRetired))
  ++ leBytes 1 ((List.range 32).countP (fun k => d.chRetired k))
  ++ leBytes 1 (d.get Reg.SCRUB_STS_GOLDEN_USABLE) ++ leBytes 57 0
  ++ (List.range 128).flatMap d.attestRegion

/-- The report is gathered in one cycle and awaits its signature; `req`: the request that asked for it (none:
object 0x8200) (R258). -/
def attestStart (req : Option WbReq) (nonce : List Byte) (d : Dev) : Dev :=
  { d with wb := { d.wb with attest := d.wb.attest ++ [(req, d.attestReport nonce)] } }

/-- ATTEST_SIGNED: the oldest report takes its signature under the identity key, whose per-message secret number is
a free value (log 12), and goes out, or fills the parts of object 0x8200 (R258, R260). -/
def attestSigned (d : Dev) : Dev :=
  match d.wb.attest with
  | [] => d
  | (req, body) :: rest =>
    let k := d.freeBelow (p521N - 1)
    let sig := p521Sign d.keys.idPriv (k.1 + 1) body
    let d1 := { k.2 with wb := { k.2.wb with attest := rest } }
    let report := body ++ (leBytes 66 sig.1).reverse ++ (leBytes 66 sig.2).reverse
    match req with
    | some q => d1.respond q { data := report, change := d1.changeOf q.msg.index }
    | none =>
      ((List.range 3).foldl (fun a k => a.fwSet 0x8200 (3 + k) (bytesAt report (4096 * k) 4096)) d1).cmdDone
        0x8200 2 .ok

/-! ## Barriers -/

/-- A commit has been accepted at rendezvous point `point` for `object` and has not yet taken effect (R24,
R66). -/
def commitPending (d : Dev) (point object : Nat) : Bool :=
  match point with
  | 1 => d.on Reg.NOC_STS_COMMIT_PENDING
  | 2 => d.ctx.commitDue
  | 3 => d.rstate object == rsSwapping
  | _ => d.domMoving object

/-- The refusal of a local barrier: TARGET_ERR for a point outside 1 to 4, NO_TARGET for an object that the
point does not have (log 48). -/
def localRefusal (point object : Nat) : Option Code :=
  if point = 0 ∨ 4 < point then some .targetErr
  else if point ≤ 2 ∧ object ≠ 0 then some .noTarget
  else if point = 3 ∧ 128 ≤ object then some .noTarget
  else if point = 4 ∧ (domKind object).isNone then some .noTarget
  else none

/-- A barrier starts, by a request or as a run of object 0x1F20 (`req` none): its refusal, its completion at
once (true), or neither, when it waits (R66, R473). -/
def barrierStart (req : Option WbReq) (arg : Nat) (payload : List Byte) (d : Dev) :
    Dev × Option Code × Bool :=
  match arg % 16 with
  | 1 =>
    let point := arg / 16 % 16
    let object := arg / 256 % 65536
    match localRefusal point object with
    | some c => (d, some c, false)
    | none =>
      if d.commitPending point object then
        ({ d with wb := { d.wb with barriers := d.wb.barriers ++ [⟨req, point, object⟩] } }, none, false)
      else (d, none, true)
  | 2 | 3 =>
    match d.pbRefusal arg payload with
    | some c => (d, some c, false)
    | none => (d.pbStart req arg payload, none, false)
  | _ => (d, some .targetErr, false)

/-- A write of object 0x1F20: ARG and payload (R66, R70). -/
def barrierWrite (value : List Byte) (d : Dev) : Dev × Code :=
  if (SMap.get {} d.cmds (objKey 0x1F20 0)).busy then (d, .busy)
  else
    let r := (d.cmdStart 0x1F20 0).barrierStart none (leAt value 0 8) (bytesAt value 8 24)
    match r.2.1 with
    | some c => (d, c)
    | none => (if r.2.2 then r.1.cmdDone 0x1F20 0 .ok else r.1, .ok)

end Dev

end Sys2Proof.Machine
end

