-- ==== Sys2Proof/Machine/Objects.lean ====
section
/-! DEFINITION. The object dictionary (R67 to R71): every object of the chapters' tables, with its type,
access right, server, and what it maps to. -/

namespace Sys2Proof.Machine

/-- The types of R68; OCTETS and STRING take their size from the object. -/
inductive ObjTy where
  | bool | u8 | u16 | u32 | u64 | i32 | i64 | octets | string | digest
deriving DecidableEq, Repr

/-- The type code of R68. -/
def ObjTy.code : ObjTy → Nat
  | .bool => 1 | .u8 => 2 | .u16 => 3 | .u32 => 4 | .u64 => 5 | .i32 => 6 | .i64 => 7 | .octets => 8
  | .string => 9 | .digest => 10

/-- The access rights of R69. -/
inductive Access where
  | ro | rw | wo | rwl | rc | cmd
deriving DecidableEq, Repr

/-- The access code of R69. -/
def Access.code : Access → Nat
  | .ro => 1 | .rw => 2 | .wo => 3 | .rwl => 4 | .rc => 5 | .cmd => 6

/-- What an object maps to: one field; whole registers; registers in a row; fields of `w` bytes each; a field
in its own place; a value that the firmware holds, with its default; or a value of the chapter that names
it. -/
inductive ObjMap where
  | field (f : Fld)
  | regs (offs : List Nat)
  | run (off count : Nat)
  | fields (w : Nat) (fs : List Fld)
  | inPlace (f : Fld)
  | fw (dflt : Nat)
  | client (s : Nat)
  | userMap (s : Nat)
  | unlock
  | barrier
  | attest
  | offFlags
  | held
  | regionMap
  | cert
  | idKey
  | slotDigest (k : Nat)
  | chRetire
  | fuseTemp (s : Nat)
  | fuseDelay (k : Nat)
  | fwImage (what : Nat)
  | serial
  | baseMac
  | packRecord
  | roster (r : Nat)
  | arrive
  | release
deriving DecidableEq, Repr

/-- A row of the object tables: `n` indexes from `ix`, `m` subindexes from `sub`, the type with its size in
bytes, the access right, the server (0 hardware, 1 firmware), and what the object at index `ix + i` and
subindex `sub + j` maps to. -/
structure ObjDef where
  ix : Nat
  n : Nat
  sub : Nat
  m : Nat
  ty : ObjTy
  size : Nat
  acc : Access
  srv : Nat
  map : Nat → Nat → ObjMap

/-- Port `p`'s latency target at channel `k` (R360). -/
def chPort (k p : Nat) : Fld := if k < 16 then Reg.PORT_LAT0_LAT_NS k p else Reg.PORT_LAT1_LAT_NS (k - 16) p

/-- The delay of DQ line `j` of channel `k` (R354). -/
def chDelay (k j : Nat) : Fld :=
  ⟨if k < 16 then Reg.DLY0 k (j / 4) else Reg.DLY1 (k - 16) (j / 4), 8 * (j % 4), 7, false, 0x4810 + k⟩

/-- The offset of channel `k`'s registers (R360). -/
def chBase (k : Nat) : Nat := 0x081000 + k / 16 * 0x10000 + k % 16 * 0x100

/-- The commands of CTX_CTL, in the order of object 0x6800. -/
def ctxCmd (j : Nat) : Fld := ⟨Reg.CTX_CTL, j, 1, j != 4, 0x6800⟩

/-- Identity, communication, start-up and the management processor (0x1000 to 0x1FFF). -/
def objsComm1 : List ObjDef := [
  ⟨0x1010, 1, 1, 1, .bool, 1, .rw, 0, fun _ _ => .field Reg.WB_CTL_L2_EN⟩,
  ⟨0x1010, 1, 2, 1, .bool, 1, .rw, 0, fun _ _ => .field Reg.WB_CTL_UDP_EN⟩,
  ⟨0x1010, 1, 3, 1, .u16, 2, .rwl, 0, fun _ _ => .field Reg.WB_CTL_WB_UDP_PORT⟩,
  ⟨0x1010, 1, 4, 1, .u32, 4, .rw, 1, fun _ _ => .fw 0⟩,
  ⟨0x1010, 1, 5, 1, .octets, 16, .rw, 1, fun _ _ => .fw 0⟩,
  ⟨0x1010, 1, 6, 1, .u32, 4, .ro, 0, fun _ _ => .regs [Reg.WB_DROP]⟩,
  ⟨0x1020, 1, 1, 4, .octets, 32, .rw, 1, fun _ _ => .fw 0⟩,
  ⟨0x1030, 1, 1, 62, .octets, 8, .ro, 0, fun _ j => .client (j + 1)⟩,
  ⟨0x1040, 1, 1, 64, .u64, 8, .rwl, 0, fun _ j => .userMap (j + 1)⟩,
  ⟨0x1F00, 1, 0, 1, .u16, 2, .wo, 0, fun _ _ => .unlock⟩,
  ⟨0x1F20, 1, 0, 1, .octets, 32, .cmd, 1, fun _ _ => .barrier⟩,
  ⟨0x1100, 1, 1, 1, .u32, 4, .ro, 0, fun _ _ => .regs [Reg.DEV_IDCODE]⟩,
  ⟨0x1100, 1, 2, 1, .u16, 2, .ro, 0, fun _ _ => .regs [Reg.DEV_STEP]⟩,
  ⟨0x1F10, 1, 1, 1, .bool, 1, .cmd, 0, fun _ _ => .field Reg.SNAP_CTL_SNAP⟩,
  ⟨0x1F10, 1, 2, 1, .u16, 2, .ro, 0, fun _ _ => .field Reg.SNAP_STS_SNAP_SEQ⟩,
  ⟨0x1F10, 1, 3, 1, .u64, 8, .ro, 0, fun _ _ => .regs [Reg.SNAP_TIME 0, Reg.SNAP_TIME 1]⟩,
  ⟨0x1F30, 1, 1, 1, .u32, 4, .rc, 0, fun _ _ => .regs [Reg.FAULT_EVT]⟩,
  ⟨0x1F30, 1, 2, 1, .u32, 4, .ro, 0, fun _ _ => .regs [Reg.PARITY_ADDR]⟩,
  ⟨0x1F30, 1, 3, 1, .u32, 4, .ro, 0, fun _ _ => .regs [Reg.TMR_ADDR]⟩,
  ⟨0x1F30, 1, 4, 1, .u32, 4, .rw, 0, fun _ _ => .regs [Reg.FAULT_CNT]⟩,
  ⟨0x1200, 1, 1, 1, .u32, 4, .ro, 0, fun _ _ => .regs [Reg.MP_STS]⟩,
  ⟨0x1200, 1, 2, 1, .u32, 4, .rc, 0, fun _ _ => .regs [Reg.MP_EVT]⟩,
  ⟨0x1200, 1, 3, 1, .u32, 4, .rw, 0, fun _ _ => .regs [Reg.MP_CNT]⟩,
  ⟨0x1200, 1, 4, 1, .bool, 1, .cmd, 0, fun _ _ => .field Reg.SOFT_RESET_SOFT_RESET⟩]

/-- The same, continued. -/
def objsComm2 : List ObjDef := [
  ⟨0x1201, 1, 1, 1, .u8, 1, .cmd, 0, fun _ _ => .regs [Reg.FLASH_CMD]⟩,
  ⟨0x1201, 1, 2, 1, .u32, 4, .rw, 0, fun _ _ => .regs [Reg.FLASH_ADDR]⟩,
  ⟨0x1201, 1, 3, 1, .u64, 8, .rw, 0, fun _ _ => .run (Reg.FLASH_DATA 0) 2⟩,
  ⟨0x1201, 1, 4, 1, .u32, 4, .ro, 0, fun _ _ => .regs [Reg.FLASH_STS]⟩,
  ⟨0x1201, 1, 5, 1, .u32, 4, .rc, 0, fun _ _ => .regs [Reg.FLASH_EVT]⟩,
  ⟨0x1210, 4, 1, 1, .u32, 4, .rw, 0, fun i _ => .regs [Reg.UART_CTL i]⟩,
  ⟨0x1210, 4, 2, 1, .u8, 1, .wo, 0, fun i _ => .regs [Reg.UART_TXD i]⟩,
  ⟨0x1210, 4, 3, 1, .u16, 2, .ro, 0, fun i _ => .regs [Reg.UART_RXD i]⟩,
  ⟨0x1210, 4, 4, 1, .u32, 4, .rc, 0, fun i _ => .regs [Reg.UART_EVT i]⟩,
  ⟨0x1218, 4, 1, 1, .u32, 4, .rw, 0, fun i _ => .regs [Reg.I2C_CTL i]⟩,
  ⟨0x1218, 4, 2, 1, .u32, 4, .rw, 0, fun i _ => .regs [Reg.I2C_XFER i]⟩,
  ⟨0x1218, 4, 3, 1, .u8, 1, .rw, 0, fun i _ => .regs [Reg.I2C_FIFO i]⟩,
  ⟨0x1218, 4, 4, 1, .u32, 4, .rc, 0, fun i _ => .regs [Reg.I2C_EVT i]⟩,
  ⟨0x1220, 2, 1, 1, .u32, 4, .rw, 0, fun i _ => .regs [Reg.SPI_CTL i]⟩,
  ⟨0x1220, 2, 2, 1, .u32, 4, .rw, 0, fun i _ => .regs [Reg.SPI_XFER i]⟩,
  ⟨0x1220, 2, 3, 1, .u8, 1, .rw, 0, fun i _ => .regs [Reg.SPI_FIFO i]⟩,
  ⟨0x1220, 2, 4, 1, .u32, 4, .rc, 0, fun i _ => .regs [Reg.SPI_EVT i]⟩,
  ⟨0x1228, 1, 1, 1, .u32, 4, .rw, 0, fun _ _ => .regs [Reg.XSPI_CTL]⟩,
  ⟨0x1228, 1, 2, 1, .u32, 4, .rw, 0, fun _ _ => .regs [Reg.XSPI_ADDR]⟩,
  ⟨0x1228, 1, 3, 1, .u32, 4, .rw, 0, fun _ _ => .regs [Reg.XSPI_XFER]⟩,
  ⟨0x1228, 1, 4, 1, .u8, 1, .rw, 0, fun _ _ => .regs [Reg.XSPI_FIFO]⟩,
  ⟨0x1228, 1, 5, 1, .u32, 4, .rc, 0, fun _ _ => .regs [Reg.XSPI_EVT]⟩,
  ⟨0x1230, 2, 1, 1, .u32, 4, .rw, 0, fun i _ => .regs [Reg.MDIO_CTL i]⟩,
  ⟨0x1230, 2, 2, 1, .u32, 4, .rw, 0, fun i _ => .regs [Reg.MDIO_XFER i]⟩]

/-- The same, continued. -/
def objsComm3 : List ObjDef := [
  ⟨0x1230, 2, 3, 1, .u32, 4, .rc, 0, fun i _ => .regs [Reg.MDIO_EVT i]⟩,
  ⟨0x1100, 1, 3, 1, .u64, 8, .ro, 0, fun _ _ => .serial⟩,
  ⟨0x1100, 1, 4, 1, .octets, 6, .ro, 0, fun _ _ => .baseMac⟩,
  ⟨0x1100, 1, 5, 1, .octets, 96, .ro, 0, fun _ _ => .packRecord⟩,
  ⟨0x1300, 1, 1, 1, .bool, 1, .cmd, 0, fun _ _ => .field Reg.RST_CTL_DP_RESET⟩,
  ⟨0x1300, 1, 2, 1, .bool, 1, .cmd, 0, fun _ _ => .field Reg.RST_CTL_WARM_RESET⟩,
  ⟨0x1300, 1, 3, 1, .bool, 1, .cmd, 0, fun _ _ => .field Reg.RST_CTL_ADVANCE⟩,
  ⟨0x1300, 1, 4, 1, .bool, 1, .rw, 0, fun _ _ => .field Reg.RST_CTL_DONE_WAIT⟩,
  ⟨0x1300, 1, 5, 1, .u32, 4, .ro, 0, fun _ _ => .regs [Reg.START_STS]⟩,
  ⟨0x1300, 1, 6, 1, .u32, 4, .ro, 0, fun _ _ => .regs [Reg.RST_CAUSE]⟩,
  ⟨0x1300, 1, 7, 1, .u32, 4, .rc, 0, fun _ _ => .regs [Reg.RST_EVT]⟩,
  ⟨0x1300, 1, 8, 1, .u32, 4, .rw, 0, fun _ _ => .regs [Reg.RST_CNT]⟩,
  ⟨0x1300, 1, 9, 1, .u32, 4, .ro, 0, fun _ _ => .regs [Reg.CRIT_ADDR]⟩]

/-- Identity, communication, start-up and the management processor (0x1000 to 0x1FFF), whole. -/
def objsComm : List ObjDef := objsComm1 ++ objsComm2 ++ objsComm3

/-- Power and clocks (0x2000 to 0x2FFF). -/
def objsPower1 : List ObjDef := [
  ⟨0x2100, 1, 1, 1, .u32, 4, .ro, 0, fun _ _ => .regs [Reg.CLK_STS]⟩,
  ⟨0x2100, 1, 2, 1, .u32, 4, .rc, 0, fun _ _ => .regs [Reg.CLK_EVT]⟩,
  ⟨0x2100, 1, 3, 1, .u64, 8, .ro, 0, fun _ _ => .regs [Reg.ROOT_CNT 0, Reg.ROOT_CNT 1]⟩,
  ⟨0x2110, 16, 1, 1, .u32, 4, .rw, 0, fun i _ => .regs [Reg.FS_CTL i]⟩,
  ⟨0x2110, 16, 2, 1, .u32, 4, .rw, 0, fun i _ => .regs [Reg.FS_DIV i]⟩,
  ⟨0x2110, 16, 3, 1, .u32, 4, .rw, 0, fun i _ => .regs [Reg.FS_ODIV i]⟩,
  ⟨0x2110, 16, 4, 1, .u32, 4, .ro, 0, fun i _ => .regs [Reg.FS_STS i]⟩,
  ⟨0x2130, 32, 1, 1, .u32, 4, .rw, 0, fun i _ => .regs [Reg.GCK_SEL i]⟩,
  ⟨0x2150, 4, 1, 1, .u32, 4, .rw, 0, fun i _ => .regs [Reg.RING_CTL i]⟩,
  ⟨0x2000, 1, 1, 1, .u32, 4, .rwl, 0, fun _ _ => .regs [Reg.PWR_CTL]⟩,
  ⟨0x2000, 1, 2, 1, .u32, 4, .rwl, 0, fun _ _ => .regs [Reg.PWR_VINT]⟩,
  ⟨0x2000, 1, 3, 1, .u32, 4, .ro, 0, fun _ _ => .regs [Reg.PWR_STS]⟩,
  ⟨0x2000, 1, 4, 1, .u32, 4, .rc, 0, fun _ _ => .regs [Reg.PWR_EVT]⟩,
  ⟨0x2000, 1, 5, 1, .u32, 4, .rwl, 0, fun _ _ => .regs [Reg.PWR_AVS]⟩,
  ⟨0x2000, 1, 6, 1, .u16, 2, .rw, 0, fun _ _ => .field Reg.PWR_DRAIN_DRAIN_US⟩,
  ⟨0x2000, 1, 7, 1, .u32, 4, .ro, 0, fun _ _ => .regs [Reg.PWR_LAST]⟩,
  ⟨0x2010, 1, 1, 1, .bool, 1, .rw, 1, fun _ _ => .fw 1⟩,
  ⟨0x2010, 1, 2, 1, .u16, 2, .rw, 1, fun _ _ => .fw 1⟩,
  ⟨0x2010, 1, 3, 2, .u8, 1, .rw, 1, fun _ j => .fw (if j = 0 then 75 else 30)⟩,
  ⟨0x2010, 1, 5, 1, .u16, 2, .rw, 1, fun _ _ => .fw 16⟩,
  ⟨0x2010, 1, 6, 2, .u8, 1, .rw, 1, fun _ j => .fw (if j = 0 then 0 else 5)⟩,
  ⟨0x2010, 1, 8, 1, .i32, 4, .rw, 1, fun _ _ => .fw 100⟩,
  ⟨0x2010, 1, 9, 1, .u8, 1, .rw, 1, fun _ _ => .fw 3⟩,
  ⟨0x2200, 256, 1, 1, .u32, 4, .rw, 0, fun i _ => .regs [Reg.DOM_CTL i]⟩]

/-- The same, continued. -/
def objsPower2 : List ObjDef := [
  ⟨0x2200, 256, 2, 1, .u32, 4, .ro, 0, fun i _ => .regs [Reg.DOM_STS i]⟩,
  ⟨0x2200, 256, 3, 1, .u32, 4, .rw, 0, fun i _ => .regs [Reg.DOM_WAKE_AT i]⟩,
  ⟨0x2000, 1, 8, 1, .u32, 4, .ro, 0, fun _ _ => .regs [Reg.RAIL_STS]⟩,
  ⟨0x2000, 1, 9, 1, .u32, 4, .rc, 0, fun _ _ => .regs [Reg.RAIL_EVT]⟩,
  ⟨0x2000, 1, 10, 1, .u32, 4, .ro, 0, fun _ _ => .regs [Reg.PWR_TEMP]⟩]

/-- Power and clocks (0x2000 to 0x2FFF), whole. -/
def objsPower : List ObjDef := objsPower1 ++ objsPower2

/-- Configuration and regions (0x3000 to 0x3FFF). -/
def objsRegion1 : List ObjDef := [
  ⟨0x3C00, 128, 1, 1, .bool, 1, .cmd, 0, fun i _ => .field (Reg.FF_CTL_REINIT i)⟩,
  ⟨0x3C00, 128, 2, 1, .u32, 4, .ro, 0, fun i _ => .regs [Reg.FF_STS i]⟩,
  ⟨0x3C00, 128, 3, 1, .u32, 4, .rc, 0, fun i _ => .regs [Reg.FF_EVT i]⟩,
  ⟨0x3D00, 128, 1, 1, .u32, 4, .rc, 0, fun i _ => .regs [Reg.ROUTE_EVT i]⟩,
  ⟨0x3D00, 128, 2, 1, .u32, 4, .ro, 0, fun i _ => .regs [Reg.ROUTE_STS i]⟩,
  ⟨0x3D00, 128, 3, 1, .u32, 4, .rw, 0, fun i _ => .regs [Reg.ROUTE_CNT i]⟩,
  ⟨0x3D00, 128, 4, 1, .u8, 1, .rwl, 0, fun i _ => .field (Reg.BORDER_CTL_FORCE i)⟩,
  ⟨0x3D00, 128, 5, 1, .u8, 1, .ro, 0, fun i _ => .field (Reg.BORDER_STS_GATED i)⟩,
  ⟨0x3D00, 128, 6, 1, .u64, 8, .ro, 0, fun i _ => .regs [Reg.IO_IN i 0, Reg.IO_IN i 1]⟩,
  ⟨0x3D00, 128, 7, 1, .u32, 4, .ro, 0, fun i _ => .regs [Reg.IO_STS i]⟩,
  ⟨0x3E00, 128, 1, 1, .u32, 4, .ro, 0, fun i _ => .regs [Reg.BM_STS i]⟩,
  ⟨0x3E00, 128, 2, 1, .u32, 4, .rc, 0, fun i _ => .regs [Reg.BM_EVT i]⟩,
  ⟨0x3E00, 128, 3, 1, .u32, 4, .ro, 0, fun i _ => .regs [Reg.BM_LAST i]⟩,
  ⟨0x3E00, 128, 4, 1, .u64, 8, .rw, 0, fun i _ => .regs [Reg.BM_STALL i 0, Reg.BM_STALL i 1]⟩,
  ⟨0x3F00, 128, 1, 1, .u32, 4, .rc, 0, fun i _ => .regs [Reg.DSP_EVT i]⟩,
  ⟨0x3F00, 128, 2, 1, .u32, 4, .ro, 0, fun i _ => .regs [Reg.DSP_LAST i]⟩,
  ⟨0x3F00, 128, 3, 1, .u32, 4, .rw, 0, fun i _ => .regs [Reg.DSP_SAT_CNT i]⟩,
  ⟨0x3F00, 128, 4, 1, .u32, 4, .rw, 0, fun i _ => .regs [Reg.DSP_GOV_CNT i]⟩,
  ⟨0x3001, 1, 0, 1, .octets, 128, .ro, 0, fun _ _ => .regionMap⟩,
  ⟨0x3800, 128, 1, 1, .bool, 1, .cmd, 0, fun i _ => .field (Reg.RGN_CTL_LOAD i)⟩,
  ⟨0x3800, 128, 2, 1, .bool, 1, .cmd, 0, fun i _ => .field (Reg.RGN_CTL_SWAP i)⟩,
  ⟨0x3800, 128, 3, 1, .bool, 1, .cmd, 0, fun i _ => .field (Reg.RGN_CTL_ABORT i)⟩,
  ⟨0x3800, 128, 4, 1, .bool, 1, .cmd, 0, fun i _ => .field (Reg.RGN_CTL_DISCARD i)⟩,
  ⟨0x3800, 128, 5, 1, .bool, 1, .cmd, 0, fun i _ => .field (Reg.RGN_CTL_RETIRE i)⟩]

/-- The same, continued. -/
def objsRegion2 : List ObjDef := [
  ⟨0x3800, 128, 6, 1, .u16, 2, .rw, 0, fun i _ => .field (Reg.RGN_CTL_DELAY i)⟩,
  ⟨0x3800, 128, 7, 1, .u64, 8, .rw, 0, fun i _ => .regs [Reg.RGN_SRC_LO i, Reg.RGN_SRC_HI i]⟩,
  ⟨0x3800, 128, 8, 1, .u32, 4, .rw, 0, fun i _ => .regs [Reg.RGN_LEN i]⟩,
  ⟨0x3800, 128, 9, 1, .u32, 4, .ro, 0, fun i _ => .regs [Reg.RGN_STS i]⟩,
  ⟨0x3800, 128, 10, 1, .u32, 4, .rc, 0, fun i _ => .regs [Reg.RGN_EVT i]⟩,
  ⟨0x3800, 128, 11, 1, .u32, 4, .rw, 0, fun i _ => .regs [Reg.RGN_CNT i]⟩,
  ⟨0x3800, 128, 12, 1, .digest, 64, .ro, 0, fun i _ => .run (Reg.ACTIVE_DIGEST i 0) 16⟩,
  ⟨0x3800, 128, 13, 1, .digest, 64, .ro, 0, fun i _ => .run (Reg.SHADOW_DIGEST i 0) 16⟩,
  ⟨0x3010, 1, 1, 1, .u8, 1, .rwl, 0, fun _ _ => .field Reg.CFG_CTL_SRC_EN⟩,
  ⟨0x3010, 1, 2, 1, .u32, 4, .rw, 0, fun _ _ => .regs [Reg.CFG_XSPI_OFFSET]⟩,
  ⟨0x3010, 1, 3, 1, .octets, 32, .rw, 1, fun _ _ => .fw 0x1FFFFFFFFFFFF⟩,
  ⟨0x3010, 1, 4, 1, .u32, 4, .ro, 0, fun _ _ => .regs [Reg.CFG_BOOT_STS]⟩,
  ⟨0x3010, 1, 5, 1, .u32, 4, .rw, 0, fun _ _ => .regs [Reg.CFG_BOOT_ATTEMPTS]⟩,
  ⟨0x3010, 1, 6, 1, .u32, 4, .ro, 0, fun _ _ => .regs [Reg.CFG_BOOT_WAIT]⟩,
  ⟨0x3011, 1, 1, 1, .u32, 4, .ro, 0, fun _ _ => .regs [Reg.CFG_LOAD_STS]⟩,
  ⟨0x3011, 1, 2, 1, .u32, 4, .ro, 0, fun _ _ => .regs [Reg.CFG_LOAD_FRAME]⟩,
  ⟨0x3011, 1, 3, 1, .u32, 4, .rc, 0, fun _ _ => .regs [Reg.CFG_EVT]⟩,
  ⟨0x3012, 1, 1, 1, .bool, 1, .cmd, 0, fun _ _ => .field Reg.CFG_CTL_HLOAD⟩,
  ⟨0x3012, 1, 2, 1, .bool, 1, .cmd, 0, fun _ _ => .field Reg.CFG_CTL_HABORT⟩,
  ⟨0x3012, 1, 3, 1, .u64, 8, .rw, 0, fun _ _ => .regs [Reg.CFG_HSRC_LO, Reg.CFG_HSRC_HI]⟩,
  ⟨0x3012, 1, 4, 1, .u32, 4, .rw, 0, fun _ _ => .regs [Reg.CFG_HLEN]⟩,
  ⟨0x3012, 1, 5, 1, .u32, 4, .rw, 0, fun _ _ => .regs [Reg.CFG_HSKIP]⟩,
  ⟨0x3012, 1, 6, 1, .u32, 4, .ro, 0, fun _ _ => .regs [Reg.CFG_HLAST]⟩]

/-- Configuration and regions (0x3000 to 0x3FFF), whole. -/
def objsRegion : List ObjDef := objsRegion1 ++ objsRegion2

/-- Memories and integrity (0x4000 to 0x4FFF). -/
def objsMem1 : List ObjDef := [
  ⟨0x4100, 1, 1, 1, .u32, 4, .rw, 0, fun _ _ => .regs [Reg.SCRUB_CTL]⟩,
  ⟨0x4100, 1, 2, 1, .u16, 2, .rw, 0, fun _ _ => .field Reg.SCRUB_PERIOD_PERIOD_MS⟩,
  ⟨0x4100, 1, 3, 1, .u32, 4, .ro, 0, fun _ _ => .regs [Reg.SCRUB_STS]⟩,
  ⟨0x4100, 1, 4, 1, .u32, 4, .rc, 0, fun _ _ => .regs [Reg.SCRUB_EVT]⟩,
  ⟨0x4100, 1, 5, 1, .u32, 4, .ro, 0, fun _ _ => .regs [Reg.SCRUB_LAST]⟩,
  ⟨0x4100, 1, 6, 4, .u32, 4, .rw, 0, fun _ j => .regs [Reg.SCRUB_PASSES + 4 * j]⟩,
  ⟨0x4100, 1, 10, 1, .u32, 4, .ro, 0, fun _ _ => .regs [Reg.SCRUB_LAST_PASS]⟩,
  ⟨0x4101, 1, 0, 1, .octets, 16, .ro, 0, fun _ _ => .run (Reg.GOLDEN_VALID 0) 4⟩,
  ⟨0x4200, 1, 1, 1, .u32, 4, .rw, 0, fun _ _ => .regs [Reg.INT_CTL]⟩,
  ⟨0x4200, 1, 2, 1, .u16, 2, .rw, 0, fun _ _ => .regs [Reg.INT_BM_INTERVAL]⟩,
  ⟨0x4200, 1, 3, 1, .u32, 4, .rw, 0, fun _ _ => .regs [Reg.INT_DR_INTERVAL]⟩,
  ⟨0x4200, 1, 4, 1, .u32, 4, .rc, 0, fun _ _ => .regs [Reg.INT_EVT]⟩,
  ⟨0x4200, 1, 5, 3, .u32, 4, .rw, 0, fun _ j => .regs [Reg.MEM_CORRECTED + 4 * j]⟩,
  ⟨0x4200, 1, 8, 1, .u64, 8, .rc, 0, fun _ _ => .regs [Reg.LOG_LO, Reg.LOG_HI]⟩,
  ⟨0x4200, 1, 9, 1, .u32, 4, .ro, 0, fun _ _ => .regs [Reg.CH_FAILED]⟩,
  ⟨0x4200, 1, 10, 1, .u32, 4, .ro, 0, fun _ _ => .regs [Reg.CH_RETIRED]⟩,
  ⟨0x4200, 1, 11, 1, .u8, 1, .cmd, 0, fun _ _ => .chRetire⟩,
  ⟨0x4200, 1, 12, 1, .u32, 4, .cmd, 0, fun _ _ => .regs [Reg.MARCH_CTL]⟩,
  ⟨0x4200, 1, 13, 1, .u32, 4, .ro, 0, fun _ _ => .regs [Reg.MARCH_STS]⟩,
  ⟨0x4200, 1, 14, 1, .bool, 1, .rw, 1, fun _ _ => .fw 1⟩,
  ⟨0x4200, 1, 15, 1, .u8, 1, .ro, 0, fun _ _ => .regs [Reg.LOG_COUNT]⟩,
  ⟨0x4200, 1, 16, 1, .u32, 4, .ro, 0, fun _ _ => .regs [Reg.HS_FAILED]⟩,
  ⟨0x4201, 1, 0, 1, .octets, 2048, .ro, 0, fun _ _ => .run (Reg.DRAM_REMAP 0 0) 512⟩,
  ⟨0x4202, 1, 1, 1, .octets, 4096, .ro, 0, fun _ _ => .run (Reg.HS_REMAP 0 0 + 0 * 0x1000) (if 0 = 2 then 16 else 1024)⟩]

/-- The same, continued. -/
def objsMem2 : List ObjDef := [
  ⟨0x4202, 1, 2, 1, .octets, 4096, .ro, 0, fun _ _ => .run (Reg.HS_REMAP 0 0 + 1 * 0x1000) (if 1 = 2 then 16 else 1024)⟩,
  ⟨0x4202, 1, 3, 1, .octets, 64, .ro, 0, fun _ _ => .run (Reg.HS_REMAP 0 0 + 2 * 0x1000) (if 2 = 2 then 16 else 1024)⟩,
  ⟨0x4400, 128, 1, 1, .u32, 4, .ro, 0, fun i _ => .regs [Reg.RI_STS i]⟩,
  ⟨0x4400, 128, 2, 1, .u32, 4, .rc, 0, fun i _ => .regs [Reg.RI_EVT i]⟩,
  ⟨0x4400, 128, 3, 1, .octets, 1024, .ro, 0, fun i _ => .run (Reg.BM_REMAP i 0) 256⟩,
  ⟨0x4800, 1, 1, 1, .bool, 1, .rwl, 0, fun _ _ => .field Reg.DR_MAP_MAP_MODE⟩,
  ⟨0x4800, 1, 2, 1, .u32, 4, .ro, 0, fun _ _ => .regs [Reg.DR_MAP]⟩,
  ⟨0x4800, 1, 3, 1, .u32, 4, .ro, 0, fun _ _ => .regs [Reg.DR_GAP]⟩,
  ⟨0x4808, 2, 1, 1, .u32, 4, .ro, 0, fun i _ => .regs [Reg.DR_TEMP i]⟩,
  ⟨0x4808, 2, 2, 1, .u32, 4, .rc, 0, fun i _ => .regs [Reg.DR_TEMP_EVT i]⟩,
  ⟨0x4810, 32, 1, 1, .u32, 4, .rw, 0, fun i _ => .regs [Reg.CH_CTL (i / 16) (i % 16)]⟩,
  ⟨0x4810, 32, 2, 1, .u32, 4, .ro, 0, fun i _ => .regs [Reg.CH_STS (i / 16) (i % 16)]⟩,
  ⟨0x4810, 32, 3, 1, .u32, 4, .rc, 0, fun i _ => .regs [Reg.CH_EVT (i / 16) (i % 16)]⟩,
  ⟨0x4810, 32, 4, 1, .octets, 16, .rw, 0, fun i _ => .fields 2 ((List.range 8).map (chPort i))⟩,
  ⟨0x4810, 32, 5, 1, .u64, 8, .rw, 0, fun i _ => .run (chBase i + 0x30) 2⟩,
  ⟨0x4810, 32, 6, 1, .u64, 8, .rw, 0, fun i _ => .run (chBase i + 0x38) 2⟩,
  ⟨0x4810, 32, 7, 1, .u32, 4, .rw, 0, fun i _ => .regs [Reg.CH_LAT_CNT (i / 16) (i % 16)]⟩,
  ⟨0x4810, 32, 8, 1, .octets, 104, .rw, 0, fun i _ => .fields 1 ((List.range 104).map (chDelay i))⟩,
  ⟨0x4838, 2, 0, 1, .octets, 16, .ro, 0, fun i _ => .fuseTemp i⟩,
  ⟨0x4840, 32, 0, 1, .octets, 104, .ro, 0, fun i _ => .fuseDelay i⟩]

/-- Memories and integrity (0x4000 to 0x4FFF), whole. -/
def objsMem : List ObjDef := objsMem1 ++ objsMem2

/-- Lanes and ports (0x5000 to 0x5FFF). -/
def objsLane1 : List ObjDef := [
  ⟨0x5800, 2, 1, 1, .u8, 1, .rwl, 0, fun i _ => .field (Reg.PORT_CTL_MODE i)⟩,
  ⟨0x5800, 2, 2, 1, .u16, 2, .rw, 0, fun i _ => .field (Reg.PORT_CTL_MAX_FRAME i)⟩,
  ⟨0x5800, 2, 3, 1, .u8, 1, .rw, 0, fun i _ => .field (Reg.PORT_CTL_PFC_EN i)⟩,
  ⟨0x5800, 2, 4, 1, .bool, 1, .rw, 0, fun i _ => .field (Reg.PORT_CTL_PAUSE_EN i)⟩,
  ⟨0x5800, 2, 5, 1, .u8, 1, .rw, 0, fun i _ => .field (Reg.PORT_CTL_WB_PRIO i)⟩,
  ⟨0x5800, 2, 6, 1, .u32, 4, .ro, 0, fun i _ => .regs [Reg.PORT_STS i]⟩,
  ⟨0x5800, 2, 7, 1, .u32, 4, .rc, 0, fun i _ => .regs [Reg.PORT_EVT i]⟩,
  ⟨0x5800, 2, 8, 1, .u32, 4, .rw, 0, fun i _ => .regs [Reg.PORT_CTL i]⟩,
  ⟨0x5800, 2, 9, 1, .u32, 4, .rw, 0, fun i _ => .regs [Reg.PORT_CNT i]⟩,
  ⟨0x5000, 64, 1, 1, .u32, 4, .rw, 0, fun i _ => .run (0x0A0000 + 0x100 * i + 0) 1⟩,
  ⟨0x5100, 64, 1, 1, .u32, 4, .rw, 0, fun i _ => .run (0x0B0000 + 0x100 * i + 0) 1⟩,
  ⟨0x5200, 8, 1, 1, .u32, 4, .rw, 0, fun i _ => .run (0x0C4000 + 0x100 * i + 0) 1⟩,
  ⟨0x5000, 64, 2, 1, .u32, 4, .rw, 0, fun i _ => .run (0x0A0000 + 0x100 * i + 4) 1⟩,
  ⟨0x5100, 64, 2, 1, .u32, 4, .rw, 0, fun i _ => .run (0x0B0000 + 0x100 * i + 4) 1⟩,
  ⟨0x5200, 8, 2, 1, .u32, 4, .rw, 0, fun i _ => .run (0x0C4000 + 0x100 * i + 4) 1⟩,
  ⟨0x5000, 64, 3, 1, .octets, 28, .rw, 0, fun i _ => .run (0x0A0000 + 0x100 * i + 8) 7⟩,
  ⟨0x5100, 64, 3, 1, .octets, 28, .rw, 0, fun i _ => .run (0x0B0000 + 0x100 * i + 8) 7⟩,
  ⟨0x5200, 8, 3, 1, .octets, 28, .rw, 0, fun i _ => .run (0x0C4000 + 0x100 * i + 8) 7⟩,
  ⟨0x5000, 64, 4, 1, .u32, 4, .rw, 0, fun i _ => .run (0x0A0000 + 0x100 * i + 0x24) 1⟩,
  ⟨0x5100, 64, 4, 1, .u32, 4, .rw, 0, fun i _ => .run (0x0B0000 + 0x100 * i + 0x24) 1⟩,
  ⟨0x5200, 8, 4, 1, .u32, 4, .rw, 0, fun i _ => .run (0x0C4000 + 0x100 * i + 0x24) 1⟩,
  ⟨0x5000, 64, 5, 1, .u32, 4, .ro, 0, fun i _ => .run (0x0A0000 + 0x100 * i + 0x28) 1⟩,
  ⟨0x5100, 64, 5, 1, .u32, 4, .ro, 0, fun i _ => .run (0x0B0000 + 0x100 * i + 0x28) 1⟩,
  ⟨0x5200, 8, 5, 1, .u32, 4, .ro, 0, fun i _ => .run (0x0C4000 + 0x100 * i + 0x28) 1⟩]

/-- The same, continued. -/
def objsLane2 : List ObjDef := [
  ⟨0x5000, 64, 6, 1, .u32, 4, .rc, 0, fun i _ => .run (0x0A0000 + 0x100 * i + 0x2C) 1⟩,
  ⟨0x5100, 64, 6, 1, .u32, 4, .rc, 0, fun i _ => .run (0x0B0000 + 0x100 * i + 0x2C) 1⟩,
  ⟨0x5200, 8, 6, 1, .u32, 4, .rc, 0, fun i _ => .run (0x0C4000 + 0x100 * i + 0x2C) 1⟩,
  ⟨0x5000, 64, 7, 1, .u32, 4, .rw, 0, fun i _ => .run (0x0A0000 + 0x100 * i + 0x30) 1⟩,
  ⟨0x5100, 64, 7, 1, .u32, 4, .rw, 0, fun i _ => .run (0x0B0000 + 0x100 * i + 0x30) 1⟩,
  ⟨0x5200, 8, 7, 1, .u32, 4, .rw, 0, fun i _ => .run (0x0C4000 + 0x100 * i + 0x30) 1⟩,
  ⟨0x5000, 64, 8, 1, .octets, 16, .rw, 0, fun i _ => .run (0x0A0000 + 0x100 * i + 0x34) 4⟩,
  ⟨0x5100, 64, 8, 1, .octets, 16, .rw, 0, fun i _ => .run (0x0B0000 + 0x100 * i + 0x34) 4⟩,
  ⟨0x5200, 8, 8, 1, .octets, 16, .rw, 0, fun i _ => .run (0x0C4000 + 0x100 * i + 0x34) 4⟩,
  ⟨0x5000, 64, 9, 1, .u32, 4, .rw, 0, fun i _ => .run (0x0A0000 + 0x100 * i + 0x44) 1⟩,
  ⟨0x5100, 64, 9, 1, .u32, 4, .rw, 0, fun i _ => .run (0x0B0000 + 0x100 * i + 0x44) 1⟩,
  ⟨0x5200, 8, 9, 1, .u32, 4, .rw, 0, fun i _ => .run (0x0C4000 + 0x100 * i + 0x44) 1⟩,
  ⟨0x5000, 64, 10, 1, .u64, 8, .rw, 0, fun i _ => .run (0x0A0000 + 0x100 * i + 0x48) 2⟩,
  ⟨0x5100, 64, 10, 1, .u64, 8, .rw, 0, fun i _ => .run (0x0B0000 + 0x100 * i + 0x48) 2⟩,
  ⟨0x5200, 8, 10, 1, .u64, 8, .rw, 0, fun i _ => .run (0x0C4000 + 0x100 * i + 0x48) 2⟩,
  ⟨0x5000, 64, 11, 1, .u64, 8, .rw, 0, fun i _ => .run (0x0A0000 + 0x100 * i + 0x50) 2⟩,
  ⟨0x5100, 64, 11, 1, .u64, 8, .rw, 0, fun i _ => .run (0x0B0000 + 0x100 * i + 0x50) 2⟩,
  ⟨0x5200, 8, 11, 1, .u64, 8, .rw, 0, fun i _ => .run (0x0C4000 + 0x100 * i + 0x50) 2⟩,
  ⟨0x5000, 64, 12, 1, .u32, 4, .rw, 0, fun i _ => .run (0x0A0000 + 0x100 * i + 0x58) 1⟩,
  ⟨0x5100, 64, 12, 1, .u32, 4, .rw, 0, fun i _ => .run (0x0B0000 + 0x100 * i + 0x58) 1⟩,
  ⟨0x5200, 8, 12, 1, .u32, 4, .rw, 0, fun i _ => .run (0x0C4000 + 0x100 * i + 0x58) 1⟩,
  ⟨0x5000, 64, 13, 1, .u32, 4, .rw, 0, fun i _ => .run (0x0A0000 + 0x100 * i + 0x5C) 1⟩,
  ⟨0x5100, 64, 13, 1, .u32, 4, .rw, 0, fun i _ => .run (0x0B0000 + 0x100 * i + 0x5C) 1⟩,
  ⟨0x5200, 8, 13, 1, .u32, 4, .rw, 0, fun i _ => .run (0x0C4000 + 0x100 * i + 0x5C) 1⟩]

/-- The same, continued. -/
def objsLane3 : List ObjDef := [
  ⟨0x5000, 64, 14, 1, .octets, 8, .rw, 0, fun i _ => .run (0x0A0000 + 0x100 * i + 0x60) 2⟩,
  ⟨0x5100, 64, 14, 1, .octets, 8, .rw, 0, fun i _ => .run (0x0B0000 + 0x100 * i + 0x60) 2⟩,
  ⟨0x5200, 8, 14, 1, .octets, 8, .rw, 0, fun i _ => .run (0x0C4000 + 0x100 * i + 0x60) 2⟩,
  ⟨0x5300, 16, 1, 1, .u32, 4, .rw, 0, fun i _ => .run (0x0A4000 + 0x10 * i + 0) 1⟩,
  ⟨0x5310, 16, 1, 1, .u32, 4, .rw, 0, fun i _ => .run (0x0B4000 + 0x10 * i + 0) 1⟩,
  ⟨0x5300, 16, 2, 1, .u32, 4, .rw, 0, fun i _ => .run (0x0A4000 + 0x10 * i + 4) 1⟩,
  ⟨0x5310, 16, 2, 1, .u32, 4, .rw, 0, fun i _ => .run (0x0B4000 + 0x10 * i + 4) 1⟩,
  ⟨0x5300, 16, 3, 1, .u8, 1, .cmd, 0, fun i _ => .run (0x0A4000 + 0x10 * i + 8) 1⟩,
  ⟨0x5310, 16, 3, 1, .u8, 1, .cmd, 0, fun i _ => .run (0x0B4000 + 0x10 * i + 8) 1⟩,
  ⟨0x5300, 16, 4, 1, .u32, 4, .ro, 0, fun i _ => .run (0x0A4000 + 0x10 * i + 0xC) 1⟩,
  ⟨0x5310, 16, 4, 1, .u32, 4, .ro, 0, fun i _ => .run (0x0B4000 + 0x10 * i + 0xC) 1⟩]

/-- Lanes and ports (0x5000 to 0x5FFF), whole. -/
def objsLane : List ObjDef := objsLane1 ++ objsLane2 ++ objsLane3

/-- Network and contexts (0x6000 to 0x6FFF). -/
def objsNet1 : List ObjDef := [
  ⟨0x6000, 1, 1, 1, .bool, 1, .cmd, 0, fun _ _ => .field Reg.NOC_CTL_EPOCH⟩,
  ⟨0x6000, 1, 2, 1, .u32, 4, .ro, 0, fun _ _ => .regs [Reg.NOC_STS]⟩,
  ⟨0x6000, 1, 3, 1, .u32, 4, .rc, 0, fun _ _ => .regs [Reg.NOC_EVT]⟩,
  ⟨0x6000, 1, 4, 1, .u32, 4, .ro, 0, fun _ _ => .regs [Reg.NOC_LAST_DROP]⟩,
  ⟨0x6000, 1, 5, 1, .u32, 4, .ro, 0, fun _ _ => .regs [Reg.RB_ERR]⟩,
  ⟨0x6000, 1, 6, 1, .u32, 4, .rw, 0, fun _ _ => .regs [Reg.NOC_CNT]⟩,
  ⟨0x6010, 1, 1, 1, .u32, 4, .rw, 0, fun _ _ => .regs [Reg.NOC_RBSEL]⟩,
  ⟨0x6010, 1, 2, 1, .octets, 16, .rw, 0, fun _ _ => .run (Reg.RB_DATA 0) 4⟩,
  ⟨0x6010, 1, 3, 3, .bool, 1, .cmd, 0, fun _ j => .field (if j = 0 then Reg.NOC_CTL_RB_WRITE else if j = 1 then Reg.NOC_CTL_RB_READ else Reg.NOC_CTL_RB_COPY)⟩,
  ⟨0x6010, 1, 6, 1, .bool, 1, .rw, 0, fun _ _ => .field Reg.NOC_CTL_RB_ALL⟩,
  ⟨0x6010, 1, 7, 1, .bool, 1, .rw, 0, fun _ _ => .field Reg.NOC_CTL_READ_ACTIVE⟩,
  ⟨0x6020, 1, 1, 1, .u32, 4, .rw, 0, fun _ _ => .regs [Reg.NOC_STSEL]⟩,
  ⟨0x6020, 1, 2, 1, .u32, 4, .rw, 0, fun _ _ => .regs [Reg.ST_DATA]⟩,
  ⟨0x6020, 1, 3, 2, .bool, 1, .cmd, 0, fun _ j => .field (if j = 0 then Reg.NOC_CTL_ST_WRITE else Reg.NOC_CTL_ST_READ)⟩,
  ⟨0x6030, 1, 0, 1, .octets, 192, .rw, 0, fun _ _ => .fields 1 ((List.range 192).map Reg.PORT_EN_SHADOW)⟩,
  ⟨0x6031, 1, 0, 1, .octets, 192, .ro, 0, fun _ _ => .fields 1 ((List.range 192).map Reg.PORT_EN_ACTIVE)⟩,
  ⟨0x6100, 256, 1, 1, .u32, 4, .rw, 0, fun i _ => .regs [Reg.NI_TO i]⟩,
  ⟨0x6100, 256, 2, 1, .u32, 4, .rw, 0, fun i _ => .regs [Reg.NI_TB i]⟩,
  ⟨0x6100, 256, 3, 1, .u32, 4, .ro, 0, fun i _ => .regs [Reg.NI_STS i]⟩,
  ⟨0x6100, 256, 4, 2, .u32, 4, .rw, 0, fun i j => .regs [Reg.NI_CNT i + 4 * j]⟩,
  ⟨0x6300, 32, 1, 1, .octets, 32, .rw, 0, fun i _ => .run (Reg.FW_RD i 0) 8⟩,
  ⟨0x6300, 32, 2, 1, .octets, 32, .rw, 0, fun i _ => .run (Reg.FW_WR i 0) 8⟩,
  ⟨0x6800, 1, 1, 6, .bool, 1, .cmd, 0, fun _ j => .field (ctxCmd j)⟩,
  ⟨0x6800, 1, 7, 1, .u32, 4, .rwl, 0, fun _ _ => .inPlace ⟨Reg.CTX_CTL, 6, 7, true, 0x6800⟩⟩]

/-- The same, continued. -/
def objsNet2 : List ObjDef := [
  ⟨0x6801, 1, 1, 1, .octets, 48, .rw, 0, fun _ _ => .run (Reg.CTX_KEY 0) 12⟩,
  ⟨0x6801, 1, 2, 1, .octets, 48, .rw, 0, fun _ _ => .run (Reg.CTX_NKEY 0) 12⟩,
  ⟨0x6801, 1, 3, 1, .octets, 72, .rw, 0, fun _ _ => .run (Reg.CTX_DATA 0) 18⟩,
  ⟨0x6801, 1, 4, 1, .u32, 4, .ro, 0, fun _ _ => .regs [Reg.CTX_OPRES]⟩,
  ⟨0x6802, 1, 1, 1, .u32, 4, .rw, 0, fun _ _ => .regs [Reg.CTX_AGE]⟩,
  ⟨0x6802, 1, 2, 1, .u64, 8, .rw, 0, fun _ _ => .run (Reg.CTX_MATCH_VAL 0) 2⟩,
  ⟨0x6802, 1, 3, 1, .u64, 8, .rw, 0, fun _ _ => .run (Reg.CTX_MATCH_MASK 0) 2⟩,
  ⟨0x6802, 1, 4, 1, .u32, 4, .ro, 0, fun _ _ => .regs [Reg.CTX_SWEEP_RES]⟩,
  ⟨0x6803, 1, 1, 1, .u8, 1, .rwl, 0, fun _ _ => .regs [Reg.CTX_ENG_MAP]⟩,
  ⟨0x6803, 1, 2, 1, .u8, 1, .cmd, 0, fun _ _ => .regs [Reg.CTX_ENG_RETIRE]⟩,
  ⟨0x6804, 1, 1, 1, .u32, 4, .ro, 0, fun _ _ => .regs [Reg.CTX_STS]⟩,
  ⟨0x6804, 1, 2, 1, .u32, 4, .rc, 0, fun _ _ => .regs [Reg.CTX_EVT]⟩,
  ⟨0x6804, 1, 3, 1, .u32, 4, .ro, 0, fun _ _ => .regs [Reg.CTX_VISIBLE]⟩,
  ⟨0x6804, 1, 4, 1, .u32, 4, .ro, 0, fun _ _ => .regs [Reg.CTX_POISON]⟩,
  ⟨0x6810, 4, 1, 1, .u64, 8, .rw, 0, fun i _ => .run (Reg.CTX_HITS i 0) 2⟩,
  ⟨0x6810, 4, 2, 1, .u32, 4, .rw, 0, fun i _ => .regs [Reg.CTX_MISSES i]⟩,
  ⟨0x6810, 4, 3, 1, .u32, 4, .rw, 0, fun i _ => .regs [Reg.CTX_NO_CTX i]⟩]

/-- Network and contexts (0x6000 to 0x6FFF), whole. -/
def objsNet : List ObjDef := objsNet1 ++ objsNet2

/-- Pack, security, debug and test (0x7000 to 0x9FFF). -/
def objsPack1 : List ObjDef := [
  ⟨0x8010, 1, 1, 1, .u32, 4, .ro, 0, fun _ _ => .regs [Reg.SEC_KEY_STS]⟩,
  ⟨0x8010, 1, 2, 1, .u32, 4, .rc, 0, fun _ _ => .regs [Reg.SEC_EVT]⟩,
  ⟨0x8011, 1, 1, 5, .bool, 1, .cmd, 0, fun _ j => .field ⟨Reg.SEC_CTL, j, 1, true, 0x8011⟩⟩,
  ⟨0x8011, 1, 6, 1, .u8, 1, .rwl, 0, fun _ _ => .field Reg.SEC_CTL_SLOT⟩,
  ⟨0x8100, 1, 0, 1, .octets, 2048, .ro, 0, fun _ _ => .cert⟩,
  ⟨0x8101, 1, 0, 1, .octets, 133, .ro, 0, fun _ _ => .idKey⟩,
  ⟨0x8102, 1, 1, 4, .digest, 64, .ro, 0, fun _ j => .slotDigest j⟩,
  ⟨0x8200, 1, 1, 1, .octets, 64, .rw, 1, fun _ _ => .fw 0⟩,
  ⟨0x8200, 1, 2, 1, .bool, 1, .cmd, 1, fun _ _ => .attest⟩,
  ⟨0x8200, 1, 3, 3, .octets, 4096, .ro, 1, fun _ _ => .fw 0⟩,
  ⟨0x8110, 1, 1, 1, .digest, 64, .ro, 1, fun _ _ => .fwImage 0⟩,
  ⟨0x8110, 1, 2, 1, .digest, 64, .ro, 1, fun _ _ => .fwImage 1⟩,
  ⟨0x8110, 1, 3, 1, .u32, 4, .ro, 1, fun _ _ => .fwImage 2⟩,
  ⟨0x8110, 1, 4, 1, .u8, 1, .ro, 1, fun _ _ => .fwImage 3⟩,
  ⟨0x9100, 16, 1, 1, .u32, 4, .rwl, 0, fun i _ => .regs [Reg.PATCH_ADDR i]⟩,
  ⟨0x9100, 16, 2, 1, .u32, 4, .rwl, 0, fun i _ => .regs [Reg.PATCH_VAL i]⟩,
  ⟨0x9100, 16, 3, 1, .u8, 1, .rwl, 0, fun i _ => .regs [Reg.PATCH_CTL i]⟩,
  ⟨0x9000, 1, 1, 1, .u32, 4, .rw, 0, fun _ _ => .regs [Reg.DBG_CTL]⟩,
  ⟨0x9000, 1, 2, 1, .u32, 4, .ro, 0, fun _ _ => .regs [Reg.DBG_STS]⟩,
  ⟨0x9000, 1, 3, 1, .u32, 4, .rc, 0, fun _ _ => .regs [Reg.DBG_EVT]⟩,
  ⟨0x9000, 1, 4, 4, .u32, 4, .rw, 0, fun _ j => .regs [Reg.DINSTR + 4 * j]⟩,
  ⟨0x9001, 1, 1, 1, .u64, 8, .rw, 0, fun _ _ => .regs [Reg.DBM_ADDR_LO, Reg.DBM_ADDR_HI]⟩,
  ⟨0x9001, 1, 2, 1, .u32, 4, .rw, 0, fun _ _ => .regs [Reg.DBM_DATA]⟩,
  ⟨0x9001, 1, 3, 1, .u32, 4, .rw, 0, fun _ _ => .regs [Reg.DBM_CTL]⟩]

/-- The same, continued. -/
def objsPack2 : List ObjDef := [
  ⟨0x9001, 1, 4, 1, .u32, 4, .ro, 0, fun _ _ => .regs [Reg.DBM_STS]⟩,
  ⟨0x9002, 1, 1, 1, .u32, 4, .ro, 0, fun _ _ => .regs [Reg.DBG_FUSE]⟩,
  ⟨0x9010, 1, 1, 1, .u32, 4, .rwl, 0, fun _ _ => .regs [Reg.WDT_CTL]⟩,
  ⟨0x9010, 1, 2, 1, .u32, 4, .rw, 0, fun _ _ => .regs [Reg.WDT_TIMEOUT]⟩,
  ⟨0x9010, 1, 3, 1, .u32, 4, .rw, 0, fun _ _ => .regs [Reg.WDT_GRACE]⟩,
  ⟨0x9010, 1, 4, 1, .u32, 4, .ro, 0, fun _ _ => .regs [Reg.WDT_STS]⟩,
  ⟨0x9010, 1, 5, 1, .u32, 4, .rc, 0, fun _ _ => .regs [Reg.WDT_EVT]⟩,
  ⟨0x9010, 1, 6, 1, .u32, 4, .rw, 0, fun _ _ => .regs [Reg.WDT_CNT]⟩,
  ⟨0x7000, 1, 1, 1, .u32, 4, .rwl, 0, fun _ _ => .regs [Reg.PACK_CTL]⟩,
  ⟨0x7000, 1, 2, 1, .u32, 4, .rwl, 0, fun _ _ => .regs [Reg.PACK_IDS]⟩,
  ⟨0x7000, 1, 3, 1, .u32, 4, .rw, 0, fun _ _ => .regs [Reg.PACK_PARAM]⟩,
  ⟨0x7000, 1, 4, 1, .u32, 4, .rw, 0, fun _ _ => .regs [Reg.PACK_TIMING]⟩,
  ⟨0x7000, 1, 5, 1, .octets, 16, .rw, 0, fun _ _ => .run (Reg.PACK_SCOPE 0) 4⟩,
  ⟨0x7000, 1, 6, 1, .u32, 4, .ro, 0, fun _ _ => .regs [Reg.PACK_STS]⟩,
  ⟨0x7000, 1, 7, 1, .u32, 4, .rc, 0, fun _ _ => .regs [Reg.PACK_EVT]⟩,
  ⟨0x7000, 1, 8, 1, .u64, 8, .ro, 0, fun _ _ => .run (Reg.PACK_TIME 0) 2⟩,
  ⟨0x7000, 1, 9, 1, .octets, 8, .ro, 0, fun _ _ => .regs [Reg.PB_BID, Reg.PB_STS]⟩,
  ⟨0x7100, 8, 0, 1, .octets, 4096, .ro, 0, fun i _ => .roster i⟩,
  ⟨0x7201, 1, 0, 1, .octets, 24, .wo, 0, fun _ _ => .arrive⟩,
  ⟨0x7202, 1, 0, 1, .octets, 24, .wo, 0, fun _ _ => .release⟩]

/-- Pack, security, debug and test (0x7000 to 0x9FFF), whole. -/
def objsPack : List ObjDef := objsPack1 ++ objsPack2

/-- Counters and snapshot holding (0xE000 to 0xEFFF). -/
def objsHeld : List ObjDef := [
  ⟨0xE000, 1, 1, 1, .u16, 2, .ro, 0, fun _ _ => .field Reg.SNAP_STS_SNAP_SEQ⟩,
  ⟨0xE000, 1, 2, 1, .u64, 8, .ro, 0, fun _ _ => .regs [Reg.SNAP_TIME 0, Reg.SNAP_TIME 1]⟩,
  ⟨0xE000, 1, 3, 1, .octets, 32, .ro, 0, fun _ _ => .offFlags⟩,
  ⟨0xE200, 128, 1, 1, .u64, 8, .ro, 0, fun _ _ => .held⟩,
  ⟨0xE280, 128, 1, 1, .u32, 4, .ro, 0, fun _ _ => .held⟩,
  ⟨0xE300, 1, 1, 4, .u32, 4, .ro, 0, fun _ _ => .held⟩,
  ⟨0xE310, 1, 1, 1, .u32, 4, .ro, 0, fun _ _ => .held⟩,
  ⟨0xE310, 1, 2, 1, .u32, 4, .ro, 0, fun _ _ => .held⟩,
  ⟨0xE400, 256, 1, 1, .u32, 4, .ro, 0, fun _ _ => .held⟩,
  ⟨0xE500, 32, 1, 1, .u64, 8, .ro, 0, fun _ _ => .held⟩,
  ⟨0xE500, 32, 2, 1, .u64, 8, .ro, 0, fun _ _ => .held⟩,
  ⟨0xE600, 4, 1, 1, .u64, 8, .ro, 0, fun _ _ => .held⟩,
  ⟨0xE700, 64, 1, 1, .u32, 4, .ro, 0, fun _ _ => .held⟩,
  ⟨0xE740, 64, 1, 1, .u32, 4, .ro, 0, fun _ _ => .held⟩]
/-- The objects whose index lies in the thousand of `ix` (R67). -/
def objsOf (ix : Nat) : List ObjDef :=
  match ix / 0x1000 with
  | 1 => objsComm | 2 => objsPower | 3 => objsRegion | 4 => objsMem | 5 => objsLane | 6 => objsNet
  | 7 => objsPack | 8 => objsPack | 9 => objsPack | 0xE => objsHeld | _ => []

/-- The row covers index `ix`. -/
def ObjDef.has (o : ObjDef) (ix : Nat) : Bool := decide (o.ix ≤ ix) && decide (ix < o.ix + o.n)

/-- An object: its type, size, access right, server, and what it maps to; none: it is subindex 0 of a record,
which holds the highest subindex (R67). -/
structure Obj where
  ty : ObjTy
  size : Nat
  acc : Access
  srv : Nat
  map : Option ObjMap
  top : Nat := 0
deriving DecidableEq, Repr

/-- The object at `ix:sub`, where one exists (R67). -/
def objAt (ix sub : Nat) : Option Obj :=
  let rows := (objsOf ix).filter (fun o => o.has ix)
  match rows.find? (fun o => decide (o.sub ≤ sub) && decide (sub < o.sub + o.m)) with
  | some o => some ⟨o.ty, o.size, o.acc, o.srv, some (o.map (ix - o.ix) (sub - o.sub)), 0⟩
  | none =>
    let top := (rows.map (fun o => o.sub + o.m - 1)).foldl max 0
    if sub = 0 ∧ top ≠ 0 then some ⟨.u8, 1, .ro, 0, none, top⟩ else none

end Sys2Proof.Machine
end

