-- ==== Sys2Proof/Machine/Dict.lean ====
section
/-! DEFINITION. The dictionary engine (R67 to R78, R42, R408, R448): reading, writing and describing an
object, and blocks of subindexes (R61). -/

namespace Sys2Proof.Machine

/-- The registers behind an object. -/
def ObjMap.offs : ObjMap → List Nat
  | .field f => [f.off]
  | .regs os => os
  | .run off k => (List.range k).map (fun j => off + 4 * j)
  | .fields _ fs => (fs.map (·.off)).dedup
  | .inPlace f => [f.off]
  | .chRetire => [Reg.CH_RETIRE]
  | _ => []

/-- The object's registers are written whole through it (R90). -/
def ObjMap.whole : ObjMap → Bool
  | .field f => Dev.wholeBy f
  | .inPlace f => Dev.wholeBy f
  | _ => true

/-- The number whose byte groups of `w` bytes are the fields' values, as `word` gives their registers. -/
def fieldBytes (w : Nat) (fs : List Fld) (word : Nat → Word) : List Byte :=
  fs.flatMap (fun f => leBytes w (fieldOf (word f.off) f.lsb f.w))

/-- One write of the listed values into fields, as one word for each register; none where a field cannot
hold its value (log 19). -/
def fieldWords (w : Nat) (fs : List Fld) (bs : List Byte) (word : Nat → Word) :
    Option (List (Nat × Word)) :=
  let vs := (fs.zipIdx).map (fun f => (f.1, leAt bs (w * f.2) w))
  if vs.all (fun v => decide (v.2 < 2 ^ v.1.w)) then
    some ((fs.map (·.off)).dedup.map (fun o =>
      (o, vs.foldl (fun x v => if v.1.off = o then withField x v.1.lsb v.1.w v.2 else x) (word o))))
  else none

/-- The writes that a value written to an object makes of its registers; none where a field cannot hold
it. -/
def ObjMap.words (m : ObjMap) (bs : List Byte) (word : Nat → Word) : Option (List (Nat × Word)) :=
  match m with
  | .field f => fieldWords bs.length [f] bs word
  | .regs os => some ((os.zipIdx).map (fun o => (o.1, BitVec.ofNat 32 (leAt bs (4 * o.2) 4))))
  | .run off k => some ((List.range k).map (fun j => (off + 4 * j, BitVec.ofNat 32 (leAt bs (4 * j) 4))))
  | .fields w fs => fieldWords w fs bs word
  | .inPlace f =>
    let v := leAt bs 0 4
    if v % 2 ^ f.lsb = 0 ∧ v / 2 ^ f.lsb < 2 ^ f.w then
      some [(f.off, withField (word f.off) f.lsb f.w (v / 2 ^ f.lsb))]
    else none
  | .chRetire => if leAt bs 0 1 < 32 then some [(Reg.CH_RETIRE, BitVec.ofNat 32 (leAt bs 0 1 + 256))] else none
  | _ => some []

namespace Dev

/-! ## Values -/

/-- The bytes of a tracked client (R79): MAC, port, unlock armed, request executing. -/
def clientBytes (d : Dev) (s : Nat) : List Byte :=
  match d.wb.clients[s - 1]? with
  | none => leBytes 8 0
  | some c => leBytes 6 c.mac ++ leBytes 1 c.port.val
      ++ leBytes 1 (bit01 (d.armed (.client c.mac)) + 2 * bit01 (d.wb.executing.any (fun e => e.1 == c.mac)))

/-- The value of an object that is not an alias of registers. -/
def heldValue (d : Dev) (ix sub size : Nat) (m : ObjMap) : List Byte :=
  match m with
  | .fw v => d.fwGet ix sub (leBytes size v)
  | .client s => d.clientBytes s
  | .userMap s => leBytes 8 (SMap.get 0 d.userMap s)
  | .offFlags => leBytes 32 (d.offFlags.foldl (fun a k => a ||| 2 ^ k) 0)
  | .held => leBytes size (SMap.get 0 d.held (objKey ix sub))
  | .regionMap => (List.range 128).flatMap (fun n => leBytes 1
      (d.rstate n + 8 * d.get (Reg.RGN_STS_SHADOW n) + 32 * d.get (Reg.RGN_STS_CLASS n)))
  | .cert => fit 2048 d.keys.cert
  | .idKey => fit 133 (p521Public d.keys.idPriv)
  | .slotDigest k => fit 64 (SMap.get [] d.keys.slots k)
  | .fuseTemp s => (List.range 16).map (Config.fuseTemp s)
  | .fuseDelay k => (List.range 104).map (fun j => (Config.fuseDelay k j).setWidth 8)
  | .fwImage 0 => fwDigest d.fwImage
  | .fwImage 1 => if d.on Reg.MP_STS_EXT_VALID then fwDigest d.extImage else leBytes 64 0
  | .fwImage 2 => leBytes 4 (leAt d.fwImage 16 4)
  | .fwImage _ => leBytes 1 d.fwSigner
  | .serial => leBytes 8 d.keys.serial
  | .baseMac => leBytes 6 d.keys.baseMac
  | .packRecord => d.packRecord
  | .roster r => (List.range 512).flatMap (fun j => rosterBytes (d.rosterEntry (512 * r + j)))
  | _ => fit size []

/-- The value of an object that maps to registers, each read in turn (R42): a register that has failed its
check answers TARGET_ERR with its stored bits (R90). -/
def aliasValue (noside : Bool) (size : Nat) (m : ObjMap) (d : Dev) : List Byte × Dev × Code :=
  let r := m.offs.foldl (fun (a : SMap Word × Dev × Code) o =>
    if a.2.2 = .ok then
      let x := a.2.1.csrReadWord noside o
      (a.1 ++ [(o, x.1)], x.2)
    else a) ([], d, Code.ok)
  let word := fun o => SMap.get 0 r.1 o
  let bs := match m with
    | .field f => leBytes size (fieldOf (word f.off) f.lsb f.w)
    | .fields w fs => fieldBytes w fs word
    | .inPlace f => leBytes 4 (fieldOf (word f.off) f.lsb f.w * 2 ^ f.lsb)
    | _ => fit size (wordsBytes (m.offs.map word))
  (bs, r.2)

/-! ## Descriptors -/

/-- The default of an object, its first 8 bytes (R71): the reset values of its registers, or the value that
its table gives. -/
def objDefault (d : Dev) (ix sub : Nat) (o : Obj) : List Byte :=
  match o.map with
  | none => leBytes 1 o.top
  | some m =>
    if o.acc = .cmd ∧ m.offs.length = 1 ∧ o.ty = .bool then leBytes 1 0
    else if m.offs ≠ [] then
      match m with
      | .field f => leBytes o.size (fieldOf (resetWord f.off) f.lsb f.w)
      | .fields w fs => fieldBytes w (fs.take 8) resetWord
      | .inPlace f => leBytes 4 (fieldOf (resetWord f.off) f.lsb f.w * 2 ^ f.lsb)
      | .chRetire => leBytes 1 0
      | _ => fit (min o.size 8) (wordsBytes ((m.offs.take 2).map resetWord))
    else
      match m with
      | .fw v => leBytes o.size v
      | .cert | .idKey | .slotDigest _ | .fuseTemp _ | .fuseDelay _ | .serial | .baseMac | .packRecord =>
        d.heldValue ix sub o.size m
      | _ => []

/-- The 16-byte descriptor (R71). -/
def descriptor (d : Dev) (ix sub : Nat) (o : Obj) : List Byte :=
  leBytes 1 o.ty.code ++ leBytes 1 o.acc.code ++ leBytes 2 o.size ++ leBytes 1 o.srv ++ leBytes 3 0
    ++ fit 8 ((d.objDefault ix sub o).take 8)

/-! ## Refusals -/

/-- R448 refuses a Waybill client the debug objects. -/
def dbgDenied (d : Dev) (who : Who) (ix : Nat) : Bool :=
  match who with
  | .client _ => decide (0x9000 ≤ ix ∧ ix ≤ 0x900F) && !d.on Reg.DBG_FUSE_WB_DBG
  | _ => false

/-- The registers behind an object belong to a domain in D3 (R408). -/
def objFenced (d : Dev) (o : Obj) : Bool :=
  match o.map with
  | some m => m.offs.any d.csrFenced
  | none => false

/-! ## Reads -/

/-- A read of object `ix:sub` (R69 to R71, R74, R93). -/
def objRead (who : Who) (noside desc : Bool) (ix sub : Nat) (d : Dev) : List Byte × Dev × Code :=
  match objAt ix sub with
  | none => ([], d, .noTarget)
  | some o =>
    if desc then (if d.dbgDenied who ix then ([], d, .denied) else (d.descriptor ix sub o, d, .ok))
    else
      match firstCode ((if d.objFenced o then [.fenced] else [])
          ++ (if d.dbgDenied who ix ∨ o.acc = .wo then [.denied] else [])
          ++ (if o.srv = 1 ∧ !d.fwUp then [.busy] else [])) with
      | some c => ([], d, c)
      | none =>
        match o.map with
        | none => (leBytes 1 o.top, d, .ok)
        | some m =>
          if o.acc = .cmd then (leBytes 4 (d.cmdWord ix sub).toNat, d, .ok)
          else if m.offs ≠ [] then d.aliasValue noside o.size m
          else (d.heldValue ix sub o.size m, d, .ok)

/-! ## Writes -/

/-- An admitted write of an object takes effect. -/
def objStore (who : Who) (ix sub : Nat) (m : ObjMap) (bs : List Byte) (ws : List (Nat × Word)) (d : Dev) :
    Dev × Code :=
  match m with
  | .fw _ => (d.fwSet ix sub bs, .ok)
  | .userMap s => ({ d with userMap := SMap.put 0 d.userMap s (leAt bs 0 8 % 2 ^ 41) }, .ok)
  | .unlock => if leAt bs 0 2 = 0x7A3C then (d.arm who, .ok) else (d.disarm who, .targetErr)
  | .barrier => d.barrierWrite bs
  | .attest =>
    if leAt bs 0 1 = 0 then (d, .ok)
    else if (SMap.get {} d.cmds (objKey 0x8200 2)).busy then (d, .busy)
    else ((d.cmdStart 0x8200 2).attestStart none (d.fwGet 0x8200 1 (leBytes 64 0)), .ok)
  | .arrive =>
    if !d.packOn ∨ !d.on Reg.PACK_STS_IS_LEAD then (d, .busy)
    else
      let r := d.pbArrive (PbParams.parse bs) (leAt bs 20 2 % 4096)
      (r.1, r.2.1)
  | .release => if d.packOn then (d.releaseReceived (leAt bs 0 4) (leAt bs 12 4), .ok) else (d, .busy)
  | _ => d.csrRun 0 m.whole who ws

/-- A write of object `ix:sub` with the value `bs` (R68 to R70, R73, R74, R77): the device after it, the code,
and STALE. The order is that of R44; `cond`: the change counter that the request expects. -/
def objWrite (who : Who) (ix sub : Nat) (bs : List Byte) (cond : Option Nat) (d : Dev) :
    Dev × Code × Bool :=
  match objAt ix sub with
  | none => (d, .noTarget, false)
  | some o =>
    let sized := decide (bs.length = o.size)
    let words := match o.map with
      | some m => if sized then m.words bs d.word else some []
      | none => some []
    let ws : List (Nat × Word) := words.getD []
    let first := firstCode ((if d.objFenced o then [.fenced] else [])
      ++ (if d.dbgDenied who ix ∨ o.acc = .ro ∨ o.acc = .rc then [.denied] else [])
      ++ ws.filterMap (fun w => d.csrRefusal who w.1 w.2))
    let adm : Dev × Code := match first with
      | some c => csrRefuse who (ws.headD (0, 0)).1 (ws.headD (0, 0)).2 c d
      | none => d.csrAdmit who (o.acc == .rwl) ws
    if adm.2 ≠ .ok then (adm.1, adm.2, false)
    else if o.srv = 1 ∧ !d.fwUp then (adm.1, .busy, false)
    else if cond.isSome ∧ cond ≠ some (d.changeOf ix) then (adm.1, .busy, true)
    else if !sized ∨ (o.ty = .bool ∧ 1 < leAt bs 0 1) ∨ words.isNone then (adm.1, .targetErr, false)
    else
      match o.map with
      | none => (adm.1, .denied, false)
      | some m =>
        let r := adm.1.objStore who ix sub m bs (words.getD [])
        if r.2 = .ok then (r.1.touch ix, .ok, false) else (r.1, r.2, false)

/-! ## Blocks (R61, R78) -/

/-- A range of subindexes that READ_BLOCK and WRITE_BLOCK take. -/
def blockOk (first count : Nat) : Bool := decide (1 ≤ count ∧ count ≤ 256 ∧ first + count ≤ 256)

/-- READ_BLOCK: the values of the subindexes, in order, up to the first that fails, with the count read. -/
def blockRead (who : Who) (noside desc : Bool) (ix first count : Nat) (d : Dev) :
    List Byte × Nat × Dev × Code :=
  if !blockOk first count then ([], 0, d, .targetErr)
  else
    (List.range count).foldl (fun (a : List Byte × Nat × Dev × Code) j =>
      if a.2.2.2 = .ok then
        let r := a.2.2.1.objRead who noside desc ix (first + j)
        if r.2.2 = .ok then (a.1 ++ r.1, a.2.1 + 1, r.2.1, .ok) else (a.1, a.2.1, r.2)
      else a) ([], 0, d, Code.ok)

/-- The size of object `ix:sub`; 0 where none exists. -/
def objSize (ix sub : Nat) : Nat :=
  match objAt ix sub with
  | some o => o.size
  | none => 0

/-- WRITE_BLOCK: the subindexes are written in order, up to the first that fails, with the count written and
STALE. The change counter is compared once, with the first of them (R73). -/
def blockWrite (who : Who) (ix first count : Nat) (bs : List Byte) (cond : Option Nat) (d : Dev) :
    Dev × Nat × Code × Bool :=
  if !blockOk first count ∨ bs.length ≠ ((List.range count).map (fun j => objSize ix (first + j))).sum then
    (d, 0, .targetErr, false)
  else
    let r := (List.range count).foldl (fun (a : (Dev × Nat × Code × Bool) × List Byte) j =>
      if a.1.2.2.1 = .ok then
        let n := objSize ix (first + j)
        let w := a.1.1.objWrite who ix (first + j) (a.2.take n) (if j = 0 then cond else none)
        ((w.1, if w.2.1 = .ok then a.1.2.1 + 1 else a.1.2.1, w.2.1, w.2.2), a.2.drop n)
      else a) ((d, 0, Code.ok, false), bs)
    r.1

end Dev

end Sys2Proof.Machine
end

