-- ==== Sys2Proof/Machine/Waybill.lean ====
section
/-! DEFINITION. The Waybill engine (R45 to R66, R74, R75, R518 to R520): frames received at the ports, the
checks of R54, clients and replay, the request queue, and every operation. -/

namespace Sys2Proof.Machine

namespace Dev

/-! ## Arrival (R54, R57 to R59) -/

/-- The entry of client `mac` in the client table. -/
def clientOf (d : Dev) (mac : Nat) : Option ClientSt := d.wb.clients.find? (fun c => c.mac == mac)

/-- The client `mac` has a request queued or executing. -/
def clientBusy (d : Dev) (mac : Nat) : Bool := d.wb.executing.any (fun e => e.1 == mac)

/-- The device with the table of clients, least recently used first. -/
def setClients (d : Dev) (cs : List ClientSt) : Dev := { d with wb := { d.wb with clients := cs } }

/-- A request of client `mac` uses the client's entry: a new client takes a free entry, or that of the least
recently used idle client, whose replay cache and unlock are discarded; none when every entry has a
request executing (R59). -/
def clientUse (mac : Nat) (port : Fin 2) (d : Dev) : Option Dev :=
  match d.clientOf mac with
  | some c => some (d.setClients (d.wb.clients.erase c ++ [{ c with port := port }]))
  | none =>
    if d.wb.clients.length < 62 then some (d.setClients (d.wb.clients ++ [⟨mac, port, []⟩]))
    else
      match d.wb.clients.find? (fun c => !d.clientBusy c.mac) with
      | some v => some ((d.disarm (.client v.mac)).setClients (d.wb.clients.erase v ++ [⟨mac, port, []⟩]))
      | none => none

/-- The operation codes that a request may carry (R60). -/
def knownOp (op : Nat) : Bool := decide (1 ≤ op ∧ op ≤ 0xB)

/-- The first three checks of R54: the counter that counts the discard. -/
def wbDiscard (d : Dev) (m : WbMsg) : Option Fld :=
  if m.version ≠ 1 then some Reg.WB_DROP_BAD_VERSION
  else if m.packId ≠ d.ownPack ∧ !(m.op == 9 && m.packId == 0xFFFF) then some Reg.WB_DROP_WRONG_PACK
  else if !m.all ∧ m.member ≠ d.ownId then some Reg.WB_DROP_WRONG_MEMBER
  else none

/-- The fourth check of R54 fails: a LENGTH above 8,192 or above the bytes present. -/
def badLength (m : WbMsg) : Bool := decide (8192 < m.length ∨ m.payload.length < m.length)

/-- WAYBILL_REQUEST: a request arrives (R54, R57 to R59). It is discarded, answered at once, answered again
from the replay cache, or queued. -/
def wbArrive (r : WbReq) (d : Dev) : Dev :=
  match d.wbDiscard r.msg with
  | some f => d.count f
  | none =>
    match r.who with
    | .client mac =>
      match (d.clientOf mac).bind (fun c => c.replay.find? (fun e => e.1 == r.msg.seq)) with
      | some e => d.sendResp r e.2
      | none =>
        if d.wb.executing.contains (mac, r.msg.seq) then d
        else if 64 ≤ d.wb.queue.length then d.count Reg.WB_DROP_QUEUE_FULL
        else
          match d.clientUse mac r.port with
          | none => d.respond r { code := .busy, change := d.changeOf r.msg.index }
          | some d1 =>
            let d2 := { d1 with wb := { d1.wb with
              executing := d1.wb.executing ++ [(mac, r.msg.seq)]
              codes := d1.wb.codes ++ [(mac, r.msg.seq, none)] } }
            if badLength r.msg ∨ !knownOp r.msg.op then
              d2.respond r { code := .targetErr, change := d2.changeOf r.msg.index }
            else { d2 with wb := { d2.wb with queue := d2.wb.queue ++ [r] } }
    | _ => d

/-- A request executes: one that waits in the queue when it is the oldest there, one that arrives now when the
queue is empty (R57). A request of another initiator executes at once. -/
def wbExec (r : WbReq) (op : WbReq → Dev → Dev) (d : Dev) : Dev :=
  match r.who with
  | .client _ =>
    let d1 := if d.wb.queue.contains r then d else d.wbArrive r
    if d1.wb.queue.head? = some r then op r { d1 with wb := { d1.wb with queue := d1.wb.queue.tail } } else d1
  | _ => op r d

/-- A request of operation `code` alone. -/
def wbOp (code : Nat) (r : WbReq) (op : WbReq → Dev → Dev) (d : Dev) : Dev :=
  if r.msg.op = code ∧ !r.msg.resp then d.wbExec r op else d

/-! ## User objects (R75) -/

/-- The interface of the first enabled entry of the user-object map that holds the index. -/
def userTarget (d : Dev) (ix : Nat) : Option Nat :=
  ((List.range 64).map (fun s => SMap.get 0 d.userMap (s + 1))).findSome? (fun e =>
    if e.testBit 40 ∧ e % 65536 ≤ ix ∧ ix ≤ e / 65536 % 65536 then some (e / 2 ^ 32 % 256) else none)

/-- A user object (R67). -/
def userIndex (ix : Nat) : Bool := decide (0xA000 ≤ ix ∧ ix ≤ 0xDFFF)

/-- USER_OBJECT_FORWARD: the request goes to the entry's interface as a MSG of NI 166, which carries the
header and payload unchanged; without an entry the answer is NO_TARGET (R75). -/
def userForward (r : WbReq) (d : Dev) : Dev :=
  match d.userTarget r.msg.index with
  | none => d.respond r { code := .noTarget }
  | some i =>
    let bytes := r.msg.encode
    let addr := if i < 128 then 0x10000000000 + i * 0x100000000
      else if i < 160 then (i - 128) * 0x40000000
      else if i = 164 then 0xFF00000000 else if i = 169 then 0xFE00000000 else 2 ^ 48 - 64
    let p : Pkt := { cmd := 6, dst := i, addr := addr, len := (bytes.length + 63) / 64
                     data := bytes, beFirst := 2 ^ 64 - 1, beLast := 2 ^ 64 - 1 }
    let f : ForwardSt := ⟨r, some (niNextTag (d.niSt 166)), false⟩
    if 128 ≤ i ∧ i < 160 then d.respond r { code := .targetErr }
    else ({ d with wb := { d.wb with forwards := d.wb.forwards ++ [f] } }).niPresent 166 p

/-! ## Reading and writing objects (R60, R61, R74, R519) -/

/-- The expected change counter of a request (R73). -/
def condOf (m : WbMsg) : Option Nat := if m.cond then some m.change else none

/-- READ (R60, R71). -/
def wbRead (r : WbReq) (d : Dev) : Dev :=
  if userIndex r.msg.index then d.userForward r
  else
    let x := d.objRead r.who r.msg.noside r.msg.desc r.msg.index r.msg.sub
    x.2.1.respond r { code := x.2.2, change := x.2.1.changeOf r.msg.index, data := x.1 }

/-- READ_BLOCK (R61). -/
def wbReadBlock (r : WbReq) (d : Dev) : Dev :=
  if userIndex r.msg.index then d.userForward r
  else
    let x := d.blockRead r.who r.msg.noside r.msg.desc r.msg.index r.msg.sub (r.msg.arg % 512)
    x.2.2.1.respond r { code := x.2.2.2, change := x.2.2.1.changeOf r.msg.index, result := x.2.1, data := x.1 }

/-- A request's writes, one or a block: the device, the count written, the code and STALE. -/
def writeOf (r : WbReq) (d : Dev) : Dev × Nat × Code × Bool :=
  if r.msg.op = 4 then
    d.blockWrite r.who r.msg.index r.msg.sub (r.msg.arg % 512) r.msg.payload (condOf r.msg)
  else
    let x := d.objWrite r.who r.msg.index r.msg.sub r.msg.payload (condOf r.msg)
    (x.1, if x.2.1 = .ok then 1 else 0, x.2.1, x.2.2)

/-- The answer to a write whose result is `x`. -/
def writeAnswer (r : WbReq) (x : Dev × Nat × Code × Bool) : Dev :=
  x.1.respond r { code := x.2.2.1, stale := x.2.2.2, change := x.1.changeOf r.msg.index
                  result := if r.msg.op = 4 then x.2.1 else 0 }

/-- The request writes a persistent object: the firmware stores it in flash before it answers (R519). -/
def storesFlash (r : WbReq) : Bool :=
  (List.range (if r.msg.op = 4 then r.msg.arg % 512 else 1)).any
    (fun j => fwPersistent (objKey r.msg.index (r.msg.sub + j)))

/-- WRITE and WRITE_BLOCK (R60, R61). A write that reaches a persistent object waits for its storing
(R519, log 49). -/
def wbWrite (r : WbReq) (d : Dev) : Dev :=
  if userIndex r.msg.index then d.userForward r
  else if r.msg.op = 2 ∧ r.msg.index = 0x7201 ∧ r.msg.sub = 0 then d.arrive r
  else
    let x := d.writeOf r
    if storesFlash r ∧ x.2.1 ≠ 0 then
      { d with wb := { d.wb with forwards := d.wb.forwards ++ [⟨r, none, false⟩] } }
    else writeAnswer r x

/-- A firmware-served object. -/
def firmwareIndex (ix sub : Nat) : Bool :=
  match objAt ix sub with
  | some o => o.srv == 1
  | none => false

/-- The operation of a request that names objects. -/
def wbObject (r : WbReq) (d : Dev) : Dev :=
  match r.msg.op with
  | 1 => d.wbRead r
  | 3 => d.wbReadBlock r
  | _ => d.wbWrite r

/-- FIRMWARE_OBJECT_FORWARD: a request for a firmware-served object goes to the MP; while that is in reset or
halted it is answered BUSY, but for a READ with DESC (R71, R74). -/
def firmwareForward (r : WbReq) (d : Dev) : Dev :=
  if firmwareIndex r.msg.index r.msg.sub ∧ 1 ≤ r.msg.op ∧ r.msg.op ≤ 4 ∧ !r.msg.resp then
    d.wbExec r wbObject
  else d

/-- A request for a user object as a command of its own (R75). -/
def userObjectForward (r : WbReq) (d : Dev) : Dev :=
  if userIndex r.msg.index ∧ 1 ≤ r.msg.op ∧ r.msg.op ≤ 4 ∧ !r.msg.resp then d.wbExec r userForward else d

/-- PERSISTENT_OBJECT_STORED: the flash holds the oldest write that waits: it takes effect and is answered
(R519). -/
def persistentObjectStored (d : Dev) : Dev :=
  match d.wb.forwards.find? (fun f => f.tag.isNone) with
  | none => d
  | some f =>
    if !d.fwUp then d
    else writeAnswer f.req (({ d with wb := { d.wb with forwards := d.wb.forwards.erase f } }).writeOf f.req)

/-! ## The other operations -/

/-- SNAPSHOT: it is answered once the holding registers are filled (R60, R94). -/
def wbSnapshot (r : WbReq) (d : Dev) : Dev :=
  let x := d.snapEff
  if x.2 = .ok then { x.1 with wb := { x.1.wb with snapshots := x.1.wb.snapshots ++ [r] } }
  else d.respond r { code := x.2, change := d.changeOf r.msg.index }

/-- FENCE covers every request of the client that arrived before it, answered or not (R62). -/
def wbFence (r : WbReq) (d : Dev) : Dev :=
  match r.who with
  | .client mac =>
    let mine := d.wb.codes.filter (fun c => c.1 == mac)
    let before := mine.takeWhile (fun c => !(c.2.1 == r.msg.seq && c.2.2.isNone))
    { d with wb := { d.wb with fences := d.wb.fences ++ [⟨r, before.map (fun c => (c.2.1, c.2.2))⟩] } }
  | _ => d.respond r {}

/-- WB_FENCE_COMPLETE: the oldest FENCE whose covered requests have all completed answers OK, or the code of
the earliest that failed (R62). -/
def wbFenceComplete (d : Dev) : Dev :=
  match d.wb.fences.find? (fun f => f.covered.all (fun c => c.2.isSome)) with
  | none => d
  | some f =>
    let code := ((f.covered.filterMap (fun c => c.2)).find? (· != .ok)).getD .ok
    ({ d with wb := { d.wb with fences := d.wb.fences.erase f } }).respond f.req
      { code := code, change := d.changeOf f.req.msg.index }

/-- BARRIER (R66). -/
def wbBarrier (r : WbReq) (d : Dev) : Dev :=
  let x := d.barrierStart (some r) r.msg.arg r.msg.payload
  match x.2.1 with
  | some c => x.1.respond r { code := c, change := x.1.changeOf r.msg.index }
  | none => if x.2.2 then x.1.respond r { change := x.1.changeOf r.msg.index } else x.1

/-- DISCOVER waits for its delay of 0 to 2 ms (R64). -/
def wbDiscover (r : WbReq) (d : Dev) : Dev :=
  { d with wb := { d.wb with discovers := d.wb.discovers ++ [r] } }

/-- The identity record 0x1100 (R60). -/
def identityRecord (d : Dev) : List Byte :=
  leBytes 4 (d.word Reg.DEV_IDCODE).toNat ++ leBytes 2 (d.word Reg.DEV_STEP).toNat
    ++ leBytes 8 d.keys.serial ++ leBytes 6 d.keys.baseMac ++ d.packRecord

/-- DISCOVER_ANSWER_DUE: the delay of waiting DISCOVER `k` has passed (R64). -/
def discoverAnswerDue (k : Fin 64) (d : Dev) : Dev :=
  match d.wb.discovers[k.val]? with
  | none => d
  | some r =>
    ({ d with wb := { d.wb with discovers := d.wb.discovers.eraseIdx k.val } }).respond r
      { data := d.identityRecord, change := d.changeOf r.msg.index }

/-- STREAM_REQUEST_RECEIVED: the device is never a boot server (R520). -/
def wbStream (r : WbReq) (d : Dev) : Dev :=
  d.respond r { code := .targetErr, change := d.changeOf r.msg.index }

/-- ATTEST over Waybill (R60, R258). -/
def wbAttest (r : WbReq) (d : Dev) : Dev :=
  if !d.fwUp then d.respond r { code := .busy, change := d.changeOf r.msg.index }
  else if r.msg.payload.length ≠ 64 then
    d.respond r { code := .targetErr, change := d.changeOf r.msg.index }
  else d.attestStart (some r) r.msg.payload

/-- ATTEST as a command: over Waybill, or a write of object 0x8200:02 by another initiator (R258). -/
def attest (r : WbReq) (d : Dev) : Dev :=
  match r.who with
  | .client _ => d.wbOp 0xB r wbAttest
  | _ =>
    let x := d.objWrite r.who 0x8200 2 [1] none
    x.1.reply x.2.1

/-- BARRIER as a command: over Waybill, or a write of object 0x1F20 by another initiator (R66). -/
def barrier (r : WbReq) (d : Dev) : Dev :=
  match r.who with
  | .client _ => d.wbOp 7 r wbBarrier
  | _ =>
    let x := d.objWrite r.who 0x1F20 0 (leBytes 8 r.msg.arg ++ fit 24 r.msg.payload) none
    x.1.reply x.2.1

/-! ## NOTIFY requests of the device and responses to it (R63, R520) -/

/-- A response to a NOTIFY answers it (R63). -/
def notifyAnswered (seq : Nat) (d : Dev) : Dev :=
  { d with wb := { d.wb with notifies := d.wb.notifies.filter (fun n => n.seq != seq) } }

/-- WB_RESPONSE_RECEIVED: a response is matched by SEQ to a request that the device has outstanding, or
discarded (R520): of NOTIFY, of STREAM, of its DISCOVER, and of an arrival at the lead dog. -/
def wbResponse (r : WbReq) (d : Dev) : Dev :=
  match r.who with
  | .client mac =>
    if !r.msg.resp ∨ r.msg.version ≠ 1 then d
    else match r.msg.op with
      | 8 => d.notifyAnswered r.msg.seq
      | 0xA => d.streamResponse mac r.msg.seq r.msg.code r.msg.more r.msg.payload
      | 9 => d.discoverAnswerReceived (BitVec.ofNat 48 mac) r.port (BitVec.ofNat 32 r.msg.seq) r.msg.payload
      | 2 => if r.msg.index = 0x7201 then d.arrivalAnswerReceived r.msg.code else d
      | _ => d
  | _ => d

/-- A NOTIFY that passes R54 reaches the pack engine, or is discarded (R520). -/
def wbNotify (r : WbReq) (d : Dev) : Dev :=
  match d.wbDiscard r.msg with
  | some f => d.count f
  | none => if r.msg.op = 8 ∧ !r.msg.resp ∧ !badLength r.msg then d.notifyReceived r else d

/-- ARRIVE as a command: the pack engine takes arrivals directly, outside the queue (R474). -/
def wbArrival (r : WbReq) (d : Dev) : Dev :=
  match d.wbDiscard r.msg with
  | some f => d.count f
  | none =>
    if r.msg.op = 2 ∧ !r.msg.resp ∧ r.msg.index = 0x7201 ∧ r.msg.sub = 0 then
      if badLength r.msg then d.respond r { code := .targetErr, change := d.changeOf r.msg.index }
      else d.arrive r
    else d

/-- The offset of the EVT register that object `ix:sub` is the alias of. -/
def evtOffset (ix sub : Nat) : Option Nat :=
  match objAt ix sub with
  | some o => if o.acc = .rc then o.map.bind (fun m => m.offs.head?) else none
  | none => none

/-- NOTIFICATION_RAISED: a rule raises a management notification of the EVT register at `ix:sub` (R63). -/
def notificationRaised (ix : BitVec 16) (sub : BitVec 8) (d : Dev) : Dev :=
  match evtOffset ix.toNat sub.toNat with
  | some off => d.notify ix.toNat sub.toNat off
  | none => d

/-- NOTIFY_HOLD_EXPIRY: 1 ms after a NOTIFY of an object, the notifications held are sent as one with the value
of the last, which opens a new window; with none held the window ends (R63). -/
def notifyHoldExpiry (ix : BitVec 16) (sub : BitVec 8) (d : Dev) : Dev :=
  let is := fun (h : HoldSt) => h.index == ix.toNat && h.sub == sub.toNat
  match d.wb.holds.find? is with
  | none => d
  | some h =>
    match h.value with
    | none => { d with wb := { d.wb with holds := d.wb.holds.erase h } }
    | some v =>
      ({ d with wb := { d.wb with holds := d.wb.holds.map (fun g =>
          if is g then { g with value := none } else g) } }).notifyAll h.index h.sub v

/-- NOTIFY_RESEND_EXPIRY: 10 ms without an answer: the NOTIFY is sent again, up to 3 times, and is then dropped
and counted (R63). -/
def notifyResendExpiry (seq : BitVec 32) (d : Dev) : Dev :=
  match d.wb.notifies.find? (fun n => n.seq == seq.toNat) with
  | none => d
  | some n =>
    if 3 ≤ n.resends then
      { d with wb := { d.wb with
        notifies := d.wb.notifies.erase n, notifyDropped := d.wb.notifyDropped + 1 } }
    else
      let n1 := { n with resends := n.resends + 1 }
      ({ d with wb := { d.wb with notifies := d.wb.notifies.map (fun x => if x = n then n1 else x) } }).sendNotify
        n1

/-! ## Frames received at a port (R47 to R50) -/

/-- The device's addresses, each as 16 bytes (R49): IPV4_ADDR in the IPv6-mapped form, its most significant
byte first, and IPV6_ADDR (log 101). -/
def ownAddrs (d : Dev) : List (List Byte) :=
  [mapped (d.fwGet 0x1010 4 (leBytes 4 0)).reverse, d.fwGet 0x1010 5 (leBytes 16 0)]

/-- The frame carries a transport of the Waybill engine that is enabled, to this device's address (R49): the
place of the Waybill header, its length limit, and how the answer travels. -/
def toWaybill (d : Dev) (p : Fin 2) (f : RxFrame) : Option (Nat × Nat × Carrier) :=
  let dst := beAt f.bytes 0 6
  let e := etherAt f.bytes
  if dst ≠ portMac d.keys.baseMac p.val ∧ dst ≠ 2 ^ 48 - 1 then none
  else if e.1 = 0x88B5 then
    if d.ctlOn Reg.WB_CTL_L2_EN then some (e.2, f.bytes.length - 4 - e.2, .l2) else none
  else
    match udpAt f.bytes with
    | some u =>
      if d.ctlOn Reg.WB_CTL_UDP_EN ∧ u.dst ∈ d.ownAddrs ∧ u.dport = d.ctl Reg.WB_CTL_WB_UDP_PORT then
        some (u.body, min u.length (f.bytes.length - 4 - u.body), .udp u.sport (ofLe u.src))
      else none
    | none => none

/-- The request or response that a Waybill frame carries (R53, R56). -/
def frameReq (p : Fin 2) (f : RxFrame) (w : Nat × Nat × Carrier) : WbReq :=
  { who := .client (beAt f.bytes 6 6), port := p, carrier := w.2.2
    msg := WbMsg.parse ((f.bytes.drop w.1).take w.2.1) }

/-- A Waybill message that has been received: a response, a NOTIFY or an arrival is taken at once, every other
request is queued (R57, R474, R520). -/
def wbMessage (r : WbReq) (d : Dev) : Dev :=
  if r.msg.version ≠ 1 then d.count Reg.WB_DROP_BAD_VERSION
  else if r.msg.resp then d.wbResponse r
  else if r.msg.op = 8 then d.wbNotify r
  else if r.msg.op = 2 ∧ r.msg.index = 0x7201 ∧ r.msg.sub = 0 then d.wbArrival r
  else d.wbArrive r

/-- A user frame goes to the fabric: into the receive FIFO of 16 KiB, with its error flag; at a full FIFO the
port sends pause for the frame's priority, or discards the frame (R50, log 50). -/
def rxUser (p : Fin 2) (f : RxFrame) (d : Dev) : Dev :=
  let x := d.port p.val
  let ws := frameWords f.bytes (!f.fcsOk)
  let kept := d.setPort p.val { x with rxFifo := x.rxFifo ++ ws }
  if x.rxFifo.length + ws.length ≤ 128 then kept
  else
    let prio := bytesPrio f.bytes
    let mask := if d.ctlOn (Reg.PORT_CTL_PAUSE_EN p.val) then 256
      else if (d.ctl (Reg.PORT_CTL_PFC_EN p.val)).testBit prio then 2 ^ prio else 0
    if mask = 0 then
      (d.count (Reg.PORT_CNT_RX_DROP_CNT p.val)).raise (Reg.PORT_EVT_RX_OVERFLOW p.val)
    else
      let b := kept.freeBit
      let d1 := if b.1 then b.2 else { d with fresh := b.2.fresh }
      d1.queueTx p.val (.pause mask)

/-- The pause times that a MAC control frame sets, at byte `o` after its EtherType: the priorities (8 for 802.3
pause) with their quanta (R47). None for another frame of that EtherType. -/
def pauseTimes (bs : List Byte) (o : Nat) : Option (List (Nat × Nat)) :=
  if beAt bs o 2 = 1 then some [(8, beAt bs (o + 2) 2)]
  else if beAt bs o 2 = 0x0101 then
    some (((List.range 8).filter (fun i => (beAt bs (o + 2) 2).testBit i)).map
      (fun i => (i, beAt bs (o + 4 + 2 * i) 2)))
  else none

/-- A pause frame or priority flow control frame sets the pause times that it names, and no other (R47). -/
def rxPause (p : Fin 2) (ts : List (Nat × Nat)) (d : Dev) : Dev :=
  let x := d.port p.val
  d.setPort p.val { x with
    paused := ts.foldl (fun a t => a.set t.1 (d.time + d.quanta p.val t.2)) x.paused }

/-- The fabric takes `k` words from the receive FIFO of port `p`, whose stored bytes `flips` have changed, byte
`b` of word `w` at 128 w + b (R50, R285). -/
def rxTake (d : Dev) (p k : Nat) (flips : List (Nat × BitVec 13)) : Dev :=
  let x := d.port p
  let out := ((x.rxFifo.take k).zipIdx).map (fun w => { w.1 with
    data := (transit ((flips.filter (fun e => e.1 / 128 == w.2)).map (fun e => (e.1 % 128, e.2))) w.1.data).1 })
  d.setPort p { x with rxFifo := x.rxFifo.drop k, rxOut := out }

/-- PORT_RX_FRAME: a frame arrives at port `p`; since the last one the fabric has taken `taken` words from the
receive FIFO, whose stored bytes `flips` have changed. An event message takes a timestamp (R47 to R50,
R285, R409). -/
def portRxFrame (p : Fin 2) (f : RxFrame) (taken : Nat) (flips : List (Nat × BitVec 13)) (d : Dev) : Dev :=
  let dr := d.rxTake p.val taken flips
  let d0 := if dr.on (Reg.DOM_STS_DRAINING (2 + p.val)) then dr.wakeSignal (Fin.ofNat 256 (2 + p.val)) else dr
  if d0.domState (2 + p.val) ≠ 0 then d0.wakeSignal (Fin.ofNat 256 (2 + p.val))
  else if !d0.linkUp p.val then d0
  else if f.bytes.length < 64 then
    (d0.count (Reg.PORT_CNT_RUNT_CNT p.val)).raise (Reg.PORT_EVT_RUNT p.val)
  else if d0.ctl (Reg.PORT_CTL_MAX_FRAME p.val) < f.bytes.length then
    (d0.count (Reg.PORT_CNT_OVERSIZE_CNT p.val)).raise (Reg.PORT_EVT_OVERSIZE p.val)
  else
    match d0.toWaybill p f with
    | some w =>
      if f.fcsOk then d0.wbMessage (frameReq p f w)
      else (d0.count (Reg.PORT_CNT_WB_FCS_CNT p.val)).raise (Reg.PORT_EVT_WB_BAD_FCS p.val)
    | none =>
      let e := etherAt f.bytes
      match if e.1 = 0x8808 then pauseTimes f.bytes e.2 else none with
      | some ts => if f.fcsOk then d0.rxPause p ts else d0
      | none =>
        let d1 := if (ptpEventAt f.bytes).isSome then
          d0.setPort p.val { d0.port p.val with rxStamp := d0.stamp } else d0
        d1.rxUser p f

end Dev

end Sys2Proof.Machine
end

