-- ==== Sys2Proof/Machine/Target.lean ====
section
/-! DEFINITION. Requests at their targets (R22, R38 to R40, R85, R310, R326, R327): the region windows, the
management processor's windows, the CSR space, and the other network interfaces. -/

namespace Sys2Proof.Machine

/-- The initiator behind a source NI (R20, R308); one that initiates nothing holds no unlock. -/
def niWho (i : Nat) : Who :=
  if h : i < 128 then .fabric ⟨i, h⟩
  else if i < 164 then .data i else if i = 164 then .mp else if i = 165 then .config else if i = 167 then .debug
  else .client (2 ^ 48 + i)

namespace Dev

/-- The answer of region `n`'s logic to a request that it has taken (R334, R310). -/
def regionAnswer (n : Nat) (p : Pkt) (ans : FabricAnswer) (d : Dev) : Dev :=
  let bytes := if p.cmd = 0 then fit (64 * p.len) ans.data
    else if p.cmd = 3 then fit 64 ans.data
    else if p.cmd = 6 then ans.data.take (255 * 64) else []
  d.answerReq n p (if p.cmd = 1 then .ok else ans.code) ans.poison bytes

/-- Region `n`'s logic can use its interface: no hold, and the attachment clock runs (R222, R334). -/
def regionListens (d : Dev) (n : Nat) : Bool := !d.holdOn n && d.niClock n

/-- A request at region `n`'s window (R40, R327): the answer comes from the active image's logic, at once or
later. While the hold is asserted the request waits in the NI (R222). -/
def regionReq (n : Nat) (p : Pkt) (ans : FabricAnswer) (d : Dev) : Dev :=
  if d.rstate n = rsRetired then (d.takeReq n).answerReq n p .retired
  else if !d.hasImage n ∨ d.cfg n 3584 8 1 = 0 then (d.takeReq n).answerReq n p .noTarget
  else if !d.regionListens n then d
  else
    let d1 := d.takeReq n
    if ans.turn = .later then d1.setNi n { d1.niSt n with served := (d1.niSt n).served ++ [p] }
    else d1.regionAnswer n p ans

/-- Region `n`'s logic answers the `k`-th of the requests that it has taken and not answered, one of command `cmd`
(R334). -/
def regionLate (n cmd k : Nat) (ans : FabricAnswer) (d : Dev) : Dev :=
  match (d.niSt n).served[k]? with
  | none => d
  | some p =>
    if p.cmd ≠ cmd ∨ !d.regionListens n then d
    else (d.setNi n { d.niSt n with served := (d.niSt n).served.eraseIdx k }).regionAnswer n p ans

/-- The bytes that a write packet stores, each with its address relative to the first line. -/
def pktBytes (p : Pkt) : List (Nat × Byte) :=
  (List.range ((p.data.length + 63) / 64)).flatMap (fun i =>
    (lineBytes p i).map (fun e => (64 * i + e.1, e.2)))

/-- A write of SRAM bytes through port B ends a reservation of their granule (R434). -/
def portBWrite (os : List Nat) (d : Dev) : Dev :=
  match d.mp.resv with
  | some g => if os.any (fun o => o / 8 == g) then d.setMp { d.mp with resv := none } else d
  | none => d

/-- The byte of the SRAM that port B writes in the cycle of the core's latest store belongs to the core (R149). -/
def coreWins (d : Dev) (inStore : Bool) (o : Nat) : Bool :=
  inStore && (match d.mp.stored with | some (a, n) => decide (a ≤ o ∧ o < a + n) | none => false)

/-- A request in the SRAM window, at SRAM offset `o` of its first line (R430, R326). `inStore`: it falls in the cycle
of the core's latest store, whose bytes stand (R149, R435). -/
def sramReq (p : Pkt) (o : Nat) (inStore : Bool) (d : Dev) : Dev :=
  let d1 := d.takeReq 164
  match p.cmd with
  | 0 =>
    let r := d1.readBytes (.hs 0) o (64 * p.len)
    let bad := r.1.any (·.2)
    r.2.answerReq 164 p (if bad then .poison else .ok) bad (r.1.map (·.1))
  | 3 =>
    let a := o + p.addr % 64
    let r := d1.atomOn (.hs 0) a p
    let bad := r.1.any (·.2)
    (r.2.portBWrite (if bad then [] else [a, a + 4 * bit01 p.asize])).answerReq 164 p
      (if bad then .poison else .ok) bad (atomFlit p r.1)
  | 6 => d1.answerReq 164 p .targetErr
  | _ =>
    let bs := (pktBytes p).filter (fun e => !d1.coreWins inStore (o + e.1))
    let d2 := bs.foldl (fun a e => a.storeByte (.hs 0) (o + e.1) e.2 p.poison) d1
    (d2.portBWrite (bs.map (fun e => o + e.1))).answerReq 164 p .ok

/-- A request in the flash window: reads return the stored bytes, never patched ones; a request that writes
is DENIED (R40, R430). -/
def flashReq (p : Pkt) (o : Nat) (d : Dev) : Dev :=
  let d1 := d.takeReq 164
  if p.cmd = 0 then d1.answerReq 164 p .ok false ((List.range (64 * p.len)).map (fun k => d.flashByte (o + k)))
  else d1.answerReq 164 p (if p.cmd = 6 then .targetErr else .denied)

/-- A request at NI 164: a fabric network interface has no reach there (R22). -/
def mpReq (p : Pkt) (inStore : Bool) (d : Dev) : Dev :=
  let line := p.addr / 64 * 64
  if p.src < 128 then (d.takeReq 164).answerReq 164 p .denied
  else if 0xFF10000000 ≤ line then d.flashReq p (line - 0xFF10000000)
  else d.sramReq p (line - 0xFF00000000) inStore

/-- The registers that a request's byte enables name: their offset in the line and their number; none unless
they form one unbroken run of whole registers (R327). -/
def beRegs (p : Pkt) : Option (Nat × Nat) :=
  match (List.range 16).find? (fun j => p.beFirst / 2 ^ (4 * j) % 2 == 1) with
  | none => none
  | some j =>
    let rest := p.beFirst / 2 ^ (4 * j)
    (List.range (16 - j)).findSome? (fun k =>
      if p.beFirst % 2 ^ (4 * j) = 0 ∧ rest = 2 ^ (4 * (k + 1)) - 1 then some (4 * j, k + 1) else none)

/-- The answer to a request at the CSR target, and the data of a read (R22, R85, R327). -/
def csrReq (p : Pkt) (d : Dev) : Dev × Code × List Byte :=
  let who := niWho p.src
  let line := p.addr / 64 * 64 - 0xFE00000000
  let bad : Code := if who.deniedCsr ∧ (p.cmd ≠ 0 ∨ d.csrReadRefusal who line = some .denied) then .denied
    else .targetErr
  if 0x900000 ≤ line then (d, .noTarget, [])
  else if p.cmd ≠ 0 ∧ p.cmd ≠ 1 ∧ p.cmd ≠ 2 ∨ p.len ≠ 1 then (d, bad, [])
  else
    match beRegs p with
    | none => (d, bad, [])
    | some (o, k) =>
      if p.cmd = 0 then
        let r := d.csrReadReq who p.noside (line + o) k
        (r.2.1, r.2.2, fit 64 (List.replicate o 0 ++ wordsBytes r.1))
      else
        let ws := (List.range k).map (fun j => BitVec.ofNat 32 (leAt p.data (o + 4 * j) 4))
        let r := d.csrWriteReq who (line + o) ws
        (r.1, r.2, [])

/-- A request at NI 169. -/
def csrTarget (p : Pkt) (d : Dev) : Dev :=
  let r := (d.takeReq 169).csrReq p
  r.1.answerReq 169 p r.2.1 false r.2.2

/-- The oldest request that NI `i` has received, when it is a request of command `cmd`, reaches its target
(R310, R327). -/
def oldestReq (cmd : Nat) (i : Fin 170) (ans : FabricAnswer) (d : Dev) : Dev :=
  match d.firstRx i.val (fun p => p.cmd != 5) with
  | none => d
  | some p =>
    if p.cmd ≠ cmd then d
    else if 128 ≤ i.val ∧ i.val < 160 then d.dramTake (i.val - 128) cmd
    else if 160 ≤ i.val ∧ i.val < 164 then d.ctxMsg (i.val - 160)
    else if d.guardBars i.val then d
    else if i.val < 128 then d.regionReq i.val p ans
    else if i.val = 164 then d.mpReq p ans.inStore
    else if i.val = 169 then d.csrTarget p
    else (d.takeReq i.val).answerReq i.val p .targetErr

/-- A request of command `cmd` at NI `i` comes to its target, or to its answer. `ans`: what a region's logic answers. -/
def targetReq (cmd : Nat) (i : Fin 170) (ans : FabricAnswer) (d : Dev) : Dev :=
  match ans.turn with
  | .earlier k => if i.val < 128 then d.regionLate i.val cmd k ans else d
  | _ => d.oldestReq cmd i ans

/-! ## The CSR access of the test access port -/

/-- DBGACC_ACCESS: at Update-DR in DBGACC one CSR access runs as the debug initiator (R451, R59); its code
and read data stand for the next capture. Of the read data after a write the spec says nothing
(log 3). -/
def dbgaccAccess (dr : BitVec 64) (d : Dev) : Dev :=
  if d.tap.ir ≠ 0x20 then d
  else
    let v := dr.toNat
    let off := v / 2 ^ 32 % 2 ^ 24
    if v.testBit 56 then
      let r := d.csrWriteReq .debug off [BitVec.ofNat 32 v]
      let g := r.1.freeBelow (2 ^ 32)
      { g.2 with tap := { g.2.tap with data := BitVec.ofNat 32 g.1, code := r.2 } }
    else
      let r := d.csrReadReq .debug (v.testBit 57) off 1
      { r.2.1 with tap := { r.2.1.tap with data := r.1.headD 0, code := r.2.2 } }

end Dev

end Sys2Proof.Machine
end

