-- ==== Sys2Proof/Machine/Tick.lean ====
section
/-! DEFINITION. What follows every command in its own cycle, and what passes with time alone: one root period
of the free-running counters (R10, R186, R188, R190, R319, R427, R458, R471; log 2). -/

namespace Sys2Proof.Machine

namespace Dev

/-- Channels whose closed guard an access of the command has met return to D0 (R410). -/
def accessSettle (d : Dev) : Dev :=
  (List.range 32).foldl (fun a k =>
    if (a.chSt k).accessed then (a.setCh k { a.chSt k with accessed := false }).wakeAccess (16 + k) else a) d

/-- The end of a command: a port that it reconfigured restarts (R46), channels that it accessed wake, a WAIT whose
condition now holds ends and a pending NMI is taken (R428, R429), and a warm reset that it asked for runs (R486). -/
def settle (d : Dev) : Dev := d.portSettle.accessSettle.mpSettle.warmSettle

/-- One cycle of CD46 (R427): CYC counts, and event line 18 rises where CYC_LO comes to equal TIMER_CMP. -/
def tickMp (d : Dev) : Dev :=
  if d.mpHeld then d
  else
    let c := d.mp.cyc + 1
    d.setMp { d.mp with
      cyc := c, timerHit := d.mp.timerHit || BitVec.ofNat 32 c == d.mp.timerCmp }

/-- One cycle of CD52 (R188, R471): pack time advances by 16 root periods, and by what the rate trim of
TRIM_PPB parts in 10^9 has gathered. -/
def tickPack (d : Dev) : Dev :=
  let f := d.pack.frac + 16 * (d.word Reg.PACK_TRIM).toInt
  let extra := f / 1000000000
  let t := ((d.packTime : Int) + 16 + extra) % 2 ^ 64
  (d.set64 (Reg.PACK_TIME_WORD 0) (Reg.PACK_TIME_WORD 1) t.toNat).setPack
    { d.pack with frac := f % 1000000000 }

/-- One root period of the slot counter (R190, R319): a slot is 8 network cycles of NOC_DIV root periods. At the
schedule-cycle boundary a divisor that waits for it comes into force. -/
def tickSlot (d : Dev) : Dev :=
  let p := d.noc.phase + 1
  if 8 * d.get Reg.CLK_STS_NOC_DIV ≤ p then
    (({ d with noc := { d.noc with phase := 0, slotNum := d.noc.slotNum + 1 } }).set Reg.NOC_STS_SLOT
      ((d.get Reg.NOC_STS_SLOT + 1) % 256)).levelSwitch
  else { d with noc := { d.noc with phase := p } }

/-- One root period of the watchdog's oscillator of 32.768 kHz, a tick of which lasts 390,625 half root periods
(R458, R459): while it counts, REMAIN goes down, and at 0 it expires. -/
def tickWdt (d : Dev) : Dev :=
  let f := d.wdtFrac + 2
  if f < 390625 then { d with wdtFrac := f }
  else
    let d1 : Dev := { d with wdtFrac := f - 390625 }
    if !d1.wdtCounts then d1
    else
      let r := d1.get Reg.WDT_STS_REMAIN - 1
      let d2 := d1.set Reg.WDT_STS_REMAIN r
      if r = 0 then d2.wdtExpire else d2

/-- One root period passes (log 2). The counters of the root's own domains run while the root is locked
(R186, R195); the management processor and the watchdog run on. Domains of ratio 16 have an edge at T0 + 16k
(R186). -/
def tick (d : Dev) : Dev :=
  let d1 : Dev := { d with time := d.time + 1 }
  if !d.start.vauxOn then d1
  else
    let d2 := d1.tickWdt
    let edge := (d1.time - d.rootT0) % 16 = 0
    let d3 := if edge then d2.tickMp else d2
    let d4 :=
      if d.on Reg.CLK_STS_ROOT_LOCK then
        let n := (d3.get64 (Reg.ROOT_CNT_WORD 0) (Reg.ROOT_CNT_WORD 1) + 1) % 2 ^ 64
        let a := (d3.set64 (Reg.ROOT_CNT_WORD 0) (Reg.ROOT_CNT_WORD 1) n).tickSlot
        if edge then a.tickPack else a
      else d3
    d4.settle

end Dev

end Sys2Proof.Machine
end

