-- ==== Sys2Proof/Machine/Orders.lean ====
section
/-! DEFINITION. The accesses that a command row stands for where it is more than a write of 1 to one bit: a
command written together with its operand field, and a register read. -/

namespace Sys2Proof.Machine

namespace Dev

/-- A read of the register at `off`, without NOSIDE (R81, R93): its code and its word. -/
def readAnswer (who : Who) (off : Nat) (d : Dev) : Dev :=
  let r := d.csrReadReq who false off 1
  r.2.1.replyWith { code := r.2.2, data := wordsBytes r.1 }

/-- SLOT_PROGRAM or SLOT_REVOKE written with the number of its slot (R246). -/
def slotCommand (who : Who) (f : Fld) (slot : Fin 4) (d : Dev) : Dev × Code :=
  let x := withField (d.word Reg.SEC_CTL) Reg.SEC_CTL_SLOT.lsb Reg.SEC_CTL_SLOT.w slot.val
  d.csrWrite who Reg.SEC_CTL (withField x f.lsb f.w 1)

/-- OP_GO written with its operation: 0 CREATE, 1 DELETE, 2 REKEY, 3 READ (R372). -/
def ctxCommand (who : Who) (op : Nat) (d : Dev) : Dev × Code :=
  let x := withField (d.word Reg.CTX_CTL) Reg.CTX_CTL_OP.lsb Reg.CTX_CTL_OP.w op
  d.csrWrite who Reg.CTX_CTL (withField x Reg.CTX_CTL_OP_GO.lsb Reg.CTX_CTL_OP_GO.w 1)

/-- GO of domain `m` written with its target state (R404); `co`: what falls in its cycle, the wake sources that fire
(R409) and a SWAP of its region (R418). -/
def domCommand (who : Who) (m target co : Nat) (d : Dev) : Dev × Code :=
  let x := withField (d.word (Reg.DOM_CTL m)) (Reg.DOM_CTL_TARGET m).lsb (Reg.DOM_CTL_TARGET m).w target
  d.csrWriteCo co who (Reg.DOM_CTL m) (withField x (Reg.DOM_CTL_GO m).lsb (Reg.DOM_CTL_GO m).w 1)

/-- KICK; `expiry`: it falls in the tick of an expiry (R461). -/
def kickCommand (who : Who) (expiry : Bool) (d : Dev) : Dev × Code :=
  d.csrWriteCo (bit01 expiry) who Reg.WDT_CTL
    (withField (d.word Reg.WDT_CTL) Reg.WDT_CTL_KICK.lsb Reg.WDT_CTL_KICK.w 1)

/-- HALT; `expiry`: it falls in the tick of an expiry (R461). -/
def haltCommand (who : Who) (expiry : Bool) (d : Dev) : Dev × Code :=
  d.csrWriteCo (bit01 expiry) who Reg.DBG_CTL
    (withField (d.word Reg.DBG_CTL) Reg.DBG_CTL_HALT.lsb Reg.DBG_CTL_HALT.w 1)

/-- APPLY_A (`x` = 0) or APPLY_B (`x` = 1) of quad `q`, heritage quads from 16 (R381). -/
def pllApply (q x : Nat) : Fld := pllFld q 8 x 1 true

/-! ## The governor -/

/-- A governor setting (R420). -/
def gov (d : Dev) (sub dflt : Nat) : Nat := ofLe (d.fwGet 0x2010 sub (leBytes 4 dflt))

/-- The governor writes LEVEL_REQ as every initiator does (R417); a change that runs answers it BUSY (R413). -/
def govLevel (d : Dev) (l : Nat) : Dev := (fieldWrite .mp Reg.PWR_CTL_LEVEL_REQ l d).1

/-- GOVERNOR_DECISION (R417), by the firmware while it runs: `util` is the highest link utilization
of the period in per cent, and `full` says that some best-effort queue held its DEPTH in tokens for the whole period. -/
def governorDecision (util : Nat) (full : Bool) (d : Dev) : Dev :=
  if !d.fwUp ∨ d.gov 1 1 = 0 ∨ d.ctlOn Reg.PWR_CTL_PIN_LEVEL then d
  else
    let cur := d.get Reg.PWR_STS_LEVEL
    let low := if util < d.gov 4 30 then d.pwr.low + 1 else 0
    let d1 := { d with pwr := { d.pwr with low := low } }
    let tj := (BitVec.ofNat 8 (d.get Reg.PWR_TEMP_TJ)).toInt
    let cap := (BitVec.ofNat 32 (d.gov 8 100)).toInt
    if d.on (Reg.DR_TEMP_EVT_HOT95 0) ∨ d.on (Reg.DR_TEMP_EVT_HOT95 1)
        ∨ (d.on Reg.PWR_TEMP_VALID ∧ cap ≤ tj) then d1.govLevel (min cur (d.gov 9 3))
    else if d.gov 3 75 ≤ util ∨ full then (if cur < d.gov 7 5 then d1.govLevel (cur + 1) else d1)
    else if d.gov 5 16 ≤ low then
      let d2 := { d1 with pwr := { d1.pwr with low := 0 } }
      if d.gov 6 0 < cur then d2.govLevel (cur - 1) else d2
    else d1

end Dev

end Sys2Proof.Machine
end

