-- ==== Sys2Proof/Machine/State.lean ====
section
/-! DEFINITION. The machine: the device and the queue of the commands that wait, why it stops, its state at
reset, and how a command runs on it. -/

namespace Sys2Proof.Machine

/-- Why the machine stops with a fault. -/
inductive Fault where
  /-- Raised by every command but those of the supplies and RSTN while a monitored rail is out of its range
  after start-up step 1: R499 does not define the device's behaviour there. Safe: nothing is claimed of
  it. -/
  | railOutOfRange
deriving DecidableEq, Repr

/-- Why a command has no meaning. -/
inductive Refusal where
  /-- Raised by an arm of `exec` whose row has no meaning in the model; no row is left so. Safe: nothing is
  claimed of it. -/
  | notModelled (mnemonic : String)
deriving DecidableEq, Repr

/-- The state: the device, and the commands that wait, first in, first out. -/
structure State where
  dev : Dev := {}
  pending : List Instr := []
deriving DecidableEq, Repr

/-- The device after the VAUX power-on reset (R486): every register at its reset value, start-up at step 1, a new
golden key (R273), and an identity key of its own (R257); the two are free values. -/
def Dev.reset : Dev :=
  let g := ({} : Dev).freeBelow (2 ^ 256)
  let k := g.2.freeBelow (p521N - 1)
  { k.2 with keys := { golden := leBytes 32 g.1, idPriv := k.1 + 1 } }

/-- The state after the VAUX power-on reset: no command waits. -/
def State.reset : State := { dev := Dev.reset }

namespace State

/-- A rail is out of its range after start-up step 1 (R499). -/
def railOut (s : State) : Bool :=
  s.dev.get Reg.START_STS_STEP != 1 && !s.dev.on Reg.START_STS_RAILS_OK

/-- The device takes `f` and settles; the queue stands. -/
def run (f : Dev → Dev) (s : State) : State := { s with dev := (f s.dev).settle }

/-- A command with the effect `f`: with VAUX below its threshold the power-on reset holds the device, and nothing
happens (R499). -/
def event (f : Dev → Dev) (s : State) : Host.Outcome State Fault Refusal :=
  if !s.dev.start.vauxOn then .next s
  else if s.railOut then .fault .railOutOfRange
  else .next (s.run f)

/-- A command that is answered with a response code (R43). -/
def order (f : Dev → Dev × Code) (s : State) : Host.Outcome State Fault Refusal :=
  s.event (fun d => let r := f d; r.1.reply r.2)

/-- A command of the supplies or RSTN, which acts with a rail out of its range too (R486, R498, R499). -/
def supply (f : Dev → Dev) (s : State) : Host.Outcome State Fault Refusal := .next (s.run f)

end State

end Sys2Proof.Machine
end

