-- ==== Sys2Proof/Machine/StartRows.lean ====
section
/-! DEFINITION. Start-up, resets and rails: the meanings of their command rows, each over the operations of the model. -/

namespace Sys2Proof.Machine

/-- VAUX_POWER_ON_RESET (R486): VAUX rising past 2.55 V (or dipping below 2.45 V and rising again) resets
everything and begins start-up at step 1. -/
def execVauxPowerOnReset (vbat : Bool) (s : State) : Host.Outcome State Fault Refusal :=
  s.supply (Dev.vauxPowerOnReset vbat)

/-- STARTUP_STEP1_END (R481): Once VAUX has been above 2.55 V for 2 ms, RAILS_OK holds and RSTN is high, the
straps are sampled and step 1 ends. -/
def execStartupStep1End (cfgsrc : BitVec 3) (cfgpull : Bool) (us : Nat) (s : State) :
    Host.Outcome State Fault Refusal :=
  s.event (Dev.startupStep1End cfgsrc cfgpull us)

/-- BOOT_ROM_RUN (R442): After an MP reset the boot ROM checks slots A and B, sets EXT_VALID and jumps to the
newer valid primary image, or enters RECOVERY. -/
def execBootRomRun (vendorA : Bool) (vendorB : Bool) (vendorX : Bool) (s : State) :
    Host.Outcome State Fault Refusal :=
  s.event (Dev.bootRomRun vendorA vendorB vendorX)

/-- RECOVERY_IMAGE_RECEIVED (R442): In RECOVERY, an image that has fully arrived over UART0 is checked under
R441 and run from SRAM, or the ROM waits for the next one. -/
def execRecoveryImageReceived (image : List Byte) (vendor : Bool) (vendorX : Bool) (s : State) :
    Host.Outcome State Fault Refusal :=
  s.event (Dev.recoveryImageReceived image vendor vendorX)

/-- ADVANCE (R481): A write of ADVANCE ends start-up step 3, 4 or 5; at any other step it is answered BUSY. -/
def execAdvance (who : Who) (s : State) : Host.Outcome State Fault Refusal :=
  s.order (Dev.command who Reg.RST_CTL_ADVANCE)

/-- RSTN_LOW (R482): RSTN held low for 1 µs or longer starts a warm reset; a low level shorter than 100 ns is
ignored. -/
def execRstnLow (ns : Nat) (s : State) : Host.Outcome State Fault Refusal :=
  s.supply (Dev.rstnLow ns)

/-- RSTN_HIGH (R482): RSTN rising lets step 1 finish once its other conditions hold. -/
def execRstnHigh (s : State) : Host.Outcome State Fault Refusal :=
  s.supply Dev.rstnHigh

/-- DP_RESET (R487): A data-plane reset empties every region, disables the lanes, invalidates the region route
books and clears the context store, then runs start-up steps 4 to 7. -/
def execDpReset (who : Who) (s : State) : Host.Outcome State Fault Refusal :=
  s.order (Dev.command who Reg.RST_CTL_DP_RESET)

/-- WARM_RESET (R486): A warm reset runs the data-plane and management-plane resets together, then start-up
steps 1 to 7 with VAUX present. -/
def execWarmReset (who : Who) (s : State) : Host.Outcome State Fault Refusal :=
  s.order (Dev.command who Reg.RST_CTL_WARM_RESET)

/-- INITN_SAMPLE (R484): Before each load attempt the loader samples INITN every 1 µs and starts the attempt
once the pin reads high. -/
def execInitnSample (boardLow : Bool) (s : State) : Host.Outcome State Fault Refusal :=
  s.event (Dev.initnSample boardLow)

/-- DONE_PIN_HIGH (R485): With DONE_WAIT set, the DONE pin reading high opens the clock gates and accepts the
start-up swaps in the next CD48 cycle. -/
def execDonePinHigh (s : State) : Host.Outcome State Fault Refusal :=
  s.event Dev.donePinHigh

/-- RAIL_OUT_OF_RANGE (R499): A monitored rail leaving its range clears its RAIL_STS bit and RAILS_OK and sets
its RAIL_EVT bit. -/
def execRailOutOfRange (rail : Fin 16) (s : State) : Host.Outcome State Fault Refusal :=
  s.supply (Dev.railOutOfRange rail)

/-- RAIL_IN_RANGE (R498): A rail reaching its threshold sets its RAIL_STS bit and may complete RAILS_OK. -/
def execRailInRange (rail : Fin 16) (s : State) : Host.Outcome State Fault Refusal :=
  s.supply (Dev.railInRange rail)

/-- DIE_TEMP_UPDATE (R516): Every 100 µs PWR_TEMP takes the highest reading of the 16 on-die sensors. -/
def execDieTempUpdate (readings : List (BitVec 8)) (s : State) : Host.Outcome State Fault Refusal :=
  s.event (Dev.dieTempUpdate readings)

end Sys2Proof.Machine
end

