-- ==== Sys2Proof/Machine/RegisterRows.lean ====
section
/-! DEFINITION. Register accesses: the meanings of their command rows, each over the operations of the model. -/

namespace Sys2Proof.Machine

/-- CSR_WRITE (R85): A CSR write to a register with no row of its own executes register by register with the
class, guard, range and parity rules. -/
def execCsrWrite (who : Who) (off : BitVec 24) (words : List Word) (s : State) :
    Host.Outcome State Fault Refusal :=
  s.order (Dev.csrWriteReq who off.toNat words)

/-- EVT_READ (R81): A read without NOSIDE of an EVT register or RC object returns the value and clears its EVT
fields. -/
def execEvtRead (who : Who) (off : BitVec 24) (s : State) : Host.Outcome State Fault Refusal :=
  s.event (Dev.readAnswer who off.toNat)

/-- CNT_WRITE (R81): A write to a CNT field clears it to 0 whatever value is written. -/
def execCntWrite (who : Who) (off : BitVec 24) (value : Word) (s : State) :
    Host.Outcome State Fault Refusal :=
  s.order (Dev.csrWriteReq who off.toNat [value])

/-- PARITY_MISMATCH (R90): A failed parity check on a CTL register puts its block in its safe state and records
PARITY_FAULT, PARITY_ADDR and the count. -/
def execParityMismatch (off : BitVec 24) (cls : Cls) (s : State) : Host.Outcome State Fault Refusal :=
  s.event (Dev.parityMismatch off.toNat cls)

/-- TMR_VOTE (R92): A triplicated field whose copies disagree two against one has the odd copy rewritten, with
TMR_FIX and TMR_ADDR recorded. -/
def execTmrVote (off : BitVec 24) (three : Bool) (s : State) : Host.Outcome State Fault Refusal :=
  s.event (Dev.tmrVote off three)

/-- UNLOCK_KEY (R76): A write of 0x7A3C to UNLOCK_KEY or object 0x1F00 arms the writer's unlock; any other value
disarms it and is answered TARGET_ERR. -/
def execUnlockKey (who : Who) (key : BitVec 16) (s : State) : Host.Outcome State Fault Refusal :=
  s.order (Dev.csrWrite who Reg.UNLOCK_KEY (key.setWidth 32))

/-- UNLOCK_EXPIRY (R77): An unlock not consumed within 1 ms of being armed disarms. -/
def execUnlockExpiry (who : Who) (s : State) : Host.Outcome State Fault Refusal :=
  s.event (fun d => d.disarm who)

/-- SNAP (R94): A write of 1 to SNAP_CTL.SNAP or object 0x1F10:01 starts a snapshot, which is accepted one at a
time. -/
def execSnap (who : Who) (s : State) : Host.Outcome State Fault Refusal :=
  s.order (Dev.command who Reg.SNAP_CTL_SNAP)

/-- SNAPSHOT_COPY (R29): 32 root periods after acceptance, every counter is copied to its holding register in
one root period, with SNAP_SEQ, SNAP_TIME and OFF_FLAGS updated. -/
def execSnapshotCopy (s : State) : Host.Outcome State Fault Refusal :=
  s.event Dev.snapshotCopy

end Sys2Proof.Machine
end

