-- ==== Sys2Proof/Machine/WaybillRows.lean ====
section
/-! DEFINITION. The ports, Waybill and the dictionary: the meanings of their command rows, each over the operations of the model. -/

namespace Sys2Proof.Machine

/-- PORT_TRAINING_START (R45): An enabled port starts auto-negotiation and link training at the first root lock,
and at once when it is enabled later or retrains. -/
def execPortTrainingStart (port : Fin 2) (s : State) : Host.Outcome State Fault Refusal :=
  s.event (Dev.portTrainingStart port)

/-- PORT_LINK_UP (R45): Completed training with FEC lock sets LINK_UP and LINK_RISE. -/
def execPortLinkUp (port : Fin 2) (s : State) : Host.Outcome State Fault Refusal :=
  s.event (Dev.portLinkUp port)

/-- PORT_LINK_DOWN (R46): Loss of a port link sets LINK_DOWN, and frames queued for the port are discarded. -/
def execPortLinkDown (port : Fin 2) (s : State) : Host.Outcome State Fault Refusal :=
  s.event (Dev.portLinkDown port)

/-- PORT_CTL_WRITE (R46): A write of PORT_CTL that changes MODE or ENABLE sends the Waybill response first, then
takes the link down and retrains or holds the port in reset. -/
def execPortCtlWrite (who : Who) (port : Fin 2) (value : Word) (s : State) :
    Host.Outcome State Fault Refusal :=
  s.order (Dev.csrWrite who (Reg.PORT_CTL port.val) value)

/-- PORT_RX_FRAME (R49): A received frame is checked for length and FCS and sent either to the Waybill engine or
to the fabric. -/
def execPortRxFrame (port : Fin 2) (frame : RxFrame) (taken : Nat) (flips : List (Nat × BitVec 13))
      (s : State) :
    Host.Outcome State Fault Refusal :=
  s.event (Dev.portRxFrame port frame taken flips)

/-- PORT_TX_FRAME (R51): The port sends the next frame at a frame boundary, a queued Waybill frame going between
user frames. -/
def execPortTxFrame (port : Fin 2) (user : List FifoWord) (s : State) : Host.Outcome State Fault Refusal :=
  s.event (Dev.portTxFrame port user)

/-- READ (R60): Waybill READ returns the value of an object, or its descriptor when DESC is set. -/
def execRead (req : WbReq) (s : State) : Host.Outcome State Fault Refusal :=
  s.event (Dev.wbOp 1 req Dev.wbRead)

/-- WRITE (R60): Waybill WRITE writes an object after the type, access, unlock and COND checks, and moves its
change counter. -/
def execWrite (req : WbReq) (s : State) : Host.Outcome State Fault Refusal :=
  s.event (Dev.wbOp 2 req Dev.wbWrite)

/-- READ_BLOCK (R61): READ_BLOCK reads up to 256 subindexes in ascending order and stops at the first failure. -/
def execReadBlock (req : WbReq) (s : State) : Host.Outcome State Fault Refusal :=
  s.event (Dev.wbOp 3 req Dev.wbReadBlock)

/-- WRITE_BLOCK (R61): WRITE_BLOCK checks the payload length and then writes its subindexes in order, stopping
at the first failure. -/
def execWriteBlock (req : WbReq) (s : State) : Host.Outcome State Fault Refusal :=
  s.event (Dev.wbOp 4 req Dev.wbWrite)

/-- SNAPSHOT (R60): Waybill SNAPSHOT starts a snapshot and answers with the pack-time stamp once the holding
registers are filled. -/
def execSnapshot (req : WbReq) (s : State) : Host.Outcome State Fault Refusal :=
  s.event (Dev.wbOp 5 req Dev.wbSnapshot)

/-- WB_FENCE (R62): A Waybill FENCE waits for every earlier request of the same client to complete. -/
def execWbFence (req : WbReq) (s : State) : Host.Outcome State Fault Refusal :=
  s.event (Dev.wbOp 6 req Dev.wbFence)

/-- WB_FENCE_COMPLETE (R62): When the covered requests have completed, the FENCE answers OK or the code of the
earliest one that failed. -/
def execWbFenceComplete (s : State) : Host.Outcome State Fault Refusal :=
  s.event Dev.wbFenceComplete

/-- BARRIER (R66): A Waybill BARRIER, or a write of object 0x1F20, starts a local barrier or a pack barrier
according to ARG[3:0]. -/
def execBarrier (req : WbReq) (s : State) : Host.Outcome State Fault Refusal :=
  s.event (Dev.barrier req)

/-- NOTIFY_RECEIVED (R520): A received NOTIFY request is taken by the pack engine when it names 0x1100:05 or
0x7202:00, and is otherwise discarded. -/
def execNotifyReceived (req : WbReq) (s : State) : Host.Outcome State Fault Refusal :=
  s.event (Dev.wbNotify req)

/-- DISCOVER (R64): A received DISCOVER is answered with the identity record after a random delay of 0 to 2 ms. -/
def execDiscover (req : WbReq) (s : State) : Host.Outcome State Fault Refusal :=
  s.event (Dev.wbOp 9 req Dev.wbDiscover)

/-- DISCOVER_ANSWER_DUE (R64): When the random delay expires, the DISCOVER answer is sent. -/
def execDiscoverAnswerDue (k : Fin 64) (s : State) : Host.Outcome State Fault Refusal :=
  s.event (Dev.discoverAnswerDue k)

/-- STREAM_REQUEST_RECEIVED (R520): A received STREAM request is answered TARGET_ERR, because the device is
never a boot server. -/
def execStreamRequestReceived (req : WbReq) (s : State) : Host.Outcome State Fault Refusal :=
  s.event (Dev.wbOp 0xA req Dev.wbStream)

/-- ATTEST (R258): An ATTEST request, through Waybill or object 0x8200, gathers the report fields in one CD48
cycle and starts signing. -/
def execAttest (req : WbReq) (s : State) : Host.Outcome State Fault Refusal :=
  s.event (Dev.attest req)

/-- ATTEST_SIGNED (R258): When signing completes, the 9,604-byte report is sent in fragments or stored in the
REPORT_PART objects. -/
def execAttestSigned (s : State) : Host.Outcome State Fault Refusal :=
  s.event Dev.attestSigned

/-- WB_RESPONSE_RECEIVED (R520): A response to a NOTIFY or STREAM is matched by SEQ to an outstanding request,
or discarded. -/
def execWbResponseReceived (req : WbReq) (s : State) : Host.Outcome State Fault Refusal :=
  s.event (Dev.wbResponse req)

/-- NOTIFICATION_RAISED (R63): A management notification sends a NOTIFY to each target at once, or holds it
within the 1 ms window. -/
def execNotificationRaised (index : BitVec 16) (sub : BitVec 8) (s : State) :
    Host.Outcome State Fault Refusal :=
  s.event (Dev.notificationRaised index sub)

/-- NOTIFY_HOLD_EXPIRY (R63): At the end of the 1 ms window, the held notifications of an object are sent as one
NOTIFY. -/
def execNotifyHoldExpiry (index : BitVec 16) (sub : BitVec 8) (s : State) :
    Host.Outcome State Fault Refusal :=
  s.event (Dev.notifyHoldExpiry index sub)

/-- NOTIFY_RESEND_EXPIRY (R63): An unanswered NOTIFY is resent after 10 ms, up to 3 times, and is then dropped
and counted. -/
def execNotifyResendExpiry (seq : BitVec 32) (s : State) : Host.Outcome State Fault Refusal :=
  s.event (Dev.notifyResendExpiry seq)

/-- USER_OBJECT_FORWARD (R75): A request for a user object is forwarded as a MSG to the interface named by the
user-object map, or answered NO_TARGET. -/
def execUserObjectForward (req : WbReq) (s : State) : Host.Outcome State Fault Refusal :=
  s.event (Dev.userObjectForward req)

/-- FIRMWARE_OBJECT_FORWARD (R74): A request for a firmware-served object is forwarded to the MP, or answered
BUSY while the MP is in reset or halted. -/
def execFirmwareObjectForward (req : WbReq) (s : State) : Host.Outcome State Fault Refusal :=
  s.event (Dev.firmwareForward req)

/-- PERSISTENT_OBJECT_STORED (R519): Firmware answers a write of a persistent object only once its value is
stored in the flash data area. -/
def execPersistentObjectStored (s : State) : Host.Outcome State Fault Refusal :=
  s.event Dev.persistentObjectStored

end Sys2Proof.Machine
end

