-- ==== Sys2Proof/Machine/FabricRows.lean ====
section
/-! DEFINITION. The fabric, its block memories and slices: the meanings of their command rows, each over the operations of the model. -/

namespace Sys2Proof.Machine

/-- REINIT (R118): A write of 1 to FF_CTL.REINIT is accepted only while the region is ACTIVE and not held, and
is otherwise answered BUSY. -/
def execReinit (who : Who) (region : Region) (s : State) : Host.Outcome State Fault Refusal :=
  s.order (Dev.command who (Reg.FF_CTL_REINIT region.val))

/-- REINIT_PULSE (R118): At the next region-clock edge every flip-flop and slice takes its initial value,
REINIT_DONE is set and REINIT clears. -/
def execReinitPulse (region : Region) (s : State) : Host.Outcome State Fault Refusal :=
  s.event (Dev.reinitPulse region)

/-- TRUNK_CONTENTION (R127): Two enabled taps on one trunk disable the trunk within 2 ns and record
TRUNK_CONTEND and LAST_TRUNK. -/
def execTrunkContention (region : Region) (trunk : Fin 512) (s : State) : Host.Outcome State Fault Refusal :=
  s.event (Dev.trunkContention region trunk)

/-- TRUNK_RESTORE (R127): Once scrubbing leaves at most one tap enabled, the trunk resumes within 2 ns and
TRUNK_CLEAR is set. -/
def execTrunkRestore (region : Region) (trunk : Fin 512) (s : State) : Host.Outcome State Fault Refusal :=
  s.event (Dev.trunkRestore region trunk)

/-- BORDER_FORCE (R133): A write of BORDER_CTL.FORCE takes effect at the next region-clock edge and closes or
opens that side's gates. -/
def execBorderForce (who : Who) (region : Region) (force : BitVec 4) (s : State) :
    Host.Outcome State Fault Refusal :=
  s.order (Dev.fieldWrite who (Reg.BORDER_CTL_FORCE region.val) force.toNat)

/-- IO_SLIP (R137): A SLIP pulse moves a deserializer's word boundary one bit later, 2 word-clock cycles after
it is sampled. -/
def execIoSlip (region : Region) (cell : Fin 48) (s : State) : Host.Outcome State Fault Refusal :=
  s.event (Dev.ioSlip region cell)

/-- BM_PORT_REQUEST (R149): A block-memory port request sampled at an edge reads or writes, with bank conflicts
and same-word access settled. -/
def execBmPortRequest (region : Region) (block : Fin 64) (edge : PortEdge) (a : Option BmReq)
      (b : Option BmReq) (s : State) :
    Host.Outcome State Fault Refusal :=
  s.event (Dev.bmPortRequest region block edge a b)

/-- BM_RETAINED_EXECUTE (R150): At the next edge, port B's retained request executes in place of whatever port B
presents. -/
def execBmRetainedExecute (region : Region) (block : Fin 64) (a : Option BmReq) (s : State) :
    Host.Outcome State Fault Refusal :=
  s.event (Dev.bmRetainedExecute region block a)

/-- BM_READ_DATA (R148): Read data appears on DOUT with RVALID one or two edges after sampling, depending on
OREG. -/
def execBmReadData (region : Region) (block : Fin 64) (portB : Bool) (s : State) :
    Host.Outcome State Fault Refusal :=
  s.event (Dev.bmReadData region block portB)

/-- BM_FILL_DONE (R154): When the 2,048-word block fill completes, FILL_DONE is set and FILL_BUSY clears. -/
def execBmFillDone (region : Region) (s : State) : Host.Outcome State Fault Refusal :=
  s.event (Dev.bmFillDone region)

/-- SLICE_OPERAND_SET (R166): At a slice-clock edge an operand set is sampled at M1 with FIRST, LAST and its
bank tag, and every pipeline stage advances. -/
def execSliceOperandSet (region : Region) (slice : Fin 48) (ce : Bool) (operands : OperandSet) (s : State) :
    Host.Outcome State Fault Refusal :=
  s.event (Dev.sliceOperandSet region slice ce operands)

/-- SLICE_ACCUMULATE (R170): At M5 each sum is loaded or added into its bank's accumulator, and GOV is set on
overflow. -/
def execSliceAccumulate (region : Region) (slice : Fin 48) (ce : Bool) (s : State) :
    Host.Outcome State Fault Refusal :=
  s.event (Dev.sliceAccumulate region slice ce)

/-- SLICE_STORE (R171): A LAST set stores its banks at M6 through window, rounding, saturation and the GOV
override, or overruns. -/
def execSliceStore (region : Region) (slice : Fin 48) (ce : Bool) (s : State) :
    Host.Outcome State Fault Refusal :=
  s.event (Dev.sliceStore region slice ce)

/-- SWITCH (R173): A SWITCH sets the bank tag for operand sets from SWDLY edges later, and the generator set at
once when AG_FOLLOW is 1. -/
def execSwitchBank (region : Region) (slice : Fin 48) (ce : Bool) (bsel : Fin 4) (s : State) :
    Host.Outcome State Fault Refusal :=
  s.event (Dev.switchBank region slice ce bsel)

/-- AG_ADV (R177): AG_ADV advances the set used at this edge, wrapping in circular or bit-reversed modes and
applying any pending length at a wrap. -/
def execAgAdv (region : Region) (slice : Fin 48) (ce : Bool) (s : State) : Host.Outcome State Fault Refusal :=
  s.event (Dev.agAdv region slice ce)

/-- AG_WE (R178): AG_WE writes BASE, LEN, PTR or STEP of a generator set, with a LEN write held pending while
the pointer is inside the buffer. -/
def execAgWe (region : Region) (slice : Fin 48) (ce : Bool) (set : Fin 4) (reg : Fin 4) (data : BitVec 16)
      (s : State) :
    Host.Outcome State Fault Refusal :=
  s.event (Dev.agWe region slice ce set reg data)

/-- AG_APPLY (R179): AG_APPLY applies the pending length of the current set and reduces PTR into the new length. -/
def execAgApply (region : Region) (slice : Fin 48) (ce : Bool) (s : State) :
    Host.Outcome State Fault Refusal :=
  s.event (Dev.agApply region slice ce)

end Sys2Proof.Machine
end

