-- ==== Sys2Proof/Machine/ClockRows.lean ====
section
/-! DEFINITION. Clocks: the meanings of their command rows, each over the operations of the model. -/

namespace Sys2Proof.Machine

/-- ROOT_LOCK (R186): The root synthesizer locks, ROOT_CNT starts or resumes, and every hard divider starts its
edges. -/
def execRootLock (s : State) : Host.Outcome State Fault Refusal :=
  s.event Dev.rootLockStart

/-- ROOT_LOSS (R195): Loss of ROOTCLK holds every region, idles transmitters, stops the hard domains, moves the
management group to the internal oscillator and invalidates pack time. -/
def execRootLoss (clockGood : Bool) (s : State) : Host.Outcome State Fault Refusal :=
  s.event (Dev.rootLoss clockGood)

/-- ROOT_RETURN (R196): After 1 ms of valid ROOTCLK the root relocks, the management group moves back and a
data-plane reset follows with DRAM lost. -/
def execRootReturn (s : State) : Host.Outcome State Fault Refusal :=
  s.event Dev.rootReturn

/-- LEVEL_SWITCH (R190): At the next schedule-cycle boundary the performance-level divisor changes on CD32 to
CD43, and LEVEL_SWITCH is set. -/
def execLevelSwitch (s : State) : Host.Outcome State Fault Refusal :=
  s.event Dev.levelSwitch

/-- APPLY (R200): FS_CTL.APPLY starts a synthesizer's input measurement with its staged settings. -/
def execApply (who : Who) (synth : Fin 16) (s : State) : Host.Outcome State Fault Refusal :=
  s.order (Dev.command who (Reg.FS_CTL_APPLY synth.val))

/-- FS_APPLY_MEASURED (R200): After 10.24 µs of measurement the APPLY is refused with APPLY_ERR, or the outputs
stop and the synthesizer relocks. -/
def execFsApplyMeasured (synth : Fin 16) (present : Bool) (khz : Nat) (s : State) :
    Host.Outcome State Fault Refusal :=
  s.event (Dev.fsApplyMeasured synth present khz)

/-- FS_LOCK (R200): The synthesizer locks, its enabled outputs start, and LOCK and APPLY_DONE are set. -/
def execFsLock (synth : Fin 16) (s : State) : Host.Outcome State Fault Refusal :=
  s.event (Dev.fsLock synth)

/-- FS_LOL (R201): A lost or drifting synthesizer input stops the outputs low, clears LOCK and sets FS_LOL and
LAST_FS. -/
def execFsLol (synth : Fin 16) (drift : Bool) (written : List (Fin 32)) (s : State) :
    Host.Outcome State Fault Refusal :=
  s.event (Dev.fsLol synth drift written)

/-- FS_INPUT_RETURN (R201): When the input returns, the synthesizer relocks with its applied settings without
any command. -/
def execFsInputReturn (synth : Fin 16) (s : State) : Host.Outcome State Fault Refusal :=
  s.event (Dev.fsInputReturn synth)

/-- FS_OUT_EN_WRITE (R200): A change of OUT_EN starts or stops an output at its next edge, without a runt pulse. -/
def execFsOutEnWrite (who : Who) (synth : Fin 16) (outputs : BitVec 4) (s : State) :
    Host.Outcome State Fault Refusal :=
  s.order (Dev.fieldWrite who (Reg.FS_CTL_OUT_EN synth.val) outputs.toNat)

/-- GCK_SEL_WRITE (R202): A write of GCK_SEL that changes SRC, or arrives while ON_ALT is set, switches the
buffer glitch-free to SRC; while SWITCH_BUSY it is answered BUSY. -/
def execGckSelWrite (who : Who) (buffer : Fin 32) (value : Word) (s : State) :
    Host.Outcome State Fault Refusal :=
  s.order (Dev.csrWrite who (Reg.GCK_SEL buffer.val) value)

/-- GCK_SWITCH_DONE (R202): A buffer switch completes when the new source is passed, or after 1 µs of a low
source. -/
def execGckSwitchDone (buffer : Fin 32) (s : State) : Host.Outcome State Fault Refusal :=
  s.event (Dev.gckSwitchDone buffer)

/-- RING_CTL_WRITE (R198): A write of RING_CTL enables a ring oscillator or changes its frequency at once. -/
def execRingCtlWrite (who : Who) (ring : Fin 4) (value : Word) (s : State) :
    Host.Outcome State Fault Refusal :=
  s.order (Dev.csrWrite who (Reg.RING_CTL ring.val) value)

/-- RING_MEASURE (R198): Every 10.24 µs MEAS_MHZ takes the ring oscillator's frequency measured against the
root. -/
def execRingMeasure (ring : Fin 4) (mhz : Nat) (s : State) : Host.Outcome State Fault Refusal :=
  s.event (Dev.ringMeasure ring mhz)

end Sys2Proof.Machine
end

