-- ==== Sys2Proof/Machine/ConfigRows.lean ====
section
/-! DEFINITION. Regions, the loader, keys and the scrubber: the meanings of their command rows, each over the operations of the model. -/

namespace Sys2Proof.Machine

/-- LOAD (R218): LOAD starts writing the REGION stream at RGN_SRC into the shadow plane, or is refused BUSY,
RETIRED or TARGET_ERR. -/
def execLoad (who : Who) (region : Region) (s : State) : Host.Outcome State Fault Refusal :=
  s.order (Dev.command who (Reg.RGN_CTL_LOAD region.val))

/-- SWAP (R219): SWAP is accepted when the shadow is VERIFIED and the region EMPTY or ACTIVE; it captures DELAY
and makes the region SWAPPING. -/
def execSwap (who : Who) (region : Region) (s : State) : Host.Outcome State Fault Refusal :=
  s.order (Dev.command who (Reg.RGN_CTL_SWAP region.val))

/-- SWAP_EDGE (R221): At edge E the planes exchange roles, the hold is asserted, elements not carried are
initialised and the block fill starts. -/
def execSwapEdge (region : Region) (cd48 : Nat) (s : State) : Host.Outcome State Fault Refusal :=
  s.event (Dev.swapEdge region cd48)

/-- RELEASE (R223): At the first incoming region-clock edge at or after E + D with the fill complete, the hold
lifts, the gates open and the region becomes ACTIVE. -/
def execRelease (region : Region) (s : State) : Host.Outcome State Fault Refusal :=
  s.event (Dev.release region)

/-- ABORT (R216): ABORT ends a region load or a swap before E with ABORTED, or is flagged LATE when completion
is not later. -/
def execAbort (who : Who) (region : Region) (s : State) : Host.Outcome State Fault Refusal :=
  s.order (Dev.command who (Reg.RGN_CTL_ABORT region.val))

/-- DISCARD (R217): DISCARD returns a VERIFIED shadow plane to EMPTY. -/
def execDiscard (who : Who) (region : Region) (s : State) : Host.Outcome State Fault Refusal :=
  s.order (Dev.command who (Reg.RGN_CTL_DISCARD region.val))

/-- RETIRE (R227): RETIRE takes a region out of service until a data-plane reset, emptying both planes and
freeing its golden entry. -/
def execRetire (who : Who) (region : Region) (s : State) : Host.Outcome State Fault Refusal :=
  s.order (Dev.command who (Reg.RGN_CTL_RETIRE region.val))

/-- HLOAD (R521): HLOAD starts loading the HARD stream at CFG_HSRC into the staging buffer, or is refused. -/
def execHload (who : Who) (s : State) : Host.Outcome State Fault Refusal :=
  s.order (Dev.command who Reg.CFG_CTL_HLOAD)

/-- HABORT (R260): HABORT aborts a HARD load under R89. -/
def execHabort (who : Who) (s : State) : Host.Outcome State Fault Refusal :=
  s.order (Dev.command who Reg.CFG_CTL_HABORT)

/-- SEGMENT_PROCESS (R248): Segment data that has arrived is decrypted and its blocks written, and the segment's
tag is checked. -/
def execSegmentProcess (stream : List (Nat × List Byte)) (s : State) : Host.Outcome State Fault Refusal :=
  s.event (Dev.segmentProcess stream)

/-- SEAL_CHECK (R249): After the last tag, the seal, frame completeness and trunk contention are checked. -/
def execSealCheck (stream : List (Nat × List Byte)) (s : State) : Host.Outcome State Fault Refusal :=
  s.event (Dev.sealCheck stream)

/-- STARTUP_LOADER_ATTEMPT (R254): A start-up attempt begins on the next enabled source in rotation. -/
def execStartupLoaderAttempt (stream : Option (List (Nat × List Byte))) (s : State) :
    Host.Outcome State Fault Refusal :=
  s.event (Dev.startupLoaderAttempt stream)

/-- LOADER_ATTEMPT_FAIL (R256): A failed attempt is counted, sets BOOT_RETRY, drives INITN low and starts the
backoff. -/
def execLoaderAttemptFail (s : State) : Host.Outcome State Fault Refusal :=
  s.event Dev.loaderAttemptFail

/-- LOADER_BACKOFF_EXPIRY (R256): When the backoff wait expires, the next attempt comes due. -/
def execLoaderBackoffExpiry (s : State) : Host.Outcome State Fault Refusal :=
  s.event Dev.loaderBackoffExpiry

/-- STREAM (R255): The loader sends STREAM requests to the boot server, keeping up to 8 outstanding. -/
def execStream (s : State) : Host.Outcome State Fault Refusal :=
  s.event Dev.stream

/-- STREAM_RESPONSE (R255): A STREAM response delivers stream bytes, fixes the serving MAC, or fails the
attempt. -/
def execStreamResponse (mac : BitVec 48) (seq : BitVec 32) (code : Code) (more : Bool) (data : List Byte)
      (s : State) :
    Host.Outcome State Fault Refusal :=
  s.event (Dev.streamResponse mac.toNat seq.toNat code more data)

/-- STREAM_RESEND_EXPIRY (R255): An unanswered STREAM request is resent after 10 ms, and the attempt fails
SOURCE after the third resend. -/
def execStreamResendExpiry (seq : BitVec 32) (s : State) : Host.Outcome State Fault Refusal :=
  s.event (Dev.streamResendExpiry seq.toNat)

/-- BOOT_LINK_WAIT_EXPIRY (R255): When no port link is up within 2 s of the attempt's start, the network attempt
fails SOURCE. -/
def execBootLinkWaitExpiry (s : State) : Host.Outcome State Fault Refusal :=
  s.event Dev.bootLinkWaitExpiry

/-- SEC_KEY_DATA_WRITE (R245): The MP writes key or digest material to SEC_KEY_DATA; any other initiator is
DENIED. -/
def execSecKeyDataWrite (who : Who) (word : Fin 16) (value : Word) (s : State) :
    Host.Outcome State Fault Refusal :=
  s.order (Dev.csrWrite who (Reg.SEC_KEY_DATA word.val) value)

/-- FUSE_KEY_PROGRAM (R246): FUSE_KEY_PROGRAM programs the fuse key from SEC_KEY_DATA when the fuse key is
blank. -/
def execFuseKeyProgram (who : Who) (s : State) : Host.Outcome State Fault Refusal :=
  s.order (Dev.command who Reg.SEC_CTL_FUSE_KEY_PROGRAM)

/-- BBRAM_WRITE (R246): BBRAM_WRITE replaces the battery-backed key from SEC_KEY_DATA. -/
def execBbramWrite (who : Who) (s : State) : Host.Outcome State Fault Refusal :=
  s.order (Dev.command who Reg.SEC_CTL_BBRAM_WRITE)

/-- BBRAM_ZERO (R246): BBRAM_ZERO erases the battery-backed key, and ends any load keyed from it that has not
yet passed. -/
def execBbramZero (who : Who) (s : State) : Host.Outcome State Fault Refusal :=
  s.order (Dev.command who Reg.SEC_CTL_BBRAM_ZERO)

/-- SLOT_PROGRAM (R246): SLOT_PROGRAM programs a blank owner slot with the digest in SEC_KEY_DATA. -/
def execSlotProgram (who : Who) (slot : Fin 4) (s : State) : Host.Outcome State Fault Refusal :=
  s.order (Dev.slotCommand who Reg.SEC_CTL_SLOT_PROGRAM slot)

/-- SLOT_REVOKE (R246): SLOT_REVOKE revokes an owner slot, unless that would leave no usable slot. -/
def execSlotRevoke (who : Who) (slot : Fin 4) (s : State) : Host.Outcome State Fault Refusal :=
  s.order (Dev.slotCommand who Reg.SEC_CTL_SLOT_REVOKE slot)

/-- SEC_CMD_DONE (R246): A security command completes, sets CMD_DONE and clears SEC_KEY_DATA. -/
def execSecCmdDone (s : State) : Host.Outcome State Fault Refusal :=
  s.event Dev.secCmdDone

/-- SCRUB_SLOT (R267): A readback slot reads and classifies one frame of the active or the shadow sweep. -/
def execScrubSlot (upsets : List (Nat × Fin 4192)) (edge : Bool) (s : State) :
    Host.Outcome State Fault Refusal :=
  s.event (Dev.scrubSlot upsets edge)

/-- SCRUB_REREAD (R271): The re-read of a written frame sets CORRECTED when it is clean, or STUCK otherwise, and
clears the pending state. -/
def execScrubReread (upsets : List (Nat × Fin 4192)) (s : State) : Host.Outcome State Fault Refusal :=
  s.event (Dev.scrubReread upsets)

/-- SCRUB_PASS_END (R269): At the end of a pass SCRUB_PASSES counts and the rate policy relaxes or resets its
quiet count; the next pass fixes S and GAP. -/
def execScrubPassEnd (s : State) : Host.Outcome State Fault Refusal :=
  s.event Dev.scrubPassEnd

/-- FULL_NOW (R280): FULL_NOW sets PERIOD_MS to 0 and resets the quiet count. -/
def execFullNow (who : Who) (s : State) : Host.Outcome State Fault Refusal :=
  s.order (Dev.command who Reg.SCRUB_CTL_FULL_NOW)

/-- GOLDEN_BUILD (R274): A queued golden-store build reads, encrypts and writes all frames of a region and
compares the digest, retrying once. -/
def execGoldenBuild (s : State) : Host.Outcome State Fault Refusal :=
  s.event Dev.goldenBuild

/-- GOLDEN_BUILD_DONE (R274): A build completes, making the entry valid with GOLDEN_READY, or leaving it invalid
with GOLDEN_FAIL. -/
def execGoldenBuildDone (s : State) : Host.Outcome State Fault Refusal :=
  s.event Dev.goldenBuildDone

end Sys2Proof.Machine
end

