-- ==== Sys2Proof/Machine/IntegrityRows.lean ====
section
/-! DEFINITION. Memory integrity: the meanings of their command rows, each over the operations of the model. -/

namespace Sys2Proof.Machine

/-- BM_SCRUB_READ (R289): The block-memory scrubber reads one word in an idle port cycle and corrects or poisons
its bytes. -/
def execBmScrubRead (block : Fin 8192) (flips : List (Nat × BitVec 13)) (s : State) :
    Host.Outcome State Fault Refusal :=
  s.event (Dev.bmScrubRead block.val flips)

/-- SCRUB_STARVED (R289): A scrub pointer that falls one pass behind sets STARVED, counts it and logs it. -/
def execScrubStarved (unit : MemUnit) (s : State) : Host.Outcome State Fault Refusal :=
  s.event (Dev.scrubStarved unit)

/-- DRAM_SCRUB_READ (R290): The DRAM scrubber reads one line from a bank with an empty queue and corrects or
poisons its bytes. -/
def execDramScrubRead (channel : Fin 32) (flips : List (Nat × BitVec 13)) (s : State) :
    Host.Outcome State Fault Refusal :=
  s.event (Dev.rooted (Dev.dramScrubRead channel.val flips))

/-- VERIFY_READ (R295): The verify read after a write-back finds a fault or none, and a fault remaps the address
or fails the unit. -/
def execVerifyRead (flips : List (Nat × BitVec 13)) (s : State) : Host.Outcome State Fault Refusal :=
  s.event (Dev.verifyRead flips)

/-- CH_RETIRE (R297): A channel is retired by command or automatically, answering RETIRED to its requests and
invalidating the golden entries it holds. -/
def execChRetire (who : Who) (channel : Fin 32) (s : State) : Host.Outcome State Fault Refusal :=
  s.order (Dev.csrWrite who Reg.CH_RETIRE (BitVec.ofNat 32 (channel.val + 256)))

/-- INT_ATTACHMENT_EVENT (R293): An armed integrity event is queued at the region attachment and presented with
INT_VALID, or dropped with INT_LOST. -/
def execIntAttachmentEvent (region : Region) (s : State) : Host.Outcome State Fault Refusal :=
  s.event (Dev.intAttachmentEvent region)

/-- START (R299): MARCH_CTL.START starts a destructive or preserving march run on the units named, or is
refused. -/
def execStart (who : Who) (s : State) : Host.Outcome State Fault Refusal :=
  s.order (Dev.command who Reg.MARCH_CTL_START)

/-- MARCH_ACCESS (R298): The march engine performs its next access, and a mismatch is a fault handled under
R295. -/
def execMarchAccess (flips : List (Nat × BitVec 13)) (s : State) : Host.Outcome State Fault Refusal :=
  s.event (Dev.marchAccess flips)

/-- MARCH_DONE (R301): A march run ends, setting MARCH_DONE, RESULT and FAULTS and raising a notification. -/
def execMarchDone (s : State) : Host.Outcome State Fault Refusal :=
  s.event Dev.marchDone

/-- MARCH_ABORT (R301): ABORT stops the march run after the word or line in progress. -/
def execMarchAbort (who : Who) (s : State) : Host.Outcome State Fault Refusal :=
  s.order (Dev.command who Reg.MARCH_CTL_ABORT)

/-- WRITE_RAW (R302): WRITE_RAW stores data and check bits at CT_ADDR without computing a code. -/
def execWriteRaw (who : Who) (s : State) : Host.Outcome State Fault Refusal :=
  s.order (Dev.command who Reg.CT_CTL_WRITE_RAW)

/-- READ_RAW (R302): READ_RAW returns stored data and check bits without correcting or counting. -/
def execReadRaw (who : Who) (s : State) : Host.Outcome State Fault Refusal :=
  s.order (Dev.command who Reg.CT_CTL_READ_RAW)

/-- LOG_POP (R304): A read of LOG_HI, or of object 0x4200:08, without NOSIDE pops the oldest integrity log
entry. -/
def execLogPop (who : Who) (s : State) : Host.Outcome State Fault Refusal :=
  s.event (Dev.readAnswer who Reg.LOG_HI)

end Sys2Proof.Machine
end

