-- ==== Sys2Proof/Machine/NetworkRows.lean ====
section
/-! DEFINITION. The Caravan network: the meanings of their command rows, each over the operations of the model. -/

namespace Sys2Proof.Machine

/-- NI_REQUEST (R311): An initiating NI decodes the address, reads its route book and injects the packet, or
answers it itself. -/
def execNiRequest (ni : Fin 170) (packet : Pkt) (taken : Nat) (last : Bool) (s : State) :
    Host.Outcome State Fault Refusal :=
  s.event (Dev.rooted (Dev.niRequest ni packet taken last))

/-- GT_SLOT_INJECT (R320): At its scheduled slot boundary, a waiting guaranteed request is injected whole. -/
def execGtSlotInject (ni : Fin 170) (s : State) : Host.Outcome State Fault Refusal :=
  s.event (Dev.rooted (Dev.gtSlotInject ni))

/-- TOKEN_REFILL (R322): Every 256 network cycles an NI's best-effort bucket gains RATE tokens. -/
def execTokenRefill (ni : Fin 170) (s : State) : Host.Outcome State Fault Refusal :=
  s.event (Dev.rooted (Dev.tokenRefill ni))

/-- WAYSTATION_HOP (R314): A waystation takes a header's next hop, rotates ROUTE and increments HOPS, or
discards the packet. -/
def execWaystationHop (station : Fin 192) (input : Fin 5) (vc : Fin 4) (flips : List (Nat × BitVec 13))
      (s : State) :
    Host.Outcome State Fault Refusal :=
  s.event (Dev.rooted (Dev.waystationHop station input vc flips))

/-- RD (R310): A target NI executes a read of LEN flits and returns them in an RSP. -/
def execRd (ni : Fin 170) (answer : FabricAnswer) (s : State) : Host.Outcome State Fault Refusal :=
  s.event (Dev.rooted (Dev.targetReq 0 ni answer))

/-- WR (R310): A target NI executes a posted write and acknowledges it to the issuing NI. -/
def execWr (ni : Fin 170) (answer : FabricAnswer) (s : State) : Host.Outcome State Fault Refusal :=
  s.event (Dev.rooted (Dev.targetReq 1 ni answer))

/-- WRA (R310): A target NI executes an acknowledged write and returns an RSP without data. -/
def execWra (ni : Fin 170) (answer : FabricAnswer) (s : State) : Host.Outcome State Fault Refusal :=
  s.event (Dev.rooted (Dev.targetReq 2 ni answer))

/-- ATOM (R326): A target performs swap, add or compare-swap on aligned bytes and returns the old value, storing
nothing over poison. -/
def execAtom (ni : Fin 170) (answer : FabricAnswer) (s : State) : Host.Outcome State Fault Refusal :=
  s.event (Dev.rooted (Dev.targetReq 3 ni answer))

/-- MSG (R310): A region or hard engine receives a message and answers it in an RSP. -/
def execMsg (ni : Fin 170) (answer : FabricAnswer) (s : State) : Host.Outcome State Fault Refusal :=
  s.event (Dev.rooted (Dev.targetReq 6 ni answer))

/-- WAKE (R411): A WAKE packet starts its domain's return to D0 and is answered when the guard opens, or
TARGET_ERR outside compatibility mode. -/
def execWake (ni : Fin 170) (s : State) : Host.Outcome State Fault Refusal :=
  s.event (Dev.rooted (Dev.wakePacket ni))

/-- FENCE_PACKET (R325): A FENCE takes a tag and waits for every earlier write of its NI. -/
def execFencePacket (ni : Fin 170) (user : BitVec 48) (s : State) : Host.Outcome State Fault Refusal :=
  s.event (Dev.rooted (Dev.fencePacket ni user))

/-- FENCE_PACKET_COMPLETE (R35): A FENCE completes with OK or the code of the earliest failed write it reports
on. -/
def execFencePacketComplete (ni : Fin 170) (s : State) : Host.Outcome State Fault Refusal :=
  s.event (Dev.rooted (Dev.fencePacketComplete ni))

/-- RSP (R324): A response reaching its initiating NI completes the request and frees the tag, or is discarded
as late. -/
def execRsp (ni : Fin 170) (taken : Nat) (s : State) : Host.Outcome State Fault Refusal :=
  s.event (Dev.rooted (Dev.rspToPort ni taken))

/-- NI_TIMEOUT (R324): A request timer reaching TO_US synthesizes a TIMEOUT response and frees the tag. -/
def execNiTimeout (ni : Fin 170) (tag : Fin 4096) (s : State) : Host.Outcome State Fault Refusal :=
  s.event (Dev.rooted (Dev.timeoutToPort ni tag))

/-- FENCE_GUARD_REQUEST (R332): A request reaching a closed fence guard is answered FENCED, or in compatibility
mode wakes the domain and is held. -/
def execFenceGuardRequest (ni : Fin 170) (s : State) : Host.Outcome State Fault Refusal :=
  s.event (Dev.rooted (Dev.fenceGuardRequest ni))

/-- EPOCH (R328): EPOCH is accepted when no commit is pending and the old epoch has drained, and makes
COMMIT_PENDING. -/
def execEpoch (who : Who) (s : State) : Host.Outcome State Fault Refusal :=
  s.order (Dev.command who Reg.NOC_CTL_EPOCH)

/-- EPOCH_TAKES_EFFECT (R328): At the next slot boundary the epoch bit flips everywhere, the old copies become
shadow and GT_QUIET starts. -/
def execEpochTakesEffect (s : State) : Host.Outcome State Fault Refusal :=
  s.event (Dev.rooted Dev.epochTakesEffect)

/-- GT_QUIET_END (R329): After 32 slots the guaranteed quiet window ends. -/
def execGtQuietEnd (s : State) : Host.Outcome State Fault Refusal :=
  s.event (Dev.rooted Dev.gtQuietEnd)

/-- OLD_EPOCH_DRAINED (R330): When every old-epoch count reaches zero, DRAINED is set and the old epoch ends. -/
def execOldEpochDrained (s : State) : Host.Outcome State Fault Refusal :=
  s.event (Dev.rooted Dev.oldEpochDrained)

/-- OLD_REQUEST_EXPIRY (R330): 16 ms after the commit an NI stops counting an unanswered old-epoch request and
discards its later response. -/
def execOldRequestExpiry (ni : Fin 170) (s : State) : Host.Outcome State Fault Refusal :=
  s.event (Dev.rooted (Dev.oldRequestExpiry ni))

/-- RB_WRITE (R315): RB_WRITE checks a route-book entry and stores it in the shadow copy, or refuses it with
RB_ERR. -/
def execRbWrite (who : Who) (s : State) : Host.Outcome State Fault Refusal :=
  s.order (Dev.command who Reg.NOC_CTL_RB_WRITE)

/-- RB_READ (R335): RB_READ reads a route-book entry into RB_DATA. -/
def execRbRead (who : Who) (s : State) : Host.Outcome State Fault Refusal :=
  s.order (Dev.command who Reg.NOC_CTL_RB_READ)

/-- RB_COPY (R335): RB_COPY copies active route books to their shadow copies over 512 network cycles. -/
def execRbCopy (who : Who) (s : State) : Host.Outcome State Fault Refusal :=
  s.order (Dev.command who Reg.NOC_CTL_RB_COPY)

/-- ST_WRITE (R335): ST_WRITE writes a shadow slot-table group. -/
def execStWrite (who : Who) (s : State) : Host.Outcome State Fault Refusal :=
  s.order (Dev.command who Reg.NOC_CTL_ST_WRITE)

/-- ST_READ (R335): ST_READ reads a slot-table group into ST_DATA. -/
def execStRead (who : Who) (s : State) : Host.Outcome State Fault Refusal :=
  s.order (Dev.command who Reg.NOC_CTL_ST_READ)

end Sys2Proof.Machine
end

