-- ==== Sys2Proof/Machine/DramRows.lean ====
section
/-! DEFINITION. Stacked DRAM: the meanings of their command rows, each over the operations of the model. -/

namespace Sys2Proof.Machine

/-- DRAM_REQ_ENQUEUE (R345): An arriving DRAM request enters its bank queue, or waits in the interface while the
queue is full. -/
def execDramReqEnqueue (channel : Fin 32) (s : State) : Host.Outcome State Fault Refusal :=
  s.event (Dev.rooted (Dev.dramReqEnqueue channel))

/-- DRAM_COMMAND_ISSUE (R349): Each controller cycle picks by urgency and rotating pointer and issues one
command, or a forced refresh. -/
def execDramCommandIssue (channel : Fin 32) (ready : BitVec 32) (s : State) :
    Host.Outcome State Fault Refusal :=
  s.event (Dev.rooted (Dev.dramCommandIssue channel ready))

/-- DRAM_RESPONSE (R346): When its last line is served, a request's response is formed and sent in stream order. -/
def execDramResponse (channel : Fin 32) (age : Nat) (s : State) : Host.Outcome State Fault Refusal :=
  s.event (Dev.rooted (Dev.dramResponse channel age))

/-- URGENCY_RISE (R348): A queued request's age reaching 0.5, 0.75, 1 or 2 × T raises its urgency, with OVERDUE
at U4. -/
def execUrgencyRise (channel : Fin 32) (request : Nat) (s : State) : Host.Outcome State Fault Refusal :=
  s.event (Dev.rooted (Dev.urgencyRise channel request))

/-- REFRESH_DUE (R351): Every tREFI a per-bank refresh comes due for the next bank in rotation. -/
def execRefreshDue (channel : Fin 32) (s : State) : Host.Outcome State Fault Refusal :=
  s.event (Dev.rooted (Dev.refreshDue channel))

/-- REFRESH_FORCED (R351): A refresh delayed 4 × tREFI by urgent requests is forced, with REFRESH_FORCED set. -/
def execRefreshForced (channel : Fin 32) (s : State) : Host.Outcome State Fault Refusal :=
  s.event (Dev.rooted (Dev.refreshForced channel))

/-- DRAM_TEMP_READ (R352): Every 100 µs the stack sensors are read, switching the fast refresh rate and setting
HOT95. -/
def execDramTempRead (stack : Fin 2) (t0 : BitVec 8) (t1 : BitVec 8) (t2 : BitVec 8) (t3 : BitVec 8)
      (s : State) :
    Host.Outcome State Fault Refusal :=
  s.event (Dev.dramTempRead stack t0 t1 t2 t3)

/-- DELAY_MOVE (R354): Every 16 controller cycles each moving DQ delay steps one tap in an idle cycle, and
DLY_DONE is set when all arrive. -/
def execDelayMove (channel : Fin 32) (s : State) : Host.Outcome State Fault Refusal :=
  s.event (Dev.rooted (Dev.delayMove channel))

/-- BRINGUP (R355): BRINGUP writes and reads the bring-up lines with fixed codewords, and marks the channel
failed on a mismatch. -/
def execBringup (who : Who) (channel : Fin 32) (s : State) : Host.Outcome State Fault Refusal :=
  s.order (Dev.command who (Reg.CH_CTL_BRINGUP (channel.val / 16) (channel.val % 16)))

/-- BRINGUP_DONE (R355): The bring-up check ends, clearing BRINGUP_BUSY or setting BRINGUP_FAIL. -/
def execBringupDone (channel : Fin 32) (mismatch : Bool) (s : State) : Host.Outcome State Fault Refusal :=
  s.event (Dev.rooted (Dev.bringupDone channel mismatch))

end Sys2Proof.Machine
end

