-- ==== Sys2Proof/Machine/ContextRows.lean ====
section
/-! DEFINITION. Contexts: the meanings of their command rows, each over the operations of the model. -/

namespace Sys2Proof.Machine

/-- LP_REQUEST (R367): A lookup-port request is hashed and sent as a MSG to the engine of its quarter. -/
def execLpRequest (region : Region) (request : LookupReq) (s : State) : Host.Outcome State Fault Refusal :=
  s.event (Dev.rooted (Dev.lpRequest region request))

/-- LOOKUP (R368): LOOKUP finds the context and returns its state. -/
def execLookup (engine : Fin 4) (s : State) : Host.Outcome State Fault Refusal :=
  s.event (Dev.rooted (Dev.lookup engine))

/-- ADD (R368): ADD adds ARG0 and ARG1 to CNT0 and CNT1 of the found context. -/
def execAdd (engine : Fin 4) (s : State) : Host.Outcome State Fault Refusal :=
  s.event (Dev.rooted (Dev.add engine))

/-- SEQ (R368): SEQ advances the sequence number when it equals ARG0. -/
def execSeq (engine : Fin 4) (s : State) : Host.Outcome State Fault Refusal :=
  s.event (Dev.rooted (Dev.seq engine))

/-- SET (R368): SET writes ARG0 to USER[WSEL]. -/
def execSet (engine : Fin 4) (s : State) : Host.Outcome State Fault Refusal :=
  s.event (Dev.rooted (Dev.setUser engine))

/-- CAS (R368): CAS writes ARG0 to USER[WSEL] when it equals ARG1. -/
def execCas (engine : Fin 4) (s : State) : Host.Outcome State Fault Refusal :=
  s.event (Dev.rooted (Dev.casUser engine))

/-- CTX_REFILL (R366): A record read from DRAM fills the cache, writing back a replaced dirty line. -/
def execCtxRefill (s : State) : Host.Outcome State Fault Refusal :=
  s.event (Dev.rooted Dev.ctxRefill)

/-- INIT (R364): INIT clears every record, fixes the key width and hash key, and sets IN_USE. -/
def execInit (who : Who) (s : State) : Host.Outcome State Fault Refusal :=
  s.order (Dev.command who Reg.CTX_CTL_INIT)

/-- INIT_DONE (R364): INIT completes and sets INIT_DONE. -/
def execInitDone (s : State) : Host.Outcome State Fault Refusal :=
  s.event (Dev.rooted Dev.initDone)

/-- CREATE (R372): CREATE stages a new context in the first free slot of its buckets. -/
def execCreate (who : Who) (s : State) : Host.Outcome State Fault Refusal :=
  s.order (Dev.ctxCommand who 0)

/-- DELETE (R372): DELETE sets PEND delete on the visible match. -/
def execDelete (who : Who) (s : State) : Host.Outcome State Fault Refusal :=
  s.order (Dev.ctxCommand who 1)

/-- REKEY (R372): REKEY stages a delete of KEY and a create of NKEY with KEY's state. -/
def execRekey (who : Who) (s : State) : Host.Outcome State Fault Refusal :=
  s.order (Dev.ctxCommand who 2)

/-- CTX_READ (R372): The context READ operation returns the visible match's state and index. -/
def execCtxRead (who : Who) (s : State) : Host.Outcome State Fault Refusal :=
  s.order (Dev.ctxCommand who 3)

/-- COMMIT (R373): COMMIT is accepted when no commit or cleanup is pending. -/
def execCommit (who : Who) (s : State) : Host.Outcome State Fault Refusal :=
  s.order (Dev.command who Reg.CTX_CTL_COMMIT)

/-- COMMIT_TAKES_EFFECT (R373): In the next engine cycle COMMITTED becomes 1 in all engines, ENG_MAP takes the
shadow and cleanup starts. -/
def execCommitTakesEffect (s : State) : Host.Outcome State Fault Refusal :=
  s.event (Dev.rooted Dev.commitTakesEffect)

/-- CLEANUP_DONE (R373): Cleanup finishes rewriting staged records, and COMMITTED returns to 0. -/
def execCleanupDone (s : State) : Host.Outcome State Fault Refusal :=
  s.event (Dev.rooted Dev.cleanupDone)

/-- CTX_DISCARD (R373): DISCARD undoes every staged context change. -/
def execCtxDiscard (who : Who) (s : State) : Host.Outcome State Fault Refusal :=
  s.order (Dev.command who Reg.CTX_CTL_DISCARD)

/-- SWEEP (R374): SWEEP scans every record and counts, or stages deletes of, the records its selector matches. -/
def execSweep (who : Who) (s : State) : Host.Outcome State Fault Refusal :=
  s.order (Dev.command who Reg.CTX_CTL_SWEEP)

/-- SWEEP_DONE (R374): A sweep completes with SWEEP_RES set. -/
def execSweepDone (s : State) : Host.Outcome State Fault Refusal :=
  s.event (Dev.rooted Dev.sweepDone)

/-- CTX_ABORT (R374): ABORT stops a sweep and discards what it staged. -/
def execCtxAbort (who : Who) (s : State) : Host.Outcome State Fault Refusal :=
  s.order (Dev.command who Reg.CTX_CTL_ABORT)

/-- ENG_RETIRE (R375): ENG_RETIRE retires an engine, moving its quarters and answering its held requests
RETIRED. -/
def execEngRetire (who : Who) (mask : BitVec 4) (s : State) : Host.Outcome State Fault Refusal :=
  s.order (Dev.csrWrite who Reg.CTX_ENG_RETIRE (mask.setWidth 32))

/-- ENGINE_MISMATCH (R375): A disagreement of an engine's two copies retires the engine. -/
def execEngineMismatch (engine : Fin 4) (s : State) : Host.Outcome State Fault Refusal :=
  s.event (Dev.rooted (Dev.engineMismatch engine))

end Sys2Proof.Machine
end

