-- ==== Sys2Proof/Machine/LaneRows.lean ====
section
/-! DEFINITION. Serial lanes: the meanings of their command rows, each over the operations of the model. -/

namespace Sys2Proof.Machine

/-- LANE_EN_WRITE (R383): A LANE_CTL write that enables, disables or reconfigures a lane moves it to PLL_WAIT or
DISABLED. -/
def execLaneEnWrite (who : Who) (lane : LaneId) (value : Word) (s : State) :
    Host.Outcome State Fault Refusal :=
  s.order (Dev.csrWrite who lane.base value)

/-- APPLY_A (R381): APPLY_A applies PLL A's staged rate, or is refused with APPLY_ERR. -/
def execApplyA (who : Who) (quad : Fin 32) (s : State) : Host.Outcome State Fault Refusal :=
  s.order (Dev.fieldWrite who (Dev.pllApply quad.val 0) 1)

/-- APPLY_B (R381): APPLY_B applies PLL B's staged rate, or is refused with APPLY_ERR. -/
def execApplyB (who : Who) (quad : Fin 32) (s : State) : Host.Outcome State Fault Refusal :=
  s.order (Dev.fieldWrite who (Dev.pllApply quad.val 1) 1)

/-- LANE_PLL_SETTLED (R383): With the PLL locked and the dividers settled, the lane enters WAIT_SIGNAL and its
transmitter starts. -/
def execLanePllSettled (lane : LaneId) (s : State) : Host.Outcome State Fault Refusal :=
  s.event (Dev.lanePllSettled lane)

/-- LANE_SIGNAL_DETECT (R383): Signal detected with CDR lock moves the lane to ACQUIRE, or to FROZEN when FREEZE
is 1. -/
def execLaneSignalDetect (lane : LaneId) (s : State) : Host.Outcome State Fault Refusal :=
  s.event (Dev.laneSignalDetect lane)

/-- LOS (R383): Loss of signal returns the lane to WAIT_SIGNAL, clears ALIGNED and discards a pending slip. -/
def execLos (lane : LaneId) (acq : Bool) (s : State) : Host.Outcome State Fault Refusal :=
  s.event (Dev.los lane acq)

/-- EQF_UPDATE (R384): Every 100 µs the eye monitor computes EQF. -/
def execEqfUpdate (lane : LaneId) (eyes : Fin 4097 × Fin 4097 × Fin 4097) (s : State) :
    Host.Outcome State Fault Refusal :=
  s.event (Dev.eqfUpdate lane eyes)

/-- ADAPT_STEP (R385): Adaptation changes one equalizer setting by one step, keeps or undoes it, and enters
TRACK when a round gains nothing. -/
def execAdaptStep (lane : LaneId) (tap : Fin 25) (up : Bool) (s : State) : Host.Outcome State Fault Refusal :=
  s.event (Dev.adaptStep lane tap up)

/-- ACQ_FAIL (R383): ACQ_MS without reaching TRACK restarts acquisition, and 8 in a row may retire the lane. -/
def execAcqFail (lane : LaneId) (s : State) : Host.Outcome State Fault Refusal :=
  s.event (Dev.acqFail lane)

/-- EQF_LOW (R383): EQF below EQF_MIN for 1 ms in TRACK returns the lane to ACQUIRE. -/
def execEqfLow (lane : LaneId) (s : State) : Host.Outcome State Fault Refusal :=
  s.event (Dev.eqfLow lane)

/-- FREEZE (R383): Writing FREEZE moves the lane to FROZEN at the end of the step in progress, or back to TRACK
when cleared. -/
def execFreeze (who : Who) (lane : LaneId) (on : Bool) (s : State) : Host.Outcome State Fault Refusal :=
  s.order (Dev.fieldWrite who lane.FREEZE (bit01 on))

/-- RESTART (R383): RESTART sends the lane to PLL_WAIT. -/
def execRestart (who : Who) (lane : LaneId) (s : State) : Host.Outcome State Fault Refusal :=
  s.order (Dev.fieldWrite who (lane.fld 0 17 1) 1)

/-- LANE_RETIRE (R395): RETIRE puts the lane in RETIRED, idling its transmitter and ignoring its receiver. -/
def execLaneRetire (who : Who) (lane : LaneId) (s : State) : Host.Outcome State Fault Refusal :=
  s.order (Dev.fieldWrite who (lane.fld 0 18 1) 1)

/-- CODEWORD_ALIGN (R387): The decoder's alignment hunt sets or clears ALIGNED by codeword, character or block
lock. -/
def execCodewordAlign (lane : LaneId) (errors : Nat) (kind : Fin 3) (s : State) :
    Host.Outcome State Fault Refusal :=
  s.event (Dev.codewordAlign lane errors kind)

/-- LANE_RX_WORD (R390): A decoded word enters the receive FIFO, or is discarded as overflow. -/
def execLaneRxWord (lane : LaneId) (word : LaneWord) (taken : Nat) (errors : Nat) (flips : List
      (Nat × BitVec 13)) (s : State) :
    Host.Outcome State Fault Refusal :=
  s.event (Dev.laneRxWord lane word taken errors flips)

/-- LANE_TX_WORD (R390): The coder takes the next transmit word, or sends its idle word and counts an underflow. -/
def execLaneTxWord (lane : LaneId) (offered : List LaneWord) (flips : List (Nat × BitVec 13)) (s : State) :
    Host.Outcome State Fault Refusal :=
  s.event (Dev.rooted (Dev.laneTxWord lane offered flips))

/-- SLIP (R394): SLIP is accepted only in FROZEN with AUTO_ALIGN 0, and is otherwise refused. -/
def execSlip (who : Who) (lane : LaneId) (s : State) : Host.Outcome State Fault Refusal :=
  s.order (Dev.fieldWrite who (lane.fld 0 16 1) 1)

/-- SLIP_DONE (R394): 4 word-clock cycles after acceptance the boundary moves, SLIP_DONE is set and a partial
word is discarded. -/
def execSlipDone (lane : LaneId) (s : State) : Host.Outcome State Fault Refusal :=
  s.event (Dev.slipDone lane)

/-- PAT_CTL_WRITE (R392): Writing GEN or CHK starts or stops the pattern generator or checker. -/
def execPatCtlWrite (who : Who) (lane : LaneId) (value : Word) (s : State) :
    Host.Outcome State Fault Refusal :=
  s.order (Dev.csrWrite who (lane.base + 0x30) value)

/-- CHK_LOCK (R392): After 64 error-free bits the checker locks and starts counting. -/
def execChkLock (lane : LaneId) (s : State) : Host.Outcome State Fault Refusal :=
  s.event (Dev.chkLock lane)

/-- GO (R393): INJ_CTL.GO starts a single, burst or rate error injection. -/
def execGo (who : Who) (lane : LaneId) (s : State) : Host.Outcome State Fault Refusal :=
  s.order (Dev.fieldWrite who (lane.fld 0x44 15 1) 1)

/-- INJECTION_DONE (R393): A single or burst injection completes and GO clears. -/
def execInjectionDone (lane : LaneId) (s : State) : Host.Outcome State Fault Refusal :=
  s.event (Dev.injectionDone lane)

end Sys2Proof.Machine
end

