-- ==== Sys2Proof/Machine/PowerRows.lean ====
section
/-! DEFINITION. Power: the meanings of their command rows, each over the operations of the model. -/

namespace Sys2Proof.Machine

/-- DOM_GO (R404): GO requests a power state; leaving D0 closes the fence guard and starts the drain. -/
def execDomGo (who : Who) (domain : Fin 256) (target : BitVec 2) (fires : BitVec 2) (swap : Bool) (s : State) :
    Host.Outcome State Fault Refusal :=
  s.order (Dev.domCommand who domain.val target.toNat (fires.toNat + 4 * bit01 swap))

/-- DRAIN_COMPLETE (R405): When the domain's drain completes, the clocks are gated and power or retention
switches act. -/
def execDrainComplete (domain : Fin 256) (s : State) : Host.Outcome State Fault Refusal :=
  s.event (Dev.drainComplete domain)

/-- DOMAIN_STATE_REACHED (R405): The domain reaches its target state, setting DOMAIN_DONE, and a pending wake
starts. -/
def execDomainStateReached (domain : Fin 256) (s : State) : Host.Outcome State Fault Refusal :=
  s.event (Dev.domainStateReached domain)

/-- DRAIN_TIMEOUT (R406): A drain not complete after DRAIN_US unfences the domain and refuses the power-down. -/
def execDrainTimeout (domain : Fin 256) (s : State) : Host.Outcome State Fault Refusal :=
  s.event (Dev.drainTimeout domain)

/-- DOMAIN_WAKE (R407): GO to D0 or a wake source sets WAKING and restores power, clocks and state. -/
def execDomainWake (domain : Fin 256) (s : State) : Host.Outcome State Fault Refusal :=
  s.event (Dev.domainWake domain)

/-- DOMAIN_WAKE_DONE (R407): After re-initialization the guard opens, WAKING clears and DOMAIN_DONE is set. -/
def execDomainWakeDone (domain : Fin 256) (s : State) : Host.Outcome State Fault Refusal :=
  s.event (Dev.domainWakeDone domain)

/-- WAKE_TIMER (R409): The device time reaching WAKE_AT fires the TIMER wake source. -/
def execWakeTimer (domain : Fin 256) (s : State) : Host.Outcome State Fault Refusal :=
  s.event (Dev.wakeTimer domain)

/-- WAKE_SIGNAL (R409): Signal detected on a lane, or a frame received, fires the SIGNAL wake source. -/
def execWakeSignal (domain : Fin 256) (s : State) : Host.Outcome State Fault Refusal :=
  s.event (Dev.wakeSignal domain)

/-- LEVEL_REQ (R413): A LEVEL_REQ write starts a level change, voltage first upward or divisor first downward. -/
def execLevelReq (who : Who) (level : BitVec 3) (s : State) : Host.Outcome State Fault Refusal :=
  s.order (Dev.fieldWrite who Reg.PWR_CTL_LEVEL_REQ level.toNat)

/-- AVS_WRITE (R414): The device sends an AVSBus Vout write to a rail. -/
def execAvsWrite (good : Bool) (s : State) : Host.Outcome State Fault Refusal :=
  s.event (Dev.avsWrite good)

/-- AVS_STATUS_READ (R414): Every 8 µs a status read checks VDone, and an acknowledged request completes. -/
def execAvsStatusRead (vdone : Bool) (s : State) : Host.Outcome State Fault Refusal :=
  s.event (Dev.avsStatusRead vdone)

/-- AVS_FAULT (R415): No acknowledgement within 500 µs sets AVS_FAULT and leaves the level as it stands. -/
def execAvsFault (s : State) : Host.Outcome State Fault Refusal :=
  s.event Dev.avsFault

/-- VINT_UPDATE (R416): Every 1 ms the VCCINT target is recomputed and moved by at most 10 mV. -/
def execVintUpdate (margin : Nat) (s : State) : Host.Outcome State Fault Refusal :=
  s.event (Dev.vintUpdate margin)

/-- VTIER_WRITE (R416): A VTIER write raises the tier after acknowledgement or lowers it at once. -/
def execVtierWrite (who : Who) (tier : BitVec 2) (s : State) : Host.Outcome State Fault Refusal :=
  s.order (Dev.fieldWrite who Reg.PWR_CTL_VTIER tier.toNat)

/-- GOVERNOR_DECISION (R417): Once per GOV_PERIOD_MS the governor caps, raises or lowers the level. -/
def execGovernorDecision (utilization : Nat) (full : Bool) (s : State) : Host.Outcome State Fault Refusal :=
  s.event (Dev.governorDecision utilization full)

end Sys2Proof.Machine
end

