-- ==== Sys2Proof/Machine/MpRows.lean ====
section
/-! DEFINITION. The management processor: the meanings of their command rows, each over the operations of the model. -/

namespace Sys2Proof.Machine

/-- LOCKSTEP_MISMATCH (R422): A comparator mismatch blocks the lead core's outputs and resets the MP. -/
def execLockstepMismatch (s : State) : Host.Outcome State Fault Refusal :=
  s.event Dev.lockstepMismatch

/-- SOFT_RESET (R423): SOFT_RESET resets the MP with cause SOFT. -/
def execSoftReset (who : Who) (s : State) : Host.Outcome State Fault Refusal :=
  s.order (Dev.command who Reg.SOFT_RESET_SOFT_RESET)

/-- EXCEPTION_ENTRY (R428): An exception saves EPC and causes and enters the vector, or resets the MP when EXC
is already set. -/
def execExceptionEntry (cause : Fin 8) (code : Fin 16) (addr : Word) (s : State) :
    Host.Outcome State Fault Refusal :=
  s.event (Dev.exceptionEntry cause code addr)

/-- TIMER_CMP_MATCH (R427): CYC_LO equal to TIMER_CMP raises event line 18. -/
def execTimerCmpMatch (s : State) : Host.Outcome State Fault Refusal :=
  s.event Dev.timerCmpMatch

/-- ADD_INSN (R426): ADD sets Gd to Ga plus Gb. -/
def execAddInsn (rd : Fin 16) (ra : Fin 16) (rb : Fin 16) (s : State) : Host.Outcome State Fault Refusal :=
  s.event (Dev.mpRun (.alu .add rd ra rb))

/-- SUB (R426): SUB sets Gd to Ga minus Gb. -/
def execSub (rd : Fin 16) (ra : Fin 16) (rb : Fin 16) (s : State) : Host.Outcome State Fault Refusal :=
  s.event (Dev.mpRun (.alu .sub rd ra rb))

/-- AND (R426): AND sets Gd to Ga and Gb. -/
def execAnd (rd : Fin 16) (ra : Fin 16) (rb : Fin 16) (s : State) : Host.Outcome State Fault Refusal :=
  s.event (Dev.mpRun (.alu .and rd ra rb))

/-- OR (R426): OR sets Gd to Ga or Gb. -/
def execOr (rd : Fin 16) (ra : Fin 16) (rb : Fin 16) (s : State) : Host.Outcome State Fault Refusal :=
  s.event (Dev.mpRun (.alu .or rd ra rb))

/-- XOR (R426): XOR sets Gd to Ga xor Gb. -/
def execXor (rd : Fin 16) (ra : Fin 16) (rb : Fin 16) (s : State) : Host.Outcome State Fault Refusal :=
  s.event (Dev.mpRun (.alu .xor rd ra rb))

/-- SLL (R426): SLL shifts Ga left by Gb[4:0]. -/
def execSll (rd : Fin 16) (ra : Fin 16) (rb : Fin 16) (s : State) : Host.Outcome State Fault Refusal :=
  s.event (Dev.mpRun (.alu .sll rd ra rb))

/-- SRL (R426): SRL shifts Ga right logically by Gb[4:0]. -/
def execSrl (rd : Fin 16) (ra : Fin 16) (rb : Fin 16) (s : State) : Host.Outcome State Fault Refusal :=
  s.event (Dev.mpRun (.alu .srl rd ra rb))

/-- SRA (R426): SRA shifts Ga right arithmetically by Gb[4:0]. -/
def execSra (rd : Fin 16) (ra : Fin 16) (rb : Fin 16) (s : State) : Host.Outcome State Fault Refusal :=
  s.event (Dev.mpRun (.alu .sra rd ra rb))

/-- SLT (R426): SLT sets Gd to 1 when Ga is below Gb as signed values. -/
def execSlt (rd : Fin 16) (ra : Fin 16) (rb : Fin 16) (s : State) : Host.Outcome State Fault Refusal :=
  s.event (Dev.mpRun (.alu .slt rd ra rb))

/-- SLTU (R426): SLTU sets Gd to 1 when Ga is below Gb as unsigned values. -/
def execSltu (rd : Fin 16) (ra : Fin 16) (rb : Fin 16) (s : State) : Host.Outcome State Fault Refusal :=
  s.event (Dev.mpRun (.alu .sltu rd ra rb))

/-- MUL (R426): MUL sets Gd to the low 32 bits of the product. -/
def execMul (rd : Fin 16) (ra : Fin 16) (rb : Fin 16) (s : State) : Host.Outcome State Fault Refusal :=
  s.event (Dev.mpRun (.alu .mul rd ra rb))

/-- MULH (R426): MULH sets Gd to the signed high 32 bits of the product. -/
def execMulh (rd : Fin 16) (ra : Fin 16) (rb : Fin 16) (s : State) : Host.Outcome State Fault Refusal :=
  s.event (Dev.mpRun (.alu .mulh rd ra rb))

/-- DIV (R426): DIV performs signed division truncated toward zero, giving all ones for a divisor of 0. -/
def execDiv (rd : Fin 16) (ra : Fin 16) (rb : Fin 16) (s : State) : Host.Outcome State Fault Refusal :=
  s.event (Dev.mpRun (.alu .div rd ra rb))

/-- DIVU (R426): DIVU performs unsigned division, giving all ones for a divisor of 0. -/
def execDivu (rd : Fin 16) (ra : Fin 16) (rb : Fin 16) (s : State) : Host.Outcome State Fault Refusal :=
  s.event (Dev.mpRun (.alu .divu rd ra rb))

/-- JR (R426): JR jumps to Ga. -/
def execJr (ra : Fin 16) (s : State) : Host.Outcome State Fault Refusal :=
  s.event (Dev.mpRun (.jr ra))

/-- JRL (R426): JRL jumps to Ga with LK set to the return address. -/
def execJrl (ra : Fin 16) (s : State) : Host.Outcome State Fault Refusal :=
  s.event (Dev.mpRun (.jrl ra))

/-- RET (R426): RET jumps to LK. -/
def execRet (s : State) : Host.Outcome State Fault Refusal :=
  s.event (Dev.mpRun .ret)

/-- ADDI (R426): ADDI adds the sign-extended immediate. -/
def execAddi (rd : Fin 16) (ra : Fin 16) (imm : BitVec 18) (s : State) : Host.Outcome State Fault Refusal :=
  s.event (Dev.mpRun (.alui .addi rd ra imm))

/-- ANDI (R426): ANDI ands Ga with the zero-extended immediate. -/
def execAndi (rd : Fin 16) (ra : Fin 16) (imm : BitVec 18) (s : State) : Host.Outcome State Fault Refusal :=
  s.event (Dev.mpRun (.alui .andi rd ra imm))

/-- ORI (R426): ORI ors Ga with the zero-extended immediate. -/
def execOri (rd : Fin 16) (ra : Fin 16) (imm : BitVec 18) (s : State) : Host.Outcome State Fault Refusal :=
  s.event (Dev.mpRun (.alui .ori rd ra imm))

/-- XORI (R426): XORI xors Ga with the zero-extended immediate. -/
def execXori (rd : Fin 16) (ra : Fin 16) (imm : BitVec 18) (s : State) : Host.Outcome State Fault Refusal :=
  s.event (Dev.mpRun (.alui .xori rd ra imm))

/-- SLLI (R426): SLLI shifts Ga left by imm18[4:0]. -/
def execSlli (rd : Fin 16) (ra : Fin 16) (imm : BitVec 18) (s : State) : Host.Outcome State Fault Refusal :=
  s.event (Dev.mpRun (.alui .slli rd ra imm))

/-- SRLI (R426): SRLI shifts Ga right logically by imm18[4:0]. -/
def execSrli (rd : Fin 16) (ra : Fin 16) (imm : BitVec 18) (s : State) : Host.Outcome State Fault Refusal :=
  s.event (Dev.mpRun (.alui .srli rd ra imm))

/-- SRAI (R426): SRAI shifts Ga right arithmetically by imm18[4:0]. -/
def execSrai (rd : Fin 16) (ra : Fin 16) (imm : BitVec 18) (s : State) : Host.Outcome State Fault Refusal :=
  s.event (Dev.mpRun (.alui .srai rd ra imm))

/-- LUI (R426): LUI sets Gd to imm18 shifted left by 14. -/
def execLui (rd : Fin 16) (imm : BitVec 18) (s : State) : Host.Outcome State Fault Refusal :=
  s.event (Dev.mpRun (.lui rd imm))

/-- LDW (R426): LDW loads a word. -/
def execLdw (rd : Fin 16) (ra : Fin 16) (imm : BitVec 18) (s : State) : Host.Outcome State Fault Refusal :=
  s.event (Dev.mpRun (.load .word rd ra imm))

/-- LDH (R426): LDH loads a signed half word. -/
def execLdh (rd : Fin 16) (ra : Fin 16) (imm : BitVec 18) (s : State) : Host.Outcome State Fault Refusal :=
  s.event (Dev.mpRun (.load .half rd ra imm))

/-- LDHU (R426): LDHU loads an unsigned half word. -/
def execLdhu (rd : Fin 16) (ra : Fin 16) (imm : BitVec 18) (s : State) : Host.Outcome State Fault Refusal :=
  s.event (Dev.mpRun (.load .halfU rd ra imm))

/-- LDB (R426): LDB loads a signed byte. -/
def execLdb (rd : Fin 16) (ra : Fin 16) (imm : BitVec 18) (s : State) : Host.Outcome State Fault Refusal :=
  s.event (Dev.mpRun (.load .byte rd ra imm))

/-- LDBU (R426): LDBU loads an unsigned byte. -/
def execLdbu (rd : Fin 16) (ra : Fin 16) (imm : BitVec 18) (s : State) : Host.Outcome State Fault Refusal :=
  s.event (Dev.mpRun (.load .byteU rd ra imm))

/-- STW (R426): STW stores a word. -/
def execStw (rd : Fin 16) (ra : Fin 16) (imm : BitVec 18) (s : State) : Host.Outcome State Fault Refusal :=
  s.event (Dev.mpRun (.store .word rd ra imm))

/-- STH (R426): STH stores a half word. -/
def execSth (rd : Fin 16) (ra : Fin 16) (imm : BitVec 18) (s : State) : Host.Outcome State Fault Refusal :=
  s.event (Dev.mpRun (.store .half rd ra imm))

/-- STB (R426): STB stores a byte. -/
def execStb (rd : Fin 16) (ra : Fin 16) (imm : BitVec 18) (s : State) : Host.Outcome State Fault Refusal :=
  s.event (Dev.mpRun (.store .byte rd ra imm))

/-- RSV (R434): RSV loads an SRAM word and reserves its granule. -/
def execRsv (rd : Fin 16) (ra : Fin 16) (imm : BitVec 18) (s : State) : Host.Outcome State Fault Refusal :=
  s.event (Dev.mpRun (.rsv rd ra imm))

/-- CMT (R434): CMT stores Gd only while the reservation holds, and reports success or failure in Gd. -/
def execCmt (rd : Fin 16) (ra : Fin 16) (imm : BitVec 18) (s : State) : Host.Outcome State Fault Refusal :=
  s.event (Dev.mpRun (.cmt rd ra imm))

/-- SWP (R436): SWP exchanges Gd with a word, in SRAM directly or as a 4-byte ATOM swap on the network. -/
def execSwp (rd : Fin 16) (ra : Fin 16) (imm : BitVec 18) (s : State) : Host.Outcome State Fault Refusal :=
  s.event (Dev.mpRun (.swp rd ra imm))

/-- B (R426): B branches when its condition holds for Ga. -/
def execB (cond : Fin 7) (ra : Fin 16) (off : BitVec 18) (s : State) : Host.Outcome State Fault Refusal :=
  s.event (Dev.mpRun (.branch cond ra off))

/-- J (R426): J jumps by its offset. -/
def execJ (off : BitVec 26) (s : State) : Host.Outcome State Fault Refusal :=
  s.event (Dev.mpRun (.jump off))

/-- JL (R426): JL jumps by its offset with LK set to the return address. -/
def execJl (off : BitVec 26) (s : State) : Host.Outcome State Fault Refusal :=
  s.event (Dev.mpRun (.jumpLink off))

/-- MFC (R427): MFC reads an MP control register into Gd. -/
def execMfc (rd : Fin 16) (num : BitVec 12) (s : State) : Host.Outcome State Fault Refusal :=
  s.event (Dev.mpRun (.mfc rd num))

/-- MTC (R427): MTC writes Ga to an MP control register. -/
def execMtc (num : BitVec 12) (ra : Fin 16) (s : State) : Host.Outcome State Fault Refusal :=
  s.event (Dev.mpRun (.mtc num ra))

/-- MSET (R427): MSET ors Ga into an MP control register. -/
def execMset (num : BitVec 12) (ra : Fin 16) (s : State) : Host.Outcome State Fault Refusal :=
  s.event (Dev.mpRun (.mset num ra))

/-- MCLR (R427): MCLR clears the bits of Ga in an MP control register. -/
def execMclr (num : BitVec 12) (ra : Fin 16) (s : State) : Host.Outcome State Fault Refusal :=
  s.event (Dev.mpRun (.mclr num ra))

/-- FENCE (R433): The FENCE instruction waits for the core's earlier accesses and writes FENCE_CODE. -/
def execFence (s : State) : Host.Outcome State Fault Refusal :=
  s.event (Dev.mpRun .fence)

/-- BRK (R452): BRK halts the core when BRK_TAKE is 1, and otherwise raises the BRK exception. -/
def execBrk (s : State) : Host.Outcome State Fault Refusal :=
  s.event (Dev.mpRun .brk)

/-- WAIT (R429): WAIT stalls the core until an unmasked event or an NMI. -/
def execWait (s : State) : Host.Outcome State Fault Refusal :=
  s.event (Dev.mpRun .wait)

/-- RTE (R428): RTE returns to EPC, restores IE and clears EXC. -/
def execRte (s : State) : Host.Outcome State Fault Refusal :=
  s.event (Dev.mpRun .rte)

/-- MP_NETWORK_LOAD_DONE (R432): The response of a core network load arrives and the core resumes, or takes a
BUS exception. -/
def execMpNetworkLoadDone (s : State) : Host.Outcome State Fault Refusal :=
  s.event Dev.mpNetworkLoadDone

/-- PATCH_WRITE (R437): A patch-unit write substitutes a flash word for fetches or loads issued four cycles
later. -/
def execPatchWrite (who : Who) (unit : Fin 16) (reg : Fin 3) (value : Word) (s : State) :
    Host.Outcome State Fault Refusal :=
  s.order (Dev.csrWrite who (Reg.PATCH_ADDR unit.val + 4 * reg.val) value)

/-- ERASE (R438): ERASE starts erasing the flash page at FLASH_ADDR, or is refused. -/
def execErase (who : Who) (s : State) : Host.Outcome State Fault Refusal :=
  s.order (Dev.command who Reg.FLASH_CMD_ERASE)

/-- PROGRAM (R438): PROGRAM starts programming an erased doubleword with FLASH_DATA, or is refused. -/
def execProgram (who : Who) (s : State) : Host.Outcome State Fault Refusal :=
  s.order (Dev.command who Reg.FLASH_CMD_PROGRAM)

/-- FLASH_DONE (R438): A flash command completes, sets DONE and releases stalled fetches. -/
def execFlashDone (s : State) : Host.Outcome State Fault Refusal :=
  s.event Dev.flashDone

/-- UART_TXD (R446): A write of TXD appends a byte to the UART transmit FIFO, or is answered BUSY when it is
full. -/
def execUartTxd (who : Who) (uart : Fin 4) (data : Byte) (s : State) : Host.Outcome State Fault Refusal :=
  s.order (Dev.csrWrite who (Reg.UART_TXD uart.val) (data.setWidth 32))

/-- UART_RXD (R446): A read of RXD without NOSIDE pops the oldest received byte. -/
def execUartRxd (who : Who) (uart : Fin 4) (s : State) : Host.Outcome State Fault Refusal :=
  s.event (Dev.readAnswer who (Reg.UART_RXD uart.val))

/-- UART_RX_BYTE (R443): A byte received on a UART enters its FIFO, with framing, parity or overrun errors
flagged. -/
def execUartRxByte (uart : Fin 4) (data : Byte) (frameErr : Bool) (parityErr : Bool) (s : State) :
    Host.Outcome State Fault Refusal :=
  s.event (Dev.uartRxByte uart data frameErr parityErr)

/-- I2C_GO (R446): I2C GO starts one transfer of LEN bytes. -/
def execI2cGo (who : Who) (port : Fin 4) (s : State) : Host.Outcome State Fault Refusal :=
  s.order (Dev.command who (Reg.I2C_XFER_GO port.val))

/-- SPI_GO (R446): SPI GO starts one transfer of LEN bytes. -/
def execSpiGo (who : Who) (port : Fin 2) (s : State) : Host.Outcome State Fault Refusal :=
  s.order (Dev.command who (Reg.SPI_XFER_GO port.val))

/-- XSPI_GO (R444): XSPI GO starts an xSPI command, or is answered BUSY while the loader owns the controller. -/
def execXspiGo (who : Who) (s : State) : Host.Outcome State Fault Refusal :=
  s.order (Dev.command who Reg.XSPI_XFER_GO)

/-- MDIO_GO (R446): MDIO GO starts one Clause 22 or Clause 45 frame. -/
def execMdioGo (who : Who) (port : Fin 2) (s : State) : Host.Outcome State Fault Refusal :=
  s.order (Dev.command who (Reg.MDIO_XFER_GO port.val))

/-- SERIAL_TRANSFER_DONE (R446): A serial port transfer completes and sets its DONE and status bits. -/
def execSerialTransferDone (port : Serial) (rx : List Byte) (status : BitVec 4) (s : State) :
    Host.Outcome State Fault Refusal :=
  s.event (Dev.serialTransferDone port rx status)

end Sys2Proof.Machine
end

