-- ==== Sys2Proof/Machine/DebugRows.lean ====
section
/-! DEFINITION. Debug and the watchdog: the meanings of their command rows, each over the operations of the model. -/

namespace Sys2Proof.Machine

/-- TAP_RESET (R449): A TAP reset loads IDCODE into the instruction register. -/
def execTapReset (s : State) : Host.Outcome State Fault Refusal :=
  s.event Dev.tapReset

/-- EXTEST (R450): EXTEST at Update-IR holds the edge regions and hands the pins to the boundary register. -/
def execExtest (s : State) : Host.Outcome State Fault Refusal :=
  s.event Dev.extest

/-- SAMPLE_PRELOAD (R449): SAMPLE/PRELOAD selects the boundary register without taking the pins. -/
def execSamplePreload (preload : List (Nat × BitVec 2)) (s : State) : Host.Outcome State Fault Refusal :=
  s.event (Dev.samplePreload preload)

/-- IDCODE (R449): IDCODE selects the 32-bit identity register. -/
def execIdcode (s : State) : Host.Outcome State Fault Refusal :=
  s.event Dev.idcode

/-- HIGHZ (R450): HIGHZ holds the edge regions and makes every boundary output high-impedance. -/
def execHighz (s : State) : Host.Outcome State Fault Refusal :=
  s.event Dev.highz

/-- CLAMP (R450): CLAMP holds the edge regions and drives the outputs from the boundary register. -/
def execClamp (s : State) : Host.Outcome State Fault Refusal :=
  s.event Dev.clamp

/-- DBGACC (R451): DBGACC selects the 64-bit CSR access register, or acts as BYPASS when JTAG_DBG is clear. -/
def execDbgacc (s : State) : Host.Outcome State Fault Refusal :=
  s.event Dev.dbgacc

/-- BYPASS (R449): BYPASS selects the 1-bit bypass register. -/
def execBypass (s : State) : Host.Outcome State Fault Refusal :=
  s.event Dev.bypass

/-- TAP_LEAVE_BOUNDARY (R450): The TAP leaving EXTEST, HIGHZ or CLAMP starts a data-plane reset with cause
BOUNDARY. -/
def execTapLeaveBoundary (s : State) : Host.Outcome State Fault Refusal :=
  s.event Dev.tapLeaveBoundary

/-- DBGACC_ACCESS (R451): At Update-DR in DBGACC one CSR access starts, its result being captured in the next
pass. -/
def execDbgaccAccess (dr : BitVec 64) (s : State) : Host.Outcome State Fault Refusal :=
  s.event (Dev.dbgaccAccess dr)

/-- HALT (R452): HALT stops the core at an instruction boundary, after any waiting work, and freezes the
watchdog. -/
def execHalt (who : Who) (expiry : Bool) (s : State) : Host.Outcome State Fault Refusal :=
  s.order (Dev.haltCommand who expiry)

/-- HALT_ENTERED (R453): The halt takes effect once pending network loads, SWPs or flash stalls complete. -/
def execHaltEntered (s : State) : Host.Outcome State Fault Refusal :=
  s.event Dev.haltEntered

/-- RESUME (R455): RESUME clears HALTED, continues from PC and releases the watchdog with GRACE. -/
def execResume (who : Who) (s : State) : Host.Outcome State Fault Refusal :=
  s.order (Dev.command who Reg.DBG_CTL_RESUME)

/-- STEP (R455): STEP executes one instruction and halts again. -/
def execStep (who : Who) (s : State) : Host.Outcome State Fault Refusal :=
  s.order (Dev.command who Reg.DBG_CTL_STEP)

/-- DINSTR_GO (R455): DINSTR_GO executes the fed word once in both cores, or refuses it. -/
def execDinstrGo (who : Who) (s : State) : Host.Outcome State Fault Refusal :=
  s.order (Dev.command who Reg.DBG_CTL_DINSTR_GO)

/-- DBG_RESET (R456): DBG_RESET resets the MP with cause DEBUG. -/
def execDbgReset (who : Who) (s : State) : Host.Outcome State Fault Refusal :=
  s.order (Dev.command who Reg.DBG_CTL_DBG_RESET)

/-- DBM_GO (R457): The debug bus master issues one 4-byte network read or write at DBM_ADDR. -/
def execDbmGo (who : Who) (s : State) : Host.Outcome State Fault Refusal :=
  s.order (Dev.command who Reg.DBM_CTL_GO)

/-- DBM_RESPONSE (R457): The debug bus master's response records CODE, POISON and read data. -/
def execDbmResponse (s : State) : Host.Outcome State Fault Refusal :=
  s.event Dev.dbmResponse

/-- KICK (R458): KICK reloads REMAIN with TIMEOUT and returns STAGE to COUNTING. -/
def execKick (who : Who) (expiry : Bool) (s : State) : Host.Outcome State Fault Refusal :=
  s.order (Dev.kickCommand who expiry)

/-- WDT_CTL_WRITE (R458): A write of EN or LOCK enables or locks the watchdog, and is refused DENIED once
locked. -/
def execWdtCtlWrite (who : Who) (value : Word) (s : State) : Host.Outcome State Fault Refusal :=
  s.order (Dev.csrWrite who Reg.WDT_CTL value)

/-- BARK (R459): REMAIN reaching 0 while COUNTING raises the NMI and moves STAGE to BARKED. -/
def execBark (s : State) : Host.Outcome State Fault Refusal :=
  s.event Dev.bark

/-- BITE (R459): REMAIN reaching 0 while BARKED starts a management-plane reset. -/
def execBite (s : State) : Host.Outcome State Fault Refusal :=
  s.event Dev.bite

end Sys2Proof.Machine
end

