-- ==== Sys2Proof/Machine/PackRows.lean ====
section
/-! DEFINITION. Pack operation: the meanings of their command rows, each over the operations of the model. -/

namespace Sys2Proof.Machine

/-- HELLO_SEND (R465): Every HELLO_MS a member broadcasts its PACK_RECORD from each up port. -/
def execHelloSend (s : State) : Host.Outcome State Fault Refusal :=
  s.event Dev.helloSend

/-- PACK_ENABLE (R465): Enabling a member sends one DISCOVER to learn the pack. -/
def execPackEnable (who : Who) (s : State) : Host.Outcome State Fault Refusal :=
  s.order (Dev.command who Reg.PACK_CTL_EN)

/-- PACK_JOIN_TIMEOUT (R466): No lead dog heard within HELLO_MS × DEAD_MULT makes the member the lead dog of a
pack of one. -/
def execPackJoinTimeout (s : State) : Host.Outcome State Fault Refusal :=
  s.event Dev.packJoinTimeout

/-- MEMBER_UNREACHABLE (R465): A roster member whose last hello is older than HELLO_MS × DEAD_MULT becomes
unreachable. -/
def execMemberUnreachable (member : Fin 4096) (s : State) : Host.Outcome State Fault Refusal :=
  s.event (Dev.memberUnreachable member)

/-- PACK_STATE_JUDGE (R470): Each hello period the member judges its pack state, and entering SPLIT aborts its
barrier. -/
def execPackStateJudge (dupGone : Bool) (longGone : Bool) (s : State) : Host.Outcome State Fault Refusal :=
  s.event (Dev.packStateJudge dupGone longGone)

/-- PERSONA_DIGEST_RECOMPUTE (R468): Within 1 ms of edge E in a scoped region, the member recomputes
PERSONA_DIGEST. -/
def execPersonaDigestRecompute (s : State) : Host.Outcome State Fault Refusal :=
  s.event Dev.personaDigestRecompute

/-- SYNC_RECEIVED (R471): At each Sync the member steps or slews its pack time and judges TIME_SUSPECT. -/
def execSyncReceived (offset : Int) (s : State) : Host.Outcome State Fault Refusal :=
  s.event (Dev.syncReceived offset)

/-- SYNC_SEND (R471): Every 62.5 ms Sync and Delay_Req messages are sent. -/
def execSyncSend (s : State) : Host.Outcome State Fault Refusal :=
  s.event Dev.syncSend

/-- SYNC_TIMEOUT (R472): No Sync for HELLO_MS × DEAD_MULT sets TIME_SUSPECT. -/
def execSyncTimeout (s : State) : Host.Outcome State Fault Refusal :=
  s.event Dev.syncTimeout

/-- ARRIVAL_RESEND_EXPIRY (R474): An unanswered arrival is resent every 1 ms, or every HELLO_MS after being
answered until release. -/
def execArrivalResendExpiry (s : State) : Host.Outcome State Fault Refusal :=
  s.event Dev.arrivalResendExpiry

/-- ARRIVE (R475): The lead dog takes an arrival, opening or joining a barrier and completing it when the roll
is full. -/
def execArrive (req : WbReq) (s : State) : Host.Outcome State Fault Refusal :=
  s.event (Dev.wbArrival req)

/-- PACK_BARRIER_TIMEOUT (R475): TIMEOUT_US expiry completes the barrier, marks silent roll members ABSENT and
broadcasts RELEASE. -/
def execPackBarrierTimeout (bid : BitVec 32) (s : State) : Host.Outcome State Fault Refusal :=
  s.event (Dev.packBarrierTimeout bid)

/-- RELEASE_RESEND_EXPIRY (R475): The lead dog sends the second and third RELEASE copies at 1 ms intervals. -/
def execReleaseResendExpiry (bid : BitVec 32) (s : State) : Host.Outcome State Fault Refusal :=
  s.event (Dev.releaseResendExpiry bid)

/-- PACK_RELEASE_TIME (R477): A kind 0x3 barrier releases at the first slot boundary at or after RELEASE_TIME. -/
def execPackReleaseTime (s : State) : Host.Outcome State Fault Refusal :=
  s.event Dev.packReleaseTime

end Sys2Proof.Machine
end

