-- ==== Sys2Proof/Machine/LateRows.lean ====
section
/-! DEFINITION. Pins, edges and late answers: the meanings of their command rows, each over the operations of the model. -/

namespace Sys2Proof.Machine

/-- VAUX_FALL (R499): VAUX falling below 2.45 V asserts the power-on reset over every other event, leaving a
running fuse command programmed or blank, and puts every pin in its below-threshold state. -/
def execVauxFall (s : State) : Host.Outcome State Fault Refusal :=
  s.supply Dev.vauxFall

/-- ACTIVE_CLOCK_EDGE (R105): At an active edge of a fabric clock network, the flip-flops, inbound border
registers and I/O serializers and deserializers on that clock take their next values under R105 and R137,
and attachment beats pass. -/
def execActiveClockEdge (net : Net) (falling : Bool) (samples : List IoSample) (hazards : List Nat)
      (s : State) :
    Host.Outcome State Fault Refusal :=
  s.event (Dev.activeClockEdge net falling samples hazards)

/-- ASYNC_SET_RESET (R105): An asserted asynchronous set/reset loads SRVAL into its flip-flops at once, without
a clock edge, unless the region's hold is asserted. -/
def execAsyncSetReset (region : Region) (cluster : Fin 4096) (line : Fin 2) (s : State) :
    Host.Outcome State Fault Refusal :=
  s.event (Dev.asyncSetReset region cluster.val line.val)

/-- OP_DONE (R372): A staged context operation completes, typically within 2 µs, and records its code, reason
and index in CTX_OPRES with OP_DONE set. -/
def execOpDone (s : State) : Host.Outcome State Fault Refusal :=
  s.event (Dev.rooted Dev.opDone)

/-- CT_DONE (R302): A raw write or raw read of checker test mode completes among the unit's other accesses, sets
CT_DONE and fills CT_RDATA and CT_RCHECK for a read. -/
def execCtDone (s : State) : Host.Outcome State Fault Refusal :=
  s.event Dev.ctDone

/-- TGT_REQ (R443): An outside I²C controller addresses an I2C port enabled as target, and TGT_REQ is set. -/
def execTgtReq (port : Fin 4) (s : State) : Host.Outcome State Fault Refusal :=
  s.event (Dev.tgtReq port)

/-- ARRIVAL_ANSWER_RECEIVED (R474): The lead dog's answer to a member's barrier arrival reaches the member,
which slows its resends to HELLO_MS, or completes its barrier DENIED when the answer is DENIED. -/
def execArrivalAnswerReceived (code : Code) (s : State) : Host.Outcome State Fault Refusal :=
  s.event (Dev.arrivalAnswerReceived code)

/-- DISCOVER_ANSWER_RECEIVED (R465): An answer to the DISCOVER that a newly enabled member sent arrives, and the
member enters the answering device in its roster. -/
def execDiscoverAnswerReceived (mac : BitVec 48) (port : Fin 2) (seq : BitVec 32) (payload : List Byte)
      (s : State) :
    Host.Outcome State Fault Refusal :=
  s.event (Dev.discoverAnswerReceived mac port seq payload)

end Sys2Proof.Machine
end

