-- ==== Sys2Proof/Machine/Dispatch.lean ====
section
/-! DEFINITION. The effect of each command. -/

namespace Sys2Proof.Machine

def exec (i : Instr) (s : State) : Host.Outcome State Fault Refusal :=
  match i with
  | .vauxPowerOnReset vbat => Sys2Proof.Machine.execVauxPowerOnReset vbat s
  | .startupStep1End cfgsrc cfgpull us => Sys2Proof.Machine.execStartupStep1End cfgsrc cfgpull us s
  | .bootRomRun vendorA vendorB vendorX => Sys2Proof.Machine.execBootRomRun vendorA vendorB vendorX s
  | .recoveryImageReceived image vendor vendorX => Sys2Proof.Machine.execRecoveryImageReceived image vendor vendorX s
  | .advance who => Sys2Proof.Machine.execAdvance who s
  | .rstnLow ns => Sys2Proof.Machine.execRstnLow ns s
  | .rstnHigh => Sys2Proof.Machine.execRstnHigh s
  | .dpReset who => Sys2Proof.Machine.execDpReset who s
  | .warmReset who => Sys2Proof.Machine.execWarmReset who s
  | .initnSample boardLow => Sys2Proof.Machine.execInitnSample boardLow s
  | .donePinHigh => Sys2Proof.Machine.execDonePinHigh s
  | .railOutOfRange rail => Sys2Proof.Machine.execRailOutOfRange rail s
  | .railInRange rail => Sys2Proof.Machine.execRailInRange rail s
  | .dieTempUpdate readings => Sys2Proof.Machine.execDieTempUpdate readings s
  | .csrWrite who off words => Sys2Proof.Machine.execCsrWrite who off words s
  | .evtRead who off => Sys2Proof.Machine.execEvtRead who off s
  | .cntWrite who off value => Sys2Proof.Machine.execCntWrite who off value s
  | .parityMismatch off cls => Sys2Proof.Machine.execParityMismatch off cls s
  | .tmrVote off three => Sys2Proof.Machine.execTmrVote off three s
  | .unlockKey who key => Sys2Proof.Machine.execUnlockKey who key s
  | .unlockExpiry who => Sys2Proof.Machine.execUnlockExpiry who s
  | .snap who => Sys2Proof.Machine.execSnap who s
  | .snapshotCopy => Sys2Proof.Machine.execSnapshotCopy s
  | .portTrainingStart port => Sys2Proof.Machine.execPortTrainingStart port s
  | .portLinkUp port => Sys2Proof.Machine.execPortLinkUp port s
  | .portLinkDown port => Sys2Proof.Machine.execPortLinkDown port s
  | .portCtlWrite who port value => Sys2Proof.Machine.execPortCtlWrite who port value s
  | .portRxFrame port frame taken flips => Sys2Proof.Machine.execPortRxFrame port frame taken flips s
  | .portTxFrame port user => Sys2Proof.Machine.execPortTxFrame port user s
  | .read req => Sys2Proof.Machine.execRead req s
  | .write req => Sys2Proof.Machine.execWrite req s
  | .readBlock req => Sys2Proof.Machine.execReadBlock req s
  | .writeBlock req => Sys2Proof.Machine.execWriteBlock req s
  | .snapshot req => Sys2Proof.Machine.execSnapshot req s
  | .wbFence req => Sys2Proof.Machine.execWbFence req s
  | .wbFenceComplete => Sys2Proof.Machine.execWbFenceComplete s
  | .barrier req => Sys2Proof.Machine.execBarrier req s
  | .notifyReceived req => Sys2Proof.Machine.execNotifyReceived req s
  | .discover req => Sys2Proof.Machine.execDiscover req s
  | .discoverAnswerDue k => Sys2Proof.Machine.execDiscoverAnswerDue k s
  | .streamRequestReceived req => Sys2Proof.Machine.execStreamRequestReceived req s
  | .attest req => Sys2Proof.Machine.execAttest req s
  | .attestSigned => Sys2Proof.Machine.execAttestSigned s
  | .wbResponseReceived req => Sys2Proof.Machine.execWbResponseReceived req s
  | .notificationRaised index sub => Sys2Proof.Machine.execNotificationRaised index sub s
  | .notifyHoldExpiry index sub => Sys2Proof.Machine.execNotifyHoldExpiry index sub s
  | .notifyResendExpiry seq => Sys2Proof.Machine.execNotifyResendExpiry seq s
  | .userObjectForward req => Sys2Proof.Machine.execUserObjectForward req s
  | .firmwareObjectForward req => Sys2Proof.Machine.execFirmwareObjectForward req s
  | .persistentObjectStored => Sys2Proof.Machine.execPersistentObjectStored s
  | .reinit who region => Sys2Proof.Machine.execReinit who region s
  | .reinitPulse region => Sys2Proof.Machine.execReinitPulse region s
  | .trunkContention region trunk => Sys2Proof.Machine.execTrunkContention region trunk s
  | .trunkRestore region trunk => Sys2Proof.Machine.execTrunkRestore region trunk s
  | .borderForce who region force => Sys2Proof.Machine.execBorderForce who region force s
  | .ioSlip region cell => Sys2Proof.Machine.execIoSlip region cell s
  | .bmPortRequest region block edge a b => Sys2Proof.Machine.execBmPortRequest region block edge a b s
  | .bmRetainedExecute region block a => Sys2Proof.Machine.execBmRetainedExecute region block a s
  | .bmReadData region block portB => Sys2Proof.Machine.execBmReadData region block portB s
  | .bmFillDone region => Sys2Proof.Machine.execBmFillDone region s
  | .sliceOperandSet region slice ce operands => Sys2Proof.Machine.execSliceOperandSet region slice ce operands s
  | .sliceAccumulate region slice ce => Sys2Proof.Machine.execSliceAccumulate region slice ce s
  | .sliceStore region slice ce => Sys2Proof.Machine.execSliceStore region slice ce s
  | .switchBank region slice ce bsel => Sys2Proof.Machine.execSwitchBank region slice ce bsel s
  | .agAdv region slice ce => Sys2Proof.Machine.execAgAdv region slice ce s
  | .agWe region slice ce set reg data => Sys2Proof.Machine.execAgWe region slice ce set reg data s
  | .agApply region slice ce => Sys2Proof.Machine.execAgApply region slice ce s
  | .rootLock => Sys2Proof.Machine.execRootLock s
  | .rootLoss clockGood => Sys2Proof.Machine.execRootLoss clockGood s
  | .rootReturn => Sys2Proof.Machine.execRootReturn s
  | .levelSwitch => Sys2Proof.Machine.execLevelSwitch s
  | .apply who synth => Sys2Proof.Machine.execApply who synth s
  | .fsApplyMeasured synth present khz => Sys2Proof.Machine.execFsApplyMeasured synth present khz s
  | .fsLock synth => Sys2Proof.Machine.execFsLock synth s
  | .fsLol synth drift written => Sys2Proof.Machine.execFsLol synth drift written s
  | .fsInputReturn synth => Sys2Proof.Machine.execFsInputReturn synth s
  | .fsOutEnWrite who synth outputs => Sys2Proof.Machine.execFsOutEnWrite who synth outputs s
  | .gckSelWrite who buffer value => Sys2Proof.Machine.execGckSelWrite who buffer value s
  | .gckSwitchDone buffer => Sys2Proof.Machine.execGckSwitchDone buffer s
  | .ringCtlWrite who ring value => Sys2Proof.Machine.execRingCtlWrite who ring value s
  | .ringMeasure ring mhz => Sys2Proof.Machine.execRingMeasure ring mhz s
  | .load who region => Sys2Proof.Machine.execLoad who region s
  | .swap who region => Sys2Proof.Machine.execSwap who region s
  | .swapEdge region cd48 => Sys2Proof.Machine.execSwapEdge region cd48 s
  | .release region => Sys2Proof.Machine.execRelease region s
  | .abort who region => Sys2Proof.Machine.execAbort who region s
  | .discard who region => Sys2Proof.Machine.execDiscard who region s
  | .retire who region => Sys2Proof.Machine.execRetire who region s
  | .hload who => Sys2Proof.Machine.execHload who s
  | .habort who => Sys2Proof.Machine.execHabort who s
  | .segmentProcess stream => Sys2Proof.Machine.execSegmentProcess stream s
  | .sealCheck stream => Sys2Proof.Machine.execSealCheck stream s
  | .startupLoaderAttempt stream => Sys2Proof.Machine.execStartupLoaderAttempt stream s
  | .loaderAttemptFail => Sys2Proof.Machine.execLoaderAttemptFail s
  | .loaderBackoffExpiry => Sys2Proof.Machine.execLoaderBackoffExpiry s
  | .stream => Sys2Proof.Machine.execStream s
  | .streamResponse mac seq code more data => Sys2Proof.Machine.execStreamResponse mac seq code more data s
  | .streamResendExpiry seq => Sys2Proof.Machine.execStreamResendExpiry seq s
  | .bootLinkWaitExpiry => Sys2Proof.Machine.execBootLinkWaitExpiry s
  | .secKeyDataWrite who word value => Sys2Proof.Machine.execSecKeyDataWrite who word value s
  | .fuseKeyProgram who => Sys2Proof.Machine.execFuseKeyProgram who s
  | .bbramWrite who => Sys2Proof.Machine.execBbramWrite who s
  | .bbramZero who => Sys2Proof.Machine.execBbramZero who s
  | .slotProgram who slot => Sys2Proof.Machine.execSlotProgram who slot s
  | .slotRevoke who slot => Sys2Proof.Machine.execSlotRevoke who slot s
  | .secCmdDone => Sys2Proof.Machine.execSecCmdDone s
  | .scrubSlot upsets edge => Sys2Proof.Machine.execScrubSlot upsets edge s
  | .scrubReread upsets => Sys2Proof.Machine.execScrubReread upsets s
  | .scrubPassEnd => Sys2Proof.Machine.execScrubPassEnd s
  | .fullNow who => Sys2Proof.Machine.execFullNow who s
  | .goldenBuild => Sys2Proof.Machine.execGoldenBuild s
  | .goldenBuildDone => Sys2Proof.Machine.execGoldenBuildDone s
  | .bmScrubRead block flips => Sys2Proof.Machine.execBmScrubRead block flips s
  | .scrubStarved unit => Sys2Proof.Machine.execScrubStarved unit s
  | .dramScrubRead channel flips => Sys2Proof.Machine.execDramScrubRead channel flips s
  | .verifyRead flips => Sys2Proof.Machine.execVerifyRead flips s
  | .chRetire who channel => Sys2Proof.Machine.execChRetire who channel s
  | .intAttachmentEvent region => Sys2Proof.Machine.execIntAttachmentEvent region s
  | .start who => Sys2Proof.Machine.execStart who s
  | .marchAccess flips => Sys2Proof.Machine.execMarchAccess flips s
  | .marchDone => Sys2Proof.Machine.execMarchDone s
  | .marchAbort who => Sys2Proof.Machine.execMarchAbort who s
  | .writeRaw who => Sys2Proof.Machine.execWriteRaw who s
  | .readRaw who => Sys2Proof.Machine.execReadRaw who s
  | .logPop who => Sys2Proof.Machine.execLogPop who s
  | .niRequest ni packet taken last => Sys2Proof.Machine.execNiRequest ni packet taken last s
  | .gtSlotInject ni => Sys2Proof.Machine.execGtSlotInject ni s
  | .tokenRefill ni => Sys2Proof.Machine.execTokenRefill ni s
  | .waystationHop station input vc flips => Sys2Proof.Machine.execWaystationHop station input vc flips s
  | .rd ni answer => Sys2Proof.Machine.execRd ni answer s
  | .wr ni answer => Sys2Proof.Machine.execWr ni answer s
  | .wra ni answer => Sys2Proof.Machine.execWra ni answer s
  | .atom ni answer => Sys2Proof.Machine.execAtom ni answer s
  | .msg ni answer => Sys2Proof.Machine.execMsg ni answer s
  | .wake ni => Sys2Proof.Machine.execWake ni s
  | .fencePacket ni user => Sys2Proof.Machine.execFencePacket ni user s
  | .fencePacketComplete ni => Sys2Proof.Machine.execFencePacketComplete ni s
  | .rsp ni taken => Sys2Proof.Machine.execRsp ni taken s
  | .niTimeout ni tag => Sys2Proof.Machine.execNiTimeout ni tag s
  | .fenceGuardRequest ni => Sys2Proof.Machine.execFenceGuardRequest ni s
  | .epoch who => Sys2Proof.Machine.execEpoch who s
  | .epochTakesEffect => Sys2Proof.Machine.execEpochTakesEffect s
  | .gtQuietEnd => Sys2Proof.Machine.execGtQuietEnd s
  | .oldEpochDrained => Sys2Proof.Machine.execOldEpochDrained s
  | .oldRequestExpiry ni => Sys2Proof.Machine.execOldRequestExpiry ni s
  | .rbWrite who => Sys2Proof.Machine.execRbWrite who s
  | .rbRead who => Sys2Proof.Machine.execRbRead who s
  | .rbCopy who => Sys2Proof.Machine.execRbCopy who s
  | .stWrite who => Sys2Proof.Machine.execStWrite who s
  | .stRead who => Sys2Proof.Machine.execStRead who s
  | .dramReqEnqueue channel => Sys2Proof.Machine.execDramReqEnqueue channel s
  | .dramCommandIssue channel ready => Sys2Proof.Machine.execDramCommandIssue channel ready s
  | .dramResponse channel age => Sys2Proof.Machine.execDramResponse channel age s
  | .urgencyRise channel request => Sys2Proof.Machine.execUrgencyRise channel request s
  | .refreshDue channel => Sys2Proof.Machine.execRefreshDue channel s
  | .refreshForced channel => Sys2Proof.Machine.execRefreshForced channel s
  | .dramTempRead stack t0 t1 t2 t3 => Sys2Proof.Machine.execDramTempRead stack t0 t1 t2 t3 s
  | .delayMove channel => Sys2Proof.Machine.execDelayMove channel s
  | .bringup who channel => Sys2Proof.Machine.execBringup who channel s
  | .bringupDone channel mismatch => Sys2Proof.Machine.execBringupDone channel mismatch s
  | .lpRequest region request => Sys2Proof.Machine.execLpRequest region request s
  | .lookup engine => Sys2Proof.Machine.execLookup engine s
  | .add engine => Sys2Proof.Machine.execAdd engine s
  | .seq engine => Sys2Proof.Machine.execSeq engine s
  | .set engine => Sys2Proof.Machine.execSet engine s
  | .cas engine => Sys2Proof.Machine.execCas engine s
  | .ctxRefill => Sys2Proof.Machine.execCtxRefill s
  | .init who => Sys2Proof.Machine.execInit who s
  | .initDone => Sys2Proof.Machine.execInitDone s
  | .create who => Sys2Proof.Machine.execCreate who s
  | .delete who => Sys2Proof.Machine.execDelete who s
  | .rekey who => Sys2Proof.Machine.execRekey who s
  | .ctxRead who => Sys2Proof.Machine.execCtxRead who s
  | .commit who => Sys2Proof.Machine.execCommit who s
  | .commitTakesEffect => Sys2Proof.Machine.execCommitTakesEffect s
  | .cleanupDone => Sys2Proof.Machine.execCleanupDone s
  | .ctxDiscard who => Sys2Proof.Machine.execCtxDiscard who s
  | .sweep who => Sys2Proof.Machine.execSweep who s
  | .sweepDone => Sys2Proof.Machine.execSweepDone s
  | .ctxAbort who => Sys2Proof.Machine.execCtxAbort who s
  | .engRetire who mask => Sys2Proof.Machine.execEngRetire who mask s
  | .engineMismatch engine => Sys2Proof.Machine.execEngineMismatch engine s
  | .laneEnWrite who lane value => Sys2Proof.Machine.execLaneEnWrite who lane value s
  | .applyA who quad => Sys2Proof.Machine.execApplyA who quad s
  | .applyB who quad => Sys2Proof.Machine.execApplyB who quad s
  | .lanePllSettled lane => Sys2Proof.Machine.execLanePllSettled lane s
  | .laneSignalDetect lane => Sys2Proof.Machine.execLaneSignalDetect lane s
  | .los lane acq => Sys2Proof.Machine.execLos lane acq s
  | .eqfUpdate lane eyes => Sys2Proof.Machine.execEqfUpdate lane eyes s
  | .adaptStep lane tap up => Sys2Proof.Machine.execAdaptStep lane tap up s
  | .acqFail lane => Sys2Proof.Machine.execAcqFail lane s
  | .eqfLow lane => Sys2Proof.Machine.execEqfLow lane s
  | .freeze who lane on => Sys2Proof.Machine.execFreeze who lane on s
  | .restart who lane => Sys2Proof.Machine.execRestart who lane s
  | .laneRetire who lane => Sys2Proof.Machine.execLaneRetire who lane s
  | .codewordAlign lane errors kind => Sys2Proof.Machine.execCodewordAlign lane errors kind s
  | .laneRxWord lane word taken errors flips => Sys2Proof.Machine.execLaneRxWord lane word taken errors flips s
  | .laneTxWord lane offered flips => Sys2Proof.Machine.execLaneTxWord lane offered flips s
  | .slip who lane => Sys2Proof.Machine.execSlip who lane s
  | .slipDone lane => Sys2Proof.Machine.execSlipDone lane s
  | .patCtlWrite who lane value => Sys2Proof.Machine.execPatCtlWrite who lane value s
  | .chkLock lane => Sys2Proof.Machine.execChkLock lane s
  | .go who lane => Sys2Proof.Machine.execGo who lane s
  | .injectionDone lane => Sys2Proof.Machine.execInjectionDone lane s
  | .domGo who domain target fires swap => Sys2Proof.Machine.execDomGo who domain target fires swap s
  | .drainComplete domain => Sys2Proof.Machine.execDrainComplete domain s
  | .domainStateReached domain => Sys2Proof.Machine.execDomainStateReached domain s
  | .drainTimeout domain => Sys2Proof.Machine.execDrainTimeout domain s
  | .domainWake domain => Sys2Proof.Machine.execDomainWake domain s
  | .domainWakeDone domain => Sys2Proof.Machine.execDomainWakeDone domain s
  | .wakeTimer domain => Sys2Proof.Machine.execWakeTimer domain s
  | .wakeSignal domain => Sys2Proof.Machine.execWakeSignal domain s
  | .levelReq who level => Sys2Proof.Machine.execLevelReq who level s
  | .avsWrite good => Sys2Proof.Machine.execAvsWrite good s
  | .avsStatusRead vdone => Sys2Proof.Machine.execAvsStatusRead vdone s
  | .avsFault => Sys2Proof.Machine.execAvsFault s
  | .vintUpdate margin => Sys2Proof.Machine.execVintUpdate margin s
  | .vtierWrite who tier => Sys2Proof.Machine.execVtierWrite who tier s
  | .governorDecision utilization full => Sys2Proof.Machine.execGovernorDecision utilization full s
  | .lockstepMismatch => Sys2Proof.Machine.execLockstepMismatch s
  | .softReset who => Sys2Proof.Machine.execSoftReset who s
  | .exceptionEntry cause code addr => Sys2Proof.Machine.execExceptionEntry cause code addr s
  | .timerCmpMatch => Sys2Proof.Machine.execTimerCmpMatch s
  | .addInsn rd ra rb => Sys2Proof.Machine.execAddInsn rd ra rb s
  | .sub rd ra rb => Sys2Proof.Machine.execSub rd ra rb s
  | .and rd ra rb => Sys2Proof.Machine.execAnd rd ra rb s
  | .or rd ra rb => Sys2Proof.Machine.execOr rd ra rb s
  | .xor rd ra rb => Sys2Proof.Machine.execXor rd ra rb s
  | .sll rd ra rb => Sys2Proof.Machine.execSll rd ra rb s
  | .srl rd ra rb => Sys2Proof.Machine.execSrl rd ra rb s
  | .sra rd ra rb => Sys2Proof.Machine.execSra rd ra rb s
  | .slt rd ra rb => Sys2Proof.Machine.execSlt rd ra rb s
  | .sltu rd ra rb => Sys2Proof.Machine.execSltu rd ra rb s
  | .mul rd ra rb => Sys2Proof.Machine.execMul rd ra rb s
  | .mulh rd ra rb => Sys2Proof.Machine.execMulh rd ra rb s
  | .div rd ra rb => Sys2Proof.Machine.execDiv rd ra rb s
  | .divu rd ra rb => Sys2Proof.Machine.execDivu rd ra rb s
  | .jr ra => Sys2Proof.Machine.execJr ra s
  | .jrl ra => Sys2Proof.Machine.execJrl ra s
  | .ret => Sys2Proof.Machine.execRet s
  | .addi rd ra imm => Sys2Proof.Machine.execAddi rd ra imm s
  | .andi rd ra imm => Sys2Proof.Machine.execAndi rd ra imm s
  | .ori rd ra imm => Sys2Proof.Machine.execOri rd ra imm s
  | .xori rd ra imm => Sys2Proof.Machine.execXori rd ra imm s
  | .slli rd ra imm => Sys2Proof.Machine.execSlli rd ra imm s
  | .srli rd ra imm => Sys2Proof.Machine.execSrli rd ra imm s
  | .srai rd ra imm => Sys2Proof.Machine.execSrai rd ra imm s
  | .lui rd imm => Sys2Proof.Machine.execLui rd imm s
  | .ldw rd ra imm => Sys2Proof.Machine.execLdw rd ra imm s
  | .ldh rd ra imm => Sys2Proof.Machine.execLdh rd ra imm s
  | .ldhu rd ra imm => Sys2Proof.Machine.execLdhu rd ra imm s
  | .ldb rd ra imm => Sys2Proof.Machine.execLdb rd ra imm s
  | .ldbu rd ra imm => Sys2Proof.Machine.execLdbu rd ra imm s
  | .stw rd ra imm => Sys2Proof.Machine.execStw rd ra imm s
  | .sth rd ra imm => Sys2Proof.Machine.execSth rd ra imm s
  | .stb rd ra imm => Sys2Proof.Machine.execStb rd ra imm s
  | .rsv rd ra imm => Sys2Proof.Machine.execRsv rd ra imm s
  | .cmt rd ra imm => Sys2Proof.Machine.execCmt rd ra imm s
  | .swp rd ra imm => Sys2Proof.Machine.execSwp rd ra imm s
  | .b cond ra off => Sys2Proof.Machine.execB cond ra off s
  | .j off => Sys2Proof.Machine.execJ off s
  | .jl off => Sys2Proof.Machine.execJl off s
  | .mfc rd num => Sys2Proof.Machine.execMfc rd num s
  | .mtc num ra => Sys2Proof.Machine.execMtc num ra s
  | .mset num ra => Sys2Proof.Machine.execMset num ra s
  | .mclr num ra => Sys2Proof.Machine.execMclr num ra s
  | .fence => Sys2Proof.Machine.execFence s
  | .brk => Sys2Proof.Machine.execBrk s
  | .wait => Sys2Proof.Machine.execWait s
  | .rte => Sys2Proof.Machine.execRte s
  | .mpNetworkLoadDone => Sys2Proof.Machine.execMpNetworkLoadDone s
  | .patchWrite who unit reg value => Sys2Proof.Machine.execPatchWrite who unit reg value s
  | .erase who => Sys2Proof.Machine.execErase who s
  | .program who => Sys2Proof.Machine.execProgram who s
  | .flashDone => Sys2Proof.Machine.execFlashDone s
  | .uartTxd who uart data => Sys2Proof.Machine.execUartTxd who uart data s
  | .uartRxd who uart => Sys2Proof.Machine.execUartRxd who uart s
  | .uartRxByte uart data frameErr parityErr => Sys2Proof.Machine.execUartRxByte uart data frameErr parityErr s
  | .i2cGo who port => Sys2Proof.Machine.execI2cGo who port s
  | .spiGo who port => Sys2Proof.Machine.execSpiGo who port s
  | .xspiGo who => Sys2Proof.Machine.execXspiGo who s
  | .mdioGo who port => Sys2Proof.Machine.execMdioGo who port s
  | .serialTransferDone port rx status => Sys2Proof.Machine.execSerialTransferDone port rx status s
  | .tapReset => Sys2Proof.Machine.execTapReset s
  | .extest => Sys2Proof.Machine.execExtest s
  | .samplePreload preload => Sys2Proof.Machine.execSamplePreload preload s
  | .idcode => Sys2Proof.Machine.execIdcode s
  | .highz => Sys2Proof.Machine.execHighz s
  | .clamp => Sys2Proof.Machine.execClamp s
  | .dbgacc => Sys2Proof.Machine.execDbgacc s
  | .bypass => Sys2Proof.Machine.execBypass s
  | .tapLeaveBoundary => Sys2Proof.Machine.execTapLeaveBoundary s
  | .dbgaccAccess dr => Sys2Proof.Machine.execDbgaccAccess dr s
  | .halt who expiry => Sys2Proof.Machine.execHalt who expiry s
  | .haltEntered => Sys2Proof.Machine.execHaltEntered s
  | .resume who => Sys2Proof.Machine.execResume who s
  | .step who => Sys2Proof.Machine.execStep who s
  | .dinstrGo who => Sys2Proof.Machine.execDinstrGo who s
  | .dbgReset who => Sys2Proof.Machine.execDbgReset who s
  | .dbmGo who => Sys2Proof.Machine.execDbmGo who s
  | .dbmResponse => Sys2Proof.Machine.execDbmResponse s
  | .kick who expiry => Sys2Proof.Machine.execKick who expiry s
  | .wdtCtlWrite who value => Sys2Proof.Machine.execWdtCtlWrite who value s
  | .bark => Sys2Proof.Machine.execBark s
  | .bite => Sys2Proof.Machine.execBite s
  | .helloSend => Sys2Proof.Machine.execHelloSend s
  | .packEnable who => Sys2Proof.Machine.execPackEnable who s
  | .packJoinTimeout => Sys2Proof.Machine.execPackJoinTimeout s
  | .memberUnreachable member => Sys2Proof.Machine.execMemberUnreachable member s
  | .packStateJudge dupGone longGone => Sys2Proof.Machine.execPackStateJudge dupGone longGone s
  | .personaDigestRecompute => Sys2Proof.Machine.execPersonaDigestRecompute s
  | .syncReceived offset => Sys2Proof.Machine.execSyncReceived offset s
  | .syncSend => Sys2Proof.Machine.execSyncSend s
  | .syncTimeout => Sys2Proof.Machine.execSyncTimeout s
  | .arrivalResendExpiry => Sys2Proof.Machine.execArrivalResendExpiry s
  | .arrive req => Sys2Proof.Machine.execArrive req s
  | .packBarrierTimeout bid => Sys2Proof.Machine.execPackBarrierTimeout bid s
  | .releaseResendExpiry bid => Sys2Proof.Machine.execReleaseResendExpiry bid s
  | .packReleaseTime => Sys2Proof.Machine.execPackReleaseTime s
  | .vauxFall => Sys2Proof.Machine.execVauxFall s
  | .activeClockEdge net falling samples hazards => Sys2Proof.Machine.execActiveClockEdge net falling samples hazards s
  | .asyncSetReset region cluster line => Sys2Proof.Machine.execAsyncSetReset region cluster line s
  | .opDone => Sys2Proof.Machine.execOpDone s
  | .ctDone => Sys2Proof.Machine.execCtDone s
  | .tgtReq port => Sys2Proof.Machine.execTgtReq port s
  | .arrivalAnswerReceived code => Sys2Proof.Machine.execArrivalAnswerReceived code s
  | .discoverAnswerReceived mac port seq payload => Sys2Proof.Machine.execDiscoverAnswerReceived mac port seq payload s

end Sys2Proof.Machine
end

