-- ==== Sys2Proof/Safety.lean ====
section
/-! DEFINITION. What counts as a safe state: the stores that hold the device's addressed memories and its register
file keep their one canonical form, so that equal contents are equal data. -/

namespace Sys2Proof.Machine

/-- The register file, the flash, the fabric's storage bits and the stored bytes are in canonical form. -/
def Dev.canonical (d : Dev) : Bool :=
  SMap.wf resetWord d.csr && SMap.wf (fun _ => 0xFF) d.flash && SMap.wf (fun _ => 0) d.frames
    && SMap.wf (fun _ => false) d.ff && SMap.wf cellDflt d.cells

/-- The state is canonical. -/
def State.canonical (s : State) : Bool := s.dev.canonical

/-- Nothing waits for the end of a command: no port restarts, no warm reset is due, no access has met a channel's closed
guard, and the processor has neither a non-maskable event to take nor a WAIT that might end (`Dev.settle`). -/
def Dev.calm (d : Dev) : Bool :=
  d.port0.pendingCtl.isNone && d.port1.pendingCtl.isNone && d.start.warmDue.isNone && !d.mp.nmi
    && d.mp.stall != some .wait && d.ch.all (fun e => !e.2.accessed)

/-- No port restart (R46) and no warm reset (R486) waits for the end of a command. -/
def Dev.settled (d : Dev) : Bool :=
  d.port0.pendingCtl.isNone && d.port1.pendingCtl.isNone && d.start.warmDue.isNone

/-- The device runs commands: VAUX is present and no rail is out of its range (R499). -/
def State.live (s : State) : Bool := s.dev.start.vauxOn && !s.railOut

/-- The device runs commands and has nothing to settle. -/
def State.ready (s : State) : Bool := s.live && s.dev.calm

/-- Command `i` runs to a next state whose queue is that of `s` and whose device is as `P` says. -/
def State.does (i : Instr) (s : State) (P : Dev → Prop) : Prop :=
  ∃ t : State, exec i s = .next t ∧ t.pending = s.pending ∧ P t.dev

/-- A write of `x` by `who` to the register at `off` is taken: no code that ranks before the unlock check applies
(R44), its unlock is armed if it changes a guarded field (R76 to R83), the register is not busy, and the values of
its CTL fields are in range (R518). -/
def Dev.takesWrite (who : Who) (off : Nat) (x : Word) (d : Dev) : Bool :=
  (d.csrRefusal who off x).isNone && (who == .config || !d.csrGuarded off x || d.armed who)
    && !d.csrBusy off x && d.csrInRange off x

/-- The bits of the CMD fields that a write of `x` to the register at `off` sets (R81). -/
def cmdBits (off : Nat) (x : Word) : List Nat := (presented 0 off x).map (fun c => c.lsb)

/-- A write of `x` to the register of command field `f` is taken and presents that command alone. -/
def Dev.takesCmd (who : Who) (f : Fld) (x : Word) (d : Dev) : Bool :=
  d.takesWrite who f.off x && cmdBits f.off x == [f.lsb]

/-- A write of 1 to command field `f` and to no other command of its register, the register's CTL fields keeping
their values, is taken. -/
def Dev.takes (who : Who) (f : Fld) (d : Dev) : Bool := d.takesCmd who f (withField (d.word f.off) f.lsb f.w 1)

/-- A write of `v` to field `f`, the register's other CTL fields keeping their values, is taken, and presents no
command. -/
def Dev.takesField (who : Who) (f : Fld) (v : Nat) (d : Dev) : Bool :=
  let x := withField (d.word f.off) f.lsb f.w v
  d.takesWrite who f.off x && cmdBits f.off x == []

/-- What a write that is taken does before its command acts: it consumes the unlock it needs (R77), its CTL fields
take their values (R81), what a block in its safe state goes on using is kept (R90, R207, R398), and a parity fault of
the register ends (R90). -/
def Dev.written (who : Who) (off : Nat) (x : Word) (d : Dev) : Dev :=
  let d1 := (if who != .config && d.csrGuarded off x then d.disarm who else d).keepWord off
  (match regAt off with
   | some r => d1.plainWrite r off x
   | none => d1).parityClear off

/-- The same for a write of 1 to command field `f`. -/
def Dev.writtenCmd (who : Who) (f : Fld) (d : Dev) : Dev := d.written who f.off (withField (d.word f.off) f.lsb f.w 1)

/-- The same for a write of `v` to field `f`. -/
def Dev.writtenField (who : Who) (f : Fld) (v : Nat) (d : Dev) : Dev :=
  d.written who f.off (withField (d.word f.off) f.lsb f.w v)

/-- The core executes the instruction at its PC (R421, R428, R438): it is at an instruction boundary, it neither steps
nor takes a fed instruction, no EVENT is due, and the PC is aligned and lies where a word can be fetched. -/
def Dev.mpGo (d : Dev) : Bool :=
  d.mpAtBoundary && !d.eventDue && !d.mp.fed && !d.mp.stepping && d.mp.pc.toNat % 4 == 0
    && (match d.mpPlace d.mp.pc with
        | .none => false
        | .flash _ => !d.flashBusy
        | _ => true)

/-- The core goes on at `pc`. -/
def Dev.mpAt (pc : Word) (d : Dev) : Dev := d.setMp { d.mp with pc := pc }

/-- Every register but those at `offs` reads as before. -/
def Dev.regsBut (offs : List Nat) (d d' : Dev) : Prop := ∀ o, o ∉ offs → d'.word o = d.word o

/-- Every register but those at `offs` holds its reset value. -/
def Dev.regsReset (offs : List Nat) (d : Dev) : Prop := ∀ o, o ∉ offs → d.word o = resetWord o

/-- Nothing but registers has changed, and what every register write may touch: the writer's unlock, the parity
faults and what they keep, the change counters, the status of command objects, and the answer. -/
def Dev.restSame (d d' : Dev) : Prop :=
  { d' with
    csr := d.csr, unlocks := d.unlocks, parityFailed := d.parityFailed, kept := d.kept, changes := d.changes, cmds := d.cmds
    answer := d.answer } = d

/-- Command `i` runs to the next state that has device `d` and the queue of `s`. -/
def State.goes (i : Instr) (s : State) (d : Dev) : Prop := exec i s = .next { s with dev := d }

/-- Command `i` runs to a next state: its effect is `f`, after which the device settles (`Dev.settle`), and the device
that `f` makes is as `P` says. -/
def State.runs (i : Instr) (s : State) (f : Dev → Dev) (P : Dev → Prop) : Prop :=
  exec i s = .next (s.run f) ∧ P (f s.dev)

end Sys2Proof.Machine
end

