-- ==== Sys2Proof/Certificates/Slice0/Obligations.lean ====
section
/-! DEFINITION. The statements for the provers. -/

open Sys2Proof Sys2Proof.Machine
open Sys2Proof.Machine.Dev (userIndex pauseTimes condOf objKey aliasesWritten niNextTag localRefusal frameReq ioCells regionDom lqWsel lqKey lqTouch lqArg)

/-- A VAUX power-on reset leaves start-up at step 1, every register at its reset value but the fuse, key and rail
status registers that R245 and R498 keep, the flash as it was and every volatile store empty, whatever the
device was doing; VAUX falling does the same with VAUX absent; RSTN low for 1 µs or longer runs the warm reset,
whose last words leave step 1, cause 1 and MGMT_RESET set; RSTN low for less than 100 ns changes nothing; RSTN
high only releases the input. -/
def Obligations.PowerOnReset : Prop :=
  -- R486: VAUX rises past its threshold.
  (∀ (s : State) (vbat : Bool),
      s.does (.vauxPowerOnReset vbat) (fun d =>
        d.get Reg.START_STS_STEP = 1 ∧ d.start.vauxOn = true ∧
        d.regsReset [Reg.DBG_FUSE, Reg.RAIL_STS, Reg.SEC_KEY_STS, Reg.START_STS, Reg.SEC_EVT] ∧
        d.flash = s.dev.flash ∧ d.frames = [] ∧ d.cells = [] ∧ d.ff = [] ∧ d.mp = {} ∧ d.wb = {} ∧
        d.load = none ∧ d.unlocks = [])) ∧
  -- R499: VAUX falls.
  (∀ (s : State),
      s.does .vauxFall (fun d =>
        d.get Reg.START_STS_STEP = 1 ∧ d.start.vauxOn = false ∧
        d.regsReset [Reg.DBG_FUSE, Reg.RAIL_STS, Reg.SEC_KEY_STS, Reg.START_STS, Reg.SEC_EVT] ∧
        d.flash = s.dev.flash ∧ d.frames = [] ∧ d.cells = [] ∧ d.ff = [] ∧ d.mp = {} ∧ d.wb = {} ∧
        d.load = none ∧ d.unlocks = [])) ∧
  -- R482: a low level shorter than 100 ns is ignored.
  (∀ (s : State) (ns : Nat),
      s.ready = true →
      ns < 100 →
      s.goes (.rstnLow ns) s.dev) ∧
  -- R482: from 1 µs on it starts a warm reset; step 1 it only holds (R490).
  (∀ (s : State) (ns : Nat),
      s.ready = true →
      1000 ≤ ns →
      s.dev.get Reg.START_STS_STEP = 1 →
      s.goes (.rstnLow ns) { s.dev with start := { s.dev.start with rstnLow := true } }) ∧
  -- R482, R486: the warm reset, cause 1.
  (∀ (s : State) (ns : Nat),
      1000 ≤ ns →
      s.dev.get Reg.START_STS_STEP ≠ 1 →
      s.runs (.rstnLow ns) (Dev.rstnLow ns) (fun d =>
        d.get Reg.START_STS_STEP = 1 ∧ d.get Reg.RST_CAUSE_CAUSE = 1 ∧ d.on Reg.RST_EVT_MGMT_RESET = true)) ∧
  -- R482: RSTN rises.
  (∀ (s : State),
      s.ready = true →
      s.goes .rstnHigh { s.dev with start := { s.dev.start with rstnLow := false } })

/-- Step 1 ends once VAUX has been above its threshold for 2 ms with every rail in range and RSTN high, sampling the
straps, ending self-refresh and releasing the processor; the boot ROM jumps to the newer valid primary image, or
to the recovery image, or waits in RECOVERY; ADVANCE ends steps 3, 4 and 5; the loader samples INITN before an
attempt; DONE reading high is shown and, with DONE_WAIT, starts the release. -/
def Obligations.StartupSteps : Prop :=
  -- R481: step 1 ends. SRC_EN follows CFGSRC.
  (∀ (s : State) (cfgsrc : BitVec 3) (cfgpull : Bool) (us : Nat),
      s.live = true →
      s.dev.get Reg.START_STS_STEP = 1 →
      2000 ≤ us →
      s.dev.on Reg.START_STS_RAILS_OK = true →
      s.dev.start.rstnLow = false →
      s.runs (.startupStep1End cfgsrc cfgpull us) (Dev.startupStep1End cfgsrc cfgpull us) (fun d =>
        d.get Reg.START_STS_STEP = 2 ∧ d.get Reg.START_STS_CFGSRC = cfgsrc.toNat ∧
        d.on Reg.START_STS_CFGPULL = cfgpull ∧
        d.get Reg.CFG_CTL_SRC_EN = (if cfgsrc.toNat.testBit 2 then 7 else 15) ∧ d.on Reg.MP_EVT_MP_RESET = true)) ∧
  -- R442: slot A holds a valid image no older than that of slot B, or slot B none.
  (∀ (s : State) (va vb vx : Bool),
      s.live = true →
      s.dev.inBootRom = true →
      s.dev.flashBusy = false →
      s.dev.on Reg.MP_STS_RECOVERY = false →
      s.dev.fwAccepts (s.dev.flashImage 0 Dev.primaryMax) 1 Dev.primaryMax va = true →
      s.dev.fwAccepts (s.dev.flashImage 0xC0000 Dev.primaryMax) 1 Dev.primaryMax vb = false ∨ leAt (s.dev.flashImage 0xC0000 Dev.primaryMax) 16 4 ≤ leAt (s.dev.flashImage 0 Dev.primaryMax) 16 4 →
      s.runs (.bootRomRun va vb vx) (Dev.bootRomRun va vb vx) (fun d =>
        d.on Reg.MP_STS_RUNNING = true ∧ d.on Reg.MP_STS_RECOVERY = false ∧ d.on Reg.MP_STS_SLOT = false ∧ d.mp.slot = some 0 ∧
        d.mp.pc = BitVec.ofNat 32 (0x10000200 + leAt (s.dev.flashImage 0 Dev.primaryMax) 28 4) ∧
        d.get Reg.START_STS_STEP = (if s.dev.get Reg.START_STS_STEP = 2 then 3 else s.dev.get Reg.START_STS_STEP))) ∧
  -- R442: slot B holds the newer valid image, or the only one.
  (∀ (s : State) (va vb vx : Bool),
      s.live = true →
      s.dev.inBootRom = true →
      s.dev.flashBusy = false →
      s.dev.on Reg.MP_STS_RECOVERY = false →
      s.dev.fwAccepts (s.dev.flashImage 0xC0000 Dev.primaryMax) 1 Dev.primaryMax vb = true →
      s.dev.fwAccepts (s.dev.flashImage 0 Dev.primaryMax) 1 Dev.primaryMax va = false ∨ leAt (s.dev.flashImage 0 Dev.primaryMax) 16 4 < leAt (s.dev.flashImage 0xC0000 Dev.primaryMax) 16 4 →
      s.runs (.bootRomRun va vb vx) (Dev.bootRomRun va vb vx) (fun d =>
        d.on Reg.MP_STS_RUNNING = true ∧ d.on Reg.MP_STS_RECOVERY = false ∧ d.on Reg.MP_STS_SLOT = true ∧ d.mp.slot = some 1 ∧
        d.mp.pc = BitVec.ofNat 32 (0x100C0200 + leAt (s.dev.flashImage 0xC0000 Dev.primaryMax) 28 4) ∧
        d.get Reg.START_STS_STEP = (if s.dev.get Reg.START_STS_STEP = 2 then 3 else s.dev.get Reg.START_STS_STEP))) ∧
  -- R442: neither slot holds a valid image.
  (∀ (s : State) (va vb vx : Bool),
      s.ready = true →
      s.dev.inBootRom = true →
      s.dev.flashBusy = false →
      s.dev.on Reg.MP_STS_RECOVERY = false →
      s.dev.fwAccepts (s.dev.flashImage 0 Dev.primaryMax) 1 Dev.primaryMax va = false →
      s.dev.fwAccepts (s.dev.flashImage 0xC0000 Dev.primaryMax) 1 Dev.primaryMax vb = false →
      s.goes (.bootRomRun va vb vx) ((s.dev.romWork.raise Reg.MP_EVT_FW_REJECTED).raise Reg.MP_STS_RECOVERY)) ∧
  -- R442: the recovery image is valid.
  (∀ (s : State) (image : List Byte) (v vx : Bool),
      s.live = true →
      s.dev.inBootRom = true →
      s.dev.on Reg.MP_STS_RECOVERY = true →
      (s.dev.romWork.storeBytes (.hs 0) 0x10000 ((image.drop 512).take (min (leAt image 24 4) 393216))).fwAccepts image 1 393216 v = true →
      s.runs (.recoveryImageReceived image v vx) (Dev.recoveryImageReceived image v vx) (fun d =>
        d.on Reg.MP_STS_RUNNING = true ∧ d.on Reg.MP_STS_RECOVERY = false ∧ d.mp.slot = none ∧
        d.mp.pc = BitVec.ofNat 32 (0x20010000 + leAt image 28 4))) ∧
  -- R442: it is not, and the ROM waits for the next.
  (∀ (s : State) (image : List Byte) (v vx : Bool),
      s.live = true →
      s.dev.inBootRom = true →
      s.dev.on Reg.MP_STS_RECOVERY = true →
      (s.dev.romWork.storeBytes (.hs 0) 0x10000 ((image.drop 512).take (min (leAt image 24 4) 393216))).fwAccepts image 1 393216 v = false →
      s.runs (.recoveryImageReceived image v vx) (Dev.recoveryImageReceived image v vx) (fun d =>
        d = s.dev.romWork.storeBytes (.hs 0) 0x10000 ((image.drop 512).take (min (leAt image 24 4) 393216)))) ∧
  -- R481: ADVANCE ends step 3 once the root is locked.
  (∀ (s : State) (who : Who),
      s.ready = true →
      s.dev.takes who Reg.RST_CTL_ADVANCE = true →
      s.dev.get Reg.START_STS_STEP = 3 →
      s.dev.on Reg.CLK_STS_ROOT_LOCK = true →
      s.goes (.advance who) ((((((s.dev.writtenCmd who Reg.RST_CTL_ADVANCE).cmdStart 0x1300 3).cmdDone 0x1300 3 .ok).set
        Reg.START_STS_STEP 4).touch 0x1300).reply .ok)) ∧
  -- R481, R300: ADVANCE ends step 4, and the start-up march follows.
  (∀ (s : State) (who : Who),
      s.ready = true →
      s.dev.takes who Reg.RST_CTL_ADVANCE = true →
      s.dev.get Reg.START_STS_STEP = 4 →
      s.goes (.advance who) ((((((s.dev.writtenCmd who Reg.RST_CTL_ADVANCE).cmdStart 0x1300 3).cmdDone 0x1300 3 .ok).set
        Reg.START_STS_STEP 5).marchStartup.touch 0x1300).reply .ok)) ∧
  -- R481, R484, R254: ADVANCE ends step 5, and the loader starts.
  (∀ (s : State) (who : Who),
      s.ready = true →
      s.dev.takes who Reg.RST_CTL_ADVANCE = true →
      s.dev.get Reg.START_STS_STEP = 5 →
      s.does (.advance who) (fun d => d.answer.code = .ok ∧ d.get Reg.START_STS_STEP = 6 ∧ d.boot.running = true ∧ d.boot.due = true ∧
        d.start.initnDriven = false ∧ d.get Reg.CFG_BOOT_ATTEMPTS_ATTEMPTS = 0 ∧
        s.dev.regsBut [Reg.START_STS, Reg.CFG_BOOT_ATTEMPTS] d ∧
        s.dev.restSame { d with boot := s.dev.boot, start := s.dev.start })) ∧
  -- R484: INITN reads high, and the attempt may start.
  (∀ (s : State),
      s.ready = true →
      s.dev.boot.running = true →
      s.dev.boot.due = true →
      s.dev.load = none →
      s.goes (.initnSample false) ((({ s.dev.setBit Reg.START_STS_INITN_PIN (!s.dev.drivesLow 5 s.dev.start.initnDriven) with
        boot := { s.dev.boot with sampled := true }
        start := { s.dev.start with initnHeld := false } } : Dev)).clear Reg.START_STS_INITN_HELD)) ∧
  -- R484: the board holds INITN low: INITN_HELD and INITN_WAIT are set.
  (∀ (s : State),
      s.ready = true →
      s.dev.boot.running = true →
      s.dev.boot.due = true →
      s.dev.load = none →
      s.dev.on Reg.START_STS_INITN_HELD = false →
      s.goes (.initnSample true) (((({ s.dev.clear Reg.START_STS_INITN_PIN with
        boot := { s.dev.boot with sampled := false }
        start := { s.dev.start with initnHeld := true } } : Dev)).raise Reg.START_STS_INITN_HELD).raise Reg.RST_EVT_INITN_WAIT)) ∧
  -- R485: DONE reads high while no release waits for it.
  (∀ (s : State),
      s.ready = true →
      s.dev.drivesLow 6 s.dev.start.doneDriven = false →
      s.dev.start.waitDone = false →
      s.goes .donePinHigh (({ s.dev with start := { s.dev.start with donePin := true } } : Dev).raise Reg.START_STS_DONE_PIN)) ∧
  -- R485: DONE_WAIT is set: the release starts.
  (∀ (s : State),
      s.live = true →
      s.dev.drivesLow 6 s.dev.start.doneDriven = false →
      s.dev.start.waitDone = true →
      s.runs .donePinHigh Dev.donePinHigh (fun d =>
        d = (({ s.dev with start := { s.dev.start with donePin := true } } : Dev).raise Reg.START_STS_DONE_PIN).startupRelease))

/-- DP_RESET taken outside start-up leaves step 4, cause 4 and DP_BUSY set with every region EMPTY; WARM_RESET is
due once the command is answered and leaves step 1 and cause 2; a rail out of its range clears its bit and
RAILS_OK and, where it leaves its range after step 1, sets RAIL_DROP; one in range sets its bit and RAILS_OK
when all are; PWR_TEMP takes the highest reading and its sensor. -/
def Obligations.ResetsAndRails : Prop :=
  -- R487: a data-plane reset.
  (∀ (s : State) (who : Who),
      s.live = true →
      s.dev.takes who Reg.RST_CTL_DP_RESET = true →
      s.dev.get Reg.START_STS_STEP = 0 →
      s.dev.on Reg.START_STS_DP_BUSY = false →
      s.runs (.dpReset who) (fun d => let r := d.command who Reg.RST_CTL_DP_RESET; r.1.reply r.2) (fun d =>
        d.answer.code = .ok ∧ d.get Reg.START_STS_STEP = 4 ∧ d.on Reg.START_STS_DP_BUSY = true ∧
        d.on Reg.RST_EVT_DP_STARTED = true ∧ d.get Reg.RST_CAUSE_CAUSE = 4)) ∧
  -- R486: WARM_RESET follows its own answer.
  (∀ (s : State) (who : Who),
      s.live = true →
      s.dev.takes who Reg.RST_CTL_WARM_RESET = true →
      s.runs (.warmReset who) (fun d => let r := d.command who Reg.RST_CTL_WARM_RESET; r.1.reply r.2) (fun d =>
        d.answer.code = .ok ∧ d.start.warmDue = some 2 ∧ d.warmSettle.get Reg.START_STS_STEP = 1 ∧
        d.warmSettle.get Reg.RST_CAUSE_CAUSE = 2 ∧ d.warmSettle.on Reg.RST_EVT_MGMT_RESET = true)) ∧
  -- R499: rail out of range.
  (∀ (s : State) (rail : Fin 16),
      s.ready = true →
      s.does (.railOutOfRange rail) (fun d =>
        fieldOf (d.word Reg.RAIL_STS) rail.val 1 = 0 ∧ d.on Reg.START_STS_RAILS_OK = false ∧
        (s.dev.get Reg.START_STS_STEP ≠ 1 ∧ fieldOf (s.dev.word Reg.RAIL_STS) rail.val 1 = 1 →
          d.bit Reg.RAIL_EVT_RAIL_DROP rail.val = true) ∧
        (s.dev.get Reg.START_STS_STEP = 1 ∨ fieldOf (s.dev.word Reg.RAIL_STS) rail.val 1 = 0 →
          d.word Reg.RAIL_EVT = s.dev.word Reg.RAIL_EVT) ∧
        s.dev.regsBut [Reg.RAIL_STS, Reg.START_STS, Reg.RAIL_EVT] d ∧ s.dev.restSame d)) ∧
  -- R498: rail in range.
  (∀ (s : State) (rail : Fin 16),
      s.ready = true →
      s.does (.railInRange rail) (fun d =>
        fieldOf (d.word Reg.RAIL_STS) rail.val 1 = 1 ∧
        (d.on Reg.START_STS_RAILS_OK = true ↔ fieldOf (d.word Reg.RAIL_STS) 0 16 = 65535) ∧
        s.dev.regsBut [Reg.RAIL_STS, Reg.START_STS] d ∧ s.dev.restSame d)) ∧
  -- R516: the sensor at place `k` reads highest, and no lower one reads as much.
  (∀ (s : State) (readings : List (BitVec 8)) (k : Fin 16),
      s.ready = true →
      (∀ j : Fin 16, (readings.getD j.val 0).toInt ≤ (readings.getD k.val 0).toInt) →
      (∀ j : Fin 16, j < k → (readings.getD j.val 0).toInt < (readings.getD k.val 0).toInt) →
      s.goes (.dieTempUpdate readings) (((s.dev.set Reg.PWR_TEMP_TJ (readings.getD k.val 0).toNat).set
        Reg.PWR_TEMP_SENSOR k.val).raise Reg.PWR_TEMP_VALID))

/-- A write of one register that is taken and presents no command leaves the register with what its classes let
software write (R81), is followed by what the register's own rules say, and moves its alias's change counter; a
write of several registers writes them one at a time in ascending order up to the first that is refused (R85); a
CNT field clears whatever is written; a read without NOSIDE answers the readable word and clears the EVT fields;
outside the CSR space both answer NO_TARGET. -/
def Obligations.RegisterWritesAndReads : Prop :=
  -- R81, R85: one register. UNLOCK_KEY, the FIFO data registers, PWR_CTL and the patch units have rows of their
  -- own.
  (∀ (s : State) (who : Who) (off : BitVec 24) (x : Word) (r : RegDef),
      s.live = true →
      s.dev.takesWrite who off.toNat x = true →
      cmdBits off.toNat x = [] →
      regAt off.toNat = some r →
      fifoAt off.toNat = none →
      off.toNat ≠ Reg.UNLOCK_KEY →
      off.toNat ≠ Reg.PWR_CTL →
      ¬(Reg.PATCH_ADDR 0 ≤ off.toNat ∧ off.toNat < Reg.PATCH_ADDR 16) →
      off.toNat % 4 = 0 →
      off.toNat < 0x900000 →
      s.runs (.csrWrite who off [x]) (fun d => let a := d.csrWriteReq who off.toNat [x]; a.1.reply a.2) (fun d =>
        d = ((aliasesWritten off.toNat (s.dev.word off.toNat) x).foldl Dev.touch
          (Dev.csrHook off.toNat (s.dev.word off.toNat) false s.dev.packOn (s.dev.written who off.toNat x))).reply .ok ∧
        (s.dev.written who off.toNat x).word off.toNat = r.written (s.dev.word off.toNat) x)) ∧
  -- R85: several registers.
  (∀ (d : Dev) (who : Who) (off : Nat) (xs : List Word) (y : Word),
      off < 0x900000 →
      off % 4 = 0 →
      xs ≠ [] →
      xs.length < 16 →
      d.csrWriteReq who off (xs ++ [y]) =
        (let a := d.csrWriteReq who off xs
         if a.2 = .ok then a.1.csrWrite who (off + 4 * xs.length) y else a)) ∧
  -- R41: nothing lies above the CSR space.
  (∀ (s : State) (who : Who) (off : BitVec 24) (xs : List Word),
      s.ready = true →
      0x900000 ≤ off.toNat →
      s.goes (.csrWrite who off xs) (s.dev.reply .noTarget)) ∧
  -- R81: a CNT field clears whatever is written.
  (∀ (s : State) (who : Who) (off : BitVec 24) (x : Word) (r : RegDef) (f : FieldDef),
      s.live = true →
      s.dev.takesWrite who off.toNat x = true →
      cmdBits off.toNat x = [] →
      regAt off.toNat = some r →
      fifoAt off.toNat = none →
      off.toNat ≠ Reg.UNLOCK_KEY →
      off.toNat ≠ Reg.PWR_CTL →
      ¬(Reg.PATCH_ADDR 0 ≤ off.toNat ∧ off.toNat < Reg.PATCH_ADDR 16) →
      off.toNat % 4 = 0 →
      off.toNat < 0x900000 →
      f ∈ r.fields →
      f.cls = .cnt →
      s.runs (.cntWrite who off x) (fun d => let a := d.csrWriteReq who off.toNat [x]; a.1.reply a.2) (fun d =>
        d = ((aliasesWritten off.toNat (s.dev.word off.toNat) x).foldl Dev.touch
          (Dev.csrHook off.toNat (s.dev.word off.toNat) false s.dev.packOn (s.dev.written who off.toNat x))).reply .ok ∧
        fieldOf ((s.dev.written who off.toNat x).word off.toNat) f.lsb f.w = 0)) ∧
  -- R81, R90: a read without NOSIDE. The FIFO data registers and LOG_HI have rows of their own.
  (∀ (s : State) (who : Who) (off : BitVec 24) (r : RegDef),
      s.ready = true →
      s.dev.csrReadRefusal who off.toNat = none →
      regAt off.toNat = some r →
      fifoReadAt off.toNat = none →
      off.toNat ≠ Reg.LOG_HI →
      off.toNat % 4 = 0 →
      off.toNat < 0x900000 →
      s.goes (.evtRead who off) ((s.dev.putWord off.toNat (r.evtCleared (s.dev.word off.toNat))).replyWith
        { code := if s.dev.failed off.toNat then .targetErr else .ok
          data := wordsBytes [r.readable (s.dev.csrShow off.toNat)] }))

/-- For every register of every block and each of its fields: a write gives a CTL field the value written, clears a
CNT field, and leaves STS, EVT, CMD and KEY fields as they are; a read without NOSIDE clears the EVT fields and
no other; a read shows KEY fields as 0. -/
def Obligations.RegisterTables : Prop :=
  -- R81
  ∀ (b : Nat) (r : RegDef) (f : FieldDef) (old x : Word),
      r ∈ blockRegs b →
      f ∈ r.fields →
      (f.cls = .ctl → fieldOf (r.written old x) f.lsb f.w = fieldOf x f.lsb f.w) ∧
      (f.cls = .cnt → fieldOf (r.written old x) f.lsb f.w = 0) ∧
      (f.cls ≠ .ctl → f.cls ≠ .cnt → fieldOf (r.written old x) f.lsb f.w = fieldOf old f.lsb f.w) ∧
      fieldOf (r.evtCleared old) f.lsb f.w = (if f.cls = .evt then 0 else fieldOf old f.lsb f.w) ∧
      fieldOf (r.readable old) f.lsb f.w = (if f.cls = .key then 0 else fieldOf old f.lsb f.w)

/-- A write of 0x7A3C to UNLOCK_KEY arms the writer alone and any other value disarms it and answers TARGET_ERR; an
unlock expires; SNAP is accepted while no snapshot runs and is BUSY otherwise; the copy records the counters,
the sequence number, the pack time and the off flags and sets SNAP_DONE. -/
def Obligations.UnlocksAndSnapshots : Prop :=
  -- R76: the key.
  (∀ (s : State) (who : Who),
      s.ready = true →
      s.dev.takesWrite who Reg.UNLOCK_KEY 0x7A3C = true →
      s.goes (.unlockKey who 0x7A3C) (((s.dev.arm who).touch 0x1F00).reply .ok)) ∧
  -- R76: any other value.
  (∀ (s : State) (who : Who) (key : BitVec 16),
      s.ready = true →
      s.dev.takesWrite who Reg.UNLOCK_KEY (key.setWidth 32) = true →
      key ≠ 0x7A3C →
      s.goes (.unlockKey who key) ((s.dev.disarm who).reply .targetErr)) ∧
  -- R76, R77: arming is for one initiator; expiry disarms.
  (∀ (s : State) (who other : Who),
      s.ready = true →
      s.goes (.unlockExpiry who) (s.dev.disarm who) ∧ (s.dev.disarm who).armed who = false ∧
      (s.dev.arm who).armed who = true ∧
      (other ≠ who → (s.dev.arm who).armed other = s.dev.armed other ∧ (s.dev.disarm who).armed other = s.dev.armed other)) ∧
  -- R94: a snapshot starts.
  (∀ (s : State) (who : Who),
      s.ready = true →
      s.dev.takes who Reg.SNAP_CTL_SNAP = true →
      s.dev.on Reg.SNAP_STS_SNAP_BUSY = false →
      s.goes (.snap who) (((((s.dev.writtenCmd who Reg.SNAP_CTL_SNAP).raise Reg.SNAP_STS_SNAP_BUSY).cmdStart 0x1F10 1).touch
        0x1F10).reply .ok)) ∧
  -- R31, R94: one runs already.
  (∀ (s : State) (who : Who),
      s.ready = true →
      s.dev.takes who Reg.SNAP_CTL_SNAP = true →
      s.dev.on Reg.SNAP_STS_SNAP_BUSY = true →
      s.does (.snap who) (fun d => d.answer.code = .busy ∧ s.dev.regsBut [] d ∧ s.dev.restSame d)) ∧
  -- R29, R94, R95: the copy.
  (∀ (s : State),
      s.live = true →
      s.dev.on Reg.SNAP_STS_SNAP_BUSY = true →
      s.runs .snapshotCopy Dev.snapshotCopy (fun d =>
        d.on Reg.SNAP_STS_SNAP_BUSY = false ∧
        d.get Reg.SNAP_STS_SNAP_SEQ = (s.dev.get Reg.SNAP_STS_SNAP_SEQ + 1) % 65536 ∧
        d.get64 (Reg.SNAP_TIME_WORD 0) (Reg.SNAP_TIME_WORD 1) = s.dev.get64 (Reg.PACK_TIME_WORD 0) (Reg.PACK_TIME_WORD 1) ∧
        d.on Reg.FAULT_EVT_SNAP_DONE = true ∧ d.wb.snapshots = [] ∧
        (∀ e ∈ s.dev.snapCounters, s.dev.domState e.2.1 ≠ 3 → SMap.get 0 d.held e.1 = e.2.2) ∧
        d.offFlags = (List.range 256).filter (fun m => s.dev.domState m == 3)))

/-- A parity mismatch of a field of a register runs and records PARITY_FAULT, its address and the count; a CTL
register fails and its block is in its safe state, an EVT register has every event set, a CNT register reads as
saturated, and a REINIT that waits in a CMD register is discarded with TARGET_ERR; a register that has no field
of the class is left alone. A two-to-one vote of a triplicated field runs and records TMR_FIX with its address;
a three-way vote runs the warm reset with cause 3; a register without triplicated fields is left alone. -/
def Obligations.ParityAndVotes : Prop :=
  -- R90: a CTL register: the block no longer uses its value.
  (∀ (s : State) (off : BitVec 24) (r : RegDef) (f : FieldDef),
      s.live = true →
      regAt off.toNat = some r →
      f ∈ r.fields →
      f.cls = .ctl →
      s.runs (.parityMismatch off .ctl) (Dev.parityMismatch off.toNat .ctl) (fun d =>
        d.failed off.toNat = true ∧ d.safe off.toNat = true ∧ d.on Reg.FAULT_EVT_PARITY_FAULT = true ∧
        d.get Reg.PARITY_ADDR_OFFSET = off.toNat ∧ d.on Reg.PARITY_ADDR_VALID = true ∧
        d.get Reg.FAULT_CNT_PARITY_CNT = min (s.dev.get Reg.FAULT_CNT_PARITY_CNT + 1) 65535)) ∧
  -- R90: its frame. BORDER_CTL decides when a FORCE is due (R141), and SCRUB's rate follows at once (R280).
  (∀ (s : State) (off : BitVec 24) (r : RegDef) (f : FieldDef),
      s.ready = true →
      regAt off.toNat = some r →
      f ∈ r.fields →
      f.cls = .ctl →
      s.does (.parityMismatch off .ctl) (fun d =>
        (∀ o, o ∉ [Reg.FAULT_EVT, Reg.PARITY_ADDR, Reg.FAULT_CNT] → o / 65536 ≠ 4 → d.word o = s.dev.word o) ∧
        (off.toNat / 65536 ≠ 4 → s.dev.regsBut [Reg.FAULT_EVT, Reg.PARITY_ADDR, Reg.FAULT_CNT] d) ∧
        s.dev.restSame { d with rgn := s.dev.rgn, scrub := s.dev.scrub })) ∧
  -- R90, R91: EVT and CNT registers.
  (∀ (s : State) (off : BitVec 24) (cls : Cls) (r : RegDef) (f : FieldDef),
      s.ready = true →
      cls = .evt ∨ cls = .cnt →
      regAt off.toNat = some r →
      f ∈ r.fields →
      f.cls = cls →
      s.does (.parityMismatch off cls) (fun d =>
        fieldOf (d.word off.toNat) f.lsb f.w = 2 ^ f.w - 1 ∧
        (off.toNat ≠ Reg.FAULT_EVT → d.on Reg.FAULT_EVT_PARITY_FAULT = true) ∧
        d.get Reg.PARITY_ADDR_OFFSET = off.toNat ∧ d.on Reg.PARITY_ADDR_VALID = true ∧
        s.dev.regsBut [Reg.FAULT_EVT, Reg.PARITY_ADDR, Reg.FAULT_CNT, off.toNat] d ∧ s.dev.restSame d)) ∧
  -- R91: a CMD, STS or KEY register, but for a REINIT that waits.
  (∀ (s : State) (off : BitVec 24) (cls : Cls) (r : RegDef) (f : FieldDef),
      s.ready = true →
      cls = .cmd ∨ cls = .sts ∨ cls = .key →
      regAt off.toNat = some r →
      f ∈ r.fields →
      f.cls = cls →
      cls = .cmd → ∀ n : Region, off.toNat = Reg.FF_CTL n → s.dev.on (Reg.FF_CTL_REINIT n) = false →
      s.goes (.parityMismatch off cls) ((((s.dev.raise Reg.FAULT_EVT_PARITY_FAULT).set Reg.PARITY_ADDR_OFFSET
        off.toNat).raise Reg.PARITY_ADDR_VALID).count Reg.FAULT_CNT_PARITY_CNT)) ∧
  -- R91, R118: a REINIT that waits is discarded: its outcome is TARGET_ERR.
  (∀ (s : State) (off : BitVec 24) (n : Region),
      s.ready = true →
      off.toNat = Reg.FF_CTL n →
      s.dev.on (Reg.FF_CTL_REINIT n) = true →
      s.does (.parityMismatch off .cmd) (fun d =>
        d.on (Reg.FF_CTL_REINIT n) = false ∧ d.on (Reg.FF_STS_REINIT_BUSY n) = false ∧ d.on (Reg.FF_EVT_REINIT_DONE n) = true ∧
        (SMap.get {} d.cmds (objKey (0x3C00 + n) 1)).code = .targetErr ∧ (SMap.get {} d.cmds (objKey (0x3C00 + n) 1)).busy = false ∧
        d.on Reg.FAULT_EVT_PARITY_FAULT = true ∧ d.get Reg.PARITY_ADDR_OFFSET = off.toNat ∧ d.ff = s.dev.ff)) ∧
  -- R90: a register without a field of the class has none to check.
  (∀ (s : State) (off : BitVec 24) (cls : Cls),
      s.ready = true →
      ∀ r, regAt off.toNat = some r → ∀ f ∈ r.fields, f.cls ≠ cls →
      s.goes (.parityMismatch off cls) s.dev) ∧
  -- R92: two against one.
  (∀ (s : State) (off : BitVec 24),
      s.ready = true →
      triplicated off.toNat = true →
      s.goes (.tmrVote off false) ((((s.dev.raise Reg.FAULT_EVT_TMR_FIX).set Reg.TMR_ADDR_OFFSET off.toNat).raise
        Reg.TMR_ADDR_VALID).count Reg.FAULT_CNT_TMR_FIX_CNT)) ∧
  -- R92, R489: three ways.
  (∀ (s : State) (off : BitVec 24),
      s.live = true →
      triplicated off.toNat = true →
      s.runs (.tmrVote off true) (Dev.tmrVote off true) (fun d =>
        d.get Reg.START_STS_STEP = 1 ∧ d.get Reg.RST_CAUSE_CAUSE = 3 ∧ d.on Reg.RST_EVT_MGMT_RESET = true)) ∧
  -- R82: a register without a triplicated field has no copies.
  (∀ (s : State) (off : BitVec 24) (three : Bool),
      s.ready = true →
      triplicated off.toNat = false →
      s.goes (.tmrVote off three) s.dev)

/-- A client's request that is the oldest in the queue leaves it and executes: READ and READ_BLOCK answer with the
values and the change counter; WRITE and WRITE_BLOCK answer with the code, the STALE flag, the count written and
the new change counter; a write that reaches a persistent object waits until the firmware has stored it, and is
answered then. -/
def Obligations.WaybillReadsAndWrites : Prop :=
  -- R60: READ.
  (∀ (s : State) (req : WbReq) (mac : Nat),
      s.live = true →
      req.who = .client mac →
      req.msg.op = 1 →
      req.msg.resp = false →
      s.dev.wb.queue.head? = some req →
      userIndex req.msg.index = false →
      s.runs (.read req) (Dev.wbOp 1 req Dev.wbRead) (fun d =>
        let x := ({ s.dev with wb := { s.dev.wb with queue := s.dev.wb.queue.tail } } : Dev).objRead req.who req.msg.noside req.msg.desc req.msg.index req.msg.sub
        d = x.2.1.respond req { code := x.2.2, change := x.2.1.changeOf req.msg.index, data := x.1 })) ∧
  -- R60: WRITE of an object that is not persistent.
  (∀ (s : State) (req : WbReq) (mac : Nat),
      s.live = true →
      req.who = .client mac →
      req.msg.op = 2 →
      req.msg.resp = false →
      s.dev.wb.queue.head? = some req →
      userIndex req.msg.index = false →
      ¬(req.msg.index = 0x7201 ∧ req.msg.sub = 0) →
      Dev.storesFlash req = false →
      s.runs (.write req) (Dev.wbOp 2 req Dev.wbWrite) (fun d =>
        let x := ({ s.dev with wb := { s.dev.wb with queue := s.dev.wb.queue.tail } } : Dev).objWrite req.who req.msg.index req.msg.sub req.msg.payload (condOf req.msg)
        d = x.1.respond req { code := x.2.1, stale := x.2.2, change := x.1.changeOf req.msg.index })) ∧
  -- R61: READ_BLOCK.
  (∀ (s : State) (req : WbReq) (mac : Nat),
      s.live = true →
      req.who = .client mac →
      req.msg.op = 3 →
      req.msg.resp = false →
      s.dev.wb.queue.head? = some req →
      userIndex req.msg.index = false →
      s.runs (.readBlock req) (Dev.wbOp 3 req Dev.wbReadBlock) (fun d =>
        let x := ({ s.dev with wb := { s.dev.wb with queue := s.dev.wb.queue.tail } } : Dev).blockRead req.who req.msg.noside req.msg.desc req.msg.index req.msg.sub (req.msg.arg % 512)
        d = x.2.2.1.respond req
          { code := x.2.2.2, change := x.2.2.1.changeOf req.msg.index, result := x.2.1, data := x.1 })) ∧
  -- R61: WRITE_BLOCK.
  (∀ (s : State) (req : WbReq) (mac : Nat),
      s.live = true →
      req.who = .client mac →
      req.msg.op = 4 →
      req.msg.resp = false →
      s.dev.wb.queue.head? = some req →
      userIndex req.msg.index = false →
      Dev.storesFlash req = false →
      s.runs (.writeBlock req) (Dev.wbOp 4 req Dev.wbWrite) (fun d =>
        let x := ({ s.dev with wb := { s.dev.wb with queue := s.dev.wb.queue.tail } } : Dev).blockWrite req.who req.msg.index req.msg.sub (req.msg.arg % 512) req.msg.payload (condOf req.msg)
        d = x.1.respond req
          { code := x.2.2.1, stale := x.2.2.2, change := x.1.changeOf req.msg.index, result := x.2.1 })) ∧
  -- R519: a write that takes effect on a persistent object waits for its storing.
  (∀ (s : State) (req : WbReq) (mac : Nat),
      s.live = true →
      req.who = .client mac →
      req.msg.op = 2 →
      req.msg.resp = false →
      s.dev.wb.queue.head? = some req →
      userIndex req.msg.index = false →
      ¬(req.msg.index = 0x7201 ∧ req.msg.sub = 0) →
      Dev.storesFlash req = true →
      (({ s.dev with wb := { s.dev.wb with queue := s.dev.wb.queue.tail } } : Dev).objWrite req.who req.msg.index req.msg.sub req.msg.payload (condOf req.msg)).2.1 = .ok →
      s.runs (.write req) (Dev.wbOp 2 req Dev.wbWrite) (fun d =>
        d = { ({ s.dev with wb := { s.dev.wb with queue := s.dev.wb.queue.tail } } : Dev) with wb := { s.dev.wb with
          queue := s.dev.wb.queue.tail, forwards := s.dev.wb.forwards ++ [⟨req, none, false⟩] } })) ∧
  -- R519: the value is stored: the oldest such write takes effect and is answered.
  (∀ (s : State) (f : ForwardSt),
      s.live = true →
      s.dev.fwUp = true →
      s.dev.wb.forwards.find? (fun f => f.tag.isNone) = some f →
      s.runs .persistentObjectStored Dev.persistentObjectStored (fun d =>
        d = Dev.writeAnswer f.req
          (({ s.dev with wb := { s.dev.wb with forwards := s.dev.wb.forwards.erase f } } : Dev).writeOf f.req))) ∧
  -- R74: a firmware-served object read while the firmware runs.
  (∀ (s : State) (req : WbReq) (mac : Nat),
      s.live = true →
      req.who = .client mac →
      req.msg.op = 1 →
      req.msg.resp = false →
      req.msg.desc = false →
      s.dev.wb.queue.head? = some req →
      Dev.firmwareIndex req.msg.index req.msg.sub = true →
      userIndex req.msg.index = false →
      s.dev.fwUp = true →
      s.runs (.firmwareObjectForward req) (Dev.firmwareForward req) (fun d =>
        let x := ({ s.dev with wb := { s.dev.wb with queue := s.dev.wb.queue.tail } } : Dev).objRead req.who req.msg.noside false req.msg.index req.msg.sub
        d = x.2.1.respond req { code := x.2.2, change := x.2.1.changeOf req.msg.index, data := x.1 })) ∧
  -- R74: and while it does not: BUSY.
  (∀ (s : State) (req : WbReq) (mac : Nat),
      s.live = true →
      req.who = .client mac →
      req.msg.op = 1 →
      req.msg.resp = false →
      req.msg.desc = false →
      s.dev.wb.queue.head? = some req →
      req.msg.index = 0x1010 →
      req.msg.sub = 4 →
      s.dev.fwUp = false →
      s.runs (.firmwareObjectForward req) (Dev.firmwareForward req) (fun d =>
        d = ({ s.dev with wb := { s.dev.wb with queue := s.dev.wb.queue.tail } } : Dev).respond req { code := .busy, change := s.dev.changeOf 0x1010 })) ∧
  -- R75: a user object with an entry that names a region goes out as a MSG of NI 166 with header and payload
  -- unchanged.
  (∀ (s : State) (req : WbReq) (mac : Nat) (i : Nat),
      s.live = true →
      req.who = .client mac →
      1 ≤ req.msg.op ∧ req.msg.op ≤ 4 →
      req.msg.resp = false →
      s.dev.wb.queue.head? = some req →
      userIndex req.msg.index = true →
      s.dev.userTarget req.msg.index = some i →
      i < 128 →
      s.runs (.userObjectForward req) (Dev.userObjectForward req) (fun d =>
        d = ({ s.dev with wb := { s.dev.wb with
            queue := s.dev.wb.queue.tail
            forwards := s.dev.wb.forwards ++ [⟨req, some (niNextTag (s.dev.niSt 166)), false⟩] } } : Dev).niPresent 166
          { cmd := 6, dst := i, addr := 0x10000000000 + i * 0x100000000, len := (req.msg.encode.length + 63) / 64
            data := req.msg.encode, beFirst := 2 ^ 64 - 1, beLast := 2 ^ 64 - 1 })) ∧
  -- R75: without an entry it is answered NO_TARGET.
  (∀ (s : State) (req : WbReq) (mac : Nat),
      s.live = true →
      req.who = .client mac →
      1 ≤ req.msg.op ∧ req.msg.op ≤ 4 →
      req.msg.resp = false →
      s.dev.wb.queue.head? = some req →
      userIndex req.msg.index = true →
      s.dev.userTarget req.msg.index = none →
      s.runs (.userObjectForward req) (Dev.userObjectForward req) (fun d => d = ({ s.dev with wb := { s.dev.wb with queue := s.dev.wb.queue.tail } } : Dev).respond req { code := .noTarget }))

/-- SNAPSHOT starts a snapshot and waits for it; FENCE covers the client's earlier requests and answers once they
have completed; a local BARRIER answers at once when no commit is pending and waits otherwise; DISCOVER waits
for its delay and is then answered with the identity record; a STREAM request is answered TARGET_ERR; ATTEST
gathers the report, and its signature completes it; a NOTIFY of a pack object reaches the pack engine and every
other is discarded. -/
def Obligations.WaybillOtherOperations : Prop :=
  -- R60, R94: SNAPSHOT.
  (∀ (s : State) (req : WbReq) (mac : Nat),
      s.live = true →
      req.who = .client mac →
      req.msg.op = 5 →
      req.msg.resp = false →
      s.dev.wb.queue.head? = some req →
      s.dev.on Reg.SNAP_STS_SNAP_BUSY = false →
      s.runs (.snapshot req) (Dev.wbOp 5 req Dev.wbSnapshot) (fun d =>
        d.on Reg.SNAP_STS_SNAP_BUSY = true ∧ d.wb.snapshots = s.dev.wb.snapshots ++ [req] ∧
        d.wb.queue = s.dev.wb.queue.tail ∧ s.dev.regsBut [Reg.SNAP_STS] d)) ∧
  -- R62: FENCE.
  (∀ (s : State) (req : WbReq) (mac : Nat),
      s.live = true →
      req.who = .client mac →
      req.msg.op = 6 →
      req.msg.resp = false →
      s.dev.wb.queue.head? = some req →
      s.runs (.wbFence req) (Dev.wbOp 6 req Dev.wbFence) (fun d =>
        d = { s.dev with wb := { s.dev.wb with
          queue := s.dev.wb.queue.tail
          fences := s.dev.wb.fences ++ [⟨req, ((s.dev.wb.codes.filter (fun c => c.1 == mac)).takeWhile
            (fun c => !(c.2.1 == req.msg.seq && c.2.2.isNone))).map (fun c => (c.2.1, c.2.2))⟩] } })) ∧
  -- R62: the oldest FENCE whose requests have all completed OK.
  (∀ (s : State) (f : WbFenceSt),
      s.live = true →
      s.dev.wb.fences.find? (fun f => f.covered.all (fun c => c.2.isSome)) = some f →
      (∀ c ∈ f.covered, c.2 = some .ok) →
      s.runs .wbFenceComplete Dev.wbFenceComplete (fun d =>
        d = ({ s.dev with wb := { s.dev.wb with fences := s.dev.wb.fences.erase f } } : Dev).respond f.req
          { code := .ok, change := s.dev.changeOf f.req.msg.index })) ∧
  -- R66, R37: a local BARRIER with no commit pending.
  (∀ (s : State) (req : WbReq) (mac : Nat),
      s.live = true →
      req.who = .client mac →
      req.msg.op = 7 →
      req.msg.resp = false →
      s.dev.wb.queue.head? = some req →
      req.msg.arg % 16 = 1 →
      localRefusal (req.msg.arg / 16 % 16) (req.msg.arg / 256 % 65536) = none →
      s.dev.commitPending (req.msg.arg / 16 % 16) (req.msg.arg / 256 % 65536) = false →
      s.runs (.barrier req) (Dev.barrier req) (fun d =>
        d = ({ s.dev with wb := { s.dev.wb with queue := s.dev.wb.queue.tail } } : Dev).respond req { change := s.dev.changeOf req.msg.index })) ∧
  -- R66, R37: and with one pending it waits.
  (∀ (s : State) (req : WbReq) (mac : Nat),
      s.live = true →
      req.who = .client mac →
      req.msg.op = 7 →
      req.msg.resp = false →
      s.dev.wb.queue.head? = some req →
      req.msg.arg % 16 = 1 →
      localRefusal (req.msg.arg / 16 % 16) (req.msg.arg / 256 % 65536) = none →
      s.dev.commitPending (req.msg.arg / 16 % 16) (req.msg.arg / 256 % 65536) = true →
      s.runs (.barrier req) (Dev.barrier req) (fun d =>
        d = { s.dev with wb := { s.dev.wb with
          queue := s.dev.wb.queue.tail
          barriers := s.dev.wb.barriers ++ [⟨some req, req.msg.arg / 16 % 16, req.msg.arg / 256 % 65536⟩] } })) ∧
  -- R520: a NOTIFY of 0x1100:05 that passes R54 is a hello.
  (∀ (s : State) (req : WbReq) (mac : Nat),
      s.live = true →
      req.who = .client mac →
      s.dev.wbDiscard req.msg = none →
      Dev.badLength req.msg = false →
      req.msg.op = 8 →
      req.msg.resp = false →
      req.msg.index = 0x1100 →
      req.msg.sub = 5 →
      s.runs (.notifyReceived req) (Dev.wbNotify req) (fun d => d = s.dev.helloReceived mac req.port req.msg.payload)) ∧
  -- R520: every other is discarded.
  (∀ (s : State) (req : WbReq) (mac : Nat),
      s.ready = true →
      req.who = .client mac →
      s.dev.wbDiscard req.msg = none →
      req.msg.op = 8 →
      req.msg.resp = false →
      ¬(req.msg.index = 0x1100 ∧ req.msg.sub = 5) →
      ¬(req.msg.index = 0x7202 ∧ req.msg.sub = 0) →
      s.goes (.notifyReceived req) s.dev) ∧
  -- R64: DISCOVER waits.
  (∀ (s : State) (req : WbReq) (mac : Nat),
      s.live = true →
      req.who = .client mac →
      req.msg.op = 9 →
      req.msg.resp = false →
      s.dev.wb.queue.head? = some req →
      s.runs (.discover req) (Dev.wbOp 9 req Dev.wbDiscover) (fun d =>
        d = { s.dev with wb := { s.dev.wb with
          queue := s.dev.wb.queue.tail, discovers := s.dev.wb.discovers ++ [req] } })) ∧
  -- R64: its delay has passed.
  (∀ (s : State) (k : Fin 64) (req : WbReq),
      s.live = true →
      s.dev.wb.discovers[k.val]? = some req →
      s.runs (.discoverAnswerDue k) (Dev.discoverAnswerDue k) (fun d =>
        d = ({ s.dev with wb := { s.dev.wb with discovers := s.dev.wb.discovers.eraseIdx k.val } } : Dev).respond req
          { data := Dev.identityRecord { s.dev with wb := { s.dev.wb with discovers := s.dev.wb.discovers.eraseIdx k.val } }
            change := s.dev.changeOf req.msg.index })) ∧
  -- R520: STREAM.
  (∀ (s : State) (req : WbReq) (mac : Nat),
      s.live = true →
      req.who = .client mac →
      req.msg.op = 10 →
      req.msg.resp = false →
      s.dev.wb.queue.head? = some req →
      s.runs (.streamRequestReceived req) (Dev.wbOp 0xA req Dev.wbStream) (fun d =>
        d = ({ s.dev with wb := { s.dev.wb with queue := s.dev.wb.queue.tail } } : Dev).respond req { code := .targetErr, change := s.dev.changeOf req.msg.index })) ∧
  -- R258: ATTEST over Waybill with a nonce of 64 bytes.
  (∀ (s : State) (req : WbReq) (mac : Nat),
      s.live = true →
      req.who = .client mac →
      req.msg.op = 11 →
      req.msg.resp = false →
      s.dev.wb.queue.head? = some req →
      s.dev.fwUp = true →
      req.msg.payload.length = 64 →
      s.runs (.attest req) (Dev.attest req) (fun d =>
        d = { s.dev with wb := { s.dev.wb with
          queue := s.dev.wb.queue.tail
          attest := s.dev.wb.attest ++ [(some req, ({ s.dev with wb := { s.dev.wb with queue := s.dev.wb.queue.tail } } : Dev).attestReport req.msg.payload)] } })) ∧
  -- R258, R260: the signature of a report that a request asked for: 132 bytes of signature end the answer.
  (∀ (s : State) (req : WbReq) (body : List Byte) (rest : List (Option WbReq × List Byte)),
      s.live = true →
      s.dev.wb.attest = (some req, body) :: rest →
      s.runs .attestSigned Dev.attestSigned (fun d =>
        d.answer.code = .ok ∧ d.answer.data.take body.length = body ∧ d.answer.data.length = body.length + 132 ∧
        d.wb.attest = rest))

/-- The first notification of an object is sent to every target at once and opens a window; a further one within it
is held with the value last read; the end of the window sends what was held or closes it; an unanswered NOTIFY
is sent again up to 3 times and then dropped and counted; a response ends the NOTIFY it answers, and a response
that matches nothing outstanding is discarded. -/
def Obligations.WaybillNotifications : Prop :=
  -- R63: no window of the object is open.
  (∀ (s : State) (ix : BitVec 16) (sub : BitVec 8) (off : Nat),
      s.live = true →
      Dev.evtOffset ix.toNat sub.toNat = some off →
      s.dev.wb.holds.any (fun h => h.index = ix.toNat ∧ h.sub = sub.toNat) = false →
      s.runs (.notificationRaised ix sub) (Dev.notificationRaised ix sub) (fun d =>
        let d1 := s.dev.notifyAll ix.toNat sub.toNat (s.dev.word off)
        d = { d1 with wb := { d1.wb with holds := d1.wb.holds ++ [⟨ix.toNat, sub.toNat, none⟩] } })) ∧
  -- R63: within the window it is held.
  (∀ (s : State) (ix : BitVec 16) (sub : BitVec 8) (off : Nat),
      s.ready = true →
      Dev.evtOffset ix.toNat sub.toNat = some off →
      s.dev.wb.holds.any (fun h => h.index = ix.toNat ∧ h.sub = sub.toNat) = true →
      s.goes (.notificationRaised ix sub) { s.dev with wb := { s.dev.wb with holds := s.dev.wb.holds.map (fun h =>
        if h.index = ix.toNat ∧ h.sub = sub.toNat then { h with value := some (s.dev.word off) } else h) } }) ∧
  -- R63: the window ends with nothing held.
  (∀ (s : State) (ix : BitVec 16) (sub : BitVec 8) (h : HoldSt),
      s.ready = true →
      s.dev.wb.holds.find? (fun h => h.index == ix.toNat && h.sub == sub.toNat) = some h →
      h.value = none →
      s.goes (.notifyHoldExpiry ix sub) { s.dev with wb := { s.dev.wb with holds := s.dev.wb.holds.erase h } }) ∧
  -- R63: it ends with a value held, which is sent.
  (∀ (s : State) (ix : BitVec 16) (sub : BitVec 8) (h : HoldSt) (v : Word),
      s.live = true →
      s.dev.wb.holds.find? (fun h => h.index == ix.toNat && h.sub == sub.toNat) = some h →
      h.value = some v →
      s.runs (.notifyHoldExpiry ix sub) (Dev.notifyHoldExpiry ix sub) (fun d =>
        d = ({ s.dev with wb := { s.dev.wb with holds := s.dev.wb.holds.map (fun g =>
          if g.index == ix.toNat && g.sub == sub.toNat then { g with value := none } else g) } } : Dev).notifyAll h.index
            h.sub v)) ∧
  -- R63: up to three resends.
  (∀ (s : State) (seq : BitVec 32) (n : NotifySt),
      s.live = true →
      s.dev.wb.notifies.find? (fun n => n.seq == seq.toNat) = some n →
      n.resends < 3 →
      s.runs (.notifyResendExpiry seq) (Dev.notifyResendExpiry seq) (fun d =>
        d = ({ s.dev with wb := { s.dev.wb with notifies := s.dev.wb.notifies.map (fun x =>
          if x = n then { n with resends := n.resends + 1 } else x) } } : Dev).sendNotify { n with resends := n.resends + 1 })) ∧
  -- R63: then it is dropped and counted.
  (∀ (s : State) (seq : BitVec 32) (n : NotifySt),
      s.ready = true →
      s.dev.wb.notifies.find? (fun n => n.seq == seq.toNat) = some n →
      3 ≤ n.resends →
      s.goes (.notifyResendExpiry seq) { s.dev with wb := { s.dev.wb with
        notifies := s.dev.wb.notifies.erase n, notifyDropped := s.dev.wb.notifyDropped + 1 } }) ∧
  -- R63, R520: a response to a NOTIFY.
  (∀ (s : State) (req : WbReq) (mac : Nat),
      s.ready = true →
      req.who = .client mac →
      req.msg.resp = true →
      req.msg.version = 1 →
      req.msg.op = 8 →
      s.goes (.wbResponseReceived req) { s.dev with wb := { s.dev.wb with
        notifies := s.dev.wb.notifies.filter (fun n => n.seq != req.msg.seq) } }) ∧
  -- R520: a response of an operation that the device never has outstanding.
  (∀ (s : State) (req : WbReq) (mac : Nat),
      s.ready = true →
      req.who = .client mac →
      req.msg.resp = true →
      req.msg.op ∉ [2, 8, 9, 0xA] →
      s.goes (.wbResponseReceived req) s.dev)

/-- When a request of a client completes, the device answers with the answer given, the request is no longer
executing, its code is recorded for the fences that cover it, its response heads the client's replay cache of 8,
and, with the link up and a payload of at most 8,192 bytes, one frame to the client is queued at the port the
request came by. -/
def Obligations.WaybillResponses : Prop :=
  -- R55, R58, R62
  (∀ (d : Dev) (req : WbReq) (mac : Nat) (a : Answer),
      req.who = .client mac →
      (d.respond req a).answer = a ∧
      (d.respond req a).wb.executing = d.wb.executing.erase (mac, req.msg.seq) ∧
      (d.respond req a).wb.clients = d.wb.clients.map (fun c =>
        if c.mac = mac then { c with replay := ((req.msg.seq, d.respMsg req a) :: c.replay).take 8 } else c) ∧
      (a.data.length ≤ 8192 → d.linkUp req.port.val = true →
        ((d.respond req a).port req.port.val).txWb = (d.port req.port.val).txWb ++
          [.waybill mac req.carrier (d.ctl (Reg.PORT_CTL_WB_PRIO req.port.val)) (d.respMsg req a).encode]) ∧
      (d.linkUp req.port.val = false → (d.respond req a).port0 = d.port0 ∧ (d.respond req a).port1 = d.port1)) ∧
  -- R54, R57 to R59: a new request with room in the queue and the client table.
  (∀ (d : Dev) (req : WbReq) (mac : Nat),
      req.who = .client mac →
      d.wbDiscard req.msg = none →
      d.clientOf mac = none →
      (mac, req.msg.seq) ∉ d.wb.executing →
      d.wb.queue.length < 64 →
      d.wb.clients.length < 62 →
      req.msg.length ≤ 8192 →
      req.msg.length ≤ req.msg.payload.length →
      Dev.knownOp req.msg.op = true →
      d.wbArrive req = { d with wb := { d.wb with
        clients := d.wb.clients ++ [⟨mac, req.port, []⟩]
        executing := d.wb.executing ++ [(mac, req.msg.seq)]
        codes := d.wb.codes ++ [(mac, req.msg.seq, none)]
        queue := d.wb.queue ++ [req] } }) ∧
  -- R58: a request answered before is answered again from the replay cache, without executing.
  (∀ (d : Dev) (req : WbReq) (mac : Nat) (c : ClientSt) (e : Nat × WbMsg),
      req.who = .client mac →
      d.wbDiscard req.msg = none →
      d.clientOf mac = some c →
      c.replay.find? (fun e => e.1 == req.msg.seq) = some e →
      d.wbArrive req = d.sendResp req e.2) ∧
  -- R57: a full queue.
  (∀ (d : Dev) (req : WbReq) (mac : Nat),
      req.who = .client mac →
      d.wbDiscard req.msg = none →
      (d.clientOf mac).bind (fun c => c.replay.find? (fun e => e.1 == req.msg.seq)) = none →
      (mac, req.msg.seq) ∉ d.wb.executing →
      64 ≤ d.wb.queue.length →
      d.wbArrive req = d.count Reg.WB_DROP_QUEUE_FULL)

/-- A port that can train starts training, comes up with LINK_UP, its lanes shown and LINK_RISE set, and goes down
discarding its queued frames; a PORT_CTL write that changes MODE or ENABLE restarts the port once its own
response has left; a received frame is refused by length, goes to the Waybill engine, or enters the receive
FIFO; a queued Waybill frame leaves before a user frame. -/
def Obligations.Ports : Prop :=
  -- R45: training starts.
  (∀ (s : State) (p : Fin 2),
      s.live = true →
      s.dev.linkUp p.val = false →
      s.dev.portCanTrain p = true →
      s.runs (.portTrainingStart p) (Dev.portTrainingStart p) (fun d =>
        (d.port p.val).training = true ∧ d.linkUp p.val = false ∧ ∀ l ∈ s.dev.portLanes p, d.lstate l = 1)) ∧
  -- R45, R46: the link comes up.
  (∀ (s : State) (p : Fin 2),
      s.live = true →
      s.dev.linkUp p.val = false →
      s.dev.portCanTrain p = true →
      (s.dev.port p.val).training = true →
      s.runs (.portLinkUp p) (Dev.portLinkUp p) (fun d =>
        d.linkUp p.val = true ∧ (d.port p.val).training = false ∧ d.on (Reg.PORT_EVT_LINK_RISE p.val) = true ∧
        d.on (Reg.PORT_STS_KR1_ACTIVE p.val) = decide (s.dev.ctl (Reg.PORT_CTL_MODE p.val) = 1) ∧
        d.get (Reg.PORT_STS_LANE_OK p.val) = (if s.dev.ctl (Reg.PORT_CTL_MODE p.val) = 1 then 1 else 15))) ∧
  -- R46, R51: the link is lost.
  (∀ (s : State) (p : Fin 2),
      s.ready = true →
      s.dev.linkUp p.val = true →
      s.does (.portLinkDown p) (fun d =>
        d.linkUp p.val = false ∧ (d.port p.val).txWb = [] ∧ (d.port p.val).txFifo = [] ∧ d.on (Reg.PORT_EVT_LINK_DOWN p.val) = true ∧
        d.get (Reg.PORT_STS_LANE_OK p.val) = 0 ∧ s.dev.regsBut [Reg.PORT_STS p.val, Reg.PORT_EVT p.val] d ∧
        s.dev.restSame { d with port0 := s.dev.port0, port1 := s.dev.port1 })) ∧
  -- R46: MODE or ENABLE changes: the port restarts after the answer.
  (∀ (s : State) (who : Who) (p : Fin 2) (x : Word),
      s.live = true →
      s.dev.takesWrite who (Reg.PORT_CTL p.val) x = true →
      fieldOf x 0 3 ≠ fieldOf (s.dev.word (Reg.PORT_CTL p.val)) 0 3 →
      (s.dev.port p.val).pendingCtl = none →
      s.runs (.portCtlWrite who p x) (fun d => let r := d.csrWrite who (Reg.PORT_CTL p.val) x; r.1.reply r.2) (fun d =>
        d.answer.code = .ok ∧ fieldOf (d.word (Reg.PORT_CTL p.val)) 0 3 = fieldOf x 0 3 ∧
        (d.port p.val).pendingCtl = some (s.dev.port p.val).txWb.length ∧
        (d.port p.val).txWb = (s.dev.port p.val).txWb)) ∧
  -- R46: neither changes.
  (∀ (s : State) (who : Who) (p : Fin 2) (x : Word),
      s.ready = true →
      s.dev.takesWrite who (Reg.PORT_CTL p.val) x = true →
      fieldOf x 0 3 = fieldOf (s.dev.word (Reg.PORT_CTL p.val)) 0 3 →
      s.goes (.portCtlWrite who p x) (((s.dev.written who (Reg.PORT_CTL p.val) x).touch (0x5800 + p.val)).reply .ok)) ∧
  -- R47: a frame that is too short, at an awake port whose link is up; the fabric has taken what it took (R50).
  (∀ (s : State) (p : Fin 2) (f : RxFrame) (taken : Nat) (flips : List (Nat × BitVec 13)),
      s.ready = true →
      s.dev.domState (2 + p.val) = 0 →
      s.dev.on (Reg.DOM_STS_DRAINING (2 + p.val)) = false →
      s.dev.linkUp p.val = true →
      f.bytes.length < 64 →
      s.goes (.portRxFrame p f taken flips) (((s.dev.rxTake p.val taken flips).count (Reg.PORT_CNT_RUNT_CNT p.val)).raise
        (Reg.PORT_EVT_RUNT p.val))) ∧
  -- R47: one that is too long.
  (∀ (s : State) (p : Fin 2) (f : RxFrame) (taken : Nat) (flips : List (Nat × BitVec 13)),
      s.ready = true →
      s.dev.domState (2 + p.val) = 0 →
      s.dev.on (Reg.DOM_STS_DRAINING (2 + p.val)) = false →
      s.dev.linkUp p.val = true →
      s.dev.ctl (Reg.PORT_CTL_MAX_FRAME p.val) < f.bytes.length →
      64 ≤ f.bytes.length →
      s.goes (.portRxFrame p f taken flips) (((s.dev.rxTake p.val taken flips).count (Reg.PORT_CNT_OVERSIZE_CNT p.val)).raise
        (Reg.PORT_EVT_OVERSIZE p.val))) ∧
  -- R47: pause times of 802.3 or PFC, in a frame whose FCS holds.
  (∀ (s : State) (p : Fin 2) (f : RxFrame) (taken : Nat) (flips : List (Nat × BitVec 13)) (ts : List (Nat × Nat)),
      s.ready = true →
      s.dev.domState (2 + p.val) = 0 →
      s.dev.on (Reg.DOM_STS_DRAINING (2 + p.val)) = false →
      s.dev.linkUp p.val = true →
      64 ≤ f.bytes.length →
      f.bytes.length ≤ s.dev.ctl (Reg.PORT_CTL_MAX_FRAME p.val) →
      s.dev.toWaybill p f = none →
      (etherAt f.bytes).1 = 0x8808 →
      pauseTimes f.bytes (etherAt f.bytes).2 = some ts →
      f.fcsOk = true →
      s.goes (.portRxFrame p f taken flips) ((s.dev.rxTake p.val taken flips).rxPause p ts)) ∧
  -- R49, R50: a frame for the fabric, with room in the receive FIFO.
  (∀ (s : State) (p : Fin 2) (f : RxFrame) (taken : Nat) (flips : List (Nat × BitVec 13)),
      s.ready = true →
      s.dev.domState (2 + p.val) = 0 →
      s.dev.on (Reg.DOM_STS_DRAINING (2 + p.val)) = false →
      s.dev.linkUp p.val = true →
      64 ≤ f.bytes.length →
      f.bytes.length ≤ s.dev.ctl (Reg.PORT_CTL_MAX_FRAME p.val) →
      s.dev.toWaybill p f = none →
      (etherAt f.bytes).1 ≠ 0x8808 →
      ptpEventAt f.bytes = none →
      (s.dev.port p.val).rxFifo.length - taken + (f.bytes.length + 127) / 128 ≤ 128 →
      s.goes (.portRxFrame p f taken flips) (let d := s.dev.rxTake p.val taken flips
        d.setPort p.val { d.port p.val with rxFifo := (d.port p.val).rxFifo ++ frameWords f.bytes (!f.fcsOk) })) ∧
  -- R49: a good Waybill frame to this device goes to the Waybill engine.
  (∀ (s : State) (p : Fin 2) (f : RxFrame) (taken : Nat) (flips : List (Nat × BitVec 13)) (w : Nat × Nat × Carrier),
      s.live = true →
      s.dev.domState (2 + p.val) = 0 →
      s.dev.on (Reg.DOM_STS_DRAINING (2 + p.val)) = false →
      s.dev.linkUp p.val = true →
      64 ≤ f.bytes.length →
      f.bytes.length ≤ s.dev.ctl (Reg.PORT_CTL_MAX_FRAME p.val) →
      s.dev.toWaybill p f = some w →
      f.fcsOk = true →
      s.runs (.portRxFrame p f taken flips) (Dev.portRxFrame p f taken flips) (fun d =>
        d = (s.dev.rxTake p.val taken flips).wbMessage (frameReq p f w))) ∧
  -- R50, R51: the words of the fabric enter the transmit FIFO while it has room; the first frame the device has
  -- queued goes first, where nothing holds the port back.
  (∀ (s : State) (p : Fin 2) (user : List FifoWord) (dst prio : Nat) (c : Carrier) (bytes : List Byte) (rest : List TxFrame),
      s.ready = true →
      s.dev.linkUp p.val = true →
      s.dev.portAwake p.val = true →
      (s.dev.port p.val).txWb = .waybill dst c prio bytes :: rest →
      s.dev.txHeld p.val prio = false →
      s.goes (.portTxFrame p user) (let d := s.dev.txAccept p.val user
        d.setPort p.val { d.port p.val with txWb := rest, sent := [.waybill dst c prio bytes] })) ∧
  -- R50, R51: with none queued, the first whole user frame.
  (∀ (s : State) (p : Fin 2) (user : List FifoWord) (bs : List Byte) (rest : List FifoWord),
      s.ready = true →
      s.dev.linkUp p.val = true →
      s.dev.portAwake p.val = true →
      (s.dev.port p.val).txWb = [] →
      firstFrame ((s.dev.txAccept p.val user).port p.val).txFifo = some (bs, rest) →
      s.dev.txHeld p.val (Dev.bytesPrio bs) = false →
      ptpEventAt bs = none →
      s.goes (.portTxFrame p user) (let d := s.dev.txAccept p.val user
        d.setPort p.val { d.port p.val with txFifo := rest, sent := [.user bs] })) ∧
  -- R48: an IEEE 1588 event message of the fabric takes its timestamp as it leaves.
  (∀ (s : State) (p : Fin 2) (user : List FifoWord) (bs : List Byte) (rest : List FifoWord) (o : Nat),
      s.ready = true →
      s.dev.linkUp p.val = true →
      s.dev.portAwake p.val = true →
      (s.dev.port p.val).txWb = [] →
      firstFrame ((s.dev.txAccept p.val user).port p.val).txFifo = some (bs, rest) →
      s.dev.txHeld p.val (Dev.bytesPrio bs) = false →
      ptpEventAt bs = some o →
      s.does (.portTxFrame p user) (fun d => (d.port p.val).txStamp = s.dev.stamp ∧ (d.port p.val).txFifo = rest ∧
        (s.dev.ctlOn (Reg.PORT_CTL_TS_ONESTEP p.val) = false → (d.port p.val).sent = [.user bs])))

/-- REINIT is accepted in an ACTIVE region that is not held, and its pulse gives every flip-flop and slice its
initial value; two taps on a trunk disable it and record it, and it resumes once one is left; FORCE is stored
and waits for the region clock; a SLIP moves the word boundary two cycles on; at an edge of a network that runs,
every flip-flop takes the value R105 gives it from the values before the edge; an asserted asynchronous set or
reset loads SRVAL at once. -/
def Obligations.FabricCommands : Prop :=
  -- R118: accepted.
  (∀ (s : State) (who : Who) (n : Region),
      s.ready = true →
      s.dev.takes who (Reg.FF_CTL_REINIT n.val) = true →
      s.dev.rstate n.val = rsActive →
      s.dev.holdOn n.val = false →
      s.dev.on (Reg.FF_CTL_REINIT n.val) = false →
      s.goes (.reinit who n) ((((((s.dev.writtenCmd who (Reg.FF_CTL_REINIT n.val)).raise (Reg.FF_CTL_REINIT n.val)).raise
        (Reg.FF_STS_REINIT_BUSY n.val)).cmdStart (0x3C00 + n.val) 1).touch (0x3C00 + n.val)).reply .ok)) ∧
  -- R118: the pulse.
  (∀ (s : State) (n : Region),
      s.live = true →
      s.dev.on (Reg.FF_STS_REINIT_BUSY n.val) = true →
      s.dev.rclkRuns n (s.dev.activePlane n.val) = true →
      s.dev.holdOn n.val = false →
      s.runs (.reinitPulse n) (Dev.reinitPulse n) (fun d =>
        d.on (Reg.FF_CTL_REINIT n.val) = false ∧ d.on (Reg.FF_STS_REINIT_BUSY n.val) = false ∧
        d.on (Reg.FF_EVT_REINIT_DONE n.val) = true ∧
        (∀ k ∈ s.dev.ffKeys n.val (s.dev.activePlane n.val),
          SMap.get false d.ff k = s.dev.ffInit n.val (s.dev.activePlane n.val) k) ∧
        (∀ i : Fin 48, d.sliceSt n.val i.val = s.dev.sliceInit n.val (s.dev.activePlane n.val) i.val))) ∧
  -- R127: contention.
  (∀ (s : State) (n : Region) (t : Fin 512),
      s.ready = true →
      (n.val * 512 + t.val) ∉ s.dev.trunkOff →
      2 ≤ s.dev.tapsOf n.val t.val →
      s.does (.trunkContention n t) (fun d =>
        d.trunkOff = (n.val * 512 + t.val) :: s.dev.trunkOff ∧ d.on (Reg.ROUTE_EVT_TRUNK_CONTEND n.val) = true ∧
        d.get (Reg.ROUTE_STS_LAST_TRUNK n.val) = t.val ∧
        s.dev.regsBut [Reg.ROUTE_EVT n.val, Reg.ROUTE_STS n.val, Reg.ROUTE_CNT n.val] d ∧
        s.dev.restSame { d with trunkOff := s.dev.trunkOff })) ∧
  -- R127: the trunk resumes.
  (∀ (s : State) (n : Region) (t : Fin 512),
      s.ready = true →
      (n.val * 512 + t.val) ∈ s.dev.trunkOff →
      (n.val * 512 + t.val) ∈ s.dev.trunkFixed →
      s.dev.tapsOf n.val t.val < 2 →
      s.does (.trunkRestore n t) (fun d =>
        d.trunkOff = s.dev.trunkOff.erase (n.val * 512 + t.val) ∧ d.on (Reg.ROUTE_EVT_TRUNK_CLEAR n.val) = true ∧
        s.dev.regsBut [Reg.ROUTE_EVT n.val, Reg.ROUTE_STS n.val] d ∧
        s.dev.restSame { d with trunkOff := s.dev.trunkOff, trunkFixed := s.dev.trunkFixed })) ∧
  -- R133: FORCE.
  (∀ (s : State) (who : Who) (n : Region) (force : BitVec 4),
      s.ready = true →
      s.dev.takesField who (Reg.BORDER_CTL_FORCE n.val) force.toNat = true →
      s.goes (.borderForce who n force) ((((s.dev.writtenField who (Reg.BORDER_CTL_FORCE n.val) force.toNat).setRgn n.val
        { s.dev.rgnSt n.val with forceDue := decide (force.toNat ≠ (s.dev.rgnSt n.val).force) }).touch
        (aliasIndex (Reg.BORDER_CTL n.val))).reply .ok)) ∧
  -- R137: SLIP.
  (∀ (s : State) (n : Region) (c : Fin 48),
      s.ready = true →
      c.val < ioCells n.val →
      s.dev.ioWidth n.val c.val ≠ 0 →
      s.dev.holdOn n.val = false →
      s.dev.clocked n.val = true →
      (s.dev.ioSt n.val c.val).slipIn = 0 →
      s.goes (.ioSlip n c) (s.dev.setIo n.val c.val { s.dev.ioSt n.val c.val with slipIn := 2 })) ∧
  -- R105, R129: an edge of a network that runs; no set or reset was released inside the recovery window.
  (∀ (s : State) (net : Net) (falling : Bool) (samples : List IoSample),
      s.live = true →
      s.dev.netRuns net = true →
      s.dev.edgeDue net falling = true →
      s.runs (.activeClockEdge net falling samples []) (Dev.activeClockEdge net falling samples []) (fun d =>
        let e := s.dev.clockEdge net falling samples []
        d = e.rckFollow net ∧
        (∀ n : Region, s.dev.clocked n.val = true → ∀ k ∈ s.dev.ffKeys n.val (s.dev.activePlane n.val),
          SMap.get false e.ff k = s.dev.ffNext n (k % 131072 / 32) (k % 32 / 2) (k % 2) net falling none) ∧
        (∀ n : Region, s.dev.clocked n.val = true → ∀ k ∈ s.dev.inboundKeys n.val (s.dev.activePlane n.val),
          SMap.get false e.borderIn k = s.dev.inboundNext n k net falling) ∧
        (∀ n : Region, s.dev.clocked n.val = false → ∀ k, k / 131072 = n.val →
          SMap.get false e.ff k = SMap.get false s.dev.ff k))) ∧
  -- R105: asynchronous set or reset.
  (∀ (s : State) (n : Region) (i : Fin 4096) (line : Fin 2),
      s.ready = true →
      s.dev.holdOn n.val = false →
      s.dev.domState (regionDom n.val) < 2 →
      s.dev.clusterBits n.val i.val 62 1 = 1 →
      s.dev.srOn n.val i.val line.val = true →
      s.does (.asyncSetReset n i line) (fun d =>
        (∀ c : Fin 16, ∀ b : Fin 2, d.ffOf n.val i.val c.val b.val =
          (if s.dev.cellBits n.val i.val c.val (Dev.ffBase b.val + 4) 2 = line.val + 1 then
            s.dev.ffSrval n.val i.val c.val b.val else s.dev.ffOf n.val i.val c.val b.val)) ∧
        { d with ff := s.dev.ff } = s.dev))

/-- A port's request executes alone; at one edge requests in different banks both execute, in one bank on different
words port A wins and port B's request is retained and counted, and on one word a read of a word being written
gets the new bytes; a retained request executes in place of what port B presents; read data appears with RVALID
at the port's latency; the end of the fill sets FILL_DONE. -/
def Obligations.BlockMemoryPorts : Prop :=
  -- R149: port A alone at its own edge, in independent-clock mode.
  (∀ (s : State) (n : Region) (j : Fin 64) (a : BmReq) (b : Option BmReq),
      s.live = true →
      s.dev.bmOpen n.val = true →
      s.dev.bmBits n.val j.val 16 1 = 1 →
      s.dev.bmPortRuns n j.val false = true →
      ¬(a.we = true ∧ s.dev.bmReadOnly n.val j.val false = true) →
      s.runs (.bmPortRequest n j .a (some a) b) (Dev.bmPortRequest n j .a (some a) b) (fun d =>
        d = s.dev.bmExecute n.val j.val false (s.dev.bmAddressed n.val j.val false a) [])) ∧
  -- R149, R150, R161: one bank, different words: port A executes, port B waits and the stall is counted.
  (∀ (s : State) (n : Region) (j : Fin 64) (a b : BmReq),
      s.live = true →
      s.dev.bmOpen n.val = true →
      s.dev.bmPortRuns n j.val false = true →
      s.dev.bmPortRuns n j.val true = true →
      (s.dev.bmSt (64 * n.val + j.val)).retained = none →
      ¬(a.we = true ∧ s.dev.bmReadOnly n.val j.val false = true) →
      ¬(b.we = true ∧ s.dev.bmReadOnly n.val j.val true = true) →
      s.dev.bmMeet n.val j.val (s.dev.bmAddressed n.val j.val false a) (s.dev.bmAddressed n.val j.val true b) = 1 →
      s.runs (.bmPortRequest n j .both (some a) (some b)) (Dev.bmPortRequest n j .both (some a) (some b)) (fun d =>
        let d1 := s.dev.bmExecute n.val j.val false (s.dev.bmAddressed n.val j.val false a) []
        d = (d1.setBm (64 * n.val + j.val) { d1.bmSt (64 * n.val + j.val) with
            retained := some (s.dev.bmAddressed n.val j.val true b) }).count64
          (Reg.BM_STALL_STALLS n 0) (Reg.BM_STALL_STALLS n 1))) ∧
  -- R149: different banks: both execute.
  (∀ (s : State) (n : Region) (j : Fin 64) (a b : BmReq),
      s.live = true →
      s.dev.bmOpen n.val = true →
      s.dev.bmPortRuns n j.val false = true →
      s.dev.bmPortRuns n j.val true = true →
      (s.dev.bmSt (64 * n.val + j.val)).retained = none →
      ¬(a.we = true ∧ s.dev.bmReadOnly n.val j.val false = true) →
      ¬(b.we = true ∧ s.dev.bmReadOnly n.val j.val true = true) →
      s.dev.bmMeet n.val j.val (s.dev.bmAddressed n.val j.val false a) (s.dev.bmAddressed n.val j.val true b) = 0 →
      s.runs (.bmPortRequest n j .both (some a) (some b)) (Dev.bmPortRequest n j .both (some a) (some b)) (fun d =>
        d = (s.dev.bmExecute n.val j.val false (s.dev.bmAddressed n.val j.val false a) []).bmExecute n.val j.val true
          (s.dev.bmAddressed n.val j.val true b) [])) ∧
  -- R152: while the ports are closed nothing is taken.
  (∀ (s : State) (n : Region) (j : Fin 64) (edge : PortEdge) (a b : Option BmReq),
      s.ready = true →
      s.dev.bmOpen n.val = false →
      s.goes (.bmPortRequest n j edge a b) s.dev ∧ s.goes (.bmRetainedExecute n j a) s.dev) ∧
  -- R149: one word, port A writes and port B reads: B gets the bytes as written.
  (∀ (s : State) (n : Region) (j : Fin 64) (a b : BmReq),
      s.live = true →
      s.dev.bmOpen n.val = true →
      s.dev.bmPortRuns n j.val false = true →
      s.dev.bmPortRuns n j.val true = true →
      (s.dev.bmSt (64 * n.val + j.val)).retained = none →
      a.we = true →
      b.we = false →
      s.dev.bmReadOnly n.val j.val false = false →
      s.dev.bmMeet n.val j.val (s.dev.bmAddressed n.val j.val false a) (s.dev.bmAddressed n.val j.val true b) = 2 →
      s.runs (.bmPortRequest n j .both (some a) (some b)) (Dev.bmPortRequest n j .both (some a) (some b)) (fun d =>
        let x := s.dev.bmAddressed n.val j.val false a
        d = (s.dev.bmRead n.val j.val true (s.dev.bmAddressed n.val j.val true b)
          (s.dev.bmWritten n.val j.val false x)).bmExecute n.val j.val false x [])) ∧
  -- R150: the retained request.
  (∀ (s : State) (n : Region) (j : Fin 64) (y : BmReq),
      s.live = true →
      s.dev.bmOpen n.val = true →
      s.dev.bmPortRuns n j.val true = true →
      (s.dev.bmSt (64 * n.val + j.val)).retained = some y →
      s.runs (.bmRetainedExecute n j none) (Dev.bmRetainedExecute n j none) (fun d =>
        d = (s.dev.setBm (64 * n.val + j.val) { s.dev.bmSt (64 * n.val + j.val) with retained := none }).bmExecute
          n.val j.val true y [])) ∧
  -- R148: a read that is one edge away appears.
  (∀ (s : State) (n : Region) (j : Fin 64) (item : Nat) (poison : Bool) (rest : List (Nat × Nat × Bool)),
      s.ready = true →
      s.dev.holdOn n.val = false →
      s.dev.bmPortRuns n j.val false = true →
      (s.dev.bmSt (64 * n.val + j.val)).a.flight = (1, item, poison) :: rest →
      ∀ e ∈ rest, 2 ≤ e.1 →
      s.goes (.bmReadData n j false) (s.dev.setBm (64 * n.val + j.val) { s.dev.bmSt (64 * n.val + j.val) with
        a := { flight := rest.map (fun e => (e.1 - 1, e.2)), dout := item, rvalid := true, poison := poison } })) ∧
  -- R148: with nothing in flight RVALID falls.
  (∀ (s : State) (n : Region) (j : Fin 64),
      s.ready = true →
      s.dev.holdOn n.val = false →
      s.dev.bmPortRuns n j.val true = true →
      (s.dev.bmSt (64 * n.val + j.val)).b.flight = [] →
      s.goes (.bmReadData n j true) (s.dev.setBm (64 * n.val + j.val) { s.dev.bmSt (64 * n.val + j.val) with
        b := { (s.dev.bmSt (64 * n.val + j.val)).b with rvalid := false } })) ∧
  -- R154: the fill.
  (∀ (s : State) (n : Region),
      s.live = true →
      s.dev.on (Reg.BM_STS_FILL_BUSY n.val) = true →
      s.runs (.bmFillDone n) (Dev.bmFillDone n) (fun d =>
        d.on (Reg.BM_STS_FILL_BUSY n.val) = false ∧ d.on (Reg.BM_EVT_FILL_DONE n.val) = true ∧
        d.cells = ((List.range 64).foldl (Dev.fillBlock n.val ((s.dev.rgnSt n.val).startup ||
          decide (s.dev.domState (regionDom n.val) = 3))) s.dev).cells)) ∧
  -- R153: a block that INIT_MODE zeroes reads zero everywhere; one that keeps, keeps.
  (∀ (d : Dev) (n : Region) (j : Fin 64) (a : Nat),
      a < 8192 →
      (d.bmBits n.val j.val 29 2 = 0 → (Dev.fillBlock n.val false d j.val).cell (.bm (64 * n.val + j.val)) a = 0) ∧
      (d.bmBits n.val j.val 29 2 = 2 → Dev.fillBlock n.val false d j.val = d))

/-- An operand set enters M1 from the sources its record names while every stage advances; a sum at M4 is loaded
into its bank on FIRST and added otherwise, modulo 2^72 with GOV at an overflow; a LAST copies its banks for the
store path, which puts out one bank at an edge through the window, rounding, saturation and the GOV override;
SWITCH waits SWDLY edges; AG_ADV, AG_WE and AG_APPLY move and write the generator sets. -/
def Obligations.SliceCommands : Prop :=
  -- R166: an edge with nothing at M4.
  (∀ (s : State) (n : Region) (i : Fin 48) (ce : Bool) (x : OperandSet),
      s.ready = true →
      s.dev.sliceOpen n i.val ce = true →
      (s.dev.sliceSt n.val i.val).m4 = none →
      s.does (.sliceOperandSet n i ce x) (fun d =>
        let st := s.dev.sliceSt n.val i.val
        let t := d.sliceSt n.val i.val
        (∃ m, t.m1 = some m ∧ m.a = s.dev.operand n.val i.val 0 x.a ∧ m.b0 = s.dev.operand n.val i.val 18 x.b0 ∧
          m.first = x.first ∧ m.last = x.last ∧ m.tag = (Dev.takeSwitches st.cur st.switches).1) ∧
        t.m2 = st.m1.map (s.dev.preAdd n.val i.val) ∧ t.m3 = st.m2 ∧ t.m4 = st.m3.map (s.dev.sliceSums n.val i.val) ∧
        t.banks = st.banks ∧ t.stores = st.stores ∧ t.ag = st.ag ∧
        t.agAddr = Dev.agAddress (st.ag.getD (s.dev.agCurrent n.val i.val) {}) ∧ { d with slice := s.dev.slice } = s.dev)) ∧
  -- R170: one sum, not a LAST, that sets no GOV.
  (∀ (s : State) (n : Region) (i : Fin 48) (ce : Bool) (q : SliceSums) (k : Nat) (v : Int),
      s.ready = true →
      s.dev.sliceOpen n i.val ce = true →
      (s.dev.sliceSt n.val i.val).m4 = some q →
      q.sums = [(k, v)] →
      q.last = false →
      (Dev.bankAdd ((s.dev.sliceSt n.val i.val).banks.getD k {}) q.first v).2 = false →
      s.goes (.sliceAccumulate n i ce) (Dev.dspStep n.val i.val .gov false (s.dev.setSlice n.val i.val
        { s.dev.sliceSt n.val i.val with
          m4 := none
          banks := (s.dev.sliceSt n.val i.val).banks.set k
            (Dev.bankAdd ((s.dev.sliceSt n.val i.val).banks.getD k {}) q.first v).1 }))) ∧
  -- R170, R171: one sum of a LAST, with no store waiting, that sets no GOV.
  (∀ (s : State) (n : Region) (i : Fin 48) (ce : Bool) (q : SliceSums) (k : Nat) (v : Int),
      s.ready = true →
      s.dev.sliceOpen n i.val ce = true →
      (s.dev.sliceSt n.val i.val).m4 = some q →
      q.sums = [(k, v)] →
      q.last = true →
      q.stores = [k] →
      (s.dev.sliceSt n.val i.val).stores = [] →
      k < (s.dev.sliceSt n.val i.val).banks.length →
      (Dev.bankAdd ((s.dev.sliceSt n.val i.val).banks.getD k {}) q.first v).2 = false →
      s.goes (.sliceAccumulate n i ce) (Dev.dspStep n.val i.val .gov false (s.dev.setSlice n.val i.val
        { s.dev.sliceSt n.val i.val with
          m4 := none
          banks := (s.dev.sliceSt n.val i.val).banks.set k
            (Dev.bankAdd ((s.dev.sliceSt n.val i.val).banks.getD k {}) q.first v).1
          stores := [(k, (Dev.bankAdd ((s.dev.sliceSt n.val i.val).banks.getD k {}) q.first v).1)] }))) ∧
  -- R170, R183: one sum that sets GOV: it is recorded and counted, and DSP_LAST names the bank where no lower
  -- slice recorded one at this edge.
  (∀ (s : State) (n : Region) (i : Fin 48) (ce : Bool) (q : SliceSums) (k : Nat) (v : Int),
      s.live = true →
      s.dev.sliceOpen n i.val ce = true →
      (s.dev.sliceSt n.val i.val).m4 = some q →
      q.sums = [(k, v)] →
      k < (s.dev.sliceSt n.val i.val).banks.length →
      (Dev.bankAdd ((s.dev.sliceSt n.val i.val).banks.getD k {}) q.first v).2 = true →
      s.dev.dspLowest n.val i.val .gov = true →
      s.runs (.sliceAccumulate n i ce) (Dev.sliceAccumulate n i ce) (fun d =>
        d.on (Reg.DSP_EVT_GOV n.val) = true ∧ d.get (Reg.DSP_LAST_GOV_SLICE n.val) = i.val ∧
        d.get (Reg.DSP_LAST_GOV_BANK n.val) = k % 4 ∧ d.on (Reg.DSP_LAST_GOV_VALID n.val) = true ∧
        ((d.sliceSt n.val i.val).banks.getD k {}).gov = true)) ∧
  -- R171: the next store of the sequence, without an overrun.
  (∀ (s : State) (n : Region) (i : Fin 48) (ce : Bool) (k : Nat) (bank : Bank) (rest : List (Nat × Bank)),
      s.ready = true →
      s.dev.sliceOpen n i.val ce = true →
      (s.dev.sliceSt n.val i.val).stores = (k, bank) :: rest →
      (s.dev.sliceSt n.val i.val).overruns = 0 →
      (Dev.storeResult (s.dev.sliceBits n.val i.val 55 2) (s.dev.sliceBits n.val i.val 49 6) (Dev.satWidth (s.dev.sliceBits n.val i.val 57 3)) bank).2 = false →
      s.goes (.sliceStore n i ce) ((Dev.dspStep n.val i.val .sat false (Dev.dspStep n.val i.val .ovr false
        s.dev)).setSlice n.val i.val { s.dev.sliceSt n.val i.val with
        stores := rest, out := (Dev.storeResult (s.dev.sliceBits n.val i.val 55 2) (s.dev.sliceBits n.val i.val 49 6)
        (Dev.satWidth (s.dev.sliceBits n.val i.val 57 3)) bank).1, ovalid := true, obank := k, osat := false
        ogov := bank.gov, storedNow := true })) ∧
  -- R173, R176: SWITCH.
  (∀ (s : State) (n : Region) (i : Fin 48) (ce : Bool) (bsel : Fin 4),
      s.ready = true →
      s.dev.sliceOpen n i.val ce = true →
      s.goes (.switchBank n i ce bsel) (s.dev.setSlice n.val i.val { s.dev.sliceSt n.val i.val with
        switches := (s.dev.sliceSt n.val i.val).switches ++ [(s.dev.sliceBits n.val i.val 60 3, bsel.val)]
        agCur := if s.dev.sliceBits n.val i.val 63 1 = 1 then bsel.val else (s.dev.sliceSt n.val i.val).agCur })) ∧
  -- R177: AG_ADV in a linear mode.
  (∀ (s : State) (n : Region) (i : Fin 48) (ce : Bool),
      s.ready = true →
      s.dev.sliceOpen n i.val ce = true →
      s.dev.agWaits n.val i.val = false →
      ((s.dev.sliceSt n.val i.val).ag.getD (s.dev.agCurrent n.val i.val) {}).mode = 0 →
      s.goes (.agAdv n i ce) (s.dev.setSlice n.val i.val { s.dev.sliceSt n.val i.val with
        ag := (s.dev.sliceSt n.val i.val).ag.set (s.dev.agCurrent n.val i.val)
          { (s.dev.sliceSt n.val i.val).ag.getD (s.dev.agCurrent n.val i.val) {} with
            ptr := (((s.dev.sliceSt n.val i.val).ag.getD (s.dev.agCurrent n.val i.val) {}).ptr +
              ((s.dev.sliceSt n.val i.val).ag.getD (s.dev.agCurrent n.val i.val) {}).step) % 65536 }
        agWrap := false, wrapNow := none })) ∧
  -- R177, R179: AG_ADV in a circular mode: the new pointer lies in the buffer, and a wrap is reported.
  (∀ (s : State) (n : Region) (i : Fin 48) (ce : Bool) (g : AgSet),
      s.ready = true →
      s.dev.sliceOpen n i.val ce = true →
      s.dev.agWaits n.val i.val = false →
      (s.dev.sliceSt n.val i.val).ag.getD (s.dev.agCurrent n.val i.val) {} = g →
      g.mode = 1 →
      g.pend = none →
      g.base < 65536 →
      s.dev.agCurrent n.val i.val < (s.dev.sliceSt n.val i.val).ag.length →
      s.does (.agAdv n i ce) (fun d =>
        let t := d.sliceSt n.val i.val
        AgSet.offset (t.ag.getD (s.dev.agCurrent n.val i.val) {}) = (((AgSet.offset g : Int) + signed 16 g.step) % (AgSet.count g : Int)).toNat % 65536 ∧
        t.agWrap = (decide ((AgSet.offset g : Int) + signed 16 g.step < 0) ||
          decide ((AgSet.count g : Int) ≤ (AgSet.offset g : Int) + signed 16 g.step)))) ∧
  -- R178: AG_WE of BASE, PTR and STEP.
  (∀ (s : State) (n : Region) (i : Fin 48) (ce : Bool) (k reg : Fin 4) (x : BitVec 16),
      s.ready = true →
      s.dev.sliceOpen n i.val ce = true →
      reg ≠ 1 →
      s.goes (.agWe n i ce k reg x) (s.dev.setSlice n.val i.val { s.dev.sliceSt n.val i.val with
        ag := (s.dev.sliceSt n.val i.val).ag.set k.val
          (let g := (s.dev.sliceSt n.val i.val).ag.getD k.val {}
           if reg = 0 then { g with base := x.toNat }
           else if reg = 2 then { g with ptr := x.toNat } else { g with step := x.toNat }) })) ∧
  -- R178: AG_WE of LEN waits while the pointer is inside a circular buffer, and no wrap falls at this edge.
  (∀ (s : State) (n : Region) (i : Fin 48) (ce : Bool) (k : Fin 4) (x : BitVec 16),
      s.ready = true →
      s.dev.sliceOpen n i.val ce = true →
      ((s.dev.sliceSt n.val i.val).ag.getD k.val {}).mode = 1 →
      AgSet.offset ((s.dev.sliceSt n.val i.val).ag.getD k.val {}) < AgSet.count ((s.dev.sliceSt n.val i.val).ag.getD k.val {}) →
      (s.dev.sliceSt n.val i.val).wrapNow = none →
      s.goes (.agWe n i ce k 1 x) (s.dev.setSlice n.val i.val { s.dev.sliceSt n.val i.val with
        ag := (s.dev.sliceSt n.val i.val).ag.set k.val
          { (s.dev.sliceSt n.val i.val).ag.getD k.val {} with pend := some x.toNat } })) ∧
  -- R179: AG_APPLY.
  (∀ (s : State) (n : Region) (i : Fin 48) (ce : Bool),
      s.ready = true →
      s.dev.sliceOpen n i.val ce = true →
      s.goes (.agApply n i ce) (s.dev.setSlice n.val i.val { s.dev.sliceSt n.val i.val with
        ag := (s.dev.sliceSt n.val i.val).ag.set (s.dev.agCurrent n.val i.val)
          (AgSet.applyPending ((s.dev.sliceSt n.val i.val).ag.getD (s.dev.agCurrent n.val i.val) {})) }))

/-- A bank loads the sum on FIRST with GOV clear; otherwise it holds the sum modulo 2^72 as a signed value, and GOV
becomes set with the sign of the true sum exactly when the true sum leaves the 72-bit range while GOV was clear,
and stays set after; a result put out always fits the saturation width, is the extreme on the true sign's side
when GOV is set, and is reported saturated exactly when it differs from the rounded window or GOV is set. -/
def Obligations.AccumulatorAndStore : Prop :=
  -- R170
  (∀ (b : Bank) (v : Int),
      -(2 ^ 71) ≤ b.acc →
      b.acc < 2 ^ 71 →
      -(2 ^ 71) ≤ v →
      v < 2 ^ 71 →
      Dev.bankAdd b true v = ({ acc := v }, false) ∧
      ((Dev.bankAdd b false v).1.acc - (b.acc + v)) % 2 ^ 72 = 0 ∧
      -(2 ^ 71) ≤ (Dev.bankAdd b false v).1.acc ∧ (Dev.bankAdd b false v).1.acc < 2 ^ 71 ∧
      ((Dev.bankAdd b false v).1.gov = true ↔ b.gov = true ∨ b.acc + v < -(2 ^ 71) ∨ 2 ^ 71 ≤ b.acc + v) ∧
      ((Dev.bankAdd b false v).2 = true ↔ b.gov = false ∧ (b.acc + v < -(2 ^ 71) ∨ 2 ^ 71 ≤ b.acc + v)) ∧
      (b.gov = false → (Dev.bankAdd b false v).2 = true → (Dev.bankAdd b false v).1.gsign = decide (b.acc + v < 0))) ∧
  -- R171
  (∀ (rnd shift w : Nat) (b : Bank),
      0 < w →
      -(2 ^ (w - 1)) ≤ (Dev.storeResult rnd shift w b).1 ∧ (Dev.storeResult rnd shift w b).1 < 2 ^ (w - 1) ∧
      (b.gov = true → Dev.storeResult rnd shift w b = (if b.gsign then -(2 ^ (w - 1)) else 2 ^ (w - 1) - 1, true)) ∧
      (b.gov = false → ((Dev.storeResult rnd shift w b).2 = true ↔
        (Dev.storeResult rnd shift w b).1 ≠ Dev.roundWindow rnd shift b.acc)))

/-- The first lock sets ROOT_LOCK and ROOTCLK_OK and leaves the internal oscillator, and ends step 3 where it waited
for the root; a loss clears ROOT_LOCK and ROOTCLK_OK, holds every region, stops the buffers that follow, moves
to the internal oscillator and makes pack time invalid but on a lead dog; the return of the root locks it again
and starts the data-plane reset; the schedule boundary of a level change sets the new divisor and LEVEL_SWITCH. -/
def Obligations.ClockRoot : Prop :=
  -- R186, R197: the first lock, outside a start-up that waits for it.
  (∀ (s : State),
      s.ready = true →
      s.dev.on Reg.CLK_STS_ROOT_LOCK = false →
      s.dev.rootLost = false →
      s.dev.start.rootWait = false →
      s.goes .rootLock (((({ s.dev with rootT0 := s.dev.time } : Dev).raise Reg.CLK_STS_ROOT_LOCK).raise Reg.CLK_STS_ROOTCLK_OK).clear Reg.CLK_STS_ON_INTOSC)) ∧
  -- R197, R481: step 3 waited for the root.
  (∀ (s : State),
      s.ready = true →
      s.dev.on Reg.CLK_STS_ROOT_LOCK = false →
      s.dev.rootLost = false →
      s.dev.start.rootWait = true →
      s.dev.get Reg.START_STS_STEP = 3 →
      s.goes .rootLock ({ ((({ s.dev with rootT0 := s.dev.time } : Dev).raise Reg.CLK_STS_ROOT_LOCK).raise Reg.CLK_STS_ROOTCLK_OK).clear
          Reg.CLK_STS_ON_INTOSC with
        start := { s.dev.start with rootWait := false } }.set Reg.START_STS_STEP 4)) ∧
  -- R194, R195: the loss, of the clock itself or of the lock alone.
  (∀ (s : State) (good : Bool),
      s.live = true →
      s.dev.rootLost = false →
      s.dev.on Reg.CLK_STS_ROOT_LOCK = true →
      s.runs (.rootLoss good) (Dev.rootLoss good) (fun d =>
        d.on Reg.CLK_STS_ROOT_LOCK = false ∧ d.on Reg.CLK_STS_ROOTCLK_OK = good ∧ d.on Reg.CLK_STS_ON_INTOSC = true ∧
        d.on Reg.CLK_EVT_ROOT_LOSS = true ∧ d.rootLost = true ∧
        (∀ n : Region, d.on (Reg.FF_STS_HOLD n.val) = true) ∧
        d.on Reg.PACK_STS_TIME_VALID = s.dev.on Reg.PACK_STS_IS_LEAD ∧
        d.frames = s.dev.frames ∧ d.ff = s.dev.ff ∧ d.cells = s.dev.cells ∧ d.flash = s.dev.flash ∧ d.mp = s.dev.mp)) ∧
  -- R196: the return. Outside steps 1 to 3 the data-plane reset follows, with cause 5.
  (∀ (s : State),
      s.live = true →
      s.dev.rootLost = true →
      ¬(1 ≤ s.dev.get Reg.START_STS_STEP ∧ s.dev.get Reg.START_STS_STEP ≤ 3) →
      s.runs .rootReturn Dev.rootReturn (fun d =>
        d.on Reg.CLK_STS_ROOT_LOCK = true ∧ d.on Reg.CLK_STS_ROOTCLK_OK = true ∧ d.on Reg.CLK_STS_ON_INTOSC = false ∧
        d.on Reg.CLK_EVT_ROOT_RETURN = true ∧ d.rootLost = false ∧ d.pack.stepNext = true ∧
        d.get Reg.START_STS_STEP = 4 ∧ d.get Reg.RST_CAUSE_CAUSE = 5 ∧ d.on Reg.START_STS_DP_BUSY = true ∧ d.on Reg.RST_EVT_DP_STARTED = true)) ∧
  -- R190, R413: a change to a lower level, whose divisor is due: the network's rail follows.
  (∀ (s : State) (l : Nat),
      s.ready = true →
      s.dev.pwr.change = some l →
      s.dev.pwr.divDue = true →
      s.dev.noc.phase = 0 →
      s.dev.get Reg.NOC_STS_SLOT = 0 →
      s.dev.on Reg.CLK_STS_ROOT_LOCK = true →
      l ≤ s.dev.get Reg.PWR_STS_LEVEL →
      s.goes .levelSwitch { ((s.dev.set Reg.CLK_STS_NOC_DIV (Dev.levelDiv l)).raise Reg.CLK_EVT_LEVEL_SWITCH).set
        Reg.PWR_STS_LEVEL l with
        pwr := { s.dev.pwr with divDue := false, nocMv := some (Dev.levelMv l) } }) ∧
  -- R190, R413: a change to a higher level ends with its divisor.
  (∀ (s : State) (l : Nat),
      s.ready = true →
      s.dev.pwr.change = some l →
      s.dev.pwr.divDue = true →
      s.dev.noc.phase = 0 →
      s.dev.get Reg.NOC_STS_SLOT = 0 →
      s.dev.on Reg.CLK_STS_ROOT_LOCK = true →
      s.dev.get Reg.PWR_STS_LEVEL < l →
      s.goes .levelSwitch ({ ((s.dev.set Reg.CLK_STS_NOC_DIV (Dev.levelDiv l)).raise Reg.CLK_EVT_LEVEL_SWITCH).set
        Reg.PWR_STS_LEVEL l with
        pwr := { s.dev.pwr with divDue := false } }.levelEnd true)) ∧
  -- R190: away from the schedule-cycle boundary the change waits.
  (∀ (s : State),
      s.ready = true →
      s.dev.noc.phase ≠ 0 ∨ s.dev.get Reg.NOC_STS_SLOT ≠ 0 →
      s.goes .levelSwitch s.dev)

/-- APPLY starts a measurement with the staged settings, or is answered BUSY while one runs; the measurement refuses
settings outside the limits of R199 with APPLY_ERR, or stops the outputs and relocks; the lock starts the
enabled outputs and ends the APPLY; a lost input stops the outputs, clears LOCK and sets FS_LOL and LAST_FS;
when it returns the synthesizer relocks; OUT_EN starts and stops the outputs of a locked synthesizer. -/
def Obligations.ClockSynthesizers : Prop :=
  -- R200: APPLY.
  (∀ (s : State) (who : Who) (y : Fin 16),
      s.ready = true →
      s.dev.takes who (Reg.FS_CTL_APPLY y.val) = true →
      s.dev.on (Reg.FS_STS_APPLY_BUSY y.val) = false →
      s.does (.apply who y) (fun d =>
        d.answer.code = .ok ∧ d.on (Reg.FS_STS_APPLY_BUSY y.val) = true ∧
        (d.fsSt y.val).measuring = some (s.dev.word (Reg.FS_CTL y.val), s.dev.word (Reg.FS_DIV y.val), s.dev.word (Reg.FS_ODIV y.val)) ∧
        s.dev.regsBut [Reg.FS_CTL y.val, Reg.FS_STS y.val] d ∧ s.dev.restSame { d with fs := s.dev.fs })) ∧
  -- R200, R70: BUSY while one runs.
  (∀ (s : State) (who : Who) (y : Fin 16),
      s.ready = true →
      s.dev.takes who (Reg.FS_CTL_APPLY y.val) = true →
      s.dev.on (Reg.FS_STS_APPLY_BUSY y.val) = true →
      s.does (.apply who y) (fun d => d.answer.code = .busy ∧ (∀ o, d.word o = s.dev.word o) ∧ d.fs = s.dev.fs)) ∧
  -- R199, R200: the input is absent or the settings break a limit: APPLY_ERR.
  (∀ (s : State) (y : Fin 16) (present : Bool) (khz : Nat) (x : Word × Word × Word),
      s.ready = true →
      (s.dev.fsSt y.val).measuring = some x →
      (s.dev.fsInput x present khz).any (Dev.limitsHold x) = false →
      s.does (.fsApplyMeasured y present khz) (fun d =>
        d.on (Reg.FS_STS_APPLY_ERR y.val) = true ∧ d.on (Reg.FS_STS_APPLY_BUSY y.val) = false ∧ d.on Reg.CLK_EVT_APPLY_DONE = true ∧
        d.on (Reg.FS_STS_SRC_PRESENT y.val) = (s.dev.fsInput x present khz).isSome ∧
        d.get (Reg.FS_STS_IN_MHZ y.val) = (s.dev.fsInput x present khz).getD 0 / 1000 % 2 ^ (Reg.FS_STS_IN_MHZ y.val).w ∧
        d.on (Reg.FS_STS_LOCK y.val) = s.dev.on (Reg.FS_STS_LOCK y.val) ∧
        d.fsSt y.val = { s.dev.fsSt y.val with measuring := none } ∧
        s.dev.regsBut [Reg.FS_STS y.val, Reg.CLK_EVT] d ∧ s.dev.restSame { d with fs := s.dev.fs })) ∧
  -- R199, R200: the limits hold: the outputs stop and the synthesizer relocks.
  (∀ (s : State) (y : Fin 16) (present : Bool) (khz : Nat) (x : Word × Word × Word),
      s.ready = true →
      (s.dev.fsSt y.val).measuring = some x →
      (s.dev.fsInput x present khz).any (Dev.limitsHold x) = true →
      s.does (.fsApplyMeasured y present khz) (fun d =>
        d.fsSt y.val = { s.dev.fsSt y.val with applied := some x, measuring := none, running := 0, relock := true, waitInput := false, before := (s.dev.fsSt y.val).applied } ∧
        d.on (Reg.FS_STS_LOCK y.val) = false ∧ d.on (Reg.FS_STS_APPLY_ERR y.val) = false ∧ d.on (Reg.FS_STS_SRC_PRESENT y.val) = true ∧
        (∀ y' : Fin 16, y' ≠ y → d.fsSt y'.val = s.dev.fsSt y'.val) ∧
        s.dev.restSame { d with fs := s.dev.fs, gck := s.dev.gck })) ∧
  -- R200: the lock.
  (∀ (s : State) (y : Fin 16) (x : Word × Word × Word),
      s.ready = true →
      (s.dev.fsSt y.val).applied = some x →
      (s.dev.fsSt y.val).relock = true →
      (s.dev.fsSt y.val).measuring = none →
      fieldOf x.1 6 2 ≠ 0 ∨ s.dev.on Reg.CLK_STS_ROOT_LOCK = true →
      s.does (.fsLock y) (fun d =>
        d.fsSt y.val = { s.dev.fsSt y.val with relock := false, running := s.dev.outEn y.val } ∧
        d.on (Reg.FS_STS_LOCK y.val) = true ∧ d.bit Reg.CLK_STS_FS_LOCK y.val = true ∧
        (s.dev.on (Reg.FS_STS_APPLY_BUSY y.val) = true →
          d.on (Reg.FS_STS_APPLY_BUSY y.val) = false ∧ d.on Reg.CLK_EVT_APPLY_DONE = true) ∧
        s.dev.regsBut [Reg.FS_STS y.val, Reg.CLK_STS, Reg.CLK_EVT] d ∧ s.dev.restSame { d with fs := s.dev.fs })) ∧
  -- R201: the loss of lock, by a stop or a drift of the input.
  (∀ (s : State) (y : Fin 16) (drift : Bool) (written : List (Fin 32)),
      s.ready = true →
      s.dev.on (Reg.FS_STS_LOCK y.val) = true →
      s.dev.onRootFeed y.val = false →
      s.does (.fsLol y drift written) (fun d =>
        d.fsSt y.val = { s.dev.fsSt y.val with running := 0, waitInput := true } ∧
        d.on (Reg.FS_STS_LOCK y.val) = false ∧ d.bit Reg.CLK_STS_FS_LOCK y.val = false ∧ d.on (Reg.FS_STS_SRC_PRESENT y.val) = (drift && s.dev.on (Reg.FS_STS_SRC_PRESENT y.val)) ∧
        (∀ g ∈ written, d.gckSt g.val = s.dev.gckSt g.val) ∧ d.on Reg.CLK_EVT_FS_LOL = true ∧ d.get Reg.CLK_STS_LAST_FS = y.val ∧
        (∀ y' : Fin 16, y' ≠ y → d.fsSt y'.val = s.dev.fsSt y'.val) ∧
        s.dev.restSame { d with fs := s.dev.fs, gck := s.dev.gck })) ∧
  -- R202, R206: a buffer on it whose AUTO_ALT is 1 starts to switch to ALT.
  (∀ (s : State) (y : Fin 16) (drift : Bool) (written : List (Fin 32)) (g : Fin 32),
      s.ready = true →
      s.dev.on (Reg.FS_STS_LOCK y.val) = true →
      s.dev.onRootFeed y.val = false →
      g ∉ written →
      s.dev.safe Reg.CLK_STS = false →
      s.dev.get (Reg.GCK_SEL_SRC g.val) / 4 = y.val →
      s.dev.on (Reg.GCK_SEL_AUTO_ALT g.val) = true →
      s.dev.on (Reg.GCK_SEL_ON_ALT g.val) = false →
      s.dev.on (Reg.GCK_SEL_SWITCH_BUSY g.val) = false →
      s.does (.fsLol y drift written) (fun d =>
        d.on (Reg.GCK_SEL_SWITCH_BUSY g.val) = true ∧ d.on (Reg.GCK_SEL_ON_ALT g.val) = true ∧ d.on Reg.CLK_EVT_GCK_AUTO = true ∧
        (d.gckSt g.val).target = s.dev.get (Reg.GCK_SEL_ALT g.val) ∧ (d.gckSt g.val).toAlt = true)) ∧
  -- R201: the input returns.
  (∀ (s : State) (y : Fin 16),
      s.ready = true →
      (s.dev.fsSt y.val).waitInput = true →
      s.dev.onRootFeed y.val = false ∨ s.dev.on Reg.CLK_STS_ROOT_LOCK = true →
      s.goes (.fsInputReturn y) ((s.dev.setFs y.val { s.dev.fsSt y.val with waitInput := false, relock := true }).raise
        (Reg.FS_STS_SRC_PRESENT y.val))) ∧
  -- R200: OUT_EN, on a locked synthesizer.
  (∀ (s : State) (who : Who) (y : Fin 16) (outs : BitVec 4),
      s.ready = true →
      s.dev.takesField who (Reg.FS_CTL_OUT_EN y.val) outs.toNat = true →
      s.dev.on (Reg.FS_STS_LOCK y.val) = true →
      s.dev.safe (Reg.FS_CTL y.val) = false →
      s.does (.fsOutEnWrite who y outs) (fun d =>
        d.answer.code = .ok ∧ d.get (Reg.FS_CTL_OUT_EN y.val) = outs.toNat ∧
        d.fsSt y.val = { s.dev.fsSt y.val with running := outs.toNat } ∧
        s.dev.regsBut [Reg.FS_CTL y.val] d ∧ s.dev.restSame { d with fs := s.dev.fs })) ∧
  -- R200: OUT_EN, on one that is not locked.
  (∀ (s : State) (who : Who) (y : Fin 16) (outs : BitVec 4),
      s.ready = true →
      s.dev.takesField who (Reg.FS_CTL_OUT_EN y.val) outs.toNat = true →
      s.dev.on (Reg.FS_STS_LOCK y.val) = false →
      s.dev.safe (Reg.FS_CTL y.val) = false →
      s.does (.fsOutEnWrite who y outs) (fun d =>
        d.answer.code = .ok ∧ d.get (Reg.FS_CTL_OUT_EN y.val) = outs.toNat ∧
        s.dev.regsBut [Reg.FS_CTL y.val] d ∧ s.dev.restSame d))

/-- A write of GCK_SEL that changes SRC starts a switch to it, and while a switch runs a write is answered BUSY; the
end of a switch passes its target and sets GCK_SWITCH_DONE; a write of RING_CTL stores its fields; a measurement
of an enabled ring sets MEAS_MHZ while the root is locked. -/
def Obligations.ClockBuffersAndRings : Prop :=
  -- R202: SRC changes.
  (∀ (s : State) (who : Who) (g : Fin 32) (x : Word),
      s.ready = true →
      s.dev.takesWrite who (Reg.GCK_SEL g.val) x = true →
      s.dev.safe (Reg.GCK_SEL g.val) = false →
      fieldOf x 0 7 ≠ s.dev.get (Reg.GCK_SEL_SRC g.val) →
      s.does (.gckSelWrite who g x) (fun d =>
        d.answer.code = .ok ∧ d.get (Reg.GCK_SEL_SRC g.val) = fieldOf x 0 7 ∧ d.on (Reg.GCK_SEL_SWITCH_BUSY g.val) = true ∧
        (d.gckSt g.val).target = fieldOf x 0 7 ∧ (d.gckSt g.val).toAlt = false ∧ (d.gckSt g.val).cur = (s.dev.gckSt g.val).cur ∧
        s.dev.regsBut [Reg.GCK_SEL g.val] d ∧ s.dev.restSame { d with gck := s.dev.gck })) ∧
  -- R202: while SWITCH_BUSY is 1.
  (∀ (s : State) (who : Who) (g : Fin 32) (x : Word),
      s.ready = true →
      who.deniedCsr = false →
      s.dev.csrGuarded (Reg.GCK_SEL g.val) x = false ∨ s.dev.armed who = true →
      s.dev.on (Reg.GCK_SEL_SWITCH_BUSY g.val) = true →
      s.does (.gckSelWrite who g x) (fun d => d.answer.code = .busy ∧ { d with unlocks := s.dev.unlocks, answer := s.dev.answer } = s.dev)) ∧
  -- R202: the switch ends.
  (∀ (s : State) (g : Fin 32),
      s.ready = true →
      s.dev.on (Reg.GCK_SEL_SWITCH_BUSY g.val) = true →
      (s.dev.gckSt g.val).autoDue = false →
      s.does (.gckSwitchDone g) (fun d =>
        d.gckSt g.val = { s.dev.gckSt g.val with cur := (s.dev.gckSt g.val).target } ∧
        d.on (Reg.GCK_SEL_SWITCH_BUSY g.val) = false ∧ d.on (Reg.GCK_SEL_ON_ALT g.val) = (s.dev.gckSt g.val).toAlt ∧
        d.on Reg.CLK_EVT_GCK_SWITCH_DONE = true ∧
        s.dev.regsBut [Reg.GCK_SEL g.val, Reg.CLK_EVT] d ∧ s.dev.restSame { d with gck := s.dev.gck })) ∧
  -- R198: RING_CTL.
  (∀ (s : State) (who : Who) (r : Fin 4) (x : Word),
      s.ready = true →
      s.dev.takesWrite who (Reg.RING_CTL r.val) x = true →
      s.goes (.ringCtlWrite who r x) (((s.dev.written who (Reg.RING_CTL r.val) x).touch (aliasIndex (Reg.RING_CTL r.val))).reply .ok)) ∧
  -- R198: the measurement.
  (∀ (s : State) (r : Fin 4) (mhz : Nat),
      s.ready = true →
      s.dev.on Reg.CLK_STS_ROOT_LOCK = true →
      s.dev.ringRuns r.val = true →
      s.goes (.ringMeasure r mhz) (s.dev.set (Reg.RING_CTL_MEAS_MHZ r.val) mhz))

/-- LOAD makes the shadow plane LOADING and reads the header at RGN_SRC, and is answered BUSY while a load runs or
TARGET_ERR for an address that breaks R218; SWAP of a VERIFIED shadow captures DELAY and makes the region
SWAPPING; ABORT ends a load of the region or a swap before edge E, and otherwise is flagged LATE; DISCARD
empties a shadow plane; RETIRE takes the region out of service with both planes EMPTY. -/
def Obligations.RegionCommands : Prop :=
  -- R218: LOAD.
  (∀ (s : State) (who : Who) (n : Region),
      s.ready = true →
      s.dev.takes who (Reg.RGN_CTL_LOAD n.val) = true →
      s.dev.load = none →
      s.dev.rstate n.val ≠ rsSwapping →
      Dev.streamAddrOk (s.dev.get (Reg.RGN_SRC_HI_SRC n.val) * 2 ^ 32 + s.dev.get (Reg.RGN_SRC_LO_SRC n.val)) = true →
      s.goes (.load who n)
        (let a := s.dev.get (Reg.RGN_SRC_HI_SRC n.val) * 2 ^ 32 + s.dev.get (Reg.RGN_SRC_LO_SRC n.val)
         let d1 := (((s.dev.writtenCmd who (Reg.RGN_CTL_LOAD n.val)).shadowEmpty n.val).set
           (Reg.RGN_STS_SHADOW n.val) ssLoading).cmdStart (0x3800 + n.val) 1
         ((((d1.loadBegin { kind := 2, src := .dram a, region := n.val, touched := [n.val] }).dramHeader a
           (s.dev.get (Reg.RGN_LEN_LEN n.val))).showScrub).touch (aliasIndex (Reg.RGN_CTL n.val))).reply .ok)) ∧
  -- R218: a load runs, or the region swaps: BUSY.
  (∀ (s : State) (who : Who) (n : Region),
      s.ready = true →
      s.dev.takes who (Reg.RGN_CTL_LOAD n.val) = true →
      s.dev.load ≠ none ∨ s.dev.rstate n.val = rsSwapping →
      s.does (.load who n) (fun d => d.answer.code = .busy ∧ d.load = s.dev.load ∧ d.frames = s.dev.frames ∧ (∀ o, d.word o = s.dev.word o))) ∧
  -- R219: SWAP.
  (∀ (s : State) (who : Who) (n : Region),
      s.ready = true →
      s.dev.takes who (Reg.RGN_CTL_SWAP n.val) = true →
      s.dev.rstate n.val ≠ rsSwapping →
      s.dev.rstate n.val ≠ rsHeld →
      s.dev.gateOpen n.val = true →
      s.dev.marchCovers false n.val = false →
      s.dev.sstate n.val = ssVerified →
      s.goes (.swap who n) ((((s.dev.writtenCmd who (Reg.RGN_CTL_SWAP n.val)).swapAccept n.val false).touch (aliasIndex (Reg.RGN_CTL n.val))).reply .ok)) ∧
  -- R219: what an accepted SWAP leaves.
  (∀ (s : State) (who : Who) (n : Region),
      s.ready = true →
      s.dev.takes who (Reg.RGN_CTL_SWAP n.val) = true →
      s.dev.rstate n.val ≠ rsSwapping →
      s.dev.rstate n.val ≠ rsHeld →
      s.dev.gateOpen n.val = true →
      s.dev.marchCovers false n.val = false →
      s.dev.sstate n.val = ssVerified →
      s.does (.swap who n) (fun d => d.answer.code = .ok ∧ d.rstate n.val = rsSwapping ∧
        (d.rgnSt n.val).delay = s.dev.get (Reg.RGN_CTL_DELAY n.val) ∧
        (d.rgnSt n.val).fromActive = decide (s.dev.rstate n.val = rsActive) ∧
        s.dev.regsBut [Reg.RGN_CTL n.val, Reg.RGN_STS n.val] d ∧ s.dev.restSame { d with rgn := s.dev.rgn })) ∧
  -- R219, R44: SWAP without a VERIFIED shadow.
  (∀ (s : State) (who : Who) (n : Region),
      s.ready = true →
      s.dev.takes who (Reg.RGN_CTL_SWAP n.val) = true →
      s.dev.rstate n.val ≠ rsSwapping →
      s.dev.rstate n.val ≠ rsHeld →
      s.dev.gateOpen n.val = true →
      s.dev.marchCovers false n.val = false →
      s.dev.sstate n.val ≠ ssVerified →
      s.does (.swap who n) (fun d => d.answer.code = .targetErr ∧ d.rgn = s.dev.rgn ∧ (∀ o, d.word o = s.dev.word o))) ∧
  -- R216, R260: ABORT of a load of the region.
  (∀ (s : State) (who : Who) (n : Region) (l : LoadSt),
      s.ready = true →
      s.dev.takes who (Reg.RGN_CTL_ABORT n.val) = true →
      s.dev.load = some l →
      l.kind = 2 →
      l.region = n.val →
      s.goes (.abort who n) (((((s.dev.writtenCmd who (Reg.RGN_CTL_ABORT n.val)).loadFail 0x12 l.place).cmdDone (0x3800 + n.val) 3 .ok).touch
        (aliasIndex (Reg.RGN_CTL n.val))).reply .ok)) ∧
  -- R216, R252: what it leaves.
  (∀ (s : State) (who : Who) (n : Region) (l : LoadSt),
      s.ready = true →
      s.dev.takes who (Reg.RGN_CTL_ABORT n.val) = true →
      s.dev.load = some l →
      l.kind = 2 →
      l.region = n.val →
      l.touched = [n.val] →
      s.does (.abort who n) (fun d => d.answer.code = .ok ∧ d.load = none ∧ d.sstate n.val = ssEmpty ∧
        d.on (Reg.RGN_EVT_LOAD_FAIL n.val) = true ∧ d.get (Reg.RGN_STS_LOAD_CODE n.val) = Code.aborted.num ∧
        d.get Reg.CFG_LOAD_STS_CAUSE = 0x12 ∧ d.on Reg.CFG_LOAD_STS_BUSY = false ∧ d.on Reg.CFG_EVT_LOAD_FAIL = true ∧
        (∀ f : Fin 5120, d.frame n.val (s.dev.activePlane n.val) f.val = s.dev.frame n.val (s.dev.activePlane n.val) f.val) ∧
        (∀ m : Region, m ≠ n → ∀ p : Fin 2, ∀ f : Fin 5120, d.frame m.val p.val f.val = s.dev.frame m.val p.val f.val))) ∧
  -- R216: ABORT of a swap before edge E.
  (∀ (s : State) (who : Who) (n : Region),
      s.ready = true →
      s.dev.takes who (Reg.RGN_CTL_ABORT n.val) = true →
      s.dev.load = none →
      s.dev.rstate n.val = rsSwapping →
      s.goes (.abort who n) (((((s.dev.writtenCmd who (Reg.RGN_CTL_ABORT n.val)).swapEnd n.val .aborted).cmdDone (0x3800 + n.val) 3 .ok).touch
        (aliasIndex (Reg.RGN_CTL n.val))).reply .ok)) ∧
  -- R89, R228: an ABORT that comes no earlier than the completion of the load or swap that ended last is flagged
  -- LATE on its run.
  (∀ (s : State) (who : Who) (n : Region),
      s.ready = true →
      s.dev.takes who (Reg.RGN_CTL_ABORT n.val) = true →
      s.dev.load.any (fun l => l.kind == 2 && l.region == n.val) = false →
      s.dev.rstate n.val ≠ rsSwapping →
      (s.dev.rgnSt n.val).last ≠ 0 →
      s.goes (.abort who n) (((((s.dev.writtenCmd who (Reg.RGN_CTL_ABORT n.val)).cmdLate (0x3800 + n.val) (s.dev.rgnSt n.val).last).cmdDone (0x3800 + n.val) 3 .ok).touch
        (aliasIndex (Reg.RGN_CTL n.val))).reply .ok)) ∧
  -- R217: DISCARD of a VERIFIED shadow plane.
  (∀ (s : State) (who : Who) (n : Region),
      s.ready = true →
      s.dev.takes who (Reg.RGN_CTL_DISCARD n.val) = true →
      s.dev.rstate n.val ≠ rsSwapping →
      s.dev.sstate n.val = ssVerified →
      s.does (.discard who n) (fun d => d.answer.code = .ok ∧ d.sstate n.val = ssEmpty ∧ d.rstate n.val = s.dev.rstate n.val ∧
        (∀ w : Fin 16, d.get (Reg.SHADOW_DIGEST_DIGEST n.val w.val) = 0) ∧
        (∀ f : Fin 5120, d.frame n.val (1 - s.dev.activePlane n.val) f.val = 0) ∧
        (∀ f : Fin 5120, d.frame n.val (s.dev.activePlane n.val) f.val = s.dev.frame n.val (s.dev.activePlane n.val) f.val) ∧
        (∀ m : Region, m ≠ n → ∀ p : Fin 2, ∀ f : Fin 5120, d.frame m.val p.val f.val = s.dev.frame m.val p.val f.val) ∧
        s.dev.restSame { d with frames := s.dev.frames, scrub := s.dev.scrub, planes := s.dev.planes })) ∧
  -- R217, R228: DISCARD is BUSY while a swap waits or the plane loads.
  (∀ (s : State) (who : Who) (n : Region),
      s.ready = true →
      s.dev.takes who (Reg.RGN_CTL_DISCARD n.val) = true →
      s.dev.rstate n.val = rsSwapping ∨ s.dev.sstate n.val = ssLoading →
      s.does (.discard who n) (fun d => d.answer.code = .busy ∧ d.frames = s.dev.frames ∧ (∀ o, d.word o = s.dev.word o))) ∧
  -- R227: RETIRE.
  (∀ (s : State) (who : Who) (n : Region),
      s.live = true →
      s.dev.takes who (Reg.RGN_CTL_RETIRE n.val) = true →
      s.runs (.retire who n) (fun d => let r := d.command who (Reg.RGN_CTL_RETIRE n.val); r.1.reply r.2) (fun d =>
        d.answer.code = .ok ∧ d.rstate n.val = rsRetired ∧ d.sstate n.val = ssEmpty ∧ d.goldenValid n.val = false ∧
        d.on (Reg.FF_STS_HOLD n.val) = true ∧ d.on (Reg.RGN_EVT_RETIRED_EVT n.val) = true ∧
        (∀ f : Fin 5120, d.frame n.val 0 f.val = 0 ∧ d.frame n.val 1 f.val = 0) ∧ d.flash = s.dev.flash ∧ d.cells = s.dev.cells))

/-- At edge E the planes exchange roles, the region is HELD with its hold asserted and HOLD_LEFT at the captured
DELAY, the fill starts, and the outgoing plane becomes the VERIFIED shadow where it held an active image; a
frame that awaits its re-read, or a REINIT, makes E wait; at the release the hold lifts and the region is
ACTIVE. -/
def Obligations.EdgeAndRelease : Prop :=
  -- R220, R221: edge E.
  (∀ (s : State) (n : Region) (cd48 : Nat),
      s.live = true →
      s.dev.rstate n.val = rsSwapping →
      2 ≤ cd48 →
      s.dev.rclkRuns n (if (s.dev.rgnSt n.val).fromActive then s.dev.activePlane n.val else 1 - s.dev.activePlane n.val) = true →
      s.dev.scrubPending n.val = false →
      s.dev.on (Reg.FF_STS_REINIT_BUSY n.val) = false →
      s.runs (.swapEdge n cd48) (Dev.swapEdge n cd48) (fun d =>
        d.rstate n.val = rsHeld ∧ d.activePlane n.val = 1 - s.dev.activePlane n.val ∧
        d.sstate n.val = (if (s.dev.rgnSt n.val).fromActive then ssVerified else ssEmpty) ∧
        d.on (Reg.FF_STS_HOLD n.val) = true ∧
        d.get (Reg.RGN_STS_HOLD_LEFT n.val) = (s.dev.rgnSt n.val).delay % 2 ^ (Reg.RGN_STS_HOLD_LEFT n.val).w ∧
        d.on (Reg.RGN_EVT_SWAPPED n.val) = true ∧ d.on (Reg.RGN_STS_CARRIED n.val) = s.dev.carryApplies n.val ∧
        d.goldenValid n.val = false ∧
        d.on Reg.SCRUB_STS_GOLDEN_USABLE = (s.dev.on Reg.SCRUB_STS_GOLDEN_USABLE || s.dev.goldenPlace))) ∧
  -- R220: E waits for the scrubber; the first time SCRUB_WAIT is set.
  (∀ (s : State) (n : Region) (cd48 : Nat),
      s.ready = true →
      s.dev.rstate n.val = rsSwapping →
      2 ≤ cd48 →
      s.dev.rclkRuns n (if (s.dev.rgnSt n.val).fromActive then s.dev.activePlane n.val else 1 - s.dev.activePlane n.val) = true →
      s.dev.scrubPending n.val = true →
      (s.dev.rgnSt n.val).waited = false →
      s.does (.swapEdge n cd48) (fun d =>
        d.on (Reg.RGN_STS_WAIT_SCRUB n.val) = true ∧ d.on (Reg.RGN_EVT_SCRUB_WAIT n.val) = true ∧ d.rstate n.val = rsSwapping ∧
        d.rgnSt n.val = { s.dev.rgnSt n.val with waited := true } ∧
        s.dev.regsBut [Reg.RGN_STS n.val, Reg.RGN_EVT n.val] d ∧ s.dev.restSame { d with rgn := s.dev.rgn })) ∧
  -- R223: the release.
  (∀ (s : State) (n : Region),
      s.live = true →
      s.dev.rstate n.val = rsHeld →
      s.dev.get (Reg.RGN_STS_HOLD_LEFT n.val) = 0 →
      s.dev.on (Reg.BM_STS_FILL_BUSY n.val) = false →
      s.dev.rootLost = false →
      s.dev.rclkRuns n (s.dev.activePlane n.val) = true →
      s.runs (.release n) (Dev.release n) (fun d =>
        d.rstate n.val = rsActive ∧ d.on (Reg.FF_STS_HOLD n.val) = (s.dev.tapOwns && isEdge n.val) ∧
        d.on (Reg.RGN_EVT_RELEASED n.val) = true ∧
        d.rgnSt n.val = { s.dev.rgnSt n.val with force := s.dev.ctl (Reg.BORDER_CTL_FORCE n.val), forceDue := false, startup := false } ∧
        (∀ c : Fin 48, c.val < ioCells n.val → (d.ioSt n.val c.val).boundary = 0 ∧ (d.ioSt n.val c.val).slipIn = 0) ∧
        d.frames = s.dev.frames ∧ d.ff = s.dev.ff ∧ d.cells = s.dev.cells))

/-- HLOAD begins a load of the HARD stream at CFG_HSRC and HABORT ends it; a segment whose data has arrived is
decrypted, its blocks are written in order, and its tag is checked, a block or tag that fails ending the load
with its cause; after the last tag the final checks either fail the load with their cause or make its planes
VERIFIED, run the hard-block records and, for a FULL stream, pass the start-up attempt. -/
def Obligations.StreamLoads : Prop :=
  -- R521: HLOAD.
  (∀ (s : State) (who : Who),
      s.ready = true →
      s.dev.takes who Reg.CFG_CTL_HLOAD = true →
      s.dev.load = none →
      Dev.streamAddrOk (s.dev.get Reg.CFG_HSRC_HI_SRC * 2 ^ 32 + s.dev.get Reg.CFG_HSRC_LO_SRC) = true →
      s.goes (.hload who) (let a := s.dev.get Reg.CFG_HSRC_HI_SRC * 2 ^ 32 + s.dev.get Reg.CFG_HSRC_LO_SRC
        (((((s.dev.writtenCmd who Reg.CFG_CTL_HLOAD).cmdStart 0x3012 1).loadBegin { kind := 3, src := .dram a }).dramHeader a
          (s.dev.get Reg.CFG_HLEN_LEN)).touch 0x3012).reply .ok)) ∧
  -- R260: HABORT.
  (∀ (s : State) (who : Who) (l : LoadSt),
      s.ready = true →
      s.dev.takes who Reg.CFG_CTL_HABORT = true →
      s.dev.load = some l →
      l.kind = 3 →
      s.goes (.habort who) (((((s.dev.writtenCmd who Reg.CFG_CTL_HABORT).loadFail 0x12 l.place).cmdDone 0x3012 2 .ok).touch 0x3012).reply .ok)) ∧
  -- R89, R260: HABORT with no HARD load is flagged LATE.
  (∀ (s : State) (who : Who),
      s.ready = true →
      s.dev.takes who Reg.CFG_CTL_HABORT = true →
      s.dev.load.any (fun l => l.kind == 3) = false →
      s.goes (.habort who) (((((s.dev.writtenCmd who Reg.CFG_CTL_HABORT).cmdLate 0x3012 1).cmdDone 0x3012 2 .ok).touch 0x3012).reply .ok)) ∧
  -- R239, R244, R248: a segment whose tag holds.
  (∀ (s : State) (ext : List (Nat × List Byte)) (bs : List Byte) (l : LoadSt) (d1 : Dev),
      s.ready = true →
      s.dev.load = some l →
      l.header ≠ [] →
      l.seg < segCount l.header →
      s.dev.fetch l.src (segOffset l.header l.seg) (segLength l.header l.seg + 16) ext = (.bytes bs, d1) →
      d1.calm = true →
      bs.drop (segLength l.header l.seg) = gcmTag l.key (segIv l.header l.seg) (l.header ++ leBytes 4 l.seg) (bs.take (segLength l.header l.seg)) →
      s.does (.segmentProcess ext) (fun d =>
        let n := segLength l.header l.seg
        match d1.takeBlocks false l (bs.take n) with
        | .fail c x l' d2 => d = ({ d2 with load := some l' } : Dev).loadFail c l.seg .targetErr x
        | .good l' d2 => d = { d2 with load := some { l' with
            seg := l.seg + 1, got := l'.got ++ bs
            key := if Dev.carriesKey l then (gcmText l.key (segIv l.header l.seg) (bs.take n)).drop (n - 32) else l.key } })) ∧
  -- R248, R252: the tag fails: cause 0x0D, once the blocks have been written.
  (∀ (s : State) (ext : List (Nat × List Byte)) (bs : List Byte) (l : LoadSt) (d1 : Dev),
      s.ready = true →
      s.dev.load = some l →
      l.header ≠ [] →
      l.seg < segCount l.header →
      s.dev.fetch l.src (segOffset l.header l.seg) (segLength l.header l.seg + 16) ext = (.bytes bs, d1) →
      d1.calm = true →
      bs.drop (segLength l.header l.seg) ≠ gcmTag l.key (segIv l.header l.seg) (l.header ++ leBytes 4 l.seg) (bs.take (segLength l.header l.seg)) →
      s.does (.segmentProcess ext) (fun d => d.load = none ∧ d.on Reg.CFG_EVT_LOAD_FAIL = true ∧ d.on Reg.CFG_LOAD_STS_BUSY = false)) ∧
  -- R248, R251: the source ends or fails inside the segment: the blocks that have arrived are taken first.
  (∀ (s : State) (ext : List (Nat × List Byte)) (bs : List Byte) (cause : Nat) (code : Code) (l : LoadSt) (d1 : Dev),
      s.ready = true →
      s.dev.load = some l →
      l.header ≠ [] →
      l.seg < segCount l.header →
      s.dev.fetch l.src (segOffset l.header l.seg) (segLength l.header l.seg + 16) ext = (.part bs cause code, d1) →
      d1.calm = true →
      s.goes (.segmentProcess ext) (d1.loadCut bs cause code)) ∧
  -- R249: the final checks.
  (∀ (s : State) (ext : List (Nat × List Byte)) (bs : List Byte) (l : LoadSt) (d1 : Dev),
      s.live = true →
      s.dev.load = some l →
      l.header ≠ [] →
      l.seg = segCount l.header →
      s.dev.fetch l.src (streamLen l.header - 256) 256 ext = (.bytes bs, d1) →
      s.runs (.sealCheck ext) (Dev.sealCheck ext) (fun d =>
        match d1.finalChecks l bs with
        | some (c, f) => d = d1.loadFail c 0xFF .targetErr f
        | none =>
          let d2 := l.units.foldl Dev.hardUnit (d1.loadVerified l)
          d = if l.kind = 3 then d2.raise Reg.CFG_EVT_HLOAD_DONE
            else if l.kind = 1 then d2.attemptPass l.touched else d2))

/-- An attempt begins on the first enabled source from the last one on and is shown; a failed attempt is counted,
sets BOOT_RETRY, drives INITN and starts the backoff, at whose end the next attempt is due; the network attempt
keeps up to 8 STREAM requests outstanding, takes the bytes of their answers, resends an unanswered one three
times, and fails with the code of an answer, after the third resend, or when no link came up. -/
def Obligations.StartupLoader : Prop :=
  -- R254, R255: an attempt on a flash that answers: its header is checked.
  (∀ (s : State) (ext : List (Nat × List Byte)) (hd : List Byte) (k : Nat),
      s.ready = true →
      s.dev.boot.running = true →
      s.dev.boot.due = true →
      s.dev.boot.sampled = true →
      s.dev.load = none →
      s.dev.boot.last = none →
      (SMap.get {} s.dev.serial 10).busy = false →
      s.dev.nextSource (s.dev.get Reg.START_STS_CFGSRC % 4) = some k →
      k < 2 →
      Dev.arrivedFrom ext (ext.length + 1) (4096 * s.dev.ctl Reg.CFG_XSPI_OFFSET_OFFSET) 4096 = hd →
      hd.length = 4096 →
      s.does (.startupLoaderAttempt (some ext)) (fun d =>
        d.boot.due = false ∧ d.boot.sampled = false ∧ d.boot.last = some k ∧ d.get Reg.CFG_BOOT_STS_SOURCE = k ∧ d.start.initnDriven = false ∧
        d.on Reg.CFG_BOOT_STS_ACTIVE = true ∧ d.get Reg.CFG_BOOT_WAIT_WAIT_MS = 0 ∧ d.get Reg.CFG_LOAD_STS_KIND = 1 ∧
        (match s.dev.headerCheck hd 1 0 none with
         | none => d.on Reg.CFG_LOAD_STS_BUSY = true ∧
             d.load = some { kind := 1, src := .flash k (4096 * s.dev.ctl Reg.CFG_XSPI_OFFSET_OFFSET), header := hd, key := s.dev.baseKey hd, got := hd }
         | some c => d.load = none ∧ d.get Reg.CFG_LOAD_STS_CAUSE = c ∧ d.get Reg.CFG_LOAD_STS_SEGMENT = 0xFE ∧
             d.boot.failed = some c ∧ d.on Reg.CFG_EVT_LOAD_FAIL = true) ∧
        d.frames = s.dev.frames ∧ d.cells = s.dev.cells ∧ d.flash = s.dev.flash)) ∧
  -- R255: an attempt on the network waits for a link.
  (∀ (s : State),
      s.ready = true →
      s.dev.boot.running = true →
      s.dev.boot.due = true →
      s.dev.boot.sampled = true →
      s.dev.load = none →
      s.dev.boot.last = none →
      s.dev.nextSource (s.dev.get Reg.START_STS_CFGSRC % 4) = some 3 →
      (Target.parse (s.dev.fwGet 0x3010 3 (leBytes 6 0xFFFFFFFFFFFF ++ leBytes 26 1))).transport ≠ 0 →
      s.dev.upPort = none →
      s.does (.startupLoaderAttempt none) (fun d =>
        d.boot.due = false ∧ d.boot.last = some 3 ∧ d.get Reg.CFG_BOOT_STS_SOURCE = 3 ∧ d.boot.linkWait = true ∧
        d.load = some { kind := 1, src := .network } ∧ d.on Reg.CFG_LOAD_STS_BUSY = true ∧ d.on Reg.CFG_BOOT_STS_ACTIVE = true)) ∧
  -- R256, R484: a failed attempt.
  (∀ (s : State) (c : Nat),
      s.ready = true →
      s.dev.boot.failed = some c →
      c < 256 →
      s.does .loaderAttemptFail (fun d =>
        d.boot.failed = none ∧ d.boot.failures = s.dev.boot.failures + 1 ∧ d.boot.backoff = true ∧ d.boot.server = none ∧ d.boot.out = [] ∧
        d.get Reg.CFG_BOOT_ATTEMPTS_ATTEMPTS = min (s.dev.get Reg.CFG_BOOT_ATTEMPTS_ATTEMPTS + 1) (2 ^ Reg.CFG_BOOT_ATTEMPTS_ATTEMPTS.w - 1) ∧
        d.on Reg.CFG_EVT_BOOT_RETRY = true ∧ d.get Reg.CFG_BOOT_STS_LAST_CAUSE = c % 2 ^ Reg.CFG_BOOT_STS_LAST_CAUSE.w ∧
        d.on Reg.CFG_BOOT_STS_ACTIVE = false ∧ d.start.initnDriven = true ∧ d.on Reg.START_STS_INITN_PIN = false ∧
        d.get Reg.CFG_BOOT_WAIT_WAIT_MS = min (2 ^ s.dev.boot.failures) 8000 ∧
        s.dev.regsBut [Reg.CFG_BOOT_ATTEMPTS, Reg.CFG_EVT, Reg.CFG_BOOT_STS, Reg.CFG_BOOT_WAIT, Reg.START_STS] d ∧
        s.dev.restSame { d with boot := s.dev.boot, start := s.dev.start })) ∧
  -- R256: the backoff ends.
  (∀ (s : State),
      s.ready = true →
      s.dev.boot.running = true →
      s.dev.boot.backoff = true →
      s.goes .loaderBackoffExpiry { s.dev with boot := { s.dev.boot with backoff := false, due := true } }) ∧
  -- R255: the first STREAM request goes alone, until a server has answered it.
  (∀ (s : State) (l : LoadSt),
      s.ready = true →
      s.dev.load = some l →
      l.src = .network →
      l.header = [] →
      s.dev.upPort ≠ none →
      s.dev.boot.out = [] →
      s.dev.boot.server = none →
      s.dev.boot.gaps = [] →
      s.dev.boot.next = 0 →
      s.dev.boot.finish = none →
      s.does .stream (fun d => d.boot.out = [⟨s.dev.boot.seq, 0, 0⟩] ∧ d.boot.next = 8192 ∧ d.boot.linkWait = false ∧
        d.boot.seq = (s.dev.boot.seq + 1) % 2 ^ 32 ∧ (∀ o, d.word o = s.dev.word o) ∧ d.load = s.dev.load)) ∧
  -- R255: eight are kept outstanding.
  (∀ (s : State) (l : LoadSt) (mac : Nat),
      s.ready = true →
      s.dev.load = some l →
      l.src = .network →
      l.header = [] →
      s.dev.upPort ≠ none →
      s.dev.boot.out = [] →
      s.dev.boot.server = some mac →
      s.dev.boot.gaps = [] →
      s.dev.boot.next = 8192 →
      s.dev.boot.finish = none →
      s.does .stream (fun d => d.boot.out.map (·.offset) = (List.range 8).map (fun i => 8192 * (i + 1)) ∧ d.boot.next = 73728)) ∧
  -- R255: an answer with code OK delivers its bytes and fixes the server.
  (∀ (s : State) (mac : BitVec 48) (seq : BitVec 32) (more : Bool) (data : List Byte) (r : StreamReq) (l : LoadSt),
      s.ready = true →
      s.dev.load = some l →
      l.src = .network →
      l.header ≠ [] →
      s.dev.boot.out.find? (fun r => r.seq == seq.toNat) = some r →
      s.dev.boot.server = none ∨ s.dev.boot.server = some mac.toNat →
      more = true →
      s.dev.boot.finish = none →
      s.goes (.streamResponse mac seq .ok more data) { s.dev with boot := { s.dev.boot with
        server := some (s.dev.boot.server.getD mac.toNat)
        out := s.dev.boot.out.filter (fun x => x.seq != seq.toNat)
        arrived := s.dev.boot.arrived ++ [(r.offset, data)]
        gaps := if data.length < 8192 then s.dev.boot.gaps ++ [r.offset + data.length] else s.dev.boot.gaps } }) ∧
  -- R255: an answer with another code fails the attempt.
  (∀ (s : State) (mac : BitVec 48) (seq : BitVec 32) (code : Code) (more : Bool) (data : List Byte) (r : StreamReq) (l : LoadSt),
      s.ready = true →
      s.dev.load = some l →
      l.src = .network →
      s.dev.boot.out.find? (fun r => r.seq == seq.toNat) = some r →
      s.dev.boot.server = none ∨ s.dev.boot.server = some mac.toNat →
      code ≠ .ok →
      s.goes (.streamResponse mac seq code more data) (Dev.netCut { s.dev with boot := { s.dev.boot with out := [] } } 0x13 code)) ∧
  -- R255: a request is resent up to three times.
  (∀ (s : State) (seq : BitVec 32) (r : StreamReq) (l : LoadSt),
      s.ready = true →
      s.dev.load = some l →
      l.src = .network →
      s.dev.boot.out.find? (fun r => r.seq == seq.toNat) = some r →
      r.resends < 3 →
      s.goes (.streamResendExpiry seq) (Dev.sendStream { s.dev with boot := { s.dev.boot with out := s.dev.boot.out.map (fun x =>
        if x.seq = seq.toNat then { x with resends := x.resends + 1 } else x) } } seq.toNat r.offset)) ∧
  -- R255: after the third the attempt fails SOURCE.
  (∀ (s : State) (seq : BitVec 32) (r : StreamReq) (l : LoadSt),
      s.ready = true →
      s.dev.load = some l →
      l.src = .network →
      s.dev.boot.out.find? (fun r => r.seq == seq.toNat) = some r →
      3 ≤ r.resends →
      s.goes (.streamResendExpiry seq) (Dev.netCut { s.dev with boot := { s.dev.boot with out := [] } } 0x13 .timeout)) ∧
  -- R255: no link came up.
  (∀ (s : State) (l : LoadSt),
      s.ready = true →
      s.dev.load = some l →
      l.src = .network →
      s.dev.boot.linkWait = true →
      s.dev.upPort = none →
      s.goes .bootLinkWaitExpiry (s.dev.loadFail 0x13 0xFE .noTarget))

/-- The processor alone writes SEC_KEY_DATA, and any other initiator is DENIED; each of the five commands, when it
is not refused, is taken with the data and shown by CMD_BUSY; a fuse that is not blank, or a revocation that
leaves no usable slot, is DENIED with CMD_REFUSED; the completion programs, replaces or erases the key, or
programs or revokes the slot, clears SEC_KEY_DATA and sets CMD_DONE. -/
def Obligations.KeysAndSlots : Prop :=
  -- R245: SEC_KEY_DATA.
  (∀ (s : State) (w : Fin 16) (x : Word),
      s.ready = true →
      s.does (.secKeyDataWrite .mp w x) (fun d => d.answer.code = .ok ∧ d.word (Reg.SEC_KEY_DATA w.val) = x ∧ d.keys = { s.dev.keys with written := true } ∧
        s.dev.regsBut [Reg.SEC_KEY_DATA w.val] d ∧ s.dev.restSame { d with keys := s.dev.keys })) ∧
  -- R245, R22: any other initiator.
  (∀ (s : State) (who : Who) (w : Fin 16) (x : Word),
      s.ready = true →
      who ≠ .mp →
      s.goes (.secKeyDataWrite who w x) (s.dev.reply .denied)) ∧
  -- R246: FUSE_KEY_PROGRAM.
  (∀ (s : State) (who : Who),
      s.ready = true →
      s.dev.takes who Reg.SEC_CTL_FUSE_KEY_PROGRAM = true →
      s.dev.keys.cmd = none →
      s.dev.secDenied 0 0 = false →
      s.dev.keys.written = true →
      s.does (.fuseKeyProgram who) (fun d => d.answer.code = .ok ∧ d.on Reg.SEC_KEY_STS_CMD_BUSY = true ∧
        d.keys = { s.dev.keys with cmd := some ⟨0, fieldOf (s.dev.word Reg.SEC_CTL) 5 2, s.dev.keyData⟩ } ∧ (SMap.get {} d.cmds (Dev.objKey 0x8011 1)).busy = true ∧
        s.dev.regsBut [Reg.SEC_CTL, Reg.SEC_KEY_STS] d ∧ s.dev.restSame { d with keys := s.dev.keys })) ∧
  -- R246: BBRAM_WRITE.
  (∀ (s : State) (who : Who),
      s.ready = true →
      s.dev.takes who Reg.SEC_CTL_BBRAM_WRITE = true →
      s.dev.keys.cmd = none →
      s.dev.secDenied 1 0 = false →
      s.dev.keys.written = true →
      s.does (.bbramWrite who) (fun d => d.answer.code = .ok ∧ d.on Reg.SEC_KEY_STS_CMD_BUSY = true ∧
        d.keys = { s.dev.keys with cmd := some ⟨1, fieldOf (s.dev.word Reg.SEC_CTL) 5 2, s.dev.keyData⟩ } ∧ (SMap.get {} d.cmds (Dev.objKey 0x8011 2)).busy = true ∧
        s.dev.regsBut [Reg.SEC_CTL, Reg.SEC_KEY_STS] d ∧ s.dev.restSame { d with keys := s.dev.keys })) ∧
  -- R246: BBRAM_ZERO.
  (∀ (s : State) (who : Who),
      s.ready = true →
      s.dev.takes who Reg.SEC_CTL_BBRAM_ZERO = true →
      s.dev.keys.cmd = none →
      s.dev.secDenied 2 0 = false →
      s.does (.bbramZero who) (fun d => d.answer.code = .ok ∧ d.on Reg.SEC_KEY_STS_CMD_BUSY = true ∧
        d.keys = { s.dev.keys with cmd := some ⟨2, fieldOf (s.dev.word Reg.SEC_CTL) 5 2, s.dev.keyData⟩ } ∧ (SMap.get {} d.cmds (Dev.objKey 0x8011 3)).busy = true ∧
        s.dev.regsBut [Reg.SEC_CTL, Reg.SEC_KEY_STS] d ∧ s.dev.restSame { d with keys := s.dev.keys })) ∧
  -- R246: SLOT_PROGRAM.
  (∀ (s : State) (who : Who) (k : Fin 4),
      s.ready = true →
      s.dev.takesCmd who Reg.SEC_CTL_SLOT_PROGRAM (withField (withField (s.dev.word Reg.SEC_CTL) 5 2 k.val) 3 1 1) = true →
      s.dev.keys.cmd = none →
      s.dev.secDenied 3 k.val = false →
      s.dev.keys.written = true →
      s.does (.slotProgram who k) (fun d => d.answer.code = .ok ∧ d.on Reg.SEC_KEY_STS_CMD_BUSY = true ∧
        d.keys = { s.dev.keys with cmd := some ⟨3, k.val, s.dev.keyData⟩ } ∧ (SMap.get {} d.cmds (Dev.objKey 0x8011 4)).busy = true ∧
        s.dev.regsBut [Reg.SEC_CTL, Reg.SEC_KEY_STS] d ∧ s.dev.restSame { d with keys := s.dev.keys })) ∧
  -- R246: SLOT_REVOKE.
  (∀ (s : State) (who : Who) (k : Fin 4),
      s.ready = true →
      s.dev.takesCmd who Reg.SEC_CTL_SLOT_REVOKE (withField (withField (s.dev.word Reg.SEC_CTL) 5 2 k.val) 4 1 1) = true →
      s.dev.keys.cmd = none →
      s.dev.secDenied 4 k.val = false →
      s.does (.slotRevoke who k) (fun d => d.answer.code = .ok ∧ d.on Reg.SEC_KEY_STS_CMD_BUSY = true ∧
        d.keys = { s.dev.keys with cmd := some ⟨4, k.val, s.dev.keyData⟩ } ∧ (SMap.get {} d.cmds (Dev.objKey 0x8011 5)).busy = true ∧
        s.dev.regsBut [Reg.SEC_CTL, Reg.SEC_KEY_STS] d ∧ s.dev.restSame { d with keys := s.dev.keys })) ∧
  -- R246: the fuse key is not blank: DENIED, CMD_REFUSED, and the data is cleared.
  (∀ (s : State) (who : Who),
      s.ready = true →
      who.deniedCsr = false →
      s.dev.on Reg.SEC_KEY_STS_FUSE_KEY = true →
      s.dev.keys.cmd = none →
      cmdBits Reg.SEC_CTL (withField (s.dev.word Reg.SEC_CTL) 0 1 1) = [0] →
      s.goes (.fuseKeyProgram who) ((s.dev.keyDataClear.raise Reg.SEC_EVT_CMD_REFUSED).reply .denied)) ∧
  -- R246: the completion of FUSE_KEY_PROGRAM.
  (∀ (s : State) (c : SecCmd),
      s.ready = true →
      s.dev.keys.cmd = some c →
      c.op = 0 →
      s.does .secCmdDone (fun d => d.keys = { s.dev.keys with fuseKey := c.data.take 32, written := false, cmd := none } ∧ d.on Reg.SEC_KEY_STS_FUSE_KEY = true ∧
        d.on Reg.SEC_KEY_STS_CMD_BUSY = false ∧ d.on Reg.SEC_EVT_CMD_DONE = true ∧ (∀ w : Fin 16, d.word (Reg.SEC_KEY_DATA w.val) = 0) ∧
        s.dev.regsBut ([Reg.SEC_EVT, Reg.SEC_KEY_STS] ++ (List.range 16).map Reg.SEC_KEY_DATA) d ∧ s.dev.restSame { d with keys := s.dev.keys })) ∧
  -- R246: the completion of BBRAM_WRITE.
  (∀ (s : State) (c : SecCmd),
      s.ready = true →
      s.dev.keys.cmd = some c →
      c.op = 1 →
      s.does .secCmdDone (fun d => d.keys = { s.dev.keys with bbram := c.data.take 32, written := false, cmd := none } ∧ d.on Reg.SEC_KEY_STS_BBRAM_KEY = true ∧
        d.on Reg.SEC_KEY_STS_CMD_BUSY = false ∧ d.on Reg.SEC_EVT_CMD_DONE = true ∧ (∀ w : Fin 16, d.word (Reg.SEC_KEY_DATA w.val) = 0) ∧
        s.dev.regsBut ([Reg.SEC_EVT, Reg.SEC_KEY_STS] ++ (List.range 16).map Reg.SEC_KEY_DATA) d ∧ s.dev.restSame { d with keys := s.dev.keys })) ∧
  -- R246: the completion of BBRAM_ZERO, no load keyed from it.
  (∀ (s : State) (c : SecCmd),
      s.ready = true →
      s.dev.keys.cmd = some c →
      c.op = 2 →
      s.dev.load = none →
      s.does .secCmdDone (fun d => d.keys = { s.dev.keys with bbram := [], written := false, cmd := none } ∧ d.on Reg.SEC_KEY_STS_BBRAM_KEY = false ∧
        d.on Reg.SEC_KEY_STS_CMD_BUSY = false ∧ d.on Reg.SEC_EVT_CMD_DONE = true ∧ (∀ w : Fin 16, d.word (Reg.SEC_KEY_DATA w.val) = 0) ∧
        s.dev.regsBut ([Reg.SEC_EVT, Reg.SEC_KEY_STS] ++ (List.range 16).map Reg.SEC_KEY_DATA) d ∧ s.dev.restSame { d with keys := s.dev.keys })) ∧
  -- R246: the completion of SLOT_PROGRAM.
  (∀ (s : State) (c : SecCmd),
      s.ready = true →
      s.dev.keys.cmd = some c →
      c.op = 3 →
      c.slot < 4 →
      s.does .secCmdDone (fun d => d.keys = { s.dev.keys with slots := SMap.put [] s.dev.keys.slots c.slot c.data, written := false, cmd := none } ∧ d.slotProgrammed c.slot = true ∧ d.on Reg.SEC_EVT_SLOT_CHANGE = true ∧
        d.on Reg.SEC_KEY_STS_CMD_BUSY = false ∧ d.on Reg.SEC_EVT_CMD_DONE = true ∧ (∀ w : Fin 16, d.word (Reg.SEC_KEY_DATA w.val) = 0) ∧
        s.dev.regsBut ([Reg.SEC_EVT, Reg.SEC_KEY_STS] ++ (List.range 16).map Reg.SEC_KEY_DATA) d ∧ s.dev.restSame { d with keys := s.dev.keys })) ∧
  -- R246: the completion of SLOT_REVOKE.
  (∀ (s : State) (c : SecCmd),
      s.ready = true →
      s.dev.keys.cmd = some c →
      c.op = 4 →
      c.slot < 4 →
      s.does .secCmdDone (fun d => d.keys = { s.dev.keys with written := false, cmd := none } ∧ d.slotRevoked c.slot = true ∧ d.on Reg.SEC_EVT_SLOT_CHANGE = true ∧
        d.on Reg.SEC_KEY_STS_CMD_BUSY = false ∧ d.on Reg.SEC_EVT_CMD_DONE = true ∧ (∀ w : Fin 16, d.word (Reg.SEC_KEY_DATA w.val) = 0) ∧
        s.dev.regsBut ([Reg.SEC_EVT, Reg.SEC_KEY_STS] ++ (List.range 16).map Reg.SEC_KEY_DATA) d ∧ s.dev.restSame { d with keys := s.dev.keys }))

/-- A slot reads and classifies one frame of the active sweep or, every 16th, of the shadow sweep, and acts on it;
the re-read of a written frame sets CORRECTED when it is clean and STUCK otherwise; the end of a pass counts it
and relaxes the rate or resets its quiet count; FULL_NOW sets PERIOD_MS to 0; a build starts under the next
generation, and at its end the entry is valid when the digests agree, is built once more, or fails. -/
def Obligations.Scrubbing : Prop :=
  -- R267, R268: a slot of the active sweep: the frame it reads is classified and its outcome acted on.
  (∀ (s : State) (ups : List (Nat × Fin 4192)),
      s.ready = true →
      s.dev.ctlOn Reg.SCRUB_CTL_ENABLE = true →
      s.dev.scrub.passOver = false →
      s.dev.scrub.pending = [] →
      s.dev.scrub.building = none →
      s.dev.scrub.builds = [] →
      s.dev.scrub.passOn = true →
      s.dev.scrub.slots % 16 ≠ 15 →
      s.goes (.scrubSlot ups false)
        (let x := ((s.dev.frameUpset ups).setScrub { s.dev.scrub with slots := s.dev.scrub.slots + 1 }).activeSlot
         match x.1 with
         | none => x.2.showScrub
         | some (n, p, f) =>
           (if x.2.planeHolds n p then x.2.scrubOutcome n p f (x.2.frame n p f) else x.2).showScrub)) ∧
  -- R267: slot 15 of 16 goes to the shadow sweep while a shadow plane is VERIFIED.
  (∀ (s : State) (ups : List (Nat × Fin 4192)) (n : Region),
      s.ready = true →
      s.dev.ctlOn Reg.SCRUB_CTL_ENABLE = true →
      s.dev.scrub.passOver = false →
      s.dev.scrub.pending = [] →
      s.dev.scrub.building = none →
      s.dev.scrub.builds = [] →
      s.dev.scrub.passOn = true →
      s.dev.scrub.slots % 16 = 15 →
      s.dev.sstate n.val = ssVerified →
      s.goes (.scrubSlot ups false)
        (let x := ((s.dev.frameUpset ups).setScrub { s.dev.scrub with slots := s.dev.scrub.slots + 1 }).shadowSlot
         match x.1 with
         | none => x.2.showScrub
         | some (n, p, f) =>
           (if x.2.planeHolds n p then x.2.scrubOutcome n p f (x.2.frame n p f) else x.2).showScrub)) ∧
  -- R267: a re-read that waits, or a golden build, has the readback port first.
  (∀ (s : State) (ups : List (Nat × Fin 4192)) (edge : Bool),
      s.ready = true →
      s.dev.scrub.pending ≠ [] ∨ s.dev.scrub.building.isSome = true ∨ s.dev.scrub.builds ≠ [] →
      s.goes (.scrubSlot ups edge) (s.dev.frameUpset ups).showScrub) ∧
  -- R270, R271: the correction is written, and its re-read is clean.
  (∀ (s : State) (x : PendingFix) (rest : List PendingFix),
      s.ready = true →
      s.dev.scrub.pending = x :: rest →
      x.region < 128 ∧ x.frame < 5120 ∧ x.plane < 2 →
      x.reload = false →
      (classify (x.region * 5120 + x.frame) x.row).1 = .clean →
      s.does (.scrubReread []) (fun d => d.on Reg.SCRUB_EVT_CORRECTED = true ∧ d.on Reg.SCRUB_EVT_STUCK = s.dev.on Reg.SCRUB_EVT_STUCK ∧
        d.get Reg.SCRUB_CORRECTED_CNT = min (s.dev.get Reg.SCRUB_CORRECTED_CNT + 1) (2 ^ Reg.SCRUB_CORRECTED_CNT.w - 1) ∧
        d.get Reg.SCRUB_LAST_DEV_FRAME = x.region * 5120 + x.frame ∧ d.get Reg.SCRUB_LAST_KIND = 1 ∧ d.on Reg.SCRUB_LAST_VALID = true ∧
        d.scrub = { s.dev.scrub with pending := rest } ∧ d.frame x.region x.plane x.frame = x.row ∧
        (d.on (Reg.RGN_STS_WAIT_SCRUB x.region) = (s.dev.on (Reg.RGN_STS_WAIT_SCRUB x.region) && rest.any (fun p => p.region == x.region))) ∧
        s.dev.regsBut [Reg.SCRUB_EVT, Reg.SCRUB_CORRECTED, Reg.SCRUB_LAST, Reg.SCRUB_STS, Reg.RGN_STS x.region] d ∧
        s.dev.restSame { d with frames := s.dev.frames, scrub := s.dev.scrub, trunkFixed := s.dev.trunkFixed })) ∧
  -- R271: it is not clean, in an active plane.
  (∀ (s : State) (x : PendingFix) (rest : List PendingFix),
      s.ready = true →
      s.dev.scrub.pending = x :: rest →
      x.region < 128 ∧ x.frame < 5120 ∧ x.plane < 2 →
      x.plane = s.dev.activePlane x.region →
      (classify (x.region * 5120 + x.frame) x.row).1 ≠ .clean →
      s.does (.scrubReread []) (fun d => d.on Reg.SCRUB_EVT_STUCK = true ∧ d.on Reg.SCRUB_EVT_CORRECTED = s.dev.on Reg.SCRUB_EVT_CORRECTED ∧
        d.get Reg.SCRUB_UNREC_STUCK_CNT = min (s.dev.get Reg.SCRUB_UNREC_STUCK_CNT + 1) (2 ^ Reg.SCRUB_UNREC_STUCK_CNT.w - 1) ∧
        d.get Reg.SCRUB_LAST_KIND = 4 ∧ d.get Reg.SCRUB_LAST_DEV_FRAME = x.region * 5120 + x.frame ∧
        d.scrub = { s.dev.scrub with pending := rest })) ∧
  -- R277: it is uncorrectable in a VERIFIED shadow plane, which is lost.
  (∀ (s : State) (x : PendingFix) (rest : List PendingFix),
      s.ready = true →
      s.dev.scrub.pending = x :: rest →
      x.region < 128 ∧ x.frame < 5120 ∧ x.plane < 2 →
      x.plane ≠ s.dev.activePlane x.region →
      s.dev.sstate x.region = ssVerified →
      (classify (x.region * 5120 + x.frame) x.row).1 = .uncorrectable →
      s.does (.scrubReread []) (fun d => d.sstate x.region = ssEmpty ∧ d.on Reg.SCRUB_EVT_SHADOW_LOST = true ∧
        d.on (Reg.RGN_EVT_LOAD_FAIL x.region) = true ∧ d.get (Reg.RGN_STS_LOAD_CODE x.region) = Code.targetErr.num ∧
        d.on Reg.SCRUB_EVT_STUCK = true)) ∧
  -- R269: a quiet pass that is not yet enough.
  (∀ (s : State),
      s.ready = true →
      s.dev.scrub.passOver = true →
      s.dev.ctlOn Reg.SCRUB_CTL_PIN = false →
      s.dev.scrub.raised = true ∨ s.dev.scrub.fixes < s.dev.ctl Reg.SCRUB_CTL_RAISE_AT →
      s.dev.scrub.found = false →
      s.dev.get Reg.SCRUB_LAST_PASS_QUIET + 1 < s.dev.ctl Reg.SCRUB_CTL_QUIET_PASSES →
      s.does .scrubPassEnd (fun d => d.get Reg.SCRUB_PASSES_CNT = min (s.dev.get Reg.SCRUB_PASSES_CNT + 1) (2 ^ Reg.SCRUB_PASSES_CNT.w - 1) ∧
        d.on Reg.SCRUB_EVT_PASS_DONE = true ∧ d.get Reg.SCRUB_LAST_PASS_QUIET = s.dev.get Reg.SCRUB_LAST_PASS_QUIET + 1 ∧
        d.get Reg.SCRUB_PERIOD_PERIOD_MS = s.dev.get Reg.SCRUB_PERIOD_PERIOD_MS ∧
        d.scrub = { s.dev.scrub with passOn := false, passOver := false, region := 0, frame := 0 })) ∧
  -- R269: the pass that makes QUIET_PASSES relaxes the rate.
  (∀ (s : State),
      s.ready = true →
      s.dev.scrub.passOver = true →
      s.dev.ctlOn Reg.SCRUB_CTL_PIN = false →
      s.dev.scrub.raised = true ∨ s.dev.scrub.fixes < s.dev.ctl Reg.SCRUB_CTL_RAISE_AT →
      s.dev.scrub.found = false →
      s.dev.ctl Reg.SCRUB_CTL_QUIET_PASSES ≤ s.dev.get Reg.SCRUB_LAST_PASS_QUIET + 1 →
      s.does .scrubPassEnd (fun d => d.get Reg.SCRUB_PASSES_CNT = min (s.dev.get Reg.SCRUB_PASSES_CNT + 1) (2 ^ Reg.SCRUB_PASSES_CNT.w - 1) ∧
        d.on Reg.SCRUB_EVT_PASS_DONE = true ∧ d.get Reg.SCRUB_LAST_PASS_QUIET = 0 ∧
        d.get Reg.SCRUB_PERIOD_PERIOD_MS = min (2 * max (s.dev.get Reg.SCRUB_PERIOD_PERIOD_MS) 55) 60000 ∧
        d.scrub = { s.dev.scrub with passOn := false, passOver := false, region := 0, frame := 0 })) ∧
  -- R269: a pass that found something resets the quiet count.
  (∀ (s : State),
      s.ready = true →
      s.dev.scrub.passOver = true →
      s.dev.ctlOn Reg.SCRUB_CTL_PIN = false →
      s.dev.scrub.raised = true ∨ s.dev.scrub.fixes < s.dev.ctl Reg.SCRUB_CTL_RAISE_AT →
      s.dev.scrub.found = true →
      s.does .scrubPassEnd (fun d => d.get Reg.SCRUB_LAST_PASS_QUIET = 0 ∧ d.on Reg.SCRUB_EVT_PASS_DONE = true ∧
        d.get Reg.SCRUB_PERIOD_PERIOD_MS = s.dev.get Reg.SCRUB_PERIOD_PERIOD_MS)) ∧
  -- R269: findings that have reached RAISE_AT raise the rate at the end of the pass at the latest.
  (∀ (s : State),
      s.ready = true →
      s.dev.scrub.passOver = true →
      s.dev.scrub.passOn = true →
      s.dev.scrub.raised = false →
      s.dev.ctl Reg.SCRUB_CTL_RAISE_AT ≤ s.dev.scrub.fixes →
      s.dev.scrub.found = true →
      s.dev.ctlOn Reg.SCRUB_CTL_PIN = false →
      s.does .scrubPassEnd (fun d => d.get Reg.SCRUB_PERIOD_PERIOD_MS = 0 ∧ d.on Reg.SCRUB_STS_FULL_RATE = true ∧
        d.get Reg.SCRUB_LAST_PASS_QUIET = 0 ∧ d.on Reg.SCRUB_EVT_PASS_DONE = true ∧
        (s.dev.get Reg.SCRUB_PERIOD_PERIOD_MS ≠ 0 → d.on Reg.SCRUB_EVT_RATE_UP = true))) ∧
  -- R280: FULL_NOW.
  (∀ (s : State) (who : Who),
      s.ready = true →
      s.dev.takes who Reg.SCRUB_CTL_FULL_NOW = true →
      s.does (.fullNow who) (fun d => d.answer.code = .ok ∧ d.get Reg.SCRUB_PERIOD_PERIOD_MS = 0 ∧ d.get Reg.SCRUB_LAST_PASS_QUIET = 0 ∧
        s.dev.regsBut [Reg.SCRUB_CTL, Reg.SCRUB_PERIOD, Reg.SCRUB_LAST_PASS, Reg.SCRUB_STS, Reg.SCRUB_EVT] d ∧
        s.dev.restSame { d with scrub := s.dev.scrub })) ∧
  -- R274: a build starts.
  (∀ (s : State) (n : Nat) (rest : List Nat),
      s.ready = true →
      s.dev.scrub.building = none →
      s.dev.scrub.builds = n :: rest →
      n < 128 →
      s.dev.stripeMode = false →
      s.dev.get Reg.CH_RETIRED_MASK = 0 →
      s.goes .goldenBuild ((s.dev.setScrub { s.dev.scrub with builds := rest, building := some (n, s.dev.scrub.generation, false), generation := s.dev.scrub.generation + 1 }).showScrub)) ∧
  -- R274: a location in a retired channel fails at once.
  (∀ (s : State) (n : Nat) (rest : List Nat),
      s.ready = true →
      s.dev.scrub.building = none →
      s.dev.scrub.builds = n :: rest →
      n < 128 →
      s.dev.stripeMode = false →
      s.dev.chRetired 31 = true →
      s.goes .goldenBuild (((s.dev.setScrub { s.dev.scrub with builds := rest }).raise Reg.SCRUB_EVT_GOLDEN_FAIL).showScrub)) ∧
  -- R274: the digests agree, or the entry is built once more, or fails.
  (∀ (s : State) (n gen : Nat) (again : Bool),
      s.ready = true →
      s.dev.scrub.building = some (n, gen, again) →
      s.dev.scrub.pending = [] →
      s.goes .goldenBuildDone
        (let plain := (List.range 5120).flatMap (fun f => leBytes 512 (s.dev.goldenFrame n f).2)
         let d1 := (List.range 5120).foldl (Dev.buildFrame n gen) s.dev
         if sha512 plain = s.dev.digestOf Reg.ACTIVE_DIGEST_DIGEST n then
           ((((d1.setScrub { d1.scrub with building := none, infos := SMap.put {} d1.scrub.infos n (SMap.get {} d1.planes (2 * n + d1.activePlane n)) }).setGolden n (some gen)).raise Reg.SCRUB_EVT_GOLDEN_READY).showScrub)
         else if again then
           ((((d1.setScrub { d1.scrub with building := none }).raise Reg.SCRUB_EVT_GOLDEN_FAIL).showScrub).notifyScrub)
         else d1.setScrub { d1.scrub with building := some (n, s.dev.scrub.generation, true), generation := s.dev.scrub.generation + 1 }))

/-- A scrub read checks the word or line at the unit's pointer, after its upsets, and moves the pointer on; a
starved pointer is counted and logged; a verify read that finds what was written ends there, and one that does
not remaps the granule; CH_RETIRE retires a channel in service and answers RETIRED for one that is retired; a
region attachment presents its oldest event, or reports one it lost. -/
def Obligations.ChecksAndScrubs : Prop :=
  -- R289: a block-memory scrub read.
  (∀ (s : State) (b : Fin 8192) (flips : List (Nat × BitVec 13)),
      s.ready = true →
      s.dev.ctlOn Reg.INT_CTL_DSCRUB_BM = true →
      s.dev.domState (regionDom (b.val / 64)) < 2 →
      s.dev.underTest (.bm b.val) = false →
      s.dev.bmTicks b.val = true →
      s.goes (.bmScrubRead b flips) (((s.dev.upset (.bm b.val) (4 * (s.dev.bmSt b.val).scrubPtr) flips).checkGranule (.bm b.val)
        (4 * (s.dev.bmSt b.val).scrubPtr) 0 4 false).setBm b.val
          { s.dev.bmSt b.val with scrubPtr := s.dev.scrubNext (.bm b.val) (s.dev.bmSt b.val).scrubPtr })) ∧
  -- R289: a scrub pointer of a block memory starves.
  (∀ (s : State) (b : Fin 8192),
      s.ready = true →
      s.dev.scrubbed (.bm b.val) = true →
      s.dev.log.length < 16 →
      s.does (.scrubStarved (.bm b.val)) (fun d =>
        d.on Reg.INT_EVT_STARVED = true ∧ d.on (Reg.RI_EVT_STARVED (b.val / 64)) = true ∧
        d.get Reg.REMAP_STARVED_STARVED_CNT = min (s.dev.get Reg.REMAP_STARVED_STARVED_CNT + 1) (2 ^ Reg.REMAP_STARVED_STARVED_CNT.w - 1) ∧
        d.log = s.dev.log ++ [(4 * (s.dev.bmSt b.val).scrubPtr, b.val + 6 * 2 ^ 16)] ∧ d.get Reg.LOG_COUNT_COUNT = s.dev.log.length + 1 ∧
        s.dev.regsBut [Reg.INT_EVT, Reg.RI_EVT (b.val / 64), Reg.REMAP_STARVED, Reg.LOG_COUNT] d ∧
        s.dev.restSame { d with log := s.dev.log })) ∧
  -- R292, R297: a pointer of a unit that is not scrubbed does not starve.
  (∀ (s : State) (m : MemUnit),
      s.ready = true →
      s.dev.scrubbed m = false →
      s.goes (.scrubStarved m) s.dev) ∧
  -- R290: a DRAM scrub read, of a bank whose queue is empty.
  (∀ (s : State) (c : Fin 32) (flips : List (Nat × BitVec 13)),
      s.ready = true →
      s.dev.on Reg.CLK_STS_ROOT_LOCK = true →
      s.dev.ctlOn Reg.INT_CTL_DSCRUB_DRAM = true →
      s.dev.domState (16 + c.val) < 2 →
      s.dev.underTest (.dram c.val) = false →
      s.dev.chRetired c.val = false →
      (s.dev.chSt c.val).queue = [] →
      s.goes (.dramScrubRead c flips) (((s.dev.upset (.dram c.val) (64 * (s.dev.chSt c.val).scrubPtr) flips).checkGranule (.dram c.val)
        (64 * (s.dev.chSt c.val).scrubPtr) 0 64 false).setCh c.val
          { s.dev.chSt c.val with scrubPtr := s.dev.scrubNext (.dram c.val) (s.dev.chSt c.val).scrubPtr })) ∧
  -- R295: the verify read of one byte finds what was written.
  (∀ (s : State) (v : VerifySt) (rest : List VerifySt) (i : Nat) (x : BitVec 13),
      s.ready = true →
      s.dev.verify = v :: rest →
      s.dev.verifyReady v = true →
      v.due = false →
      v.wrote = [(i, x)] →
      s.dev.cell v.unit (v.addr + i) = x →
      (List.range v.unit.granule).all (fun j => j == i || s.dev.cell v.unit (v.addr + j) == Dev.correctedContent (s.dev.cell v.unit (v.addr + j))) = true →
      s.goes (.verifyRead []) { s.dev with verify := rest }) ∧
  -- R295: it finds another codeword, and the granule is remapped with what it should hold.
  (∀ (s : State) (v : VerifySt) (rest : List VerifySt) (i : Nat) (x : BitVec 13),
      s.ready = true →
      s.dev.verify = v :: rest →
      s.dev.verifyReady v = true →
      v.due = false →
      v.wrote = [(i, x)] →
      i < v.unit.granule →
      s.dev.cell v.unit (v.addr + i) ≠ x →
      (List.range v.unit.granule).all (fun j => j == i || decodeByte (s.dev.cell v.unit (v.addr + j)) != .bad) = true →
      s.goes (.verifyRead []) (Dev.remap { s.dev with verify := rest } v.unit v.addr ((List.range v.unit.granule).map (fun j =>
        if j = i then x else Dev.correctedContent (s.dev.cell v.unit (v.addr + j)))))) ∧
  -- R303: a write-back of which nothing is left is dropped.
  (∀ (s : State) (v : VerifySt) (rest : List VerifySt) (flips : List (Nat × BitVec 13)),
      s.ready = true →
      s.dev.verify = v :: rest →
      s.dev.verifyReady v = true →
      v.due = true →
      v.wrote = [] →
      s.goes (.verifyRead flips) { s.dev with verify := rest }) ∧
  -- R297: CH_RETIRE of a channel in service.
  (∀ (s : State) (who : Who) (c : Fin 32),
      s.ready = true →
      s.dev.takesWrite who Reg.CH_RETIRE (BitVec.ofNat 32 (c.val + 256)) = true →
      s.dev.chRetired c.val = false →
      s.goes (.chRetire who c) ((((((s.dev.written who Reg.CH_RETIRE (BitVec.ofNat 32 (c.val + 256))).cmdStart 0x4200 0xB).retireChannel
        c.val).cmdDone 0x4200 0xB .ok).touch (aliasIndex Reg.CH_RETIRE)).reply .ok)) ∧
  -- R297: what the retirement leaves, of a channel that holds no golden entry.
  (∀ (s : State) (who : Who) (c : Fin 32),
      s.ready = true →
      s.dev.takesWrite who Reg.CH_RETIRE (BitVec.ofNat 32 (c.val + 256)) = true →
      s.dev.chRetired c.val = false →
      s.dev.stripeMode = false →
      c.val ≠ 31 →
      s.dev.march = none →
      s.dev.log.length < 16 →
      s.does (.chRetire who c) (fun d => d.answer.code = .ok ∧ d.chRetired c.val = true ∧ (∀ k : Fin 32, k ≠ c → d.chRetired k.val = s.dev.chRetired k.val) ∧
        (d.chSt c.val).reqs = [] ∧ (d.chSt c.val).queue = [] ∧ d.on Reg.INT_EVT_CH_RETIRED = true ∧
        d.log = s.dev.log ++ [(0, c.val + 2 ^ 13 + 7 * 2 ^ 16)] ∧
        s.dev.regsBut [Reg.CH_RETIRE, Reg.CH_RETIRED, Reg.INT_EVT, Reg.LOG_COUNT] d ∧ d.cells = s.dev.cells ∧ d.frames = s.dev.frames)) ∧
  -- R297, R44: one that is retired already.
  (∀ (s : State) (who : Who) (c : Fin 32),
      s.ready = true →
      s.dev.chRetired c.val = true →
      s.goes (.chRetire who c) (s.dev.reply .retired)) ∧
  -- R293: the attachment presents its oldest event.
  (∀ (s : State) (n : Region) (e : Nat × Nat) (rest : List (Nat × Nat)),
      s.ready = true →
      s.dev.holdOn n.val = false →
      (s.dev.attachSt n.val).queue = e :: rest →
      s.does (.intAttachmentEvent n) (fun d => d.attachSt n.val = { queue := rest, info := some e, lostNow := false, lost := (s.dev.attachSt n.val).lost } ∧
        (∀ m : Region, m ≠ n → d.attachSt m.val = s.dev.attachSt m.val) ∧ { d with attach := s.dev.attach } = s.dev)) ∧
  -- R293: with its queue empty it reports one that was dropped.
  (∀ (s : State) (n : Region),
      s.ready = true →
      s.dev.holdOn n.val = false →
      (s.dev.attachSt n.val).queue = [] →
      0 < (s.dev.attachSt n.val).lost →
      s.does (.intAttachmentEvent n) (fun d => d.attachSt n.val = { queue := [], info := none, lostNow := true, lost := (s.dev.attachSt n.val).lost - 1 }))

/-- START begins a run on the units it names, or is refused TARGET_ERR or BUSY; a destructive access leaves the zero
codeword in its granule and goes on to the next, and in preserving mode the first access of a granule reads and
saves it; an access that finds a fault counts it and remaps; the end sets MARCH_DONE, RESULT and FAULTS; ABORT
ends a run ABORTED, or is flagged LATE; a raw access is taken while ARM is 1 and completes with CT_DONE; a read
of LOG_HI pops the log. -/
def Obligations.MarchAndChecker : Prop :=
  -- R299: START.
  (∀ (s : State) (who : Who),
      s.ready = true →
      s.dev.takes who Reg.MARCH_CTL_START = true →
      s.dev.march = none →
      s.dev.marchAllowed = true →
      s.goes (.start who) (let us := Dev.marchUnits (s.dev.get Reg.MARCH_CTL_KIND) (s.dev.get Reg.MARCH_CTL_UNIT) (s.dev.on Reg.MARCH_CTL_ALL) (!s.dev.on Reg.MARCH_CTL_MODE) s.dev
        ((Dev.touch { ((((s.dev.writtenCmd who Reg.MARCH_CTL_START).raise Reg.MARCH_STS_BUSY).clear Reg.MARCH_STS_PARTIAL).cmdStart 0x4200 0xC) with
          march := some ⟨s.dev.on Reg.MARCH_CTL_MODE, decide (s.dev.get Reg.MARCH_CTL_KIND ≠ 0 ∧ 1 < us.length), false, us, 0, 0, 0, 0, false, false⟩ }
            (aliasIndex Reg.MARCH_CTL)).reply .ok))) ∧
  -- R299: while a run goes on.
  (∀ (s : State) (who : Who),
      s.ready = true →
      s.dev.takes who Reg.MARCH_CTL_START = true →
      s.dev.march ≠ none →
      s.does (.start who) (fun d => d.answer.code = .busy ∧ d.march = s.dev.march ∧ (∀ o, d.word o = s.dev.word o))) ∧
  -- R299: a run that it does not list.
  (∀ (s : State) (who : Who),
      s.ready = true →
      s.dev.takes who Reg.MARCH_CTL_START = true →
      s.dev.march = none →
      s.dev.marchAllowed = false →
      s.does (.start who) (fun d => d.answer.code = .targetErr ∧ d.march = none ∧ (∀ o, d.word o = s.dev.word o))) ∧
  -- R298: an access of the destructive test that reads what the element expects, or that only writes.
  (∀ (s : State) (m : MarchSt) (u : MemUnit) (us : List MemUnit),
      s.ready = true →
      s.dev.march = some m →
      m.preserving = false →
      m.units = u :: us →
      ((Dev.marchElement m.step).1.all (fun x => (s.dev.rawGranule u (m.granule * u.granule)).all (· == x))) = true →
      s.goes (.marchAccess []) (let wrote := fun (a : Dev) => match (Dev.marchElement m.step).2 with
          | some y => a.storeRaw u (m.granule * u.granule) (List.replicate u.granule y)
          | none => a
         { wrote s.dev with march := some (Dev.marchOn m) })) ∧
  -- R298, R295: one that reads something else: the fault is counted, logged and remapped.
  (∀ (s : State) (m : MarchSt) (u : MemUnit) (us : List MemUnit) (x : BitVec 13),
      s.ready = true →
      s.dev.march = some m →
      m.preserving = false →
      m.units = u :: us →
      (Dev.marchElement m.step).1 = some x →
      (s.dev.rawGranule u (m.granule * u.granule)).any (· != x) = true →
      s.goes (.marchAccess []) (let wrote := fun (a : Dev) => match (Dev.marchElement m.step).2 with
          | some y => a.storeRaw u (m.granule * u.granule) (List.replicate u.granule y)
          | none => a
         wrote (s.dev.marchHit m u (m.granule * u.granule) (List.replicate u.granule x) Dev.marchOn))) ∧
  -- R298: the first access of a granule in preserving mode.
  (∀ (s : State) (m : MarchSt) (u : MemUnit) (us : List MemUnit),
      s.ready = true →
      s.dev.march = some m →
      m.preserving = true →
      m.units = u :: us →
      m.step = 0 →
      s.dev.marchWaits u m.granule = false →
      s.goes (.marchAccess []) { s.dev.checkGranule u (m.granule * u.granule) 0 u.granule false with march := some { m with step := 1 } }) ∧
  -- R301: the end of a run.
  (∀ (s : State) (m : MarchSt),
      s.ready = true →
      s.dev.march = some m →
      m.startup = false →
      s.dev.marchStuck m = false →
      s.does .marchDone (fun d => d.march = none ∧ d.on Reg.MARCH_STS_BUSY = false ∧ d.get Reg.MARCH_STS_RESULT = (if Dev.marchFailed m then 2 else 1) ∧
        d.get Reg.MARCH_STS_FAULTS = m.faults % 2 ^ Reg.MARCH_STS_FAULTS.w ∧ d.on Reg.MARCH_STS_PARTIAL = m.partialRun ∧ d.on Reg.INT_EVT_MARCH_DONE = true ∧
        (SMap.get {} d.cmds (Dev.objKey 0x4200 0xC)).code = .ok ∧ (SMap.get {} d.cmds (Dev.objKey 0x4200 0xC)).busy = false)) ∧
  -- R301: ABORT.
  (∀ (s : State) (who : Who) (m : MarchSt),
      s.ready = true →
      s.dev.takes who Reg.MARCH_CTL_ABORT = true →
      s.dev.march = some m →
      s.goes (.marchAbort who) ((((s.dev.writtenCmd who Reg.MARCH_CTL_ABORT).marchEnd m 3 .aborted).touch (aliasIndex Reg.MARCH_CTL)).reply .ok)) ∧
  -- R89: ABORT of no run.
  (∀ (s : State) (who : Who),
      s.ready = true →
      s.dev.takes who Reg.MARCH_CTL_ABORT = true →
      s.dev.march = none →
      s.goes (.marchAbort who) ((((s.dev.writtenCmd who Reg.MARCH_CTL_ABORT).cmdLate 0x4200 0xC).touch (aliasIndex Reg.MARCH_CTL)).reply .ok)) ∧
  -- R302: WRITE_RAW.
  (∀ (s : State) (who : Who),
      s.ready = true →
      s.dev.takes who Reg.CT_CTL_WRITE_RAW = true →
      s.dev.ctlOn Reg.CT_CTL_ARM = true →
      s.dev.ctPending = none →
      s.goes (.writeRaw who) (((Dev.touch { s.dev.writtenCmd who Reg.CT_CTL_WRITE_RAW with ctPending := some false } (aliasIndex Reg.CT_CTL)).reply .ok))) ∧
  -- R302: READ_RAW.
  (∀ (s : State) (who : Who),
      s.ready = true →
      s.dev.takes who Reg.CT_CTL_READ_RAW = true →
      s.dev.ctlOn Reg.CT_CTL_ARM = true →
      s.dev.ctPending = none →
      s.goes (.readRaw who) (((Dev.touch { s.dev.writtenCmd who Reg.CT_CTL_READ_RAW with ctPending := some true } (aliasIndex Reg.CT_CTL)).reply .ok))) ∧
  -- R302: without ARM.
  (∀ (s : State) (who : Who),
      s.ready = true →
      s.dev.takes who Reg.CT_CTL_READ_RAW = true →
      s.dev.ctlOn Reg.CT_CTL_ARM = false →
      s.does (.readRaw who) (fun d => d.answer.code = .targetErr ∧ d.ctPending = s.dev.ctPending ∧ d.cells = s.dev.cells)) ∧
  -- R302: a raw write completes: the four codewords are what CT_DATA and CT_CHECK hold.
  (∀ (s : State),
      s.ready = true →
      s.dev.ctPending = some false →
      MemUnit.ofNums (s.dev.get Reg.CT_CTL_KIND) (s.dev.get Reg.CT_CTL_UNIT) = .hs 0 →
      s.dev.get Reg.CT_ADDR_ADDR < (MemUnit.hs 0).bytes →
      (∀ e : Fin 8, s.dev.on (Reg.HS_REMAP_VALID 0 e.val) = false) →
      s.does .ctDone (fun d => d.ctPending = none ∧ d.on Reg.INT_EVT_CT_DONE = true ∧
        (∀ i : Fin 4, d.cell (.hs 0) (s.dev.get Reg.CT_ADDR_ADDR / 4 * 4 + i.val) =
          BitVec.ofNat 13 (s.dev.get Reg.CT_DATA_DATA / 2 ^ (8 * i.val) % 256 + s.dev.get Reg.CT_CHECK_CHECK / 2 ^ (5 * i.val) % 32 * 256)) ∧
        s.dev.regsBut [Reg.INT_EVT] d ∧ s.dev.restSame { d with ctPending := s.dev.ctPending, cells := s.dev.cells })) ∧
  -- R302: a raw read completes.
  (∀ (s : State),
      s.ready = true →
      s.dev.ctPending = some true →
      MemUnit.ofNums (s.dev.get Reg.CT_CTL_KIND) (s.dev.get Reg.CT_CTL_UNIT) = .hs 0 →
      s.dev.get Reg.CT_ADDR_ADDR < (MemUnit.hs 0).bytes →
      s.does .ctDone (fun d => d.ctPending = none ∧ d.on Reg.INT_EVT_CT_DONE = true ∧ d.cells = s.dev.cells ∧
        (∀ i : Fin 4, fieldOf (d.word Reg.CT_RDATA) (8 * i.val) 8 + 256 * fieldOf (d.word Reg.CT_RCHECK) (5 * i.val) 5 =
          (s.dev.cell (.hs 0) (s.dev.get Reg.CT_ADDR_ADDR / 4 * 4 + i.val)).toNat))) ∧
  -- R302: past the last byte of the unit a raw access changes nothing in any unit.
  (∀ (s : State) (read : Bool),
      s.ready = true →
      s.dev.ctPending = some read →
      (MemUnit.ofNums (s.dev.get Reg.CT_CTL_KIND) (s.dev.get Reg.CT_CTL_UNIT)).bytes ≤ s.dev.get Reg.CT_ADDR_ADDR / 4 * 4 →
      s.does .ctDone (fun d => d.ctPending = none ∧ d.on Reg.INT_EVT_CT_DONE = true ∧ d.cells = s.dev.cells)) ∧
  -- R304, R305: a read of LOG_HI pops the log.
  (∀ (s : State) (who : Who) (e : Nat × Nat) (rest : List (Nat × Nat)),
      s.ready = true →
      who.deniedCsr = false →
      s.dev.failed Reg.LOG_HI = false →
      s.dev.log = e :: rest →
      rest.length < 16 →
      s.does (.logPop who) (fun d => d.answer = { code := .ok, data := leBytes 4 (e.2 % 2 ^ 32) } ∧ d.log = rest ∧ d.get Reg.LOG_COUNT_COUNT = rest.length ∧
        s.dev.regsBut [Reg.LOG_COUNT] d ∧ s.dev.restSame { d with log := s.dev.log }))

/-- A line that waits enters its bank's queue while that holds fewer than 16; a cycle issues a forced refresh first,
then a due refresh of a bank without urgent requests, then one command of a ready bank for its candidate; a
finished request is answered and counted as missed when late; urgency rises a level at a time and OVERDUE is set
at U4; refreshes come due in rotation; the sensors set the fast rate and HOT95; delays move one tap; the bring-
up check ends clean or with BRINGUP_FAIL. -/
def Obligations.DramChannels : Prop :=
  -- R345: room in the bank's queue.
  (∀ (s : State) (c : Fin 32) (r : DramReq) (l : Nat),
      s.ready = true →
      s.dev.on Reg.CLK_STS_ROOT_LOCK = true →
      (s.dev.chSt c.val).reqs = [r] →
      r.toQueue = [l] →
      ((s.dev.chSt c.val).queue.filter (fun q => Dev.bankOf q.line == Dev.bankOf l)).length < 16 →
      s.goes (.dramReqEnqueue c) (s.dev.setCh c.val { s.dev.chSt c.val with queue := (s.dev.chSt c.val).queue ++ [⟨r.id, l⟩], reqs := [{ r with toQueue := [] }] })) ∧
  -- R345: the queue is full.
  (∀ (s : State) (c : Fin 32) (r : DramReq) (l : Nat),
      s.ready = true →
      s.dev.on Reg.CLK_STS_ROOT_LOCK = true →
      (s.dev.chSt c.val).reqs = [r] →
      r.toQueue = [l] →
      16 ≤ ((s.dev.chSt c.val).queue.filter (fun q => Dev.bankOf q.line == Dev.bankOf l)).length →
      s.does (.dramReqEnqueue c) (fun d => d.chSt c.val = s.dev.chSt c.val)) ∧
  -- R351: a forced refresh goes first.
  (∀ (s : State) (c : Fin 32) (ready : BitVec 32) (b : Nat),
      s.ready = true →
      s.dev.on Reg.CLK_STS_ROOT_LOCK = true →
      s.dev.domState (16 + c.val) = 0 →
      s.dev.chRetired c.val = false →
      (s.dev.chSt c.val).refreshForced.find? (fun b => ready.toNat.testBit b) = some b →
      s.goes (.dramCommandIssue c ready) (s.dev.issueRefresh c.val b)) ∧
  -- R351: then a due refresh of a bank with no request of urgency U3 or U4.
  (∀ (s : State) (c : Fin 32) (ready : BitVec 32) (b : Nat),
      s.ready = true →
      s.dev.on Reg.CLK_STS_ROOT_LOCK = true →
      s.dev.domState (16 + c.val) = 0 →
      s.dev.chRetired c.val = false →
      (s.dev.chSt c.val).refreshForced = [] →
      (s.dev.chSt c.val).refreshDue.find? (fun b => ready.toNat.testBit b && !Dev.bankUrgent (s.dev.chSt c.val) b) = some b →
      s.goes (.dramCommandIssue c ready) (s.dev.issueRefresh c.val b)) ∧
  -- R349: then the one ready bank with a candidate.
  (∀ (s : State) (c : Fin 32) (b : Fin 32) (q : DramLine),
      s.ready = true →
      s.dev.on Reg.CLK_STS_ROOT_LOCK = true →
      s.dev.domState (16 + c.val) = 0 →
      s.dev.chRetired c.val = false →
      (s.dev.chSt c.val).refreshForced = [] →
      (s.dev.chSt c.val).refreshDue = [] →
      Dev.bankCandidate (s.dev.chSt c.val) (s.dev.ctl (Dev.chF Reg.CH_CTL_HIT_LIMIT c.val)) b.val = some q →
      s.goes (.dramCommandIssue c (BitVec.ofNat 32 (2 ^ b.val))) (s.dev.issueFor c.val b.val q)) ∧
  -- R350: its row is open and stays open: the column command serves the line.
  (∀ (s : State) (c : Fin 32) (b : Fin 32) (q : DramLine) (r : DramReq),
      s.ready = true →
      s.dev.on Reg.CLK_STS_ROOT_LOCK = true →
      s.dev.domState (16 + c.val) = 0 →
      s.dev.chRetired c.val = false →
      (s.dev.chSt c.val).refreshForced = [] →
      (s.dev.chSt c.val).refreshDue = [] →
      Dev.bankCandidate (s.dev.chSt c.val) (s.dev.ctl (Dev.chF Reg.CH_CTL_HIT_LIMIT c.val)) b.val = some q →
      (Dev.bankEntries (s.dev.chSt c.val) b.val).head? = some q →
      SMap.get 0 (s.dev.chSt c.val).rows b.val = Dev.rowOf q.line + 1 →
      (s.dev.chSt c.val).reqs.find? (fun r => r.id == q.id) = some r →
      s.dev.keepsRow c.val r.pkt = true →
      s.goes (.dramCommandIssue c (BitVec.ofNat 32 (2 ^ b.val))) ((s.dev.setCh c.val { s.dev.chSt c.val with
        ptr := (b.val + 1) % 32, passes := SMap.put 0 (s.dev.chSt c.val).passes b.val 0 }).serveLine c.val q)) ∧
  -- R346, R348: the oldest request is finished: it is answered, and counted as missed when it was late.
  (∀ (s : State) (c : Fin 32) (age : Nat) (r : DramReq) (rest : List DramReq),
      s.ready = true →
      s.dev.on Reg.CLK_STS_ROOT_LOCK = true →
      (s.dev.chSt c.val).reqs = r :: rest →
      r.left = [] →
      s.goes (.dramResponse c age) (let d1 := s.dev.setCh c.val { s.dev.chSt c.val with reqs := rest }
        let d2 := if r.code = .ok ∧ r.target < age then (d1.raise (Dev.chF Reg.CH_EVT_MISSED c.val)).count (Dev.chF Reg.CH_LAT_CNT_MISSED_CNT c.val) else d1
        d2.answerReq (128 + c.val) r.pkt (if r.code ≠ .ok then r.code else if (Dev.respBytes r).2 then .poison
          else if r.pkt.cmd = 3 ∧ r.pkt.atop = 3 then .targetErr else .ok) (Dev.respBytes r).2 (Dev.respBytes r).1)) ∧
  -- R348: urgency below U3 rises one level.
  (∀ (s : State) (c : Fin 32) (id : Nat) (r : DramReq),
      s.ready = true →
      s.dev.on Reg.CLK_STS_ROOT_LOCK = true →
      (s.dev.chSt c.val).reqs = [r] →
      r.id = id →
      r.urgency < 3 →
      s.goes (.urgencyRise c id) (s.dev.setCh c.val { s.dev.chSt c.val with reqs := [{ r with urgency := r.urgency + 1 }] })) ∧
  -- R348: U4 is OVERDUE.
  (∀ (s : State) (c : Fin 32) (id : Nat) (r : DramReq),
      s.ready = true →
      s.dev.on Reg.CLK_STS_ROOT_LOCK = true →
      (s.dev.chSt c.val).reqs = [r] →
      r.id = id →
      r.urgency = 3 →
      s.goes (.urgencyRise c id) (((s.dev.setCh c.val { s.dev.chSt c.val with reqs := [{ r with urgency := 4 }] }).raise (Dev.chF Reg.CH_EVT_OVERDUE c.val)).count (Dev.chF Reg.CH_LAT_CNT_OVERDUE_CNT c.val))) ∧
  -- R351: a refresh comes due.
  (∀ (s : State) (c : Fin 32),
      s.ready = true →
      s.dev.on Reg.CLK_STS_ROOT_LOCK = true →
      s.dev.domState (16 + c.val) = 0 →
      s.dev.chRetired c.val = false →
      (s.dev.chSt c.val).refreshNext ∉ (s.dev.chSt c.val).refreshDue →
      s.goes (.refreshDue c) ((s.dev.fastApply (Fin.ofNat 2 (c.val / 16))).setCh c.val { s.dev.chSt c.val with refreshNext := ((s.dev.chSt c.val).refreshNext + 1) % 32, rows := SMap.put 0 (s.dev.chSt c.val).rows (s.dev.chSt c.val).refreshNext 0, refreshDue := (s.dev.chSt c.val).refreshDue ++ [(s.dev.chSt c.val).refreshNext] })) ∧
  -- R351: and the refresh rate that the sensors ask for comes into force with it.
  (∀ (s : State) (c : Fin 32),
      s.ready = true →
      s.dev.on Reg.CLK_STS_ROOT_LOCK = true →
      s.dev.domState (16 + c.val) = 0 →
      s.dev.chRetired c.val = false →
      s.does (.refreshDue c) (fun d => d.on (Reg.CH_STS_FAST_REFRESH (c.val / 16) 0) = SMap.get false s.dev.fastWant (c.val / 16))) ∧
  -- R351: a refresh that urgent requests delay is forced.
  (∀ (s : State) (c : Fin 32) (b : Nat),
      s.ready = true →
      s.dev.on Reg.CLK_STS_ROOT_LOCK = true →
      (s.dev.chSt c.val).refreshDue.find? (fun b => Dev.bankUrgent (s.dev.chSt c.val) b && !(s.dev.chSt c.val).refreshForced.contains b) = some b →
      s.goes (.refreshForced c) ((s.dev.setCh c.val { s.dev.chSt c.val with refreshForced := (s.dev.chSt c.val).refreshForced ++ [b] }).raise (Dev.chF Reg.CH_EVT_REFRESH_FORCED c.val))) ∧
  -- R352, R351: the sensors of a stack.
  (∀ (s : State) (k : Fin 2) (t0 t1 t2 t3 : BitVec 8),
      s.ready = true →
      s.does (.dramTempRead k t0 t1 t2 t3) (fun d =>
        let ts := [t0.toInt, t1.toInt, t2.toInt, t3.toInt]
        d.get (Reg.DR_TEMP_T0 k.val) = t0.toNat ∧ d.get (Reg.DR_TEMP_T1 k.val) = t1.toNat ∧ d.get (Reg.DR_TEMP_T2 k.val) = t2.toNat ∧ d.get (Reg.DR_TEMP_T3 k.val) = t3.toNat ∧
        ((∃ t ∈ ts, 85 < t) → SMap.get false d.fastWant k.val = true) ∧
        ((∀ t ∈ ts, t ≤ 82) → SMap.get false d.fastWant k.val = false) ∧
        ((∃ t ∈ ts, 82 < t) → (∀ t ∈ ts, t ≤ 85) → d.fastWant = s.dev.fastWant) ∧
        (d.on (Reg.DR_TEMP_EVT_HOT95 k.val) = (s.dev.on (Reg.DR_TEMP_EVT_HOT95 k.val) || ts.any (fun t => decide (95 ≤ t)))) ∧
        s.dev.regsBut [Reg.DR_TEMP k.val, Reg.DR_TEMP_EVT k.val] d ∧ s.dev.restSame { d with fastWant := s.dev.fastWant })) ∧
  -- R354: each delay that moves steps one tap.
  (∀ (s : State) (c : Fin 32) (j : Fin 104),
      s.ready = true →
      s.dev.on Reg.CLK_STS_ROOT_LOCK = true →
      s.dev.on (Dev.chF Reg.CH_STS_DLY_MOVING c.val) = true →
      s.does (.delayMove c) (fun d =>
        let a := SMap.get 0 (s.dev.chSt c.val).applied j.val
        let t := s.dev.dqDelay c.val j.val
        SMap.get 0 (d.chSt c.val).applied j.val = (if a < t then a + 1 else if t < a then a - 1 else a) ∧
        d.on (Dev.chF Reg.CH_STS_DLY_MOVING c.val) = d.dlyMoving c.val ∧
        (d.dlyMoving c.val = false → d.on (Dev.chF Reg.CH_EVT_DLY_DONE c.val) = true) ∧
        s.dev.regsBut [(Dev.chF Reg.CH_STS_DLY_MOVING c.val).off, (Dev.chF Reg.CH_EVT_DLY_DONE c.val).off] d ∧ s.dev.restSame { d with ch := s.dev.ch })) ∧
  -- R355: BRINGUP.
  (∀ (s : State) (who : Who) (c : Fin 32),
      s.ready = true →
      s.dev.takes who (Dev.chF Reg.CH_CTL_BRINGUP c.val) = true →
      s.dev.on (Dev.chF Reg.CH_STS_BRINGUP_BUSY c.val) = false →
      s.goes (.bringup who c) ((((s.dev.writtenCmd who (Dev.chF Reg.CH_CTL_BRINGUP c.val)).raise (Dev.chF Reg.CH_STS_BRINGUP_BUSY c.val)).touch (aliasIndex (Dev.chF Reg.CH_CTL_BRINGUP c.val).off)).reply .ok)) ∧
  -- R355, R296: its end.
  (∀ (s : State) (c : Fin 32) (mismatch : Bool),
      s.ready = true →
      s.dev.on Reg.CLK_STS_ROOT_LOCK = true →
      s.dev.on (Dev.chF Reg.CH_STS_BRINGUP_BUSY c.val) = true →
      s.dev.on (Dev.chF Reg.CH_STS_DLY_MOVING c.val) = false →
      (s.dev.chSt c.val).reqs = [] →
      s.dev.ctlOn Reg.INT_CTL_AUTO_CH_RETIRE = false →
      s.does (.bringupDone c mismatch) (fun d => d.on (Dev.chF Reg.CH_STS_BRINGUP_BUSY c.val) = false ∧
        d.on (Dev.chF Reg.CH_EVT_BRINGUP_FAIL c.val) = (s.dev.on (Dev.chF Reg.CH_EVT_BRINGUP_FAIL c.val) || mismatch) ∧
        d.bit Reg.CH_FAILED_MASK c.val = (s.dev.bit Reg.CH_FAILED_MASK c.val || mismatch) ∧
        (mismatch = true → d.on Reg.INT_EVT_UNIT_FAILED = true) ∧ d.chRetired c.val = s.dev.chRetired c.val))

/-- A request presented at an enabled interface takes the next tag and leaves when its class lets it, and waits
behind a closed guard; a guaranteed request due in the slot is injected whole outside the quiet window; a bucket
gains RATE tokens up to DEPTH; a FENCE takes a tag and completes, once every earlier write has, with the code of
the earliest that failed; a response completes its request and frees its tag, a late one is counted; a timeout
is synthesized. -/
def Obligations.NetworkInterfaces : Prop :=
  -- R311, R324: a whole request at an enabled interface with an open guard and a free tag.
  (∀ (s : State) (i : Fin 170) (p : Pkt),
      s.ready = true →
      s.dev.on Reg.CLK_STS_ROOT_LOCK = true →
      s.dev.niEnabled i.val = true →
      s.dev.guardClosed i.val = false →
      (s.dev.niSt i.val).presented = [] →
      (s.dev.niSt i.val).opening = false →
      (s.dev.niSt i.val).tags.length + (s.dev.niSt i.val).fences.length < 4096 →
      s.goes (.niRequest i p 0 true) (((s.dev.setNi i.val { s.dev.niSt i.val with rqTag := none, presented := [], opening := false }).niTake i.val { p with dst := 0 }).niSend i.val)) ∧
  -- R332: behind a closed guard.
  (∀ (s : State) (i : Fin 170) (p : Pkt) (last : Bool),
      s.ready = true →
      s.dev.on Reg.CLK_STS_ROOT_LOCK = true →
      s.dev.niEnabled i.val = true →
      s.dev.guardClosed i.val = true →
      (s.dev.niSt i.val).opening = false →
      p.cmd ≠ 4 →
      s.goes (.niRequest i p 0 last) (s.dev.setNi i.val { s.dev.niSt i.val with rqTag := none, presented := (s.dev.niSt i.val).presented ++ [{ p with dst := 0 }], opening := !last })) ∧
  -- R222, R334: the first flit of a request takes its tag; the request waits until the last has come.
  (∀ (s : State) (i : Fin 170) (p : Pkt),
      s.ready = true →
      s.dev.on Reg.CLK_STS_ROOT_LOCK = true →
      s.dev.niEnabled i.val = true →
      s.dev.guardClosed i.val = false →
      (s.dev.niSt i.val).presented = [] →
      (s.dev.niSt i.val).waiting = [] →
      (s.dev.niSt i.val).opening = false →
      p.cmd ≠ 4 →
      (s.dev.niSt i.val).tags.length + (s.dev.niSt i.val).fences.length < 4096 →
      s.does (.niRequest i p 0 false) (fun d => (d.niSt i.val).opening = true ∧ (d.niSt i.val).rqTag = some (niNextTag (s.dev.niSt i.val)) ∧
        (d.niSt i.val).waiting = [{ tag := niNextTag (s.dev.niSt i.val), pkt := { p with dst := 0, tag := niNextTag (s.dev.niSt i.val) }, whole := false }] ∧
        d.noc = s.dev.noc ∧ (∀ o, d.word o = s.dev.word o))) ∧
  -- R318, R334: the logic behind a region's interface reads responses, which makes room for the next.
  (∀ (s : State) (i : Fin 170) (p : Pkt) (k : Nat),
      s.ready = true →
      s.dev.on Reg.CLK_STS_ROOT_LOCK = true →
      i.val < 128 →
      s.dev.niEnabled i.val = true →
      k ≠ 0 →
      s.goes (.niRequest i p k true) (let d1 := (s.dev.setNi i.val { s.dev.niSt i.val with rs := (s.dev.niSt i.val).rs.drop k }).niPump i.val; if (d1.niSt i.val).opening then d1.niBeat i.val p.data true else d1.niEnter i.val { p with dst := 0 } true)) ∧
  -- R324: the tag a request takes is free, and a write takes its place in issue order.
  (∀ (d : Dev) (i : Fin 170) (p : Pkt),
      (d.niSt i.val).tags.length + (d.niSt i.val).fences.length < 4096 →
      p.isWrite = true →
      (∀ t ∈ (d.niSt i.val).tags, t.tag ≠ niNextTag (d.niSt i.val)) ∧ (∀ f ∈ (d.niSt i.val).fences, f.tag ≠ niNextTag (d.niSt i.val)) ∧
        ((d.niTake i.val p).niSt i.val).rqTag = some (niNextTag (d.niSt i.val)) ∧ ((d.niTake i.val p).niSt i.val).tags = (d.niSt i.val).tags ++ [{ tag := niNextTag (d.niSt i.val), pkt := { p with tag := niNextTag (d.niSt i.val) } }] ∧
        ((d.niTake i.val p).niSt i.val).writes = (d.niSt i.val).writes ++ [⟨(d.niSt i.val).nextWrite, niNextTag (d.niSt i.val), none, false⟩]) ∧
  -- R320: a guaranteed request due in the slot.
  (∀ (s : State) (i : Fin 170) (t : TagSt) (q : Pkt) (f e : Nat) (d1 : Dev),
      s.ready = true →
      s.dev.on Reg.CLK_STS_ROOT_LOCK = true →
      s.dev.on Reg.NOC_STS_GT_QUIET = false →
      s.dev.guardClosed i.val = false →
      (s.dev.niSt i.val).waiting = [t] →
      s.dev.formHeader i.val t.pkt = (.packet q f e, d1) →
      q.cls = 1 →
      t.whole = true →
      (s.dev.niSt i.val).gtSlot ≠ some s.dev.noc.slotNum →
      (s.dev.get Reg.NOC_STS_SLOT + 256 - f) % 2 ^ e = 0 →
      Dev.owedFlits (s.dev.niSt i.val) + q.owed ≤ 1024 →
      s.goes (.gtSlotInject i) ((d1.setNi i.val { d1.niSt i.val with gtSlot := some s.dev.noc.slotNum }).niInject i.val t q)) ∧
  -- R320: no second one in a slot.
  (∀ (s : State) (i : Fin 170),
      s.ready = true →
      s.dev.on Reg.CLK_STS_ROOT_LOCK = true →
      (s.dev.niSt i.val).gtSlot = some s.dev.noc.slotNum →
      s.goes (.gtSlotInject i) s.dev) ∧
  -- R329: none in the quiet window.
  (∀ (s : State) (i : Fin 170),
      s.ready = true →
      s.dev.on Reg.CLK_STS_ROOT_LOCK = true →
      s.dev.on Reg.NOC_STS_GT_QUIET = true →
      s.goes (.gtSlotInject i) s.dev) ∧
  -- R322: the bucket.
  (∀ (s : State) (i : Fin 170),
      s.ready = true →
      s.dev.on Reg.CLK_STS_ROOT_LOCK = true →
      s.dev.guardClosed i.val = true ∨ (s.dev.niSt i.val).waiting = [] →
      s.goes (.tokenRefill i) (s.dev.setNi i.val { s.dev.niSt i.val with tokens := min ((s.dev.niSt i.val).tokens + s.dev.ctl (Reg.NI_TB_RATE i.val)) (s.dev.ctl (Reg.NI_TB_DEPTH i.val)) })) ∧
  -- R325: a FENCE takes a tag and its place among the writes.
  (∀ (s : State) (i : Fin 170) (user : BitVec 48),
      s.ready = true →
      s.dev.on Reg.CLK_STS_ROOT_LOCK = true →
      s.dev.niEnabled i.val = true →
      s.dev.guardClosed i.val = false →
      (s.dev.niSt i.val).presented = [] →
      (s.dev.niSt i.val).waiting = [] →
      (s.dev.niSt i.val).tags.length + (s.dev.niSt i.val).fences.length < 4096 →
      s.does (.fencePacket i user) (fun d => d.niSt i.val = { s.dev.niSt i.val with
        rqTag := some (niNextTag (s.dev.niSt i.val)), opening := false,
        nextTag := (niNextTag (s.dev.niSt i.val) + 1) % 4096,
        fences := (s.dev.niSt i.val).fences ++ [⟨niNextTag (s.dev.niSt i.val), (s.dev.niSt i.val).nextWrite, user.toNat⟩] } ∧
        { d with ni := s.dev.ni } = s.dev)) ∧
  -- R35: a FENCE completes.
  (∀ (s : State) (i : Fin 170) (tag limit user : Nat) (rest : List FenceSt),
      s.ready = true →
      s.dev.on Reg.CLK_STS_ROOT_LOCK = true →
      (s.dev.niSt i.val).fences = ⟨tag, limit, user⟩ :: rest →
      (s.dev.niSt i.val).writes.all (fun w => decide (limit ≤ w.num) || w.code.isSome) = true →
      s.goes (.fencePacketComplete i) ((s.dev.setNi i.val { s.dev.niSt i.val with
        fences := rest, writes := (s.dev.niSt i.val).writes.filter (fun w => limit ≤ w.num),
        rs := (s.dev.niSt i.val).rs ++ [{ cmd := 5, tag := tag, dst := i.val, src := i.val, user := user, code := ((((s.dev.niSt i.val).writes.filter (fun w => w.num < limit)).filterMap (fun w => w.code)).find? (· != .ok)).getD .ok }] }).niPump i.val)) ∧
  -- R324: a response.
  (∀ (s : State) (i : Fin 170) (p : Pkt) (t : TagSt),
      s.ready = true →
      s.dev.on Reg.CLK_STS_ROOT_LOCK = true →
      s.dev.ctx.held = [] →
      i.val ≠ 166 →
      s.dev.firstRx i.val (fun p => p.cmd == 5) = some p →
      (s.dev.niSt i.val).tags.find? (fun t => t.tag == p.tag && t.injected) = some t →
      s.goes (.rsp i 0) (((s.dev.takeRx i.val (fun p => p.cmd == 5)).niComplete i.val t p.code p.poison p.data).niPump i.val)) ∧
  -- R324: one whose request has ended is counted.
  (∀ (s : State) (i : Fin 170) (p : Pkt),
      s.ready = true →
      s.dev.on Reg.CLK_STS_ROOT_LOCK = true →
      s.dev.ctx.held = [] →
      s.dev.firstRx i.val (fun p => p.cmd == 5) = some p →
      (s.dev.niSt i.val).tags.find? (fun t => t.tag == p.tag && t.injected) = none →
      s.goes (.rsp i 0) ((s.dev.takeRx i.val (fun p => p.cmd == 5)).count (Reg.NI_CNT_LATE_RSP i.val))) ∧
  -- R324: a timeout.
  (∀ (s : State) (i : Fin 170) (tag : Fin 4096) (t : TagSt),
      s.ready = true →
      s.dev.on Reg.CLK_STS_ROOT_LOCK = true →
      s.dev.ctx.held = [] →
      (s.dev.niSt i.val).rx.any (fun p => p.cmd == 5 && p.tag == tag.val) = false →
      (s.dev.niSt i.val).tags.find? (fun t => t.tag == tag.val && t.injected) = some t →
      i.val ≠ 166 →
      s.goes (.niTimeout i tag) (((s.dev.count (Reg.NI_CNT_TIMEOUT_CNT i.val)).niComplete i.val t .timeout false []).niPump i.val)) ∧
  -- R324: a completed request has given its tag back, and its response stands for its block unless it answers a
  -- WR.
  (∀ (d : Dev) (i : Fin 170) (t : TagSt) (c : Code) (poison : Bool) (data : List Byte),
      t.dropped = false →
      i.val ≠ 166 →
      (∀ x ∈ ((d.niComplete i.val t c poison data).niSt i.val).tags, x.tag ≠ t.tag) ∧
        ((d.niComplete i.val t c poison data).niSt i.val).rs = (d.niSt i.val).rs ++ (if t.pkt.cmd = 1 then [] else
          [{ t.pkt with cmd := 5, tag := t.tag, code := c, poison := poison, data := data, dst := i.val, src := t.pkt.dst }]))

/-- A header whose output has room and grants it goes to the input of the next waystation with ROUTE rotated, its
own input recorded and HOPS one more, or is ejected to the interface there; a header with an uncorrectable byte,
a bad route code, more than 32 hops, a step off the mesh, no interface to eject to, or a disabled output is
discarded, counted and recorded with its reason; without room or grant nothing changes; a single error in a
buffered byte is corrected; and after each move what waits for room in the network enters it. -/
def Obligations.Waystations : Prop :=
  -- R314: a hop to the next waystation.
  (∀ (s : State) (w : Fin 192) (inp : Fin 5) (vc : Fin 4) (f : Flight) (w2 : Nat),
      s.ready = true →
      s.dev.on Reg.CLK_STS_ROOT_LOCK = true →
      s.dev.domState (4 + wsPart w.val) = 0 →
      s.dev.front w.val inp.val vc.val = some f →
      f.pkt.route % 8 < 4 →
      f.pkt.hops < 32 →
      Dev.meshStep w.val (f.pkt.route % 8) = some w2 →
      s.dev.outEnabled w.val (f.pkt.route % 8) f.pkt.epoch = true →
      s.dev.canHop f = true →
      s.dev.granted f = true →
      vc ≠ 0 →
      s.goes (.waystationHop w inp vc []) (({ s.dev with noc := { s.dev.noc with
        arb := SMap.put 0 s.dev.noc.arb ((w.val * 8 + f.pkt.route % 8) * 4 + vc.val) ((inp.val + 1) % 5)
        flight := s.dev.popFlight w.val inp.val vc.val ++ [⟨w2, Dev.enterPort (f.pkt.route % 8), vc.val,
          { f.pkt with route := f.pkt.route / 8 % 2 ^ 93 + inp.val * 2 ^ 93, hops := f.pkt.hops + 1 },
          ⟨w2, Dev.enterPort (f.pkt.route % 8), vc.val, 0⟩ :: f.body⟩] } } : Dev).netPump)) ∧
  -- R314, R321: ejection to the interface the packet names.
  (∀ (s : State) (w : Fin 192) (inp : Fin 5) (vc : Fin 4) (f : Flight) (i : Nat),
      s.ready = true →
      s.dev.on Reg.CLK_STS_ROOT_LOCK = true →
      s.dev.domState (4 + wsPart w.val) = 0 →
      s.dev.front w.val inp.val vc.val = some f →
      f.pkt.route % 8 = 4 →
      f.pkt.hops < 32 →
      niAtWs w.val = some i →
      f.pkt.dst = i →
      f.pkt.cmd ≠ 5 →
      s.dev.outEnabled w.val 4 f.pkt.epoch = true →
      s.dev.granted f = true →
      vc ≠ 0 →
      s.goes (.waystationHop w inp vc []) ((({ s.dev with noc := { s.dev.noc with
        arb := SMap.put 0 s.dev.noc.arb ((w.val * 8 + 4) * 4 + vc.val) ((inp.val + 1) % 5), flight := s.dev.popFlight w.val inp.val vc.val } } : Dev).setNi i
          { s.dev.niSt i with rx := (s.dev.niSt i).rx ++ [{ f.pkt with route := f.pkt.route / 8 % 2 ^ 93 + inp.val * 2 ^ 93, hops := f.pkt.hops + 1 }] }).netPump)) ∧
  -- R314: a guaranteed packet outside its slot goes on as best-effort, and the miss is counted.
  (∀ (s : State) (w : Fin 192) (inp : Fin 5) (f : Flight) (w2 : Nat),
      s.ready = true →
      s.dev.on Reg.CLK_STS_ROOT_LOCK = true →
      s.dev.domState (4 + wsPart w.val) = 0 →
      s.dev.front w.val inp.val 0 = some f →
      f.pkt.route % 8 < 4 →
      f.pkt.hops < 32 →
      Dev.meshStep w.val (f.pkt.route % 8) = some w2 →
      s.dev.outEnabled w.val (f.pkt.route % 8) f.pkt.epoch = true →
      s.dev.canHop f = true →
      s.dev.granted f = true →
      s.dev.slotOwner (bit01 f.pkt.epoch) w.val (f.pkt.route % 8) (s.dev.get Reg.NOC_STS_SLOT) ≠ inp.val →
      s.goes (.waystationHop w inp 0 []) (((({ s.dev with noc := { s.dev.noc with
        arb := SMap.put 0 s.dev.noc.arb ((w.val * 8 + f.pkt.route % 8) * 4 + 3) ((inp.val + 1) % 5), flight := s.dev.popFlight w.val inp.val 0 ++
          [⟨w2, Dev.enterPort (f.pkt.route % 8), 3, { f.pkt with route := f.pkt.route / 8 % 2 ^ 93 + inp.val * 2 ^ 93, hops := f.pkt.hops + 1 },
            ⟨w2, Dev.enterPort (f.pkt.route % 8), 3, 0⟩ :: f.body⟩] } } : Dev).raise Reg.NOC_EVT_GT_MISS).count Reg.NOC_CNT_GT_MISS_CNT).netPump)) ∧
  -- R323: an uncorrectable header byte, reason 3.
  (∀ (s : State) (w : Fin 192) (inp : Fin 5) (vc : Fin 4) (f : Flight) (flips : List (Nat × BitVec 13)),
      s.ready = true →
      s.dev.on Reg.CLK_STS_ROOT_LOCK = true →
      s.dev.domState (4 + wsPart w.val) = 0 →
      s.dev.front w.val inp.val vc.val = some f →
      Dev.hopPkt flips f.pkt = none →
      s.goes (.waystationHop w inp vc flips) (Dev.nocDrop { s.dev with noc := { s.dev.noc with flight := s.dev.popFlight w.val inp.val vc.val } } w.val false (f.pkt.route % 8) 3).netPump) ∧
  -- R285: a single error in a byte that a buffer holds is corrected on the way out.
  (∀ (p : Pkt) (k : Nat) (b : Fin 13),
      Dev.hopPkt [(k, 1#13 <<< b.val)] p = some p) ∧
  -- R323: a bad route code, too many hops, a step off the mesh, or no interface there, reason 2.
  (∀ (s : State) (w : Fin 192) (inp : Fin 5) (vc : Fin 4) (f : Flight),
      s.ready = true →
      s.dev.on Reg.CLK_STS_ROOT_LOCK = true →
      s.dev.domState (4 + wsPart w.val) = 0 →
      s.dev.front w.val inp.val vc.val = some f →
      5 ≤ f.pkt.route % 8 ∨ 32 ≤ f.pkt.hops ∨ (f.pkt.route % 8 < 4 ∧ Dev.meshStep w.val (f.pkt.route % 8) = none) ∨ (f.pkt.route % 8 = 4 ∧ niAtWs w.val = none) →
      s.goes (.waystationHop w inp vc []) (Dev.nocDrop { s.dev with noc := { s.dev.noc with flight := s.dev.popFlight w.val inp.val vc.val } } w.val false (f.pkt.route % 8) 2).netPump) ∧
  -- R323, R328: a disabled output, reason 1.
  (∀ (s : State) (w : Fin 192) (inp : Fin 5) (vc : Fin 4) (f : Flight) (w2 : Nat),
      s.ready = true →
      s.dev.on Reg.CLK_STS_ROOT_LOCK = true →
      s.dev.domState (4 + wsPart w.val) = 0 →
      s.dev.front w.val inp.val vc.val = some f →
      f.pkt.route % 8 < 4 →
      f.pkt.hops < 32 →
      Dev.meshStep w.val (f.pkt.route % 8) = some w2 →
      s.dev.outEnabled w.val (f.pkt.route % 8) f.pkt.epoch = false →
      s.goes (.waystationHop w inp vc []) (Dev.nocDrop { s.dev with noc := { s.dev.noc with flight := s.dev.popFlight w.val inp.val vc.val } } w.val false (f.pkt.route % 8) 1).netPump) ∧
  -- R323: what a discard records.
  (∀ (d : Dev) (place port reason : Nat) (atNi : Bool),
      place < 256 →
      port < 8 →
      reason < 8 →
      let e := d.nocDrop place atNi port reason
      e.get Reg.NOC_CNT_DROP_CNT = min (d.get Reg.NOC_CNT_DROP_CNT + 1) (2 ^ Reg.NOC_CNT_DROP_CNT.w - 1) ∧ e.on Reg.NOC_EVT_DROP = true ∧
      e.get Reg.NOC_LAST_DROP_WHERE = place ∧ e.on Reg.NOC_LAST_DROP_AT_NI = atNi ∧ e.get Reg.NOC_LAST_DROP_PORT = port ∧
      e.get Reg.NOC_LAST_DROP_REASON = reason ∧ e.on Reg.NOC_LAST_DROP_VALID = true) ∧
  -- R317, R318: without room or without its turn it stays.
  (∀ (s : State) (w : Fin 192) (inp : Fin 5) (vc : Fin 4) (f : Flight) (w2 : Nat),
      s.ready = true →
      s.dev.on Reg.CLK_STS_ROOT_LOCK = true →
      s.dev.domState (4 + wsPart w.val) = 0 →
      s.dev.front w.val inp.val vc.val = some f →
      f.pkt.route % 8 < 4 →
      f.pkt.hops < 32 →
      Dev.meshStep w.val (f.pkt.route % 8) = some w2 →
      s.dev.outEnabled w.val (f.pkt.route % 8) f.pkt.epoch = true →
      s.dev.canHop f = false ∨ s.dev.granted f = false →
      s.goes (.waystationHop w inp vc []) s.dev)

/-- A request that reaches a region whose image runs with NI_EN is answered by its logic, one at a retired region
RETIRED and at a region without an image NO_TARGET; RD, WRA and ATOM in the SRAM window act on its bytes, a
fabric interface being DENIED; a request at NI 169 is one CSR request; a request at a channel enters it, a
refusal keeping its turn in its stream; WAKE at an open guard is answered OK; a closed guard answers FENCED
outside compatibility mode. -/
def Obligations.NetworkTargets : Prop :=
  -- R310, R327: RD at a region whose image runs.
  (∀ (s : State) (i : Fin 170) (p : Pkt) (ans : FabricAnswer),
      s.ready = true →
      s.dev.on Reg.CLK_STS_ROOT_LOCK = true →
      i.val < 128 →
      s.dev.firstRx i.val (fun p => p.cmd != 5) = some p →
      p.cmd = 0 →
      s.dev.guardBars i.val = false →
      s.dev.rstate i.val ≠ rsRetired →
      s.dev.hasImage i.val = true →
      s.dev.cfg i.val 3584 8 1 ≠ 0 →
      s.dev.regionListens i.val = true →
      ans.turn = .now →
      s.goes (.rd i ans) ((s.dev.takeReq i.val).answerReq i.val p ans.code ans.poison (fit (64 * p.len) ans.data))) ∧
  -- R310, R327: WR at a region whose image runs.
  (∀ (s : State) (i : Fin 170) (p : Pkt) (ans : FabricAnswer),
      s.ready = true →
      s.dev.on Reg.CLK_STS_ROOT_LOCK = true →
      i.val < 128 →
      s.dev.firstRx i.val (fun p => p.cmd != 5) = some p →
      p.cmd = 1 →
      s.dev.guardBars i.val = false →
      s.dev.rstate i.val ≠ rsRetired →
      s.dev.hasImage i.val = true →
      s.dev.cfg i.val 3584 8 1 ≠ 0 →
      s.dev.regionListens i.val = true →
      ans.turn = .now →
      s.goes (.wr i ans) ((s.dev.takeReq i.val).answerReq i.val p .ok ans.poison ([]))) ∧
  -- R310, R327: WRA at a region whose image runs.
  (∀ (s : State) (i : Fin 170) (p : Pkt) (ans : FabricAnswer),
      s.ready = true →
      s.dev.on Reg.CLK_STS_ROOT_LOCK = true →
      i.val < 128 →
      s.dev.firstRx i.val (fun p => p.cmd != 5) = some p →
      p.cmd = 2 →
      s.dev.guardBars i.val = false →
      s.dev.rstate i.val ≠ rsRetired →
      s.dev.hasImage i.val = true →
      s.dev.cfg i.val 3584 8 1 ≠ 0 →
      s.dev.regionListens i.val = true →
      ans.turn = .now →
      s.goes (.wra i ans) ((s.dev.takeReq i.val).answerReq i.val p ans.code ans.poison ([]))) ∧
  -- R310, R327: ATOM at a region whose image runs.
  (∀ (s : State) (i : Fin 170) (p : Pkt) (ans : FabricAnswer),
      s.ready = true →
      s.dev.on Reg.CLK_STS_ROOT_LOCK = true →
      i.val < 128 →
      s.dev.firstRx i.val (fun p => p.cmd != 5) = some p →
      p.cmd = 3 →
      s.dev.guardBars i.val = false →
      s.dev.rstate i.val ≠ rsRetired →
      s.dev.hasImage i.val = true →
      s.dev.cfg i.val 3584 8 1 ≠ 0 →
      s.dev.regionListens i.val = true →
      ans.turn = .now →
      s.goes (.atom i ans) ((s.dev.takeReq i.val).answerReq i.val p ans.code ans.poison (fit 64 ans.data))) ∧
  -- R310, R327: MSG at a region whose image runs.
  (∀ (s : State) (i : Fin 170) (p : Pkt) (ans : FabricAnswer),
      s.ready = true →
      s.dev.on Reg.CLK_STS_ROOT_LOCK = true →
      i.val < 128 →
      s.dev.firstRx i.val (fun p => p.cmd != 5) = some p →
      p.cmd = 6 →
      s.dev.guardBars i.val = false →
      s.dev.rstate i.val ≠ rsRetired →
      s.dev.hasImage i.val = true →
      s.dev.cfg i.val 3584 8 1 ≠ 0 →
      s.dev.regionListens i.val = true →
      ans.turn = .now →
      s.goes (.msg i ans) ((s.dev.takeReq i.val).answerReq i.val p ans.code ans.poison (ans.data.take (255 * 64)))) ∧
  -- R310, R44: a retired region, and one without an image or whose image leaves the interface off.
  (∀ (s : State) (i : Fin 170) (p : Pkt) (ans : FabricAnswer),
      s.ready = true →
      s.dev.on Reg.CLK_STS_ROOT_LOCK = true →
      i.val < 128 →
      s.dev.firstRx i.val (fun p => p.cmd != 5) = some p →
      p.cmd = 0 →
      s.dev.guardBars i.val = false →
      s.dev.rstate i.val = rsRetired ∨ s.dev.hasImage i.val = false ∨ s.dev.cfg i.val 3584 8 1 = 0 →
      ans.turn = .now ∨ ans.turn = .later →
      s.goes (.rd i ans) ((s.dev.takeReq i.val).answerReq i.val p (if s.dev.rstate i.val = rsRetired then .retired else .noTarget))) ∧
  -- R334: a region's logic takes a request and answers it later, in any order.
  (∀ (s : State) (i : Fin 170) (p : Pkt) (ans : FabricAnswer),
      s.ready = true →
      s.dev.on Reg.CLK_STS_ROOT_LOCK = true →
      i.val < 128 →
      s.dev.firstRx i.val (fun p => p.cmd != 5) = some p →
      p.cmd = 0 →
      s.dev.guardBars i.val = false →
      s.dev.rstate i.val ≠ rsRetired →
      s.dev.hasImage i.val = true →
      s.dev.cfg i.val 3584 8 1 ≠ 0 →
      s.dev.regionListens i.val = true →
      ans.turn = .later →
      s.goes (.rd i ans) ((s.dev.takeReq i.val).setNi i.val { (s.dev.takeReq i.val).niSt i.val with served := ((s.dev.takeReq i.val).niSt i.val).served ++ [p] })) ∧
  -- R334: it answers one that it had taken.
  (∀ (s : State) (i : Fin 170) (p : Pkt) (ans : FabricAnswer) (k : Nat),
      s.ready = true →
      s.dev.on Reg.CLK_STS_ROOT_LOCK = true →
      i.val < 128 →
      (s.dev.niSt i.val).served[k]? = some p →
      p.cmd = 0 →
      s.dev.regionListens i.val = true →
      ans.turn = .earlier k →
      s.goes (.rd i ans) ((s.dev.setNi i.val { s.dev.niSt i.val with served := (s.dev.niSt i.val).served.eraseIdx k }).answerReq i.val p ans.code ans.poison (fit (64 * p.len) ans.data))) ∧
  -- R22: a fabric interface has no reach at the management processor.
  (∀ (s : State) (p : Pkt) (ans : FabricAnswer),
      s.ready = true →
      s.dev.on Reg.CLK_STS_ROOT_LOCK = true →
      s.dev.firstRx 164 (fun p => p.cmd != 5) = some p →
      p.cmd = 1 →
      s.dev.guardBars 164 = false →
      p.src < 128 →
      ans.turn = .now ∨ ans.turn = .later →
      s.goes (.wr 164 ans) ((s.dev.takeReq 164).answerReq 164 p .denied)) ∧
  -- R430: RD of the SRAM.
  (∀ (s : State) (p : Pkt) (ans : FabricAnswer),
      s.ready = true →
      s.dev.on Reg.CLK_STS_ROOT_LOCK = true →
      s.dev.firstRx 164 (fun p => p.cmd != 5) = some p →
      p.cmd = 0 →
      s.dev.guardBars 164 = false →
      128 ≤ p.src →
      p.addr < 0xFF10000000 →
      ans.turn = .now ∨ ans.turn = .later →
      s.goes (.rd 164 ans) (let r := (s.dev.takeReq 164).readBytes (.hs 0) (p.addr / 64 * 64 - 0xFF00000000) (64 * p.len)
        r.2.answerReq 164 p (if r.1.any (·.2) then .poison else .ok) (r.1.any (·.2)) (r.1.map (·.1)))) ∧
  -- R430, R284: WRA stores its enabled bytes in the SRAM.
  (∀ (s : State) (p : Pkt) (ans : FabricAnswer),
      s.ready = true →
      s.dev.on Reg.CLK_STS_ROOT_LOCK = true →
      s.dev.firstRx 164 (fun p => p.cmd != 5) = some p →
      p.cmd = 2 →
      s.dev.guardBars 164 = false →
      128 ≤ p.src →
      p.addr < 0xFF10000000 →
      s.dev.mp.resv = none →
      ans.inStore = false →
      ans.turn = .now ∨ ans.turn = .later →
      s.goes (.wra 164 ans) (((Dev.pktBytes p).foldl (fun a e => a.storeByte (.hs 0) (p.addr / 64 * 64 - 0xFF00000000 + e.1) e.2 p.poison)
        (s.dev.takeReq 164)).answerReq 164 p .ok)) ∧
  -- R149, R435: a byte that the core stores in the same cycle keeps the core's value; the write's other bytes
  -- are stored.
  (∀ (s : State) (p : Pkt) (ans : FabricAnswer) (a n : Nat),
      s.ready = true →
      s.dev.on Reg.CLK_STS_ROOT_LOCK = true →
      s.dev.firstRx 164 (fun p => p.cmd != 5) = some p →
      p.cmd = 2 →
      s.dev.guardBars 164 = false →
      128 ≤ p.src →
      p.addr < 0xFF10000000 →
      s.dev.mp.resv = none →
      ans.inStore = true →
      ans.turn = .now ∨ ans.turn = .later →
      s.dev.mp.stored = some (a, n) →
      s.goes (.wra 164 ans) ((((Dev.pktBytes p).filter (fun e => !decide (a ≤ p.addr / 64 * 64 - 0xFF00000000 + e.1 ∧ p.addr / 64 * 64 - 0xFF00000000 + e.1 < a + n))).foldl
        (fun x e => x.storeByte (.hs 0) (p.addr / 64 * 64 - 0xFF00000000 + e.1) e.2 p.poison) (s.dev.takeReq 164)).answerReq 164 p .ok)) ∧
  -- R326: ATOM stores its new value, or over poison nothing.
  (∀ (d : Dev) (m : MemUnit) (a v : Nat) (p : Pkt),
      Dev.atomValue p (if p.asize then 8 else 4) (ofLe ((d.readBytes m a (if p.asize then 8 else 4)).1.map (·.1))) = some v →
      d.atomOn m a p = (let r := d.readBytes m a (if p.asize then 8 else 4)
        if r.1.any (·.2) then r else (r.1, r.2.storeBytes m a (leBytes (if p.asize then 8 else 4) v)))) ∧
  -- R85, R327: NI 169.
  (∀ (s : State) (i : Fin 170) (p : Pkt) (ans : FabricAnswer),
      s.ready = true →
      s.dev.on Reg.CLK_STS_ROOT_LOCK = true →
      i.val = 169 →
      s.dev.firstRx i.val (fun p => p.cmd != 5) = some p →
      p.cmd = 0 →
      s.dev.guardBars i.val = false →
      ans.turn = .now ∨ ans.turn = .later →
      s.runs (.rd i ans) (Dev.rooted (Dev.targetReq 0 i ans)) (fun d => d = (let r := (s.dev.takeReq 169).csrReq p; r.1.answerReq 169 p r.2.1 false r.2.2))) ∧
  -- R345: a request that its channel does not refuse enters it.
  (∀ (s : State) (c : Fin 32) (i : Fin 170) (p : Pkt) (ans : FabricAnswer),
      s.ready = true →
      s.dev.on Reg.CLK_STS_ROOT_LOCK = true →
      i.val = 128 + c.val →
      s.dev.firstRx i.val (fun p => p.cmd != 5) = some p →
      p.cmd = 0 →
      s.dev.guardBars i.val = false →
      s.dev.dramRefusal c.val p = none →
      (s.dev.chSt c.val).reqs = [] →
      ans.turn = .now ∨ ans.turn = .later →
      s.goes (.rd i ans) ((s.dev.takeReq i.val).setCh c.val { s.dev.chSt c.val with
        reqs := [⟨(s.dev.chSt c.val).nextId, p, s.dev.portLat c.val p.dport, 0, s.dev.reqLines p, s.dev.reqLines p, [], .ok⟩]
        nextId := (s.dev.chSt c.val).nextId + 1 })) ∧
  -- R297, R359: one that it refuses, none of whose stream is there before it, is answered at once.
  (∀ (s : State) (c : Fin 32) (i : Fin 170) (p : Pkt) (ans : FabricAnswer) (code : Code),
      s.ready = true →
      s.dev.on Reg.CLK_STS_ROOT_LOCK = true →
      i.val = 128 + c.val →
      s.dev.firstRx i.val (fun p => p.cmd != 5) = some p →
      p.cmd = 0 →
      s.dev.guardBars i.val = false →
      s.dev.dramRefusal c.val p = some code →
      ∀ x ∈ (s.dev.chSt c.val).reqs, Dev.sameStream x.pkt p = false →
      ans.turn = .now ∨ ans.turn = .later →
      s.goes (.rd i ans) ((s.dev.takeReq i.val).answerReq i.val p code)) ∧
  -- R33, R346: behind an earlier one of its stream the refusal keeps its turn.
  (∀ (s : State) (c : Fin 32) (i : Fin 170) (p : Pkt) (ans : FabricAnswer) (code : Code),
      s.ready = true →
      s.dev.on Reg.CLK_STS_ROOT_LOCK = true →
      i.val = 128 + c.val →
      s.dev.firstRx i.val (fun p => p.cmd != 5) = some p →
      p.cmd = 0 →
      s.dev.guardBars i.val = false →
      s.dev.dramRefusal c.val p = some code →
      ∃ x ∈ (s.dev.chSt c.val).reqs, Dev.sameStream x.pkt p = true →
      ans.turn = .now ∨ ans.turn = .later →
      s.goes (.rd i ans) ((s.dev.takeReq i.val).setCh c.val { s.dev.chSt c.val with
        reqs := (s.dev.chSt c.val).reqs ++ [⟨(s.dev.chSt c.val).nextId, p, s.dev.portLat c.val p.dport, 0, [], [], [], code⟩]
        nextId := (s.dev.chSt c.val).nextId + 1 })) ∧
  -- R411: WAKE at an open guard.
  (∀ (s : State) (i : Fin 170) (p : Pkt) (m : Nat),
      s.ready = true →
      s.dev.on Reg.CLK_STS_ROOT_LOCK = true →
      s.dev.firstRx i.val (fun p => p.cmd != 5) = some p →
      p.cmd = 7 →
      niDomain i.val = some m →
      s.dev.guardClosed i.val = false →
      s.goes (.wake i) ((s.dev.takeReq i.val).answerReq i.val p .ok)) ∧
  -- R411, R22: WAKE to a block without a guard; an initiator of the data plane has no reach there.
  (∀ (s : State) (i : Fin 170) (p : Pkt),
      s.ready = true →
      s.dev.on Reg.CLK_STS_ROOT_LOCK = true →
      s.dev.firstRx i.val (fun p => p.cmd != 5) = some p →
      p.cmd = 7 →
      niDomain i.val = none →
      s.goes (.wake i) ((s.dev.takeReq i.val).answerReq i.val p (if p.src < 164 then .denied else .targetErr))) ∧
  -- R332: a closed guard outside compatibility mode.
  (∀ (s : State) (i : Fin 170) (p : Pkt),
      s.ready = true →
      s.dev.on Reg.CLK_STS_ROOT_LOCK = true →
      (((s.dev.niSt i.val).rx.filter (fun p => p.cmd != 5))[(s.dev.niSt i.val).inside]?) = some p →
      s.dev.guardClosed i.val = true →
      s.dev.unitRetired i.val = false →
      128 ≤ i.val ∨ s.dev.hasImage i.val = true →
      s.dev.ctlOn Reg.PWR_CTL_COMPAT_WAKE = false ∨ 164 ≤ i.val →
      s.goes (.fenceGuardRequest i) (((s.dev.setNi i.val { s.dev.niSt i.val with rx := (s.dev.niSt i.val).rx.erase p }).count
        (Reg.NI_CNT2_FENCED_CNT i.val)).answerReq i.val p .fenced)) ∧
  -- R40, R44: at a closed guard RETIRED and NO_TARGET rank before FENCED.
  (∀ (s : State) (i : Fin 170) (p : Pkt),
      s.ready = true →
      s.dev.on Reg.CLK_STS_ROOT_LOCK = true →
      (((s.dev.niSt i.val).rx.filter (fun p => p.cmd != 5))[(s.dev.niSt i.val).inside]?) = some p →
      s.dev.guardClosed i.val = true →
      s.dev.unitRetired i.val = true ∨ (i.val < 128 ∧ s.dev.hasImage i.val = false) →
      s.goes (.fenceGuardRequest i) ((s.dev.setNi i.val { s.dev.niSt i.val with rx := (s.dev.niSt i.val).rx.erase p }).answerReq i.val p
        (if s.dev.unitRetired i.val then .retired else .noTarget))) ∧
  -- R316, R330: the answer goes to the response channel, in order and where there is room, unless the interface
  -- has stopped counting it.
  (∀ (d : Dev) (i : Nat) (p : Pkt) (c : Code) (poison : Bool) (data : List Byte),
      d.answerReq i p c poison data = (if (d.niSt i).stale.contains (p.src, p.tag)
        then (d.setNi i { d.niSt i with stale := (d.niSt i).stale.erase (p.src, p.tag) }).raise Reg.NOC_EVT_STALE_RSP
        else (d.setNi i { d.niSt i with rspOut := (d.niSt i).rspOut ++ [p.response c poison data] }).rspPump i))

/-- EPOCH is accepted unless a commit is pending or the old epoch drains; taking effect, it flips the epoch bit,
exchanges the enables, sets GT_QUIET and EPOCH_DONE; the quiet window ends; DRAINED is set once nothing of the
old epoch is left; an expiry stops counting the old requests of an interface; RB_WRITE stores an entry that
passes the check of R315 in the shadow copy and refuses one that does not with its cause and hop; RB_READ,
RB_COPY, ST_WRITE and ST_READ move entries. -/
def Obligations.RouteEpochs : Prop :=
  -- R328: EPOCH.
  (∀ (s : State) (who : Who),
      s.ready = true →
      s.dev.takes who Reg.NOC_CTL_EPOCH = true →
      s.dev.nocBusy = false →
      s.goes (.epoch who) (((((s.dev.writtenCmd who Reg.NOC_CTL_EPOCH).raise Reg.NOC_STS_COMMIT_PENDING).cmdStart 0x6000 1).touch 0x6000).reply .ok)) ∧
  -- R328, R330: BUSY while a commit is pending or the old epoch drains.
  (∀ (s : State) (who : Who),
      s.ready = true →
      s.dev.takes who Reg.NOC_CTL_EPOCH = true →
      s.dev.nocBusy = true →
      s.does (.epoch who) (fun d => d.answer.code = .busy ∧ (∀ o, d.word o = s.dev.word o) ∧ d.noc = s.dev.noc)) ∧
  -- R328, R329: the slot boundary.
  (∀ (s : State),
      s.live = true →
      s.dev.on Reg.CLK_STS_ROOT_LOCK = true →
      s.dev.on Reg.NOC_STS_COMMIT_PENDING = true →
      s.runs .epochTakesEffect (Dev.rooted Dev.epochTakesEffect) (fun d =>
        d.epoch = 1 - s.dev.epoch ∧ d.on Reg.NOC_STS_COMMIT_PENDING = false ∧ d.on Reg.NOC_STS_DRAINED = false ∧
        d.on Reg.NOC_STS_GT_QUIET = true ∧ d.on Reg.NOC_EVT_EPOCH_DONE = true ∧
        (∀ w : Fin 192, d.get (Reg.PORT_EN_ACTIVE w.val) = s.dev.get (Reg.PORT_EN_SHADOW w.val) ∧
          d.get (Reg.PORT_EN_SHADOW w.val) = s.dev.get (Reg.PORT_EN_ACTIVE w.val)) ∧
        d.noc = { s.dev.noc with undoBook := [], undoSlot := [], undoEn := [] } ∧ d.cells = s.dev.cells ∧ d.slots = s.dev.slots ∧ d.ni = s.dev.ni)) ∧
  -- R329: the quiet window ends.
  (∀ (s : State),
      s.ready = true →
      s.dev.on Reg.CLK_STS_ROOT_LOCK = true →
      s.goes .gtQuietEnd (s.dev.clear Reg.NOC_STS_GT_QUIET)) ∧
  -- R330: the old epoch has drained.
  (∀ (s : State),
      s.ready = true →
      s.dev.on Reg.CLK_STS_ROOT_LOCK = true →
      s.dev.on Reg.NOC_STS_DRAINED = false →
      s.dev.oldLeft = 0 →
      s.goes .oldEpochDrained ((s.dev.raise Reg.NOC_STS_DRAINED).raise Reg.NOC_EVT_DRAINED_EVT)) ∧
  -- R330: not before.
  (∀ (s : State),
      s.ready = true →
      s.dev.on Reg.CLK_STS_ROOT_LOCK = true →
      s.dev.oldLeft ≠ 0 →
      s.goes .oldEpochDrained s.dev) ∧
  -- R330: an interface stops counting its unanswered old requests.
  (∀ (s : State) (i : Fin 170),
      s.ready = true →
      s.dev.on Reg.CLK_STS_ROOT_LOCK = true →
      s.does (.oldRequestExpiry i) (fun d =>
        (∀ p ∈ (s.dev.niSt i.val).served, bit01 p.epoch ≠ s.dev.epoch → (p.src, p.tag) ∈ (d.niSt i.val).stale) ∧
        (∀ e ∈ (s.dev.niSt i.val).stale, e ∈ (d.niSt i.val).stale) ∧ (∀ j, j ≠ i.val → d.niSt j = s.dev.niSt j) ∧ { d with ni := s.dev.ni } = s.dev)) ∧
  -- R315: RB_WRITE of an entry that is not valid, or passes the check.
  (∀ (s : State) (who : Who),
      s.ready = true →
      s.dev.takes who Reg.NOC_CTL_RB_WRITE = true →
      s.dev.nocBusy = false →
      (if s.dev.rbData.testBit 127 then Dev.bookCheck (s.dev.get Reg.NOC_RBSEL_RB_NI) (s.dev.get Reg.NOC_RBSEL_RB_IDX) s.dev.rbData else none) = none →
      s.goes (.rbWrite who) (((((s.dev.writtenCmd who Reg.NOC_CTL_RB_WRITE).stageBook (s.dev.get Reg.NOC_RBSEL_RB_NI) (1 - s.dev.epoch)
        (s.dev.get Reg.NOC_RBSEL_RB_IDX) s.dev.rbData).cmdDone 0x6010 3 .ok).touch 0x6010).reply .ok)) ∧
  -- R315: one that does not.
  (∀ (s : State) (who : Who) (c h : Nat),
      s.ready = true →
      s.dev.takes who Reg.NOC_CTL_RB_WRITE = true →
      s.dev.nocBusy = false →
      s.dev.rbData.testBit 127 = true →
      Dev.bookCheck (s.dev.get Reg.NOC_RBSEL_RB_NI) (s.dev.get Reg.NOC_RBSEL_RB_IDX) s.dev.rbData = some (c, h) →
      c < 8 ∧ h < 32 →
      s.does (.rbWrite who) (fun d => d.answer.code = .targetErr ∧ d.get Reg.RB_ERR_CAUSE = c ∧ d.get Reg.RB_ERR_HOP = h ∧ d.on Reg.NOC_EVT_RB_REFUSED = true ∧ d.cells = s.dev.cells)) ∧
  -- R335: RB_READ.
  (∀ (s : State) (who : Who),
      s.ready = true →
      s.dev.takes who Reg.NOC_CTL_RB_READ = true →
      (s.dev.bookRead (s.dev.get Reg.NOC_RBSEL_RB_NI) (if s.dev.ctlOn Reg.NOC_CTL_READ_ACTIVE then s.dev.epoch else 1 - s.dev.epoch) (s.dev.get Reg.NOC_RBSEL_RB_IDX)).2.1 = false →
      s.does (.rbRead who) (fun d => d.answer.code = .ok ∧ d.rbData =
        (s.dev.bookRead (s.dev.get Reg.NOC_RBSEL_RB_NI) (if s.dev.ctlOn Reg.NOC_CTL_READ_ACTIVE then s.dev.epoch else 1 - s.dev.epoch) (s.dev.get Reg.NOC_RBSEL_RB_IDX)).1)) ∧
  -- R335: RB_COPY.
  (∀ (s : State) (who : Who),
      s.ready = true →
      s.dev.takes who Reg.NOC_CTL_RB_COPY = true →
      s.dev.nocBusy = false →
      s.goes (.rbCopy who) ((((((if s.dev.ctlOn Reg.NOC_CTL_RB_ALL then List.range 170 else [s.dev.get Reg.NOC_RBSEL_RB_NI]).foldl Dev.copyBook
        (s.dev.writtenCmd who Reg.NOC_CTL_RB_COPY)).cmdDone 0x6010 5 .ok).touch 0x6010).reply .ok))) ∧
  -- R335: ST_WRITE: the eight slots of the group take their owners; 5 and 6 are free.
  (∀ (s : State) (who : Who),
      s.ready = true →
      s.dev.takes who Reg.NOC_CTL_ST_WRITE = true →
      s.dev.nocBusy = false →
      s.does (.stWrite who) (fun d => d.answer.code = .ok ∧
        (∀ k : Fin 8, SMap.get 7 d.slots (s.dev.stKey (1 - s.dev.epoch) k.val) =
          (let v := fieldOf (s.dev.word Reg.ST_DATA) (4 * k.val) 4 % 8; if 5 ≤ v then 7 else v)) ∧
        (∀ j, (∀ k : Fin 8, j ≠ s.dev.stKey (1 - s.dev.epoch) k.val) → SMap.get 7 d.slots j = SMap.get 7 s.dev.slots j) ∧ (∀ o, d.word o = s.dev.word o))) ∧
  -- R335: ST_READ.
  (∀ (s : State) (who : Who),
      s.ready = true →
      s.dev.takes who Reg.NOC_CTL_ST_READ = true →
      s.does (.stRead who) (fun d => d.answer.code = .ok ∧
        (∀ k : Fin 8, fieldOf (d.word Reg.ST_DATA) (4 * k.val) 4 = SMap.get 7 s.dev.slots (s.dev.stKey
          (if s.dev.ctlOn Reg.NOC_CTL_READ_ACTIVE then s.dev.epoch else 1 - s.dev.epoch) k.val) % 16) ∧ d.slots = s.dev.slots))

/-- A request of an enabled lookup port is sent to the engine of its quarter; LOOKUP, ADD, SEQ, SET and CAS on a
context found in the cache change the record as R368 says, note the time, mark the line dirty and answer OK with
STATE, INDEX and FLAG; no visible context answers NO_CONTEXT; an answer waits for those of earlier requests of
its stream; WSEL 6 or 7 answers TARGET_ERR, the model's reading (log 46); a record read from DRAM fills the
cache. -/
def Obligations.ContextLookups : Prop :=
  -- R367: a request enters its region's lookup port.
  (∀ (s : State) (n : Region) (r : LookupReq),
      s.ready = true →
      s.dev.on Reg.CLK_STS_ROOT_LOCK = true →
      s.dev.hasImage n.val = true →
      s.dev.holdOn n.val = false →
      s.dev.cfg n.val 3628 0 1 ≠ 0 →
      s.dev.niClock n.val = true →
      s.goes (.lpRequest n r) (Dev.lpPump n.val (s.dev.setCtx { s.dev.ctx with
        held := s.dev.ctx.held ++ [(n.val, { Dev.LookupReq.msg r with alt := s.dev.cfg n.val 3628 1 1 == 1 })] }))) ∧
  -- R368: LOOKUP, of a context in the cache.
  (∀ (s : State) (e : Fin 4) (p : Pkt) (i : Nat) (r : List Byte),
      (s.dev.ctxBy e.val).ctxPick e.val 1 = some p →
      s.ready = true →
      s.dev.on Reg.CLK_STS_ROOT_LOCK = true →
      s.dev.on Reg.CTX_STS_IN_USE = true →
      lqWsel p < 6 →
      ((s.dev.ctxBy e.val).ctxSearch (lqKey p)).result = some (.hit i r) →
      ((s.dev.ctxBy e.val).ctxSearch (lqKey p)).dram = false →
      lqTouch p = true →
      s.goes (.lookup e) (let d2 := ((s.dev.ctxBy e.val).ctxSearch (lqKey p)).dev.count64 (Reg.CTX_HITS_WORD e.val 0) (Reg.CTX_HITS_WORD e.val 1)
        let r1 := patch (r) 56 (leBytes 4 d2.ctxTime)
        (d2.ctxUpdate i ((s.dev.ctxBy e.val).keyHash (lqKey p)).set r1).ctxReply e.val p .ok (Dev.ctxAnswer i r1 false))) ∧
  -- R368: ADD, of a context in the cache.
  (∀ (s : State) (e : Fin 4) (p : Pkt) (i : Nat) (r : List Byte),
      (s.dev.ctxBy e.val).ctxPick e.val 2 = some p →
      s.ready = true →
      s.dev.on Reg.CLK_STS_ROOT_LOCK = true →
      s.dev.on Reg.CTX_STS_IN_USE = true →
      lqWsel p < 6 →
      ((s.dev.ctxBy e.val).ctxSearch (lqKey p)).result = some (.hit i r) →
      ((s.dev.ctxBy e.val).ctxSearch (lqKey p)).dram = false →
      s.goes (.add e) (let d2 := ((s.dev.ctxBy e.val).ctxSearch (lqKey p)).dev.count64 (Reg.CTX_HITS_WORD e.val 0) (Reg.CTX_HITS_WORD e.val 1)
        let r1 := patch (patch (patch r 64 (leBytes 8 (leAt r 64 8 + lqArg p 0))) 72 (leBytes 8 (leAt r 72 8 + lqArg p 1))) 56 (leBytes 4 d2.ctxTime)
        (d2.ctxUpdate i ((s.dev.ctxBy e.val).keyHash (lqKey p)).set r1).ctxReply e.val p .ok (Dev.ctxAnswer i r1 false))) ∧
  -- R368: SEQ, of the number expected, of a context in the cache.
  (∀ (s : State) (e : Fin 4) (p : Pkt) (i : Nat) (r : List Byte),
      (s.dev.ctxBy e.val).ctxPick e.val 3 = some p →
      s.ready = true →
      s.dev.on Reg.CLK_STS_ROOT_LOCK = true →
      s.dev.on Reg.CTX_STS_IN_USE = true →
      lqWsel p < 6 →
      ((s.dev.ctxBy e.val).ctxSearch (lqKey p)).result = some (.hit i r) →
      ((s.dev.ctxBy e.val).ctxSearch (lqKey p)).dram = false →
      leAt r 60 4 = lqArg p 0 % 2 ^ 32 →
      s.goes (.seq e) (let d2 := ((s.dev.ctxBy e.val).ctxSearch (lqKey p)).dev.count64 (Reg.CTX_HITS_WORD e.val 0) (Reg.CTX_HITS_WORD e.val 1)
        let r1 := patch (patch r 60 (leBytes 4 (lqArg p 0 % 2 ^ 32 + 1))) 56 (leBytes 4 d2.ctxTime)
        (d2.ctxUpdate i ((s.dev.ctxBy e.val).keyHash (lqKey p)).set r1).ctxReply e.val p .ok (Dev.ctxAnswer i r1 false))) ∧
  -- R368: SEQ, of another number, of a context in the cache.
  (∀ (s : State) (e : Fin 4) (p : Pkt) (i : Nat) (r : List Byte),
      (s.dev.ctxBy e.val).ctxPick e.val 3 = some p →
      s.ready = true →
      s.dev.on Reg.CLK_STS_ROOT_LOCK = true →
      s.dev.on Reg.CTX_STS_IN_USE = true →
      lqWsel p < 6 →
      ((s.dev.ctxBy e.val).ctxSearch (lqKey p)).result = some (.hit i r) →
      ((s.dev.ctxBy e.val).ctxSearch (lqKey p)).dram = false →
      leAt r 60 4 ≠ lqArg p 0 % 2 ^ 32 →
      s.goes (.seq e) (let d2 := ((s.dev.ctxBy e.val).ctxSearch (lqKey p)).dev.count64 (Reg.CTX_HITS_WORD e.val 0) (Reg.CTX_HITS_WORD e.val 1)
        let r1 := patch (r) 56 (leBytes 4 d2.ctxTime)
        (d2.ctxUpdate i ((s.dev.ctxBy e.val).keyHash (lqKey p)).set r1).ctxReply e.val p .ok (Dev.ctxAnswer i r1 true))) ∧
  -- R368: SET, of a context in the cache.
  (∀ (s : State) (e : Fin 4) (p : Pkt) (i : Nat) (r : List Byte),
      (s.dev.ctxBy e.val).ctxPick e.val 4 = some p →
      s.ready = true →
      s.dev.on Reg.CLK_STS_ROOT_LOCK = true →
      s.dev.on Reg.CTX_STS_IN_USE = true →
      lqWsel p < 6 →
      ((s.dev.ctxBy e.val).ctxSearch (lqKey p)).result = some (.hit i r) →
      ((s.dev.ctxBy e.val).ctxSearch (lqKey p)).dram = false →
      s.goes (.set e) (let d2 := ((s.dev.ctxBy e.val).ctxSearch (lqKey p)).dev.count64 (Reg.CTX_HITS_WORD e.val 0) (Reg.CTX_HITS_WORD e.val 1)
        let r1 := patch (patch r (80 + 8 * lqWsel p) (leBytes 8 (lqArg p 0))) 56 (leBytes 4 d2.ctxTime)
        (d2.ctxUpdate i ((s.dev.ctxBy e.val).keyHash (lqKey p)).set r1).ctxReply e.val p .ok (Dev.ctxAnswer i r1 false))) ∧
  -- R368: CAS of the value expected, of a context in the cache.
  (∀ (s : State) (e : Fin 4) (p : Pkt) (i : Nat) (r : List Byte),
      (s.dev.ctxBy e.val).ctxPick e.val 5 = some p →
      s.ready = true →
      s.dev.on Reg.CLK_STS_ROOT_LOCK = true →
      s.dev.on Reg.CTX_STS_IN_USE = true →
      lqWsel p < 6 →
      ((s.dev.ctxBy e.val).ctxSearch (lqKey p)).result = some (.hit i r) →
      ((s.dev.ctxBy e.val).ctxSearch (lqKey p)).dram = false →
      leAt r (80 + 8 * lqWsel p) 8 = lqArg p 1 →
      s.goes (.cas e) (let d2 := ((s.dev.ctxBy e.val).ctxSearch (lqKey p)).dev.count64 (Reg.CTX_HITS_WORD e.val 0) (Reg.CTX_HITS_WORD e.val 1)
        let r1 := patch (patch r (80 + 8 * lqWsel p) (leBytes 8 (lqArg p 0))) 56 (leBytes 4 d2.ctxTime)
        (d2.ctxUpdate i ((s.dev.ctxBy e.val).keyHash (lqKey p)).set r1).ctxReply e.val p .ok (Dev.ctxAnswer i r1 false))) ∧
  -- R368: CAS of another value, of a context in the cache.
  (∀ (s : State) (e : Fin 4) (p : Pkt) (i : Nat) (r : List Byte),
      (s.dev.ctxBy e.val).ctxPick e.val 5 = some p →
      s.ready = true →
      s.dev.on Reg.CLK_STS_ROOT_LOCK = true →
      s.dev.on Reg.CTX_STS_IN_USE = true →
      lqWsel p < 6 →
      ((s.dev.ctxBy e.val).ctxSearch (lqKey p)).result = some (.hit i r) →
      ((s.dev.ctxBy e.val).ctxSearch (lqKey p)).dram = false →
      leAt r (80 + 8 * lqWsel p) 8 ≠ lqArg p 1 →
      s.goes (.cas e) (let d2 := ((s.dev.ctxBy e.val).ctxSearch (lqKey p)).dev.count64 (Reg.CTX_HITS_WORD e.val 0) (Reg.CTX_HITS_WORD e.val 1)
        let r1 := patch (r) 56 (leBytes 4 d2.ctxTime)
        (d2.ctxUpdate i ((s.dev.ctxBy e.val).keyHash (lqKey p)).set r1).ctxReply e.val p .ok (Dev.ctxAnswer i r1 true))) ∧
  -- R369: no visible context has the key.
  (∀ (s : State) (e : Fin 4) (p : Pkt),
      s.ready = true →
      s.dev.on Reg.CLK_STS_ROOT_LOCK = true →
      (s.dev.ctxBy e.val).ctxPick e.val 1 = some p →
      s.dev.on Reg.CTX_STS_IN_USE = true →
      lqWsel p < 6 →
      ((s.dev.ctxBy e.val).ctxSearch (lqKey p)).result = some .none →
      ((s.dev.ctxBy e.val).ctxSearch (lqKey p)).dram = false →
      s.goes (.lookup e) (((s.dev.ctxBy e.val).ctxSearch (lqKey p)).dev.ctxReply e.val p .noContext)) ∧
  -- R368: WSEL 6 or 7 names no word.
  (∀ (s : State) (e : Fin 4) (p : Pkt),
      s.ready = true →
      s.dev.on Reg.CLK_STS_ROOT_LOCK = true →
      (s.dev.ctxBy e.val).ctxPick e.val 4 = some p →
      s.dev.on Reg.CTX_STS_IN_USE = true →
      6 ≤ lqWsel p →
      s.goes (.set e) ((s.dev.ctxBy e.val).ctxReply e.val p .targetErr)) ∧
  -- R33, R367: a request performed while an earlier one of its stream is unanswered keeps its answer.
  (∀ (d : Dev) (e : Fin 4) (p q : Pkt) (c : Code) (data : List Byte),
      (d.niSt (160 + e.val)).served = [q, p] →
      (d.niSt (160 + e.val)).ready = [] →
      q ≠ p →
      Dev.sameStream q p = true →
      c ≠ .noContext →
      d.ctxReply e.val p c data = d.setNi (160 + e.val) { d.niSt (160 + e.val) with ready := [(p, c, data)] }) ∧
  -- R366: a record read from DRAM fills the cache.
  (∀ (s : State) (i set : Nat) (rest : List (Nat × Nat)) (r : List Byte) (b : Bool) (d2 : Dev),
      s.ready = true →
      s.dev.on Reg.CLK_STS_ROOT_LOCK = true →
      s.dev.ctx.refills = (i, set) :: rest →
      s.dev.ctxLine i = none →
      s.dev.on Reg.CTX_STS_IN_USE = true →
      (s.dev.setCtx { s.dev.ctx with refills := rest }).recRead i = (.ok r b, d2) →
      s.goes .ctxRefill (d2.ctxFill i set r false))

/-- CREATE, DELETE, REKEY and READ are performed on the records and run until their completion records code, reason
and index, BUSY answering while the block is not free; COMMIT is taken, and when it takes effect COMMITTED and
CLEANUP are set and the engine map takes its shadow; the cleanup settles every staged record and clears the
list; DISCARD undoes every staged change. -/
def Obligations.ContextChanges : Prop :=
  -- R372: CREATE.
  (∀ (s : State) (who : Who) (i : Nat),
      s.ready = true →
      s.dev.takesWrite who Reg.CTX_CTL (withField (withField (s.dev.word Reg.CTX_CTL) Reg.CTX_CTL_OP.lsb Reg.CTX_CTL_OP.w 0) Reg.CTX_CTL_OP_GO.lsb Reg.CTX_CTL_OP_GO.w 1) = true →
      s.dev.ctxBusy = false →
      ((s.dev.written who Reg.CTX_CTL (withField (withField (s.dev.word Reg.CTX_CTL) Reg.CTX_CTL_OP.lsb Reg.CTX_CTL_OP.w 0) Reg.CTX_CTL_OP_GO.lsb Reg.CTX_CTL_OP_GO.w 1)).ctxByLive.ctxCreate (s.dev.ctxBytes Reg.CTX_KEY_KEY 12) (s.dev.ctxBytes Reg.CTX_DATA_DATA 18)).1.toOption = some i →
      s.goes (.create who) ((((((s.dev.written who Reg.CTX_CTL (withField (withField (s.dev.word Reg.CTX_CTL) Reg.CTX_CTL_OP.lsb Reg.CTX_CTL_OP.w 0) Reg.CTX_CTL_OP_GO.lsb Reg.CTX_CTL_OP_GO.w 1)).ctxByLive.ctxCreate (s.dev.ctxBytes Reg.CTX_KEY_KEY 12) (s.dev.ctxBytes Reg.CTX_DATA_DATA 18)).2.opRuns .ok 0 i).touch (aliasIndex Reg.CTX_CTL)).reply .ok))) ∧
  -- R372: CREATE of a key that a visible context has: reason 1.
  (∀ (s : State) (who : Who),
      s.ready = true →
      s.dev.takesWrite who Reg.CTX_CTL (withField (withField (s.dev.word Reg.CTX_CTL) Reg.CTX_CTL_OP.lsb Reg.CTX_CTL_OP.w 0) Reg.CTX_CTL_OP_GO.lsb Reg.CTX_CTL_OP_GO.w 1) = true →
      s.dev.ctxBusy = false →
      (match ((s.dev.written who Reg.CTX_CTL (withField (withField (s.dev.word Reg.CTX_CTL) Reg.CTX_CTL_OP.lsb Reg.CTX_CTL_OP.w 0) Reg.CTX_CTL_OP_GO.lsb Reg.CTX_CTL_OP_GO.w 1)).ctxByLive.ctxCreate (s.dev.ctxBytes Reg.CTX_KEY_KEY 12) (s.dev.ctxBytes Reg.CTX_DATA_DATA 18)).1 with | .error e => e == (.targetErr, 1) | .ok _ => false) = true →
      s.goes (.create who) ((((((s.dev.written who Reg.CTX_CTL (withField (withField (s.dev.word Reg.CTX_CTL) Reg.CTX_CTL_OP.lsb Reg.CTX_CTL_OP.w 0) Reg.CTX_CTL_OP_GO.lsb Reg.CTX_CTL_OP_GO.w 1)).ctxByLive.ctxCreate (s.dev.ctxBytes Reg.CTX_KEY_KEY 12) (s.dev.ctxBytes Reg.CTX_DATA_DATA 18)).2.opRuns .targetErr 1 0).touch (aliasIndex Reg.CTX_CTL)).reply .ok))) ∧
  -- R372: DELETE.
  (∀ (s : State) (who : Who) (i : Nat) (r : List Byte),
      s.ready = true →
      s.dev.takesWrite who Reg.CTX_CTL (withField (withField (s.dev.word Reg.CTX_CTL) Reg.CTX_CTL_OP.lsb Reg.CTX_CTL_OP.w 1) Reg.CTX_CTL_OP_GO.lsb Reg.CTX_CTL_OP_GO.w 1) = true →
      s.dev.ctxBusy = false →
      ((s.dev.written who Reg.CTX_CTL (withField (withField (s.dev.word Reg.CTX_CTL) Reg.CTX_CTL_OP.lsb Reg.CTX_CTL_OP.w 1) Reg.CTX_CTL_OP_GO.lsb Reg.CTX_CTL_OP_GO.w 1)).ctxByLive.ctxFind (s.dev.ctxBytes Reg.CTX_KEY_KEY 12)).1.toOption = some (i, r) →
      ((s.dev.written who Reg.CTX_CTL (withField (withField (s.dev.word Reg.CTX_CTL) Reg.CTX_CTL_OP.lsb Reg.CTX_CTL_OP.w 1) Reg.CTX_CTL_OP_GO.lsb Reg.CTX_CTL_OP_GO.w 1)).ctxByLive.ctxFind (s.dev.ctxBytes Reg.CTX_KEY_KEY 12)).2.ctx.staged.length < 1024 →
      s.goes (.delete who) (((((((s.dev.written who Reg.CTX_CTL (withField (withField (s.dev.word Reg.CTX_CTL) Reg.CTX_CTL_OP.lsb Reg.CTX_CTL_OP.w 1) Reg.CTX_CTL_OP_GO.lsb Reg.CTX_CTL_OP_GO.w 1)).ctxByLive.ctxFind (s.dev.ctxBytes Reg.CTX_KEY_KEY 12)).2.ctxMarkDelete i).opRuns .ok 0 i).touch (aliasIndex Reg.CTX_CTL)).reply .ok))) ∧
  -- R372: REKEY.
  (∀ (s : State) (who : Who) (i j : Nat) (r : List Byte),
      s.ready = true →
      s.dev.takesWrite who Reg.CTX_CTL (withField (withField (s.dev.word Reg.CTX_CTL) Reg.CTX_CTL_OP.lsb Reg.CTX_CTL_OP.w 2) Reg.CTX_CTL_OP_GO.lsb Reg.CTX_CTL_OP_GO.w 1) = true →
      s.dev.ctxBusy = false →
      ((s.dev.written who Reg.CTX_CTL (withField (withField (s.dev.word Reg.CTX_CTL) Reg.CTX_CTL_OP.lsb Reg.CTX_CTL_OP.w 2) Reg.CTX_CTL_OP_GO.lsb Reg.CTX_CTL_OP_GO.w 1)).ctxByLive.ctxFind (s.dev.ctxBytes Reg.CTX_KEY_KEY 12)).1.toOption = some (i, r) →
      ((s.dev.written who Reg.CTX_CTL (withField (withField (s.dev.word Reg.CTX_CTL) Reg.CTX_CTL_OP.lsb Reg.CTX_CTL_OP.w 2) Reg.CTX_CTL_OP_GO.lsb Reg.CTX_CTL_OP_GO.w 1)).ctxByLive.ctxFind (s.dev.ctxBytes Reg.CTX_KEY_KEY 12)).2.ctx.staged.length < 1023 →
      (((s.dev.written who Reg.CTX_CTL (withField (withField (s.dev.word Reg.CTX_CTL) Reg.CTX_CTL_OP.lsb Reg.CTX_CTL_OP.w 2) Reg.CTX_CTL_OP_GO.lsb Reg.CTX_CTL_OP_GO.w 1)).ctxByLive.ctxFind (s.dev.ctxBytes Reg.CTX_KEY_KEY 12)).2.ctxCreate (s.dev.ctxBytes Reg.CTX_NKEY_NKEY 12) (recState r)).1.toOption = some j →
      s.goes (.rekey who) ((((((((s.dev.written who Reg.CTX_CTL (withField (withField (s.dev.word Reg.CTX_CTL) Reg.CTX_CTL_OP.lsb Reg.CTX_CTL_OP.w 2) Reg.CTX_CTL_OP_GO.lsb Reg.CTX_CTL_OP_GO.w 1)).ctxByLive.ctxFind (s.dev.ctxBytes Reg.CTX_KEY_KEY 12)).2.ctxCreate (s.dev.ctxBytes Reg.CTX_NKEY_NKEY 12) (recState r)).2.ctxMarkDelete i).opRuns .ok 0 j).touch (aliasIndex Reg.CTX_CTL)).reply .ok))) ∧
  -- R372, R373: READ, which waits for no commit.
  (∀ (s : State) (who : Who) (i : Nat) (r : List Byte),
      s.ready = true →
      s.dev.takesWrite who Reg.CTX_CTL (withField (withField (s.dev.word Reg.CTX_CTL) Reg.CTX_CTL_OP.lsb Reg.CTX_CTL_OP.w 3) Reg.CTX_CTL_OP_GO.lsb Reg.CTX_CTL_OP_GO.w 1) = true →
      s.dev.on Reg.CTX_STS_IN_USE = true →
      s.dev.on Reg.CTX_STS_BUSY = false →
      ((s.dev.written who Reg.CTX_CTL (withField (withField (s.dev.word Reg.CTX_CTL) Reg.CTX_CTL_OP.lsb Reg.CTX_CTL_OP.w 3) Reg.CTX_CTL_OP_GO.lsb Reg.CTX_CTL_OP_GO.w 1)).ctxByLive.ctxFind (s.dev.ctxBytes Reg.CTX_KEY_KEY 12)).1.toOption = some (i, r) →
      s.goes (.ctxRead who) ((((((List.range 18).foldl (fun a w => a.set (Reg.CTX_DATA_DATA w) (leAt (recState r) (4 * w) 4)) ((s.dev.written who Reg.CTX_CTL (withField (withField (s.dev.word Reg.CTX_CTL) Reg.CTX_CTL_OP.lsb Reg.CTX_CTL_OP.w 3) Reg.CTX_CTL_OP_GO.lsb Reg.CTX_CTL_OP_GO.w 1)).ctxByLive.ctxFind (s.dev.ctxBytes Reg.CTX_KEY_KEY 12)).2).opRuns .ok 0 i).touch (aliasIndex Reg.CTX_CTL)).reply .ok))) ∧
  -- R364, R373: before INIT, while an operation runs, and while a commit or its cleanup is not finished: BUSY.
  (∀ (s : State) (who : Who),
      s.ready = true →
      s.dev.takesWrite who Reg.CTX_CTL (withField (withField (s.dev.word Reg.CTX_CTL) Reg.CTX_CTL_OP.lsb Reg.CTX_CTL_OP.w 1) Reg.CTX_CTL_OP_GO.lsb Reg.CTX_CTL_OP_GO.w 1) = true →
      s.dev.ctxBusy = true →
      s.does (.delete who) (fun d => d.answer.code = .busy ∧ d.ctx = s.dev.ctx ∧ d.cells = s.dev.cells ∧ (∀ o, d.word o = s.dev.word o))) ∧
  -- R372: the operation completes.
  (∀ (s : State) (c : Code) (reason idx : Nat),
      s.ready = true →
      s.dev.on Reg.CLK_STS_ROOT_LOCK = true →
      s.dev.ctx.op = some (c, reason, idx) →
      s.goes .opDone ((((((s.dev.setCtx { s.dev.ctx with op := none }).clear Reg.CTX_STS_BUSY).set Reg.CTX_OPRES_OP_CODE c.num).set
        Reg.CTX_OPRES_OP_REASON reason).set Reg.CTX_OPRES_OP_INDEX idx).raise Reg.CTX_EVT_OP_DONE |>.cmdDone 0x6800 6 c)) ∧
  -- R373, R377: COMMIT, accepted while an operation runs, but not while a sweep does.
  (∀ (s : State) (who : Who),
      s.ready = true →
      s.dev.takes who Reg.CTX_CTL_COMMIT = true →
      s.dev.on Reg.CTX_STS_IN_USE = true →
      s.dev.ctx.commitDue = false →
      s.dev.on Reg.CTX_STS_CLEANUP = false →
      s.dev.ctx.sweep = false →
      s.goes (.commit who) (((((s.dev.writtenCmd who Reg.CTX_CTL_COMMIT).setCtx { s.dev.ctx with commitDue := true }).cmdStart 0x6800 2).touch (aliasIndex Reg.CTX_CTL)).reply .ok)) ∧
  -- R373, R26: it takes effect, after what the engines hold has been performed on the old table.
  (∀ (s : State),
      s.live = true →
      s.dev.on Reg.CLK_STS_ROOT_LOCK = true →
      s.dev.ctx.commitDue = true →
      s.runs .commitTakesEffect (Dev.rooted Dev.commitTakesEffect) (fun d => d.on Reg.CTX_STS_COMMITTED = true ∧ d.on Reg.CTX_STS_CLEANUP = true ∧ d.on Reg.CTX_EVT_COMMIT_DONE = true ∧
        d.ctx.commitDue = false ∧ (let d0 := ((List.finRange 4).foldl Dev.ctxDrain s.dev).ctxByLive
          d.ctx.staged = d0.ctx.staged ∧ d.get Reg.CTX_STS_ENG_MAP = d0.newEngMap))) ∧
  -- R373: its cleanup.
  (∀ (s : State),
      s.ready = true →
      s.dev.on Reg.CLK_STS_ROOT_LOCK = true →
      s.dev.on Reg.CTX_STS_CLEANUP = true →
      s.goes .cleanupDone (((((s.dev.ctx.staged.foldl (Dev.recSettle 1) s.dev.ctxByLive).setStaged []).clear Reg.CTX_STS_COMMITTED).clear Reg.CTX_STS_CLEANUP).raise Reg.CTX_EVT_CLEANUP_DONE)) ∧
  -- R373: DISCARD.
  (∀ (s : State) (who : Who),
      s.ready = true →
      s.dev.takes who Reg.CTX_CTL_DISCARD = true →
      s.dev.ctxBusy = false →
      s.goes (.ctxDiscard who) (((((s.dev.writtenCmd who Reg.CTX_CTL_DISCARD).ctxUndo).cmdDone 0x6800 3 .ok).touch (aliasIndex Reg.CTX_CTL)).reply .ok))

/-- INIT empties the cache and the list and runs until the store is zero, its key width fixed and its hash key new;
SWEEP is accepted while nothing is staged, and its end counts the matches and stages them unless REPORT_ONLY;
ABORT ends a sweep, or is LATE; a retired engine is no longer live and its quarters move to an engine that is;
an engine that is retired already answers RETIRED. -/
def Obligations.ContextStore : Prop :=
  -- R364: INIT.
  (∀ (s : State) (who : Who),
      s.ready = true →
      s.dev.takes who Reg.CTX_CTL_INIT = true →
      s.dev.on Reg.CTX_STS_BUSY = false →
      s.dev.ctx.commitDue = false →
      s.dev.on Reg.CTX_STS_CLEANUP = false →
      s.does (.init who) (fun d => d.answer.code = .ok ∧ d.on Reg.CTX_STS_BUSY = true ∧ d.on Reg.CTX_STS_IN_USE = false ∧ d.on Reg.CTX_STS_COMMITTED = false ∧ d.ctxCache = [] ∧
        d.ctx = { s.dev.ctx with staged := [], op := none, init := some (s.dev.get Reg.CTX_CTL_KEY_BITS), sweep := false, commitDue := false, refills := [] } ∧
        s.dev.regsBut [Reg.CTX_CTL, Reg.CTX_STS] d ∧ s.dev.restSame { d with ctx := s.dev.ctx, ctxCache := s.dev.ctxCache })) ∧
  -- R364: its end. The hash key is a free value.
  (∀ (s : State) (kb : Fin 4),
      s.ready = true →
      s.dev.on Reg.CLK_STS_ROOT_LOCK = true →
      s.dev.ctx.init = some kb.val →
      s.does .initDone (fun d => d.on Reg.CTX_STS_IN_USE = true ∧ d.on Reg.CTX_STS_BUSY = false ∧ d.on Reg.CTX_EVT_INIT_DONE = true ∧ d.get Reg.CTX_VISIBLE_COUNT = 0 ∧
        d.ctx.init = none ∧ d.ctx.keyBytes = [8, 16, 32, 48].getD kb.val 0 ∧ d.ctx.hashKey < 2 ^ 128 ∧ d.ctxCache = [] ∧
        (∀ e ∈ d.cells, (s.dev.cellSystemAddr e.1).any Dev.inStore = false) ∧
        s.dev.regsBut [Reg.CTX_STS, Reg.CTX_VISIBLE, Reg.CTX_EVT] d ∧
        s.dev.restSame { d with ctx := s.dev.ctx, ctxCache := s.dev.ctxCache, cells := s.dev.cells, verify := s.dev.verify, fresh := s.dev.fresh })) ∧
  -- R374: SWEEP.
  (∀ (s : State) (who : Who),
      s.ready = true →
      s.dev.takes who Reg.CTX_CTL_SWEEP = true →
      s.dev.ctxBusy = false →
      s.dev.ctx.staged = [] →
      s.goes (.sweep who) (((((s.dev.writtenCmd who Reg.CTX_CTL_SWEEP).setCtx { s.dev.ctx with sweep := true }).raise Reg.CTX_STS_BUSY).cmdStart 0x6800 4 |>.touch (aliasIndex Reg.CTX_CTL)).reply .ok)) ∧
  -- R374: a sweep ends.
  (∀ (s : State),
      s.ready = true →
      s.dev.on Reg.CLK_STS_ROOT_LOCK = true →
      s.dev.ctx.sweep = true →
      s.does .sweepDone (fun d => d.on Reg.CTX_STS_BUSY = false ∧ d.on Reg.CTX_EVT_SWEEP_DONE = true ∧ d.ctx.sweep = false ∧
        (SMap.get {} d.cmds (Dev.objKey 0x6800 4)).code = .ok ∧
        (s.dev.on Reg.CTX_CTL_REPORT_ONLY = true → d.ctx.staged = s.dev.ctx.staged) ∧
        (s.dev.on Reg.CTX_CTL_REPORT_ONLY = false → (∀ i ∈ d.ctx.staged, i ∈ s.dev.storedRecords) ∧
          d.get Reg.CTX_SWEEP_RES_COUNT = d.ctx.staged.length % 2 ^ Reg.CTX_SWEEP_RES_COUNT.w))) ∧
  -- R374: ABORT of a sweep.
  (∀ (s : State) (who : Who),
      s.ready = true →
      s.dev.takes who Reg.CTX_CTL_ABORT = true →
      s.dev.ctx.sweep = true →
      s.goes (.ctxAbort who) ((((((((s.dev.writtenCmd who Reg.CTX_CTL_ABORT).setCtx { s.dev.ctx with sweep := false }).clear Reg.CTX_STS_BUSY).raise
        Reg.CTX_EVT_SWEEP_DONE).cmdDone 0x6800 4 .aborted).cmdDone 0x6800 5 .ok).touch (aliasIndex Reg.CTX_CTL)).reply .ok)) ∧
  -- R89: ABORT of none.
  (∀ (s : State) (who : Who),
      s.ready = true →
      s.dev.takes who Reg.CTX_CTL_ABORT = true →
      s.dev.ctx.sweep = false →
      s.dev.on Reg.CTX_STS_IN_USE = true →
      s.goes (.ctxAbort who) (((((s.dev.writtenCmd who Reg.CTX_CTL_ABORT).cmdLate 0x6800 4).cmdDone 0x6800 5 .ok).touch (aliasIndex Reg.CTX_CTL)).reply .ok)) ∧
  -- R375: ENG_RETIRE of engines of which one lives.
  (∀ (s : State) (who : Who) (mask : BitVec 4),
      s.ready = true →
      s.dev.takesWrite who Reg.CTX_ENG_RETIRE (mask.setWidth 32) = true →
      mask ≠ 0 →
      s.goes (.engRetire who mask) ((((((List.range 4).foldl (fun a e => if mask.toNat.testBit e then a.engineRetire e else a)
        (s.dev.written who Reg.CTX_ENG_RETIRE (mask.setWidth 32))).cmdDone 0x6803 2 .ok).touch (aliasIndex Reg.CTX_ENG_RETIRE)).reply .ok))) ∧
  -- R375, R44: of engines that are all retired.
  (∀ (s : State) (who : Who) (mask : BitVec 4),
      s.ready = true →
      mask ≠ 0 →
      (∀ e : Fin 4, mask.toNat.testBit e.val = true → s.dev.bit Reg.CTX_STS_ENG_LIVE e.val = false) →
      s.goes (.engRetire who mask) (s.dev.reply .retired)) ∧
  -- R375: an engine whose copies disagree.
  (∀ (s : State) (e : Fin 4),
      s.live = true →
      s.dev.on Reg.CLK_STS_ROOT_LOCK = true →
      s.dev.bit Reg.CTX_STS_ENG_LIVE e.val = true →
      s.runs (.engineMismatch e) (Dev.rooted (Dev.engineMismatch e)) (fun d => d.bit Reg.CTX_STS_ENG_LIVE e.val = false ∧ d.on Reg.CTX_EVT_ENG_RETIRED = true ∧ (d.niSt (160 + e.val)).served = [] ∧
        (∀ x : Fin 4, x ≠ e → d.bit Reg.CTX_STS_ENG_LIVE x.val = s.dev.bit Reg.CTX_STS_ENG_LIVE x.val) ∧
        ((∃ x : Fin 4, x ≠ e ∧ s.dev.bit Reg.CTX_STS_ENG_LIVE x.val = true) → ∀ q : Fin 4, d.get Reg.CTX_STS_ENG_MAP / 4 ^ q.val % 4 ≠ e.val)))

/-- A write of LANE_CTL that enables a DISABLED lane or reconfigures a running one moves it to PLL_WAIT, one that
clears EN to DISABLED; FREEZE freezes it at the end of the step in progress, and clearing it returns it to
TRACK; RESTART moves it to PLL_WAIT; RETIRE retires it; SLIP is accepted in FROZEN with AUTO_ALIGN 0 alone, and
moves the boundary by one bit or one PAM4 symbol of two. -/
def Obligations.LaneControl : Prop :=
  -- R383: an enable of a DISABLED lane.
  (∀ (s : State) (who : Who) (lane : LaneId) (x : Word),
      s.ready = true →
      s.dev.takesWrite who lane.base x = true →
      (cmdBits lane.base x).isEmpty = true →
      lane.isPort = false →
      s.dev.lanePowered lane = true →
      s.dev.lstate lane = 0 →
      fieldOf x 0 1 = 1 →
      s.does (.laneEnWrite who lane x) (fun d => d = ((((Dev.freezeWritten lane (fieldOf (s.dev.word lane.base) 15 1 == 1) (s.dev.written who lane.base x)).lanePllWait lane false).pllShow lane.quad).touch (aliasIndex lane.base)).reply .ok ∧ d.lstate lane = 1)) ∧
  -- R383: the enable cleared.
  (∀ (s : State) (who : Who) (lane : LaneId) (x : Word),
      s.ready = true →
      s.dev.takesWrite who lane.base x = true →
      (cmdBits lane.base x).isEmpty = true →
      lane.isPort = false →
      s.dev.lanePowered lane = true →
      s.dev.laneRunning lane = true →
      fieldOf x 0 1 = 0 →
      s.does (.laneEnWrite who lane x) (fun d => d = ((((Dev.freezeWritten lane (fieldOf (s.dev.word lane.base) 15 1 == 1) (s.dev.written who lane.base x)).laneDisable lane).pllShow lane.quad).touch (aliasIndex lane.base)).reply .ok ∧ d.lstate lane = 0 ∧ (d.laneSt lane).out = none)) ∧
  -- R382: PLL_SEL, DIV, PAM4, CODER, WIDTH or bit 14 changed under way.
  (∀ (s : State) (who : Who) (lane : LaneId) (x : Word),
      s.ready = true →
      s.dev.takesWrite who lane.base x = true →
      (cmdBits lane.base x).isEmpty = true →
      lane.isPort = false →
      s.dev.lanePowered lane = true →
      s.dev.laneRunning lane = true →
      fieldOf x 0 1 = 1 →
      fieldOf x 1 10 ≠ fieldOf (s.dev.word lane.base) 1 10 ∨ fieldOf x 14 1 ≠ fieldOf (s.dev.word lane.base) 14 1 →
      s.does (.laneEnWrite who lane x) (fun d => d = (((Dev.freezeWritten lane (fieldOf (s.dev.word lane.base) 15 1 == 1) (s.dev.written who lane.base x)).laneRestart lane).touch (aliasIndex lane.base)).reply .ok ∧ d.lstate lane = 1)) ∧
  -- R382, R383: in D2 and D3, and on a lane that stays as it is configured, only FREEZE acts.
  (∀ (s : State) (who : Who) (lane : LaneId) (x : Word),
      s.ready = true →
      s.dev.takesWrite who lane.base x = true →
      (cmdBits lane.base x).isEmpty = true →
      lane.isPort = true ∨ s.dev.lanePowered lane = false ∨ s.dev.lstate lane = 6 ∨ (s.dev.lstate lane ≠ 0 ∧ fieldOf x 0 1 = 1 ∧ fieldOf x 1 10 = fieldOf (s.dev.word lane.base) 1 10 ∧ fieldOf x 14 1 = fieldOf (s.dev.word lane.base) 14 1) →
      s.goes (.laneEnWrite who lane x) ((((Dev.freezeWritten lane (fieldOf (s.dev.word lane.base) 15 1 == 1) (s.dev.written who lane.base x))).touch (aliasIndex lane.base)).reply .ok)) ∧
  -- R383: FREEZE set with no step in progress.
  (∀ (s : State) (who : Who) (lane : LaneId),
      s.ready = true →
      s.dev.takesField who lane.FREEZE 1 = true →
      s.dev.on lane.FREEZE = false →
      lane.isPort = true ∨ s.dev.on lane.EN = true →
      s.dev.lstate lane = 3 ∨ s.dev.lstate lane = 4 →
      (s.dev.laneSt lane).step = none →
      s.dev.ctl (lane.fld 0x24 0 8) ≤ s.dev.get lane.EQF →
      s.does (.freeze who lane true) (fun d => d = (((s.dev.writtenField who lane.FREEZE 1).laneEnter lane 5).touch (aliasIndex lane.base)).reply .ok ∧ d.lstate lane = 5)) ∧
  -- R383: FREEZE set during a step.
  (∀ (s : State) (who : Who) (lane : LaneId) (k : LaneStep),
      s.ready = true →
      s.dev.takesField who lane.FREEZE 1 = true →
      s.dev.on lane.FREEZE = false →
      lane.isPort = true ∨ s.dev.on lane.EN = true →
      s.dev.lstate lane = 3 ∨ s.dev.lstate lane = 4 →
      (s.dev.laneSt lane).step = some k →
      s.dev.ctl (lane.fld 0x24 0 8) ≤ s.dev.get lane.EQF →
      s.goes (.freeze who lane true) ((((s.dev.writtenField who lane.FREEZE 1).setLane lane { s.dev.laneSt lane with freezeDue := true }).touch (aliasIndex lane.base)).reply .ok)) ∧
  -- R383: FREEZE cleared.
  (∀ (s : State) (who : Who) (lane : LaneId),
      s.ready = true →
      s.dev.takesField who lane.FREEZE 0 = true →
      s.dev.on lane.FREEZE = true →
      lane.isPort = true ∨ s.dev.on lane.EN = true →
      s.dev.lstate lane = 5 →
      s.does (.freeze who lane false) (fun d => d.answer.code = .ok ∧ d.lstate lane = 4 ∧ (d.laneSt lane).freezeDue = false ∧ s.dev.regsBut [lane.base, lane.base + 0x28] d)) ∧
  -- R383: RESTART.
  (∀ (s : State) (who : Who) (lane : LaneId),
      s.ready = true →
      s.dev.takes who (lane.fld 0 17 1) = true →
      lane.isPort = true ∨ s.dev.on lane.EN = true →
      s.dev.laneRunning lane = true →
      s.does (.restart who lane) (fun d => d = (((s.dev.writtenCmd who (lane.fld 0 17 1)).laneRestart lane).touch (aliasIndex lane.base)).reply .ok ∧ d.lstate lane = 1)) ∧
  -- R395: RETIRE.
  (∀ (s : State) (who : Who) (lane : LaneId),
      s.ready = true →
      s.dev.takes who (lane.fld 0 18 1) = true →
      s.dev.lstate lane ≠ 6 →
      s.does (.laneRetire who lane) (fun d => d = (((s.dev.writtenCmd who (lane.fld 0 18 1)).laneRetireNow lane).touch (aliasIndex lane.base)).reply .ok ∧ d.lstate lane = 6 ∧ d.laneSt lane = {} ∧ d.on (lane.fld 0x2C 7 1) = true)) ∧
  -- R394: SLIP in FROZEN with AUTO_ALIGN 0.
  (∀ (s : State) (who : Who) (lane : LaneId),
      s.ready = true →
      s.dev.takes who (lane.fld 0 16 1) = true →
      lane.isPort = false →
      s.dev.lstate lane = 5 →
      s.dev.on lane.EN = true →
      s.dev.on lane.FREEZE = true →
      s.dev.on lane.AUTO_ALIGN = false →
      s.dev.laneAwake lane = true →
      s.dev.on lane.SLIP_BUSY = false →
      s.goes (.slip who lane) ((((s.dev.writtenCmd who (lane.fld 0 16 1)).raise lane.SLIP_BUSY).touch (aliasIndex lane.base)).reply .ok)) ∧
  -- R394: SLIP in another state.
  (∀ (s : State) (who : Who) (lane : LaneId),
      s.ready = true →
      s.dev.takes who (lane.fld 0 16 1) = true →
      lane.isPort = false →
      s.dev.lstate lane ≠ 5 →
      s.does (.slip who lane) (fun d => d.answer.code = .busy ∧ d.on (lane.fld 0x2C 5 1) = true ∧ d.on lane.SLIP_BUSY = s.dev.on lane.SLIP_BUSY ∧ s.dev.regsBut [lane.base + 0x2C] d)) ∧
  -- R394: the slip takes effect.
  (∀ (s : State) (lane : LaneId),
      s.ready = true →
      s.dev.on lane.SLIP_BUSY = true →
      s.dev.laneAwake lane = true →
      s.does (.slipDone lane) (fun d => d.on lane.SLIP_BUSY = false ∧ d.on (lane.fld 0x2C 4 1) = true ∧ d.get (lane.fld 0x60 0 16) = min (s.dev.get (lane.fld 0x60 0 16) + 1) 0xFFFF ∧
        d.on lane.ALIGNED = (s.dev.laneCoder lane == 0) ∧ (0 < s.dev.laneBits lane → (d.laneSt lane).bound = ((s.dev.laneSt lane).bound + if s.dev.lanePam4 lane then 2 else 1) % s.dev.laneBits lane) ∧
        (∀ m : LaneId, m ≠ lane → d.laneSt m = s.dev.laneSt m) ∧ s.dev.regsBut [lane.base + 0x28, lane.base + 0x2C, lane.base + 0x60] d))

/-- APPLY puts a staged rate into force and takes the lanes of the PLL through PLL_WAIT, or sets APPLY_ERR; a
settled PLL, a signal and its loss, EQF below its minimum and failed acquisitions move a lane as R383 says, the
eighth failure in a row retiring it where AUTO_RETIRE is 1; EQF is that of the worst eye; adaptation moves one
setting by one step at a time and undoes a step that lowered EQF. -/
def Obligations.LaneAcquisition : Prop :=
  -- R381: APPLY_A.
  (∀ (s : State) (who : Who) (quad : Fin 32),
      s.ready = true →
      s.dev.takesWrite who (Dev.pllApply quad.val 0).off 1 = true →
      s.dev.word (Dev.pllApply quad.val 0).off = 0 →
      pllInRange quad.val (s.dev.get (pllFld quad.val 0 0 32 true)) = true →
      ((lanesOf quad.val).filter (fun (l : LaneId) => s.dev.get l.PLL_SEL == 0)).all (fun (l : LaneId) => !s.dev.on l.EN || rateInRange l.isLine (s.dev.get (pllFld quad.val 0 0 32 true)) (s.dev.get l.DIV) (s.dev.lanePam4 l)) = true →
      s.does (.applyA who quad) (fun d => d = ((((((((lanesOf quad.val).filter (fun (l : LaneId) => s.dev.get l.PLL_SEL == 0)).foldl (fun (a : Dev) (l : LaneId) => if a.laneRunning l then a.lanePllWait l true else a) (({ (s.dev.writtenCmd who (Dev.pllApply quad.val 0)) with plls := SMap.put 0 s.dev.plls (2 * quad.val + 0) (s.dev.get (pllFld quad.val 0 0 32 true)) }).clear (pllLock quad.val 0))).pllShow quad.val).clear (pllFld quad.val 0xC 2 1 false)).cmdDone (pllFld quad.val 0xC 2 1 false).ix 3 .ok)).touch (aliasIndex (pllBase quad.val + 8))).reply .ok ∧ d.pllRate quad.val 0 = (s.dev.get (pllFld quad.val 0 0 32 true)))) ∧
  -- R381: APPLY_A of a rate out of range: APPLY_ERR, and the rate in force stays.
  (∀ (s : State) (who : Who) (quad : Fin 32),
      s.ready = true →
      s.dev.takesWrite who (Dev.pllApply quad.val 0).off 1 = true →
      s.dev.word (Dev.pllApply quad.val 0).off = 0 →
      pllInRange quad.val (s.dev.get (pllFld quad.val 0 0 32 true)) = false →
      s.goes (.applyA who quad) (((((s.dev.writtenCmd who (Dev.pllApply quad.val 0)).raise (pllFld quad.val 0xC 2 1 false)).cmdDone (pllFld quad.val 0xC 2 1 false).ix 3 .targetErr).touch (aliasIndex (pllBase quad.val + 8))).reply .ok)) ∧
  -- R381: APPLY_B.
  (∀ (s : State) (who : Who) (quad : Fin 32),
      s.ready = true →
      s.dev.takesWrite who (Dev.pllApply quad.val 1).off 2 = true →
      s.dev.word (Dev.pllApply quad.val 1).off = 0 →
      pllInRange quad.val (s.dev.get (pllFld quad.val 4 0 32 true)) = true →
      ((lanesOf quad.val).filter (fun (l : LaneId) => s.dev.get l.PLL_SEL == 1)).all (fun (l : LaneId) => !s.dev.on l.EN || rateInRange l.isLine (s.dev.get (pllFld quad.val 4 0 32 true)) (s.dev.get l.DIV) (s.dev.lanePam4 l)) = true →
      s.does (.applyB who quad) (fun d => d = ((((((((lanesOf quad.val).filter (fun (l : LaneId) => s.dev.get l.PLL_SEL == 1)).foldl (fun (a : Dev) (l : LaneId) => if a.laneRunning l then a.lanePllWait l true else a) (({ (s.dev.writtenCmd who (Dev.pllApply quad.val 1)) with plls := SMap.put 0 s.dev.plls (2 * quad.val + 1) (s.dev.get (pllFld quad.val 4 0 32 true)) }).clear (pllLock quad.val 1))).pllShow quad.val).clear (pllFld quad.val 0xC 2 1 false)).cmdDone (pllFld quad.val 0xC 2 1 false).ix 3 .ok)).touch (aliasIndex (pllBase quad.val + 8))).reply .ok ∧ d.pllRate quad.val 1 = (s.dev.get (pllFld quad.val 4 0 32 true)))) ∧
  -- R381: APPLY_B of a rate out of range: APPLY_ERR, and the rate in force stays.
  (∀ (s : State) (who : Who) (quad : Fin 32),
      s.ready = true →
      s.dev.takesWrite who (Dev.pllApply quad.val 1).off 2 = true →
      s.dev.word (Dev.pllApply quad.val 1).off = 0 →
      pllInRange quad.val (s.dev.get (pllFld quad.val 4 0 32 true)) = false →
      s.goes (.applyB who quad) (((((s.dev.writtenCmd who (Dev.pllApply quad.val 1)).raise (pllFld quad.val 0xC 2 1 false)).cmdDone (pllFld quad.val 0xC 2 1 false).ix 3 .targetErr).touch (aliasIndex (pllBase quad.val + 8))).reply .ok)) ∧
  -- R383: the PLL is locked and the dividers have settled.
  (∀ (s : State) (lane : LaneId),
      s.ready = true →
      s.dev.lstate lane = 1 →
      s.dev.laneAwake lane = true →
      s.dev.on Reg.CLK_STS_ROOT_LOCK = true →
      lane.isPort = false →
      s.goes (.lanePllSettled lane) ((((s.dev.set lane.STATE 2).raise lane.PLL_LOCK).raise (pllLock lane.quad (s.dev.get lane.PLL_SEL))).pllShow lane.quad)) ∧
  -- R383: of a port lane.
  (∀ (s : State) (lane : LaneId),
      s.ready = true →
      s.dev.lstate lane = 1 →
      s.dev.laneAwake lane = true →
      s.dev.on Reg.CLK_STS_ROOT_LOCK = true →
      lane.isPort = true →
      s.goes (.lanePllSettled lane) ((s.dev.set lane.STATE 2).raise lane.PLL_LOCK)) ∧
  -- R383: a signal.
  (∀ (s : State) (lane : LaneId),
      s.ready = true →
      s.dev.lstate lane = 2 →
      s.dev.laneAwake lane = true →
      s.dev.ctlOn lane.FREEZE = false →
      s.goes (.laneSignalDetect lane) ((((s.dev.raise lane.SIGNAL).raise lane.CDR_LOCK).setBit lane.ALIGNED (s.dev.laneCoder lane == 0)).laneAcquire lane)) ∧
  -- R383: a signal with FREEZE at 1.
  (∀ (s : State) (lane : LaneId),
      s.ready = true →
      s.dev.lstate lane = 2 →
      s.dev.laneAwake lane = true →
      s.dev.ctlOn lane.FREEZE = true →
      s.goes (.laneSignalDetect lane) ((((s.dev.raise lane.SIGNAL).raise lane.CDR_LOCK).setBit lane.ALIGNED (s.dev.laneCoder lane == 0)).laneEnter lane 5)) ∧
  -- R383: what ACQUIRE, TRACK and FROZEN set.
  (∀ (d : Dev) (lane : LaneId),
      (d.laneAcquire lane).lstate lane = 3 ∧ (d.laneAcquire lane).get (lane.fld 0x60 16 16) = min (d.get (lane.fld 0x60 16 16) + 1) 0xFFFF ∧
        (d.laneEnter lane 4).lstate lane = 4 ∧ (d.laneEnter lane 5).lstate lane = 5 ∧ (d.lstate lane = 3 → (d.laneEnter lane 4).on (lane.fld 0x2C 1 1) = true)) ∧
  -- R383: LOS.
  (∀ (s : State) (lane : LaneId) (acq : Bool),
      s.ready = true →
      2 ≤ s.dev.lstate lane ∧ s.dev.lstate lane ≤ 5 →
      s.dev.laneAwake lane = true →
      acq = false ∨ s.dev.lstate lane ≠ 3 ∨ (s.dev.laneSt lane).fails < 7 ∨ s.dev.ctlOn (lane.fld 0x24 24 1) = false →
      s.does (.los lane acq) (fun d => d.lstate lane = 2 ∧ d.on lane.SIGNAL = false ∧ d.on lane.CDR_LOCK = false ∧ d.on lane.ALIGNED = false ∧ d.on lane.SLIP_BUSY = false ∧ d.get lane.EQF = 0 ∧
        d.on (lane.fld 0x2C 0 1) = true ∧ (s.dev.on lane.SLIP_BUSY = true → d.on (lane.fld 0x2C 5 1) = true) ∧
        s.dev.regsBut [lane.base + 0x28, lane.base + 0x2C] d ∧ s.dev.restSame { d with lanes := s.dev.lanes })) ∧
  -- R397: an eighth failed acquisition in the same cycle that retires the lane wins.
  (∀ (s : State) (lane : LaneId),
      s.ready = true →
      s.dev.lstate lane = 3 →
      s.dev.laneAwake lane = true →
      7 ≤ (s.dev.laneSt lane).fails →
      s.dev.ctlOn (lane.fld 0x24 24 1) = true →
      s.does (.los lane true) (fun d => d.lstate lane = 6 ∧ d.on (lane.fld 0x2C 3 1) = true ∧ d.on (lane.fld 0x2C 7 1) = true)) ∧
  -- R384: EQF.
  (∀ (s : State) (lane : LaneId) (eyes : Fin 4097 × Fin 4097 × Fin 4097),
      s.ready = true →
      3 ≤ s.dev.lstate lane ∧ s.dev.lstate lane ≤ 5 →
      s.dev.laneAwake lane = true →
      s.does (.eqfUpdate lane eyes) (fun d => d.get lane.EQF = min 255 (256 * (if s.dev.lanePam4 lane then min eyes.1.val (min eyes.2.1.val eyes.2.2.val) else eyes.1.val) / 4096) ∧
        (s.dev.lstate lane = 5 → d.get lane.EQF < s.dev.ctl (lane.fld 0x24 0 8) → d.on (lane.fld 0x2C 2 1) = true) ∧ d.lstate lane = s.dev.lstate lane ∧
        s.dev.regsBut [lane.base + 0x28, lane.base + 0x2C] d ∧ s.dev.restSame { d with lanes := s.dev.lanes })) ∧
  -- R384: 0 in every other state.
  (∀ (s : State) (lane : LaneId) (eyes : Fin 4097 × Fin 4097 × Fin 4097),
      s.ready = true →
      s.dev.laneAwake lane = true →
      s.dev.lstate lane < 3 ∨ 5 < s.dev.lstate lane →
      s.goes (.eqfUpdate lane eyes) (s.dev.clear lane.EQF)) ∧
  -- R385: with none in progress, a step moves one setting by one.
  (∀ (s : State) (lane : LaneId) (tap : Fin 25) (up : Bool),
      s.ready = true →
      s.dev.lstate lane = 3 ∨ s.dev.lstate lane = 4 →
      s.dev.laneAwake lane = true →
      (s.dev.laneSt lane).step = none →
      (s.dev.laneSt lane).freezeDue = false →
      (List.range (Dev.laneTaps lane)).all (s.dev.laneSt lane).tried.contains = false →
      s.goes (.adaptStep lane tap up) (let t := tap.val % Dev.laneTaps lane
        (s.dev.set (Dev.tapFld lane t) (Dev.tapMoved lane t (s.dev.get (Dev.tapFld lane t)) up)).setLane lane { s.dev.laneSt lane with
          step := some ⟨t, s.dev.get (Dev.tapFld lane t), s.dev.get lane.EQF, none⟩
          tried := if (s.dev.laneSt lane).tried.contains t then (s.dev.laneSt lane).tried else t :: (s.dev.laneSt lane).tried })) ∧
  -- R385: a step ends, undone when EQF fell, and the next starts.
  (∀ (s : State) (lane : LaneId) (tap : Fin 25) (up : Bool) (k : LaneStep) (e : Nat),
      s.ready = true →
      s.dev.lstate lane = 3 ∨ s.dev.lstate lane = 4 →
      s.dev.laneAwake lane = true →
      (s.dev.laneSt lane).step = some k →
      k.next = some e →
      s.goes (.adaptStep lane tap up) ((if e < k.eqf then s.dev.set (Dev.tapFld lane k.tap) k.old else s.dev).stepEnd lane tap.val up
        { s.dev.laneSt lane with step := none, gained := (s.dev.laneSt lane).gained || decide (k.eqf < e) })) ∧
  -- R383: at the end of a step a FREEZE that waits takes effect, and in ACQUIRE a full round without a gain ends
  -- the acquisition where EQF reaches EQF_MIN.
  (∀ (d : Dev) (lane : LaneId) (tap : Nat) (up : Bool) (x : LaneSt),
      (x.freezeDue = true → (d.stepEnd lane tap up x).lstate lane = 5) ∧
        (x.freezeDue = false → (List.range (Dev.laneTaps lane)).all x.tried.contains = true → x.gained = false → d.lstate lane = 3 → d.ctl (lane.fld 0x24 0 8) ≤ d.get lane.EQF →
          (d.stepEnd lane tap up x).lstate lane = 4 ∧ (d.stepEnd lane tap up x).on (lane.fld 0x2C 1 1) = true)) ∧
  -- R383: ACQ_FAIL.
  (∀ (s : State) (lane : LaneId),
      s.ready = true →
      s.dev.lstate lane = 3 →
      s.dev.laneAwake lane = true →
      (s.dev.laneSt lane).fails + 1 < 8 ∨ s.dev.ctlOn (lane.fld 0x24 24 1) = false →
      (s.dev.laneSt lane).freezeDue = false →
      s.goes (.acqFail lane) (((((s.dev.raise (lane.fld 0x2C 3 1)).setLane lane { s.dev.laneSt lane with fails := (s.dev.laneSt lane).fails + 1 }).eqReset lane).clear lane.EQF).laneAcquire lane)) ∧
  -- R383: the eighth in a row with AUTO_RETIRE.
  (∀ (s : State) (lane : LaneId),
      s.ready = true →
      s.dev.lstate lane = 3 →
      s.dev.laneAwake lane = true →
      7 ≤ (s.dev.laneSt lane).fails →
      s.dev.ctlOn (lane.fld 0x24 24 1) = true →
      s.goes (.acqFail lane) (((s.dev.raise (lane.fld 0x2C 3 1)).setLane lane { s.dev.laneSt lane with fails := (s.dev.laneSt lane).fails + 1 }).laneRetireNow lane)) ∧
  -- R383: EQF below EQF_MIN for 1 ms in TRACK.
  (∀ (s : State) (lane : LaneId),
      s.ready = true →
      s.dev.lstate lane = 4 →
      s.dev.laneAwake lane = true →
      s.dev.get lane.EQF < s.dev.ctl (lane.fld 0x24 0 8) →
      s.dev.ctlOn lane.FREEZE = false →
      s.goes (.eqfLow lane) ((s.dev.raise (lane.fld 0x2C 2 1)).laneAcquire lane))

/-- Eight good codewords in a row align a FEC lane, four bad ones end its alignment; 64 valid headers lock a 64B66B
lane, and an 8B10B lane follows the synchronization of Clause 36; words enter and leave the FIFOs of 64, with
overflow and underflow counted; a single error in a stored byte is corrected; a generator's pattern replaces the
words; a checker locks and counts; GO starts an injection, which flips its line bits and ends. -/
def Obligations.LaneData : Prop :=
  -- R387: the eighth good codeword in a row aligns the lane.
  (∀ (s : State) (lane : LaneId) (errors : Nat) (kind : Fin 3),
      s.ready = true →
      3 ≤ s.dev.lstate lane ∧ s.dev.lstate lane ≤ 5 →
      s.dev.laneAwake lane = true →
      s.dev.laneCoder lane = 1 ∨ s.dev.laneCoder lane = 2 →
      s.dev.on lane.ALIGNED = false →
      s.dev.ctlOn lane.AUTO_ALIGN = true ∨ lane.isPort = true →
      errors ≤ (if s.dev.laneCoder lane = 2 then 7 else 15) →
      7 ≤ (s.dev.laneSt lane).good →
      s.goes (.codewordAlign lane errors kind) ((s.dev.raise lane.ALIGNED).setLane lane { s.dev.laneSt lane with good := 0, bad := 0 })) ∧
  -- R387: the fourth bad one in a row ends the alignment, and the hunt goes on.
  (∀ (s : State) (lane : LaneId) (errors : Nat) (kind : Fin 3),
      s.ready = true →
      3 ≤ s.dev.lstate lane ∧ s.dev.lstate lane ≤ 5 →
      s.dev.laneAwake lane = true →
      s.dev.laneCoder lane = 1 ∨ s.dev.laneCoder lane = 2 →
      s.dev.on lane.ALIGNED = true →
      lane.isPort = false →
      (if s.dev.laneCoder lane = 2 then 7 else 15) < errors →
      3 ≤ (s.dev.laneSt lane).bad →
      s.goes (.codewordAlign lane errors kind) ((((((s.dev.count (lane.fld 0x5C 0 32)).raise (lane.fld 0x2C 10 1)).setLane lane { s.dev.laneSt lane with good := 0, bad := 0 }).clear lane.ALIGNED).raise (lane.fld 0x2C 6 1)).huntOn lane)) ∧
  -- R387: a corrected codeword of an aligned lane is counted.
  (∀ (s : State) (lane : LaneId) (errors : Nat) (kind : Fin 3),
      s.ready = true →
      3 ≤ s.dev.lstate lane ∧ s.dev.lstate lane ≤ 5 →
      s.dev.laneAwake lane = true →
      s.dev.laneCoder lane = 1 ∨ s.dev.laneCoder lane = 2 →
      s.dev.on lane.ALIGNED = true →
      0 < errors ∧ errors ≤ (if s.dev.laneCoder lane = 2 then 7 else 15) →
      s.goes (.codewordAlign lane errors kind) ((s.dev.count (lane.fld 0x58 0 32)).setLane lane { s.dev.laneSt lane with good := 0, bad := 0 })) ∧
  -- R388: block lock after 64 valid headers.
  (∀ (s : State) (lane : LaneId) (kind : Fin 3),
      s.ready = true →
      3 ≤ s.dev.lstate lane ∧ s.dev.lstate lane ≤ 5 →
      s.dev.laneAwake lane = true →
      s.dev.laneCoder lane = 4 →
      s.dev.on lane.ALIGNED = false →
      63 ≤ (s.dev.laneSt lane).good →
      s.goes (.codewordAlign lane 0 kind) ((s.dev.raise lane.ALIGNED).setLane lane { s.dev.laneSt lane with good := 0, bad := 0 })) ∧
  -- R388: the code groups of 8B10B.
  (∀ (s : State) (lane : LaneId) (errors : Nat) (kind : Fin 3),
      s.ready = true →
      3 ≤ s.dev.lstate lane ∧ s.dev.lstate lane ≤ 5 →
      s.dev.laneAwake lane = true →
      s.dev.laneCoder lane = 3 →
      s.does (.codewordAlign lane errors kind) (fun d => (let r := Dev.clause36 (s.dev.laneSt lane).align (s.dev.laneSt lane).good (errors != 0) kind.val
        (d.laneSt lane).align = r.1 ∧ (d.laneSt lane).good = r.2 ∧ d.on lane.ALIGNED = decide (6 ≤ r.1)) ∧ d.lstate lane = s.dev.lstate lane)) ∧
  -- R390, R391: a word enters the receive FIFO after the fabric has taken some.
  (∀ (s : State) (lane : LaneId) (w : LaneWord) (taken errors : Nat),
      s.ready = true →
      lane.isPort = false →
      3 ≤ s.dev.lstate lane ∧ s.dev.lstate lane ≤ 5 →
      s.dev.laneAwake lane = true →
      s.dev.laneOpen lane = true →
      s.dev.laneClocked lane = true →
      s.dev.ctl lane.CHK = 0 →
      s.dev.on lane.CHK_LOCKED = false →
      s.dev.on lane.ALIGNED = true →
      ((s.dev.laneSt lane).rx.drop taken).length < 64 →
      s.dev.laneCoder lane ≠ 3 ∧ s.dev.laneCoder lane ≠ 4 →
      s.goes (.laneRxWord lane w taken errors []) (s.dev.setLane lane { s.dev.laneSt lane with rxOut := (s.dev.laneSt lane).rx.take taken |>.map (Dev.fifoOut []), rx := (s.dev.laneSt lane).rx.drop taken ++ [s.dev.laneFit lane w] })) ∧
  -- R389: while the word clock of the fabric stands, no word is taken.
  (∀ (s : State) (lane : LaneId) (w : LaneWord) (taken errors : Nat) (flips : List (Nat × BitVec 13)),
      s.ready = true →
      lane.isPort = false →
      3 ≤ s.dev.lstate lane ∧ s.dev.lstate lane ≤ 5 →
      s.dev.laneAwake lane = true →
      s.dev.laneOpen lane = true →
      s.dev.laneClocked lane = false →
      s.dev.on lane.CHK_LOCKED = false →
      s.dev.on lane.ALIGNED = true →
      (s.dev.laneSt lane).rx.length < 64 →
      s.dev.laneCoder lane ≠ 3 ∧ s.dev.laneCoder lane ≠ 4 →
      s.goes (.laneRxWord lane w taken errors flips) (s.dev.setLane lane { s.dev.laneSt lane with rx := (s.dev.laneSt lane).rx ++ [s.dev.laneFit lane w] })) ∧
  -- R285: a single error in a byte of a word that a FIFO holds is corrected on the way out.
  (∀ (w : LaneWord) (k : Nat) (b : Fin 13),
      Dev.fifoOut [(k, 1#13 <<< b.val)] w = w) ∧
  -- R390: at a full FIFO, or one whose attachment is not open, the word is an overflow.
  (∀ (s : State) (lane : LaneId) (w : LaneWord) (errors : Nat),
      s.ready = true →
      lane.isPort = false →
      3 ≤ s.dev.lstate lane ∧ s.dev.lstate lane ≤ 5 →
      s.dev.laneAwake lane = true →
      s.dev.on lane.CHK_LOCKED = false →
      s.dev.on lane.ALIGNED = true →
      64 ≤ (s.dev.laneSt lane).rx.length ∨ s.dev.laneOpen lane = false →
      s.dev.laneCoder lane ≠ 3 ∧ s.dev.laneCoder lane ≠ 4 →
      s.does (.laneRxWord lane w 0 errors []) (fun d => d.get (lane.fld 0x64 16 16) = min (s.dev.get (lane.fld 0x64 16 16) + 1) 0xFFFF ∧ d.on (lane.fld 0x2C 9 1) = true ∧ (d.laneSt lane).rx = (s.dev.laneSt lane).rx ∧ s.dev.regsBut [lane.base + 0x2C, lane.base + 0x64] d)) ∧
  -- R392: a locked checker compares the line bits.
  (∀ (s : State) (lane : LaneId) (w : LaneWord) (taken errors : Nat),
      s.ready = true →
      lane.isPort = false →
      3 ≤ s.dev.lstate lane ∧ s.dev.lstate lane ≤ 5 →
      s.dev.laneAwake lane = true →
      s.dev.on lane.CHK_LOCKED = true →
      s.dev.on lane.ALIGNED = false →
      s.dev.ctl lane.CHK ≠ 0 →
      s.does (.laneRxWord lane w taken errors []) (fun d => d = ((s.dev.setLane lane (s.dev.laneSt lane)).count64 (lane.fld 0x50 0 32) (lane.fld 0x54 0 32) (s.dev.laneBits lane)).count64 (lane.fld 0x48 0 32) (lane.fld 0x4C 0 32) (min errors (s.dev.laneBits lane)))) ∧
  -- R390, R393: the transmitter takes the oldest word, of which an injection that runs flips its bits.
  (∀ (s : State) (lane : LaneId) (w : LaneWord) (rest : List LaneWord),
      s.ready = true →
      s.dev.on Reg.CLK_STS_ROOT_LOCK = true →
      lane.isPort = false →
      2 ≤ s.dev.lstate lane ∧ s.dev.lstate lane ≤ 5 →
      s.dev.laneAwake lane = true →
      s.dev.ctl lane.GEN = 0 →
      (s.dev.laneSt lane).tx = w :: rest →
      s.goes (.laneTxWord lane [] []) (s.dev.setLane lane { s.dev.injected lane (s.dev.laneBits lane) (s.dev.laneSt lane) with outInv := s.dev.ctlOn (lane.fld 0 12 1), tx := rest, out := some (.word w) })) ∧
  -- R390: with none it sends its idle word.
  (∀ (s : State) (lane : LaneId),
      s.ready = true →
      s.dev.on Reg.CLK_STS_ROOT_LOCK = true →
      lane.isPort = false →
      2 ≤ s.dev.lstate lane ∧ s.dev.lstate lane ≤ 5 →
      s.dev.laneAwake lane = true →
      s.dev.ctl lane.GEN = 0 →
      (s.dev.laneSt lane).tx = [] →
      s.goes (.laneTxWord lane [] []) (((s.dev.count (lane.fld 0x64 0 16)).raise (lane.fld 0x2C 8 1)).setLane lane { s.dev.injected lane (s.dev.laneBits lane) (s.dev.laneSt lane) with outInv := s.dev.ctlOn (lane.fld 0 12 1), tx := [], out := some .idle })) ∧
  -- R392: with a generator, its pattern.
  (∀ (s : State) (lane : LaneId) (offered : List LaneWord) (flips : List (Nat × BitVec 13)),
      s.ready = true →
      s.dev.on Reg.CLK_STS_ROOT_LOCK = true →
      lane.isPort = false →
      2 ≤ s.dev.lstate lane ∧ s.dev.lstate lane ≤ 5 →
      s.dev.laneAwake lane = true →
      s.dev.ctl lane.GEN ≠ 0 →
      s.goes (.laneTxWord lane offered flips) (let b := s.dev.patternBits lane (s.dev.laneBits lane) (s.dev.laneSt lane).gen
        s.dev.setLane lane { s.dev.injected lane (s.dev.laneBits lane) (s.dev.laneSt lane) with outInv := s.dev.ctlOn (lane.fld 0 12 1), gen := b.2, out := some (.pattern b.1) })) ∧
  -- R393: a single or burst injection flips the bits it has left, from the word's first on; one at a rate, one
  -- bit in every 2^RATE_LOG. That it begins with a word's first bit is the model's choice (log 125).
  (∀ (d : Dev) (lane : LaneId) (b : Nat) (x : LaneSt),
      (x.inj ≠ 3 → d.injected lane b x = { x with outInj := 2 ^ min x.injLeft b - 1, injLeft := x.injLeft - min x.injLeft b }) ∧
        (x.inj = 3 → (∀ i, i < b → (d.injected lane b x).outInj.testBit i = decide ((x.injAt + i) % 2 ^ d.ctl (lane.fld 0x44 10 5) = 0)) ∧
          d.injected lane b x = { x with outInj := (d.injected lane b x).outInj, injAt := (x.injAt + b) % 2 ^ d.ctl (lane.fld 0x44 10 5) })) ∧
  -- R392: PRBS7 follows x^7 + x^6 + 1.
  (∀ (g : BitVec 7),
      Dev.prbsNext 1 g.toNat = (g.getLsbD 6 != g.getLsbD 5, (2 * g.toNat + if g.getLsbD 6 != g.getLsbD 5 then 1 else 0) % 2 ^ 7)) ∧
  -- R392: PAT_CTL.
  (∀ (s : State) (who : Who) (lane : LaneId) (x : Word),
      s.ready = true →
      s.dev.takesWrite who (lane.base + 0x30) x = true →
      fieldOf x 0 4 = fieldOf (s.dev.word (lane.base + 0x30)) 0 4 →
      s.goes (.patCtlWrite who lane x) ((((s.dev.written who (lane.base + 0x30) x).clear lane.CHK_LOCKED).touch (aliasIndex (lane.base + 0x30))).reply .ok)) ∧
  -- R392: a new pattern starts the generator anew; its state is free.
  (∀ (s : State) (who : Who) (lane : LaneId) (x : Word),
      s.ready = true →
      s.dev.takesWrite who (lane.base + 0x30) x = true →
      fieldOf x 0 4 ≠ fieldOf (s.dev.word (lane.base + 0x30)) 0 4 →
      fieldOf x 0 4 ≠ 0 →
      s.does (.patCtlWrite who lane x) (fun d => d.answer.code = .ok ∧ d.on lane.CHK_LOCKED = false ∧ d.get lane.GEN = fieldOf x 0 4 ∧ d.get lane.CHK = fieldOf x 4 4 ∧
        (fieldOf x 0 4 = 8 → (d.laneSt lane).gen = 0) ∧ (fieldOf x 0 4 ≠ 8 → 0 < (d.laneSt lane).gen ∧ (d.laneSt lane).gen < 2 ^ (Dev.prbsTaps (fieldOf x 0 4)).1) ∧
        s.dev.regsBut [lane.base + 0x28, lane.base + 0x30] d)) ∧
  -- R392: the checker locks.
  (∀ (s : State) (lane : LaneId),
      s.ready = true →
      3 ≤ s.dev.lstate lane ∧ s.dev.lstate lane ≤ 5 →
      s.dev.laneAwake lane = true →
      s.dev.ctl lane.CHK ≠ 0 →
      s.goes (.chkLock lane) (s.dev.raise lane.CHK_LOCKED)) ∧
  -- R393: GO.
  (∀ (s : State) (who : Who) (lane : LaneId),
      s.ready = true →
      s.dev.takes who (lane.fld 0x44 15 1) = true →
      s.dev.portTestDenied lane = false →
      s.dev.lstate lane ≠ 0 ∧ s.dev.lstate lane ≠ 6 →
      (s.dev.laneSt lane).inj = 0 →
      s.dev.get (lane.fld 0x44 0 2) = 1 ∨ s.dev.get (lane.fld 0x44 0 2) = 2 →
      s.goes (.go who lane) (((((s.dev.writtenCmd who (lane.fld 0x44 15 1)).setLane lane { s.dev.laneSt lane with inj := s.dev.get (lane.fld 0x44 0 2), injLeft := if s.dev.get (lane.fld 0x44 0 2) = 1 then 1 else s.dev.get (lane.fld 0x44 2 8), injAt := 0 }).raise (lane.fld 0x44 15 1)).touch (aliasIndex (lane.base + 0x44))).reply .ok)) ∧
  -- R393: at a rate, until MODE is written 0.
  (∀ (s : State) (who : Who) (lane : LaneId),
      s.ready = true →
      s.dev.takes who (lane.fld 0x44 15 1) = true →
      s.dev.portTestDenied lane = false →
      s.dev.lstate lane ≠ 0 ∧ s.dev.lstate lane ≠ 6 →
      (s.dev.laneSt lane).inj = 0 →
      s.dev.get (lane.fld 0x44 0 2) = 3 →
      s.goes (.go who lane) ((((s.dev.writtenCmd who (lane.fld 0x44 15 1)).setLane lane { s.dev.laneSt lane with inj := 3, injLeft := 0, injAt := 0 }).touch (aliasIndex (lane.base + 0x44))).reply .ok)) ∧
  -- R393: GO on a retired or disabled lane, and while an injection runs: BUSY.
  (∀ (s : State) (who : Who) (lane : LaneId),
      s.ready = true →
      s.dev.takes who (lane.fld 0x44 15 1) = true →
      s.dev.portTestDenied lane = false →
      s.dev.lstate lane = 0 ∨ s.dev.lstate lane = 6 ∨ (s.dev.laneSt lane).inj ≠ 0 →
      s.does (.go who lane) (fun d => d.answer.code = .busy ∧ d.laneSt lane = s.dev.laneSt lane ∧ s.dev.regsBut [] d)) ∧
  -- R393: the injection is over.
  (∀ (s : State) (lane : LaneId),
      s.ready = true →
      (s.dev.laneSt lane).inj = 1 ∨ (s.dev.laneSt lane).inj = 2 →
      s.goes (.injectionDone lane) ((s.dev.setLane lane { s.dev.laneSt lane with inj := 0, injLeft := 0 }).clear (lane.fld 0x44 15 1)))

/-- GO out of D0 closes the guard and starts the drain; its end gates the clocks and acts on the switches; the state
is then in force with DOMAIN_DONE, and a late cancel or a pending wake starts the return; GO to D0 and a timeout
refuse a power-down whose drain is not complete; GO is BUSY while the domain moves or its precondition fails,
DENIED for a state that the kind lacks, NO_TARGET for an unused number; a wake source that fires in the cycle of
GO refuses it, and a SWAP of the region accepted in that cycle wins; the return opens the guard. -/
def Obligations.PowerDomains : Prop :=
  -- R404, R405: GO out of D0 starts the drain.
  (∀ (s : State) (who : Who) (domain : Fin 256) (target fires : BitVec 2) (swap : Bool) (k : DomKind),
      s.ready = true →
      s.dev.takesWrite who (Reg.DOM_CTL domain.val) (withField (withField (s.dev.word (Reg.DOM_CTL domain.val)) (Reg.DOM_CTL_TARGET domain.val).lsb (Reg.DOM_CTL_TARGET domain.val).w target.toNat) (Reg.DOM_CTL_GO domain.val).lsb (Reg.DOM_CTL_GO domain.val).w 1) = true →
      domKind domain.val = some k →
      s.dev.domState domain.val = 0 →
      s.dev.domMoving domain.val = false →
      target ≠ 0 →
      s.dev.domReady k = true →
      swap = false ∨ (if ((s.dev.written who (Reg.DOM_CTL domain.val) (withField (withField (s.dev.word (Reg.DOM_CTL domain.val)) (Reg.DOM_CTL_TARGET domain.val).lsb (Reg.DOM_CTL_TARGET domain.val).w target.toNat) (Reg.DOM_CTL_GO domain.val).lsb (Reg.DOM_CTL_GO domain.val).w 1)).sourcesHit domain.val fires.toNat).testBit 0 then (s.dev.written who (Reg.DOM_CTL domain.val) (withField (withField (s.dev.word (Reg.DOM_CTL domain.val)) (Reg.DOM_CTL_TARGET domain.val).lsb (Reg.DOM_CTL_TARGET domain.val).w target.toNat) (Reg.DOM_CTL_GO domain.val).lsb (Reg.DOM_CTL_GO domain.val).w 1)).setDom domain.val { s.dev.domSt domain.val with timer := false } else (s.dev.written who (Reg.DOM_CTL domain.val) (withField (withField (s.dev.word (Reg.DOM_CTL domain.val)) (Reg.DOM_CTL_TARGET domain.val).lsb (Reg.DOM_CTL_TARGET domain.val).w target.toNat) (Reg.DOM_CTL_GO domain.val).lsb (Reg.DOM_CTL_GO domain.val).w 1))).swapWins k = false →
      ((s.dev.written who (Reg.DOM_CTL domain.val) (withField (withField (s.dev.word (Reg.DOM_CTL domain.val)) (Reg.DOM_CTL_TARGET domain.val).lsb (Reg.DOM_CTL_TARGET domain.val).w target.toNat) (Reg.DOM_CTL_GO domain.val).lsb (Reg.DOM_CTL_GO domain.val).w 1)).ctl (Reg.DOM_CTL_WAKE_EN domain.val) &&& k.sources) &&& ((s.dev.written who (Reg.DOM_CTL domain.val) (withField (withField (s.dev.word (Reg.DOM_CTL domain.val)) (Reg.DOM_CTL_TARGET domain.val).lsb (Reg.DOM_CTL_TARGET domain.val).w target.toNat) (Reg.DOM_CTL_GO domain.val).lsb (Reg.DOM_CTL_GO domain.val).w 1)).sourcesHit domain.val fires.toNat) = 0 →
      s.does (.domGo who domain target fires swap) (fun d => d = ((Dev.domCtlWritten domain.val ((if ((s.dev.written who (Reg.DOM_CTL domain.val) (withField (withField (s.dev.word (Reg.DOM_CTL domain.val)) (Reg.DOM_CTL_TARGET domain.val).lsb (Reg.DOM_CTL_TARGET domain.val).w target.toNat) (Reg.DOM_CTL_GO domain.val).lsb (Reg.DOM_CTL_GO domain.val).w 1)).sourcesHit domain.val fires.toNat).testBit 0 then (s.dev.written who (Reg.DOM_CTL domain.val) (withField (withField (s.dev.word (Reg.DOM_CTL domain.val)) (Reg.DOM_CTL_TARGET domain.val).lsb (Reg.DOM_CTL_TARGET domain.val).w target.toNat) (Reg.DOM_CTL_GO domain.val).lsb (Reg.DOM_CTL_GO domain.val).w 1)).setDom domain.val { s.dev.domSt domain.val with timer := false } else (s.dev.written who (Reg.DOM_CTL domain.val) (withField (withField (s.dev.word (Reg.DOM_CTL domain.val)) (Reg.DOM_CTL_TARGET domain.val).lsb (Reg.DOM_CTL_TARGET domain.val).w target.toNat) (Reg.DOM_CTL_GO domain.val).lsb (Reg.DOM_CTL_GO domain.val).w 1))).domDown domain.val target.toNat false)).touch (aliasIndex (Reg.DOM_CTL domain.val))).reply .ok ∧ d.on (Reg.DOM_STS_DRAINING domain.val) = true ∧ (d.domSt domain.val).target = target.toNat ∧ ((domNi domain.val).isSome = true → d.on (Reg.DOM_STS_GUARD_CLOSED domain.val) = true))) ∧
  -- R404: from D1 or D2 to a deeper state.
  (∀ (s : State) (who : Who) (domain : Fin 256) (target fires : BitVec 2) (swap : Bool) (k : DomKind),
      s.ready = true →
      s.dev.takesWrite who (Reg.DOM_CTL domain.val) (withField (withField (s.dev.word (Reg.DOM_CTL domain.val)) (Reg.DOM_CTL_TARGET domain.val).lsb (Reg.DOM_CTL_TARGET domain.val).w target.toNat) (Reg.DOM_CTL_GO domain.val).lsb (Reg.DOM_CTL_GO domain.val).w 1) = true →
      domKind domain.val = some k →
      s.dev.domState domain.val ≠ 0 →
      s.dev.domMoving domain.val = false →
      target.toNat ≠ s.dev.domState domain.val →
      target ≠ 0 →
      s.dev.domReady k = true →
      swap = false ∨ (if ((s.dev.written who (Reg.DOM_CTL domain.val) (withField (withField (s.dev.word (Reg.DOM_CTL domain.val)) (Reg.DOM_CTL_TARGET domain.val).lsb (Reg.DOM_CTL_TARGET domain.val).w target.toNat) (Reg.DOM_CTL_GO domain.val).lsb (Reg.DOM_CTL_GO domain.val).w 1)).sourcesHit domain.val fires.toNat).testBit 0 then (s.dev.written who (Reg.DOM_CTL domain.val) (withField (withField (s.dev.word (Reg.DOM_CTL domain.val)) (Reg.DOM_CTL_TARGET domain.val).lsb (Reg.DOM_CTL_TARGET domain.val).w target.toNat) (Reg.DOM_CTL_GO domain.val).lsb (Reg.DOM_CTL_GO domain.val).w 1)).setDom domain.val { s.dev.domSt domain.val with timer := false } else (s.dev.written who (Reg.DOM_CTL domain.val) (withField (withField (s.dev.word (Reg.DOM_CTL domain.val)) (Reg.DOM_CTL_TARGET domain.val).lsb (Reg.DOM_CTL_TARGET domain.val).w target.toNat) (Reg.DOM_CTL_GO domain.val).lsb (Reg.DOM_CTL_GO domain.val).w 1))).swapWins k = false →
      ((s.dev.written who (Reg.DOM_CTL domain.val) (withField (withField (s.dev.word (Reg.DOM_CTL domain.val)) (Reg.DOM_CTL_TARGET domain.val).lsb (Reg.DOM_CTL_TARGET domain.val).w target.toNat) (Reg.DOM_CTL_GO domain.val).lsb (Reg.DOM_CTL_GO domain.val).w 1)).ctl (Reg.DOM_CTL_WAKE_EN domain.val) &&& k.sources) &&& ((s.dev.written who (Reg.DOM_CTL domain.val) (withField (withField (s.dev.word (Reg.DOM_CTL domain.val)) (Reg.DOM_CTL_TARGET domain.val).lsb (Reg.DOM_CTL_TARGET domain.val).w target.toNat) (Reg.DOM_CTL_GO domain.val).lsb (Reg.DOM_CTL_GO domain.val).w 1)).sourcesHit domain.val fires.toNat) = 0 →
      s.goes (.domGo who domain target fires swap) (((Dev.domCtlWritten domain.val ((if ((s.dev.written who (Reg.DOM_CTL domain.val) (withField (withField (s.dev.word (Reg.DOM_CTL domain.val)) (Reg.DOM_CTL_TARGET domain.val).lsb (Reg.DOM_CTL_TARGET domain.val).w target.toNat) (Reg.DOM_CTL_GO domain.val).lsb (Reg.DOM_CTL_GO domain.val).w 1)).sourcesHit domain.val fires.toNat).testBit 0 then (s.dev.written who (Reg.DOM_CTL domain.val) (withField (withField (s.dev.word (Reg.DOM_CTL domain.val)) (Reg.DOM_CTL_TARGET domain.val).lsb (Reg.DOM_CTL_TARGET domain.val).w target.toNat) (Reg.DOM_CTL_GO domain.val).lsb (Reg.DOM_CTL_GO domain.val).w 1)).setDom domain.val { s.dev.domSt domain.val with timer := false } else (s.dev.written who (Reg.DOM_CTL domain.val) (withField (withField (s.dev.word (Reg.DOM_CTL domain.val)) (Reg.DOM_CTL_TARGET domain.val).lsb (Reg.DOM_CTL_TARGET domain.val).w target.toNat) (Reg.DOM_CTL_GO domain.val).lsb (Reg.DOM_CTL_GO domain.val).w 1))).domDown domain.val target.toNat false)).touch (aliasIndex (Reg.DOM_CTL domain.val))).reply .ok)) ∧
  -- R409: with both wake sources enabled and one that fires in the same cycle, the wake is pending.
  (∀ (s : State) (who : Who) (domain : Fin 256) (target fires : BitVec 2) (swap : Bool) (k : DomKind),
      s.ready = true →
      s.dev.takesWrite who (Reg.DOM_CTL domain.val) (withField (withField (s.dev.word (Reg.DOM_CTL domain.val)) (Reg.DOM_CTL_TARGET domain.val).lsb (Reg.DOM_CTL_TARGET domain.val).w target.toNat) (Reg.DOM_CTL_GO domain.val).lsb (Reg.DOM_CTL_GO domain.val).w 1) = true →
      domKind domain.val = some k →
      s.dev.domState domain.val = 0 →
      s.dev.domMoving domain.val = false →
      target ≠ 0 →
      s.dev.domReady k = true →
      swap = false ∨ (if ((s.dev.written who (Reg.DOM_CTL domain.val) (withField (withField (s.dev.word (Reg.DOM_CTL domain.val)) (Reg.DOM_CTL_TARGET domain.val).lsb (Reg.DOM_CTL_TARGET domain.val).w target.toNat) (Reg.DOM_CTL_GO domain.val).lsb (Reg.DOM_CTL_GO domain.val).w 1)).sourcesHit domain.val fires.toNat).testBit 0 then (s.dev.written who (Reg.DOM_CTL domain.val) (withField (withField (s.dev.word (Reg.DOM_CTL domain.val)) (Reg.DOM_CTL_TARGET domain.val).lsb (Reg.DOM_CTL_TARGET domain.val).w target.toNat) (Reg.DOM_CTL_GO domain.val).lsb (Reg.DOM_CTL_GO domain.val).w 1)).setDom domain.val { s.dev.domSt domain.val with timer := false } else (s.dev.written who (Reg.DOM_CTL domain.val) (withField (withField (s.dev.word (Reg.DOM_CTL domain.val)) (Reg.DOM_CTL_TARGET domain.val).lsb (Reg.DOM_CTL_TARGET domain.val).w target.toNat) (Reg.DOM_CTL_GO domain.val).lsb (Reg.DOM_CTL_GO domain.val).w 1))).swapWins k = false →
      ((s.dev.written who (Reg.DOM_CTL domain.val) (withField (withField (s.dev.word (Reg.DOM_CTL domain.val)) (Reg.DOM_CTL_TARGET domain.val).lsb (Reg.DOM_CTL_TARGET domain.val).w target.toNat) (Reg.DOM_CTL_GO domain.val).lsb (Reg.DOM_CTL_GO domain.val).w 1)).ctl (Reg.DOM_CTL_WAKE_EN domain.val) &&& k.sources) = 3 →
      ((s.dev.written who (Reg.DOM_CTL domain.val) (withField (withField (s.dev.word (Reg.DOM_CTL domain.val)) (Reg.DOM_CTL_TARGET domain.val).lsb (Reg.DOM_CTL_TARGET domain.val).w target.toNat) (Reg.DOM_CTL_GO domain.val).lsb (Reg.DOM_CTL_GO domain.val).w 1)).sourcesHit domain.val fires.toNat) ≠ 0 →
      s.goes (.domGo who domain target fires swap) (((Dev.domCtlWritten domain.val ((if ((s.dev.written who (Reg.DOM_CTL domain.val) (withField (withField (s.dev.word (Reg.DOM_CTL domain.val)) (Reg.DOM_CTL_TARGET domain.val).lsb (Reg.DOM_CTL_TARGET domain.val).w target.toNat) (Reg.DOM_CTL_GO domain.val).lsb (Reg.DOM_CTL_GO domain.val).w 1)).sourcesHit domain.val fires.toNat).testBit 0 then (s.dev.written who (Reg.DOM_CTL domain.val) (withField (withField (s.dev.word (Reg.DOM_CTL domain.val)) (Reg.DOM_CTL_TARGET domain.val).lsb (Reg.DOM_CTL_TARGET domain.val).w target.toNat) (Reg.DOM_CTL_GO domain.val).lsb (Reg.DOM_CTL_GO domain.val).w 1)).setDom domain.val { s.dev.domSt domain.val with timer := false } else (s.dev.written who (Reg.DOM_CTL domain.val) (withField (withField (s.dev.word (Reg.DOM_CTL domain.val)) (Reg.DOM_CTL_TARGET domain.val).lsb (Reg.DOM_CTL_TARGET domain.val).w target.toNat) (Reg.DOM_CTL_GO domain.val).lsb (Reg.DOM_CTL_GO domain.val).w 1))).domDown domain.val target.toNat true)).touch (aliasIndex (Reg.DOM_CTL domain.val))).reply .ok)) ∧
  -- R407: a wake source that fires in the cycle of GO refuses it.
  (∀ (s : State) (who : Who) (domain : Fin 256) (target fires : BitVec 2) (swap : Bool) (k : DomKind),
      s.ready = true →
      s.dev.takesWrite who (Reg.DOM_CTL domain.val) (withField (withField (s.dev.word (Reg.DOM_CTL domain.val)) (Reg.DOM_CTL_TARGET domain.val).lsb (Reg.DOM_CTL_TARGET domain.val).w target.toNat) (Reg.DOM_CTL_GO domain.val).lsb (Reg.DOM_CTL_GO domain.val).w 1) = true →
      domKind domain.val = some k →
      s.dev.domState domain.val = 0 →
      s.dev.domMoving domain.val = false →
      target ≠ 0 →
      s.dev.domReady k = true →
      swap = false ∨ (if ((s.dev.written who (Reg.DOM_CTL domain.val) (withField (withField (s.dev.word (Reg.DOM_CTL domain.val)) (Reg.DOM_CTL_TARGET domain.val).lsb (Reg.DOM_CTL_TARGET domain.val).w target.toNat) (Reg.DOM_CTL_GO domain.val).lsb (Reg.DOM_CTL_GO domain.val).w 1)).sourcesHit domain.val fires.toNat).testBit 0 then (s.dev.written who (Reg.DOM_CTL domain.val) (withField (withField (s.dev.word (Reg.DOM_CTL domain.val)) (Reg.DOM_CTL_TARGET domain.val).lsb (Reg.DOM_CTL_TARGET domain.val).w target.toNat) (Reg.DOM_CTL_GO domain.val).lsb (Reg.DOM_CTL_GO domain.val).w 1)).setDom domain.val { s.dev.domSt domain.val with timer := false } else (s.dev.written who (Reg.DOM_CTL domain.val) (withField (withField (s.dev.word (Reg.DOM_CTL domain.val)) (Reg.DOM_CTL_TARGET domain.val).lsb (Reg.DOM_CTL_TARGET domain.val).w target.toNat) (Reg.DOM_CTL_GO domain.val).lsb (Reg.DOM_CTL_GO domain.val).w 1))).swapWins k = false →
      ((s.dev.written who (Reg.DOM_CTL domain.val) (withField (withField (s.dev.word (Reg.DOM_CTL domain.val)) (Reg.DOM_CTL_TARGET domain.val).lsb (Reg.DOM_CTL_TARGET domain.val).w target.toNat) (Reg.DOM_CTL_GO domain.val).lsb (Reg.DOM_CTL_GO domain.val).w 1)).ctl (Reg.DOM_CTL_WAKE_EN domain.val) &&& k.sources) ≠ 3 →
      ((s.dev.written who (Reg.DOM_CTL domain.val) (withField (withField (s.dev.word (Reg.DOM_CTL domain.val)) (Reg.DOM_CTL_TARGET domain.val).lsb (Reg.DOM_CTL_TARGET domain.val).w target.toNat) (Reg.DOM_CTL_GO domain.val).lsb (Reg.DOM_CTL_GO domain.val).w 1)).ctl (Reg.DOM_CTL_WAKE_EN domain.val) &&& k.sources) &&& ((s.dev.written who (Reg.DOM_CTL domain.val) (withField (withField (s.dev.word (Reg.DOM_CTL domain.val)) (Reg.DOM_CTL_TARGET domain.val).lsb (Reg.DOM_CTL_TARGET domain.val).w target.toNat) (Reg.DOM_CTL_GO domain.val).lsb (Reg.DOM_CTL_GO domain.val).w 1)).sourcesHit domain.val fires.toNat) ≠ 0 →
      s.does (.domGo who domain target fires swap) (fun d => d.answer.code = .busy ∧ d.on Reg.PWR_EVT_WAKE_RACE = true ∧ d.get (Reg.DOM_STS_OUTCOME domain.val) = 2 ∧ d.domState domain.val = 0 ∧ d.on (Reg.DOM_STS_DRAINING domain.val) = false)) ∧
  -- R404: GO to the state in force is OK and changes nothing.
  (∀ (s : State) (who : Who) (domain : Fin 256) (target fires : BitVec 2) (swap : Bool) (k : DomKind),
      s.ready = true →
      s.dev.takesWrite who (Reg.DOM_CTL domain.val) (withField (withField (s.dev.word (Reg.DOM_CTL domain.val)) (Reg.DOM_CTL_TARGET domain.val).lsb (Reg.DOM_CTL_TARGET domain.val).w target.toNat) (Reg.DOM_CTL_GO domain.val).lsb (Reg.DOM_CTL_GO domain.val).w 1) = true →
      domKind domain.val = some k →
      target.toNat = s.dev.domState domain.val →
      s.dev.domMoving domain.val = false →
      s.goes (.domGo who domain target fires swap) (((Dev.domCtlWritten domain.val ((if ((s.dev.written who (Reg.DOM_CTL domain.val) (withField (withField (s.dev.word (Reg.DOM_CTL domain.val)) (Reg.DOM_CTL_TARGET domain.val).lsb (Reg.DOM_CTL_TARGET domain.val).w target.toNat) (Reg.DOM_CTL_GO domain.val).lsb (Reg.DOM_CTL_GO domain.val).w 1)).sourcesHit domain.val fires.toNat).testBit 0 then (s.dev.written who (Reg.DOM_CTL domain.val) (withField (withField (s.dev.word (Reg.DOM_CTL domain.val)) (Reg.DOM_CTL_TARGET domain.val).lsb (Reg.DOM_CTL_TARGET domain.val).w target.toNat) (Reg.DOM_CTL_GO domain.val).lsb (Reg.DOM_CTL_GO domain.val).w 1)).setDom domain.val { s.dev.domSt domain.val with timer := false } else (s.dev.written who (Reg.DOM_CTL domain.val) (withField (withField (s.dev.word (Reg.DOM_CTL domain.val)) (Reg.DOM_CTL_TARGET domain.val).lsb (Reg.DOM_CTL_TARGET domain.val).w target.toNat) (Reg.DOM_CTL_GO domain.val).lsb (Reg.DOM_CTL_GO domain.val).w 1))))).touch (aliasIndex (Reg.DOM_CTL domain.val))).reply .ok)) ∧
  -- R407: GO to D0 starts the return.
  (∀ (s : State) (who : Who) (domain : Fin 256) (target fires : BitVec 2) (swap : Bool) (k : DomKind),
      s.ready = true →
      s.dev.takesWrite who (Reg.DOM_CTL domain.val) (withField (withField (s.dev.word (Reg.DOM_CTL domain.val)) (Reg.DOM_CTL_TARGET domain.val).lsb (Reg.DOM_CTL_TARGET domain.val).w target.toNat) (Reg.DOM_CTL_GO domain.val).lsb (Reg.DOM_CTL_GO domain.val).w 1) = true →
      domKind domain.val = some k →
      target = 0 →
      s.dev.domState domain.val ≠ 0 →
      s.dev.domMoving domain.val = false →
      s.goes (.domGo who domain target fires swap) (((Dev.domCtlWritten domain.val ((if ((s.dev.written who (Reg.DOM_CTL domain.val) (withField (withField (s.dev.word (Reg.DOM_CTL domain.val)) (Reg.DOM_CTL_TARGET domain.val).lsb (Reg.DOM_CTL_TARGET domain.val).w target.toNat) (Reg.DOM_CTL_GO domain.val).lsb (Reg.DOM_CTL_GO domain.val).w 1)).sourcesHit domain.val fires.toNat).testBit 0 then (s.dev.written who (Reg.DOM_CTL domain.val) (withField (withField (s.dev.word (Reg.DOM_CTL domain.val)) (Reg.DOM_CTL_TARGET domain.val).lsb (Reg.DOM_CTL_TARGET domain.val).w target.toNat) (Reg.DOM_CTL_GO domain.val).lsb (Reg.DOM_CTL_GO domain.val).w 1)).setDom domain.val { s.dev.domSt domain.val with timer := false } else (s.dev.written who (Reg.DOM_CTL domain.val) (withField (withField (s.dev.word (Reg.DOM_CTL domain.val)) (Reg.DOM_CTL_TARGET domain.val).lsb (Reg.DOM_CTL_TARGET domain.val).w target.toNat) (Reg.DOM_CTL_GO domain.val).lsb (Reg.DOM_CTL_GO domain.val).w 1))).domWakeStart domain.val)).touch (aliasIndex (Reg.DOM_CTL domain.val))).reply .ok)) ∧
  -- R406: GO to D0 while the drain is not complete cancels the power-down.
  (∀ (s : State) (who : Who) (domain : Fin 256) (target fires : BitVec 2) (swap : Bool) (k : DomKind),
      s.ready = true →
      s.dev.takesWrite who (Reg.DOM_CTL domain.val) (withField (withField (s.dev.word (Reg.DOM_CTL domain.val)) (Reg.DOM_CTL_TARGET domain.val).lsb (Reg.DOM_CTL_TARGET domain.val).w target.toNat) (Reg.DOM_CTL_GO domain.val).lsb (Reg.DOM_CTL_GO domain.val).w 1) = true →
      domKind domain.val = some k →
      target = 0 →
      s.dev.on (Reg.DOM_STS_DRAINING domain.val) = true →
      (s.dev.domSt domain.val).drained = false →
      s.dev.drainDone domain.val = false →
      s.goes (.domGo who domain target fires swap) (((Dev.domCtlWritten domain.val ((if ((s.dev.written who (Reg.DOM_CTL domain.val) (withField (withField (s.dev.word (Reg.DOM_CTL domain.val)) (Reg.DOM_CTL_TARGET domain.val).lsb (Reg.DOM_CTL_TARGET domain.val).w target.toNat) (Reg.DOM_CTL_GO domain.val).lsb (Reg.DOM_CTL_GO domain.val).w 1)).sourcesHit domain.val fires.toNat).testBit 0 then (s.dev.written who (Reg.DOM_CTL domain.val) (withField (withField (s.dev.word (Reg.DOM_CTL domain.val)) (Reg.DOM_CTL_TARGET domain.val).lsb (Reg.DOM_CTL_TARGET domain.val).w target.toNat) (Reg.DOM_CTL_GO domain.val).lsb (Reg.DOM_CTL_GO domain.val).w 1)).setDom domain.val { s.dev.domSt domain.val with timer := false } else (s.dev.written who (Reg.DOM_CTL domain.val) (withField (withField (s.dev.word (Reg.DOM_CTL domain.val)) (Reg.DOM_CTL_TARGET domain.val).lsb (Reg.DOM_CTL_TARGET domain.val).w target.toNat) (Reg.DOM_CTL_GO domain.val).lsb (Reg.DOM_CTL_GO domain.val).w 1))).domRefuse domain.val 4)).touch (aliasIndex (Reg.DOM_CTL domain.val))).reply .ok)) ∧
  -- R406: and comes too late once it is: LATE.
  (∀ (s : State) (who : Who) (domain : Fin 256) (target fires : BitVec 2) (swap : Bool) (k : DomKind),
      s.ready = true →
      s.dev.takesWrite who (Reg.DOM_CTL domain.val) (withField (withField (s.dev.word (Reg.DOM_CTL domain.val)) (Reg.DOM_CTL_TARGET domain.val).lsb (Reg.DOM_CTL_TARGET domain.val).w target.toNat) (Reg.DOM_CTL_GO domain.val).lsb (Reg.DOM_CTL_GO domain.val).w 1) = true →
      domKind domain.val = some k →
      target = 0 →
      s.dev.on (Reg.DOM_STS_DRAINING domain.val) = true →
      (s.dev.domSt domain.val).drained = true →
      s.goes (.domGo who domain target fires swap) (((Dev.domCtlWritten domain.val ((if ((s.dev.written who (Reg.DOM_CTL domain.val) (withField (withField (s.dev.word (Reg.DOM_CTL domain.val)) (Reg.DOM_CTL_TARGET domain.val).lsb (Reg.DOM_CTL_TARGET domain.val).w target.toNat) (Reg.DOM_CTL_GO domain.val).lsb (Reg.DOM_CTL_GO domain.val).w 1)).sourcesHit domain.val fires.toNat).testBit 0 then (s.dev.written who (Reg.DOM_CTL domain.val) (withField (withField (s.dev.word (Reg.DOM_CTL domain.val)) (Reg.DOM_CTL_TARGET domain.val).lsb (Reg.DOM_CTL_TARGET domain.val).w target.toNat) (Reg.DOM_CTL_GO domain.val).lsb (Reg.DOM_CTL_GO domain.val).w 1)).setDom domain.val { s.dev.domSt domain.val with timer := false } else (s.dev.written who (Reg.DOM_CTL domain.val) (withField (withField (s.dev.word (Reg.DOM_CTL domain.val)) (Reg.DOM_CTL_TARGET domain.val).lsb (Reg.DOM_CTL_TARGET domain.val).w target.toNat) (Reg.DOM_CTL_GO domain.val).lsb (Reg.DOM_CTL_GO domain.val).w 1))).setDom domain.val { (if ((s.dev.written who (Reg.DOM_CTL domain.val) (withField (withField (s.dev.word (Reg.DOM_CTL domain.val)) (Reg.DOM_CTL_TARGET domain.val).lsb (Reg.DOM_CTL_TARGET domain.val).w target.toNat) (Reg.DOM_CTL_GO domain.val).lsb (Reg.DOM_CTL_GO domain.val).w 1)).sourcesHit domain.val fires.toNat).testBit 0 then (s.dev.written who (Reg.DOM_CTL domain.val) (withField (withField (s.dev.word (Reg.DOM_CTL domain.val)) (Reg.DOM_CTL_TARGET domain.val).lsb (Reg.DOM_CTL_TARGET domain.val).w target.toNat) (Reg.DOM_CTL_GO domain.val).lsb (Reg.DOM_CTL_GO domain.val).w 1)).setDom domain.val { s.dev.domSt domain.val with timer := false } else (s.dev.written who (Reg.DOM_CTL domain.val) (withField (withField (s.dev.word (Reg.DOM_CTL domain.val)) (Reg.DOM_CTL_TARGET domain.val).lsb (Reg.DOM_CTL_TARGET domain.val).w target.toNat) (Reg.DOM_CTL_GO domain.val).lsb (Reg.DOM_CTL_GO domain.val).w 1))).domSt domain.val with late := true })).touch (aliasIndex (Reg.DOM_CTL domain.val))).reply .ok)) ∧
  -- R404: BUSY while the domain moves, and where its precondition does not hold.
  (∀ (s : State) (who : Who) (domain : Fin 256) (target fires : BitVec 2) (swap : Bool) (k : DomKind),
      s.ready = true →
      s.dev.takesWrite who (Reg.DOM_CTL domain.val) (withField (withField (s.dev.word (Reg.DOM_CTL domain.val)) (Reg.DOM_CTL_TARGET domain.val).lsb (Reg.DOM_CTL_TARGET domain.val).w target.toNat) (Reg.DOM_CTL_GO domain.val).lsb (Reg.DOM_CTL_GO domain.val).w 1) = true →
      domKind domain.val = some k →
      target ≠ 0 →
      (target.toNat = s.dev.domState domain.val ∧ s.dev.domMoving domain.val = true) ∨ (target.toNat ≠ s.dev.domState domain.val ∧ (s.dev.domMoving domain.val = true ∨ s.dev.domReady k = false)) →
      s.does (.domGo who domain target fires swap) (fun d => d.answer.code = .busy ∧ (∀ m : Fin 256, { d.domSt m.val with timer := true } = { s.dev.domSt m.val with timer := true }) ∧ s.dev.regsBut [] d)) ∧
  -- R418: a SWAP of the region accepted in the same cycle wins.
  (∀ (s : State) (who : Who) (domain : Fin 256) (target fires : BitVec 2) (swap : Bool) (k : DomKind),
      s.ready = true →
      s.dev.takesWrite who (Reg.DOM_CTL domain.val) (withField (withField (s.dev.word (Reg.DOM_CTL domain.val)) (Reg.DOM_CTL_TARGET domain.val).lsb (Reg.DOM_CTL_TARGET domain.val).w target.toNat) (Reg.DOM_CTL_GO domain.val).lsb (Reg.DOM_CTL_GO domain.val).w 1) = true →
      domKind domain.val = some k →
      target ≠ 0 →
      swap = true →
      (if ((s.dev.written who (Reg.DOM_CTL domain.val) (withField (withField (s.dev.word (Reg.DOM_CTL domain.val)) (Reg.DOM_CTL_TARGET domain.val).lsb (Reg.DOM_CTL_TARGET domain.val).w target.toNat) (Reg.DOM_CTL_GO domain.val).lsb (Reg.DOM_CTL_GO domain.val).w 1)).sourcesHit domain.val fires.toNat).testBit 0 then (s.dev.written who (Reg.DOM_CTL domain.val) (withField (withField (s.dev.word (Reg.DOM_CTL domain.val)) (Reg.DOM_CTL_TARGET domain.val).lsb (Reg.DOM_CTL_TARGET domain.val).w target.toNat) (Reg.DOM_CTL_GO domain.val).lsb (Reg.DOM_CTL_GO domain.val).w 1)).setDom domain.val { s.dev.domSt domain.val with timer := false } else (s.dev.written who (Reg.DOM_CTL domain.val) (withField (withField (s.dev.word (Reg.DOM_CTL domain.val)) (Reg.DOM_CTL_TARGET domain.val).lsb (Reg.DOM_CTL_TARGET domain.val).w target.toNat) (Reg.DOM_CTL_GO domain.val).lsb (Reg.DOM_CTL_GO domain.val).w 1))).swapWins k = true →
      s.does (.domGo who domain target fires swap) (fun d => d.answer.code = .busy ∧ (∀ m : Fin 256, { d.domSt m.val with timer := true } = { s.dev.domSt m.val with timer := true }) ∧ s.dev.regsBut [] d)) ∧
  -- R401, R404: a number with no domain is NO_TARGET, a state that the kind does not accept DENIED.
  (∀ (s : State) (who : Who) (domain : Fin 256) (target fires : BitVec 2) (swap : Bool) (c : Code),
      s.ready = true →
      s.dev.domPre domain.val target.toNat = some c →
      s.goes (.domGo who domain target fires swap) (s.dev.reply c)) ∧
  -- R405: the drain completes.
  (∀ (s : State) (domain : Fin 256),
      s.ready = true →
      s.dev.on (Reg.DOM_STS_DRAINING domain.val) = true →
      (s.dev.domSt domain.val).drained = false →
      s.dev.drainDone domain.val = true →
      s.goes (.drainComplete domain) ((s.dev.setDom domain.val { s.dev.domSt domain.val with drained := true }).domGate domain.val (s.dev.domSt domain.val).target)) ∧
  -- R405: the state is reached.
  (∀ (s : State) (domain : Fin 256),
      s.ready = true →
      s.dev.on (Reg.DOM_STS_DRAINING domain.val) = true →
      (s.dev.domSt domain.val).drained = true →
      (s.dev.domSt domain.val).late = false →
      s.dev.on (Reg.DOM_STS_WAKE_PENDING domain.val) = false →
      (∀ i, domNi domain.val = some i → (s.dev.niSt i).guarded = []) →
      s.does (.domainStateReached domain) (fun d => d = ((((s.dev.setDomState domain.val (s.dev.domSt domain.val).target).clear (Reg.DOM_STS_DRAINING domain.val)).domOutcome domain.val 0).barrierDone 4 domain.val .ok).setDom domain.val
        { s.dev.domSt domain.val with drained := false, late := false } ∧ d.domState domain.val = (s.dev.domSt domain.val).target % 4 ∧ d.on (Reg.DOM_STS_DRAINING domain.val) = false ∧ d.on Reg.PWR_EVT_DOMAIN_DONE = true)) ∧
  -- R406, R407: with a late cancel or a pending wake the return starts at once.
  (∀ (s : State) (domain : Fin 256),
      s.ready = true →
      s.dev.on (Reg.DOM_STS_DRAINING domain.val) = true →
      (s.dev.domSt domain.val).drained = true →
      (s.dev.domSt domain.val).late = true ∨ s.dev.on (Reg.DOM_STS_WAKE_PENDING domain.val) = true →
      s.goes (.domainStateReached domain) (((((s.dev.setDomState domain.val (s.dev.domSt domain.val).target).clear (Reg.DOM_STS_DRAINING domain.val)).domOutcome domain.val 0).barrierDone 4 domain.val .ok (s.dev.domSt domain.val).late).setDom domain.val
        { s.dev.domSt domain.val with drained := false, late := false } |>.domWakeStart domain.val)) ∧
  -- R406: the drain times out.
  (∀ (s : State) (domain : Fin 256),
      s.ready = true →
      s.dev.on (Reg.DOM_STS_DRAINING domain.val) = true →
      (s.dev.domSt domain.val).drained = false →
      s.dev.drainDone domain.val = false →
      s.goes (.drainTimeout domain) (s.dev.domRefuse domain.val 1)) ∧
  -- R406: what a refused power-down records.
  (∀ (d : Dev) (m : Fin 256) (code : Fin 5),
      (d.domRefuse m.val code.val).on (Reg.DOM_STS_DRAINING m.val) = false ∧ (d.domRefuse m.val code.val).get (Reg.DOM_STS_OUTCOME m.val) = code.val ∧
        (d.domRefuse m.val code.val).get Reg.PWR_LAST_OUTCOME = code.val ∧ (d.domRefuse m.val code.val).get Reg.PWR_LAST_DOMAIN = m.val ∧
        (code.val = 1 → (d.domRefuse m.val code.val).on Reg.PWR_EVT_DRAIN_TIMEOUT = true) ∧ (code.val = 3 → (d.domRefuse m.val code.val).on Reg.PWR_EVT_ACCESS_CANCEL = true)) ∧
  -- R407: the return to D0.
  (∀ (s : State) (domain : Fin 256),
      s.ready = true →
      s.dev.domState domain.val ≠ 0 →
      s.dev.domMoving domain.val = false →
      domKind domain.val ≠ some .pq →
      s.goes (.domainWake domain) (s.dev.domWakeStart domain.val)) ∧
  -- R407: it ends: the guard opens.
  (∀ (s : State) (domain : Fin 256),
      s.ready = true →
      s.dev.on (Reg.DOM_STS_WAKING domain.val) = true →
      (match domKind domain.val with
        | some (.dram _) => false | some .quad => decide (s.dev.domState domain.val ≤ 1) | some (.port _) => decide (s.dev.domState domain.val ≤ 1)
        | some (.region n) => !s.dev.on (Reg.BM_STS_FILL_BUSY n) && (s.dev.domState domain.val != 3 || !s.dev.hasImage n) | _ => true) = true →
      s.goes (.domainWakeDone domain) (((((s.dev.setDomState domain.val 0).clear (Reg.DOM_STS_WAKING domain.val)).domOpen domain.val).domOutcome domain.val 0).barrierDone 4 domain.val .ok)) ∧
  -- R403: a channel leaves self-refresh.
  (∀ (s : State) (domain : Fin 256) (k : Nat),
      s.ready = true →
      s.dev.on (Reg.DOM_STS_WAKING domain.val) = true →
      domKind domain.val = some (.dram k) →
      s.goes (.domainWakeDone domain) ((((((s.dev.setDomState domain.val 0).clear (Reg.DOM_STS_WAKING domain.val)).clear (Dev.chF Reg.CH_STS_SELF_REFRESH k)).domOpen domain.val).domOutcome domain.val 0).barrierDone 4 domain.val .ok)) ∧
  -- R403: a port from D2 or D3 trains again.
  (∀ (s : State) (domain : Fin 256) (p : Nat),
      s.ready = true →
      s.dev.on (Reg.DOM_STS_WAKING domain.val) = true →
      s.dev.domState domain.val = 2 ∨ s.dev.domState domain.val = 3 →
      domKind domain.val = some (.port p) →
      s.goes (.domainWakeDone domain) (((((Dev.portTrainingStart (Fin.ofNat 2 p) ((s.dev.setDomState domain.val 0).clear (Reg.DOM_STS_WAKING domain.val))).domOpen domain.val).domOutcome domain.val 0).barrierDone 4 domain.val .ok))) ∧
  -- R403, R407: a region from D3 has its storage initialized again.
  (∀ (s : State) (n : Region),
      s.ready = true →
      s.dev.on (Reg.DOM_STS_WAKING (128 + n.val)) = true →
      s.dev.domState (128 + n.val) = 3 →
      s.dev.hasImage n.val = true →
      s.dev.on (Reg.BM_STS_FILL_BUSY n.val) = false →
      s.goes (.domainWakeDone ⟨128 + n.val, by omega⟩) ((((((s.dev.regionReinit n.val).setDomState (128 + n.val) 0).clear (Reg.DOM_STS_WAKING (128 + n.val))).domOpen (128 + n.val)).domOutcome (128 + n.val) 0).barrierDone 4 (128 + n.val) .ok)) ∧
  -- R403, R407: the enabled lanes of a quad from D2 or D3 pass PLL_WAIT.
  (∀ (s : State) (domain : Fin 256),
      s.ready = true →
      s.dev.on (Reg.DOM_STS_WAKING domain.val) = true →
      s.dev.domState domain.val = 2 ∨ s.dev.domState domain.val = 3 →
      domKind domain.val = some .quad →
      s.goes (.domainWakeDone domain) ((((((s.dev.setDomState domain.val 0).clear (Reg.DOM_STS_WAKING domain.val)).quadWake domain.val).domOpen domain.val).domOutcome domain.val 0).barrierDone 4 domain.val .ok)) ∧
  -- R409: an armed TIMER fires, once for each write of WAKE_AT, when the device time has reached WAKE_AT.
  (∀ (s : State) (domain : Fin 256) (k : DomKind),
      s.ready = true →
      domKind domain.val = some k →
      k.sources ≠ 0 →
      s.dev.sourceReady domain.val 0 = true →
      (s.dev.ctl (Reg.DOM_CTL_WAKE_EN domain.val)).testBit 0 = true →
      s.goes (.wakeTimer domain) ((s.dev.setDom domain.val { s.dev.domSt domain.val with timer := false }).wakeFire domain.val)) ∧
  -- R409: a signal on a lane of a quad in D1 or D2.
  (∀ (s : State) (domain : Fin 256),
      s.ready = true →
      domKind domain.val = some .quad →
      s.dev.domState domain.val = 1 ∨ s.dev.domState domain.val = 2 →
      (lanesOf (domain.val - 48)).any (fun l => s.dev.on l.EN) = true →
      (s.dev.ctl (Reg.DOM_CTL_WAKE_EN domain.val)).testBit 1 = true →
      s.goes (.wakeSignal domain) (s.dev.wakeFire domain.val)) ∧
  -- R409: a frame at a port in D1, and a signal or a frame during the drain.
  (∀ (s : State) (domain : Fin 256) (p : Nat),
      s.ready = true →
      domKind domain.val = some (.port p) ∨ (domKind domain.val = some .quad ∧ s.dev.sourceReady domain.val 1 = true) →
      s.dev.domState domain.val = 1 ∨ s.dev.on (Reg.DOM_STS_DRAINING domain.val) = true →
      (s.dev.ctl (Reg.DOM_CTL_WAKE_EN domain.val)).testBit 1 = true →
      s.goes (.wakeSignal domain) (s.dev.wakeFire domain.val)) ∧
  -- R409: a source that fires is held pending during a drain, and acts from a lower state.
  (∀ (d : Dev) (m : Fin 256),
      (d.on (Reg.DOM_STS_DRAINING m.val) = true → d.wakeFire m.val = d.raise (Reg.DOM_STS_WAKE_PENDING m.val)) ∧
        (d.domMoving m.val = false → d.domState m.val ≠ 0 → d.wakeFire m.val = d.domWakeStart m.val) ∧
        (d.domMoving m.val = false → d.domState m.val = 0 → d.wakeFire m.val = d))

/-- A level change upward requests the voltage first, one downward changes the divisor first; the divisor changes at
a schedule-cycle boundary; AVSBus carries one request at a time, VCCNOC before VCCINT; an acknowledged request
with VDone goes on with the change or ends it, and brings a waiting tier into force; AVS_FAULT ends it; VCCINT
moves by at most 10 mV an update; lowering VTIER acts at once; the governor caps, raises or lowers the level. -/
def Obligations.PowerLevels : Prop :=
  -- R413: upward, the voltage is requested first.
  (∀ (s : State) (who : Who) (level : BitVec 3),
      s.ready = true →
      s.dev.takesField who Reg.PWR_CTL_LEVEL_REQ level.toNat = true →
      s.dev.on Reg.PWR_STS_LEVEL_BUSY = false →
      s.dev.safe Reg.PWR_CTL = false →
      s.dev.get Reg.PWR_CTL_VTIER = s.dev.get Reg.PWR_VINT_VTIER_CUR →
      s.dev.get Reg.PWR_STS_LEVEL < level.toNat →
      s.goes (.levelReq who level) ((({ (s.dev.writtenField who Reg.PWR_CTL_LEVEL_REQ level.toNat).raise Reg.PWR_STS_LEVEL_BUSY with pwr := { s.dev.pwr with change := some level.toNat, nocMv := some (600 + 50 * level.toNat) } }).touch (aliasIndex Reg.PWR_CTL)).reply .ok)) ∧
  -- R413: downward, the divisor changes first.
  (∀ (s : State) (who : Who) (level : BitVec 3),
      s.ready = true →
      s.dev.takesField who Reg.PWR_CTL_LEVEL_REQ level.toNat = true →
      s.dev.on Reg.PWR_STS_LEVEL_BUSY = false →
      s.dev.safe Reg.PWR_CTL = false →
      s.dev.get Reg.PWR_CTL_VTIER = s.dev.get Reg.PWR_VINT_VTIER_CUR →
      level.toNat < s.dev.get Reg.PWR_STS_LEVEL →
      s.goes (.levelReq who level) ((({ (s.dev.writtenField who Reg.PWR_CTL_LEVEL_REQ level.toNat).raise Reg.PWR_STS_LEVEL_BUSY with pwr := { s.dev.pwr with change := some level.toNat, divDue := true } }).touch (aliasIndex Reg.PWR_CTL)).reply .ok)) ∧
  -- R413: to the level in force nothing changes.
  (∀ (s : State) (who : Who) (level : BitVec 3),
      s.ready = true →
      s.dev.takesField who Reg.PWR_CTL_LEVEL_REQ level.toNat = true →
      s.dev.on Reg.PWR_STS_LEVEL_BUSY = false →
      s.dev.safe Reg.PWR_CTL = false →
      s.dev.get Reg.PWR_CTL_VTIER = s.dev.get Reg.PWR_VINT_VTIER_CUR →
      level.toNat = s.dev.get Reg.PWR_STS_LEVEL →
      s.goes (.levelReq who level) ((((s.dev.writtenField who Reg.PWR_CTL_LEVEL_REQ level.toNat)).touch (aliasIndex Reg.PWR_CTL)).reply .ok)) ∧
  -- R413: BUSY while a change runs.
  (∀ (s : State) (who : Who) (level : BitVec 3),
      s.ready = true →
      s.dev.csrRefusal who Reg.PWR_CTL (withField (s.dev.word Reg.PWR_CTL) 2 3 level.toNat) = none →
      s.dev.on Reg.PWR_STS_LEVEL_BUSY = true →
      level.toNat ≠ s.dev.get Reg.PWR_CTL_LEVEL_REQ →
      s.goes (.levelReq who level) (s.dev.reply .busy)) ∧
  -- R412, R190: the divisor changes at the schedule-cycle boundary; a change upward is over with it.
  (∀ (s : State) (l : Nat),
      s.live = true →
      s.dev.pwr.change = some l →
      s.dev.pwr.divDue = true →
      l ≤ 5 →
      s.dev.noc.phase = 0 →
      s.dev.get Reg.NOC_STS_SLOT = 0 →
      s.dev.on Reg.CLK_STS_ROOT_LOCK = true →
      s.runs .levelSwitch Dev.levelSwitch (fun d => d.get Reg.CLK_STS_NOC_DIV = [16, 12, 8, 6, 5, 4].getD l 0 ∧ d.get Reg.PWR_STS_LEVEL = l ∧ d.get Reg.NOC_STS_SLOT = 0 ∧ d.noc.phase = 0 ∧ d.on Reg.CLK_EVT_LEVEL_SWITCH = true ∧
        (s.dev.get Reg.PWR_STS_LEVEL < l → d.pwr.change = none ∧ d.on Reg.PWR_STS_LEVEL_BUSY = false ∧ d.on Reg.PWR_EVT_LEVEL_DONE = true) ∧
        (l ≤ s.dev.get Reg.PWR_STS_LEVEL → d.pwr.nocMv = some (600 + 50 * l) ∧ d.pwr.change = some l))) ∧
  -- R414: VCCNOC is requested before VCCINT, one at a time.
  (∀ (s : State) (good : Bool) (mv : Nat),
      s.ready = true →
      s.dev.pwr.avs = none →
      s.dev.pwr.nocMv = some mv →
      s.goes (.avsWrite good) { s.dev.raise Reg.PWR_STS_AVS_BUSY with pwr := { s.dev.pwr with nocMv := none, avs := some ⟨0, s.dev.ctl Reg.PWR_AVS_RAIL_NOC, mv, good, none⟩ } }) ∧
  -- R414: then VCCINT.
  (∀ (s : State) (good : Bool) (mv : Nat) (t : Option Nat),
      s.ready = true →
      s.dev.pwr.avs = none →
      s.dev.pwr.nocMv = none →
      s.dev.pwr.intMv = some (mv, t) →
      s.goes (.avsWrite good) { s.dev.raise Reg.PWR_STS_AVS_BUSY with pwr := { s.dev.pwr with intMv := none, avs := some ⟨1, s.dev.ctl Reg.PWR_AVS_RAIL_INT, mv, good, t⟩ } }) ∧
  -- R413, R414: VDone with an acknowledged VCCNOC request: upward the divisor follows, downward the change is
  -- over.
  (∀ (s : State) (a : AvsReq),
      s.live = true →
      s.dev.pwr.avs = some a →
      a.good = true →
      a.rail = 0 →
      a.mv < 1024 →
      s.runs (.avsStatusRead true) (Dev.avsStatusRead true) (fun d => d.get Reg.PWR_STS_VNOC_MV = a.mv ∧ d.on Reg.PWR_STS_AVS_BUSY = false ∧ d.on Reg.PWR_STS_VOLT_UNCONFIRMED = false ∧ d.pwr.avs = none ∧
        (∀ l, s.dev.pwr.change = some l → s.dev.get Reg.PWR_STS_LEVEL < l → d.pwr.divDue = true ∧ d.pwr.change = some l) ∧
        (∀ l, s.dev.pwr.change = some l → l ≤ s.dev.get Reg.PWR_STS_LEVEL → d.pwr.change = none ∧ d.on Reg.PWR_STS_LEVEL_BUSY = false ∧ d.on Reg.PWR_EVT_LEVEL_DONE = true))) ∧
  -- R414, R416: of a VCCINT request: a tier that waited for it is in force.
  (∀ (s : State) (a : AvsReq),
      s.live = true →
      s.dev.pwr.avs = some a →
      a.good = true →
      a.rail ≠ 0 →
      a.mv < 1024 →
      s.runs (.avsStatusRead true) (Dev.avsStatusRead true) (fun d => d.get Reg.PWR_VINT_VINT_MV = a.mv ∧ d.on Reg.PWR_STS_AVS_BUSY = false ∧ d.pwr = { s.dev.pwr with avs := none } ∧
        (∀ t, a.tier = some t → s.dev.get Reg.PWR_CTL_VTIER = t → d.get Reg.PWR_VINT_VTIER_CUR = t) ∧
        (a.tier = none → d.get Reg.PWR_VINT_VTIER_CUR = s.dev.get Reg.PWR_VINT_VTIER_CUR))) ∧
  -- R414: without VDone the request goes on.
  (∀ (s : State),
      s.ready = true →
      s.goes (.avsStatusRead false) s.dev) ∧
  -- R415: AVS_FAULT ends the change where it stands.
  (∀ (s : State) (a : AvsReq),
      s.live = true →
      s.dev.pwr.avs = some a →
      s.runs .avsFault Dev.avsFault (fun d => d.on Reg.PWR_EVT_AVS_FAULT = true ∧ d.on Reg.PWR_STS_AVS_BUSY = false ∧ d.get Reg.PWR_STS_AVS_LAST_RAIL = a.rail % 2 ∧ d.pwr.avs = none ∧ d.get Reg.PWR_STS_LEVEL = s.dev.get Reg.PWR_STS_LEVEL ∧
        (∀ l, a.rail = 0 → s.dev.pwr.change = some l → d.pwr.change = none ∧ d.on Reg.PWR_STS_LEVEL_BUSY = false ∧ (s.dev.get Reg.PWR_STS_LEVEL = l → d.on Reg.PWR_STS_VOLT_UNCONFIRMED = true)))) ∧
  -- R416: VCCINT moves by at most 10 mV towards its target.
  (∀ (s : State) (margin : Nat),
      s.ready = true →
      s.dev.ctlOn Reg.PWR_CTL_PIN_VINT = false →
      s.dev.safe Reg.PWR_CTL = false →
      s.dev.pwr.intMv = none →
      s.dev.pwr.avs.any (fun a => a.rail == 1) = false →
      s.goes (.vintUpdate margin) (let cur := s.dev.get Reg.PWR_VINT_VINT_MV
        let target := min (720 + 40 * s.dev.get Reg.PWR_VINT_VTIER_CUR + margin) 880
        if cur = target then s.dev else { s.dev with pwr := { s.dev.pwr with intMv := some (if cur < target then min (cur + 10) target else max (cur - 10) target, none) } })) ∧
  -- R416: VTIER lowered acts at once.
  (∀ (s : State) (who : Who) (tier : BitVec 2),
      s.ready = true →
      s.dev.takesField who Reg.PWR_CTL_VTIER tier.toNat = true →
      s.dev.safe Reg.PWR_CTL = false →
      s.dev.get Reg.PWR_CTL_LEVEL_REQ = s.dev.get Reg.PWR_STS_LEVEL →
      tier.toNat ≠ s.dev.get Reg.PWR_CTL_VTIER →
      tier.toNat ≤ s.dev.get Reg.PWR_VINT_VTIER_CUR →
      s.does (.vtierWrite who tier) (fun d => d.answer.code = .ok ∧ d.get Reg.PWR_CTL_VTIER = tier.toNat ∧ d.get Reg.PWR_VINT_VTIER_CUR = tier.toNat ∧ s.dev.regsBut [Reg.PWR_CTL, Reg.PWR_VINT] d)) ∧
  -- R416: raised, once its floor has been acknowledged.
  (∀ (s : State) (who : Who) (tier : BitVec 2),
      s.ready = true →
      s.dev.takesField who Reg.PWR_CTL_VTIER tier.toNat = true →
      s.dev.safe Reg.PWR_CTL = false →
      s.dev.get Reg.PWR_CTL_LEVEL_REQ = s.dev.get Reg.PWR_STS_LEVEL →
      tier.toNat ≠ s.dev.get Reg.PWR_CTL_VTIER →
      s.dev.get Reg.PWR_VINT_VTIER_CUR < tier.toNat →
      s.dev.on Reg.PWR_CTL_PIN_VINT = false →
      s.does (.vtierWrite who tier) (fun d => d.answer.code = .ok ∧ d.get Reg.PWR_CTL_VTIER = tier.toNat ∧ d.get Reg.PWR_VINT_VTIER_CUR = s.dev.get Reg.PWR_VINT_VTIER_CUR ∧
        d.pwr = { s.dev.pwr with intMv := some (720 + 40 * tier.toNat, some tier.toNat) } ∧ s.dev.regsBut [Reg.PWR_CTL] d)) ∧
  -- R417: without firmware, without GOV_ENABLE, or with PIN_LEVEL, the governor decides nothing.
  (∀ (s : State) (u : Nat) (full : Bool),
      s.ready = true →
      s.dev.fwUp = false ∨ s.dev.gov 1 1 = 0 ∨ s.dev.ctlOn Reg.PWR_CTL_PIN_LEVEL = true →
      s.goes (.governorDecision u full) s.dev) ∧
  -- R417: hot, it caps the level; loaded, it raises it by one; long idle, it lowers it by one.
  (∀ (s : State) (u : Nat) (full : Bool),
      s.live = true →
      s.dev.fwUp = true →
      s.dev.gov 1 1 ≠ 0 →
      s.dev.ctlOn Reg.PWR_CTL_PIN_LEVEL = false →
      s.runs (.governorDecision u full) (Dev.governorDecision u full) (fun d => let d1 := ({ s.dev with pwr := { s.dev.pwr with low := if u < s.dev.gov 4 30 then s.dev.pwr.low + 1 else 0 } } : Dev)
        let cur := s.dev.get Reg.PWR_STS_LEVEL
        let hot := s.dev.on (Reg.DR_TEMP_EVT_HOT95 0) || s.dev.on (Reg.DR_TEMP_EVT_HOT95 1) || (s.dev.on Reg.PWR_TEMP_VALID && decide ((BitVec.ofNat 32 (s.dev.gov 8 100)).toInt ≤ (BitVec.ofNat 8 (s.dev.get Reg.PWR_TEMP_TJ)).toInt))
        (hot = true → d = d1.govLevel (min cur (s.dev.gov 9 3))) ∧
        (hot = false → s.dev.gov 3 75 ≤ u ∨ full = true → d = if cur < s.dev.gov 7 5 then d1.govLevel (cur + 1) else d1) ∧
        (hot = false → u < s.dev.gov 3 75 → full = false → d = if s.dev.gov 5 16 ≤ d1.pwr.low then
          (let d2 := ({ d1 with pwr := { d1.pwr with low := 0 } } : Dev); if s.dev.gov 6 0 < cur then d2.govLevel (cur - 1) else d2) else d1)))

/-- Each of the fourteen register operations, the seven with an immediate and LUI sets Gd to the value of R426, a
divisor of 0 giving 0xFFFF_FFFF, and goes on at the next word, nothing else changing; G0 reads 0 and discards
writes. -/
def Obligations.MpArithmetic : Prop :=
  -- R426: ADD.
  (∀ (s : State) (rd ra rb : Fin 16),
      s.ready = true →
      s.dev.mpGo = true →
      s.goes (.addInsn rd ra rb) ((s.dev.setG rd ((s.dev.mpG ra) + (s.dev.mpG rb))).mpAt (s.dev.mp.pc + 4))) ∧
  -- R426: SUB.
  (∀ (s : State) (rd ra rb : Fin 16),
      s.ready = true →
      s.dev.mpGo = true →
      s.goes (.sub rd ra rb) ((s.dev.setG rd ((s.dev.mpG ra) - (s.dev.mpG rb))).mpAt (s.dev.mp.pc + 4))) ∧
  -- R426: AND.
  (∀ (s : State) (rd ra rb : Fin 16),
      s.ready = true →
      s.dev.mpGo = true →
      s.goes (.and rd ra rb) ((s.dev.setG rd ((s.dev.mpG ra) &&& (s.dev.mpG rb))).mpAt (s.dev.mp.pc + 4))) ∧
  -- R426: OR.
  (∀ (s : State) (rd ra rb : Fin 16),
      s.ready = true →
      s.dev.mpGo = true →
      s.goes (.or rd ra rb) ((s.dev.setG rd ((s.dev.mpG ra) ||| (s.dev.mpG rb))).mpAt (s.dev.mp.pc + 4))) ∧
  -- R426: XOR.
  (∀ (s : State) (rd ra rb : Fin 16),
      s.ready = true →
      s.dev.mpGo = true →
      s.goes (.xor rd ra rb) ((s.dev.setG rd ((s.dev.mpG ra) ^^^ (s.dev.mpG rb))).mpAt (s.dev.mp.pc + 4))) ∧
  -- R426: SLL.
  (∀ (s : State) (rd ra rb : Fin 16),
      s.ready = true →
      s.dev.mpGo = true →
      s.goes (.sll rd ra rb) ((s.dev.setG rd ((s.dev.mpG ra) <<< ((s.dev.mpG rb).toNat % 32))).mpAt (s.dev.mp.pc + 4))) ∧
  -- R426: SRL.
  (∀ (s : State) (rd ra rb : Fin 16),
      s.ready = true →
      s.dev.mpGo = true →
      s.goes (.srl rd ra rb) ((s.dev.setG rd ((s.dev.mpG ra) >>> ((s.dev.mpG rb).toNat % 32))).mpAt (s.dev.mp.pc + 4))) ∧
  -- R426: SRA.
  (∀ (s : State) (rd ra rb : Fin 16),
      s.ready = true →
      s.dev.mpGo = true →
      s.goes (.sra rd ra rb) ((s.dev.setG rd ((s.dev.mpG ra).sshiftRight ((s.dev.mpG rb).toNat % 32))).mpAt (s.dev.mp.pc + 4))) ∧
  -- R426: SLT.
  (∀ (s : State) (rd ra rb : Fin 16),
      s.ready = true →
      s.dev.mpGo = true →
      s.goes (.slt rd ra rb) ((s.dev.setG rd (if (s.dev.mpG ra).toInt < (s.dev.mpG rb).toInt then 1 else 0)).mpAt (s.dev.mp.pc + 4))) ∧
  -- R426: SLTU.
  (∀ (s : State) (rd ra rb : Fin 16),
      s.ready = true →
      s.dev.mpGo = true →
      s.goes (.sltu rd ra rb) ((s.dev.setG rd (if (s.dev.mpG ra).toNat < (s.dev.mpG rb).toNat then 1 else 0)).mpAt (s.dev.mp.pc + 4))) ∧
  -- R426: MUL.
  (∀ (s : State) (rd ra rb : Fin 16),
      s.ready = true →
      s.dev.mpGo = true →
      s.goes (.mul rd ra rb) ((s.dev.setG rd ((s.dev.mpG ra) * (s.dev.mpG rb))).mpAt (s.dev.mp.pc + 4))) ∧
  -- R426: MULH.
  (∀ (s : State) (rd ra rb : Fin 16),
      s.ready = true →
      s.dev.mpGo = true →
      s.goes (.mulh rd ra rb) ((s.dev.setG rd (BitVec.ofInt 32 ((s.dev.mpG ra).toInt * (s.dev.mpG rb).toInt / 2 ^ 32))).mpAt (s.dev.mp.pc + 4))) ∧
  -- R426: DIV.
  (∀ (s : State) (rd ra rb : Fin 16),
      s.ready = true →
      s.dev.mpGo = true →
      s.goes (.div rd ra rb) ((s.dev.setG rd (if (s.dev.mpG rb) = 0 then 0xFFFFFFFF else BitVec.ofInt 32 ((s.dev.mpG ra).toInt.tdiv (s.dev.mpG rb).toInt))).mpAt (s.dev.mp.pc + 4))) ∧
  -- R426: DIVU.
  (∀ (s : State) (rd ra rb : Fin 16),
      s.ready = true →
      s.dev.mpGo = true →
      s.goes (.divu rd ra rb) ((s.dev.setG rd (if (s.dev.mpG rb) = 0 then 0xFFFFFFFF else BitVec.ofNat 32 ((s.dev.mpG ra).toNat / (s.dev.mpG rb).toNat))).mpAt (s.dev.mp.pc + 4))) ∧
  -- R426: ADDI.
  (∀ (s : State) (rd ra : Fin 16) (imm : BitVec 18),
      s.ready = true →
      s.dev.mpGo = true →
      s.goes (.addi rd ra imm) ((s.dev.setG rd ((s.dev.mpG ra) + imm.signExtend 32)).mpAt (s.dev.mp.pc + 4))) ∧
  -- R426: ANDI.
  (∀ (s : State) (rd ra : Fin 16) (imm : BitVec 18),
      s.ready = true →
      s.dev.mpGo = true →
      s.goes (.andi rd ra imm) ((s.dev.setG rd ((s.dev.mpG ra) &&& imm.zeroExtend 32)).mpAt (s.dev.mp.pc + 4))) ∧
  -- R426: ORI.
  (∀ (s : State) (rd ra : Fin 16) (imm : BitVec 18),
      s.ready = true →
      s.dev.mpGo = true →
      s.goes (.ori rd ra imm) ((s.dev.setG rd ((s.dev.mpG ra) ||| imm.zeroExtend 32)).mpAt (s.dev.mp.pc + 4))) ∧
  -- R426: XORI.
  (∀ (s : State) (rd ra : Fin 16) (imm : BitVec 18),
      s.ready = true →
      s.dev.mpGo = true →
      s.goes (.xori rd ra imm) ((s.dev.setG rd ((s.dev.mpG ra) ^^^ imm.zeroExtend 32)).mpAt (s.dev.mp.pc + 4))) ∧
  -- R426: SLLI.
  (∀ (s : State) (rd ra : Fin 16) (imm : BitVec 18),
      s.ready = true →
      s.dev.mpGo = true →
      s.goes (.slli rd ra imm) ((s.dev.setG rd ((s.dev.mpG ra) <<< (imm.toNat % 32))).mpAt (s.dev.mp.pc + 4))) ∧
  -- R426: SRLI.
  (∀ (s : State) (rd ra : Fin 16) (imm : BitVec 18),
      s.ready = true →
      s.dev.mpGo = true →
      s.goes (.srli rd ra imm) ((s.dev.setG rd ((s.dev.mpG ra) >>> (imm.toNat % 32))).mpAt (s.dev.mp.pc + 4))) ∧
  -- R426: SRAI.
  (∀ (s : State) (rd ra : Fin 16) (imm : BitVec 18),
      s.ready = true →
      s.dev.mpGo = true →
      s.goes (.srai rd ra imm) ((s.dev.setG rd ((s.dev.mpG ra).sshiftRight (imm.toNat % 32))).mpAt (s.dev.mp.pc + 4))) ∧
  -- R426: LUI.
  (∀ (s : State) (rd : Fin 16) (imm : BitVec 18),
      s.ready = true →
      s.dev.mpGo = true →
      s.goes (.lui rd imm) ((s.dev.setG rd (imm.zeroExtend 32 <<< 14)).mpAt (s.dev.mp.pc + 4))) ∧
  -- R424: G0 reads 0 and discards writes; a write to another register changes it alone.
  (∀ (d : Dev) (r a : Fin 16) (v : Word),
      d.mp.g.length = 16 →
      (d.setG r v).mpG a = (if a = 0 then 0 else if a = r then v else d.mpG a) ∧ (d.setG r v).mp.g.length = 16 ∧ { d.setG r v with mp := { (d.setG r v).mp with g := d.mp.g } } = d)

/-- A load from the SRAM, the boot ROM or the flash sets Gd to its bytes, little-endian, sign- or zero-extended; one
from the network stalls the core until its response; a store to the SRAM writes its bytes, one to the network is
posted; RSV reserves the granule, CMT stores only while the reservation holds and says so in Gd; SWP exchanges;
misaligned, denied, absent and poisoned accesses raise their exceptions. -/
def Obligations.MpMemory : Prop :=
  -- R426, R430: LDW from the SRAM.
  (∀ (s : State) (rd ra : Fin 16) (imm : BitVec 18) (o : Nat),
      s.ready = true →
      s.dev.mpGo = true →
      (s.dev.mpAddr ra imm).toNat % 4 = 0 →
      s.dev.mpPlace (s.dev.mpAddr ra imm) = .sram o →
      (s.dev.readBytes (.hs 0) o 4).1.any (fun b => b.2) = false →
      s.goes (.ldw rd ra imm) (((s.dev.readBytes (.hs 0) o 4).2.setG rd (BitVec.ofNat 32 (ofLe ((s.dev.readBytes (.hs 0) o 4).1.map (fun b => b.1))))).mpAt (s.dev.mp.pc + 4))) ∧
  -- R426, R430: LDH from the SRAM.
  (∀ (s : State) (rd ra : Fin 16) (imm : BitVec 18) (o : Nat),
      s.ready = true →
      s.dev.mpGo = true →
      (s.dev.mpAddr ra imm).toNat % 2 = 0 →
      s.dev.mpPlace (s.dev.mpAddr ra imm) = .sram o →
      (s.dev.readBytes (.hs 0) o 2).1.any (fun b => b.2) = false →
      s.goes (.ldh rd ra imm) (((s.dev.readBytes (.hs 0) o 2).2.setG rd ((BitVec.ofNat 16 (ofLe ((s.dev.readBytes (.hs 0) o 2).1.map (fun b => b.1)))).signExtend 32)).mpAt (s.dev.mp.pc + 4))) ∧
  -- R426, R430: LDHU from the SRAM.
  (∀ (s : State) (rd ra : Fin 16) (imm : BitVec 18) (o : Nat),
      s.ready = true →
      s.dev.mpGo = true →
      (s.dev.mpAddr ra imm).toNat % 2 = 0 →
      s.dev.mpPlace (s.dev.mpAddr ra imm) = .sram o →
      (s.dev.readBytes (.hs 0) o 2).1.any (fun b => b.2) = false →
      s.goes (.ldhu rd ra imm) (((s.dev.readBytes (.hs 0) o 2).2.setG rd ((BitVec.ofNat 16 (ofLe ((s.dev.readBytes (.hs 0) o 2).1.map (fun b => b.1)))).zeroExtend 32)).mpAt (s.dev.mp.pc + 4))) ∧
  -- R426, R430: LDB from the SRAM.
  (∀ (s : State) (rd ra : Fin 16) (imm : BitVec 18) (o : Nat),
      s.ready = true →
      s.dev.mpGo = true →
      (s.dev.mpAddr ra imm).toNat % 1 = 0 →
      s.dev.mpPlace (s.dev.mpAddr ra imm) = .sram o →
      (s.dev.readBytes (.hs 0) o 1).1.any (fun b => b.2) = false →
      s.goes (.ldb rd ra imm) (((s.dev.readBytes (.hs 0) o 1).2.setG rd ((BitVec.ofNat 8 (ofLe ((s.dev.readBytes (.hs 0) o 1).1.map (fun b => b.1)))).signExtend 32)).mpAt (s.dev.mp.pc + 4))) ∧
  -- R426, R430: LDBU from the SRAM.
  (∀ (s : State) (rd ra : Fin 16) (imm : BitVec 18) (o : Nat),
      s.ready = true →
      s.dev.mpGo = true →
      (s.dev.mpAddr ra imm).toNat % 1 = 0 →
      s.dev.mpPlace (s.dev.mpAddr ra imm) = .sram o →
      (s.dev.readBytes (.hs 0) o 1).1.any (fun b => b.2) = false →
      s.goes (.ldbu rd ra imm) (((s.dev.readBytes (.hs 0) o 1).2.setG rd ((BitVec.ofNat 8 (ofLe ((s.dev.readBytes (.hs 0) o 1).1.map (fun b => b.1)))).zeroExtend 32)).mpAt (s.dev.mp.pc + 4))) ∧
  -- R430, R431: a load from the boot ROM, from the flash, from the network, where the core waits, and from
  -- nowhere.
  (∀ (s : State) (rd ra : Fin 16) (imm : BitVec 18),
      s.ready = true →
      s.dev.mpGo = true →
      ∀ p ∈ ([(Instr.ldw, .word), (Instr.ldh, .half), (Instr.ldhu, .halfU), (Instr.ldb, .byte), (Instr.ldbu, .byteU)] : List ((Fin 16 → Fin 16 → BitVec 18 → Instr) × MpLoad)), (s.dev.mpAddr ra imm).toNat % p.2.size = 0 → 
        (∀ o, s.dev.mpPlace (s.dev.mpAddr ra imm) = .rom o → s.goes (p.1 rd ra imm) ((s.dev.setG rd (p.2.value ((List.range p.2.size).map (fun k => Config.bootRom (o + k))))).mpAt (s.dev.mp.pc + 4))) ∧
        (∀ o, s.dev.mpPlace (s.dev.mpAddr ra imm) = .flash o → s.dev.flashBusy = false → s.goes (p.1 rd ra imm) ((s.dev.setG rd (p.2.value (((s.dev.flashWord 1 o).drop (o % 4)).take p.2.size))).mpAt (s.dev.mp.pc + 4))) ∧
        (∀ a, s.dev.mpPlace (s.dev.mpAddr ra imm) = .net a → s.goes (p.1 rd ra imm) ((s.dev.setMp { s.dev.mp with stall := some (.load p.2 rd (s.dev.mpAddr ra imm)) }).niPresent 164
          { cmd := 0, addr := a, len := 1, beFirst := Dev.byteLanes a p.2.size })) ∧
        (s.dev.mpPlace (s.dev.mpAddr ra imm) = .none → s.goes (p.1 rd ra imm) (s.dev.mpExc 3 (some 2) (some (s.dev.mpAddr ra imm))))) ∧
  -- R428, R430: a misaligned load raises ALIGN, one of a poisoned byte BUS with POISON.
  (∀ (s : State) (rd ra : Fin 16) (imm : BitVec 18),
      s.ready = true →
      s.dev.mpGo = true →
      ∀ p ∈ ([(Instr.ldw, .word), (Instr.ldh, .half), (Instr.ldhu, .halfU), (Instr.ldb, .byte), (Instr.ldbu, .byteU)] : List ((Fin 16 → Fin 16 → BitVec 18 → Instr) × MpLoad)), 
        ((s.dev.mpAddr ra imm).toNat % p.2.size ≠ 0 → s.goes (p.1 rd ra imm) (s.dev.mpExc 2 none (some (s.dev.mpAddr ra imm)))) ∧
        (∀ o, (s.dev.mpAddr ra imm).toNat % p.2.size = 0 → s.dev.mpPlace (s.dev.mpAddr ra imm) = .sram o → (s.dev.readBytes (.hs 0) o p.2.size).1.any (fun b => b.2) = true →
          s.goes (p.1 rd ra imm) ((s.dev.readBytes (.hs 0) o p.2.size).2.mpExc 3 (some 5) (some (s.dev.mpAddr ra imm))))) ∧
  -- R426, R430: STW to the SRAM.
  (∀ (s : State) (rd ra : Fin 16) (imm : BitVec 18) (o : Nat),
      s.ready = true →
      s.dev.mpGo = true →
      (s.dev.mpAddr ra imm).toNat % 4 = 0 →
      s.dev.mpPlace (s.dev.mpAddr ra imm) = .sram o →
      s.goes (.stw rd ra imm) ((s.dev.sramStore o (leBytes 4 (s.dev.mpG rd).toNat)).mpAt (s.dev.mp.pc + 4))) ∧
  -- R426, R430: STH to the SRAM.
  (∀ (s : State) (rd ra : Fin 16) (imm : BitVec 18) (o : Nat),
      s.ready = true →
      s.dev.mpGo = true →
      (s.dev.mpAddr ra imm).toNat % 2 = 0 →
      s.dev.mpPlace (s.dev.mpAddr ra imm) = .sram o →
      s.goes (.sth rd ra imm) ((s.dev.sramStore o (leBytes 2 (s.dev.mpG rd).toNat)).mpAt (s.dev.mp.pc + 4))) ∧
  -- R426, R430: STB to the SRAM.
  (∀ (s : State) (rd ra : Fin 16) (imm : BitVec 18) (o : Nat),
      s.ready = true →
      s.dev.mpGo = true →
      (s.dev.mpAddr ra imm).toNat % 1 = 0 →
      s.dev.mpPlace (s.dev.mpAddr ra imm) = .sram o →
      s.goes (.stb rd ra imm) ((s.dev.sramStore o (leBytes 1 (s.dev.mpG rd).toNat)).mpAt (s.dev.mp.pc + 4))) ∧
  -- R149, R430: a store of the core writes its bytes, little-endian, at its SRAM address, and is the latest,
  -- which wins over a packet of its cycle.
  (∀ (d : Dev) (o : Nat) (bs : List Byte),
      d.sramStore o bs = (d.storeBytes (.hs 0) o bs).setMp { (d.storeBytes (.hs 0) o bs).mp with stored := some (o, bs.length) } ∧ (d.storeBytes (.hs 0) o bs).mp = d.mp) ∧
  -- R430 to R432: a store to the network is posted; one to the boot ROM or the flash raises BUS with DENIED, one
  -- to nowhere BUS with NO_TARGET, a misaligned one ALIGN.
  (∀ (s : State) (rd ra : Fin 16) (imm : BitVec 18),
      s.ready = true →
      s.dev.mpGo = true →
      ∀ p ∈ ([(Instr.stw, .word), (Instr.sth, .half), (Instr.stb, .byte)] : List ((Fin 16 → Fin 16 → BitVec 18 → Instr) × MpStore)), 
        ((s.dev.mpAddr ra imm).toNat % p.2.size ≠ 0 → s.goes (p.1 rd ra imm) (s.dev.mpExc 2 none (some (s.dev.mpAddr ra imm)))) ∧ ((s.dev.mpAddr ra imm).toNat % p.2.size = 0 →
          (∀ a, s.dev.mpPlace (s.dev.mpAddr ra imm) = .net a → s.goes (p.1 rd ra imm) ((s.dev.mpWrite a (leBytes p.2.size (s.dev.mpG rd).toNat)).mpAt (s.dev.mp.pc + 4))) ∧
          (∀ o, s.dev.mpPlace (s.dev.mpAddr ra imm) = .rom o ∨ s.dev.mpPlace (s.dev.mpAddr ra imm) = .flash o → s.goes (p.1 rd ra imm) (s.dev.mpExc 3 (some 7) (some (s.dev.mpAddr ra imm)))) ∧
          (s.dev.mpPlace (s.dev.mpAddr ra imm) = .none → s.goes (p.1 rd ra imm) (s.dev.mpExc 3 (some 2) (some (s.dev.mpAddr ra imm)))))) ∧
  -- R434: RSV.
  (∀ (s : State) (rd ra : Fin 16) (imm : BitVec 18) (o : Nat),
      s.ready = true →
      s.dev.mpGo = true →
      (s.dev.mpAddr ra imm).toNat % 4 = 0 →
      s.dev.mpPlace (s.dev.mpAddr ra imm) = .sram o →
      ((s.dev.setMp { s.dev.mp with resv := none }).readBytes (.hs 0) o 4).1.any (fun b => b.2) = false →
      s.goes (.rsv rd ra imm) (let r := (s.dev.setMp { s.dev.mp with resv := none }).readBytes (.hs 0) o 4
        let d2 := r.2.setG rd (BitVec.ofNat 32 (ofLe (r.1.map (fun b => b.1))))
        (d2.setMp { d2.mp with resv := some (o / 8) }).mpAt (s.dev.mp.pc + 4))) ∧
  -- R434: CMT with the reservation held stores and answers 0.
  (∀ (s : State) (rd ra : Fin 16) (imm : BitVec 18) (o : Nat),
      s.ready = true →
      s.dev.mpGo = true →
      (s.dev.mpAddr ra imm).toNat % 4 = 0 →
      s.dev.mpPlace (s.dev.mpAddr ra imm) = .sram o →
      s.dev.mp.resv = some (o / 8) →
      s.goes (.cmt rd ra imm) ((((s.dev.setMp { s.dev.mp with resv := none }).sramStore o (leBytes 4 (s.dev.mpG rd).toNat)).setG rd 0).mpAt (s.dev.mp.pc + 4))) ∧
  -- R434: without it, it stores nothing and answers 1.
  (∀ (s : State) (rd ra : Fin 16) (imm : BitVec 18) (o : Nat),
      s.ready = true →
      s.dev.mpGo = true →
      (s.dev.mpAddr ra imm).toNat % 4 = 0 →
      s.dev.mpPlace (s.dev.mpAddr ra imm) = .sram o →
      s.dev.mp.resv ≠ some (o / 8) →
      s.goes (.cmt rd ra imm) (((s.dev.setMp { s.dev.mp with resv := none }).setG rd 1).mpAt (s.dev.mp.pc + 4))) ∧
  -- R434: RSV and CMT of another place raise ATOMIC.
  (∀ (s : State) (rd ra : Fin 16) (imm : BitVec 18),
      s.ready = true →
      s.dev.mpGo = true →
      (s.dev.mpAddr ra imm).toNat % 4 = 0 →
      (match s.dev.mpPlace (s.dev.mpAddr ra imm) with | .sram _ => false | _ => true) = true →
      s.goes (.rsv rd ra imm) (s.dev.mpExc 7 none (some (s.dev.mpAddr ra imm))) ∧ s.goes (.cmt rd ra imm) (s.dev.mpExc 7 none (some (s.dev.mpAddr ra imm)))) ∧
  -- R434, R436: SWP in the SRAM.
  (∀ (s : State) (rd ra : Fin 16) (imm : BitVec 18) (o : Nat),
      s.ready = true →
      s.dev.mpGo = true →
      (s.dev.mpAddr ra imm).toNat % 4 = 0 →
      s.dev.mpPlace (s.dev.mpAddr ra imm) = .sram o →
      ((s.dev.setMp { s.dev.mp with resv := none }).readBytes (.hs 0) o 4).1.any (fun b => b.2) = false →
      s.goes (.swp rd ra imm) (let r := (s.dev.setMp { s.dev.mp with resv := none }).readBytes (.hs 0) o 4
        ((r.2.sramStore o (leBytes 4 (s.dev.mpG rd).toNat)).setG rd (BitVec.ofNat 32 (ofLe (r.1.map (fun b => b.1))))).mpAt (s.dev.mp.pc + 4))) ∧
  -- R436: SWP on the network waits for its ATOM.
  (∀ (s : State) (rd ra : Fin 16) (imm : BitVec 18) (a : Nat),
      s.ready = true →
      s.dev.mpGo = true →
      (s.dev.mpAddr ra imm).toNat % 4 = 0 →
      s.dev.mpPlace (s.dev.mpAddr ra imm) = .net a →
      s.goes (.swp rd ra imm) ((s.dev.setMp { s.dev.mp with resv := none, stall := some (.swp rd (s.dev.mpAddr ra imm)) }).niPresent 164
        { cmd := 3, addr := a, atop := 0, asize := false, operand := (s.dev.mpG rd).toNat })) ∧
  -- R434: each of them raises ALIGN on a misaligned address.
  (∀ (s : State) (rd ra : Fin 16) (imm : BitVec 18),
      s.ready = true →
      s.dev.mpGo = true →
      (s.dev.mpAddr ra imm).toNat % 4 ≠ 0 →
      s.goes (.rsv rd ra imm) (s.dev.mpExc 2 none (some (s.dev.mpAddr ra imm))) ∧ s.goes (.cmt rd ra imm) (s.dev.mpExc 2 none (some (s.dev.mpAddr ra imm))) ∧ s.goes (.swp rd ra imm) (s.dev.mpExc 2 none (some (s.dev.mpAddr ra imm)))) ∧
  -- R432, R433: the response of a network load, SWP or FENCE reaches the core.
  (∀ (s : State) (q : Pkt) (rest : List Pkt) (d2 : Dev),
      s.ready = true →
      (s.dev.niSt 164).rs = q :: rest →
      q.code = .ok →
      q.poison = false →
      s.dev.mp.fed = false →
      s.dev.mp.stepping = false →
      d2 = ((s.dev.setNi 164 { s.dev.niSt 164 with rs := rest }).niPump 164).setMp { ((s.dev.setNi 164 { s.dev.niSt 164 with rs := rest }).niPump 164).mp with stall := none } →
      (∀ op rd addr, s.dev.mp.stall = some (.load op rd addr) → s.goes .mpNetworkLoadDone ((d2.setG rd (MpLoad.value op ((q.data.drop (addr.toNat % 64)).take op.size))).mpAt (s.dev.mp.pc + 4))) ∧
        (∀ rd addr, s.dev.mp.stall = some (.swp rd addr) → s.goes .mpNetworkLoadDone ((d2.setG rd (BitVec.ofNat 32 (leAt (q.data.drop (addr.toNat % 64)) 0 4))).mpAt (s.dev.mp.pc + 4))) ∧
        (s.dev.mp.stall = some .fence → s.goes .mpNetworkLoadDone ((d2.setMp { d2.mp with fenceCode := 0, patchOld := [] }).mpAt (d2.mp.pc + 4)))) ∧
  -- R432: with another code, or poisoned, the load raises BUS with that code.
  (∀ (s : State) (q : Pkt) (rest : List Pkt) (op : MpLoad) (rd : Fin 16) (addr : Word),
      s.ready = true →
      (s.dev.niSt 164).rs = q :: rest →
      q.code ≠ .ok →
      s.dev.mp.stall = some (.load op rd addr) →
      s.goes .mpNetworkLoadDone (let d1 := (s.dev.setNi 164 { s.dev.niSt 164 with rs := rest }).niPump 164
        (d1.setMp { d1.mp with stall := none }).mpExc 3 (some q.code.num) (some addr)))

/-- Jumps and branches go to the instruction's own address plus four times their offset, or to a register; MFC, MTC,
MSET and MCLR read and write the listed control registers and raise ILLEGAL for the others; FENCE, BRK, WAIT and
RTE act as R428 to R433 and R452 say; exception entry saves EPC, ECAUSE and EADDR, moves IE to PIE and enters
the vector; an exception under EXC, a mismatch and SOFT_RESET reset the processor. -/
def Obligations.MpControl : Prop :=
  -- R425, R426: JR, JRL and RET.
  (∀ (s : State) (ra : Fin 16),
      s.ready = true →
      s.dev.mpGo = true →
      s.goes (.jr ra) (s.dev.mpAt (s.dev.mpG ra)) ∧ s.goes (.jrl ra) ((s.dev.setMp { s.dev.mp with lk := (s.dev.mp.pc + 4) }).mpAt (s.dev.mpG ra)) ∧ s.goes .ret (s.dev.mpAt s.dev.mp.lk)) ∧
  -- R425, R426: B, by its condition AL, EQZ, NEZ, LTZ, GEZ, GTZ or LEZ.
  (∀ (s : State) (cond : Fin 7) (ra : Fin 16) (off : BitVec 18),
      s.ready = true →
      s.dev.mpGo = true →
      s.goes (.b cond ra off) (s.dev.mpAt (if (cond = 0 ∧ True) ∨ (cond = 1 ∧ (s.dev.mpG ra) = 0) ∨ (cond = 2 ∧ (s.dev.mpG ra) ≠ 0) ∨ (cond = 3 ∧ (s.dev.mpG ra).toInt < 0) ∨ (cond = 4 ∧ 0 ≤ (s.dev.mpG ra).toInt) ∨ (cond = 5 ∧ 0 < (s.dev.mpG ra).toInt) ∨ (cond = 6 ∧ (s.dev.mpG ra).toInt ≤ 0) then s.dev.mp.pc + 4 * off.signExtend 32 else (s.dev.mp.pc + 4)))) ∧
  -- R425, R426: J and JL.
  (∀ (s : State) (off : BitVec 26),
      s.ready = true →
      s.dev.mpGo = true →
      s.goes (.j off) (s.dev.mpAt (s.dev.mp.pc + 4 * off.signExtend 32)) ∧ s.goes (.jl off) ((s.dev.setMp { s.dev.mp with lk := (s.dev.mp.pc + 4) }).mpAt (s.dev.mp.pc + 4 * off.signExtend 32))) ∧
  -- R427: MFC, MTC, MSET and MCLR of a register that R427 lists.
  (∀ (s : State) (r : Fin 16) (num : BitVec 12) (v : Word),
      s.ready = true →
      s.dev.mpGo = true →
      s.dev.mpcr num.toNat = some v →
      s.goes (.mfc r num) ((s.dev.setG r v).mpAt (s.dev.mp.pc + 4)) ∧ s.goes (.mtc num r) ((s.dev.setMpcr num.toNat (s.dev.mpG r)).mpAt (s.dev.mp.pc + 4)) ∧ s.goes (.mset num r) ((s.dev.setMpcr num.toNat (v ||| s.dev.mpG r)).mpAt (s.dev.mp.pc + 4)) ∧ s.goes (.mclr num r) ((s.dev.setMpcr num.toNat (v &&& ~~~(s.dev.mpG r))).mpAt (s.dev.mp.pc + 4))) ∧
  -- R427: of another number they raise ILLEGAL.
  (∀ (s : State) (r : Fin 16) (num : BitVec 12),
      s.ready = true →
      s.dev.mpGo = true →
      s.dev.mpcr num.toNat = none →
      s.goes (.mfc r num) (s.dev.mpExc 1 none none) ∧ s.goes (.mtc num r) (s.dev.mpExc 1 none none) ∧ s.goes (.mset num r) (s.dev.mpExc 1 none none) ∧ s.goes (.mclr num r) (s.dev.mpExc 1 none none)) ∧
  -- R427, R429: what the registers hold and take.
  (∀ (d : Dev) (v : Word),
      d.mpcr 0 = some d.mpStatus ∧ d.mpcr 1 = some d.mp.lk ∧ d.mpcr 2 = some d.mp.epc ∧ d.mpcr 5 = some d.mp.vbase ∧ d.mpcr 8 = some (BitVec.ofNat 32 d.mp.cyc) ∧ d.mpcr 9 = some (BitVec.ofNat 32 (d.mp.cyc / 2 ^ 32)) ∧
        (d.setMpcr 1 v).mp.lk = v ∧ (d.setMpcr 2 v).mp.epc = v ∧ (d.setMpcr 5 v).mp.vbase = v &&& 0xFFFFFF00 ∧ (d.setMpcr 7 v).mp.evtMask = v &&& 0x0007FFFF ∧
        (d.setMpcr 0xA v).mp.timerCmp = v ∧ (d.setMpcr 0xA v).mp.timerHit = false ∧ d.setMpcr 8 v = d ∧ d.setMpcr 9 v = d ∧ d.setMpcr 0x20 v = d ∧
        (d.setMpcr 0 v).mp.ie = v.getLsbD 0 ∧ (d.setMpcr 0 v).mp.exc = v.getLsbD 1 ∧ (d.setMpcr 0 v).mp.pie = v.getLsbD 2 ∧ (d.setMpcr 0 v).mp.resv = d.mp.resv) ∧
  -- R433: FENCE with nothing outstanding; what was patched before it is in force (R437).
  (∀ (s : State),
      s.ready = true →
      s.dev.mpGo = true →
      (s.dev.niSt 164).writes = [] →
      (s.dev.niSt 164).presented = [] →
      s.goes .fence (s.dev.setMp { s.dev.mp with fenceCode := 0, patchOld := [], pc := (s.dev.mp.pc + 4) })) ∧
  -- R433: with requests outstanding it waits for the network's FENCE.
  (∀ (s : State),
      s.ready = true →
      s.dev.mpGo = true →
      (s.dev.niSt 164).writes ≠ [] ∨ (s.dev.niSt 164).presented ≠ [] →
      s.goes .fence ((s.dev.setMp { s.dev.mp with stall := some .fence }).niPresent 164 { cmd := 4 })) ∧
  -- R452: BRK.
  (∀ (s : State),
      s.ready = true →
      s.dev.mpGo = true →
      (s.dev.ctlOn Reg.DBG_CTL_BRK_TAKE = true → s.goes .brk (s.dev.mpHalt 2)) ∧ (s.dev.ctlOn Reg.DBG_CTL_BRK_TAKE = false → s.goes .brk (s.dev.mpExc 4 none none))) ∧
  -- R429: WAIT.
  (∀ (s : State),
      s.ready = true →
      s.dev.mpGo = true →
      (s.dev.evtDue = true → s.goes .wait (s.dev.mpAt (s.dev.mp.pc + 4))) ∧ (s.dev.evtDue = false → s.goes .wait (s.dev.setMp { s.dev.mp with stall := some .wait }))) ∧
  -- R428: RTE.
  (∀ (s : State),
      s.ready = true →
      s.dev.mpGo = true →
      s.goes .rte (s.dev.setMp { s.dev.mp with ie := s.dev.mp.pie, exc := false, resv := none, pc := s.dev.mp.epc })) ∧
  -- R428: exception entry. The code of a cause other than BUS, and EADDR of one without a data address, are free
  -- values (log 14).
  (∀ (d : Dev) (cause : Fin 8) (code : Option (Fin 16)) (addr : Option Word) (epc : Word) (e : Dev),
      d.mp.stepping = false →
      e = d.mpEnter cause.val (code.map Fin.val) addr epc →
      e.mp.epc = epc ∧ e.mp.pc = d.mp.vbase + BitVec.ofNat 32 (16 * cause.val) ∧ e.mp.pie = d.mp.ie ∧ e.mp.ie = false ∧ e.mp.exc = true ∧ e.mp.resv = none ∧ e.mp.ecause % 16 = cause.val ∧ e.mp.ecause < 256 ∧
        (∀ c, code = some c → e.mp.ecause / 16 = c.val) ∧ (∀ a, addr = some a → e.mp.eaddr = a) ∧ e.mp.g = d.mp.g ∧ e.mp.lk = d.mp.lk ∧ e.mp.vbase = d.mp.vbase ∧ { e with mp := d.mp, fresh := d.fresh } = d) ∧
  -- R428: an exception of an instruction enters it at its own address; one taken while EXC is 1 resets the
  -- processor with cause DOUBLE.
  (∀ (d : Dev) (cause : Fin 8) (code : Option Nat) (addr : Option Word),
      d.mp.fed = false →
      d.mpExc cause.val code addr = if d.mp.exc then d.mpReset 2 else d.mpEnter cause.val code addr d.mp.pc) ∧
  -- R428: EXCEPTION_ENTRY with the cause of an instruction.
  (∀ (s : State) (code : Fin 16) (addr : Word),
      s.ready = true →
      s.dev.mpAtBoundary = true →
      s.goes (.exceptionEntry 1 code addr) (s.dev.mpExc 1 none none) ∧ s.goes (.exceptionEntry 2 code addr) (s.dev.mpExc 2 none (some addr)) ∧ s.goes (.exceptionEntry 3 code addr) (s.dev.mpExc 3 (some code.val) (some addr)) ∧ s.goes (.exceptionEntry 7 code addr) (s.dev.mpExc 7 none (some addr))) ∧
  -- R428, R429: with EVENT, where one is due.
  (∀ (s : State) (code : Fin 16) (addr : Word),
      s.ready = true →
      s.dev.mpAtBoundary = true →
      s.dev.eventDue = true →
      s.dev.mp.exc = false →
      s.goes (.exceptionEntry 6 code addr) (s.dev.mpEnter 6 none none s.dev.mp.pc)) ∧
  -- R427: CYC_LO reaches TIMER_CMP.
  (∀ (s : State),
      s.ready = true →
      s.does .timerCmpMatch (fun d => d.mp.timerHit = true ∧ BitVec.ofNat 32 d.mp.cyc = s.dev.mp.timerCmp ∧ s.dev.mp.cyc ≤ d.mp.cyc ∧ d.mp.cyc < s.dev.mp.cyc + 2 ^ 32 ∧ { d with mp := { d.mp with cyc := s.dev.mp.cyc, timerHit := s.dev.mp.timerHit } } = s.dev)) ∧
  -- R422: a lockstep mismatch.
  (∀ (s : State),
      s.ready = true →
      s.goes .lockstepMismatch (((s.dev.raise Reg.MP_EVT_LOCKSTEP_FAULT).count Reg.MP_CNT_LOCKSTEP_CNT).mpReset 1)) ∧
  -- R423: SOFT_RESET.
  (∀ (s : State) (who : Who),
      s.ready = true →
      s.dev.takes who Reg.SOFT_RESET_SOFT_RESET = true →
      s.goes (.softReset who) ((((((s.dev.writtenCmd who Reg.SOFT_RESET_SOFT_RESET).mpReset 3).cmdStart 0x1200 4).cmdDone 0x1200 4 .ok).touch (aliasIndex Reg.SOFT_RESET)).reply .ok)) ∧
  -- R423: what a reset of the processor does.
  (∀ (d : Dev) (cause : Nat),
      d.mpHeld = false →
      cause < 16 →
      (d.mpReset cause).mp.pc = 0 ∧ (d.mpReset cause).mp.g = List.replicate 16 0 ∧ (d.mpReset cause).mp.vbase = 0x100 ∧ (d.mpReset cause).mp.ie = false ∧ (d.mpReset cause).mp.flashCmd = d.mp.flashCmd ∧ (d.mpReset cause).get Reg.MP_STS_RST_CAUSE = cause ∧
        (d.mpReset cause).on Reg.MP_STS_RUNNING = false ∧ (d.mpReset cause).on Reg.MP_EVT_MP_RESET = true ∧ (d.mpReset cause).flash = d.flash ∧ (d.mpReset cause).serial = [] ∧
        (d.mpReset cause).on Reg.DBG_STS_HALTED = d.ctlOn Reg.DBG_CTL_HALT_ON_RESET)

/-- A written patch unit acts four cycles later; ERASE and PROGRAM start a command, or are refused DENIED in the
running image's slot and TARGET_ERR over bytes that are not erased, and their end erases the page or programs
the doubleword; TXD appends, RXD pops, a received byte enters the FIFO or is an overrun; GO starts one transfer
of a port and its end sets DONE and moves the bytes. -/
def Obligations.MpPeripherals : Prop :=
  -- R437: a write of a patch unit, whose old setting stays in force for four cycles.
  (∀ (s : State) (who : Who) (unit : Fin 16) (reg : Fin 3) (value : Word),
      s.ready = true →
      s.dev.takesWrite who (Reg.PATCH_ADDR unit.val + 4 * reg.val) value = true →
      s.goes (.patchWrite who unit reg value) ((((Dev.patchKeep unit.val s.dev).written who (Reg.PATCH_ADDR unit.val + 4 * reg.val) value).touch (aliasIndex (Reg.PATCH_ADDR unit.val + 4 * reg.val))).reply .ok)) ∧
  -- R437: what fetches and loads see of a unit.
  (∀ (d : Dev) (u : Fin 16) (e : PatchOld),
      d.failed (Reg.PATCH_ADDR u.val) = false →
      d.failed (Reg.PATCH_VAL u.val) = false →
      d.failed (Reg.PATCH_CTL u.val) = false →
      e.unit = u.val →
      (d.mp.patchOld = [e] → d.mp.cyc < e.cyc + 4 → d.patchUnit u.val = (e.addr, e.val, e.ctl)) ∧
        (d.mp.patchOld = [e] → e.cyc + 4 ≤ d.mp.cyc → d.patchUnit u.val = (d.word (Reg.PATCH_ADDR u.val), d.word (Reg.PATCH_VAL u.val), d.word (Reg.PATCH_CTL u.val)))) ∧
  -- R438: ERASE.
  (∀ (s : State) (who : Who),
      s.ready = true →
      s.dev.takes who Reg.FLASH_CMD_ERASE = true →
      s.dev.flashBusy = false →
      s.dev.inRunningSlot (s.dev.get Reg.FLASH_ADDR_ADDR) = false →
      s.goes (.erase who) (((((s.dev.writtenCmd who Reg.FLASH_CMD_ERASE).setMp { s.dev.mp with flashCmd := some (s.dev.get Reg.FLASH_ADDR_ADDR / 4096 * 4096, none) }).raise Reg.FLASH_STS_BUSY |>.cmdStart 0x1201 1).touch (aliasIndex Reg.FLASH_CMD)).reply .ok)) ∧
  -- R438: PROGRAM of a doubleword that is erased.
  (∀ (s : State) (who : Who),
      s.ready = true →
      s.dev.takes who Reg.FLASH_CMD_PROGRAM = true →
      s.dev.flashBusy = false →
      s.dev.inRunningSlot (s.dev.get Reg.FLASH_ADDR_ADDR) = false →
      (List.range 8).all (fun k => s.dev.flashByte (s.dev.get Reg.FLASH_ADDR_ADDR / 8 * 8 + k) == 0xFF) = true →
      s.goes (.program who) (((((s.dev.writtenCmd who Reg.FLASH_CMD_PROGRAM).setMp { s.dev.mp with flashCmd := some (s.dev.get Reg.FLASH_ADDR_ADDR / 8 * 8,
        some (leBytes 4 (s.dev.get (Reg.FLASH_DATA_WORD 0)) ++ leBytes 4 (s.dev.get (Reg.FLASH_DATA_WORD 1)))) }).raise Reg.FLASH_STS_BUSY |>.cmdStart 0x1201 1).touch (aliasIndex Reg.FLASH_CMD)).reply .ok)) ∧
  -- R438: DENIED in the slot of the running image: REFUSED is set.
  (∀ (s : State) (who : Who),
      s.ready = true →
      s.dev.flashBusy = false →
      s.dev.takes who Reg.FLASH_CMD_ERASE = true →
      s.dev.inRunningSlot (s.dev.get Reg.FLASH_ADDR_ADDR) = true →
      s.does (.erase who) (fun d => d.answer.code = .denied ∧ d.on Reg.FLASH_EVT_REFUSED = true ∧ d.mp.flashCmd = s.dev.mp.flashCmd ∧ d.flash = s.dev.flash)) ∧
  -- R438: DENIED in the slot of the running image: REFUSED is set.
  (∀ (s : State) (who : Who),
      s.ready = true →
      s.dev.flashBusy = false →
      s.dev.takes who Reg.FLASH_CMD_PROGRAM = true →
      s.dev.inRunningSlot (s.dev.get Reg.FLASH_ADDR_ADDR) = true →
      s.does (.program who) (fun d => d.answer.code = .denied ∧ d.on Reg.FLASH_EVT_REFUSED = true ∧ d.mp.flashCmd = s.dev.mp.flashCmd ∧ d.flash = s.dev.flash)) ∧
  -- R438: a PROGRAM over bytes that are not all erased: TARGET_ERR, and REFUSED is set.
  (∀ (s : State) (who : Who),
      s.ready = true →
      s.dev.flashBusy = false →
      s.dev.takes who Reg.FLASH_CMD_PROGRAM = true →
      s.dev.inRunningSlot (s.dev.get Reg.FLASH_ADDR_ADDR) = false →
      (List.range 8).any (fun k => s.dev.flashByte (s.dev.get Reg.FLASH_ADDR_ADDR / 8 * 8 + k) != 0xFF) = true →
      s.does (.program who) (fun d => d.answer.code = .targetErr ∧ d.on Reg.FLASH_EVT_REFUSED = true ∧ d.mp.flashCmd = s.dev.mp.flashCmd ∧ d.flash = s.dev.flash)) ∧
  -- R438: a flash command is done: a page is erased, or eight bytes are programmed.
  (∀ (s : State) (a : Nat) (data : Option (List Byte)),
      s.live = true →
      s.dev.mp.flashCmd = some (a, data) →
      s.dev.mp.stall = none →
      s.dev.mp.nmi = false →
      s.runs .flashDone Dev.flashDone (fun d => d.on Reg.FLASH_STS_BUSY = false ∧ d.on Reg.FLASH_EVT_DONE = true ∧ d.mp = { s.dev.mp with flashCmd := none } ∧
        (data = none → (∀ o, d.flashByte o = if a ≤ o ∧ o < a + 4096 then 0xFF else s.dev.flashByte o)) ∧
        (∀ bs, data = some bs → (∀ o, d.flashByte o = if a ≤ o ∧ o < a + 8 then bs.getD (o - a) 0 else s.dev.flashByte o)))) ∧
  -- R446: a write of TXD.
  (∀ (s : State) (who : Who) (uart : Fin 4) (data : Byte),
      s.ready = true →
      s.dev.takesWrite who (Reg.UART_TXD uart.val) (data.setWidth 32) = true →
      s.goes (.uartTxd who uart data) (((s.dev.setSerial (.uart uart) { s.dev.serialSt (.uart uart) with tx := (s.dev.serialSt (.uart uart)).tx ++ [data] }).touch (aliasIndex (Reg.UART_TXD uart.val))).reply .ok)) ∧
  -- R446: to a full FIFO: BUSY.
  (∀ (s : State) (who : Who) (uart : Fin 4) (data : Byte),
      s.ready = true →
      s.dev.csrRefusal who (Reg.UART_TXD uart.val) (data.setWidth 32) = none →
      64 ≤ (s.dev.serialSt (.uart uart)).tx.length →
      s.goes (.uartTxd who uart data) (s.dev.reply .busy)) ∧
  -- R446: a read of RXD pops the oldest byte.
  (∀ (s : State) (who : Who) (uart : Fin 4) (b : Byte) (rest : List Byte),
      s.ready = true →
      s.dev.csrReadRefusal who (Reg.UART_RXD uart.val) = none →
      s.dev.failed (Reg.UART_RXD uart.val) = false →
      (s.dev.serialSt (.uart uart)).rx = b :: rest →
      s.does (.uartRxd who uart) (fun d => d.answer = { code := .ok, data := [b, 0, 0, 0] } ∧ (d.serialSt (.uart uart)).rx = rest ∧ (d.serialSt (.uart uart)).tx = (s.dev.serialSt (.uart uart)).tx ∧ s.dev.regsBut [] d)) ∧
  -- R446: with none it reads RX_EMPTY in bit 8.
  (∀ (s : State) (who : Who) (uart : Fin 4),
      s.ready = true →
      s.dev.csrReadRefusal who (Reg.UART_RXD uart.val) = none →
      s.dev.failed (Reg.UART_RXD uart.val) = false →
      (s.dev.serialSt (.uart uart)).rx = [] →
      s.does (.uartRxd who uart) (fun d => d.answer = { code := .ok, data := [0, 1, 0, 0] } ∧ s.dev.regsBut [] d)) ∧
  -- R443: a received byte of an enabled UART.
  (∀ (s : State) (uart : Fin 4) (b : Byte) (fe pe : Bool),
      s.ready = true →
      s.dev.uartOn uart.val = true →
      s.does (.uartRxByte uart b fe pe) (fun d => (fe = true → d.on (Reg.UART_EVT_FRAME_ERR uart) = true) ∧ (pe = true → s.dev.get (Reg.UART_CTL_PARITY uart) ≠ 0 → d.on (Reg.UART_EVT_PARITY_ERR uart) = true) ∧
        ((s.dev.serialSt (.uart uart)).rx.length < 64 → (d.serialSt (.uart uart)).rx = (s.dev.serialSt (.uart uart)).rx ++ [b] ∧ d.on (Reg.UART_EVT_RX_AVAIL uart) = true) ∧
        (64 ≤ (s.dev.serialSt (.uart uart)).rx.length → (d.serialSt (.uart uart)).rx = (s.dev.serialSt (.uart uart)).rx ∧ d.on (Reg.UART_EVT_RX_OVERRUN uart) = true) ∧
        s.dev.regsBut [Reg.UART_EVT uart] d ∧ s.dev.restSame { d with serial := s.dev.serial })) ∧
  -- R446: GO of a port that runs no transfer.
  (∀ (s : State) (who : Who),
      s.ready = true →
      (∀ n : Fin 4, s.dev.takes who (Reg.I2C_XFER_GO n.val) = true → s.dev.get (Reg.I2C_XFER_LEN n.val) ≠ 0 → (s.dev.serialSt (.i2c n)).busy = false →
          s.goes (.i2cGo who n) ((((s.dev.writtenCmd who (Reg.I2C_XFER_GO n.val)).setSerial (.i2c n) { s.dev.serialSt (.i2c n) with busy := true }).touch (aliasIndex (Reg.I2C_XFER n.val))).reply .ok)) ∧
        (∀ n : Fin 2, s.dev.takes who (Reg.SPI_XFER_GO n.val) = true → (s.dev.serialSt (.spi n)).busy = false → s.goes (.spiGo who n) ((((s.dev.writtenCmd who (Reg.SPI_XFER_GO n.val)).setSerial (.spi n) { s.dev.serialSt (.spi n) with busy := true }).touch (aliasIndex (Reg.SPI_XFER n.val))).reply .ok)) ∧
        (s.dev.takes who Reg.XSPI_XFER_GO = true → s.dev.loaderOwnsXspi = false → (s.dev.serialSt .xspi).busy = false → s.goes (.xspiGo who) ((((s.dev.writtenCmd who Reg.XSPI_XFER_GO).setSerial .xspi { s.dev.serialSt .xspi with busy := true }).touch (aliasIndex Reg.XSPI_XFER)).reply .ok)) ∧
        (∀ n : Fin 2, s.dev.takes who (Reg.MDIO_XFER_GO n.val) = true → (s.dev.serialSt (.mdio n)).busy = false → s.goes (.mdioGo who n) ((((s.dev.writtenCmd who (Reg.MDIO_XFER_GO n.val)).setSerial (.mdio n) { s.dev.serialSt (.mdio n) with busy := true }).touch (aliasIndex (Reg.MDIO_XFER n.val))).reply .ok))) ∧
  -- R444: XSPI GO while the loader owns the controller: BUSY.
  (∀ (s : State) (who : Who),
      s.ready = true →
      s.dev.takes who Reg.XSPI_XFER_GO = true →
      s.dev.loaderOwnsXspi = true →
      s.does (.xspiGo who) (fun d => d.answer.code = .busy ∧ d.serial = s.dev.serial ∧ s.dev.regsBut [] d)) ∧
  -- R443: a byte leaves a UART.
  (∀ (s : State) (n : Fin 4) (b : Byte) (rest rx : List Byte) (status : BitVec 4),
      s.ready = true →
      s.dev.uartOn n.val = true →
      s.dev.failed (Reg.UART_CTL n) = false →
      (s.dev.serialSt (.uart n)).tx = b :: rest →
      s.goes (.serialTransferDone (.uart n) rx status) (if rest = [] then (s.dev.setSerial (.uart n) { s.dev.serialSt (.uart n) with tx := rest }).raise (Reg.UART_EVT_TX_EMPTY n) else s.dev.setSerial (.uart n) { s.dev.serialSt (.uart n) with tx := rest })) ∧
  -- R446: a transfer of I2C, SPI, XSPI or MDIO is done.
  (∀ (s : State) (rx : List Byte) (status : BitVec 4),
      s.ready = true →
      (∀ n : Fin 4, (s.dev.serialSt (.i2c n)).busy = true → s.dev.failed (Reg.I2C_CTL n) = false → s.does (.serialTransferDone (.i2c n) rx status) (fun d => (d.serialSt (.i2c n)).busy = false ∧ d.on (Reg.I2C_EVT_DONE n) = true ∧
          (s.dev.on (Reg.I2C_XFER_READ n) = true → (d.serialSt (.i2c n)).rx = ((s.dev.serialSt (.i2c n)).rx ++ rx.take (s.dev.get (Reg.I2C_XFER_LEN n))).take 32) ∧
          (s.dev.on (Reg.I2C_XFER_READ n) = false → (d.serialSt (.i2c n)).tx = (s.dev.serialSt (.i2c n)).tx.drop (s.dev.get (Reg.I2C_XFER_LEN n))) ∧ s.dev.regsBut [Reg.I2C_EVT n] d)) ∧
        (∀ n : Fin 2, (s.dev.serialSt (.spi n)).busy = true → s.dev.failed (Reg.SPI_CTL n) = false → s.does (.serialTransferDone (.spi n) rx status) (fun d => (d.serialSt (.spi n)).busy = false ∧ d.on (Reg.SPI_EVT_DONE n) = true ∧
          (d.serialSt (.spi n)).tx = (s.dev.serialSt (.spi n)).tx.drop (s.dev.get (Reg.SPI_XFER_LEN n)) ∧ (d.serialSt (.spi n)).rx = ((s.dev.serialSt (.spi n)).rx ++ rx.take (s.dev.get (Reg.SPI_XFER_LEN n))).take 32 ∧ s.dev.regsBut [Reg.SPI_EVT n] d)) ∧
        ((s.dev.serialSt .xspi).busy = true → s.dev.failed Reg.XSPI_CTL = false → s.does (.serialTransferDone .xspi rx status) (fun d => (d.serialSt .xspi).busy = false ∧ d.on Reg.XSPI_EVT_DONE = true ∧ s.dev.regsBut [Reg.XSPI_EVT] d)) ∧
        (∀ n : Fin 2, (s.dev.serialSt (.mdio n)).busy = true → s.dev.failed (Reg.MDIO_CTL n) = false → s.does (.serialTransferDone (.mdio n) rx status) (fun d => (d.serialSt (.mdio n)).busy = false ∧ d.on (Reg.MDIO_EVT_DONE n) = true ∧
          (2 ≤ s.dev.get (Reg.MDIO_XFER_OP n) → d.get (Reg.MDIO_XFER_DATA n) = leAt rx 0 2)))) ∧
  -- R446: a port whose CTL register has failed is disabled.
  (∀ (s : State) (port : Serial) (rx : List Byte) (status : BitVec 4),
      s.ready = true →
      s.dev.failed (Dev.serialCtl port) = true →
      s.goes (.serialTransferDone port rx status) s.dev) ∧
  -- R443: an outside controller addresses a target port.
  (∀ (s : State) (port : Fin 4),
      s.ready = true →
      s.dev.ctlOn (Reg.I2C_CTL_TGT_EN port.val) = true →
      s.goes (.tgtReq port) (s.dev.raise (Reg.I2C_EVT_TGT_REQ port.val)))

/-- HALT stops the core at a boundary, or makes a halt due; RESUME goes on with GRACE at least; STEP executes the
word at the PC, DINSTR_GO the fed word; each is BUSY where the core is not halted; DBM GO sends one access and
its response is recorded; the TAP's instructions select their registers, EXTEST, HIGHZ and CLAMP hold the edge
regions and leaving them resets the data plane; KICK reloads the watchdog, LOCK keeps it, a bark interrupts and
a bite resets the management plane. -/
def Obligations.DebugPort : Prop :=
  -- R452, R461: HALT, also in the tick of an expiry.
  (∀ (s : State) (who : Who) (expiry : Bool),
      s.ready = true →
      s.dev.takes who Reg.DBG_CTL_HALT = true →
      s.goes (.halt who expiry) (((((s.dev.writtenCmd who Reg.DBG_CTL_HALT).haltAt expiry).1).touch (aliasIndex (Reg.DBG_CTL_HALT).off)).reply .ok)) ∧
  -- R452, R453: HALT stops the core at an instruction boundary; while the core waits for a response or the flash
  -- it is due; a halted core stays so.
  (∀ (d : Dev) (expiry : Bool),
      d.mpHeld = false →
      expiry = false ∨ d.wdtCounts = false →
      (d.halted = false → d.haltNow = true → d.haltAt expiry = (d.mpHalt 1, .ok)) ∧ (d.halted = false → d.haltNow = false → d.haltAt expiry = (d.setMp { d.mp with haltDue := some 1 }, .ok)) ∧
        (d.halted = true → d.mp.stepping = false → d.haltAt expiry = (d, .ok))) ∧
  -- R461: in the tick of an expiry the expiry comes first: after a bark the NMI stays pending until the core
  -- goes on, after a bite the HALT is lost.
  (∀ (d : Dev),
      d.wdtCounts = true →
      d.mpHeld = false →
      d.haltAt true = if d.on Reg.WDT_STS_STAGE then (d.biteEff, .ok) else (d.barked.setMp { d.barked.mp with nmi := true }).haltEff) ∧
  -- R453: the halt takes effect.
  (∀ (s : State) (c : Nat),
      s.ready = true →
      s.dev.mp.haltDue = some c →
      s.dev.haltNow = true →
      s.dev.halted = false →
      s.goes .haltEntered (s.dev.mpHalt c)) ∧
  -- R452 to R454: what a halt does.
  (∀ (d : Dev) (c : Nat),
      c < 8 →
      (d.mpHalt c).halted = true ∧ (d.mpHalt c).get Reg.DBG_STS_HALT_CAUSE = c ∧ (d.mpHalt c).on Reg.DBG_EVT_HALTED_EVT = true ∧ (d.mpHalt c).on Reg.WDT_STS_FROZEN = true ∧ (d.mpHalt c).mp = { d.mp with resv := none, stall := none, stepping := false, haltDue := none }) ∧
  -- R455, R460: RESUME; the watchdog goes on with GRACE at least.
  (∀ (s : State) (who : Who),
      s.ready = true →
      s.dev.takes who Reg.DBG_CTL_RESUME = true →
      s.dev.halted = true →
      s.dev.on Reg.DBG_STS_DBUSY = false →
      s.goes (.resume who) (((let d1 := ((s.dev.writtenCmd who Reg.DBG_CTL_RESUME).clear Reg.DBG_STS_HALTED).clear Reg.WDT_STS_FROZEN
        if d1.get Reg.WDT_STS_REMAIN < d1.get Reg.WDT_GRACE_GRACE then d1.set Reg.WDT_STS_REMAIN (d1.get Reg.WDT_GRACE_GRACE) else d1).touch (aliasIndex (Reg.DBG_CTL_RESUME).off)).reply .ok)) ∧
  -- R455: STEP executes the word at the PC.
  (∀ (s : State) (who : Who) (o : Nat) (i : MpInsn),
      s.ready = true →
      s.dev.takes who Reg.DBG_CTL_STEP = true →
      s.dev.halted = true →
      s.dev.on Reg.DBG_STS_DBUSY = false →
      s.dev.mp.pc.toNat % 4 = 0 →
      s.dev.mpPlace s.dev.mp.pc = .sram o →
      ((((s.dev.writtenCmd who Reg.DBG_CTL_STEP).setMp { s.dev.mp with stepping := true }).raise Reg.DBG_STS_DBUSY).readBytes (.hs 0) o 4).1.any (fun b => b.2) = false →
      mpDecode (BitVec.ofNat 32 (ofLe (((((s.dev.writtenCmd who Reg.DBG_CTL_STEP).setMp { s.dev.mp with stepping := true }).raise Reg.DBG_STS_DBUSY).readBytes (.hs 0) o 4).1.map (fun b => b.1)))) = some i →
      s.goes (.step who) ((((((((s.dev.writtenCmd who Reg.DBG_CTL_STEP).setMp { s.dev.mp with stepping := true }).raise Reg.DBG_STS_DBUSY).readBytes (.hs 0) o 4).2.mpExec i)).touch (aliasIndex Reg.DBG_CTL)).reply .ok)) ∧
  -- R455: a fed word that may be executed.
  (∀ (s : State) (who : Who) (i : MpInsn),
      s.ready = true →
      s.dev.takes who Reg.DBG_CTL_DINSTR_GO = true →
      s.dev.halted = true →
      s.dev.on Reg.DBG_STS_DBUSY = false →
      mpDecode (s.dev.word Reg.DINSTR) = some i →
      Dev.fedRefused i = false →
      s.goes (.dinstrGo who) ((((((s.dev.writtenCmd who Reg.DBG_CTL_DINSTR_GO).setMp { s.dev.mp with fed := true }).raise Reg.DBG_STS_DBUSY).mpExec i).touch (aliasIndex Reg.DBG_CTL)).reply .ok)) ∧
  -- R455: one that may not is refused, and one that is no instruction records ILLEGAL.
  (∀ (s : State) (who : Who),
      s.ready = true →
      s.dev.takes who Reg.DBG_CTL_DINSTR_GO = true →
      s.dev.halted = true →
      s.dev.on Reg.DBG_STS_DBUSY = false →
      (∀ i, mpDecode (s.dev.word Reg.DINSTR) = some i → Dev.fedRefused i = true → s.goes (.dinstrGo who) ((((s.dev.writtenCmd who Reg.DBG_CTL_DINSTR_GO).raise Reg.DBG_EVT_DINSTR_REFUSED).touch (aliasIndex Reg.DBG_CTL)).reply .ok)) ∧
        (mpDecode (s.dev.word Reg.DINSTR) = none → s.goes (.dinstrGo who) ((((((s.dev.writtenCmd who Reg.DBG_CTL_DINSTR_GO).setMp { s.dev.mp with fed := true }).raise Reg.DBG_STS_DBUSY).mpExc 1 none none).touch (aliasIndex Reg.DBG_CTL)).reply .ok))) ∧
  -- R455: RESUME, STEP and DINSTR_GO of a core that is not halted, or while one runs: BUSY.
  (∀ (s : State) (who : Who),
      s.ready = true →
      s.dev.leashBusy = true →
      (s.dev.takes who Reg.DBG_CTL_RESUME = true → s.does (.resume who) (fun d => d.answer.code = .busy ∧ d.mp = s.dev.mp ∧ s.dev.regsBut [] d)) ∧
        (s.dev.takes who Reg.DBG_CTL_STEP = true → s.does (.step who) (fun d => d.answer.code = .busy ∧ d.mp = s.dev.mp ∧ s.dev.regsBut [] d)) ∧
        (s.dev.takes who Reg.DBG_CTL_DINSTR_GO = true → s.does (.dinstrGo who) (fun d => d.answer.code = .busy ∧ d.mp = s.dev.mp ∧ s.dev.regsBut [] d))) ∧
  -- R456: DBG_RESET.
  (∀ (s : State) (who : Who),
      s.ready = true →
      s.dev.takes who Reg.DBG_CTL_DBG_RESET = true →
      s.goes (.dbgReset who) ((((s.dev.writtenCmd who Reg.DBG_CTL_DBG_RESET).mpReset 5).touch (aliasIndex (Reg.DBG_CTL_DBG_RESET).off)).reply .ok)) ∧
  -- R457: a read of the debug bus master.
  (∀ (s : State) (who : Who),
      s.ready = true →
      s.dev.takes who Reg.DBM_CTL_GO = true →
      s.dev.on Reg.DBM_STS_BUSY = false →
      s.dev.on Reg.DBM_CTL_WRITE = false →
      s.goes (.dbmGo who) (((((s.dev.writtenCmd who Reg.DBM_CTL_GO).raise Reg.DBM_STS_BUSY).niPresent 167 { cmd := 0, addr := s.dev.dbmAddr, len := 1, beFirst := s.dev.get Reg.DBM_CTL_DBM_BE * 2 ^ (s.dev.dbmAddr % 64) % 2 ^ 64, noside := s.dev.on Reg.DBM_CTL_NOSIDE }).touch (aliasIndex (Reg.DBM_CTL_GO).off)).reply .ok)) ∧
  -- R457: a write.
  (∀ (s : State) (who : Who),
      s.ready = true →
      s.dev.takes who Reg.DBM_CTL_GO = true →
      s.dev.on Reg.DBM_STS_BUSY = false →
      s.dev.on Reg.DBM_CTL_WRITE = true →
      s.goes (.dbmGo who) (((((s.dev.writtenCmd who Reg.DBM_CTL_GO).raise Reg.DBM_STS_BUSY).niPresent 167 { cmd := 1, addr := s.dev.dbmAddr, len := 1, beFirst := s.dev.get Reg.DBM_CTL_DBM_BE * 2 ^ (s.dev.dbmAddr % 64) % 2 ^ 64, noside := s.dev.on Reg.DBM_CTL_NOSIDE, data := (List.replicate (s.dev.dbmAddr % 64) 0 ++ leBytes 4 (s.dev.get Reg.DBM_DATA_DATA) ++ List.replicate 64 0).take 64 }).touch (aliasIndex (Reg.DBM_CTL_GO).off)).reply .ok)) ∧
  -- R457: its response.
  (∀ (s : State) (p : Pkt) (rest : List Pkt),
      s.ready = true →
      s.dev.on Reg.DBM_STS_BUSY = true →
      (s.dev.niSt 167).rs = p :: rest →
      s.goes .dbmResponse (let d2 := (((((s.dev.setNi 167 { s.dev.niSt 167 with rs := rest }).niPump 167).set Reg.DBM_STS_CODE p.code.num).setBit Reg.DBM_STS_POISON p.poison).clear Reg.DBM_STS_BUSY)
        if p.code = .ok ∨ p.code = .poison then d2.set Reg.DBM_DATA_DATA (leAt p.data (s.dev.dbmAddr % 64) 4) else d2)) ∧
  -- R449: instructions of the TAP outside EXTEST, HIGHZ and CLAMP.
  (∀ (s : State),
      s.ready = true →
      s.dev.tapOwns = false →
      s.goes .tapReset { s.dev with tap := { s.dev.tap with ir := 2 } } ∧ s.goes .bypass { s.dev with tap := { s.dev.tap with ir := 255 } } ∧
        s.goes .idcode { s.dev with tap := { s.dev.tap with ir := 2 }, answer := { data := leBytes 4 0x2C4E9A3B } } ∧
        s.goes .dbgacc { s.dev with tap := { s.dev.tap with ir := if s.dev.on Reg.DBG_FUSE_JTAG_DBG then 0x20 else 255 } }) ∧
  -- R449: SAMPLE/PRELOAD captures the pins and loads the boundary register.
  (∀ (s : State) (preload : List (Nat × BitVec 2)),
      s.ready = true →
      s.dev.tapOwns = false →
      s.goes (.samplePreload preload) { s.dev with tap := { s.dev.tap with ir := 1, boundary := preload.foldl (fun m e => SMap.put 0 m e.1 e.2.toNat) s.dev.tap.boundary }, answer := { data := preload.map (fun e => BitVec.ofNat 8 (bit01 (s.dev.tapCapture e.1))) } }) ∧
  -- R450: EXTEST, HIGHZ and CLAMP hold every edge region.
  (∀ (s : State),
      s.live = true →
      s.runs .extest Dev.extest (fun d => d.tap.ir = 0 ∧ (∀ n : Region, isEdge n.val = true → d.on (Reg.FF_STS_HOLD n.val) = true) ∧ (∀ n : Region, isEdge n.val = false → d.on (Reg.FF_STS_HOLD n.val) = s.dev.on (Reg.FF_STS_HOLD n.val)) ∧ d.bm = (s.dev.bmQuiet (fun b => isEdge (b / 64))).bm ∧ { d with tap := s.dev.tap, csr := s.dev.csr, start := s.dev.start, bm := s.dev.bm } = s.dev) ∧
        s.runs .highz Dev.highz (fun d => d.tap.ir = 3 ∧ (∀ n : Region, isEdge n.val = true → d.on (Reg.FF_STS_HOLD n.val) = true) ∧ (∀ n : Region, isEdge n.val = false → d.on (Reg.FF_STS_HOLD n.val) = s.dev.on (Reg.FF_STS_HOLD n.val)) ∧ d.bm = (s.dev.bmQuiet (fun b => isEdge (b / 64))).bm ∧ { d with tap := s.dev.tap, csr := s.dev.csr, start := s.dev.start, bm := s.dev.bm } = s.dev) ∧
        s.runs .clamp Dev.clamp (fun d => d.tap.ir = 4 ∧ (∀ n : Region, isEdge n.val = true → d.on (Reg.FF_STS_HOLD n.val) = true) ∧ (∀ n : Region, isEdge n.val = false → d.on (Reg.FF_STS_HOLD n.val) = s.dev.on (Reg.FF_STS_HOLD n.val)) ∧ d.bm = (s.dev.bmQuiet (fun b => isEdge (b / 64))).bm ∧ { d with tap := s.dev.tap, csr := s.dev.csr, start := s.dev.start, bm := s.dev.bm } = s.dev)) ∧
  -- R450: leaving them is a data-plane reset with cause BOUNDARY, or, before start-up step 4, its cause alone.
  (∀ (s : State),
      s.live = true →
      s.dev.tapOwns = true →
      s.runs .tapLeaveBoundary Dev.tapLeaveBoundary (fun d => let d1 := ({ s.dev with tap := { s.dev.tap with ir := 2 } } : Dev)
        (1 ≤ s.dev.get Reg.START_STS_STEP → s.dev.get Reg.START_STS_STEP < 4 → d = d1.set Reg.RST_CAUSE_CAUSE 6) ∧
        (s.dev.get Reg.START_STS_STEP = 0 ∨ 4 ≤ s.dev.get Reg.START_STS_STEP → d = d1.dataPlane 6 false))) ∧
  -- R451: a DBGACC read and write. The data captured after a write is a free value (log 3).
  (∀ (s : State) (off : BitVec 24) (x : Word) (noside : Bool),
      s.live = true →
      s.dev.tap.ir = 0x20 →
      s.runs (.dbgaccAccess (x.setWidth 64 ||| (off.setWidth 64 <<< 32) ||| (if noside then 1 <<< 57 else 0))) (Dev.dbgaccAccess (x.setWidth 64 ||| (off.setWidth 64 <<< 32) ||| (if noside then 1 <<< 57 else 0)))
          (fun d => let r := s.dev.csrReadReq .debug noside off.toNat 1
            d = { r.2.1 with tap := { r.2.1.tap with data := r.1.headD 0, code := r.2.2 } }) ∧
        s.runs (.dbgaccAccess (x.setWidth 64 ||| (off.setWidth 64 <<< 32) ||| (1 <<< 56))) (Dev.dbgaccAccess (x.setWidth 64 ||| (off.setWidth 64 <<< 32) ||| (1 <<< 56)))
          (fun d => d.tap.code = (s.dev.csrWriteReq .debug off.toNat [x]).2 ∧ { d with tap := s.dev.tap, fresh := s.dev.fresh } = { (s.dev.csrWriteReq .debug off.toNat [x]).1 with tap := s.dev.tap, fresh := s.dev.fresh })) ∧
  -- R458, R461: KICK, also in the tick of an expiry.
  (∀ (s : State) (who : Who) (expiry : Bool),
      s.ready = true →
      s.dev.takes who Reg.WDT_CTL_KICK = true →
      s.goes (.kick who expiry) (((Dev.wdtCtlWritten ((s.dev.writtenCmd who Reg.WDT_CTL_KICK).kickAt expiry).1).touch (aliasIndex Reg.WDT_CTL)).reply .ok)) ∧
  -- R458: KICK.
  (∀ (s : State) (who : Who),
      s.ready = true →
      s.dev.takes who Reg.WDT_CTL_KICK = true →
      s.goes (.kick who false) (((Dev.wdtCtlWritten (((s.dev.writtenCmd who Reg.WDT_CTL_KICK).set Reg.WDT_STS_REMAIN (s.dev.get Reg.WDT_TIMEOUT_TIMEOUT)).clear Reg.WDT_STS_STAGE)).touch (aliasIndex Reg.WDT_CTL)).reply .ok)) ∧
  -- R461: in the tick of a bark the bark comes first, in that of a bite the kick is lost.
  (∀ (d : Dev),
      d.wdtCounts = true →
      d.kickAt true = if d.on Reg.WDT_STS_STAGE then (d.biteEff, .ok) else d.barkEff.kickEff) ∧
  -- R458: WDT_CTL; LOCK makes EN read 1.
  (∀ (s : State) (who : Who) (value : Word),
      s.ready = true →
      s.dev.takesWrite who Reg.WDT_CTL value = true →
      (cmdBits Reg.WDT_CTL value).isEmpty = true →
      s.goes (.wdtCtlWrite who value) (((Dev.wdtCtlWritten (s.dev.written who Reg.WDT_CTL value)).touch (aliasIndex Reg.WDT_CTL)).reply .ok)) ∧
  -- R458: DENIED once locked.
  (∀ (s : State) (who : Who) (value : Word),
      s.ready = true →
      s.dev.on Reg.WDT_CTL_LOCK = true →
      fieldOf value 0 2 ≠ s.dev.get Reg.WDT_CTL_EN + 2 →
      s.goes (.wdtCtlWrite who value) (s.dev.reply .denied)) ∧
  -- R459: the bark: an NMI at the next boundary, or a reset with cause DOUBLE.
  (∀ (s : State),
      s.ready = true →
      s.dev.wdtCounts = true →
      s.dev.on Reg.WDT_STS_STAGE = false →
      s.dev.mpAtBoundary = true →
      s.dev.mp.stepping = false →
      s.runs .bark Dev.bark (fun d => d.on Reg.WDT_EVT_BARK = true ∧ d.get Reg.WDT_CNT_BARK_CNT = min (s.dev.get Reg.WDT_CNT_BARK_CNT + 1) (2 ^ Reg.WDT_CNT_BARK_CNT.w - 1) ∧ d.on Reg.WDT_STS_STAGE = true ∧ d.get Reg.WDT_STS_REMAIN = s.dev.get Reg.WDT_TIMEOUT_TIMEOUT ∧
        (s.dev.mp.exc = false → d.mp.epc = s.dev.mp.pc ∧ d.mp.ecause % 16 = 5 ∧ d.mp.pc = s.dev.mp.vbase + 80 ∧ d.mp.exc = true ∧ d.mp.ie = false ∧ d.mp.nmi = false) ∧
        (s.dev.mp.exc = true → d.get Reg.MP_STS_RST_CAUSE = 2 ∧ d.mp.pc = 0))) ∧
  -- R459: the bite.
  (∀ (s : State),
      s.live = true →
      s.dev.wdtCounts = true →
      s.dev.on Reg.WDT_STS_STAGE = true →
      s.runs .bite Dev.bite (fun d => d = ((((s.dev.raise Reg.WDT_EVT_BITE).count Reg.WDT_CNT_BITE_CNT).clear Reg.WDT_STS_STAGE).wdtReload).managementPlane ∧
        d.get Reg.RST_CAUSE_CAUSE = 7 ∧ d.on Reg.RST_EVT_MGMT_RESET = true))

/-- A member broadcasts its record, the lead dog with its ABSENT mask; enabling sends one DISCOVER, whose answers
enter the roster as hellos do; a member that hears no lead dog is the lead dog of a pack of one, or refuses
itself; the lead dog is an elected member that stands; a member not heard is unreachable; the state is judged by
R470, and entering SPLIT aborts the barrier; PERSONA_DIGEST covers the regions in scope. -/
def Obligations.PackMembership : Prop :=
  -- R465, R467: a hello; the lead dog appends its ABSENT mask.
  (∀ (s : State),
      s.ready = true →
      s.dev.packOn = true →
      s.goes .helloSend (s.dev.nextSeq.2.packBroadcast { op := 8, seq := s.dev.nextSeq.1, index := 0x1100, sub := 5, payload := s.dev.packRecord ++ (if s.dev.on Reg.PACK_STS_IS_LEAD then s.dev.absentMask else []) })) ∧
  -- R465: EN written 1 by a device that then takes part sends one DISCOVER.
  (∀ (s : State) (who : Who),
      s.ready = true →
      s.dev.takesField who Reg.PACK_CTL_EN 1 = true →
      s.dev.packOn = false →
      (s.dev.writtenField who Reg.PACK_CTL_EN 1).packOn = true →
      s.goes (.packEnable who) (((((s.dev.writtenField who Reg.PACK_CTL_EN 1).nextSeq.2.setPack { (s.dev.writtenField who Reg.PACK_CTL_EN 1).nextSeq.2.pack with discover := some (s.dev.writtenField who Reg.PACK_CTL_EN 1).nextSeq.1 }).packBroadcast { op := 9, seq := (s.dev.writtenField who Reg.PACK_CTL_EN 1).nextSeq.1 }).touch (aliasIndex Reg.PACK_CTL)).reply .ok)) ∧
  -- R466: with no lead dog heard the member is JOINED as the lead dog of a pack of one.
  (∀ (s : State),
      s.ready = true →
      s.dev.packOn = true →
      s.dev.on Reg.PACK_STS_JOINED = false →
      s.dev.on Reg.PACK_STS_REFUSED = false →
      s.dev.pack.lead = none →
      s.dev.fwImage ≠ [] →
      s.dev.pack.roster = [] →
      s.does .packJoinTimeout (fun d => d = ((s.dev.raise Reg.PACK_STS_JOINED).packElect).packCensus ∧ d.on Reg.PACK_STS_JOINED = true ∧ d.on Reg.PACK_STS_IS_LEAD = true ∧ d.on Reg.PACK_STS_TIME_VALID = true ∧ d.pack.lead = some s.dev.ownMember ∧ d.get Reg.PACK_CENSUS_REACHABLE = 1)) ∧
  -- R466: with no image that runs it refuses itself with cause 3.
  (∀ (s : State),
      s.ready = true →
      s.dev.packOn = true →
      s.dev.on Reg.PACK_STS_JOINED = false →
      s.dev.on Reg.PACK_STS_REFUSED = false →
      s.dev.pack.lead = none →
      s.dev.fwImage = [] →
      s.does .packJoinTimeout (fun d => d.on Reg.PACK_STS_REFUSED = true ∧ d.get Reg.PACK_STS_REFUSE_CAUSE = 3 ∧ d.on Reg.PACK_STS_JOINED = false ∧ d.on Reg.PACK_EVT_JOIN_REFUSED = true)) ∧
  -- R465: a member not heard for too long is unreachable, and leaves the election.
  (∀ (s : State) (member : Fin 4096),
      s.ready = true →
      (s.dev.rosterEntry member.val).heard = true →
      (s.dev.rosterEntry member.val).reachable = true →
      s.goes (.memberUnreachable member) ((((s.dev.setRoster member.val { s.dev.rosterEntry member.val with reachable := false }).packElect).packSelfCheck).pbCheck).packCensus) ∧
  -- R469: the lead dog has the lowest (PRIORITY, MEMBER) of those that stand.
  (∀ (d : Dev) (l : Nat),
      d.electedLead = some l →
      (l = d.ownMember ∧ d.on Reg.PACK_STS_JOINED = true ∧ d.on Reg.PACK_STS_REFUSED = false ∨ (∃ e, (l, e) ∈ d.pack.roster ∧ e.heard = true ∧ e.reachable = true ∧ e.who.joined = true ∧ e.who.refused = false)) ∧
        d.packElect.pack.lead = some l ∧ d.packElect.on Reg.PACK_STS_IS_LEAD = decide (l = d.ownMember)) ∧
  -- R470, R478: the state judged; entering SPLIT aborts the barrier, but for one that releases in that cycle.
  (∀ (s : State) (dg lg : Bool) (d2 : Dev),
      s.ready = true →
      s.dev.packOn = true →
      s.dev.on Reg.PACK_STS_REFUSED = false →
      d2 = s.dev.packElect.packSelfCheck.packCensus →
      (d2.packStateOf = d2.get Reg.PACK_STS_STATE → s.goes (.packStateJudge dg lg) d2) ∧
        (d2.packStateOf ≠ d2.get Reg.PACK_STS_STATE → d2.packStateOf ≠ 3 → s.goes (.packStateJudge dg lg) ((d2.set Reg.PACK_STS_STATE d2.packStateOf).raise Reg.PACK_EVT_STATE_CHANGE)) ∧
        (d2.packStateOf ≠ d2.get Reg.PACK_STS_STATE → d2.packStateOf = 3 → s.goes (.packStateJudge dg lg) (Dev.pbEnd .aborted false 0 ((d2.set Reg.PACK_STS_STATE 3).raise Reg.PACK_EVT_STATE_CHANGE).packReleaseTime))) ∧
  -- R470: NO_PACK, SPLIT below the majority of PACK_SIZE, DEGRADED with a member flagged, else WHOLE.
  (∀ (d : Dev),
      d.packStateOf = (if d.on Reg.PACK_STS_JOINED = false ∨ d.on Reg.PACK_STS_TIME_VALID = false then 0
        else if d.ctl Reg.PACK_PARAM_PACK_SIZE ≠ 0 ∧ d.get Reg.PACK_CENSUS_REACHABLE < d.ctl Reg.PACK_PARAM_PACK_SIZE / 2 + 1 then 3 else if d.get Reg.PACK_CENSUS_FLAGGED ≠ 0 then 2 else 1)) ∧
  -- R466: a refusal ends once its condition has been gone for long enough.
  (∀ (s : State) (d1 : Dev),
      s.ready = true →
      s.dev.packOn = true →
      s.dev.on Reg.PACK_STS_REFUSED = true →
      s.dev.refuseHolds (s.dev.get Reg.PACK_STS_REFUSE_CAUSE) = false →
      s.dev.pack.lead = none →
      d1 = (((s.dev.clear Reg.PACK_STS_REFUSED).clear Reg.PACK_STS_REFUSE_CAUSE).packElect.packSelfCheck).packCensus →
      d1.packStateOf = d1.get Reg.PACK_STS_STATE →
      s.goes (.packStateJudge true true) d1) ∧
  -- R468: PERSONA_DIGEST.
  (∀ (s : State),
      s.ready = true →
      s.goes .personaDigestRecompute (s.dev.setPack { s.dev.pack with digest := sha512 (((List.range 128).filter (fun n => s.dev.bit (Reg.PACK_SCOPE_MASK (n / 32)) (n % 32))).flatMap (fun n => leBytes 1 n ++ s.dev.digestOf Reg.ACTIVE_DIGEST_DIGEST n)) })) ∧
  -- R465: the answer to its DISCOVER enters the roster.
  (∀ (s : State) (mac : BitVec 48) (port : Fin 2) (seq : BitVec 32) (bs : List Byte),
      s.ready = true →
      s.dev.pack.discover = some seq.toNat →
      bs.length = 116 →
      s.goes (.discoverAnswerReceived mac port seq bs) (s.dev.helloReceived mac.toNat port (bytesAt bs 20 96))) ∧
  -- R465 to R467: what a hello of another member of the pack enters.
  (∀ (d : Dev) (mac : Nat) (port : Fin 2) (bs : List Byte),
      d.packOn = true →
      bs.length = 96 →
      leAt bs 8 2 = d.ctl Reg.PACK_IDS_PACK_ID →
      leAt bs 10 2 % 4096 ≠ d.ownMember →
      (let e := (d.helloReceived mac port bs).rosterEntry (leAt bs 10 2 % 4096); e.heard = true ∧ e.reachable = true ∧ e.who = MemberRec.parse mac port bs))

/-- A Sync steps or slews pack time and records the offset, three offsets beyond the bound make time SUSPECT and
three within it end that, as no Sync for too long does; an arrival is sent again until release; at the lead dog
arrivals open, join and complete a barrier, whose RELEASE goes out three times; a timeout marks the missing
ABSENT; a RELEASE, or for kind 3 the slot boundary after RELEASE_TIME, ends the member's barrier. -/
def Obligations.PackTimeAndBarriers : Prop :=
  -- R471: an offset of more than 1 µs, or the first after the root's return, steps the counter.
  (∀ (s : State) (off : Int),
      s.ready = true →
      s.dev.packOn = true →
      s.dev.on Reg.PACK_STS_IS_LEAD = false →
      6400 < off.natAbs ∨ s.dev.pack.stepNext = true →
      s.does (.syncReceived off) (fun d => d.packTime = ((s.dev.packTime : Int) - off) % 2 ^ 64 ∧ d.on Reg.PACK_EVT_TIME_STEP = true ∧ d.pack.stepNext = false ∧ d.get Reg.PACK_OFFSET_OFFSET_NS = (BitVec.ofInt 32 (Dev.offsetNs off)).toNat)) ∧
  -- R471: any other is slewed by a trim of at most 200 ppm, which is free (log 3).
  (∀ (s : State) (off : Int),
      s.ready = true →
      s.dev.packOn = true →
      s.dev.on Reg.PACK_STS_IS_LEAD = false →
      off.natAbs ≤ 6400 →
      s.dev.pack.stepNext = false →
      s.does (.syncReceived off) (fun d => d.packTime = s.dev.packTime ∧ -200000 ≤ (BitVec.ofNat 32 (d.get Reg.PACK_TRIM_TRIM_PPB)).toInt ∧ (BitVec.ofNat 32 (d.get Reg.PACK_TRIM_TRIM_PPB)).toInt ≤ 200000 ∧ d.get Reg.PACK_OFFSET_OFFSET_NS = (BitVec.ofInt 32 (Dev.offsetNs off)).toNat)) ∧
  -- R472: the third offset in a row beyond the bound makes time SUSPECT; the third within it ends that.
  (∀ (s : State) (off : Int),
      s.ready = true →
      s.dev.packOn = true →
      s.dev.on Reg.PACK_STS_IS_LEAD = false →
      (s.dev.ctl Reg.PACK_TIMING_OFFSET_BOUND_NS * 32 < off.natAbs * 5 → 2 ≤ s.dev.pack.beyond → s.does (.syncReceived off) (fun d => d.on Reg.PACK_STS_TIME_SUSPECT = true ∧ d.on Reg.PACK_STS_TIME_VALID = false)) ∧
        (off.natAbs * 5 ≤ s.dev.ctl Reg.PACK_TIMING_OFFSET_BOUND_NS * 32 → 2 ≤ s.dev.pack.bounded → s.does (.syncReceived off) (fun d => d.on Reg.PACK_STS_TIME_SUSPECT = false ∧ d.on Reg.PACK_STS_TIME_VALID = true))) ∧
  -- R471: Sync and Delay_Req.
  (∀ (s : State),
      s.ready = true →
      s.dev.packOn = true →
      (s.dev.on Reg.PACK_STS_IS_LEAD = true → s.goes .syncSend ((s.dev.queueTx 0 (.ptp 0 0)).queueTx 1 (.ptp 0 0))) ∧ (∀ m, s.dev.on Reg.PACK_STS_IS_LEAD = false → s.dev.pack.lead = some m → s.goes .syncSend (s.dev.queueTx (s.dev.rosterEntry m).who.port.val (.ptp 1 0)))) ∧
  -- R472: no Sync for too long.
  (∀ (s : State),
      s.ready = true →
      s.dev.packOn = true →
      s.dev.on Reg.PACK_STS_IS_LEAD = false →
      s.dev.on Reg.PACK_STS_TIME_SUSPECT = false →
      s.goes .syncTimeout ((((s.dev.setPack { s.dev.pack with bounded := 0 }).clear Reg.PACK_STS_TIME_VALID).raise Reg.PACK_STS_TIME_SUSPECT).raise Reg.PACK_EVT_SUSPECT)) ∧
  -- R474: an outstanding arrival is sent again to the lead dog.
  (∀ (s : State) (b : MyBarrier) (m : Nat),
      s.ready = true →
      s.dev.packOn = true →
      s.dev.pack.mine = some b →
      s.dev.pack.lead = some m →
      m ≠ s.dev.ownMember →
      s.goes .arrivalResendExpiry (s.dev.nextSeq.2.packSend (s.dev.rosterEntry m).who.port.val (s.dev.rosterEntry m).who.mac { op := 2, seq := s.dev.nextSeq.1, index := 0x7201, member := m, payload := b.params.arrival s.dev.ownMember })) ∧
  -- R474, R475: its answer: DENIED ends the barrier, any other slows the resends.
  (∀ (s : State) (b : MyBarrier) (c : Code),
      s.ready = true →
      s.dev.pack.mine = some b →
      (c = .denied → s.goes (.arrivalAnswerReceived c) (Dev.pbEnd .denied false 0 s.dev)) ∧ (c ≠ .denied → s.goes (.arrivalAnswerReceived c) (s.dev.setPack { s.dev.pack with mine := some { b with answered := true } }))) ∧
  -- R475: the first arrival opens a barrier at the lead dog with its roll.
  (∀ (s : State) (r : WbReq) (p : PbParams) (m : Nat),
      s.ready = true →
      s.dev.packOn = true →
      s.dev.on Reg.PACK_STS_IS_LEAD = true →
      s.dev.wbDiscard r.msg = none →
      r.msg.op = 2 →
      r.msg.resp = false →
      r.msg.index = 0x7201 →
      r.msg.sub = 0 →
      r.msg.payload.length = 24 →
      p = PbParams.parse r.msg.payload →
      m = leAt r.msg.payload 20 2 % 4096 →
      s.dev.pack.closed = [] →
      s.dev.pack.opened = [] →
      Dev.pbFull ⟨p, s.dev.pbRoll, [m]⟩ = false →
      s.goes (.arrive r) (let d1 := s.dev.setRoster m { s.dev.rosterEntry m with absent := false }
        let d2 := (d1.setPack { d1.pack with opened := [⟨p, s.dev.pbRoll, [m]⟩] }).touch 0x7201
        d2.respond r { code := .ok, change := d2.changeOf 0x7201 })) ∧
  -- R475: the last arrival completes it.
  (∀ (d : Dev) (p : PbParams) (m : Nat) (b : OpenBarrier),
      d.pack.closed = [] →
      d.pack.opened = [b] →
      b.params = p →
      b.arrived.contains m = false →
      (∀ k ∈ b.roll, k = m ∨ k ∈ b.arrived) →
      ((d.pbArrive p m).1.pack.opened = []) ∧ (d.pbArrive p m).2.1 = .ok ∧ (d.pbArrive p m).1.pack.closed = [⟨p, 0, 2⟩]) ∧
  -- R475: an arrival with other parameters is DENIED, one beyond sixteen open barriers BUSY, one for a completed
  -- barrier OK with its RELEASE.
  (∀ (d : Dev) (p : PbParams) (m : Nat),
      (∀ b, d.pack.closed = [] → d.pack.opened = [b] → b.params.bid = p.bid → b.params ≠ p → d.pbArrive p m = (d, .denied, none)) ∧
        (d.pack.closed = [] → 16 ≤ d.pack.opened.length → (∀ b ∈ d.pack.opened, b.params.bid ≠ p.bid) → d.pbArrive p m = (d, .busy, none)) ∧
        (∀ c, d.pack.closed = [c] → c.params.bid = p.bid → d.pbArrive p m = (d.setRoster m { d.rosterEntry m with absent := false }, .ok, some c))) ∧
  -- R475: the timeout completes a barrier with the missing members marked ABSENT.
  (∀ (s : State) (bid : BitVec 32) (b : OpenBarrier),
      s.ready = true →
      s.dev.pack.opened = [b] →
      b.params.bid = bid.toNat →
      s.goes (.packBarrierTimeout bid) (s.dev.pbComplete b)) ∧
  -- R475: what completion leaves.
  (∀ (d : Dev) (b : OpenBarrier),
      d.pack.opened = [b] →
      (d.pbComplete b).pack.opened = [] ∧ (d.pbComplete b).pack.closed = d.pack.closed ++ [⟨b.params, (b.roll.filter (fun m => !b.arrived.contains m)).length, 2⟩] ∧
        (∀ m ∈ b.roll, m ∉ b.arrived → ((d.pbComplete b).rosterEntry m).absent = true)) ∧
  -- R476: a member that becomes DIVERGENT leaves every roll at which it has not arrived.
  (∀ (d : Dev) (m : Nat) (o : OpenBarrier),
      (d.rosterEntry m).who.divergent = true →
      d.pack.opened = [o] →
      (d.leaveRolls m).pack.opened = [if m ∈ o.arrived then o else { o with roll := o.roll.filter (fun x => x != m) }]) ∧
  -- R475: two more copies of the RELEASE follow.
  (∀ (s : State) (bid : BitVec 32) (b : DoneBarrier),
      s.ready = true →
      s.dev.pack.closed = [b] →
      b.params.bid = bid.toNat →
      b.copies ≠ 0 →
      s.goes (.releaseResendExpiry bid) (Dev.releaseSend b (s.dev.setPack { s.dev.pack with closed := [{ b with copies := b.copies - 1 }] }))) ∧
  -- R477: a released barrier of kind 3 ends at the slot boundary at or after RELEASE_TIME.
  (∀ (s : State) (b : MyBarrier) (absent : Nat),
      s.ready = true →
      s.dev.pack.mine = some b →
      b.released = some absent →
      b.params.kind = 3 →
      b.params.release ≤ s.dev.packTime →
      s.dev.noc.phase = 0 →
      s.goes .packReleaseTime (Dev.pbEnd .ok false absent s.dev)) ∧
  -- R477, R478: a RELEASE of kind 2 ends the barrier at once, one of another BID does nothing.
  (∀ (d : Dev) (b : MyBarrier) (bid absent : Nat),
      d.pack.mine = some b →
      (b.params.bid ≠ bid → d.releaseReceived bid absent = d) ∧ (b.params.bid = bid → b.params.kind = 2 → d.releaseReceived bid absent = Dev.pbEnd .ok false absent d)) ∧
  -- R477: what the end of a barrier records.
  (∀ (d : Dev) (b : MyBarrier) (c : Code) (late : Bool) (absent : Nat),
      d.pack.mine = some b →
      absent < 8192 →
      (Dev.pbEnd c late absent d).get Reg.PB_STS_CODE = c.num ∧ (Dev.pbEnd c late absent d).on Reg.PB_STS_BUSY = false ∧ (Dev.pbEnd c late absent d).on Reg.PB_STS_LATE = late ∧ (Dev.pbEnd c late absent d).get Reg.PB_STS_ABSENT = absent ∧
        (Dev.pbEnd c late absent d).on Reg.PACK_EVT_BARRIER_DONE = true ∧ (Dev.pbEnd c late absent d).pack.mine = none)

/-- For every command and state, a step with that command at the front of the queue is exec of the command on the
state with the rest of the queue; on an empty queue one root period passes (the model's choice, log 2). -/
def Obligations.QueueStep : Prop :=
  -- A command waits.
  (∀ (c : Instr) (rest : List Instr) (d : Dev),
      step { dev := d, pending := c :: rest } = exec c { dev := d, pending := rest }) ∧
  -- None waits.
  (∀ (d : Dev),
      step { dev := d, pending := [] } = .next { dev := d.tick, pending := [] })

/-- For every command and every state: it is never refused; a next state has the queue of the state before; it
faults only with VAUX present and a rail out of its range after start-up step 1 (R499), and then every command
but the six of the supplies and RSTN does; with VAUX below its threshold those that are no supply command leave
the state as it was. -/
def Obligations.EveryCommandRuns : Prop :=
  -- No command is refused, and a next state keeps the queue.
  (∀ (c : Instr) (s : State),
      (∀ r, exec c s ≠ .refused r) ∧ (∀ t, exec c s = .next t → t.pending = s.pending)) ∧
  -- With VAUX present and the rails in range every command answers a next state.
  (∀ (c : Instr) (s : State),
      s.live = true →
      ∃ t, exec c s = .next t) ∧
  -- R499: a rail out of range.
  (∀ (c : Instr) (s : State),
      s.dev.start.vauxOn = true →
      s.railOut = true →
      (∀ v, c ≠ .vauxPowerOnReset v) →
      c ≠ .vauxFall →
      (∀ n, c ≠ .rstnLow n) →
      c ≠ .rstnHigh →
      (∀ r, c ≠ .railOutOfRange r) →
      (∀ r, c ≠ .railInRange r) →
      exec c s = .fault .railOutOfRange) ∧
  -- R499: VAUX below its threshold.
  (∀ (c : Instr) (s : State),
      s.dev.start.vauxOn = false →
      (∀ v, c ≠ .vauxPowerOnReset v) →
      c ≠ .vauxFall →
      (∀ n, c ≠ .rstnLow n) →
      c ≠ .rstnHigh →
      (∀ r, c ≠ .railOutOfRange r) →
      (∀ r, c ≠ .railInRange r) →
      exec c s = .next s)

/-- A root period with no command waiting adds one to the root count and moves the slot counter while the root is
locked, gives CYC one count each sixteenth period while the processor is not held, and counts pack time up by
sixteen root periods then; with VAUX below its threshold nothing but the model's own time moves. The step on an
empty queue is the model's choice (log 2). -/
def Obligations.Time : Prop :=
  -- VAUX absent.
  (∀ (d : Dev),
      d.start.vauxOn = false →
      d.tick = { d with time := d.time + 1 }) ∧
  -- R10, R186: the root count.
  (∀ (d : Dev),
      d.start.vauxOn = true →
      d.calm = true →
      d.on Reg.CLK_STS_ROOT_LOCK = true →
      d.wdtFrac + 2 < 390625 →
      (d.time + 1 - d.rootT0) % 16 ≠ 0 →
      d.tick.time = d.time + 1 ∧ d.tick.get64 (Reg.ROOT_CNT_WORD 0) (Reg.ROOT_CNT_WORD 1) = (d.get64 (Reg.ROOT_CNT_WORD 0) (Reg.ROOT_CNT_WORD 1) + 1) % 2 ^ 64 ∧
        d.tick.mp.cyc = d.mp.cyc ∧ d.tick.packTime = d.packTime) ∧
  -- R190, R319: the slot counter.
  (∀ (d : Dev),
      d.start.vauxOn = true →
      d.calm = true →
      d.on Reg.CLK_STS_ROOT_LOCK = true →
      d.wdtFrac + 2 < 390625 →
      (d.time + 1 - d.rootT0) % 16 ≠ 0 →
      (8 * d.get Reg.CLK_STS_NOC_DIV ≤ d.noc.phase + 1 → d.tick.noc.phase = 0 ∧ d.tick.get Reg.NOC_STS_SLOT = (d.get Reg.NOC_STS_SLOT + 1) % 256) ∧
        (d.noc.phase + 1 < 8 * d.get Reg.CLK_STS_NOC_DIV → d.tick.noc.phase = d.noc.phase + 1 ∧ d.tick.get Reg.NOC_STS_SLOT = d.get Reg.NOC_STS_SLOT)) ∧
  -- R427, R188, R471: each sixteenth period.
  (∀ (d : Dev),
      d.start.vauxOn = true →
      d.calm = true →
      d.on Reg.CLK_STS_ROOT_LOCK = true →
      d.wdtFrac + 2 < 390625 →
      (d.time + 1 - d.rootT0) % 16 = 0 →
      d.mpHeld = false →
      d.word Reg.PACK_TRIM = 0#32 →
      d.pack.frac = (0 : Int) →
      d.tick.mp.cyc = d.mp.cyc + 1 ∧ d.tick.packTime = (d.packTime + 16) % 2 ^ 64) ∧
  -- R458, R459: a tick of the watchdog that is not its last.
  (∀ (d : Dev),
      d.start.vauxOn = true →
      390625 ≤ d.wdtFrac + 2 →
      d.wdtCounts = true →
      1 < d.get Reg.WDT_STS_REMAIN →
      d.tickWdt.get Reg.WDT_STS_REMAIN = d.get Reg.WDT_STS_REMAIN - 1 ∧ d.tickWdt.wdtFrac = d.wdtFrac + 2 - 390625)

/-- In the codeword of a byte, bits [7:0] are the data and bits [12:8] are c0 to c4, each the xor that R282
tabulates, the data bits holding Hamming positions 3, 5, 6, 7, 9, 10, 11 and 12; the poison pattern is 0x1F00,
at distance 3 or more from every codeword; the checker decides in the order of R283; what it finds poisoned
reads as an uncorrectable byte does. -/
def Obligations.ByteCode : Prop :=
  -- R282: the layout and the check bits.
  (∀ (b : Byte),
      (encodeByte b).extractLsb' 0 8 = b ∧
        (encodeByte b).getLsbD 8 = (b.getLsbD 0 ^^ b.getLsbD 1 ^^ b.getLsbD 3 ^^ b.getLsbD 4 ^^ b.getLsbD 6) ∧
        (encodeByte b).getLsbD 9 = (b.getLsbD 0 ^^ b.getLsbD 2 ^^ b.getLsbD 3 ^^ b.getLsbD 5 ^^ b.getLsbD 6) ∧
        (encodeByte b).getLsbD 10 = (b.getLsbD 1 ^^ b.getLsbD 2 ^^ b.getLsbD 3 ^^ b.getLsbD 7) ∧
        (encodeByte b).getLsbD 11 = (b.getLsbD 4 ^^ b.getLsbD 5 ^^ b.getLsbD 6 ^^ b.getLsbD 7) ∧
        (encodeByte b).getLsbD 12 = ((List.range 12).foldl (fun a i => a ^^ (encodeByte b).getLsbD i) false)) ∧
  -- R282: the Hamming positions.
  (∀ (k : Fin 8),
      positionMask ([3, 5, 6, 7, 9, 10, 11, 12].getD k.val 0) = 2 ^ k.val) ∧
  -- R283: the poison pattern lies at distance 3 or more from every codeword.
  (∀ (b : Byte),
      poisonWord = 0x1F00#13 ∧ 3 ≤ (List.range 13).countP (fun i => (encodeByte b ^^^ poisonWord).getLsbD i)) ∧
  -- R283: the order of the checker's decision, s being c0 to c3 recomputed xor stored and q the overall parity.
  (∀ (c : BitVec 13) (s : Nat) (q : Bool),
      s = check4 (c.toNat % 256) ^^^ (c.toNat / 256 % 16) →
      q = (List.range 13).foldl (fun a i => a ^^ c.getLsbD i) false →
      decodeByte c = if c = poisonWord ∨ (∃ i : Fin 13, c = poisonWord ^^^ (1#13 <<< i.val)) then .poisoned
        else if s = 0 ∧ q = false then .clean (c.extractLsb' 0 8)
        else if q = true ∧ (1 ≤ s ∧ s ≤ 12 ∨ s = 0) then .fixed (c.extractLsb' 0 8 ^^^ BitVec.ofNat 8 (positionMask s))
        else .bad) ∧
  -- R283, R286: a poisoned byte reads as an uncorrectable one, as 0x00.
  (Decoded.poisoned.value = (0x00#8, true) ∧ Decoded.bad.value = (0x00#8, true))

/-- A byte that a write stores is the complete codeword of the data, or the poison pattern, and every byte of
another place is left untouched; it reads back clean; any single bit error of any codeword is corrected to the
data; any two errors read as uncorrectable or poisoned, never as data; a poisoned byte stays poisoned under one
further error. -/
def Obligations.StoredBytes : Prop :=
  -- R284, R288: what a write stores.
  (∀ (d : Dev) (m : MemUnit) (a : Nat) (b : Byte) (p : Bool),
      (d.storeByte m a b p).cell m a = (if p then poisonWord else encodeByte b) ∧
        (∀ m2 a2, cellKey m2 (d.place m2 a2) ≠ cellKey m (d.place m a) → (d.storeByte m a b p).cell m2 a2 = d.cell m2 a2)) ∧
  -- R283: it reads back.
  (∀ (d : Dev) (m : MemUnit) (a : Nat) (b : Byte),
      decodeByte ((d.storeByte m a b).cell m a) = .clean b ∧ decodeByte ((d.storeByte m a b true).cell m a) = .poisoned) ∧
  -- R283: one bit error of a codeword.
  (∀ (b : Byte) (i : Fin 13),
      decodeByte (encodeByte b ^^^ (1#13 <<< i.val)) = .fixed b) ∧
  -- R283: two bit errors of a codeword.
  (∀ (b : Byte) (i j : Fin 13),
      i ≠ j →
      (decodeByte (encodeByte b ^^^ (1#13 <<< i.val) ^^^ (1#13 <<< j.val))).value = (0, true)) ∧
  -- R284: a store changes nothing but the stored bytes and the write-backs that await a verify read.
  (∀ (d : Dev) (m : MemUnit) (a : Nat) (b : Byte) (p : Bool),
      { d.storeByte m a b p with cells := d.cells, verify := d.verify } = d)

/-- Region (x, y) has number 16 × y + x; the 16 regions with x = 0 or x = 15 are the edge regions, which alone own
I/O cells; each region presents its number and whether it is an edge region at its attachment; of the 64 blocks
and 48 slices of a region, group g of 16 holds blocks 4g to 4g + 3 and slices 3g to 3g + 2; each block's address
comes from its neighbour slice LO or HI as R155 tabulates, and a slice reads the blocks whose neighbour it is. -/
def Obligations.RegionGroups : Prop :=
  -- R12: region numbers and edge regions.
  ((∀ n : Fin 128, n.val / 16 < 8 ∧ n.val % 16 < 16 ∧ n.val = 16 * (n.val / 16) + n.val % 16) ∧ (∀ (x : Fin 16) (y : Fin 8), isEdge (16 * y.val + x.val) = (x == 0 || x == 15)) ∧
        ((List.range 128).countP isEdge = 16) ∧ (∀ n : Fin 128, 0 < ioCells n.val ↔ isEdge n.val = true)) ∧
  -- R230: what a region presents at its attachment: its number, and whether it is an edge region.
  (∀ (n : Region),
      (rgnAttachment n).1.toNat = n.val ∧ ((rgnAttachment n).2 = true ↔ n.val % 16 = 0 ∨ n.val % 16 = 15)) ∧
  -- R155: a block's neighbour slices.
  (∀ (d : Dev) (n : Fin 128) (g : Fin 16) (k : Fin 4) (portB : Bool),
      (d.bmBits n.val (4 * g.val + k.val) (Dev.bmPortBase portB + 6) 2 = 1 → d.bmAddrSlice n.val (4 * g.val + k.val) portB = some (3 * g.val + [0, 0, 1, 1].getD k.val 0)) ∧
        (d.bmBits n.val (4 * g.val + k.val) (Dev.bmPortBase portB + 6) 2 = 2 → d.bmAddrSlice n.val (4 * g.val + k.val) portB = some (3 * g.val + [1, 1, 2, 2].getD k.val 0))) ∧
  -- R155: the blocks of which a slice is a neighbour.
  (∀ (g : Fin 16) (j : Nat),
      (j ∈ Dev.sliceBlocks (3 * g.val) ↔ j = 4 * g.val ∨ j = 4 * g.val + 1) ∧
        (j ∈ Dev.sliceBlocks (3 * g.val + 1) ↔ j = 4 * g.val ∨ j = 4 * g.val + 1 ∨ j = 4 * g.val + 2 ∨ j = 4 * g.val + 3) ∧
        (j ∈ Dev.sliceBlocks (3 * g.val + 2) ↔ j = 4 * g.val + 2 ∨ j = 4 * g.val + 3))

/-- A channel whose interface holds 0 for the source interface of a request in the mask it needs answers it DENIED:
RD needs FW_RD, WR and WRA need FW_WR, and ATOM needs both; a request whose bits are 1 is not refused for them;
after reset every bit of both masks of every channel is 1. -/
def Obligations.DramFirewall : Prop :=
  -- R331: the mask that a request needs.
  (∀ (d : Dev) (k : Fin 32) (p : Pkt),
      p.src < 256 →
      p.cmd ≤ 3 →
      d.chRetired k.val = false →
      d.on Reg.SCRUB_STS_GOLDEN_USABLE = false →
      d.on Reg.CTX_STS_IN_USE = false →
      d.failed (Reg.FW_RD k.val (p.src / 32)) = false →
      d.failed (Reg.FW_WR k.val (p.src / 32)) = false →
      d.on (Dev.chF Reg.CH_STS_BRINGUP_BUSY k.val) = false →
      d.dramRefusal k.val p = if ((p.cmd = 0 ∨ p.cmd = 3) ∧ d.bit (Reg.FW_RD_MASK k.val (p.src / 32)) (p.src % 32) = false) ∨
          ((p.cmd = 1 ∨ p.cmd = 2 ∨ p.cmd = 3) ∧ d.bit (Reg.FW_WR_MASK k.val (p.src / 32)) (p.src % 32) = false) then some .denied else none) ∧
  -- R331: the masks after reset.
  (∀ (k : Fin 32) (i : Fin 256),
      State.reset.dev.bit (Reg.FW_RD_MASK k.val (i.val / 32)) (i.val % 32) = true ∧ State.reset.dev.bit (Reg.FW_WR_MASK k.val (i.val / 32)) (i.val % 32) = true)

/-- In every block, a write that gives a CTL field of a register an out-of-range value, and to which no code that
ranks before it applies, is answered TARGET_ERR and changes no register; in a request of several registers,
execution stops at it, and the registers after it are not written. -/
def Obligations.OutOfRangeWrites : Prop :=
  -- R518: one register.
  (∀ (d : Dev) (who : Who) (off : Nat) (x : Word) (r : RegDef) (f : FieldDef),
      regAt off = some r →
      f ∈ r.fields →
      f.inRange x = false →
      d.csrRefusal who off x = none →
      who = .config ∨ d.csrGuarded off x = false ∨ d.armed who = true →
      (d.csrWrite who off x).2 ≠ .busy →
      (d.csrWrite who off x).2 = .targetErr ∧ (d.csrWrite who off x).1.csr = d.csr) ∧
  -- R518, R85: a request of several registers.
  (∀ (d d1 : Dev) (who : Who) (off : Nat) (x : Word) (pre post : List Word),
      off % 4 = 0 →
      off < 0x900000 →
      pre.length + post.length < 16 →
      (pre = [] ∧ d1 = d) ∨ d.csrWriteReq who off pre = (d1, .ok) →
      (d1.csrWrite who (off + 4 * pre.length) x).2 = .targetErr →
      d.csrWriteReq who off (pre ++ x :: post) = ((d1.csrWrite who (off + 4 * pre.length) x).1, .targetErr))

/-- A reset of the management processor, whatever its cause, leaves the storage bits of the fabric, the I/O cells
and pins, the border ports, the block memories' ports and arithmetic slices, the synthesizers and clock buffers,
the lanes and PLLs, the power domains, the DRAM channels, the key slots, the flash and pack membership as they
were, and abandons what NI 164 had outstanding. -/
def Obligations.MpResetKeepsTheDataPlane : Prop :=
  -- R422, R423.
  ∀ (d : Dev) (cause : Nat),
      (d.mpReset cause).ff = d.ff ∧ (d.mpReset cause).io = d.io ∧ (d.mpReset cause).pins = d.pins ∧ (d.mpReset cause).borderIn = d.borderIn ∧
        (d.mpReset cause).borderHold = d.borderHold ∧ (d.mpReset cause).bm = d.bm ∧ (d.mpReset cause).slice = d.slice ∧ (d.mpReset cause).fs = d.fs ∧
        (d.mpReset cause).gck = d.gck ∧ (d.mpReset cause).lanes = d.lanes ∧ (d.mpReset cause).plls = d.plls ∧ (d.mpReset cause).pwr = d.pwr ∧
        (d.mpReset cause).doms = d.doms ∧ (d.mpReset cause).ch = d.ch ∧ (d.mpReset cause).keys = d.keys ∧ (d.mpReset cause).flash = d.flash ∧
        (d.mpReset cause).pack = d.pack ∧ ((d.mpReset cause).niSt 164).tags = [] ∧ ((d.mpReset cause).niSt 164).presented = []

/-- For every state in which no port restart and no warm reset waits for the end of a command, every step, whatever
command is in front or with none, that answers a next state answers one in which none waits. -/
def Obligations.NothingLeftToSettle : Prop :=
  -- R46, R486: what a command asks for at its end has been done when the step ends.
  ∀ (s t : State),
      s.dev.settled = true →
      step s = .next t →
      t.dev.settled = true

/-- For every state in which the register file, the flash, the configuration frames, the storage bits and the stored
bytes are in their one canonical form (keys strictly rising, no entry equal to what its key reads as by
default), every step that answers a next state answers one in which they are. -/
def Obligations.StoresStayCanonical : Prop :=
  -- The form of memory that the model keeps (log 20).
  ∀ (s t : State),
      s.canonical = true →
      step s = .next t →
      t.canonical = true

/-- A store in canonical form is determined by what its keys read as; writing twice is writing the last value,
writing what a key holds changes nothing, a write keeps the form, and writes of different keys commute. -/
def Obligations.StoresCompareByContents : Prop :=
  -- Contents determine a canonical store.
  (∀ (f : Nat → Word) (a b : SMap Word),
      SMap.wf f a = true →
      SMap.wf f b = true →
      (∀ k, SMap.get (f k) a k = SMap.get (f k) b k) →
      a = b) ∧
  -- Two writes of one key, and a write of what a key holds.
  (∀ (f : Nat → Word) (a : SMap Word) (k : Nat) (x y : Word),
      SMap.wf f a = true →
      SMap.put (f k) (SMap.put (f k) a k x) k y = SMap.put (f k) a k y ∧ SMap.put (f k) a k (SMap.get (f k) a k) = a ∧ SMap.wf f (SMap.put (f k) a k x) = true) ∧
  -- Two writes of different keys commute.
  (∀ (f : Nat → Word) (a : SMap Word) (k j : Nat) (x y : Word),
      SMap.wf f a = true →
      k ≠ j →
      SMap.put (f j) (SMap.put (f k) a k x) j y = SMap.put (f k) (SMap.put (f j) a j y) k x)

/-- The state right after the power-on reset meets the invariants that every step keeps: nothing waits for the end
of a command, and every store is in canonical form; no command waits. -/
def Obligations.ResetMeetsTheInvariants : Prop :=
  -- The reset state.
  State.reset.dev.settled = true ∧ State.reset.canonical = true ∧ State.reset.pending = []
end

