-- ==== Sys2Proof/Laws/Bytes.lean ====
section
/-! SUPPORT. The laws of byte strings: their pieces, the lengths of digests and tags, and when the boot ROM accepts an
image. -/

namespace Sys2Proof.Machine

/-! ## Pieces of byte strings -/

@[simp] theorem length_bytesAt (bs : List Byte) (i n : Nat) : (bytesAt bs i n).length = n := by simp [bytesAt]

/-- A piece that ends within the first of two strings. -/
theorem bytesAt_append_left (p q : List Byte) {i n : Nat} (h : i + n ≤ p.length) :
    bytesAt (p ++ q) i n = bytesAt p i n := by
  unfold bytesAt
  apply List.map_congr_left
  intro k hk
  have hk : k < n := List.mem_range.mp hk
  simp only [List.getD_eq_getElem?_getD]
  rw [List.getElem?_append_left (by omega)]

/-- A piece that begins within the second. -/
theorem bytesAt_append_right (p q : List Byte) (i n : Nat) : bytesAt (p ++ q) (p.length + i) n = bytesAt q i n := by
  unfold bytesAt
  apply List.map_congr_left
  intro k _
  simp only [List.getD_eq_getElem?_getD]
  rw [List.getElem?_append_right (by omega)]
  congr 2
  omega

/-- A whole string is the piece of its length. -/
theorem bytesAt_self (p : List Byte) : bytesAt p 0 p.length = p := by
  apply List.ext_getElem (by simp)
  intro k h1 h2
  simp [bytesAt, List.getD_eq_getElem?_getD, List.getElem?_eq_getElem h2]

/-! ## Digests and tags -/

theorem length_sha512Round {v : List Nat} (kw : Nat × Nat) (h : v.length = 8) : (sha512Round v kw).length = 8 := by
  unfold sha512Round
  split
  · rfl
  · exact h

theorem length_sha512Rounds (ks : List (Nat × Nat)) {v : List Nat} (h : v.length = 8) :
    (ks.foldl sha512Round v).length = 8 := by
  induction ks generalizing v with
  | nil => exact h
  | cons k ks ih => exact ih (length_sha512Round k h)

theorem length_sha512Block {h : List Nat} (block : List Byte) (hl : h.length = 8) :
    (sha512Block h block).length = 8 := by
  simp [sha512Block, hl, length_sha512Rounds]

theorem length_sha512Blocks (fuel : Nat) {h : List Nat} (bs : List Byte) (hl : h.length = 8) :
    (sha512Blocks fuel h bs).length = 8 := by
  induction fuel generalizing h bs with
  | zero => exact hl
  | succ n ih =>
    unfold sha512Blocks
    split
    · exact hl
    · exact ih _ (length_sha512Block _ hl)

/-- A SHA-512 digest is 64 bytes long. -/
@[simp] theorem length_sha512 (m : List Byte) : (sha512 m).length = 64 := by
  unfold sha512
  simp only [List.length_flatMap, leBytes, List.length_reverse, List.length_map, List.length_range]
  rw [List.map_const', List.sum_replicate, length_sha512Blocks _ _ (by rfl)]
  rfl

/-- A GCM tag is 16 bytes long. -/
@[simp] theorem length_gcmTag (key iv aad cipher : List Byte) : (gcmTag key iv aad cipher).length = 16 := by
  simp [gcmTag, leBytes]

/-! ## Images -/

namespace Dev

theorem fwHeaderOk_append (p q : List Byte) (role maxLen : Nat) (h : 512 ≤ p.length) :
    fwHeaderOk (p ++ q) role maxLen = fwHeaderOk p role maxLen := by
  have e : ∀ i n, i + n ≤ 512 → bytesAt (p ++ q) i n = bytesAt p i n :=
    fun i n hi => bytesAt_append_left p q (by omega)
  unfold fwHeaderOk leAt
  rw [e 0 8 (by omega), e 8 2 (by omega), e 10 1 (by omega), e 11 1 (by omega), e 12 4 (by omega), e 22 2 (by omega),
    e 24 4 (by omega), e 28 4 (by omega), e 32 133 (by omega), e 165 347 (by omega)]

/-- The boot ROM accepts an image signed by the vendor whose header is right and whose seal holds its digest, if it
verifies under the vendor key (R441, R442). -/
theorem fwAccepts_vendor (d : Dev) (p tail : List Byte) (role maxLen : Nat) (hp : p.length = 512 + leAt p 24 4)
    (hh : fwHeaderOk p role maxLen = true) (hs : leAt p 11 1 = 0) (ht : tail.length = 184) :
    d.fwAccepts (p ++ ([0x57, 0x45, 0x41, 0x5A, 0x53, 0x45, 0x41, 0x4C] ++ sha512 p ++ tail)) role maxLen true = true := by
  have e : ∀ i n, i + n ≤ 512 → ∀ q, leAt (p ++ q) i n = leAt p i n :=
    fun i n hi q => by simp only [leAt]; rw [bytesAt_append_left p q (by omega)]
  have e0 : ∀ q, bytesAt (p ++ q) 0 p.length = p := fun q => by
    rw [bytesAt_append_left p q (by omega), bytesAt_self]
  have e1 : ∀ q, q.length = 256 → bytesAt (p ++ q) p.length 256 = q := fun q hq => by
    have := bytesAt_append_right p q 0 256
    rw [Nat.add_zero] at this
    rw [this, ← hq, bytesAt_self]
  have hl : ([0x57, 0x45, 0x41, 0x5A, 0x53, 0x45, 0x41, 0x4C] ++ sha512 p ++ tail : List Byte).length = 256 := by
    simp [ht]
  have e2 : bytesAt ([0x57, 0x45, 0x41, 0x5A, 0x53, 0x45, 0x41, 0x4C] ++ sha512 p ++ tail : List Byte) 8 64
      = sha512 p := by
    rw [bytesAt_append_left _ _ (by simp)]
    have := bytesAt_append_right ([0x57, 0x45, 0x41, 0x5A, 0x53, 0x45, 0x41, 0x4C] : List Byte) (sha512 p) 0 64
    simp only [List.length_cons, List.length_nil, Nat.add_zero] at this
    rw [this]
    have h64 := bytesAt_self (sha512 p)
    rwa [length_sha512] at h64
  have e3 : bytesAt ([0x57, 0x45, 0x41, 0x5A, 0x53, 0x45, 0x41, 0x4C] ++ sha512 p ++ tail : List Byte) 0 8
      = [0x57, 0x45, 0x41, 0x5A, 0x53, 0x45, 0x41, 0x4C] := by
    rw [bytesAt_append_left _ _ (by simp), bytesAt_append_left _ _ (by simp)]
    rfl
  unfold fwAccepts
  simp only [e 11 1 (by omega), e 24 4 (by omega), hs, ← hp, e0, e1 _ hl, e2, e3, if_true]
  simp only [Bool.and_true, decide_true]
  rw [fwHeaderOk_append _ _ _ _ (by omega), hh]

end Dev

end Sys2Proof.Machine
end

