-- ==== Sys2Proof/Laws/Field.lean ====
section
/-! SUPPORT. The laws of register fields: what a field reads as after a write of itself, and of another field of
the same word. -/

namespace Sys2Proof

theorem withField_toNat (x : Word) {lsb w : Nat} (v : Nat) (h : lsb + w ≤ 32) :
    (withField x lsb w v).toNat
      = x.toNat % 2 ^ lsb + (v % 2 ^ w) * 2 ^ lsb + x.toNat / 2 ^ (lsb + w) * 2 ^ (lsb + w) := by
  unfold withField
  rw [BitVec.toNat_ofNat]
  apply Nat.mod_eq_of_lt
  have hx : x.toNat < 2 ^ 32 := x.isLt
  have h1 : x.toNat % 2 ^ lsb < 2 ^ lsb := Nat.mod_lt _ (Nat.two_pow_pos _)
  have h2 : v % 2 ^ w < 2 ^ w := Nat.mod_lt _ (Nat.two_pow_pos _)
  have h3 : x.toNat % 2 ^ lsb + v % 2 ^ w * 2 ^ lsb < 2 ^ (lsb + w) := by
    rw [pow_add]
    calc x.toNat % 2 ^ lsb + v % 2 ^ w * 2 ^ lsb < 2 ^ lsb + v % 2 ^ w * 2 ^ lsb := by omega
      _ = (v % 2 ^ w + 1) * 2 ^ lsb := by ring
      _ ≤ 2 ^ w * 2 ^ lsb := Nat.mul_le_mul_right _ h2
      _ = 2 ^ lsb * 2 ^ w := by ring
  have h4 : x.toNat / 2 ^ (lsb + w) < 2 ^ (32 - (lsb + w)) := by
    rw [Nat.div_lt_iff_lt_mul (Nat.two_pow_pos _), ← pow_add]
    rwa [Nat.sub_add_cancel h]
  calc _ < 2 ^ (lsb + w) + x.toNat / 2 ^ (lsb + w) * 2 ^ (lsb + w) := by omega
    _ = (x.toNat / 2 ^ (lsb + w) + 1) * 2 ^ (lsb + w) := by ring
    _ ≤ 2 ^ (32 - (lsb + w)) * 2 ^ (lsb + w) := Nat.mul_le_mul_right _ h4
    _ = 2 ^ 32 := by rw [← pow_add, Nat.sub_add_cancel h]

/-- A field reads as it was written. -/
theorem fieldOf_withField_self (x : Word) {lsb w : Nat} (v : Nat) (h : lsb + w ≤ 32) :
    fieldOf (withField x lsb w v) lsb w = v % 2 ^ w := by
  unfold fieldOf
  rw [withField_toNat x v h]
  have h1 : x.toNat % 2 ^ lsb < 2 ^ lsb := Nat.mod_lt _ (Nat.two_pow_pos _)
  have e : x.toNat % 2 ^ lsb + v % 2 ^ w * 2 ^ lsb + x.toNat / 2 ^ (lsb + w) * 2 ^ (lsb + w)
      = x.toNat % 2 ^ lsb + 2 ^ lsb * (v % 2 ^ w + 2 ^ w * (x.toNat / 2 ^ (lsb + w))) := by
    rw [pow_add]; ring
  rw [e, Nat.add_mul_div_left _ _ (Nat.two_pow_pos _), Nat.div_eq_of_lt h1, Nat.zero_add,
    Nat.add_mul_mod_self_left, Nat.mod_mod]

/-- Bit `i` of a word with a field replaced. -/
theorem testBit_withField (x : Word) {lsb w : Nat} (v : Nat) (h : lsb + w ≤ 32) (i : Nat) :
    (withField x lsb w v).toNat.testBit i
      = if lsb ≤ i ∧ i < lsb + w then v.testBit (i - lsb) else x.toNat.testBit i := by
  rw [withField_toNat x v h]
  have e : x.toNat % 2 ^ lsb + v % 2 ^ w * 2 ^ lsb + x.toNat / 2 ^ (lsb + w) * 2 ^ (lsb + w)
      = 2 ^ lsb * (2 ^ w * (x.toNat / 2 ^ (lsb + w)) + v % 2 ^ w) + x.toNat % 2 ^ lsb := by
    rw [pow_add]; ring
  rw [e, Nat.testBit_two_pow_mul_add _ (Nat.mod_lt _ (Nat.two_pow_pos _))]
  by_cases h1 : i < lsb
  · have : ¬ (lsb ≤ i ∧ i < lsb + w) := by omega
    simp [h1, this, Nat.testBit_mod_two_pow]
  · rw [if_neg h1, Nat.testBit_two_pow_mul_add _ (Nat.mod_lt _ (Nat.two_pow_pos _))]
    by_cases h2 : i - lsb < w
    · have : lsb ≤ i ∧ i < lsb + w := by omega
      simp [h2, this, Nat.testBit_mod_two_pow]
    · have : ¬ (lsb ≤ i ∧ i < lsb + w) := by omega
      have hi : i - lsb - w + (lsb + w) = i := by omega
      simp only [h2, if_false, this, Nat.testBit_div_two_pow, hi]

/-- Bit `i` of a field. -/
theorem testBit_fieldOf (x : Word) (lsb w i : Nat) :
    (fieldOf x lsb w).testBit i = (decide (i < w) && x.toNat.testBit (lsb + i)) := by
  unfold fieldOf
  rw [Nat.testBit_mod_two_pow, Nat.testBit_div_two_pow, Nat.add_comm]

/-- A write of a field leaves a field of other bits as it was. -/
theorem fieldOf_withField_ne (x : Word) {lsb w l2 w2 : Nat} (v : Nat) (h : lsb + w ≤ 32)
    (hd : l2 + w2 ≤ lsb ∨ lsb + w ≤ l2) : fieldOf (withField x lsb w v) l2 w2 = fieldOf x l2 w2 := by
  apply Nat.eq_of_testBit_eq
  intro i
  rw [testBit_fieldOf, testBit_fieldOf, testBit_withField x v h]
  by_cases hi : i < w2
  · have : ¬ (lsb ≤ l2 + i ∧ l2 + i < lsb + w) := by omega
    simp [this]
  · simp [hi]

/-- A field lies below its width's power of two. -/
theorem fieldOf_lt (x : Word) (lsb w : Nat) : fieldOf x lsb w < 2 ^ w := Nat.mod_lt _ (Nat.two_pow_pos _)

/-- Writing a field twice is writing it once. -/
theorem withField_withField (x : Word) {lsb w : Nat} (u v : Nat) (h : lsb + w ≤ 32) :
    withField (withField x lsb w u) lsb w v = withField x lsb w v := by
  apply BitVec.eq_of_toNat_eq
  apply Nat.eq_of_testBit_eq
  intro i
  simp only [testBit_withField _ _ h]
  split <;> rfl

/-- Writing what a field holds changes nothing. -/
theorem withField_fieldOf (x : Word) {lsb w : Nat} (h : lsb + w ≤ 32) :
    withField x lsb w (fieldOf x lsb w) = x := by
  apply BitVec.eq_of_toNat_eq
  apply Nat.eq_of_testBit_eq
  intro i
  rw [testBit_withField _ _ h]
  split
  · rename_i hi
    rw [testBit_fieldOf]
    have : lsb + (i - lsb) = i := by omega
    have h2 : i - lsb < w := by omega
    simp [this, h2]
  · rfl

end Sys2Proof
end

