-- ==== Sys2Proof/Laws/Store.lean ====
section
/-! SUPPORT. The laws of the sparse store: what a key reads as after a write, and that every operation keeps the
canonical form. -/

namespace Sys2Proof.Machine

namespace SMap

variable {α : Type}

theorem get_erase_self (dflt : α) (m : SMap α) (k : Nat) : (m.erase k).get dflt k = dflt := by
  induction m with
  | nil => rfl
  | cons e m ih =>
    obtain ⟨i, v⟩ := e
    by_cases h : i = k <;> simp [erase, get, h, ih]

theorem get_erase_ne (dflt : α) (m : SMap α) {k j : Nat} (h : j ≠ k) :
    (m.erase k).get dflt j = m.get dflt j := by
  induction m with
  | nil => rfl
  | cons e m ih =>
    obtain ⟨i, v⟩ := e
    by_cases hk : i = k
    · subst hk; simp [erase, get, ih, Ne.symm h]
    · simp [erase, get, hk, ih]

/-- What holds of every listed value and of the default holds of what any key reads as. -/
theorem get_of_all {p : α → Bool} {dflt : α} (m : SMap α) (k : Nat) (h : (m.all fun e => p e.2) = true)
    (hd : p dflt = true) : p (m.get dflt k) = true := by
  induction m with
  | nil => exact hd
  | cons e m ih =>
    simp only [List.all_cons, Bool.and_eq_true] at h
    by_cases he : e.1 = k <;> simp [get, he, h.1, ih h.2]

theorem get_insert_self (dflt : α) (m : SMap α) (k : Nat) (v : α) : (m.insert k v).get dflt k = v := by
  induction m with
  | nil => simp [insert, get]
  | cons e m ih =>
    obtain ⟨i, x⟩ := e
    unfold insert
    split
    · simp [get]
    · split
      · simp [get]
      · rename_i h1 h2; simp [get, Ne.symm h2, ih]

theorem get_insert_ne (dflt : α) (m : SMap α) {k j : Nat} (v : α) (h : j ≠ k) :
    (m.insert k v).get dflt j = m.get dflt j := by
  induction m with
  | nil => simp [insert, get, Ne.symm h]
  | cons e m ih =>
    obtain ⟨i, x⟩ := e
    unfold insert
    split
    · simp [get, Ne.symm h]
    · split
      · rename_i h1 h2; subst h2; simp [get, Ne.symm h]
      · simp [get, ih]

/-- A key reads as it was last written. -/
@[simp] theorem get_put_self [DecidableEq α] (dflt : α) (m : SMap α) (k : Nat) (v : α) :
    (m.put dflt k v).get dflt k = v := by
  unfold put
  split
  · rename_i h; rw [get_erase_self, h]
  · exact get_insert_self dflt m k v

/-- A write leaves every other key as it was, whatever each key reads as by default. -/
theorem get_put_ne [DecidableEq α] (d1 d2 : α) (m : SMap α) {k j : Nat} (v : α) (h : j ≠ k) :
    (m.put d1 k v).get d2 j = m.get d2 j := by
  unfold put
  split
  · exact get_erase_ne d2 m h
  · exact get_insert_ne d2 m v h

/-! ## The canonical form -/

theorem sortedFrom_weaken {lo lo' : Nat} {m : SMap α} (h : sortedFrom (some lo') m = true) (hl : lo ≤ lo') :
    sortedFrom (some lo) m = true := by
  cases m with
  | nil => rfl
  | cons e m =>
    obtain ⟨i, x⟩ := e
    simp only [sortedFrom, Bool.and_eq_true, decide_eq_true_eq] at h ⊢
    exact ⟨by omega, h.2⟩

theorem sortedFrom_none {lo : Nat} {m : SMap α} (h : sortedFrom (some lo) m = true) :
    sortedFrom none m = true := by
  cases m with
  | nil => rfl
  | cons e m =>
    obtain ⟨i, x⟩ := e
    simp only [sortedFrom, Bool.and_eq_true] at h ⊢
    exact h.2

theorem sortedFrom_tail {o : Option Nat} {i : Nat} {x : α} {m : SMap α}
    (h : sortedFrom o ((i, x) :: m) = true) : sortedFrom (some i) m = true := by
  cases o <;> simp_all [sortedFrom]

theorem sortedFrom_cons {o : Option Nat} {i : Nat} {x : α} {m : SMap α} (h1 : ∀ l, o = some l → l < i)
    (h2 : sortedFrom (some i) m = true) : sortedFrom o ((i, x) :: m) = true := by
  cases o with
  | none => simpa [sortedFrom] using h2
  | some l => simp [sortedFrom, h1 l rfl, h2]

theorem sortedFrom_head {o : Option Nat} {i : Nat} {x : α} {m : SMap α}
    (h : sortedFrom o ((i, x) :: m) = true) : ∀ l, o = some l → l < i := by
  intro l hl; subst hl; simp_all [sortedFrom]

theorem sortedFrom_filter (p : Nat × α → Bool) {o : Option Nat} {m : SMap α}
    (h : sortedFrom o m = true) : sortedFrom o (m.filter p) = true := by
  induction m generalizing o with
  | nil => simp [sortedFrom]
  | cons e m ih =>
    obtain ⟨i, x⟩ := e
    have ht := ih (sortedFrom_tail h)
    rw [List.filter_cons]
    split
    · exact sortedFrom_cons (sortedFrom_head h) ht
    · cases o with
      | none => exact sortedFrom_none ht
      | some l => exact sortedFrom_weaken ht (Nat.le_of_lt (sortedFrom_head h l rfl))

theorem sortedFrom_filterMap (f : Nat × α → Option (Nat × α)) (hf : ∀ e e', f e = some e' → e'.1 = e.1)
    {o : Option Nat} {m : SMap α} (h : sortedFrom o m = true) : sortedFrom o (m.filterMap f) = true := by
  induction m generalizing o with
  | nil => simp [sortedFrom]
  | cons e m ih =>
    obtain ⟨i, x⟩ := e
    have ht := ih (sortedFrom_tail h)
    rw [List.filterMap_cons]
    split
    · cases o with
      | none => exact sortedFrom_none ht
      | some l => exact sortedFrom_weaken ht (Nat.le_of_lt (sortedFrom_head h l rfl))
    · rename_i e' he
      have hk : e'.1 = i := hf _ _ he
      obtain ⟨i', x'⟩ := e'
      subst hk
      exact sortedFrom_cons (sortedFrom_head h) ht

theorem erase_eq_filter (m : SMap α) (k : Nat) : m.erase k = m.filter (fun e => e.1 != k) := by
  induction m with
  | nil => rfl
  | cons e m ih =>
    obtain ⟨i, v⟩ := e
    by_cases h : i = k <;> simp [erase, h, ih]

theorem sortedFrom_insert {o : Option Nat} {m : SMap α} {k : Nat} (v : α) (ho : ∀ l, o = some l → l < k)
    (h : sortedFrom o m = true) : sortedFrom o (m.insert k v) = true := by
  induction m generalizing o with
  | nil => exact sortedFrom_cons ho rfl
  | cons e m ih =>
    obtain ⟨i, x⟩ := e
    unfold insert
    split
    · rename_i hk
      exact sortedFrom_cons ho (sortedFrom_cons (by rintro l ⟨⟩; exact hk) (sortedFrom_tail h))
    · split
      · rename_i h1 h2
        subst h2
        exact sortedFrom_cons ho (sortedFrom_tail h)
      · rename_i h1 h2
        refine sortedFrom_cons (sortedFrom_head h) (ih ?_ (sortedFrom_tail h))
        rintro l ⟨⟩; omega

theorem mem_insert {m : SMap α} {k : Nat} {v : α} {e : Nat × α} (h : e ∈ m.insert k v) :
    e = (k, v) ∨ e ∈ m := by
  induction m with
  | nil => simpa [insert] using h
  | cons a m ih =>
    obtain ⟨i, x⟩ := a
    unfold insert at h
    split at h
    · simpa using h
    · split at h
      · rcases List.mem_cons.mp h with h | h
        · exact .inl h
        · exact .inr (List.mem_cons_of_mem _ h)
      · rcases List.mem_cons.mp h with h | h
        · exact .inr (by simp [h])
        · rcases ih h with h | h
          · exact .inl h
          · exact .inr (List.mem_cons_of_mem _ h)

theorem wf_nil [DecidableEq α] (dflt : Nat → α) : wf dflt ([] : SMap α) = true := rfl

/-- Writing a key keeps the canonical form. -/
theorem wf_put [DecidableEq α] (dflt : Nat → α) {m : SMap α} (k : Nat) (v : α) (h : wf dflt m = true) :
    wf dflt (m.put (dflt k) k v) = true := by
  simp only [wf, Bool.and_eq_true, List.all_eq_true, decide_eq_true_eq] at h ⊢
  unfold put
  split
  · rw [erase_eq_filter]
    exact ⟨sortedFrom_filter _ h.1, fun e he => h.2 e (List.mem_of_mem_filter he)⟩
  · rename_i hv
    refine ⟨sortedFrom_insert v (by simp) h.1, fun e he => ?_⟩
    rcases mem_insert he with rfl | he
    · exact hv
    · exact h.2 e he

/-- Dropping entries keeps the canonical form. -/
theorem wf_only [DecidableEq α] (dflt : Nat → α) {m : SMap α} (keep : Nat → Bool) (h : wf dflt m = true) :
    wf dflt (m.only keep) = true := by
  simp only [wf, only, Bool.and_eq_true, List.all_eq_true, decide_eq_true_eq] at h ⊢
  exact ⟨sortedFrom_filter _ h.1, fun e he => h.2 e (List.mem_of_mem_filter he)⟩

/-- Mapping the entries keeps the canonical form. -/
theorem wf_remap [DecidableEq α] (dflt : Nat → α) {m : SMap α} (f : Nat → α → α) (h : wf dflt m = true) :
    wf dflt (m.remap dflt f) = true := by
  simp only [wf, remap, Bool.and_eq_true, List.all_eq_true, decide_eq_true_eq] at h ⊢
  refine ⟨sortedFrom_filterMap _ ?_ h.1, ?_⟩
  · intro e e' he; split at he <;> simp_all; rw [← he]
  · intro e he
    obtain ⟨a, -, ha⟩ := List.mem_filterMap.mp he
    split at ha <;> simp_all
    rw [← ha]; simpa using ‹_›

/-- What a key reads as once entries are dropped. -/
theorem get_only [DecidableEq α] (dflt : α) (m : SMap α) (keep : Nat → Bool) (k : Nat) :
    (m.only keep).get dflt k = if keep k then m.get dflt k else dflt := by
  induction m with
  | nil => simp [only, get]
  | cons e m ih =>
    obtain ⟨i, v⟩ := e
    simp only [only, List.filter_cons] at ih ⊢
    by_cases hi : i = k
    · subst hi; split <;> simp_all [get]
    · split <;> simp_all [get]

end SMap

end Sys2Proof.Machine
end

