-- ==== Sys2Proof/Laws/State.lean ====
section
/-! SUPPORT. The laws of the state: what each field of the device is after each of the elementary updates, what a
register field reads as after a write, and how a command runs on a device that has nothing to settle. -/

namespace Sys2Proof.Machine

namespace Dev

/-! ## A register's word -/

@[simp] theorem word_putWord_self (d : Dev) (o : Nat) (x : Word) : (d.putWord o x).word o = x := by
  simp [word, putWord]

theorem word_putWord_ne (d : Dev) {o p : Nat} (x : Word) (h : p ≠ o) : (d.putWord o x).word p = d.word p := by
  simp [word, putWord, SMap.get_put_ne _ _ _ _ h]

@[simp] theorem word_set_self (d : Dev) (f : Fld) (v : Nat) :
    (d.set f v).word f.off = withField (d.word f.off) f.lsb f.w v := by simp [set]

theorem word_set_ne (d : Dev) (f : Fld) (v : Nat) {p : Nat} (h : p ≠ f.off) :
    (d.set f v).word p = d.word p := by simp [set, word_putWord_ne _ _ h]

/-- A field reads as it was written. -/
theorem get_set_self (d : Dev) (f : Fld) (v : Nat) (h : f.lsb + f.w ≤ 32) :
    (d.set f v).get f = v % 2 ^ f.w := by simp [get, fieldOf_withField_self _ _ h]

/-- A field of another register reads as before. -/
theorem get_set_off (d : Dev) (f g : Fld) (v : Nat) (h : g.off ≠ f.off) : (d.set f v).get g = d.get g := by
  simp [get, word_set_ne _ _ _ h]

/-- Another field of the same register reads as before. -/
theorem get_set_ne (d : Dev) (f g : Fld) (v : Nat) (h : f.lsb + f.w ≤ 32)
    (hd : g.lsb + g.w ≤ f.lsb ∨ f.lsb + f.w ≤ g.lsb) : (d.set f v).get g = d.get g := by
  by_cases ho : g.off = f.off
  · simp only [get, ho, word_set_self, fieldOf_withField_ne _ _ h hd]
  · exact get_set_off d f g v ho

/-- A bit that is raised reads 1. -/
theorem on_raise_self (d : Dev) (f : Fld) (h : f.lsb + f.w ≤ 32) (hw : 0 < f.w) : (d.raise f).on f = true := by
  have : 1 < 2 ^ f.w := Nat.one_lt_two_pow (by omega)
  simp [on, raise, get_set_self _ _ _ h, Nat.mod_eq_of_lt this]

/-- A field that is cleared reads 0. -/
theorem on_clear_self (d : Dev) (f : Fld) (h : f.lsb + f.w ≤ 32) : (d.clear f).on f = false := by
  simp [on, clear, get_set_self _ _ _ h]

theorem raise_eq (d : Dev) (f : Fld) : d.raise f = d.set f 1 := rfl
theorem clear_eq (d : Dev) (f : Fld) : d.clear f = d.set f 0 := rfl
theorem setBit_eq (d : Dev) (f : Fld) (b : Bool) : d.setBit f b = d.set f (if b then 1 else 0) := rfl

/-! ## Every other field after a write of a register -/

@[simp] theorem putWord_unlocks (d : Dev) (o : Nat) (x : Word) : (d.putWord o x).unlocks = d.unlocks := rfl
@[simp] theorem putWord_parityFailed (d : Dev) (o : Nat) (x : Word) : (d.putWord o x).parityFailed = d.parityFailed := rfl
@[simp] theorem putWord_kept (d : Dev) (o : Nat) (x : Word) : (d.putWord o x).kept = d.kept := rfl
@[simp] theorem putWord_changes (d : Dev) (o : Nat) (x : Word) : (d.putWord o x).changes = d.changes := rfl
@[simp] theorem putWord_cmds (d : Dev) (o : Nat) (x : Word) : (d.putWord o x).cmds = d.cmds := rfl
@[simp] theorem putWord_held (d : Dev) (o : Nat) (x : Word) : (d.putWord o x).held = d.held := rfl
@[simp] theorem putWord_offFlags (d : Dev) (o : Nat) (x : Word) : (d.putWord o x).offFlags = d.offFlags := rfl
@[simp] theorem putWord_fwObjects (d : Dev) (o : Nat) (x : Word) : (d.putWord o x).fwObjects = d.fwObjects := rfl
@[simp] theorem putWord_userMap (d : Dev) (o : Nat) (x : Word) : (d.putWord o x).userMap = d.userMap := rfl
@[simp] theorem putWord_frames (d : Dev) (o : Nat) (x : Word) : (d.putWord o x).frames = d.frames := rfl
@[simp] theorem putWord_ff (d : Dev) (o : Nat) (x : Word) : (d.putWord o x).ff = d.ff := rfl
@[simp] theorem putWord_borderIn (d : Dev) (o : Nat) (x : Word) : (d.putWord o x).borderIn = d.borderIn := rfl
@[simp] theorem putWord_borderHold (d : Dev) (o : Nat) (x : Word) : (d.putWord o x).borderHold = d.borderHold := rfl
@[simp] theorem putWord_io (d : Dev) (o : Nat) (x : Word) : (d.putWord o x).io = d.io := rfl
@[simp] theorem putWord_pins (d : Dev) (o : Nat) (x : Word) : (d.putWord o x).pins = d.pins := rfl
@[simp] theorem putWord_vccio (d : Dev) (o : Nat) (x : Word) : (d.putWord o x).vccio = d.vccio := rfl
@[simp] theorem putWord_trunkOff (d : Dev) (o : Nat) (x : Word) : (d.putWord o x).trunkOff = d.trunkOff := rfl
@[simp] theorem putWord_trunkFixed (d : Dev) (o : Nat) (x : Word) : (d.putWord o x).trunkFixed = d.trunkFixed := rfl
@[simp] theorem putWord_cells (d : Dev) (o : Nat) (x : Word) : (d.putWord o x).cells = d.cells := rfl
@[simp] theorem putWord_deadSpares (d : Dev) (o : Nat) (x : Word) : (d.putWord o x).deadSpares = d.deadSpares := rfl
@[simp] theorem putWord_verify (d : Dev) (o : Nat) (x : Word) : (d.putWord o x).verify = d.verify := rfl
@[simp] theorem putWord_log (d : Dev) (o : Nat) (x : Word) : (d.putWord o x).log = d.log := rfl
@[simp] theorem putWord_march (d : Dev) (o : Nat) (x : Word) : (d.putWord o x).march = d.march := rfl
@[simp] theorem putWord_ctPending (d : Dev) (o : Nat) (x : Word) : (d.putWord o x).ctPending = d.ctPending := rfl
@[simp] theorem putWord_attach (d : Dev) (o : Nat) (x : Word) : (d.putWord o x).attach = d.attach := rfl
@[simp] theorem putWord_bm (d : Dev) (o : Nat) (x : Word) : (d.putWord o x).bm = d.bm := rfl
@[simp] theorem putWord_fs (d : Dev) (o : Nat) (x : Word) : (d.putWord o x).fs = d.fs := rfl
@[simp] theorem putWord_gck (d : Dev) (o : Nat) (x : Word) : (d.putWord o x).gck = d.gck := rfl
@[simp] theorem putWord_rootLost (d : Dev) (o : Nat) (x : Word) : (d.putWord o x).rootLost = d.rootLost := rfl
@[simp] theorem putWord_rootT0 (d : Dev) (o : Nat) (x : Word) : (d.putWord o x).rootT0 = d.rootT0 := rfl
@[simp] theorem putWord_slice (d : Dev) (o : Nat) (x : Word) : (d.putWord o x).slice = d.slice := rfl
@[simp] theorem putWord_dspEdge (d : Dev) (o : Nat) (x : Word) : (d.putWord o x).dspEdge = d.dspEdge := rfl
@[simp] theorem putWord_fastWant (d : Dev) (o : Nat) (x : Word) : (d.putWord o x).fastWant = d.fastWant := rfl
@[simp] theorem putWord_noc (d : Dev) (o : Nat) (x : Word) : (d.putWord o x).noc = d.noc := rfl
@[simp] theorem putWord_ni (d : Dev) (o : Nat) (x : Word) : (d.putWord o x).ni = d.ni := rfl
@[simp] theorem putWord_slots (d : Dev) (o : Nat) (x : Word) : (d.putWord o x).slots = d.slots := rfl
@[simp] theorem putWord_ch (d : Dev) (o : Nat) (x : Word) : (d.putWord o x).ch = d.ch := rfl
@[simp] theorem putWord_stripe (d : Dev) (o : Nat) (x : Word) : (d.putWord o x).stripe = d.stripe := rfl
@[simp] theorem putWord_ctxCache (d : Dev) (o : Nat) (x : Word) : (d.putWord o x).ctxCache = d.ctxCache := rfl
@[simp] theorem putWord_ctx (d : Dev) (o : Nat) (x : Word) : (d.putWord o x).ctx = d.ctx := rfl
@[simp] theorem putWord_rgn (d : Dev) (o : Nat) (x : Word) : (d.putWord o x).rgn = d.rgn := rfl
@[simp] theorem putWord_planes (d : Dev) (o : Nat) (x : Word) : (d.putWord o x).planes = d.planes := rfl
@[simp] theorem putWord_load (d : Dev) (o : Nat) (x : Word) : (d.putWord o x).load = d.load := rfl
@[simp] theorem putWord_boot (d : Dev) (o : Nat) (x : Word) : (d.putWord o x).boot = d.boot := rfl
@[simp] theorem putWord_keys (d : Dev) (o : Nat) (x : Word) : (d.putWord o x).keys = d.keys := rfl
@[simp] theorem putWord_scrub (d : Dev) (o : Nat) (x : Word) : (d.putWord o x).scrub = d.scrub := rfl
@[simp] theorem putWord_lanes (d : Dev) (o : Nat) (x : Word) : (d.putWord o x).lanes = d.lanes := rfl
@[simp] theorem putWord_plls (d : Dev) (o : Nat) (x : Word) : (d.putWord o x).plls = d.plls := rfl
@[simp] theorem putWord_pwr (d : Dev) (o : Nat) (x : Word) : (d.putWord o x).pwr = d.pwr := rfl
@[simp] theorem putWord_doms (d : Dev) (o : Nat) (x : Word) : (d.putWord o x).doms = d.doms := rfl
@[simp] theorem putWord_offCounts (d : Dev) (o : Nat) (x : Word) : (d.putWord o x).offCounts = d.offCounts := rfl
@[simp] theorem putWord_mp (d : Dev) (o : Nat) (x : Word) : (d.putWord o x).mp = d.mp := rfl
@[simp] theorem putWord_flash (d : Dev) (o : Nat) (x : Word) : (d.putWord o x).flash = d.flash := rfl
@[simp] theorem putWord_serial (d : Dev) (o : Nat) (x : Word) : (d.putWord o x).serial = d.serial := rfl
@[simp] theorem putWord_fwImage (d : Dev) (o : Nat) (x : Word) : (d.putWord o x).fwImage = d.fwImage := rfl
@[simp] theorem putWord_extImage (d : Dev) (o : Nat) (x : Word) : (d.putWord o x).extImage = d.extImage := rfl
@[simp] theorem putWord_tap (d : Dev) (o : Nat) (x : Word) : (d.putWord o x).tap = d.tap := rfl
@[simp] theorem putWord_wdtFrac (d : Dev) (o : Nat) (x : Word) : (d.putWord o x).wdtFrac = d.wdtFrac := rfl
@[simp] theorem putWord_pack (d : Dev) (o : Nat) (x : Word) : (d.putWord o x).pack = d.pack := rfl
@[simp] theorem putWord_wb (d : Dev) (o : Nat) (x : Word) : (d.putWord o x).wb = d.wb := rfl
@[simp] theorem putWord_port0 (d : Dev) (o : Nat) (x : Word) : (d.putWord o x).port0 = d.port0 := rfl
@[simp] theorem putWord_port1 (d : Dev) (o : Nat) (x : Word) : (d.putWord o x).port1 = d.port1 := rfl
@[simp] theorem putWord_start (d : Dev) (o : Nat) (x : Word) : (d.putWord o x).start = d.start := rfl
@[simp] theorem putWord_time (d : Dev) (o : Nat) (x : Word) : (d.putWord o x).time = d.time := rfl
@[simp] theorem putWord_fresh (d : Dev) (o : Nat) (x : Word) : (d.putWord o x).fresh = d.fresh := rfl
@[simp] theorem putWord_answer (d : Dev) (o : Nat) (x : Word) : (d.putWord o x).answer = d.answer := rfl

@[simp] theorem set_unlocks (d : Dev) (f : Fld) (v : Nat) : (d.set f v).unlocks = d.unlocks := rfl
@[simp] theorem set_parityFailed (d : Dev) (f : Fld) (v : Nat) : (d.set f v).parityFailed = d.parityFailed := rfl
@[simp] theorem set_kept (d : Dev) (f : Fld) (v : Nat) : (d.set f v).kept = d.kept := rfl
@[simp] theorem set_changes (d : Dev) (f : Fld) (v : Nat) : (d.set f v).changes = d.changes := rfl
@[simp] theorem set_cmds (d : Dev) (f : Fld) (v : Nat) : (d.set f v).cmds = d.cmds := rfl
@[simp] theorem set_held (d : Dev) (f : Fld) (v : Nat) : (d.set f v).held = d.held := rfl
@[simp] theorem set_offFlags (d : Dev) (f : Fld) (v : Nat) : (d.set f v).offFlags = d.offFlags := rfl
@[simp] theorem set_fwObjects (d : Dev) (f : Fld) (v : Nat) : (d.set f v).fwObjects = d.fwObjects := rfl
@[simp] theorem set_userMap (d : Dev) (f : Fld) (v : Nat) : (d.set f v).userMap = d.userMap := rfl
@[simp] theorem set_frames (d : Dev) (f : Fld) (v : Nat) : (d.set f v).frames = d.frames := rfl
@[simp] theorem set_ff (d : Dev) (f : Fld) (v : Nat) : (d.set f v).ff = d.ff := rfl
@[simp] theorem set_borderIn (d : Dev) (f : Fld) (v : Nat) : (d.set f v).borderIn = d.borderIn := rfl
@[simp] theorem set_borderHold (d : Dev) (f : Fld) (v : Nat) : (d.set f v).borderHold = d.borderHold := rfl
@[simp] theorem set_io (d : Dev) (f : Fld) (v : Nat) : (d.set f v).io = d.io := rfl
@[simp] theorem set_pins (d : Dev) (f : Fld) (v : Nat) : (d.set f v).pins = d.pins := rfl
@[simp] theorem set_vccio (d : Dev) (f : Fld) (v : Nat) : (d.set f v).vccio = d.vccio := rfl
@[simp] theorem set_trunkOff (d : Dev) (f : Fld) (v : Nat) : (d.set f v).trunkOff = d.trunkOff := rfl
@[simp] theorem set_trunkFixed (d : Dev) (f : Fld) (v : Nat) : (d.set f v).trunkFixed = d.trunkFixed := rfl
@[simp] theorem set_cells (d : Dev) (f : Fld) (v : Nat) : (d.set f v).cells = d.cells := rfl
@[simp] theorem set_deadSpares (d : Dev) (f : Fld) (v : Nat) : (d.set f v).deadSpares = d.deadSpares := rfl
@[simp] theorem set_verify (d : Dev) (f : Fld) (v : Nat) : (d.set f v).verify = d.verify := rfl
@[simp] theorem set_log (d : Dev) (f : Fld) (v : Nat) : (d.set f v).log = d.log := rfl
@[simp] theorem set_march (d : Dev) (f : Fld) (v : Nat) : (d.set f v).march = d.march := rfl
@[simp] theorem set_ctPending (d : Dev) (f : Fld) (v : Nat) : (d.set f v).ctPending = d.ctPending := rfl
@[simp] theorem set_attach (d : Dev) (f : Fld) (v : Nat) : (d.set f v).attach = d.attach := rfl
@[simp] theorem set_bm (d : Dev) (f : Fld) (v : Nat) : (d.set f v).bm = d.bm := rfl
@[simp] theorem set_fs (d : Dev) (f : Fld) (v : Nat) : (d.set f v).fs = d.fs := rfl
@[simp] theorem set_gck (d : Dev) (f : Fld) (v : Nat) : (d.set f v).gck = d.gck := rfl
@[simp] theorem set_rootLost (d : Dev) (f : Fld) (v : Nat) : (d.set f v).rootLost = d.rootLost := rfl
@[simp] theorem set_rootT0 (d : Dev) (f : Fld) (v : Nat) : (d.set f v).rootT0 = d.rootT0 := rfl
@[simp] theorem set_slice (d : Dev) (f : Fld) (v : Nat) : (d.set f v).slice = d.slice := rfl
@[simp] theorem set_dspEdge (d : Dev) (f : Fld) (v : Nat) : (d.set f v).dspEdge = d.dspEdge := rfl
@[simp] theorem set_fastWant (d : Dev) (f : Fld) (v : Nat) : (d.set f v).fastWant = d.fastWant := rfl
@[simp] theorem set_noc (d : Dev) (f : Fld) (v : Nat) : (d.set f v).noc = d.noc := rfl
@[simp] theorem set_ni (d : Dev) (f : Fld) (v : Nat) : (d.set f v).ni = d.ni := rfl
@[simp] theorem set_slots (d : Dev) (f : Fld) (v : Nat) : (d.set f v).slots = d.slots := rfl
@[simp] theorem set_ch (d : Dev) (f : Fld) (v : Nat) : (d.set f v).ch = d.ch := rfl
@[simp] theorem set_stripe (d : Dev) (f : Fld) (v : Nat) : (d.set f v).stripe = d.stripe := rfl
@[simp] theorem set_ctxCache (d : Dev) (f : Fld) (v : Nat) : (d.set f v).ctxCache = d.ctxCache := rfl
@[simp] theorem set_ctx (d : Dev) (f : Fld) (v : Nat) : (d.set f v).ctx = d.ctx := rfl
@[simp] theorem set_rgn (d : Dev) (f : Fld) (v : Nat) : (d.set f v).rgn = d.rgn := rfl
@[simp] theorem set_planes (d : Dev) (f : Fld) (v : Nat) : (d.set f v).planes = d.planes := rfl
@[simp] theorem set_load (d : Dev) (f : Fld) (v : Nat) : (d.set f v).load = d.load := rfl
@[simp] theorem set_boot (d : Dev) (f : Fld) (v : Nat) : (d.set f v).boot = d.boot := rfl
@[simp] theorem set_keys (d : Dev) (f : Fld) (v : Nat) : (d.set f v).keys = d.keys := rfl
@[simp] theorem set_scrub (d : Dev) (f : Fld) (v : Nat) : (d.set f v).scrub = d.scrub := rfl
@[simp] theorem set_lanes (d : Dev) (f : Fld) (v : Nat) : (d.set f v).lanes = d.lanes := rfl
@[simp] theorem set_plls (d : Dev) (f : Fld) (v : Nat) : (d.set f v).plls = d.plls := rfl
@[simp] theorem set_pwr (d : Dev) (f : Fld) (v : Nat) : (d.set f v).pwr = d.pwr := rfl
@[simp] theorem set_doms (d : Dev) (f : Fld) (v : Nat) : (d.set f v).doms = d.doms := rfl
@[simp] theorem set_offCounts (d : Dev) (f : Fld) (v : Nat) : (d.set f v).offCounts = d.offCounts := rfl
@[simp] theorem set_mp (d : Dev) (f : Fld) (v : Nat) : (d.set f v).mp = d.mp := rfl
@[simp] theorem set_flash (d : Dev) (f : Fld) (v : Nat) : (d.set f v).flash = d.flash := rfl
@[simp] theorem set_serial (d : Dev) (f : Fld) (v : Nat) : (d.set f v).serial = d.serial := rfl
@[simp] theorem set_fwImage (d : Dev) (f : Fld) (v : Nat) : (d.set f v).fwImage = d.fwImage := rfl
@[simp] theorem set_extImage (d : Dev) (f : Fld) (v : Nat) : (d.set f v).extImage = d.extImage := rfl
@[simp] theorem set_tap (d : Dev) (f : Fld) (v : Nat) : (d.set f v).tap = d.tap := rfl
@[simp] theorem set_wdtFrac (d : Dev) (f : Fld) (v : Nat) : (d.set f v).wdtFrac = d.wdtFrac := rfl
@[simp] theorem set_pack (d : Dev) (f : Fld) (v : Nat) : (d.set f v).pack = d.pack := rfl
@[simp] theorem set_wb (d : Dev) (f : Fld) (v : Nat) : (d.set f v).wb = d.wb := rfl
@[simp] theorem set_port0 (d : Dev) (f : Fld) (v : Nat) : (d.set f v).port0 = d.port0 := rfl
@[simp] theorem set_port1 (d : Dev) (f : Fld) (v : Nat) : (d.set f v).port1 = d.port1 := rfl
@[simp] theorem set_start (d : Dev) (f : Fld) (v : Nat) : (d.set f v).start = d.start := rfl
@[simp] theorem set_time (d : Dev) (f : Fld) (v : Nat) : (d.set f v).time = d.time := rfl
@[simp] theorem set_fresh (d : Dev) (f : Fld) (v : Nat) : (d.set f v).fresh = d.fresh := rfl
@[simp] theorem set_answer (d : Dev) (f : Fld) (v : Nat) : (d.set f v).answer = d.answer := rfl

@[simp] theorem raise_unlocks (d : Dev) (f : Fld) : (d.raise f).unlocks = d.unlocks := rfl
@[simp] theorem raise_parityFailed (d : Dev) (f : Fld) : (d.raise f).parityFailed = d.parityFailed := rfl
@[simp] theorem raise_kept (d : Dev) (f : Fld) : (d.raise f).kept = d.kept := rfl
@[simp] theorem raise_changes (d : Dev) (f : Fld) : (d.raise f).changes = d.changes := rfl
@[simp] theorem raise_cmds (d : Dev) (f : Fld) : (d.raise f).cmds = d.cmds := rfl
@[simp] theorem raise_held (d : Dev) (f : Fld) : (d.raise f).held = d.held := rfl
@[simp] theorem raise_offFlags (d : Dev) (f : Fld) : (d.raise f).offFlags = d.offFlags := rfl
@[simp] theorem raise_fwObjects (d : Dev) (f : Fld) : (d.raise f).fwObjects = d.fwObjects := rfl
@[simp] theorem raise_userMap (d : Dev) (f : Fld) : (d.raise f).userMap = d.userMap := rfl
@[simp] theorem raise_frames (d : Dev) (f : Fld) : (d.raise f).frames = d.frames := rfl
@[simp] theorem raise_ff (d : Dev) (f : Fld) : (d.raise f).ff = d.ff := rfl
@[simp] theorem raise_borderIn (d : Dev) (f : Fld) : (d.raise f).borderIn = d.borderIn := rfl
@[simp] theorem raise_borderHold (d : Dev) (f : Fld) : (d.raise f).borderHold = d.borderHold := rfl
@[simp] theorem raise_io (d : Dev) (f : Fld) : (d.raise f).io = d.io := rfl
@[simp] theorem raise_pins (d : Dev) (f : Fld) : (d.raise f).pins = d.pins := rfl
@[simp] theorem raise_vccio (d : Dev) (f : Fld) : (d.raise f).vccio = d.vccio := rfl
@[simp] theorem raise_trunkOff (d : Dev) (f : Fld) : (d.raise f).trunkOff = d.trunkOff := rfl
@[simp] theorem raise_trunkFixed (d : Dev) (f : Fld) : (d.raise f).trunkFixed = d.trunkFixed := rfl
@[simp] theorem raise_cells (d : Dev) (f : Fld) : (d.raise f).cells = d.cells := rfl
@[simp] theorem raise_deadSpares (d : Dev) (f : Fld) : (d.raise f).deadSpares = d.deadSpares := rfl
@[simp] theorem raise_verify (d : Dev) (f : Fld) : (d.raise f).verify = d.verify := rfl
@[simp] theorem raise_log (d : Dev) (f : Fld) : (d.raise f).log = d.log := rfl
@[simp] theorem raise_march (d : Dev) (f : Fld) : (d.raise f).march = d.march := rfl
@[simp] theorem raise_ctPending (d : Dev) (f : Fld) : (d.raise f).ctPending = d.ctPending := rfl
@[simp] theorem raise_attach (d : Dev) (f : Fld) : (d.raise f).attach = d.attach := rfl
@[simp] theorem raise_bm (d : Dev) (f : Fld) : (d.raise f).bm = d.bm := rfl
@[simp] theorem raise_fs (d : Dev) (f : Fld) : (d.raise f).fs = d.fs := rfl
@[simp] theorem raise_gck (d : Dev) (f : Fld) : (d.raise f).gck = d.gck := rfl
@[simp] theorem raise_rootLost (d : Dev) (f : Fld) : (d.raise f).rootLost = d.rootLost := rfl
@[simp] theorem raise_rootT0 (d : Dev) (f : Fld) : (d.raise f).rootT0 = d.rootT0 := rfl
@[simp] theorem raise_slice (d : Dev) (f : Fld) : (d.raise f).slice = d.slice := rfl
@[simp] theorem raise_dspEdge (d : Dev) (f : Fld) : (d.raise f).dspEdge = d.dspEdge := rfl
@[simp] theorem raise_fastWant (d : Dev) (f : Fld) : (d.raise f).fastWant = d.fastWant := rfl
@[simp] theorem raise_noc (d : Dev) (f : Fld) : (d.raise f).noc = d.noc := rfl
@[simp] theorem raise_ni (d : Dev) (f : Fld) : (d.raise f).ni = d.ni := rfl
@[simp] theorem raise_slots (d : Dev) (f : Fld) : (d.raise f).slots = d.slots := rfl
@[simp] theorem raise_ch (d : Dev) (f : Fld) : (d.raise f).ch = d.ch := rfl
@[simp] theorem raise_stripe (d : Dev) (f : Fld) : (d.raise f).stripe = d.stripe := rfl
@[simp] theorem raise_ctxCache (d : Dev) (f : Fld) : (d.raise f).ctxCache = d.ctxCache := rfl
@[simp] theorem raise_ctx (d : Dev) (f : Fld) : (d.raise f).ctx = d.ctx := rfl
@[simp] theorem raise_rgn (d : Dev) (f : Fld) : (d.raise f).rgn = d.rgn := rfl
@[simp] theorem raise_planes (d : Dev) (f : Fld) : (d.raise f).planes = d.planes := rfl
@[simp] theorem raise_load (d : Dev) (f : Fld) : (d.raise f).load = d.load := rfl
@[simp] theorem raise_boot (d : Dev) (f : Fld) : (d.raise f).boot = d.boot := rfl
@[simp] theorem raise_keys (d : Dev) (f : Fld) : (d.raise f).keys = d.keys := rfl
@[simp] theorem raise_scrub (d : Dev) (f : Fld) : (d.raise f).scrub = d.scrub := rfl
@[simp] theorem raise_lanes (d : Dev) (f : Fld) : (d.raise f).lanes = d.lanes := rfl
@[simp] theorem raise_plls (d : Dev) (f : Fld) : (d.raise f).plls = d.plls := rfl
@[simp] theorem raise_pwr (d : Dev) (f : Fld) : (d.raise f).pwr = d.pwr := rfl
@[simp] theorem raise_doms (d : Dev) (f : Fld) : (d.raise f).doms = d.doms := rfl
@[simp] theorem raise_offCounts (d : Dev) (f : Fld) : (d.raise f).offCounts = d.offCounts := rfl
@[simp] theorem raise_mp (d : Dev) (f : Fld) : (d.raise f).mp = d.mp := rfl
@[simp] theorem raise_flash (d : Dev) (f : Fld) : (d.raise f).flash = d.flash := rfl
@[simp] theorem raise_serial (d : Dev) (f : Fld) : (d.raise f).serial = d.serial := rfl
@[simp] theorem raise_fwImage (d : Dev) (f : Fld) : (d.raise f).fwImage = d.fwImage := rfl
@[simp] theorem raise_extImage (d : Dev) (f : Fld) : (d.raise f).extImage = d.extImage := rfl
@[simp] theorem raise_tap (d : Dev) (f : Fld) : (d.raise f).tap = d.tap := rfl
@[simp] theorem raise_wdtFrac (d : Dev) (f : Fld) : (d.raise f).wdtFrac = d.wdtFrac := rfl
@[simp] theorem raise_pack (d : Dev) (f : Fld) : (d.raise f).pack = d.pack := rfl
@[simp] theorem raise_wb (d : Dev) (f : Fld) : (d.raise f).wb = d.wb := rfl
@[simp] theorem raise_port0 (d : Dev) (f : Fld) : (d.raise f).port0 = d.port0 := rfl
@[simp] theorem raise_port1 (d : Dev) (f : Fld) : (d.raise f).port1 = d.port1 := rfl
@[simp] theorem raise_start (d : Dev) (f : Fld) : (d.raise f).start = d.start := rfl
@[simp] theorem raise_time (d : Dev) (f : Fld) : (d.raise f).time = d.time := rfl
@[simp] theorem raise_fresh (d : Dev) (f : Fld) : (d.raise f).fresh = d.fresh := rfl
@[simp] theorem raise_answer (d : Dev) (f : Fld) : (d.raise f).answer = d.answer := rfl

@[simp] theorem clear_unlocks (d : Dev) (f : Fld) : (d.clear f).unlocks = d.unlocks := rfl
@[simp] theorem clear_parityFailed (d : Dev) (f : Fld) : (d.clear f).parityFailed = d.parityFailed := rfl
@[simp] theorem clear_kept (d : Dev) (f : Fld) : (d.clear f).kept = d.kept := rfl
@[simp] theorem clear_changes (d : Dev) (f : Fld) : (d.clear f).changes = d.changes := rfl
@[simp] theorem clear_cmds (d : Dev) (f : Fld) : (d.clear f).cmds = d.cmds := rfl
@[simp] theorem clear_held (d : Dev) (f : Fld) : (d.clear f).held = d.held := rfl
@[simp] theorem clear_offFlags (d : Dev) (f : Fld) : (d.clear f).offFlags = d.offFlags := rfl
@[simp] theorem clear_fwObjects (d : Dev) (f : Fld) : (d.clear f).fwObjects = d.fwObjects := rfl
@[simp] theorem clear_userMap (d : Dev) (f : Fld) : (d.clear f).userMap = d.userMap := rfl
@[simp] theorem clear_frames (d : Dev) (f : Fld) : (d.clear f).frames = d.frames := rfl
@[simp] theorem clear_ff (d : Dev) (f : Fld) : (d.clear f).ff = d.ff := rfl
@[simp] theorem clear_borderIn (d : Dev) (f : Fld) : (d.clear f).borderIn = d.borderIn := rfl
@[simp] theorem clear_borderHold (d : Dev) (f : Fld) : (d.clear f).borderHold = d.borderHold := rfl
@[simp] theorem clear_io (d : Dev) (f : Fld) : (d.clear f).io = d.io := rfl
@[simp] theorem clear_pins (d : Dev) (f : Fld) : (d.clear f).pins = d.pins := rfl
@[simp] theorem clear_vccio (d : Dev) (f : Fld) : (d.clear f).vccio = d.vccio := rfl
@[simp] theorem clear_trunkOff (d : Dev) (f : Fld) : (d.clear f).trunkOff = d.trunkOff := rfl
@[simp] theorem clear_trunkFixed (d : Dev) (f : Fld) : (d.clear f).trunkFixed = d.trunkFixed := rfl
@[simp] theorem clear_cells (d : Dev) (f : Fld) : (d.clear f).cells = d.cells := rfl
@[simp] theorem clear_deadSpares (d : Dev) (f : Fld) : (d.clear f).deadSpares = d.deadSpares := rfl
@[simp] theorem clear_verify (d : Dev) (f : Fld) : (d.clear f).verify = d.verify := rfl
@[simp] theorem clear_log (d : Dev) (f : Fld) : (d.clear f).log = d.log := rfl
@[simp] theorem clear_march (d : Dev) (f : Fld) : (d.clear f).march = d.march := rfl
@[simp] theorem clear_ctPending (d : Dev) (f : Fld) : (d.clear f).ctPending = d.ctPending := rfl
@[simp] theorem clear_attach (d : Dev) (f : Fld) : (d.clear f).attach = d.attach := rfl
@[simp] theorem clear_bm (d : Dev) (f : Fld) : (d.clear f).bm = d.bm := rfl
@[simp] theorem clear_fs (d : Dev) (f : Fld) : (d.clear f).fs = d.fs := rfl
@[simp] theorem clear_gck (d : Dev) (f : Fld) : (d.clear f).gck = d.gck := rfl
@[simp] theorem clear_rootLost (d : Dev) (f : Fld) : (d.clear f).rootLost = d.rootLost := rfl
@[simp] theorem clear_rootT0 (d : Dev) (f : Fld) : (d.clear f).rootT0 = d.rootT0 := rfl
@[simp] theorem clear_slice (d : Dev) (f : Fld) : (d.clear f).slice = d.slice := rfl
@[simp] theorem clear_dspEdge (d : Dev) (f : Fld) : (d.clear f).dspEdge = d.dspEdge := rfl
@[simp] theorem clear_fastWant (d : Dev) (f : Fld) : (d.clear f).fastWant = d.fastWant := rfl
@[simp] theorem clear_noc (d : Dev) (f : Fld) : (d.clear f).noc = d.noc := rfl
@[simp] theorem clear_ni (d : Dev) (f : Fld) : (d.clear f).ni = d.ni := rfl
@[simp] theorem clear_slots (d : Dev) (f : Fld) : (d.clear f).slots = d.slots := rfl
@[simp] theorem clear_ch (d : Dev) (f : Fld) : (d.clear f).ch = d.ch := rfl
@[simp] theorem clear_stripe (d : Dev) (f : Fld) : (d.clear f).stripe = d.stripe := rfl
@[simp] theorem clear_ctxCache (d : Dev) (f : Fld) : (d.clear f).ctxCache = d.ctxCache := rfl
@[simp] theorem clear_ctx (d : Dev) (f : Fld) : (d.clear f).ctx = d.ctx := rfl
@[simp] theorem clear_rgn (d : Dev) (f : Fld) : (d.clear f).rgn = d.rgn := rfl
@[simp] theorem clear_planes (d : Dev) (f : Fld) : (d.clear f).planes = d.planes := rfl
@[simp] theorem clear_load (d : Dev) (f : Fld) : (d.clear f).load = d.load := rfl
@[simp] theorem clear_boot (d : Dev) (f : Fld) : (d.clear f).boot = d.boot := rfl
@[simp] theorem clear_keys (d : Dev) (f : Fld) : (d.clear f).keys = d.keys := rfl
@[simp] theorem clear_scrub (d : Dev) (f : Fld) : (d.clear f).scrub = d.scrub := rfl
@[simp] theorem clear_lanes (d : Dev) (f : Fld) : (d.clear f).lanes = d.lanes := rfl
@[simp] theorem clear_plls (d : Dev) (f : Fld) : (d.clear f).plls = d.plls := rfl
@[simp] theorem clear_pwr (d : Dev) (f : Fld) : (d.clear f).pwr = d.pwr := rfl
@[simp] theorem clear_doms (d : Dev) (f : Fld) : (d.clear f).doms = d.doms := rfl
@[simp] theorem clear_offCounts (d : Dev) (f : Fld) : (d.clear f).offCounts = d.offCounts := rfl
@[simp] theorem clear_mp (d : Dev) (f : Fld) : (d.clear f).mp = d.mp := rfl
@[simp] theorem clear_flash (d : Dev) (f : Fld) : (d.clear f).flash = d.flash := rfl
@[simp] theorem clear_serial (d : Dev) (f : Fld) : (d.clear f).serial = d.serial := rfl
@[simp] theorem clear_fwImage (d : Dev) (f : Fld) : (d.clear f).fwImage = d.fwImage := rfl
@[simp] theorem clear_extImage (d : Dev) (f : Fld) : (d.clear f).extImage = d.extImage := rfl
@[simp] theorem clear_tap (d : Dev) (f : Fld) : (d.clear f).tap = d.tap := rfl
@[simp] theorem clear_wdtFrac (d : Dev) (f : Fld) : (d.clear f).wdtFrac = d.wdtFrac := rfl
@[simp] theorem clear_pack (d : Dev) (f : Fld) : (d.clear f).pack = d.pack := rfl
@[simp] theorem clear_wb (d : Dev) (f : Fld) : (d.clear f).wb = d.wb := rfl
@[simp] theorem clear_port0 (d : Dev) (f : Fld) : (d.clear f).port0 = d.port0 := rfl
@[simp] theorem clear_port1 (d : Dev) (f : Fld) : (d.clear f).port1 = d.port1 := rfl
@[simp] theorem clear_start (d : Dev) (f : Fld) : (d.clear f).start = d.start := rfl
@[simp] theorem clear_time (d : Dev) (f : Fld) : (d.clear f).time = d.time := rfl
@[simp] theorem clear_fresh (d : Dev) (f : Fld) : (d.clear f).fresh = d.fresh := rfl
@[simp] theorem clear_answer (d : Dev) (f : Fld) : (d.clear f).answer = d.answer := rfl

@[simp] theorem setBit_unlocks (d : Dev) (f : Fld) (b : Bool) : (d.setBit f b).unlocks = d.unlocks := rfl
@[simp] theorem setBit_parityFailed (d : Dev) (f : Fld) (b : Bool) : (d.setBit f b).parityFailed = d.parityFailed := rfl
@[simp] theorem setBit_kept (d : Dev) (f : Fld) (b : Bool) : (d.setBit f b).kept = d.kept := rfl
@[simp] theorem setBit_changes (d : Dev) (f : Fld) (b : Bool) : (d.setBit f b).changes = d.changes := rfl
@[simp] theorem setBit_cmds (d : Dev) (f : Fld) (b : Bool) : (d.setBit f b).cmds = d.cmds := rfl
@[simp] theorem setBit_held (d : Dev) (f : Fld) (b : Bool) : (d.setBit f b).held = d.held := rfl
@[simp] theorem setBit_offFlags (d : Dev) (f : Fld) (b : Bool) : (d.setBit f b).offFlags = d.offFlags := rfl
@[simp] theorem setBit_fwObjects (d : Dev) (f : Fld) (b : Bool) : (d.setBit f b).fwObjects = d.fwObjects := rfl
@[simp] theorem setBit_userMap (d : Dev) (f : Fld) (b : Bool) : (d.setBit f b).userMap = d.userMap := rfl
@[simp] theorem setBit_frames (d : Dev) (f : Fld) (b : Bool) : (d.setBit f b).frames = d.frames := rfl
@[simp] theorem setBit_ff (d : Dev) (f : Fld) (b : Bool) : (d.setBit f b).ff = d.ff := rfl
@[simp] theorem setBit_borderIn (d : Dev) (f : Fld) (b : Bool) : (d.setBit f b).borderIn = d.borderIn := rfl
@[simp] theorem setBit_borderHold (d : Dev) (f : Fld) (b : Bool) : (d.setBit f b).borderHold = d.borderHold := rfl
@[simp] theorem setBit_io (d : Dev) (f : Fld) (b : Bool) : (d.setBit f b).io = d.io := rfl
@[simp] theorem setBit_pins (d : Dev) (f : Fld) (b : Bool) : (d.setBit f b).pins = d.pins := rfl
@[simp] theorem setBit_vccio (d : Dev) (f : Fld) (b : Bool) : (d.setBit f b).vccio = d.vccio := rfl
@[simp] theorem setBit_trunkOff (d : Dev) (f : Fld) (b : Bool) : (d.setBit f b).trunkOff = d.trunkOff := rfl
@[simp] theorem setBit_trunkFixed (d : Dev) (f : Fld) (b : Bool) : (d.setBit f b).trunkFixed = d.trunkFixed := rfl
@[simp] theorem setBit_cells (d : Dev) (f : Fld) (b : Bool) : (d.setBit f b).cells = d.cells := rfl
@[simp] theorem setBit_deadSpares (d : Dev) (f : Fld) (b : Bool) : (d.setBit f b).deadSpares = d.deadSpares := rfl
@[simp] theorem setBit_verify (d : Dev) (f : Fld) (b : Bool) : (d.setBit f b).verify = d.verify := rfl
@[simp] theorem setBit_log (d : Dev) (f : Fld) (b : Bool) : (d.setBit f b).log = d.log := rfl
@[simp] theorem setBit_march (d : Dev) (f : Fld) (b : Bool) : (d.setBit f b).march = d.march := rfl
@[simp] theorem setBit_ctPending (d : Dev) (f : Fld) (b : Bool) : (d.setBit f b).ctPending = d.ctPending := rfl
@[simp] theorem setBit_attach (d : Dev) (f : Fld) (b : Bool) : (d.setBit f b).attach = d.attach := rfl
@[simp] theorem setBit_bm (d : Dev) (f : Fld) (b : Bool) : (d.setBit f b).bm = d.bm := rfl
@[simp] theorem setBit_fs (d : Dev) (f : Fld) (b : Bool) : (d.setBit f b).fs = d.fs := rfl
@[simp] theorem setBit_gck (d : Dev) (f : Fld) (b : Bool) : (d.setBit f b).gck = d.gck := rfl
@[simp] theorem setBit_rootLost (d : Dev) (f : Fld) (b : Bool) : (d.setBit f b).rootLost = d.rootLost := rfl
@[simp] theorem setBit_rootT0 (d : Dev) (f : Fld) (b : Bool) : (d.setBit f b).rootT0 = d.rootT0 := rfl
@[simp] theorem setBit_slice (d : Dev) (f : Fld) (b : Bool) : (d.setBit f b).slice = d.slice := rfl
@[simp] theorem setBit_dspEdge (d : Dev) (f : Fld) (b : Bool) : (d.setBit f b).dspEdge = d.dspEdge := rfl
@[simp] theorem setBit_fastWant (d : Dev) (f : Fld) (b : Bool) : (d.setBit f b).fastWant = d.fastWant := rfl
@[simp] theorem setBit_noc (d : Dev) (f : Fld) (b : Bool) : (d.setBit f b).noc = d.noc := rfl
@[simp] theorem setBit_ni (d : Dev) (f : Fld) (b : Bool) : (d.setBit f b).ni = d.ni := rfl
@[simp] theorem setBit_slots (d : Dev) (f : Fld) (b : Bool) : (d.setBit f b).slots = d.slots := rfl
@[simp] theorem setBit_ch (d : Dev) (f : Fld) (b : Bool) : (d.setBit f b).ch = d.ch := rfl
@[simp] theorem setBit_stripe (d : Dev) (f : Fld) (b : Bool) : (d.setBit f b).stripe = d.stripe := rfl
@[simp] theorem setBit_ctxCache (d : Dev) (f : Fld) (b : Bool) : (d.setBit f b).ctxCache = d.ctxCache := rfl
@[simp] theorem setBit_ctx (d : Dev) (f : Fld) (b : Bool) : (d.setBit f b).ctx = d.ctx := rfl
@[simp] theorem setBit_rgn (d : Dev) (f : Fld) (b : Bool) : (d.setBit f b).rgn = d.rgn := rfl
@[simp] theorem setBit_planes (d : Dev) (f : Fld) (b : Bool) : (d.setBit f b).planes = d.planes := rfl
@[simp] theorem setBit_load (d : Dev) (f : Fld) (b : Bool) : (d.setBit f b).load = d.load := rfl
@[simp] theorem setBit_boot (d : Dev) (f : Fld) (b : Bool) : (d.setBit f b).boot = d.boot := rfl
@[simp] theorem setBit_keys (d : Dev) (f : Fld) (b : Bool) : (d.setBit f b).keys = d.keys := rfl
@[simp] theorem setBit_scrub (d : Dev) (f : Fld) (b : Bool) : (d.setBit f b).scrub = d.scrub := rfl
@[simp] theorem setBit_lanes (d : Dev) (f : Fld) (b : Bool) : (d.setBit f b).lanes = d.lanes := rfl
@[simp] theorem setBit_plls (d : Dev) (f : Fld) (b : Bool) : (d.setBit f b).plls = d.plls := rfl
@[simp] theorem setBit_pwr (d : Dev) (f : Fld) (b : Bool) : (d.setBit f b).pwr = d.pwr := rfl
@[simp] theorem setBit_doms (d : Dev) (f : Fld) (b : Bool) : (d.setBit f b).doms = d.doms := rfl
@[simp] theorem setBit_offCounts (d : Dev) (f : Fld) (b : Bool) : (d.setBit f b).offCounts = d.offCounts := rfl
@[simp] theorem setBit_mp (d : Dev) (f : Fld) (b : Bool) : (d.setBit f b).mp = d.mp := rfl
@[simp] theorem setBit_flash (d : Dev) (f : Fld) (b : Bool) : (d.setBit f b).flash = d.flash := rfl
@[simp] theorem setBit_serial (d : Dev) (f : Fld) (b : Bool) : (d.setBit f b).serial = d.serial := rfl
@[simp] theorem setBit_fwImage (d : Dev) (f : Fld) (b : Bool) : (d.setBit f b).fwImage = d.fwImage := rfl
@[simp] theorem setBit_extImage (d : Dev) (f : Fld) (b : Bool) : (d.setBit f b).extImage = d.extImage := rfl
@[simp] theorem setBit_tap (d : Dev) (f : Fld) (b : Bool) : (d.setBit f b).tap = d.tap := rfl
@[simp] theorem setBit_wdtFrac (d : Dev) (f : Fld) (b : Bool) : (d.setBit f b).wdtFrac = d.wdtFrac := rfl
@[simp] theorem setBit_pack (d : Dev) (f : Fld) (b : Bool) : (d.setBit f b).pack = d.pack := rfl
@[simp] theorem setBit_wb (d : Dev) (f : Fld) (b : Bool) : (d.setBit f b).wb = d.wb := rfl
@[simp] theorem setBit_port0 (d : Dev) (f : Fld) (b : Bool) : (d.setBit f b).port0 = d.port0 := rfl
@[simp] theorem setBit_port1 (d : Dev) (f : Fld) (b : Bool) : (d.setBit f b).port1 = d.port1 := rfl
@[simp] theorem setBit_start (d : Dev) (f : Fld) (b : Bool) : (d.setBit f b).start = d.start := rfl
@[simp] theorem setBit_time (d : Dev) (f : Fld) (b : Bool) : (d.setBit f b).time = d.time := rfl
@[simp] theorem setBit_fresh (d : Dev) (f : Fld) (b : Bool) : (d.setBit f b).fresh = d.fresh := rfl
@[simp] theorem setBit_answer (d : Dev) (f : Fld) (b : Bool) : (d.setBit f b).answer = d.answer := rfl

@[simp] theorem count_unlocks (d : Dev) (f : Fld) (n : Nat) : (d.count f n).unlocks = d.unlocks := rfl
@[simp] theorem count_parityFailed (d : Dev) (f : Fld) (n : Nat) : (d.count f n).parityFailed = d.parityFailed := rfl
@[simp] theorem count_kept (d : Dev) (f : Fld) (n : Nat) : (d.count f n).kept = d.kept := rfl
@[simp] theorem count_changes (d : Dev) (f : Fld) (n : Nat) : (d.count f n).changes = d.changes := rfl
@[simp] theorem count_cmds (d : Dev) (f : Fld) (n : Nat) : (d.count f n).cmds = d.cmds := rfl
@[simp] theorem count_held (d : Dev) (f : Fld) (n : Nat) : (d.count f n).held = d.held := rfl
@[simp] theorem count_offFlags (d : Dev) (f : Fld) (n : Nat) : (d.count f n).offFlags = d.offFlags := rfl
@[simp] theorem count_fwObjects (d : Dev) (f : Fld) (n : Nat) : (d.count f n).fwObjects = d.fwObjects := rfl
@[simp] theorem count_userMap (d : Dev) (f : Fld) (n : Nat) : (d.count f n).userMap = d.userMap := rfl
@[simp] theorem count_frames (d : Dev) (f : Fld) (n : Nat) : (d.count f n).frames = d.frames := rfl
@[simp] theorem count_ff (d : Dev) (f : Fld) (n : Nat) : (d.count f n).ff = d.ff := rfl
@[simp] theorem count_borderIn (d : Dev) (f : Fld) (n : Nat) : (d.count f n).borderIn = d.borderIn := rfl
@[simp] theorem count_borderHold (d : Dev) (f : Fld) (n : Nat) : (d.count f n).borderHold = d.borderHold := rfl
@[simp] theorem count_io (d : Dev) (f : Fld) (n : Nat) : (d.count f n).io = d.io := rfl
@[simp] theorem count_pins (d : Dev) (f : Fld) (n : Nat) : (d.count f n).pins = d.pins := rfl
@[simp] theorem count_vccio (d : Dev) (f : Fld) (n : Nat) : (d.count f n).vccio = d.vccio := rfl
@[simp] theorem count_trunkOff (d : Dev) (f : Fld) (n : Nat) : (d.count f n).trunkOff = d.trunkOff := rfl
@[simp] theorem count_trunkFixed (d : Dev) (f : Fld) (n : Nat) : (d.count f n).trunkFixed = d.trunkFixed := rfl
@[simp] theorem count_cells (d : Dev) (f : Fld) (n : Nat) : (d.count f n).cells = d.cells := rfl
@[simp] theorem count_deadSpares (d : Dev) (f : Fld) (n : Nat) : (d.count f n).deadSpares = d.deadSpares := rfl
@[simp] theorem count_verify (d : Dev) (f : Fld) (n : Nat) : (d.count f n).verify = d.verify := rfl
@[simp] theorem count_log (d : Dev) (f : Fld) (n : Nat) : (d.count f n).log = d.log := rfl
@[simp] theorem count_march (d : Dev) (f : Fld) (n : Nat) : (d.count f n).march = d.march := rfl
@[simp] theorem count_ctPending (d : Dev) (f : Fld) (n : Nat) : (d.count f n).ctPending = d.ctPending := rfl
@[simp] theorem count_attach (d : Dev) (f : Fld) (n : Nat) : (d.count f n).attach = d.attach := rfl
@[simp] theorem count_bm (d : Dev) (f : Fld) (n : Nat) : (d.count f n).bm = d.bm := rfl
@[simp] theorem count_fs (d : Dev) (f : Fld) (n : Nat) : (d.count f n).fs = d.fs := rfl
@[simp] theorem count_gck (d : Dev) (f : Fld) (n : Nat) : (d.count f n).gck = d.gck := rfl
@[simp] theorem count_rootLost (d : Dev) (f : Fld) (n : Nat) : (d.count f n).rootLost = d.rootLost := rfl
@[simp] theorem count_rootT0 (d : Dev) (f : Fld) (n : Nat) : (d.count f n).rootT0 = d.rootT0 := rfl
@[simp] theorem count_slice (d : Dev) (f : Fld) (n : Nat) : (d.count f n).slice = d.slice := rfl
@[simp] theorem count_dspEdge (d : Dev) (f : Fld) (n : Nat) : (d.count f n).dspEdge = d.dspEdge := rfl
@[simp] theorem count_fastWant (d : Dev) (f : Fld) (n : Nat) : (d.count f n).fastWant = d.fastWant := rfl
@[simp] theorem count_noc (d : Dev) (f : Fld) (n : Nat) : (d.count f n).noc = d.noc := rfl
@[simp] theorem count_ni (d : Dev) (f : Fld) (n : Nat) : (d.count f n).ni = d.ni := rfl
@[simp] theorem count_slots (d : Dev) (f : Fld) (n : Nat) : (d.count f n).slots = d.slots := rfl
@[simp] theorem count_ch (d : Dev) (f : Fld) (n : Nat) : (d.count f n).ch = d.ch := rfl
@[simp] theorem count_stripe (d : Dev) (f : Fld) (n : Nat) : (d.count f n).stripe = d.stripe := rfl
@[simp] theorem count_ctxCache (d : Dev) (f : Fld) (n : Nat) : (d.count f n).ctxCache = d.ctxCache := rfl
@[simp] theorem count_ctx (d : Dev) (f : Fld) (n : Nat) : (d.count f n).ctx = d.ctx := rfl
@[simp] theorem count_rgn (d : Dev) (f : Fld) (n : Nat) : (d.count f n).rgn = d.rgn := rfl
@[simp] theorem count_planes (d : Dev) (f : Fld) (n : Nat) : (d.count f n).planes = d.planes := rfl
@[simp] theorem count_load (d : Dev) (f : Fld) (n : Nat) : (d.count f n).load = d.load := rfl
@[simp] theorem count_boot (d : Dev) (f : Fld) (n : Nat) : (d.count f n).boot = d.boot := rfl
@[simp] theorem count_keys (d : Dev) (f : Fld) (n : Nat) : (d.count f n).keys = d.keys := rfl
@[simp] theorem count_scrub (d : Dev) (f : Fld) (n : Nat) : (d.count f n).scrub = d.scrub := rfl
@[simp] theorem count_lanes (d : Dev) (f : Fld) (n : Nat) : (d.count f n).lanes = d.lanes := rfl
@[simp] theorem count_plls (d : Dev) (f : Fld) (n : Nat) : (d.count f n).plls = d.plls := rfl
@[simp] theorem count_pwr (d : Dev) (f : Fld) (n : Nat) : (d.count f n).pwr = d.pwr := rfl
@[simp] theorem count_doms (d : Dev) (f : Fld) (n : Nat) : (d.count f n).doms = d.doms := rfl
@[simp] theorem count_offCounts (d : Dev) (f : Fld) (n : Nat) : (d.count f n).offCounts = d.offCounts := rfl
@[simp] theorem count_mp (d : Dev) (f : Fld) (n : Nat) : (d.count f n).mp = d.mp := rfl
@[simp] theorem count_flash (d : Dev) (f : Fld) (n : Nat) : (d.count f n).flash = d.flash := rfl
@[simp] theorem count_serial (d : Dev) (f : Fld) (n : Nat) : (d.count f n).serial = d.serial := rfl
@[simp] theorem count_fwImage (d : Dev) (f : Fld) (n : Nat) : (d.count f n).fwImage = d.fwImage := rfl
@[simp] theorem count_extImage (d : Dev) (f : Fld) (n : Nat) : (d.count f n).extImage = d.extImage := rfl
@[simp] theorem count_tap (d : Dev) (f : Fld) (n : Nat) : (d.count f n).tap = d.tap := rfl
@[simp] theorem count_wdtFrac (d : Dev) (f : Fld) (n : Nat) : (d.count f n).wdtFrac = d.wdtFrac := rfl
@[simp] theorem count_pack (d : Dev) (f : Fld) (n : Nat) : (d.count f n).pack = d.pack := rfl
@[simp] theorem count_wb (d : Dev) (f : Fld) (n : Nat) : (d.count f n).wb = d.wb := rfl
@[simp] theorem count_port0 (d : Dev) (f : Fld) (n : Nat) : (d.count f n).port0 = d.port0 := rfl
@[simp] theorem count_port1 (d : Dev) (f : Fld) (n : Nat) : (d.count f n).port1 = d.port1 := rfl
@[simp] theorem count_start (d : Dev) (f : Fld) (n : Nat) : (d.count f n).start = d.start := rfl
@[simp] theorem count_time (d : Dev) (f : Fld) (n : Nat) : (d.count f n).time = d.time := rfl
@[simp] theorem count_fresh (d : Dev) (f : Fld) (n : Nat) : (d.count f n).fresh = d.fresh := rfl
@[simp] theorem count_answer (d : Dev) (f : Fld) (n : Nat) : (d.count f n).answer = d.answer := rfl

/-! ## The registers after an update of another field -/

@[simp] theorem touch_csr (d : Dev) (ix : Nat) : (d.touch ix).csr = d.csr := by unfold touch; split <;> rfl
@[simp] theorem word_touch (d : Dev) (ix : Nat) (p : Nat) : (d.touch ix).word p = d.word p := by simp [word]
@[simp] theorem get_touch (d : Dev) (ix : Nat) (f : Fld) : (d.touch ix).get f = d.get f := by simp [get]
@[simp] theorem on_touch (d : Dev) (ix : Nat) (f : Fld) : (d.touch ix).on f = d.on f := by simp [on]
@[simp] theorem cmdStart_csr (d : Dev) (ix sub : Nat) : (d.cmdStart ix sub).csr = d.csr := rfl
@[simp] theorem word_cmdStart (d : Dev) (ix sub : Nat) (p : Nat) : (d.cmdStart ix sub).word p = d.word p := by simp [word]
@[simp] theorem get_cmdStart (d : Dev) (ix sub : Nat) (f : Fld) : (d.cmdStart ix sub).get f = d.get f := by simp [get]
@[simp] theorem on_cmdStart (d : Dev) (ix sub : Nat) (f : Fld) : (d.cmdStart ix sub).on f = d.on f := by simp [on]
@[simp] theorem cmdDone_csr (d : Dev) (ix sub : Nat) (c : Code) (l : Bool) : (d.cmdDone ix sub c l).csr = d.csr := rfl
@[simp] theorem word_cmdDone (d : Dev) (ix sub : Nat) (c : Code) (l : Bool) (p : Nat) : (d.cmdDone ix sub c l).word p = d.word p := by simp [word]
@[simp] theorem get_cmdDone (d : Dev) (ix sub : Nat) (c : Code) (l : Bool) (f : Fld) : (d.cmdDone ix sub c l).get f = d.get f := by simp [get]
@[simp] theorem on_cmdDone (d : Dev) (ix sub : Nat) (c : Code) (l : Bool) (f : Fld) : (d.cmdDone ix sub c l).on f = d.on f := by simp [on]
@[simp] theorem cmdLate_csr (d : Dev) (ix sub : Nat) : (d.cmdLate ix sub).csr = d.csr := rfl
@[simp] theorem word_cmdLate (d : Dev) (ix sub : Nat) (p : Nat) : (d.cmdLate ix sub).word p = d.word p := by simp [word]
@[simp] theorem get_cmdLate (d : Dev) (ix sub : Nat) (f : Fld) : (d.cmdLate ix sub).get f = d.get f := by simp [get]
@[simp] theorem on_cmdLate (d : Dev) (ix sub : Nat) (f : Fld) : (d.cmdLate ix sub).on f = d.on f := by simp [on]
@[simp] theorem reply_csr (d : Dev) (c : Code) : (d.reply c).csr = d.csr := rfl
@[simp] theorem word_reply (d : Dev) (c : Code) (p : Nat) : (d.reply c).word p = d.word p := by simp [word]
@[simp] theorem get_reply (d : Dev) (c : Code) (f : Fld) : (d.reply c).get f = d.get f := by simp [get]
@[simp] theorem on_reply (d : Dev) (c : Code) (f : Fld) : (d.reply c).on f = d.on f := by simp [on]
@[simp] theorem replyWith_csr (d : Dev) (a : Answer) : (d.replyWith a).csr = d.csr := rfl
@[simp] theorem word_replyWith (d : Dev) (a : Answer) (p : Nat) : (d.replyWith a).word p = d.word p := by simp [word]
@[simp] theorem get_replyWith (d : Dev) (a : Answer) (f : Fld) : (d.replyWith a).get f = d.get f := by simp [get]
@[simp] theorem on_replyWith (d : Dev) (a : Answer) (f : Fld) : (d.replyWith a).on f = d.on f := by simp [on]
@[simp] theorem arm_csr (d : Dev) (w : Who) : (d.arm w).csr = d.csr := by unfold arm; split <;> rfl
@[simp] theorem word_arm (d : Dev) (w : Who) (p : Nat) : (d.arm w).word p = d.word p := by simp [word]
@[simp] theorem get_arm (d : Dev) (w : Who) (f : Fld) : (d.arm w).get f = d.get f := by simp [get]
@[simp] theorem on_arm (d : Dev) (w : Who) (f : Fld) : (d.arm w).on f = d.on f := by simp [on]
@[simp] theorem disarm_csr (d : Dev) (w : Who) : (d.disarm w).csr = d.csr := rfl
@[simp] theorem word_disarm (d : Dev) (w : Who) (p : Nat) : (d.disarm w).word p = d.word p := by simp [word]
@[simp] theorem get_disarm (d : Dev) (w : Who) (f : Fld) : (d.disarm w).get f = d.get f := by simp [get]
@[simp] theorem on_disarm (d : Dev) (w : Who) (f : Fld) : (d.disarm w).on f = d.on f := by simp [on]
@[simp] theorem parityClear_csr (d : Dev) (o : Nat) : (d.parityClear o).csr = d.csr := rfl
@[simp] theorem word_parityClear (d : Dev) (o : Nat) (p : Nat) : (d.parityClear o).word p = d.word p := by simp [word]
@[simp] theorem get_parityClear (d : Dev) (o : Nat) (f : Fld) : (d.parityClear o).get f = d.get f := by simp [get]
@[simp] theorem on_parityClear (d : Dev) (o : Nat) (f : Fld) : (d.parityClear o).on f = d.on f := by simp [on]
@[simp] theorem setMp_csr (d : Dev) (x : MpSt) : (d.setMp x).csr = d.csr := rfl
@[simp] theorem word_setMp (d : Dev) (x : MpSt) (p : Nat) : (d.setMp x).word p = d.word p := by simp [word]
@[simp] theorem get_setMp (d : Dev) (x : MpSt) (f : Fld) : (d.setMp x).get f = d.get f := by simp [get]
@[simp] theorem on_setMp (d : Dev) (x : MpSt) (f : Fld) : (d.setMp x).on f = d.on f := by simp [on]
@[simp] theorem setPack_csr (d : Dev) (x : PackSt) : (d.setPack x).csr = d.csr := rfl
@[simp] theorem word_setPack (d : Dev) (x : PackSt) (p : Nat) : (d.setPack x).word p = d.word p := by simp [word]
@[simp] theorem get_setPack (d : Dev) (x : PackSt) (f : Fld) : (d.setPack x).get f = d.get f := by simp [get]
@[simp] theorem on_setPack (d : Dev) (x : PackSt) (f : Fld) : (d.setPack x).on f = d.on f := by simp [on]
@[simp] theorem setBoot_csr (d : Dev) (x : BootSt) : (d.setBoot x).csr = d.csr := rfl
@[simp] theorem word_setBoot (d : Dev) (x : BootSt) (p : Nat) : (d.setBoot x).word p = d.word p := by simp [word]
@[simp] theorem get_setBoot (d : Dev) (x : BootSt) (f : Fld) : (d.setBoot x).get f = d.get f := by simp [get]
@[simp] theorem on_setBoot (d : Dev) (x : BootSt) (f : Fld) : (d.setBoot x).on f = d.on f := by simp [on]
@[simp] theorem setScrub_csr (d : Dev) (x : ScrubSt) : (d.setScrub x).csr = d.csr := rfl
@[simp] theorem word_setScrub (d : Dev) (x : ScrubSt) (p : Nat) : (d.setScrub x).word p = d.word p := by simp [word]
@[simp] theorem get_setScrub (d : Dev) (x : ScrubSt) (f : Fld) : (d.setScrub x).get f = d.get f := by simp [get]
@[simp] theorem on_setScrub (d : Dev) (x : ScrubSt) (f : Fld) : (d.setScrub x).on f = d.on f := by simp [on]
@[simp] theorem setCtx_csr (d : Dev) (x : CtxSt) : (d.setCtx x).csr = d.csr := rfl
@[simp] theorem word_setCtx (d : Dev) (x : CtxSt) (p : Nat) : (d.setCtx x).word p = d.word p := by simp [word]
@[simp] theorem get_setCtx (d : Dev) (x : CtxSt) (f : Fld) : (d.setCtx x).get f = d.get f := by simp [get]
@[simp] theorem on_setCtx (d : Dev) (x : CtxSt) (f : Fld) : (d.setCtx x).on f = d.on f := by simp [on]
@[simp] theorem setNi_csr (d : Dev) (i : Nat) (x : NiSt) : (d.setNi i x).csr = d.csr := rfl
@[simp] theorem word_setNi (d : Dev) (i : Nat) (x : NiSt) (p : Nat) : (d.setNi i x).word p = d.word p := by simp [word]
@[simp] theorem get_setNi (d : Dev) (i : Nat) (x : NiSt) (f : Fld) : (d.setNi i x).get f = d.get f := by simp [get]
@[simp] theorem on_setNi (d : Dev) (i : Nat) (x : NiSt) (f : Fld) : (d.setNi i x).on f = d.on f := by simp [on]
@[simp] theorem setCh_csr (d : Dev) (i : Nat) (x : ChSt) : (d.setCh i x).csr = d.csr := rfl
@[simp] theorem word_setCh (d : Dev) (i : Nat) (x : ChSt) (p : Nat) : (d.setCh i x).word p = d.word p := by simp [word]
@[simp] theorem get_setCh (d : Dev) (i : Nat) (x : ChSt) (f : Fld) : (d.setCh i x).get f = d.get f := by simp [get]
@[simp] theorem on_setCh (d : Dev) (i : Nat) (x : ChSt) (f : Fld) : (d.setCh i x).on f = d.on f := by simp [on]
@[simp] theorem setRgn_csr (d : Dev) (i : Nat) (x : RgnSt) : (d.setRgn i x).csr = d.csr := rfl
@[simp] theorem word_setRgn (d : Dev) (i : Nat) (x : RgnSt) (p : Nat) : (d.setRgn i x).word p = d.word p := by simp [word]
@[simp] theorem get_setRgn (d : Dev) (i : Nat) (x : RgnSt) (f : Fld) : (d.setRgn i x).get f = d.get f := by simp [get]
@[simp] theorem on_setRgn (d : Dev) (i : Nat) (x : RgnSt) (f : Fld) : (d.setRgn i x).on f = d.on f := by simp [on]
@[simp] theorem setDom_csr (d : Dev) (i : Nat) (x : DomSt) : (d.setDom i x).csr = d.csr := rfl
@[simp] theorem word_setDom (d : Dev) (i : Nat) (x : DomSt) (p : Nat) : (d.setDom i x).word p = d.word p := by simp [word]
@[simp] theorem get_setDom (d : Dev) (i : Nat) (x : DomSt) (f : Fld) : (d.setDom i x).get f = d.get f := by simp [get]
@[simp] theorem on_setDom (d : Dev) (i : Nat) (x : DomSt) (f : Fld) : (d.setDom i x).on f = d.on f := by simp [on]
@[simp] theorem setFs_csr (d : Dev) (i : Nat) (x : FsSt) : (d.setFs i x).csr = d.csr := rfl
@[simp] theorem word_setFs (d : Dev) (i : Nat) (x : FsSt) (p : Nat) : (d.setFs i x).word p = d.word p := by simp [word]
@[simp] theorem get_setFs (d : Dev) (i : Nat) (x : FsSt) (f : Fld) : (d.setFs i x).get f = d.get f := by simp [get]
@[simp] theorem on_setFs (d : Dev) (i : Nat) (x : FsSt) (f : Fld) : (d.setFs i x).on f = d.on f := by simp [on]
@[simp] theorem setGck_csr (d : Dev) (i : Nat) (x : GckSt) : (d.setGck i x).csr = d.csr := rfl
@[simp] theorem word_setGck (d : Dev) (i : Nat) (x : GckSt) (p : Nat) : (d.setGck i x).word p = d.word p := by simp [word]
@[simp] theorem get_setGck (d : Dev) (i : Nat) (x : GckSt) (f : Fld) : (d.setGck i x).get f = d.get f := by simp [get]
@[simp] theorem on_setGck (d : Dev) (i : Nat) (x : GckSt) (f : Fld) : (d.setGck i x).on f = d.on f := by simp [on]
@[simp] theorem setBm_csr (d : Dev) (i : Nat) (x : BmSt) : (d.setBm i x).csr = d.csr := rfl
@[simp] theorem word_setBm (d : Dev) (i : Nat) (x : BmSt) (p : Nat) : (d.setBm i x).word p = d.word p := by simp [word]
@[simp] theorem get_setBm (d : Dev) (i : Nat) (x : BmSt) (f : Fld) : (d.setBm i x).get f = d.get f := by simp [get]
@[simp] theorem on_setBm (d : Dev) (i : Nat) (x : BmSt) (f : Fld) : (d.setBm i x).on f = d.on f := by simp [on]
@[simp] theorem setPort_csr (d : Dev) (i : Nat) (x : PortSt) : (d.setPort i x).csr = d.csr := by unfold setPort; split <;> rfl
@[simp] theorem word_setPort (d : Dev) (i : Nat) (x : PortSt) (p : Nat) : (d.setPort i x).word p = d.word p := by simp [word]
@[simp] theorem get_setPort (d : Dev) (i : Nat) (x : PortSt) (f : Fld) : (d.setPort i x).get f = d.get f := by simp [get]
@[simp] theorem on_setPort (d : Dev) (i : Nat) (x : PortSt) (f : Fld) : (d.setPort i x).on f = d.on f := by simp [on]
@[simp] theorem setSlice_csr (d : Dev) (n i : Nat) (x : SliceSt) : (d.setSlice n i x).csr = d.csr := rfl
@[simp] theorem word_setSlice (d : Dev) (n i : Nat) (x : SliceSt) (p : Nat) : (d.setSlice n i x).word p = d.word p := by simp [word]
@[simp] theorem get_setSlice (d : Dev) (n i : Nat) (x : SliceSt) (f : Fld) : (d.setSlice n i x).get f = d.get f := by simp [get]
@[simp] theorem on_setSlice (d : Dev) (n i : Nat) (x : SliceSt) (f : Fld) : (d.setSlice n i x).on f = d.on f := by simp [on]
@[simp] theorem setIo_csr (d : Dev) (n i : Nat) (x : IoSt) : (d.setIo n i x).csr = d.csr := rfl
@[simp] theorem word_setIo (d : Dev) (n i : Nat) (x : IoSt) (p : Nat) : (d.setIo n i x).word p = d.word p := by simp [word]
@[simp] theorem get_setIo (d : Dev) (n i : Nat) (x : IoSt) (f : Fld) : (d.setIo n i x).get f = d.get f := by simp [get]
@[simp] theorem on_setIo (d : Dev) (n i : Nat) (x : IoSt) (f : Fld) : (d.setIo n i x).on f = d.on f := by simp [on]
@[simp] theorem setLane_csr (d : Dev) (l : LaneId) (x : LaneSt) : (d.setLane l x).csr = d.csr := rfl
@[simp] theorem word_setLane (d : Dev) (l : LaneId) (x : LaneSt) (p : Nat) : (d.setLane l x).word p = d.word p := by simp [word]
@[simp] theorem get_setLane (d : Dev) (l : LaneId) (x : LaneSt) (f : Fld) : (d.setLane l x).get f = d.get f := by simp [get]
@[simp] theorem on_setLane (d : Dev) (l : LaneId) (x : LaneSt) (f : Fld) : (d.setLane l x).on f = d.on f := by simp [on]
@[simp] theorem setSerial_csr (d : Dev) (p : Serial) (x : SerialSt) : (d.setSerial p x).csr = d.csr := rfl
@[simp] theorem word_setSerial (d : Dev) (p : Serial) (x : SerialSt) (o : Nat) : (d.setSerial p x).word o = d.word o := by simp [word]
@[simp] theorem get_setSerial (d : Dev) (p : Serial) (x : SerialSt) (f : Fld) : (d.setSerial p x).get f = d.get f := by simp [get]
@[simp] theorem on_setSerial (d : Dev) (p : Serial) (x : SerialSt) (f : Fld) : (d.setSerial p x).on f = d.on f := by simp [on]

/-! ## Settling -/

/-- Without an access to a closed guard no channel wakes. -/
theorem accessSettle_of_none (d : Dev) (h : (d.ch.all fun e => !e.2.accessed) = true) : d.accessSettle = d := by
  have hc : ∀ k, (d.chSt k).accessed = false := fun k => by
    have := SMap.get_of_all (dflt := ({} : ChSt)) (p := fun x => !x.accessed) d.ch k h rfl
    simpa [chSt] using this
  have : ∀ l : List Nat, l.foldl (fun a k => if (a.chSt k).accessed then
      (a.setCh k { a.chSt k with accessed := false }).wakeAccess (16 + k) else a) d = d := fun l => by
    induction l with
    | nil => rfl
    | cons k l ih => simp [hc k, ih]
  exact this _

/-- A device with nothing to settle is what it was. -/
theorem settle_of_calm (d : Dev) (h : d.calm = true) : d.settle = d := by
  simp only [calm, Bool.and_eq_true, Option.isNone_iff_eq_none, Bool.not_eq_true', bne_iff_ne, ne_eq] at h
  obtain ⟨⟨⟨⟨⟨h0, h1⟩, h2⟩, h3⟩, h4⟩, h5⟩ := h
  have e1 : d.portSettle = d := by simp [portSettle, port, h0, h1]
  have e2 : d.mpSettle = d := by simp [mpSettle, h3, h4]
  simp [settle, e1, accessSettle_of_none d h5, e2, warmSettle, h2]

/-- What settles depends on the ports, the start-up engine, the channels and the processor alone. -/
theorem calm_congr {a b : Dev} (h0 : a.port0 = b.port0) (h1 : a.port1 = b.port1) (h2 : a.start = b.start)
    (h3 : a.mp = b.mp) (h4 : a.ch = b.ch) : a.calm = b.calm := by simp [calm, h0, h1, h2, h3, h4]

end Dev

namespace State

/-- An event on a live device that has nothing to settle afterwards. -/
theorem event_of_calm (f : Dev → Dev) (s : State) (h : s.live = true) (hc : (f s.dev).calm = true) :
    s.event f = .next { s with dev := f s.dev } := by
  simp only [live, Bool.and_eq_true, Bool.not_eq_true'] at h
  simp [event, h.1, h.2, run, Dev.settle_of_calm _ hc]

/-- A command on a live device is answered, and the device settles. -/
theorem order_of_live (f : Dev → Dev × Code) (s : State) (h : s.live = true) :
    s.order f = .next { s with dev := ((f s.dev).1.reply (f s.dev).2).settle } := by
  simp only [live, Bool.and_eq_true, Bool.not_eq_true'] at h
  simp [order, event, h.1, h.2, run]

/-- With VAUX below its threshold nothing happens. -/
theorem event_of_dark (f : Dev → Dev) (s : State) (h : s.dev.start.vauxOn = false) : s.event f = .next s := by
  simp [event, h]

/-- With a rail out of range after step 1 the machine stops. -/
theorem event_of_railOut (f : Dev → Dev) (s : State) (h : s.dev.start.vauxOn = true) (hr : s.railOut = true) :
    s.event f = .fault .railOutOfRange := by
  simp [event, h, hr]

end State

end Sys2Proof.Machine
end

