-- ==== Sys2Proof/Laws/Csr.lean ====
section
/-! SUPPORT. The laws of the CSR space: what a register write that is taken does, from its admission to the change
counter of its alias. -/

namespace Sys2Proof.Machine

namespace Dev

/-- The device once the unlock check of a write has passed. -/
def unlocked (who : Who) (off : Nat) (x : Word) (d : Dev) : Dev :=
  if who != .config && d.csrGuarded off x then d.disarm who else d

@[simp] theorem unlocked_csr (d : Dev) (who : Who) (off : Nat) (x : Word) : (d.unlocked who off x).csr = d.csr := by
  unfold unlocked; split <;> rfl
@[simp] theorem word_unlocked (d : Dev) (who : Who) (off : Nat) (x : Word) (o : Nat) :
    (d.unlocked who off x).word o = d.word o := by simp [word]
@[simp] theorem get_unlocked (d : Dev) (who : Who) (off : Nat) (x : Word) (f : Fld) :
    (d.unlocked who off x).get f = d.get f := by simp [get]

theorem written_eq (d : Dev) (who : Who) (off : Nat) (x : Word) (r : RegDef) (hr : regAt off = some r) :
    d.written who off x = (((d.unlocked who off x).keepWord off).plainWrite r off x).parityClear off := by
  simp [written, unlocked, hr]

@[simp] theorem keepWord_csr (d : Dev) (off : Nat) : (d.keepWord off).csr = d.csr := by
  unfold keepWord; split <;> rfl
@[simp] theorem word_keepWord (d : Dev) (off o : Nat) : (d.keepWord off).word o = d.word o := by simp [word]

/-- What a block in its safe state goes on using is what it used before the write. -/
@[simp] theorem inForce_keepWord (d : Dev) (off o : Nat) : (d.keepWord off).inForce o = d.inForce o := by
  have hs : ∀ p, (d.keepWord off).safe p = d.safe p := fun p => by unfold keepWord; split <;> rfl
  by_cases h : d.safe o = true
  · simp only [inForce, hs, h, if_true, word_keepWord]
    by_cases hk : d.safe off = true ∧ (SMap.get none d.kept off).isNone = true
    · by_cases ho : o = off
      · subst ho
        simp only [keepWord, hk, and_self, if_true, SMap.get_put_self, Option.getD_some]
        simp [Option.isNone_iff_eq_none.mp hk.2]
      · simp [keepWord, hk, SMap.get_put_ne _ _ _ _ ho]
    · have e : d.keepWord off = d := if_neg hk
      simp [e]
  · simp [inForce, hs, h]

@[simp] theorem ctl_keepWord (d : Dev) (off : Nat) (f : Fld) : (d.keepWord off).ctl f = d.ctl f := by
  have hs : ∀ p, (d.keepWord off).safe p = d.safe p := fun p => by unfold keepWord; split <;> rfl
  have hf : ∀ p, (d.keepWord off).failed p = d.failed p := fun p => by unfold keepWord; split <;> rfl
  simp [ctl, hs, hf, get]

@[simp] theorem keepWord_packOn (d : Dev) (off : Nat) : (d.keepWord off).packOn = d.packOn := by
  simp [packOn, ctlOn]

/-- Every register but two has its aliases under one index. -/
theorem aliasesWritten_eq {off : Nat} (old x : Word) (h1 : off ≠ Reg.CFG_CTL) (h2 : off ≠ Reg.NOC_CTL) :
    aliasesWritten off old x = [aliasIndex off] := by simp [aliasesWritten, h1, h2]

/-- A write that is taken runs on the unlocked device, and its aliases' change counters move if it answers OK. -/
theorem csrWriteCo_of_taken (d : Dev) (co : Nat) (who : Who) (off : Nat) (x : Word)
    (h : d.takesWrite who off x = true) :
    d.csrWriteCo co who off x =
      (let r := (d.unlocked who off x).csrStore co true who off x
       if r.2 = .ok then ((aliasesWritten off (d.word off) x).foldl touch r.1, .ok) else r) := by
  simp only [takesWrite, Bool.and_eq_true, Option.isNone_iff_eq_none, Bool.not_eq_true'] at h
  obtain ⟨⟨⟨h1, h2⟩, h3⟩, h4⟩ := h
  have e : d.csrAdmit who false [(off, x)] = (d.unlocked who off x, .ok) := by
    by_cases hg : (who != .config && d.csrGuarded off x) = true
    · have ha : d.armed who = true := by simp_all
      simp [csrAdmit, h1, firstCode, unlockCheck, unlocked, hg, ha]
    · simp [csrAdmit, h1, firstCode, unlockCheck, unlocked, hg]
  have hb : (d.unlocked who off x).csrBusy off x = false := by
    unfold unlocked; split
    · exact (show (d.disarm who).csrBusy off x = d.csrBusy off x from rfl).trans h3
    · exact h3
  have hr : (d.unlocked who off x).csrInRange off x = true := by
    unfold unlocked; split
    · exact (show (d.disarm who).csrInRange off x = d.csrInRange off x from rfl).trans h4
    · exact h4
  simp [csrWriteCo, e, csrRun, csrExec, hb, hr]

/-- A register write that is taken and presents one command, whose engine accepts it. -/
theorem csrWriteCo_of_cmd (d e : Dev) (co : Nat) (who : Who) (off : Nat) (x : Word) (c : CmdDef) (r : RegDef)
    (h : d.takesWrite who off x = true) (hp : presented co off x = [c]) (hr : regAt off = some r)
    (hf : fifoAt off = none) (hu : off ≠ Reg.UNLOCK_KEY)
    (hq : ¬(Reg.PATCH_ADDR 0 ≤ off ∧ off < Reg.PATCH_ADDR 16)) (hw : off ≠ Reg.PWR_CTL)
    (h1 : off ≠ Reg.CFG_CTL) (h2 : off ≠ Reg.NOC_CTL)
    (he : c.eff x (d.written who off x) = (e, .ok)) :
    d.csrWriteCo co who off x =
      ((csrHook off (d.word off) false d.packOn e).touch (aliasIndex off), .ok) := by
  rw [csrWriteCo_of_taken d co who off x h]
  have hk : (d.unlocked who off x).packOn = d.packOn := by unfold unlocked; split <;> rfl
  rw [written_eq d who off x r hr] at he
  simp [csrStore, hf, hu, hr, hq, hw, hp, he, hk, aliasesWritten_eq _ _ h1 h2]

/-- A register write that is taken and presents no command. -/
theorem csrWriteCo_of_plain (d : Dev) (co : Nat) (who : Who) (off : Nat) (x : Word) (r : RegDef)
    (h : d.takesWrite who off x = true) (hp : presented co off x = []) (hr : regAt off = some r)
    (hf : fifoAt off = none) (hu : off ≠ Reg.UNLOCK_KEY)
    (hq : ¬(Reg.PATCH_ADDR 0 ≤ off ∧ off < Reg.PATCH_ADDR 16)) (hw : off ≠ Reg.PWR_CTL)
    (h1 : off ≠ Reg.CFG_CTL) (h2 : off ≠ Reg.NOC_CTL) :
    d.csrWriteCo co who off x =
      ((csrHook off (d.word off) false d.packOn (d.written who off x)).touch (aliasIndex off), .ok) := by
  rw [csrWriteCo_of_taken d co who off x h]
  have hk : (d.unlocked who off x).packOn = d.packOn := by unfold unlocked; split <;> rfl
  rw [written_eq d who off x r hr]
  simp [csrStore, hf, hu, hr, hq, hw, hp, hk, aliasesWritten_eq _ _ h1 h2]

end Dev

end Sys2Proof.Machine
end

