-- ==== Sys2Proof/WellFormed.lean ====
section
/-! DEFINITION. Which commands are well formed: operands that name something the device has. The meanings are
total, so these checks guard statements, not runs. -/

namespace Sys2Proof

open Sys2Proof.Machine

/-- The offset names a register word of the CSR space (R41, R85). -/
def regOffset (off : BitVec 24) : Bool := off.toNat % 4 == 0 && decide (off.toNat < 0x900000)

/-- The header fields fit their widths (R53). -/
def WbMsg.wf (m : WbMsg) : Bool :=
  decide (m.version < 2 ^ 8) && decide (m.op < 2 ^ 7) && decide (m.seq < 2 ^ 32) && decide (m.packId < 2 ^ 16)
    && decide (m.member < 2 ^ 12) && decide (m.index < 2 ^ 16) && decide (m.sub < 2 ^ 8)
    && decide (m.length < 2 ^ 32) && decide (m.change < 2 ^ 32) && decide (m.arg < 2 ^ 64)

/-- A request of a Waybill client: its MAC address is the initiator's (R56). -/
def Machine.WbReq.wf (r : WbReq) : Bool :=
  WbMsg.wf r.msg && (match r.who with
    | .client mac => decide (mac < 2 ^ 48)
    | _ => false)

/-- A word of the ports' 1,024-bit interface (R50). -/
def Machine.FifoWord.wf (w : FifoWord) : Bool := w.data.length == 128 && decide (w.count < 128)

/-- The header fields of a packet that its initiator gives fit their widths (R310). -/
def Machine.Pkt.wf (p : Pkt) : Bool :=
  decide (p.cmd < 8) && decide (p.tag < 2 ^ 12) && decide (p.addr < 2 ^ 48) && decide (p.len < 2 ^ 8)
    && decide (p.cls < 4) && decide (p.beFirst < 2 ^ 64) && decide (p.beLast < 2 ^ 64)
    && decide (p.operand < 2 ^ 64) && decide (p.compare < 2 ^ 64)

/-- The command is well formed. -/
def Instr.wf (i : Instr) : Bool :=
  match i with
  | .vauxPowerOnReset _ => true
  | .startupStep1End _ _ _ => true
  | .bootRomRun _ _ _ => true
  | .recoveryImageReceived _ _ _ => true
  | .advance _ => true
  | .rstnLow _ => true
  | .rstnHigh => true
  | .dpReset _ => true
  | .warmReset _ => true
  | .initnSample _ => true
  | .donePinHigh => true
  | .railOutOfRange _ => true
  | .railInRange _ => true
  | .dieTempUpdate readings => readings.length == 16
  | .csrWrite _ off words => regOffset off && 1 ≤ words.length && words.length ≤ 16
  | .evtRead _ off => regOffset off
  | .cntWrite _ off _ => regOffset off
  | .parityMismatch off _ => regOffset off
  | .tmrVote off _ => regOffset off && triplicated off.toNat
  | .unlockKey _ _ => true
  | .unlockExpiry _ => true
  | .snap _ => true
  | .snapshotCopy => true
  | .portTrainingStart _ => true
  | .portLinkUp _ => true
  | .portLinkDown _ => true
  | .portCtlWrite _ _ _ => true
  | .portRxFrame _ _ _ _ => true
  | .portTxFrame _ user => user.all (·.wf)
  | .read req => req.wf && req.msg.op == 0x1 && !req.msg.resp
  | .write req => req.wf && req.msg.op == 0x2 && !req.msg.resp
  | .readBlock req => req.wf && req.msg.op == 0x3 && !req.msg.resp
  | .writeBlock req => req.wf && req.msg.op == 0x4 && !req.msg.resp
  | .snapshot req => req.wf && req.msg.op == 0x5 && !req.msg.resp
  | .wbFence req => req.wf && req.msg.op == 0x6 && !req.msg.resp
  | .wbFenceComplete => true
  | .barrier req => req.wf && req.msg.op == 0x7 && !req.msg.resp
  | .notifyReceived req => req.wf && req.msg.op == 0x8 && !req.msg.resp
  | .discover req => req.wf && req.msg.op == 0x9 && !req.msg.resp
  | .discoverAnswerDue _ => true
  | .streamRequestReceived req => req.wf && req.msg.op == 0xA && !req.msg.resp
  | .attest req => req.wf && req.msg.op == 0xB && !req.msg.resp
  | .attestSigned => true
  | .wbResponseReceived req => req.wf && req.msg.resp
  | .notificationRaised _ _ => true
  | .notifyHoldExpiry _ _ => true
  | .notifyResendExpiry _ => true
  | .userObjectForward req => req.wf && !req.msg.resp
  | .firmwareObjectForward req => req.wf && !req.msg.resp
  | .persistentObjectStored => true
  | .reinit _ _ => true
  | .reinitPulse _ => true
  | .trunkContention _ _ => true
  | .trunkRestore _ _ => true
  | .borderForce _ _ _ => true
  | .ioSlip _ _ => true
  | .bmPortRequest _ _ _ _ _ => true
  | .bmRetainedExecute _ _ _ => true
  | .bmReadData _ _ _ => true
  | .bmFillDone _ => true
  | .sliceOperandSet _ _ _ _ => true
  | .sliceAccumulate _ _ _ => true
  | .sliceStore _ _ _ => true
  | .switchBank _ _ _ _ => true
  | .agAdv _ _ _ => true
  | .agWe _ _ _ _ _ _ => true
  | .agApply _ _ _ => true
  | .rootLock => true
  | .rootLoss _ => true
  | .rootReturn => true
  | .levelSwitch => true
  | .apply _ _ => true
  | .fsApplyMeasured _ _ _ => true
  | .fsLock _ => true
  | .fsLol _ _ _ => true
  | .fsInputReturn _ => true
  | .fsOutEnWrite _ _ _ => true
  | .gckSelWrite _ _ _ => true
  | .gckSwitchDone _ => true
  | .ringCtlWrite _ _ _ => true
  | .ringMeasure _ mhz => mhz < 1024
  | .load _ _ => true
  | .swap _ _ => true
  | .swapEdge _ _ => true
  | .release _ => true
  | .abort _ _ => true
  | .discard _ _ => true
  | .retire _ _ => true
  | .hload _ => true
  | .habort _ => true
  | .segmentProcess _ => true
  | .sealCheck _ => true
  | .startupLoaderAttempt _ => true
  | .loaderAttemptFail => true
  | .loaderBackoffExpiry => true
  | .stream => true
  | .streamResponse _ _ _ _ _ => true
  | .streamResendExpiry _ => true
  | .bootLinkWaitExpiry => true
  | .secKeyDataWrite _ _ _ => true
  | .fuseKeyProgram _ => true
  | .bbramWrite _ => true
  | .bbramZero _ => true
  | .slotProgram _ _ => true
  | .slotRevoke _ _ => true
  | .secCmdDone => true
  | .scrubSlot _ _ => true
  | .scrubReread _ => true
  | .scrubPassEnd => true
  | .fullNow _ => true
  | .goldenBuild => true
  | .goldenBuildDone => true
  | .bmScrubRead _ flips => flips.all (fun e => e.1 < 64)
  | .scrubStarved _ => true
  | .dramScrubRead _ flips => flips.all (fun e => e.1 < 64)
  | .verifyRead flips => flips.all (fun e => e.1 < 64)
  | .chRetire _ _ => true
  | .intAttachmentEvent _ => true
  | .start _ => true
  | .marchAccess flips => flips.all (fun e => e.1 < 64)
  | .marchDone => true
  | .marchAbort _ => true
  | .writeRaw _ => true
  | .readRaw _ => true
  | .logPop _ => true
  | .niRequest _ packet _ _ => packet.wf
  | .gtSlotInject _ => true
  | .tokenRefill _ => true
  | .waystationHop _ _ _ _ => true
  | .rd _ answer => answer.data.length ≤ 255 * 64
  | .wr _ answer => answer.data.length ≤ 255 * 64
  | .wra _ answer => answer.data.length ≤ 255 * 64
  | .atom _ answer => answer.data.length ≤ 255 * 64
  | .msg _ answer => answer.data.length ≤ 255 * 64
  | .wake _ => true
  | .fencePacket _ _ => true
  | .fencePacketComplete _ => true
  | .rsp _ _ => true
  | .niTimeout _ _ => true
  | .fenceGuardRequest _ => true
  | .epoch _ => true
  | .epochTakesEffect => true
  | .gtQuietEnd => true
  | .oldEpochDrained => true
  | .oldRequestExpiry _ => true
  | .rbWrite _ => true
  | .rbRead _ => true
  | .rbCopy _ => true
  | .stWrite _ => true
  | .stRead _ => true
  | .dramReqEnqueue _ => true
  | .dramCommandIssue _ _ => true
  | .dramResponse _ _ => true
  | .urgencyRise _ _ => true
  | .refreshDue _ => true
  | .refreshForced _ => true
  | .dramTempRead _ _ _ _ _ => true
  | .delayMove _ => true
  | .bringup _ _ => true
  | .bringupDone _ _ => true
  | .lpRequest _ _ => true
  | .lookup _ => true
  | .add _ => true
  | .seq _ => true
  | .set _ => true
  | .cas _ => true
  | .ctxRefill => true
  | .init _ => true
  | .initDone => true
  | .create _ => true
  | .delete _ => true
  | .rekey _ => true
  | .ctxRead _ => true
  | .commit _ => true
  | .commitTakesEffect => true
  | .cleanupDone => true
  | .ctxDiscard _ => true
  | .sweep _ => true
  | .sweepDone => true
  | .ctxAbort _ => true
  | .engRetire _ _ => true
  | .engineMismatch _ => true
  | .laneEnWrite _ _ _ => true
  | .applyA _ _ => true
  | .applyB _ _ => true
  | .lanePllSettled _ => true
  | .laneSignalDetect _ => true
  | .los _ _ => true
  | .eqfUpdate _ _ => true
  | .adaptStep _ _ _ => true
  | .acqFail _ => true
  | .eqfLow _ => true
  | .freeze _ _ _ => true
  | .restart _ _ => true
  | .laneRetire _ _ => true
  | .codewordAlign _ _ _ => true
  | .laneRxWord _ _ _ _ _ => true
  | .laneTxWord _ offered _ => offered.length ≤ 1
  | .slip _ _ => true
  | .slipDone _ => true
  | .patCtlWrite _ _ _ => true
  | .chkLock _ => true
  | .go _ _ => true
  | .injectionDone _ => true
  | .domGo _ _ _ _ _ => true
  | .drainComplete _ => true
  | .domainStateReached _ => true
  | .drainTimeout _ => true
  | .domainWake _ => true
  | .domainWakeDone _ => true
  | .wakeTimer _ => true
  | .wakeSignal _ => true
  | .levelReq _ _ => true
  | .avsWrite _ => true
  | .avsStatusRead _ => true
  | .avsFault => true
  | .vintUpdate _ => true
  | .vtierWrite _ _ => true
  | .governorDecision _ _ => true
  | .lockstepMismatch => true
  | .softReset _ => true
  | .exceptionEntry _ _ _ => true
  | .timerCmpMatch => true
  | .addInsn _ _ _ => true
  | .sub _ _ _ => true
  | .and _ _ _ => true
  | .or _ _ _ => true
  | .xor _ _ _ => true
  | .sll _ _ _ => true
  | .srl _ _ _ => true
  | .sra _ _ _ => true
  | .slt _ _ _ => true
  | .sltu _ _ _ => true
  | .mul _ _ _ => true
  | .mulh _ _ _ => true
  | .div _ _ _ => true
  | .divu _ _ _ => true
  | .jr _ => true
  | .jrl _ => true
  | .ret => true
  | .addi _ _ _ => true
  | .andi _ _ _ => true
  | .ori _ _ _ => true
  | .xori _ _ _ => true
  | .slli _ _ _ => true
  | .srli _ _ _ => true
  | .srai _ _ _ => true
  | .lui _ _ => true
  | .ldw _ _ _ => true
  | .ldh _ _ _ => true
  | .ldhu _ _ _ => true
  | .ldb _ _ _ => true
  | .ldbu _ _ _ => true
  | .stw _ _ _ => true
  | .sth _ _ _ => true
  | .stb _ _ _ => true
  | .rsv _ _ _ => true
  | .cmt _ _ _ => true
  | .swp _ _ _ => true
  | .b _ _ _ => true
  | .j _ => true
  | .jl _ => true
  | .mfc _ _ => true
  | .mtc _ _ => true
  | .mset _ _ => true
  | .mclr _ _ => true
  | .fence => true
  | .brk => true
  | .wait => true
  | .rte => true
  | .mpNetworkLoadDone => true
  | .patchWrite _ _ _ _ => true
  | .erase _ => true
  | .program _ => true
  | .flashDone => true
  | .uartTxd _ _ _ => true
  | .uartRxd _ _ => true
  | .uartRxByte _ _ _ _ => true
  | .i2cGo _ _ => true
  | .spiGo _ _ => true
  | .xspiGo _ => true
  | .mdioGo _ _ => true
  | .serialTransferDone _ _ _ => true
  | .tapReset => true
  | .extest => true
  | .samplePreload preload => preload.all (fun e => e.1 < 8199)
  | .idcode => true
  | .highz => true
  | .clamp => true
  | .dbgacc => true
  | .bypass => true
  | .tapLeaveBoundary => true
  | .dbgaccAccess _ => true
  | .halt _ _ => true
  | .haltEntered => true
  | .resume _ => true
  | .step _ => true
  | .dinstrGo _ => true
  | .dbgReset _ => true
  | .dbmGo _ => true
  | .dbmResponse => true
  | .kick _ _ => true
  | .wdtCtlWrite _ _ => true
  | .bark => true
  | .bite => true
  | .helloSend => true
  | .packEnable _ => true
  | .packJoinTimeout => true
  | .memberUnreachable _ => true
  | .packStateJudge _ _ => true
  | .personaDigestRecompute => true
  | .syncReceived _ => true
  | .syncSend => true
  | .syncTimeout => true
  | .arrivalResendExpiry => true
  | .arrive req => req.wf && !req.msg.resp
  | .packBarrierTimeout _ => true
  | .releaseResendExpiry _ => true
  | .packReleaseTime => true
  | .vauxFall => true
  | .activeClockEdge _ _ _ _ => true
  | .asyncSetReset _ _ _ => true
  | .opDone => true
  | .ctDone => true
  | .tgtReq _ => true
  | .arrivalAnswerReceived _ => true
  | .discoverAnswerReceived _ _ _ payload => payload.length ≤ 1024

end Sys2Proof
end

