-- ==== Sys2Proof/Tests/Slice0.lean ====
section
/-! SUPPORT. Tests: sample states, and theorems about them. -/

namespace Sys2Proof.Tests

open Sys2Proof.Machine
open Sys2Proof.Machine.Dev (userIndex pauseTimes condOf objKey aliasesWritten niNextTag localRefusal frameReq ioCells regionDom lqWsel lqKey lqTouch lqArg)

set_option Elab.async false

/-- The device with the fields listed holding the values listed. -/
def fields (fs : List (Fld × Nat)) (d : Dev) : Dev := fs.foldl (fun a f => a.set f.1 f.2) d

/-- A device past start-up, its rails in range and its root locked. -/
def awake : Dev :=
  fields [(Reg.START_STS_STEP, 0), (Reg.START_STS_RAILS_OK, 1), (Reg.CLK_STS_ROOT_LOCK, 1)] State.reset.dev

/-- A state with no command waiting. -/
def st (d : Dev) : State := { dev := d }

/-- A state past start-up with the fields listed holding the values listed. -/
def up (fs : List (Fld × Nat)) : State := st (fields fs awake)

/-- The register at an offset, with no fields where there is none. -/
def reg (off : Nat) : RegDef := (regAt off).getD ⟨off, 1, 0, 1, 0, 0, 0, 0, []⟩

/-- Header and body, of one word, of a firmware image of R440, of role 1 and version 7. -/
def imageBody : List Byte :=
  [0x57, 0x45, 0x41, 0x5A, 0x4D, 0x50, 0x46, 0x57, 1, 0, 1, 0, 0x3B, 0x9A, 0x4E, 0x2C, 7, 0, 0, 0, 0, 0, 0, 0, 4, 0, 0, 0]
    ++ List.replicate 488 0

/-- The image with its seal (R441). -/
def image : List Byte :=
  imageBody ++ ([0x57, 0x45, 0x41, 0x5A, 0x53, 0x45, 0x41, 0x4C] ++ sha512 imageBody ++ List.replicate 184 0)

/-- A flash that holds bytes from an offset on, and is erased elsewhere. -/
def flashAt : Nat → List Byte → SMap Byte
  | _, [] => []
  | o, b :: bs => (o, b) :: flashAt (o + 1) bs

theorem length_imageBody : imageBody.length = 516 := by decide +kernel

theorem image_accepted (d : Dev) (m : Nat) (h : 4 ≤ m) : d.fwAccepts image 1 m true = true := by
  have e : leAt imageBody 24 4 = 4 := by decide +kernel
  have f : Dev.fwHeaderOk imageBody 1 4 = true := by decide +kernel
  refine Dev.fwAccepts_vendor d imageBody _ 1 m (by decide +kernel) ?_ (by decide +kernel)
    List.length_replicate
  simp only [Dev.fwHeaderOk, Bool.and_eq_true, decide_eq_true_eq, e] at f ⊢
  simp_all

theorem length_image : image.length = 772 := by
  simp only [image, List.length_append, length_imageBody, length_sha512, List.length_replicate, List.length_cons,
    List.length_nil]

theorem get_flashAt_of_lt (bs : List Byte) (m : SMap Byte) {o k : Nat} (h : k < o) :
    SMap.get 0xFF (flashAt o bs ++ m) k = SMap.get 0xFF m k := by
  induction bs generalizing o with
  | nil => rfl
  | cons b bs ih =>
    have : o ≠ k := by omega
    simpa only [flashAt, List.cons_append, SMap.get, if_neg this] using ih (o := o + 1) (by omega)

theorem get_flashAt (bs : List Byte) (m : SMap Byte) (o k : Nat) (h : k < bs.length) :
    SMap.get 0xFF (flashAt o bs ++ m) (o + k) = bs.getD k 0 := by
  induction bs generalizing o k with
  | nil => simp at h
  | cons b bs ih =>
    cases k with
    | zero => simp [flashAt, SMap.get]
    | succ k =>
      have := ih (o + 1) k (by simpa using h)
      rw [show o + 1 + k = o + (k + 1) by omega] at this
      have hk : o ≠ o + (k + 1) := by omega
      simpa only [flashAt, List.cons_append, SMap.get, if_neg hk, List.getD_cons_succ] using this

theorem get_flashAt_of_ge (bs : List Byte) (m : SMap Byte) {o k : Nat} (h : o + bs.length ≤ k) :
    SMap.get 0xFF (flashAt o bs ++ m) k = SMap.get 0xFF m k := by
  induction bs generalizing o with
  | nil => rfl
  | cons b bs ih =>
    simp only [List.length_cons] at h
    have : o ≠ k := by omega
    simpa only [flashAt, List.cons_append, SMap.get, if_neg this] using ih (o := o + 1) (by omega)

/-- What the boot ROM reads of the image in the flash. -/
theorem flashImage_image (d : Dev) (o : Nat) (h : ∀ k, k < 772 → d.flashByte (o + k) = image.getD k 0) :
    d.flashImage o Dev.primaryMax = image := by
  have he : ∀ n, n ≤ 772 → (List.range n).map (fun k => d.flashByte (o + k)) = bytesAt image 0 n := fun n hn =>
    List.map_congr_left (fun k hk => by simpa using h k (by have := List.mem_range.mp hk; omega))
  have e : leAt (bytesAt image 0 512) 24 4 = 4 := by
    have : bytesAt image 0 512 = bytesAt imageBody 0 512 := bytesAt_append_left _ _ (by rw [length_imageBody]; omega)
    rw [this]; decide +kernel
  unfold Dev.flashImage
  simp only [he 512 (by omega), e]
  have := he 772 (by omega)
  rw [← length_image, bytesAt_self, length_image] at this
  exact this

/-- A stream header of one segment of 32 bytes, and a load that has read it. -/
def segHeader : List Byte := fit 4096 (List.replicate 25 0 ++ [1] ++ List.replicate 494 0 ++ leBytes 4 32)
def segLoad : LoadSt := { kind := 1, src := .flash 0 0, header := segHeader, key := List.replicate 32 7, got := [] }
def segState : State := st { awake with load := some segLoad }

/-- What arrives of the segment: 32 bytes and a tag. -/
def segBytes (tag : List Byte) : List Byte := List.replicate 32 0 ++ tag
def segTag : List Byte :=
  gcmTag segLoad.key (segIv segLoad.header segLoad.seg) (segLoad.header ++ leBytes 4 segLoad.seg) (List.replicate 32 0)

theorem seg_length : segLength segLoad.header segLoad.seg = 32 := by decide +kernel

theorem pair_of_fst {α β : Type} {p : α × β} {a : α} (h : p.1 = a) : p = (a, p.2) := by rw [← h]

theorem arrivedFrom_one (b : List Byte) (pos n : Nat) (h0 : 0 < b.length) (h : b.length ≤ n) :
    Dev.arrivedFrom [(pos, b)] 2 pos n = b := by
  have e : b.take n = b := List.take_of_length_le h
  have e0 : n ≠ 0 := by omega
  simp [Dev.arrivedFrom, h0, e, e0]

/-- A read of the flash that finds one piece there. -/
theorem fetch_flash (d : Dev) (b : List Byte) (k pos n : Nat) (h0 : 0 < b.length) (h : b.length ≤ n) :
    d.fetch (.flash k 0) pos n [(pos, b)] = (if b.length < n then .part b 0x0F .ok else .bytes b, d) := by
  simp only [Dev.fetch, Nat.zero_add, List.length_singleton, arrivedFrom_one b pos n h0 h]
  split <;> rfl

theorem seg_offset : segOffset segLoad.header segLoad.seg = 0 := by decide +kernel

theorem seg_fetch (tag : List Byte) (h : tag.length = 16) :
    segState.dev.fetch segLoad.src (segOffset segLoad.header segLoad.seg) (segLength segLoad.header segLoad.seg + 16)
      [(0, segBytes tag)] = (.bytes (segBytes tag), segState.dev) := by
  have hl : (segBytes tag).length = 48 := by simp [segBytes, h]
  rw [seg_length, seg_offset]
  exact (fetch_flash _ _ _ _ _ (by omega) (by omega)).trans (by rw [if_neg (by omega)])

theorem seg_fetch_part :
    segState.dev.fetch segLoad.src (segOffset segLoad.header segLoad.seg) (segLength segLoad.header segLoad.seg + 16)
      [(0, List.replicate 20 0)] = (.part (List.replicate 20 0) 0x0F .ok, segState.dev) := by
  rw [seg_length, seg_offset]
  exact fetch_flash _ _ _ _ _ (by decide) (by decide)

/-- A load that has reached the seal of a stream without segments. -/
def sealLoad : LoadSt := { kind := 3, src := .flash 0 0, header := [1] }
def sealState : State := st { awake with load := some sealLoad }

theorem seal_fetch :
    sealState.dev.fetch sealLoad.src (streamLen sealLoad.header - 256) 256
      [(streamLen sealLoad.header - 256, List.replicate 256 0)] = (.bytes (List.replicate 256 0), sealState.dev) :=
  (fetch_flash _ _ _ _ _ (by rw [List.length_replicate]; omega) (by rw [List.length_replicate])).trans
    (by rw [List.length_replicate, if_neg (by omega)])

theorem seg_drop (tag : List Byte) : (segBytes tag).drop (segLength segLoad.header segLoad.seg) = tag := by
  rw [seg_length]; exact List.drop_left' List.length_replicate

theorem seg_take (tag : List Byte) :
    (segBytes tag).take (segLength segLoad.header segLoad.seg) = List.replicate 32 0 := by
  rw [seg_length]; exact List.take_left' List.length_replicate

theorem segTag_ne : segTag.map (· + 1) ≠ segTag := by
  intro h
  have hl : segTag.length = 16 := length_gcmTag _ _ _ _
  have := congrArg (·.getD 0 0) h
  simp only [List.getD_eq_getElem?_getD, List.getElem?_map] at this
  rw [List.getElem?_eq_getElem (by omega)] at this
  simp at this

/-! ## States and operands that meet the hypotheses of each statement -/

theorem witness_PowerOnReset :
    (∃ (s : State) (ns : Nat), s.ready = true ∧ ns < 100) ∧
    (∃ (s : State) (ns : Nat), s.ready = true ∧ 1000 ≤ ns ∧ s.dev.get Reg.START_STS_STEP = 1) ∧
    (∃ (s : State) (ns : Nat), 1000 ≤ ns ∧ s.dev.get Reg.START_STS_STEP ≠ 1) ∧
    (∃ (s : State), s.ready = true) :=
  ⟨⟨up [], 99, by decide +kernel⟩,
   ⟨State.reset, 1000, by decide +kernel⟩,
   ⟨up [], 1000, by decide +kernel⟩,
   ⟨up [], by decide +kernel⟩⟩

theorem witness_StartupSteps_1 :
    (∃ (s : State) (us : Nat), s.live = true ∧ s.dev.get Reg.START_STS_STEP = 1 ∧ 2000 ≤ us ∧ s.dev.on Reg.START_STS_RAILS_OK = true ∧ s.dev.start.rstnLow = false) ∧
    (∃ (s : State) (va vb : Bool), s.live = true ∧ s.dev.inBootRom = true ∧ s.dev.flashBusy = false ∧ s.dev.on Reg.MP_STS_RECOVERY = false ∧ s.dev.fwAccepts (s.dev.flashImage 0 Dev.primaryMax) 1 Dev.primaryMax va = true ∧ (s.dev.fwAccepts (s.dev.flashImage 0xC0000 Dev.primaryMax) 1 Dev.primaryMax vb = false ∨ leAt (s.dev.flashImage 0xC0000 Dev.primaryMax) 16 4 ≤ leAt (s.dev.flashImage 0 Dev.primaryMax) 16 4)) ∧
    (∃ (s : State) (va vb : Bool), s.live = true ∧ s.dev.inBootRom = true ∧ s.dev.flashBusy = false ∧ s.dev.on Reg.MP_STS_RECOVERY = false ∧ s.dev.fwAccepts (s.dev.flashImage 0xC0000 Dev.primaryMax) 1 Dev.primaryMax vb = true ∧ (s.dev.fwAccepts (s.dev.flashImage 0 Dev.primaryMax) 1 Dev.primaryMax va = false ∨ leAt (s.dev.flashImage 0 Dev.primaryMax) 16 4 < leAt (s.dev.flashImage 0xC0000 Dev.primaryMax) 16 4)) ∧
    (∃ (s : State) (va vb : Bool), s.ready = true ∧ s.dev.inBootRom = true ∧ s.dev.flashBusy = false ∧ s.dev.on Reg.MP_STS_RECOVERY = false ∧ s.dev.fwAccepts (s.dev.flashImage 0 Dev.primaryMax) 1 Dev.primaryMax va = false ∧ s.dev.fwAccepts (s.dev.flashImage 0xC0000 Dev.primaryMax) 1 Dev.primaryMax vb = false) :=
  ⟨⟨st (fields [(Reg.START_STS_RAILS_OK, 1)] State.reset.dev), 2000, by decide +kernel⟩,
   ⟨(st { awake with flash := flashAt 0 image ++ flashAt 0xC0000 (List.replicate 28 0) }), true, true, by decide +kernel, by decide +kernel, by decide +kernel, by decide +kernel,
    by
      rw [flashImage_image]
      · exact image_accepted _ _ (by decide)
      · exact fun k hk => get_flashAt image _ 0 k (by rwa [length_image]),
    .inl (by decide +kernel)⟩,
   ⟨(st { awake with flash := flashAt 0 (List.replicate 28 0) ++ (flashAt 0xC0000 image ++ []) }), true, true, by decide +kernel, by decide +kernel, by decide +kernel, by decide +kernel,
    by
      rw [flashImage_image]
      · exact image_accepted _ _ (by decide)
      · exact fun k hk => (get_flashAt_of_ge (List.replicate 28 0) _ (by rw [List.length_replicate]; omega)).trans
          (get_flashAt image _ 0xC0000 k (by rwa [length_image])),
    .inl (by decide +kernel)⟩,
   ⟨st { awake with flash := flashAt 24 [0, 0, 0, 0] ++ flashAt 0xC0018 [0, 0, 0, 0] }, true, true, by decide +kernel⟩⟩

theorem witness_StartupSteps_2 :
    (∃ (s : State) (image : List Byte) (v : Bool), s.live = true ∧ s.dev.inBootRom = true ∧ s.dev.on Reg.MP_STS_RECOVERY = true ∧ (s.dev.romWork.storeBytes (.hs 0) 0x10000 ((image.drop 512).take (min (leAt image 24 4) 393216))).fwAccepts image 1 393216 v = true) ∧
    (∃ (s : State) (image : List Byte) (v : Bool), s.live = true ∧ s.dev.inBootRom = true ∧ s.dev.on Reg.MP_STS_RECOVERY = true ∧ (s.dev.romWork.storeBytes (.hs 0) 0x10000 ((image.drop 512).take (min (leAt image 24 4) 393216))).fwAccepts image 1 393216 v = false) ∧
    (∃ (s : State) (who : Who), s.ready = true ∧ s.dev.takes who Reg.RST_CTL_ADVANCE = true ∧ s.dev.get Reg.START_STS_STEP = 3 ∧ s.dev.on Reg.CLK_STS_ROOT_LOCK = true) ∧
    (∃ (s : State) (who : Who), s.ready = true ∧ s.dev.takes who Reg.RST_CTL_ADVANCE = true ∧ s.dev.get Reg.START_STS_STEP = 4) :=
  ⟨⟨(up [(Reg.MP_STS_RECOVERY, 1)]), image, true, by decide +kernel, by decide +kernel, by decide +kernel, image_accepted _ _ (by decide)⟩,
   ⟨up [(Reg.MP_STS_RECOVERY, 1)], [], true, by decide +kernel⟩,
   ⟨up [(Reg.START_STS_STEP, 3)], .mp, by decide +kernel⟩,
   ⟨up [(Reg.START_STS_STEP, 4)], .debug, by decide +kernel⟩⟩

theorem witness_StartupSteps_3 :
    (∃ (s : State) (who : Who), s.ready = true ∧ s.dev.takes who Reg.RST_CTL_ADVANCE = true ∧ s.dev.get Reg.START_STS_STEP = 5) ∧
    (∃ (s : State), s.ready = true ∧ s.dev.boot.running = true ∧ s.dev.boot.due = true ∧ s.dev.load = none) ∧
    (∃ (s : State), s.ready = true ∧ s.dev.boot.running = true ∧ s.dev.boot.due = true ∧ s.dev.load = none ∧ s.dev.on Reg.START_STS_INITN_HELD = false) ∧
    (∃ (s : State), s.ready = true ∧ s.dev.drivesLow 6 s.dev.start.doneDriven = false ∧ s.dev.start.waitDone = false) :=
  ⟨⟨up [(Reg.START_STS_STEP, 5)], .mp, by decide +kernel⟩,
   ⟨st { awake with boot := { running := true, due := true } }, by decide +kernel⟩,
   ⟨st { awake with boot := { running := true, due := true } }, by decide +kernel⟩,
   ⟨st { awake with start := { awake.start with doneDriven := false } }, by decide +kernel⟩⟩

theorem witness_StartupSteps_4 :
    ∃ (s : State), s.live = true ∧ s.dev.drivesLow 6 s.dev.start.doneDriven = false ∧ s.dev.start.waitDone = true :=
  ⟨st { awake with start := { awake.start with doneDriven := false, waitDone := true } }, by decide +kernel⟩

theorem witness_ResetsAndRails :
    (∃ (s : State) (who : Who), s.live = true ∧ s.dev.takes who Reg.RST_CTL_DP_RESET = true ∧ s.dev.get Reg.START_STS_STEP = 0 ∧ s.dev.on Reg.START_STS_DP_BUSY = false) ∧
    (∃ (s : State) (who : Who), s.live = true ∧ s.dev.takes who Reg.RST_CTL_WARM_RESET = true) ∧
    (∃ (s : State), s.ready = true) ∧
    (∃ (s : State) (readings : List (BitVec 8)) (k : Fin 16), s.ready = true ∧ (∀ j : Fin 16, (readings.getD j.val 0).toInt ≤ (readings.getD k.val 0).toInt) ∧ (∀ j : Fin 16, j < k → (readings.getD j.val 0).toInt < (readings.getD k.val 0).toInt)) :=
  ⟨⟨st { awake with unlocks := [.mp] }, .mp, by decide +kernel⟩,
   ⟨st { awake with unlocks := [.mp] }, .mp, by decide +kernel⟩,
   ⟨st ((fields [] awake).putWord Reg.RAIL_STS 0xffff), by decide +kernel⟩,
   ⟨up [], [20, 25, 25, 251], (1 : Fin 16), by decide +kernel⟩⟩

theorem witness_RegisterWritesAndReads_1 :
    (∃ (s : State) (who : Who) (off : BitVec 24) (x : Word) (r : RegDef), s.live = true ∧ s.dev.takesWrite who off.toNat x = true ∧ cmdBits off.toNat x = [] ∧ regAt off.toNat = some r ∧ fifoAt off.toNat = none ∧ off.toNat ≠ Reg.UNLOCK_KEY ∧ off.toNat ≠ Reg.PWR_CTL ∧ ¬(Reg.PATCH_ADDR 0 ≤ off.toNat ∧ off.toNat < Reg.PATCH_ADDR 16) ∧ off.toNat % 4 = 0 ∧ off.toNat < 0x900000) ∧
    (∃ (off : Nat) (xs : List Word), off < 0x900000 ∧ off % 4 = 0 ∧ xs ≠ [] ∧ xs.length < 16) ∧
    (∃ (s : State) (off : BitVec 24), s.ready = true ∧ 0x900000 ≤ off.toNat) ∧
    (∃ (s : State) (who : Who) (off : BitVec 24) (x : Word) (r : RegDef) (f : FieldDef), s.live = true ∧ s.dev.takesWrite who off.toNat x = true ∧ cmdBits off.toNat x = [] ∧ regAt off.toNat = some r ∧ fifoAt off.toNat = none ∧ off.toNat ≠ Reg.UNLOCK_KEY ∧ off.toNat ≠ Reg.PWR_CTL ∧ ¬(Reg.PATCH_ADDR 0 ≤ off.toNat ∧ off.toNat < Reg.PATCH_ADDR 16) ∧ off.toNat % 4 = 0 ∧ off.toNat < 0x900000 ∧ f ∈ r.fields ∧ f.cls = .cnt) :=
  ⟨⟨up [], .mp, BitVec.ofNat 24 Reg.PACK_PARAM, 0x5, reg Reg.PACK_PARAM, by decide +kernel⟩,
   ⟨0x100, [1], by decide +kernel⟩,
   ⟨up [], 0x900000, by decide +kernel⟩,
   ⟨up [(Reg.FAULT_CNT_PARITY_CNT, 3)], .debug, 0x3C, 0x5, reg 0x3C, ⟨16, 16, .cnt, false, 0, [], false⟩, by decide +kernel⟩⟩

theorem witness_RegisterWritesAndReads_2 :
    ∃ (s : State) (who : Who) (off : BitVec 24) (r : RegDef), s.ready = true ∧ s.dev.csrReadRefusal who off.toNat = none ∧ regAt off.toNat = some r ∧ fifoReadAt off.toNat = none ∧ off.toNat ≠ Reg.LOG_HI ∧ off.toNat % 4 = 0 ∧ off.toNat < 0x900000 :=
  ⟨up [(Reg.FAULT_EVT_SNAP_DONE, 1)], .debug, 0x30, reg 0x30, by decide +kernel⟩

theorem witness_RegisterTables :
    ∃ (b : Nat) (r : RegDef) (f : FieldDef), r ∈ blockRegs b ∧ f ∈ r.fields :=
  ⟨0, reg 0x30, ⟨0, 1, .evt, false, 0, [], false⟩, by decide +kernel⟩

theorem witness_UnlocksAndSnapshots_1 :
    (∃ (s : State) (who : Who), s.ready = true ∧ s.dev.takesWrite who Reg.UNLOCK_KEY 0x7A3C = true) ∧
    (∃ (s : State) (who : Who) (key : BitVec 16), s.ready = true ∧ s.dev.takesWrite who Reg.UNLOCK_KEY (key.setWidth 32) = true ∧ key ≠ 0x7A3C) ∧
    (∃ (s : State), s.ready = true) ∧
    (∃ (s : State) (who : Who), s.ready = true ∧ s.dev.takes who Reg.SNAP_CTL_SNAP = true ∧ s.dev.on Reg.SNAP_STS_SNAP_BUSY = false) :=
  ⟨⟨up [], .debug, by decide +kernel⟩,
   ⟨st { awake with unlocks := [.debug, .mp] }, .debug, 0x7A3D, by decide +kernel⟩,
   ⟨st { awake with unlocks := [.debug, .mp] }, by decide +kernel⟩,
   ⟨up [], .client 5, by decide +kernel⟩⟩

theorem witness_UnlocksAndSnapshots_2 :
    (∃ (s : State) (who : Who), s.ready = true ∧ s.dev.takes who Reg.SNAP_CTL_SNAP = true ∧ s.dev.on Reg.SNAP_STS_SNAP_BUSY = true) ∧
    (∃ (s : State), s.live = true ∧ s.dev.on Reg.SNAP_STS_SNAP_BUSY = true) :=
  ⟨⟨up [(Reg.SNAP_STS_SNAP_BUSY, 1)], .mp, by decide +kernel⟩,
   ⟨up [(Reg.SNAP_STS_SNAP_BUSY, 1), (Reg.SNAP_STS_SNAP_SEQ, 65535), (Reg.SCRUB_PASSES_CNT, 5)], by decide +kernel⟩⟩

theorem witness_ParityAndVotes_1 :
    (∃ (s : State) (off : BitVec 24) (r : RegDef) (f : FieldDef), s.live = true ∧ regAt off.toNat = some r ∧ f ∈ r.fields ∧ f.cls = .ctl) ∧
    (∃ (s : State) (off : BitVec 24) (r : RegDef) (f : FieldDef), s.ready = true ∧ regAt off.toNat = some r ∧ f ∈ r.fields ∧ f.cls = .ctl) ∧
    (∃ (s : State) (off : BitVec 24) (cls : Cls) (r : RegDef) (f : FieldDef), s.ready = true ∧ (cls = .evt ∨ cls = .cnt) ∧ regAt off.toNat = some r ∧ f ∈ r.fields ∧ f.cls = cls) ∧
    (∃ (s : State) (off : BitVec 24) (cls : Cls) (r : RegDef) (f : FieldDef), s.ready = true ∧ (cls = .cmd ∨ cls = .sts ∨ cls = .key) ∧ regAt off.toNat = some r ∧ f ∈ r.fields ∧ f.cls = cls ∧ (cls = .cmd → ∀ n : Region, off.toNat = Reg.FF_CTL n → s.dev.on (Reg.FF_CTL_REINIT n) = false)) :=
  ⟨⟨up [], 0x20000#24, reg 0x20000, (⟨1, 1, .ctl, false, 0, [], false⟩ : FieldDef), by decide +kernel⟩,
   ⟨up [], 0x20000#24, reg 0x20000, (⟨1, 1, .ctl, false, 0, [], false⟩ : FieldDef), by decide +kernel⟩,
   ⟨up [], 0x30, .evt, reg 0x30, ⟨2, 1, .evt, false, 0, [], false⟩, by decide +kernel⟩,
   ⟨up [], 0x100, .cmd, reg 0x100, ⟨2, 1, .cmd, false, 0, [], false⟩, by decide +kernel⟩⟩

theorem witness_ParityAndVotes_2 :
    (∃ (s : State) (off : BitVec 24) (n : Region), s.ready = true ∧ off.toNat = Reg.FF_CTL n ∧ s.dev.on (Reg.FF_CTL_REINIT n) = true) ∧
    (∃ (s : State) (off : BitVec 24) (cls : Cls), s.ready = true ∧ (∀ r, regAt off.toNat = some r → ∀ f ∈ r.fields, f.cls ≠ cls)) ∧
    (∃ (s : State) (off : BitVec 24), s.ready = true ∧ triplicated off.toNat = true) ∧
    (∃ (s : State) (off : BitVec 24), s.live = true ∧ triplicated off.toNat = true) :=
  ⟨⟨up [(Reg.FF_CTL_REINIT 3, 1), (Reg.FF_STS_REINIT_BUSY 3, 1)], BitVec.ofNat 24 (Reg.FF_CTL 3), 3, by decide +kernel⟩,
   ⟨up [], 0xFFFFFF#24, Cls.ctl, by decide +kernel⟩,
   ⟨up [], 0x104, by decide +kernel⟩,
   ⟨up [], 0x104, by decide +kernel⟩⟩

theorem witness_ParityAndVotes_3 :
    ∃ (s : State) (off : BitVec 24), s.ready = true ∧ triplicated off.toNat = false :=
  ⟨up [], 0x100, by decide +kernel⟩

theorem witness_WaybillReadsAndWrites_1 :
    (∃ (s : State) (req : WbReq) (mac : Nat), s.live = true ∧ req.who = .client mac ∧ req.msg.op = 1 ∧ req.msg.resp = false ∧ s.dev.wb.queue.head? = some req ∧ userIndex req.msg.index = false) ∧
    (∃ (s : State) (req : WbReq) (mac : Nat), s.live = true ∧ req.who = .client mac ∧ req.msg.op = 2 ∧ req.msg.resp = false ∧ s.dev.wb.queue.head? = some req ∧ userIndex req.msg.index = false ∧ ¬(req.msg.index = 0x7201 ∧ req.msg.sub = 0) ∧ Dev.storesFlash req = false) ∧
    (∃ (s : State) (req : WbReq) (mac : Nat), s.live = true ∧ req.who = .client mac ∧ req.msg.op = 3 ∧ req.msg.resp = false ∧ s.dev.wb.queue.head? = some req ∧ userIndex req.msg.index = false) ∧
    (∃ (s : State) (req : WbReq) (mac : Nat), s.live = true ∧ req.who = .client mac ∧ req.msg.op = 4 ∧ req.msg.resp = false ∧ s.dev.wb.queue.head? = some req ∧ userIndex req.msg.index = false ∧ Dev.storesFlash req = false) :=
  ⟨⟨st { awake with wb := { queue := [{ who := .client 5, msg := { op := 1, seq := 9, index := 0x1100, sub := 1 } }], executing := [(5, 9)] } }, ({ who := .client 5, msg := { op := 1, seq := 9, index := 0x1100, sub := 1 } } : WbReq), 5, by decide +kernel⟩,
   ⟨st { awake with wb := { queue := [{ who := .client 5, msg := { op := 2, seq := 9, index := 0x1F00, sub := 0, length := 2, payload := [0x3C, 0x7A] } }], executing := [(5, 9)] } }, ({ who := .client 5, msg := { op := 2, seq := 9, index := 0x1F00, sub := 0, length := 2, payload := [0x3C, 0x7A] } } : WbReq), 5, by decide +kernel⟩,
   ⟨st { awake with wb := { queue := [{ who := .client 5, msg := { op := 3, seq := 9, index := 0x1100, sub := 1, arg := 2 } }], executing := [(5, 9)] } }, ({ who := .client 5, msg := { op := 3, seq := 9, index := 0x1100, sub := 1, arg := 2 } } : WbReq), 5, by decide +kernel⟩,
   ⟨st { awake with wb := { queue := [{ who := .client 5, msg := { op := 4, seq := 9, index := 0x7101, sub := 1, arg := 2, length := 8, payload := [1, 0, 0, 0, 2, 0, 0, 0] } }], executing := [(5, 9)] } }, ({ who := .client 5, msg := { op := 4, seq := 9, index := 0x7101, sub := 1, arg := 2, length := 8, payload := [1, 0, 0, 0, 2, 0, 0, 0] } } : WbReq), 5, by decide +kernel⟩⟩

theorem witness_WaybillReadsAndWrites_2 :
    (∃ (s : State) (req : WbReq) (mac : Nat), s.live = true ∧ req.who = .client mac ∧ req.msg.op = 2 ∧ req.msg.resp = false ∧ s.dev.wb.queue.head? = some req ∧ userIndex req.msg.index = false ∧ ¬(req.msg.index = 0x7201 ∧ req.msg.sub = 0) ∧ Dev.storesFlash req = true ∧ (({ s.dev with wb := { s.dev.wb with queue := s.dev.wb.queue.tail } } : Dev).objWrite req.who req.msg.index req.msg.sub req.msg.payload (condOf req.msg)).2.1 = .ok) ∧
    (∃ (s : State) (f : ForwardSt), s.live = true ∧ s.dev.fwUp = true ∧ s.dev.wb.forwards.find? (fun f => f.tag.isNone) = some f) ∧
    (∃ (s : State) (req : WbReq) (mac : Nat), s.live = true ∧ req.who = .client mac ∧ req.msg.op = 1 ∧ req.msg.resp = false ∧ req.msg.desc = false ∧ s.dev.wb.queue.head? = some req ∧ Dev.firmwareIndex req.msg.index req.msg.sub = true ∧ userIndex req.msg.index = false ∧ s.dev.fwUp = true) ∧
    (∃ (s : State) (req : WbReq) (mac : Nat), s.live = true ∧ req.who = .client mac ∧ req.msg.op = 1 ∧ req.msg.resp = false ∧ req.msg.desc = false ∧ s.dev.wb.queue.head? = some req ∧ req.msg.index = 0x1010 ∧ req.msg.sub = 4 ∧ s.dev.fwUp = false) :=
  ⟨⟨st { (fields [(Reg.MP_STS_RUNNING, 1)] { awake with unlocks := [.client 5] }) with wb := { queue := [{ who := .client 5, msg := { op := 2, seq := 9, index := 0x1010, sub := 4, length := 4, payload := [1, 0, 0, 0] } }], executing := [(5, 9)] } }, ({ who := .client 5, msg := { op := 2, seq := 9, index := 0x1010, sub := 4, length := 4, payload := [1, 0, 0, 0] } } : WbReq), 5, by decide +kernel⟩,
   ⟨st { fields [(Reg.MP_STS_RUNNING, 1)] awake with wb := { forwards := [⟨{ who := .client 5, msg := { op := 2, index := 0x1020, sub := 1, payload := leBytes 32 0 } }, none, false⟩] } }, (⟨{ who := .client 5, msg := { op := 2, index := 0x1020, sub := 1, payload := leBytes 32 0 } }, none, false⟩ : ForwardSt), by decide +kernel⟩,
   ⟨st { (fields [(Reg.MP_STS_RUNNING, 1)] awake) with wb := { queue := [{ who := .client 5, msg := { op := 1, seq := 9, index := 0x1010, sub := 4 } }], executing := [(5, 9)] } }, ({ who := .client 5, msg := { op := 1, seq := 9, index := 0x1010, sub := 4 } } : WbReq), 5, by decide +kernel⟩,
   ⟨st { awake with wb := { queue := [{ who := .client 5, msg := { op := 1, seq := 9, index := 0x1010, sub := 4 } }], executing := [(5, 9)] } }, ({ who := .client 5, msg := { op := 1, seq := 9, index := 0x1010, sub := 4 } } : WbReq), 5, by decide +kernel⟩⟩

theorem witness_WaybillReadsAndWrites_3 :
    (∃ (s : State) (req : WbReq) (mac : Nat) (i : Nat), s.live = true ∧ req.who = .client mac ∧ 1 ≤ req.msg.op ∧ req.msg.op ≤ 4 ∧ req.msg.resp = false ∧ s.dev.wb.queue.head? = some req ∧ userIndex req.msg.index = true ∧ s.dev.userTarget req.msg.index = some i ∧ i < 128) ∧
    (∃ (s : State) (req : WbReq) (mac : Nat), s.live = true ∧ req.who = .client mac ∧ 1 ≤ req.msg.op ∧ req.msg.op ≤ 4 ∧ req.msg.resp = false ∧ s.dev.wb.queue.head? = some req ∧ userIndex req.msg.index = true ∧ s.dev.userTarget req.msg.index = none) :=
  ⟨⟨st { { awake with userMap := [(1, 2 ^ 40 + 3 * 2 ^ 32 + 0xA00F * 65536 + 0xA000)] } with wb := { queue := [{ who := .client 5, msg := { op := 1, seq := 9, index := 0xA005 } }], executing := [(5, 9)] } }, ({ who := .client 5, msg := { op := 1, seq := 9, index := 0xA005 } } : WbReq), 5, 3, by decide +kernel⟩,
   ⟨st { awake with wb := { queue := [{ who := .client 5, msg := { op := 1, seq := 9, index := 0xA005 } }], executing := [(5, 9)] } }, ({ who := .client 5, msg := { op := 1, seq := 9, index := 0xA005 } } : WbReq), 5, by decide +kernel⟩⟩

theorem witness_WaybillOtherOperations_1 :
    (∃ (s : State) (req : WbReq) (mac : Nat), s.live = true ∧ req.who = .client mac ∧ req.msg.op = 5 ∧ req.msg.resp = false ∧ s.dev.wb.queue.head? = some req ∧ s.dev.on Reg.SNAP_STS_SNAP_BUSY = false) ∧
    (∃ (s : State) (req : WbReq) (mac : Nat), s.live = true ∧ req.who = .client mac ∧ req.msg.op = 6 ∧ req.msg.resp = false ∧ s.dev.wb.queue.head? = some req) ∧
    (∃ (s : State) (f : WbFenceSt), s.live = true ∧ s.dev.wb.fences.find? (fun f => f.covered.all (fun c => c.2.isSome)) = some f ∧ (∀ c ∈ f.covered, c.2 = some .ok)) ∧
    (∃ (s : State) (req : WbReq) (mac : Nat), s.live = true ∧ req.who = .client mac ∧ req.msg.op = 7 ∧ req.msg.resp = false ∧ s.dev.wb.queue.head? = some req ∧ req.msg.arg % 16 = 1 ∧ localRefusal (req.msg.arg / 16 % 16) (req.msg.arg / 256 % 65536) = none ∧ s.dev.commitPending (req.msg.arg / 16 % 16) (req.msg.arg / 256 % 65536) = false) :=
  ⟨⟨st { awake with wb := { queue := [{ who := .client 5, msg := { op := 5, seq := 9 } }], executing := [(5, 9)] } }, ({ who := .client 5, msg := { op := 5, seq := 9 } } : WbReq), 5, by decide +kernel⟩,
   ⟨st { awake with wb := { queue := [{ who := .client 5, msg := { op := 6, seq := 9 } }], executing := [(5, 9)], codes := [(5, 7, some .ok), (6, 1, none), (5, 9, none), (5, 10, none)] } }, ({ who := .client 5, msg := { op := 6, seq := 9 } } : WbReq), 5, by decide +kernel⟩,
   ⟨st { awake with wb := { fences := [⟨{ who := .client 5, msg := { op := 6, seq := 9 } }, [(7, some .ok)]⟩] } }, (⟨{ who := .client 5, msg := { op := 6, seq := 9 } }, [(7, some .ok)]⟩ : WbFenceSt), by decide +kernel⟩,
   ⟨st { awake with wb := { queue := [{ who := .client 5, msg := { op := 7, seq := 9, arg := 0x21 } }], executing := [(5, 9)] } }, ({ who := .client 5, msg := { op := 7, seq := 9, arg := 0x21 } } : WbReq), 5, by decide +kernel⟩⟩

theorem witness_WaybillOtherOperations_2 :
    (∃ (s : State) (req : WbReq) (mac : Nat), s.live = true ∧ req.who = .client mac ∧ req.msg.op = 7 ∧ req.msg.resp = false ∧ s.dev.wb.queue.head? = some req ∧ req.msg.arg % 16 = 1 ∧ localRefusal (req.msg.arg / 16 % 16) (req.msg.arg / 256 % 65536) = none ∧ s.dev.commitPending (req.msg.arg / 16 % 16) (req.msg.arg / 256 % 65536) = true) ∧
    (∃ (s : State) (req : WbReq) (mac : Nat), s.live = true ∧ req.who = .client mac ∧ s.dev.wbDiscard req.msg = none ∧ Dev.badLength req.msg = false ∧ req.msg.op = 8 ∧ req.msg.resp = false ∧ req.msg.index = 0x1100 ∧ req.msg.sub = 5) ∧
    (∃ (s : State) (req : WbReq) (mac : Nat), s.ready = true ∧ req.who = .client mac ∧ s.dev.wbDiscard req.msg = none ∧ req.msg.op = 8 ∧ req.msg.resp = false ∧ ¬(req.msg.index = 0x1100 ∧ req.msg.sub = 5) ∧ ¬(req.msg.index = 0x7202 ∧ req.msg.sub = 0)) ∧
    (∃ (s : State) (req : WbReq) (mac : Nat), s.live = true ∧ req.who = .client mac ∧ req.msg.op = 9 ∧ req.msg.resp = false ∧ s.dev.wb.queue.head? = some req) :=
  ⟨⟨st { (fields [(Reg.NOC_STS_COMMIT_PENDING, 1)] awake) with wb := { queue := [{ who := .client 5, msg := { op := 7, seq := 9, arg := 0x11 } }], executing := [(5, 9)] } }, ({ who := .client 5, msg := { op := 7, seq := 9, arg := 0x11 } } : WbReq), 5, by decide +kernel⟩,
   ⟨up [], ({ who := .client 5, msg := { op := 8, index := 0x1100, sub := 5 } } : WbReq), 5, by decide +kernel⟩,
   ⟨up [], ({ who := .client 5, msg := { op := 8, index := 0x1101, sub := 5 } } : WbReq), 5, by decide +kernel⟩,
   ⟨st { awake with wb := { queue := [{ who := .client 5, msg := { op := 9, seq := 9 } }], executing := [(5, 9)] } }, ({ who := .client 5, msg := { op := 9, seq := 9 } } : WbReq), 5, by decide +kernel⟩⟩

theorem witness_WaybillOtherOperations_3 :
    (∃ (s : State) (k : Fin 64) (req : WbReq), s.live = true ∧ s.dev.wb.discovers[k.val]? = some req) ∧
    (∃ (s : State) (req : WbReq) (mac : Nat), s.live = true ∧ req.who = .client mac ∧ req.msg.op = 10 ∧ req.msg.resp = false ∧ s.dev.wb.queue.head? = some req) ∧
    (∃ (s : State) (req : WbReq) (mac : Nat), s.live = true ∧ req.who = .client mac ∧ req.msg.op = 11 ∧ req.msg.resp = false ∧ s.dev.wb.queue.head? = some req ∧ s.dev.fwUp = true ∧ req.msg.payload.length = 64) ∧
    (∃ (s : State) (req : WbReq) (body : List Byte) (rest : List (Option WbReq × List Byte)), s.live = true ∧ s.dev.wb.attest = (some req, body) :: rest) :=
  ⟨⟨st { awake with wb := { discovers := [{ who := .client 5, msg := { op := 9, seq := 9 } }] } }, (0 : Fin 64), ({ who := .client 5, msg := { op := 9, seq := 9 } } : WbReq), by decide +kernel⟩,
   ⟨st { awake with wb := { queue := [{ who := .client 5, msg := { op := 10, seq := 9 } }], executing := [(5, 9)] } }, ({ who := .client 5, msg := { op := 10, seq := 9 } } : WbReq), 5, by decide +kernel⟩,
   ⟨st { (fields [(Reg.MP_STS_RUNNING, 1)] awake) with wb := { queue := [{ who := .client 5, msg := { op := 11, seq := 9, length := 64, payload := leBytes 64 1 } }], executing := [(5, 9)] } }, ({ who := .client 5, msg := { op := 11, seq := 9, length := 64, payload := leBytes 64 1 } } : WbReq), 5, by decide +kernel⟩,
   ⟨st { awake with wb := { attest := [(some { who := .client 5, msg := { op := 11, seq := 9 } }, [1, 2, 3])] } }, ({ who := .client 5, msg := { op := 11, seq := 9 } } : WbReq), ([1, 2, 3] : List Byte), ([] : List (Option WbReq × List Byte)), by decide +kernel⟩⟩

theorem witness_WaybillNotifications_1 :
    (∃ (s : State) (ix : BitVec 16) (sub : BitVec 8) (off : Nat), s.live = true ∧ Dev.evtOffset ix.toNat sub.toNat = some off ∧ s.dev.wb.holds.any (fun h => h.index = ix.toNat ∧ h.sub = sub.toNat) = false) ∧
    (∃ (s : State) (ix : BitVec 16) (sub : BitVec 8) (off : Nat), s.ready = true ∧ Dev.evtOffset ix.toNat sub.toNat = some off ∧ s.dev.wb.holds.any (fun h => h.index = ix.toNat ∧ h.sub = sub.toNat) = true) ∧
    (∃ (s : State) (ix : BitVec 16) (sub : BitVec 8) (h : HoldSt), s.ready = true ∧ s.dev.wb.holds.find? (fun h => h.index == ix.toNat && h.sub == sub.toNat) = some h ∧ h.value = none) ∧
    (∃ (s : State) (ix : BitVec 16) (sub : BitVec 8) (h : HoldSt) (v : Word), s.live = true ∧ s.dev.wb.holds.find? (fun h => h.index == ix.toNat && h.sub == sub.toNat) = some h ∧ h.value = some v) :=
  ⟨⟨up [], 0x1F30, 1, 0x30, by decide +kernel⟩,
   ⟨st { awake with wb := { holds := [⟨0x1F30, 1, none⟩] } }, 0x1F30, 1, 0x30, by decide +kernel⟩,
   ⟨st { awake with wb := { holds := [⟨0x1F30, 1, none⟩] } }, 0x1F30, 1, (⟨0x1F30, 1, none⟩ : HoldSt), by decide +kernel⟩,
   ⟨st { awake with wb := { holds := [⟨0x1F30, 1, some 3⟩] } }, 0x1F30, 1, (⟨0x1F30, 1, some 3⟩ : HoldSt), 3, by decide +kernel⟩⟩

theorem witness_WaybillNotifications_2 :
    (∃ (s : State) (seq : BitVec 32) (n : NotifySt), s.live = true ∧ s.dev.wb.notifies.find? (fun n => n.seq == seq.toNat) = some n ∧ n.resends < 3) ∧
    (∃ (s : State) (seq : BitVec 32) (n : NotifySt), s.ready = true ∧ s.dev.wb.notifies.find? (fun n => n.seq == seq.toNat) = some n ∧ 3 ≤ n.resends) ∧
    (∃ (s : State) (req : WbReq) (mac : Nat), s.ready = true ∧ req.who = .client mac ∧ req.msg.resp = true ∧ req.msg.version = 1 ∧ req.msg.op = 8) ∧
    (∃ (s : State) (req : WbReq) (mac : Nat), s.ready = true ∧ req.who = .client mac ∧ req.msg.resp = true ∧ req.msg.op ∉ [2, 8, 9, 0xA]) :=
  ⟨⟨st { awake with wb := { notifies := [⟨4, 1, 0x1F30, 1, 0, 2⟩] } }, 4, (⟨4, 1, 0x1F30, 1, 0, 2⟩ : NotifySt), by decide +kernel⟩,
   ⟨st { awake with wb := { notifies := [⟨4, 1, 0x1F30, 1, 0, 3⟩] } }, 4, (⟨4, 1, 0x1F30, 1, 0, 3⟩ : NotifySt), by decide +kernel⟩,
   ⟨st { awake with wb := { notifies := [⟨4, 1, 0x1F30, 1, 0, 3⟩] } }, ({ who := .client 5, msg := { op := 8, resp := true, seq := 4 } } : WbReq), 5, by decide +kernel⟩,
   ⟨up [], ({ who := .client 5, msg := { op := 1, resp := true, seq := 4 } } : WbReq), 5, by decide +kernel⟩⟩

theorem witness_WaybillResponses :
    (∃ (req : WbReq) (mac : Nat), req.who = .client mac) ∧
    (∃ (d : Dev) (req : WbReq) (mac : Nat), req.who = .client mac ∧ d.wbDiscard req.msg = none ∧ d.clientOf mac = none ∧ (mac, req.msg.seq) ∉ d.wb.executing ∧ d.wb.queue.length < 64 ∧ d.wb.clients.length < 62 ∧ req.msg.length ≤ 8192 ∧ req.msg.length ≤ req.msg.payload.length ∧ Dev.knownOp req.msg.op = true) ∧
    (∃ (d : Dev) (req : WbReq) (mac : Nat) (c : ClientSt) (e : Nat × WbMsg), req.who = .client mac ∧ d.wbDiscard req.msg = none ∧ d.clientOf mac = some c ∧ c.replay.find? (fun e => e.1 == req.msg.seq) = some e) ∧
    (∃ (d : Dev) (req : WbReq) (mac : Nat), req.who = .client mac ∧ d.wbDiscard req.msg = none ∧ (d.clientOf mac).bind (fun c => c.replay.find? (fun e => e.1 == req.msg.seq)) = none ∧ (mac, req.msg.seq) ∉ d.wb.executing ∧ 64 ≤ d.wb.queue.length) :=
  ⟨⟨({ who := .client 5, port := 1, msg := { op := 1, seq := 9 } } : WbReq), 5, by decide +kernel⟩,
   ⟨awake, ({ who := .client 5, msg := { op := 1, seq := 9 } } : WbReq), 5, by decide +kernel⟩,
   ⟨({ awake with wb := { clients := [⟨5, 0, [(9, {})]⟩] } } : Dev), ({ who := .client 5, msg := { op := 1, seq := 9 } } : WbReq), 5, (⟨5, 0, [(9, {})]⟩ : ClientSt), ((9, {}) : Nat × WbMsg), by decide +kernel⟩,
   ⟨({ awake with wb := { queue := List.replicate 64 { who := .client 6 } } } : Dev), ({ who := .client 5, msg := { op := 1, seq := 9 } } : WbReq), 5, by decide +kernel⟩⟩

theorem witness_Ports_1 :
    (∃ (s : State) (p : Fin 2), s.live = true ∧ s.dev.linkUp p.val = false ∧ s.dev.portCanTrain p = true) ∧
    (∃ (s : State) (p : Fin 2), s.live = true ∧ s.dev.linkUp p.val = false ∧ s.dev.portCanTrain p = true ∧ (s.dev.port p.val).training = true) ∧
    (∃ (s : State) (p : Fin 2), s.ready = true ∧ s.dev.linkUp p.val = true) ∧
    (∃ (s : State) (who : Who) (p : Fin 2) (x : Word), s.live = true ∧ s.dev.takesWrite who (Reg.PORT_CTL p.val) x = true ∧ fieldOf x 0 3 ≠ fieldOf (s.dev.word (Reg.PORT_CTL p.val)) 0 3 ∧ (s.dev.port p.val).pendingCtl = none) :=
  ⟨⟨up [(Reg.PORT_CTL_ENABLE 0, 1)], (0 : Fin 2), by decide +kernel⟩,
   ⟨st { fields [(Reg.PORT_CTL_ENABLE 1, 1), (Reg.PORT_CTL_MODE 1, 1)] awake with port1 := { training := true } }, (1 : Fin 2), by decide +kernel⟩,
   ⟨st { fields [(Reg.PORT_STS_LINK_UP 1, 1)] awake with port1 := { txWb := [.ptp 0 0] } }, (1 : Fin 2), by decide +kernel⟩,
   ⟨up [], .mp, (1 : Fin 2), withField (awake.word (Reg.PORT_CTL 1)) 2 1 0, by decide +kernel⟩⟩

theorem witness_Ports_2 :
    (∃ (s : State) (who : Who) (p : Fin 2) (x : Word), s.ready = true ∧ s.dev.takesWrite who (Reg.PORT_CTL p.val) x = true ∧ fieldOf x 0 3 = fieldOf (s.dev.word (Reg.PORT_CTL p.val)) 0 3) ∧
    (∃ (s : State) (p : Fin 2) (f : RxFrame), s.ready = true ∧ s.dev.domState (2 + p.val) = 0 ∧ s.dev.on (Reg.DOM_STS_DRAINING (2 + p.val)) = false ∧ s.dev.linkUp p.val = true ∧ f.bytes.length < 64) ∧
    (∃ (s : State) (p : Fin 2) (f : RxFrame), s.ready = true ∧ s.dev.domState (2 + p.val) = 0 ∧ s.dev.on (Reg.DOM_STS_DRAINING (2 + p.val)) = false ∧ s.dev.linkUp p.val = true ∧ s.dev.ctl (Reg.PORT_CTL_MAX_FRAME p.val) < f.bytes.length ∧ 64 ≤ f.bytes.length) ∧
    (∃ (s : State) (p : Fin 2) (f : RxFrame) (ts : List (Nat × Nat)), s.ready = true ∧ s.dev.domState (2 + p.val) = 0 ∧ s.dev.on (Reg.DOM_STS_DRAINING (2 + p.val)) = false ∧ s.dev.linkUp p.val = true ∧ 64 ≤ f.bytes.length ∧ f.bytes.length ≤ s.dev.ctl (Reg.PORT_CTL_MAX_FRAME p.val) ∧ s.dev.toWaybill p f = none ∧ (etherAt f.bytes).1 = 0x8808 ∧ pauseTimes f.bytes (etherAt f.bytes).2 = some ts ∧ f.fcsOk = true) :=
  ⟨⟨up [], .mp, (0 : Fin 2), withField (awake.word (Reg.PORT_CTL 0)) 4 1 1, by decide +kernel⟩,
   ⟨st { fields [(Reg.PORT_STS_LINK_UP 1, 1)] awake with port1 := { rxFifo := [⟨[1, 2], true, true, 2, false⟩] } }, (1 : Fin 2), (⟨fit 63 (List.replicate 6 0xFF ++ [0, 0, 0, 0, 0, 5] ++ [0x08, 0x00] ++ [1]), true⟩ : RxFrame), by decide +kernel⟩,
   ⟨up [(Reg.PORT_STS_LINK_UP 1, 1), (Reg.PORT_CTL_MAX_FRAME 1, 64)], (1 : Fin 2), (⟨fit 65 (List.replicate 6 0xFF ++ [0, 0, 0, 0, 0, 5] ++ [0x08, 0x00] ++ [1]), true⟩ : RxFrame), by decide +kernel⟩,
   ⟨st { fields [(Reg.PORT_STS_LINK_UP 1, 1)] awake with port1 := { rxFifo := [⟨[1, 2], true, true, 2, false⟩] } }, (1 : Fin 2), (⟨fit 64 (List.replicate 6 0xFF ++ [0, 0, 0, 0, 0, 5] ++ [0x88, 0x08] ++ [0, 1, 0, 9]), true⟩ : RxFrame), ((pauseTimes [0, 1, 0, 9] 0).getD []), by decide +kernel⟩⟩

theorem witness_Ports_3 :
    (∃ (s : State) (p : Fin 2) (f : RxFrame) (taken : Nat), s.ready = true ∧ s.dev.domState (2 + p.val) = 0 ∧ s.dev.on (Reg.DOM_STS_DRAINING (2 + p.val)) = false ∧ s.dev.linkUp p.val = true ∧ 64 ≤ f.bytes.length ∧ f.bytes.length ≤ s.dev.ctl (Reg.PORT_CTL_MAX_FRAME p.val) ∧ s.dev.toWaybill p f = none ∧ (etherAt f.bytes).1 ≠ 0x8808 ∧ ptpEventAt f.bytes = none ∧ (s.dev.port p.val).rxFifo.length - taken + (f.bytes.length + 127) / 128 ≤ 128) ∧
    (∃ (s : State) (p : Fin 2) (f : RxFrame) (w : Nat × Nat × Carrier), s.live = true ∧ s.dev.domState (2 + p.val) = 0 ∧ s.dev.on (Reg.DOM_STS_DRAINING (2 + p.val)) = false ∧ s.dev.linkUp p.val = true ∧ 64 ≤ f.bytes.length ∧ f.bytes.length ≤ s.dev.ctl (Reg.PORT_CTL_MAX_FRAME p.val) ∧ s.dev.toWaybill p f = some w ∧ f.fcsOk = true) ∧
    (∃ (s : State) (p : Fin 2) (dst prio : Nat) (c : Carrier) (bytes : List Byte) (rest : List TxFrame), s.ready = true ∧ s.dev.linkUp p.val = true ∧ s.dev.portAwake p.val = true ∧ (s.dev.port p.val).txWb = .waybill dst c prio bytes :: rest ∧ s.dev.txHeld p.val prio = false) ∧
    (∃ (s : State) (p : Fin 2) (user : List FifoWord) (bs : List Byte) (rest : List FifoWord), s.ready = true ∧ s.dev.linkUp p.val = true ∧ s.dev.portAwake p.val = true ∧ (s.dev.port p.val).txWb = [] ∧ firstFrame ((s.dev.txAccept p.val user).port p.val).txFifo = some (bs, rest) ∧ s.dev.txHeld p.val (Dev.bytesPrio bs) = false ∧ ptpEventAt bs = none) :=
  ⟨⟨st { fields [(Reg.PORT_STS_LINK_UP 1, 1)] awake with port1 := { rxFifo := [⟨[1, 2], true, true, 2, false⟩] } }, (1 : Fin 2), (⟨fit 130 (List.replicate 6 0xFF ++ [0, 0, 0, 0, 0, 5] ++ [0x08, 0x00] ++ [1]), false⟩ : RxFrame), 1, by decide +kernel⟩,
   ⟨up [(Reg.PORT_STS_LINK_UP 1, 1), (Reg.WB_CTL_L2_EN, 1)], (1 : Fin 2), (⟨fit 64 (List.replicate 6 0xFF ++ [0, 0, 0, 0, 0, 5] ++ [0x88, 0xB5] ++ ({ op := 1, seq := 9 } : WbMsg).encode), true⟩ : RxFrame), ((14, 46, .l2) : Nat × Nat × Carrier), by decide +kernel⟩,
   ⟨st { fields [(Reg.PORT_STS_LINK_UP 1, 1)] awake with port1 := { txWb := [.waybill 5 .l2 0 [1]] } }, (1 : Fin 2), 5, 0, Carrier.l2, ([1] : List Byte), ([] : List TxFrame), by decide +kernel⟩,
   ⟨up [(Reg.PORT_STS_LINK_UP 1, 1)], (1 : Fin 2), ([⟨[2, 3, 4], true, true, 2, false⟩, ⟨[5], true, true, 1, false⟩] : List FifoWord), ([2, 3] : List Byte), ([⟨[5], true, true, 1, false⟩] : List FifoWord), by decide +kernel⟩⟩

theorem witness_Ports_4 :
    ∃ (s : State) (p : Fin 2) (user : List FifoWord) (bs : List Byte) (rest : List FifoWord) (o : Nat), s.ready = true ∧ s.dev.linkUp p.val = true ∧ s.dev.portAwake p.val = true ∧ (s.dev.port p.val).txWb = [] ∧ firstFrame ((s.dev.txAccept p.val user).port p.val).txFifo = some (bs, rest) ∧ s.dev.txHeld p.val (Dev.bytesPrio bs) = false ∧ ptpEventAt bs = some o :=
  ⟨up [(Reg.PORT_STS_LINK_UP 1, 1), (Reg.PACK_TIME_WORD 0, 80)], (1 : Fin 2), frameWords (fit 64 (List.replicate 12 0 ++ [0x88, 0xF7, 0])) false, fit 64 (List.replicate 12 (0 : Byte) ++ [0x88, 0xF7, 0]), ([] : List FifoWord), 14, by decide +kernel⟩

theorem witness_FabricCommands_1 :
    (∃ (s : State) (who : Who) (n : Region), s.ready = true ∧ s.dev.takes who (Reg.FF_CTL_REINIT n.val) = true ∧ s.dev.rstate n.val = rsActive ∧ s.dev.holdOn n.val = false ∧ s.dev.on (Reg.FF_CTL_REINIT n.val) = false) ∧
    (∃ (s : State) (n : Region), s.live = true ∧ s.dev.on (Reg.FF_STS_REINIT_BUSY n.val) = true ∧ s.dev.rclkRuns n (s.dev.activePlane n.val) = true ∧ s.dev.holdOn n.val = false) ∧
    (∃ (s : State) (n : Region) (t : Fin 512), s.ready = true ∧ (n.val * 512 + t.val) ∉ s.dev.trunkOff ∧ 2 ≤ s.dev.tapsOf n.val t.val) ∧
    (∃ (s : State) (n : Region) (t : Fin 512), s.ready = true ∧ (n.val * 512 + t.val) ∈ s.dev.trunkOff ∧ (n.val * 512 + t.val) ∈ s.dev.trunkFixed ∧ s.dev.tapsOf n.val t.val < 2) :=
  ⟨⟨st (fields [(Reg.RGN_STS_STATE 3, 1), (Reg.FF_STS_HOLD 3, 0), (Reg.RING_CTL_EN 0, 1)] { awake with rgn := [(3, { gateOpen := true })], frames := [(3 * 10240 + 3588, (40 * 2 ^ 17 + 40 * 2 ^ 23)), (3 * 10240 + 3589, 40 * 2 ^ (384 * 5 + 65))], unlocks := [.mp] }), .mp, (3 : Region), by decide +kernel⟩,
   ⟨st (fields [(Reg.FF_STS_REINIT_BUSY 3, 1), (Reg.FF_STS_HOLD 3, 0), (Reg.RGN_STS_STATE 3, 1), (Reg.RING_CTL_EN 0, 1)] { awake with ff := [(3 * 131072 + 40, true)], slice := [(144, { cur := 1 })], frames := [(3 * 10240 + 3584, 40)] }), (3 : Region), by decide +kernel⟩,
   ⟨st { awake with frames := [(3 * 10240 + 1536, 2 ^ (968 + 976)), (3 * 10240 + 1537, 2 ^ (968 + 976))] }, (3 : Region), (0 : Fin 512), by decide +kernel⟩,
   ⟨st { awake with trunkOff := [3 * 512 + 511], trunkFixed := [3 * 512 + 511] }, (3 : Region), (511 : Fin 512), by decide +kernel⟩⟩

theorem witness_FabricCommands_2 :
    (∃ (s : State) (who : Who) (n : Region) (force : BitVec 4), s.ready = true ∧ s.dev.takesField who (Reg.BORDER_CTL_FORCE n.val) force.toNat = true) ∧
    (∃ (s : State) (n : Region) (c : Fin 48), s.ready = true ∧ c.val < ioCells n.val ∧ s.dev.ioWidth n.val c.val ≠ 0 ∧ s.dev.holdOn n.val = false ∧ s.dev.clocked n.val = true ∧ (s.dev.ioSt n.val c.val).slipIn = 0) ∧
    (∃ (s : State) (net : Net) (falling : Bool), s.live = true ∧ s.dev.netRuns net = true ∧ s.dev.edgeDue net falling = true) ∧
    (∃ (s : State) (n : Region) (i : Fin 4096) (line : Fin 2), s.ready = true ∧ s.dev.holdOn n.val = false ∧ s.dev.domState (regionDom n.val) < 2 ∧ s.dev.clusterBits n.val i.val 62 1 = 1 ∧ s.dev.srOn n.val i.val line.val = true) :=
  ⟨⟨st { awake with unlocks := [.mp] }, .mp, (127 : Region), 15, by decide +kernel⟩,
   ⟨st { fields [(Reg.FF_STS_HOLD 0, 0)] awake with frames := [(3588, 2 ^ (2048 + 3))], rgn := [(0, { gateOpen := true })] }, (0 : Region), (0 : Fin 48), by decide +kernel⟩,
   ⟨st (fields [(Reg.RING_CTL_EN 0, 1)] { awake with rgn := [(3, { gateOpen := true })] }), Net.ring 0, false, by decide +kernel⟩,
   ⟨st { fields [(Reg.FF_STS_HOLD 3, 0)] awake with frames := [(30720, 2 ^ 71 + 2 ^ 73), (3 * 10240 + 1536, 2 ^ 62 + 2 ^ 60)] }, (3 : Region), (0 : Fin 4096), (0 : Fin 2), by decide +kernel⟩⟩

theorem witness_BlockMemoryPorts_1 :
    (∃ (s : State) (n : Region) (j : Fin 64) (a : BmReq), s.live = true ∧ s.dev.bmOpen n.val = true ∧ s.dev.bmBits n.val j.val 16 1 = 1 ∧ s.dev.bmPortRuns n j.val false = true ∧ ¬(a.we = true ∧ s.dev.bmReadOnly n.val j.val false = true)) ∧
    (∃ (s : State) (n : Region) (j : Fin 64) (a b : BmReq), s.live = true ∧ s.dev.bmOpen n.val = true ∧ s.dev.bmPortRuns n j.val false = true ∧ s.dev.bmPortRuns n j.val true = true ∧ (s.dev.bmSt (64 * n.val + j.val)).retained = none ∧ ¬(a.we = true ∧ s.dev.bmReadOnly n.val j.val false = true) ∧ ¬(b.we = true ∧ s.dev.bmReadOnly n.val j.val true = true) ∧ s.dev.bmMeet n.val j.val (s.dev.bmAddressed n.val j.val false a) (s.dev.bmAddressed n.val j.val true b) = 1) ∧
    (∃ (s : State) (n : Region) (j : Fin 64) (a b : BmReq), s.live = true ∧ s.dev.bmOpen n.val = true ∧ s.dev.bmPortRuns n j.val false = true ∧ s.dev.bmPortRuns n j.val true = true ∧ (s.dev.bmSt (64 * n.val + j.val)).retained = none ∧ ¬(a.we = true ∧ s.dev.bmReadOnly n.val j.val false = true) ∧ ¬(b.we = true ∧ s.dev.bmReadOnly n.val j.val true = true) ∧ s.dev.bmMeet n.val j.val (s.dev.bmAddressed n.val j.val false a) (s.dev.bmAddressed n.val j.val true b) = 0) ∧
    (∃ (s : State) (n : Region), s.ready = true ∧ s.dev.bmOpen n.val = false) :=
  ⟨⟨st (fields [(Reg.RGN_STS_STATE 3, 1), (Reg.FF_STS_HOLD 3, 0), (Reg.RING_CTL_EN 0, 1)] { awake with rgn := [(3, { gateOpen := true })], frames := [(3 * 10240 + 3588, (2 ^ 16 + 5 + (40 * 2 ^ 17 + 40 * 2 ^ 23))), (3 * 10240 + 3589, 40 * 2 ^ (384 * 5 + 65))] }), (3 : Region), (0 : Fin 64), ({ we := true, be := 15, addr := 5, din := 0x01020304 } : BmReq), by decide +kernel⟩,
   ⟨st (fields [(Reg.RGN_STS_STATE 3, 1), (Reg.FF_STS_HOLD 3, 0), (Reg.RING_CTL_EN 0, 1)] { awake with rgn := [(3, { gateOpen := true })], frames := [(3 * 10240 + 3588, (2 ^ 2016 * (1285 + (40 * 2 ^ 17 + 40 * 2 ^ 23)))), (3 * 10240 + 3589, 40 * 2 ^ (384 * 5 + 65))] }), (3 : Region), (63 : Fin 64), ({ we := false, be := 15, addr := 1, din := 0 } : BmReq), ({ we := true, be := 15, addr := 9, din := 7 } : BmReq), by decide +kernel⟩,
   ⟨st (fields [(Reg.RGN_STS_STATE 3, 1), (Reg.FF_STS_HOLD 3, 0), (Reg.RING_CTL_EN 0, 1)] { awake with rgn := [(3, { gateOpen := true })], frames := [(3 * 10240 + 3588, (2 ^ 2016 * (1285 + (40 * 2 ^ 17 + 40 * 2 ^ 23)))), (3 * 10240 + 3589, 40 * 2 ^ (384 * 5 + 65))] }), (3 : Region), (63 : Fin 64), ({ we := false, be := 15, addr := 1, din := 0 } : BmReq), ({ we := true, be := 15, addr := 2, din := 7 } : BmReq), by decide +kernel⟩,
   ⟨up [], (3 : Region), by decide +kernel⟩⟩

theorem witness_BlockMemoryPorts_2 :
    (∃ (s : State) (n : Region) (j : Fin 64) (a b : BmReq), s.live = true ∧ s.dev.bmOpen n.val = true ∧ s.dev.bmPortRuns n j.val false = true ∧ s.dev.bmPortRuns n j.val true = true ∧ (s.dev.bmSt (64 * n.val + j.val)).retained = none ∧ a.we = true ∧ b.we = false ∧ s.dev.bmReadOnly n.val j.val false = false ∧ s.dev.bmMeet n.val j.val (s.dev.bmAddressed n.val j.val false a) (s.dev.bmAddressed n.val j.val true b) = 2) ∧
    (∃ (s : State) (n : Region) (j : Fin 64) (y : BmReq), s.live = true ∧ s.dev.bmOpen n.val = true ∧ s.dev.bmPortRuns n j.val true = true ∧ (s.dev.bmSt (64 * n.val + j.val)).retained = some y) ∧
    (∃ (s : State) (n : Region) (j : Fin 64) (item : Nat) (poison : Bool) (rest : List (Nat × Nat × Bool)), s.ready = true ∧ s.dev.holdOn n.val = false ∧ s.dev.bmPortRuns n j.val false = true ∧ (s.dev.bmSt (64 * n.val + j.val)).a.flight = (1, item, poison) :: rest ∧ (∀ e ∈ rest, 2 ≤ e.1)) ∧
    (∃ (s : State) (n : Region) (j : Fin 64), s.ready = true ∧ s.dev.holdOn n.val = false ∧ s.dev.bmPortRuns n j.val true = true ∧ (s.dev.bmSt (64 * n.val + j.val)).b.flight = []) :=
  ⟨⟨st (fields [(Reg.RGN_STS_STATE 3, 1), (Reg.FF_STS_HOLD 3, 0), (Reg.RING_CTL_EN 0, 1)] { awake with rgn := [(3, { gateOpen := true })], frames := [(3 * 10240 + 3588, (2 ^ 2016 * (1285 + (40 * 2 ^ 17 + 40 * 2 ^ 23)))), (3 * 10240 + 3589, 40 * 2 ^ (384 * 5 + 65))] }), (3 : Region), (63 : Fin 64), ({ we := true, be := 15, addr := 0, din := 9 } : BmReq), ({ we := false, be := 15, addr := 0, din := 0 } : BmReq), by decide +kernel⟩,
   ⟨st (fields [(Reg.RGN_STS_STATE 3, 1), (Reg.FF_STS_HOLD 3, 0), (Reg.RING_CTL_EN 0, 1)] { awake with rgn := [(3, { gateOpen := true })], frames := [(3 * 10240 + 3588, (40 * 2 ^ 17 + 40 * 2 ^ 23)), (3 * 10240 + 3589, 40 * 2 ^ (384 * 5 + 65))], bm := [(192, { retained := some { we := true, be := 1, addr := 4, din := 5 } })] }), (3 : Region), (0 : Fin 64), ({ we := true, be := 1, addr := 4, din := 5 } : BmReq), by decide +kernel⟩,
   ⟨st (fields [(Reg.RGN_STS_STATE 3, 1), (Reg.FF_STS_HOLD 3, 0), (Reg.RING_CTL_EN 0, 1)] { awake with rgn := [(3, { gateOpen := true })], frames := [(3 * 10240 + 3588, (40 * 2 ^ 17 + 40 * 2 ^ 23)), (3 * 10240 + 3589, 40 * 2 ^ (384 * 5 + 65))], bm := [(192, { a := { flight := [(1, 7, false), (2, 8, true)] } })] }), (3 : Region), (0 : Fin 64), 7, false, ([(2, 8, true)] : List (Nat × Nat × Bool)), by decide +kernel⟩,
   ⟨st (fields [(Reg.RGN_STS_STATE 3, 1), (Reg.FF_STS_HOLD 3, 0), (Reg.RING_CTL_EN 0, 1)] { awake with rgn := [(3, { gateOpen := true })], frames := [(3 * 10240 + 3588, (40 * 2 ^ 17 + 40 * 2 ^ 23)), (3 * 10240 + 3589, 40 * 2 ^ (384 * 5 + 65))], bm := [(192, { b := { rvalid := true, dout := 3 } })] }), (3 : Region), (0 : Fin 64), by decide +kernel⟩⟩

theorem witness_BlockMemoryPorts_3 :
    (∃ (s : State) (n : Region), s.live = true ∧ s.dev.on (Reg.BM_STS_FILL_BUSY n.val) = true) ∧
    (∃ (a : Nat), a < 8192) :=
  ⟨⟨up [(Reg.BM_STS_FILL_BUSY 3, 1)], (3 : Region), by decide +kernel⟩,
   ⟨8191, by decide +kernel⟩⟩

theorem witness_SliceCommands_1 :
    (∃ (s : State) (n : Region) (i : Fin 48) (ce : Bool), s.ready = true ∧ s.dev.sliceOpen n i.val ce = true ∧ (s.dev.sliceSt n.val i.val).m4 = none) ∧
    (∃ (s : State) (n : Region) (i : Fin 48) (ce : Bool) (q : SliceSums) (k : Nat) (v : Int), s.ready = true ∧ s.dev.sliceOpen n i.val ce = true ∧ (s.dev.sliceSt n.val i.val).m4 = some q ∧ q.sums = [(k, v)] ∧ q.last = false ∧ (Dev.bankAdd ((s.dev.sliceSt n.val i.val).banks.getD k {}) q.first v).2 = false) ∧
    (∃ (s : State) (n : Region) (i : Fin 48) (ce : Bool) (q : SliceSums) (k : Nat) (v : Int), s.ready = true ∧ s.dev.sliceOpen n i.val ce = true ∧ (s.dev.sliceSt n.val i.val).m4 = some q ∧ q.sums = [(k, v)] ∧ q.last = true ∧ q.stores = [k] ∧ (s.dev.sliceSt n.val i.val).stores = [] ∧ k < (s.dev.sliceSt n.val i.val).banks.length ∧ (Dev.bankAdd ((s.dev.sliceSt n.val i.val).banks.getD k {}) q.first v).2 = false) ∧
    (∃ (s : State) (n : Region) (i : Fin 48) (ce : Bool) (q : SliceSums) (k : Nat) (v : Int), s.live = true ∧ s.dev.sliceOpen n i.val ce = true ∧ (s.dev.sliceSt n.val i.val).m4 = some q ∧ q.sums = [(k, v)] ∧ k < (s.dev.sliceSt n.val i.val).banks.length ∧ (Dev.bankAdd ((s.dev.sliceSt n.val i.val).banks.getD k {}) q.first v).2 = true ∧ s.dev.dspLowest n.val i.val .gov = true) :=
  ⟨⟨st (fields [(Reg.RGN_STS_STATE 3, 1), (Reg.FF_STS_HOLD 3, 0), (Reg.RING_CTL_EN 0, 1)] { awake with rgn := [(3, { gateOpen := true })], frames := [(3 * 10240 + 3588, (40 * 2 ^ 17 + 40 * 2 ^ 23)), (3 * 10240 + 3589, 40 * 2 ^ (384 * 5 + 65))] }), (3 : Region), (5 : Fin 48), true, by decide +kernel⟩,
   ⟨st (fields [(Reg.RGN_STS_STATE 3, 1), (Reg.FF_STS_HOLD 3, 0), (Reg.RING_CTL_EN 0, 1)] { awake with rgn := [(3, { gateOpen := true })], frames := [(3 * 10240 + 3588, (40 * 2 ^ 17 + 40 * 2 ^ 23)), (3 * 10240 + 3589, 40 * 2 ^ (384 * 5 + 65))], slice := [(3 * 48 + 5, { m4 := some ⟨[(2, 7)], [2], false, false⟩, banks := [{}, {}, { acc := 5 }, {}] })] }), (3 : Region), (5 : Fin 48), true, (⟨[(2, 7)], [2], false, false⟩ : SliceSums), 2, 7, by decide +kernel⟩,
   ⟨st (fields [(Reg.RGN_STS_STATE 3, 1), (Reg.FF_STS_HOLD 3, 0), (Reg.RING_CTL_EN 0, 1)] { awake with rgn := [(3, { gateOpen := true })], frames := [(3 * 10240 + 3588, (40 * 2 ^ 17 + 40 * 2 ^ 23)), (3 * 10240 + 3589, 40 * 2 ^ (384 * 5 + 65))], slice := [(3 * 48 + 5, { m4 := some ⟨[(2, 7)], [2], true, true⟩ })] }), (3 : Region), (5 : Fin 48), true, (⟨[(2, 7)], [2], true, true⟩ : SliceSums), 2, 7, by decide +kernel⟩,
   ⟨st (fields [(Reg.RGN_STS_STATE 3, 1), (Reg.FF_STS_HOLD 3, 0), (Reg.RING_CTL_EN 0, 1)] { awake with rgn := [(3, { gateOpen := true })], frames := [(3 * 10240 + 3588, (40 * 2 ^ 17 + 40 * 2 ^ 23)), (3 * 10240 + 3589, 40 * 2 ^ (384 * 5 + 65))], slice := [(3 * 48 + 5, { m4 := some ⟨[(2, 7)], [2], false, false⟩, banks := [{}, {}, { acc := 2 ^ 71 - 1 }, {}] })] }), (3 : Region), (5 : Fin 48), true, (⟨[(2, 7)], [2], false, false⟩ : SliceSums), 2, 7, by decide +kernel⟩⟩

theorem witness_SliceCommands_2 :
    (∃ (s : State) (n : Region) (i : Fin 48) (ce : Bool) (k : Nat) (bank : Bank) (rest : List (Nat × Bank)), s.ready = true ∧ s.dev.sliceOpen n i.val ce = true ∧ (s.dev.sliceSt n.val i.val).stores = (k, bank) :: rest ∧ (s.dev.sliceSt n.val i.val).overruns = 0 ∧ (Dev.storeResult (s.dev.sliceBits n.val i.val 55 2) (s.dev.sliceBits n.val i.val 49 6) (Dev.satWidth (s.dev.sliceBits n.val i.val 57 3)) bank).2 = false) ∧
    (∃ (s : State) (n : Region) (i : Fin 48) (ce : Bool), s.ready = true ∧ s.dev.sliceOpen n i.val ce = true) ∧
    (∃ (s : State) (n : Region) (i : Fin 48) (ce : Bool), s.ready = true ∧ s.dev.sliceOpen n i.val ce = true ∧ s.dev.agWaits n.val i.val = false ∧ ((s.dev.sliceSt n.val i.val).ag.getD (s.dev.agCurrent n.val i.val) {}).mode = 0) ∧
    (∃ (s : State) (n : Region) (i : Fin 48) (ce : Bool) (g : AgSet), s.ready = true ∧ s.dev.sliceOpen n i.val ce = true ∧ s.dev.agWaits n.val i.val = false ∧ (s.dev.sliceSt n.val i.val).ag.getD (s.dev.agCurrent n.val i.val) {} = g ∧ g.mode = 1 ∧ g.pend = none ∧ g.base < 65536 ∧ s.dev.agCurrent n.val i.val < (s.dev.sliceSt n.val i.val).ag.length) :=
  ⟨⟨st (fields [(Reg.RGN_STS_STATE 3, 1), (Reg.FF_STS_HOLD 3, 0), (Reg.RING_CTL_EN 0, 1)] { awake with rgn := [(3, { gateOpen := true })], frames := [(3 * 10240 + 3588, (40 * 2 ^ 17 + 40 * 2 ^ 23)), (3 * 10240 + 3589, 40 * 2 ^ (384 * 5 + 65))], slice := [(3 * 48 + 5, { stores := [(1, { acc := 9 })] })] }), (3 : Region), (5 : Fin 48), true, 1, ({ acc := 9 } : Bank), ([] : List (Nat × Bank)), by decide +kernel⟩,
   ⟨st (fields [(Reg.RGN_STS_STATE 3, 1), (Reg.FF_STS_HOLD 3, 0), (Reg.RING_CTL_EN 0, 1)] { awake with rgn := [(3, { gateOpen := true })], frames := [(3 * 10240 + 3588, (40 * 2 ^ 17 + 40 * 2 ^ 23)), (3 * 10240 + 3589, 40 * 2 ^ (384 * 5 + 65))] }), (3 : Region), (5 : Fin 48), true, by decide +kernel⟩,
   ⟨st (fields [(Reg.RGN_STS_STATE 3, 1), (Reg.FF_STS_HOLD 3, 0), (Reg.RING_CTL_EN 0, 1)] { awake with rgn := [(3, { gateOpen := true })], frames := [(3 * 10240 + 3588, (40 * 2 ^ 17 + 40 * 2 ^ 23)), (3 * 10240 + 3589, 40 * 2 ^ (384 * 5 + 65))], slice := [(3 * 48 + 5, { ag := [{ ptr := 65535, step := 2 }, {}, {}, {}] })] }), (3 : Region), (5 : Fin 48), true, by decide +kernel⟩,
   ⟨st (fields [(Reg.RGN_STS_STATE 3, 1), (Reg.FF_STS_HOLD 3, 0), (Reg.RING_CTL_EN 0, 1)] { awake with rgn := [(3, { gateOpen := true })], frames := [(3 * 10240 + 3588, (40 * 2 ^ 17 + 40 * 2 ^ 23)), (3 * 10240 + 3589, 40 * 2 ^ (384 * 5 + 65))], slice := [(3 * 48 + 5, { ag := [{ base := 100, ptr := 107, len := 8, step := 3, mode := 1 }, {}, {}, {}] })] }), (3 : Region), (5 : Fin 48), true, ({ base := 100, ptr := 107, len := 8, step := 3, mode := 1 } : AgSet), by decide +kernel⟩⟩

theorem witness_SliceCommands_3 :
    (∃ (s : State) (n : Region) (i : Fin 48) (ce : Bool) (reg : Fin 4), s.ready = true ∧ s.dev.sliceOpen n i.val ce = true ∧ reg ≠ 1) ∧
    (∃ (s : State) (n : Region) (i : Fin 48) (ce : Bool) (k : Fin 4), s.ready = true ∧ s.dev.sliceOpen n i.val ce = true ∧ ((s.dev.sliceSt n.val i.val).ag.getD k.val {}).mode = 1 ∧ AgSet.offset ((s.dev.sliceSt n.val i.val).ag.getD k.val {}) < AgSet.count ((s.dev.sliceSt n.val i.val).ag.getD k.val {}) ∧ (s.dev.sliceSt n.val i.val).wrapNow = none) ∧
    (∃ (s : State) (n : Region) (i : Fin 48) (ce : Bool), s.ready = true ∧ s.dev.sliceOpen n i.val ce = true) :=
  ⟨⟨st (fields [(Reg.RGN_STS_STATE 3, 1), (Reg.FF_STS_HOLD 3, 0), (Reg.RING_CTL_EN 0, 1)] { awake with rgn := [(3, { gateOpen := true })], frames := [(3 * 10240 + 3588, (40 * 2 ^ 17 + 40 * 2 ^ 23)), (3 * 10240 + 3589, 40 * 2 ^ (384 * 5 + 65))] }), (3 : Region), (5 : Fin 48), true, (3 : Fin 4), by decide +kernel⟩,
   ⟨st (fields [(Reg.RGN_STS_STATE 3, 1), (Reg.FF_STS_HOLD 3, 0), (Reg.RING_CTL_EN 0, 1)] { awake with rgn := [(3, { gateOpen := true })], frames := [(3 * 10240 + 3588, (40 * 2 ^ 17 + 40 * 2 ^ 23)), (3 * 10240 + 3589, 40 * 2 ^ (384 * 5 + 65))], slice := [(3 * 48 + 5, { ag := [{ mode := 1, len := 4 }, {}, {}, {}] })] }), (3 : Region), (5 : Fin 48), true, (0 : Fin 4), by decide +kernel⟩,
   ⟨st (fields [(Reg.RGN_STS_STATE 3, 1), (Reg.FF_STS_HOLD 3, 0), (Reg.RING_CTL_EN 0, 1)] { awake with rgn := [(3, { gateOpen := true })], frames := [(3 * 10240 + 3588, (40 * 2 ^ 17 + 40 * 2 ^ 23)), (3 * 10240 + 3589, 40 * 2 ^ (384 * 5 + 65))], slice := [(3 * 48 + 5, { ag := [{ mode := 1, len := 8, ptr := 7, pend := some 4 }, {}, {}, {}] })] }), (3 : Region), (5 : Fin 48), true, by decide +kernel⟩⟩

theorem witness_AccumulatorAndStore :
    (∃ (b : Bank) (v : Int), -(2 ^ 71) ≤ b.acc ∧ b.acc < 2 ^ 71 ∧ -(2 ^ 71) ≤ v ∧ v < 2 ^ 71) ∧
    (∃ (w : Nat), 0 < w) :=
  ⟨⟨({ acc := 2 ^ 71 - 1 } : Bank), 1, by decide +kernel⟩,
   ⟨20, by decide +kernel⟩⟩

theorem witness_ClockRoot_1 :
    (∃ (s : State), s.ready = true ∧ s.dev.on Reg.CLK_STS_ROOT_LOCK = false ∧ s.dev.rootLost = false ∧ s.dev.start.rootWait = false) ∧
    (∃ (s : State), s.ready = true ∧ s.dev.on Reg.CLK_STS_ROOT_LOCK = false ∧ s.dev.rootLost = false ∧ s.dev.start.rootWait = true ∧ s.dev.get Reg.START_STS_STEP = 3) ∧
    (∃ (s : State), s.live = true ∧ s.dev.rootLost = false ∧ s.dev.on Reg.CLK_STS_ROOT_LOCK = true) ∧
    (∃ (s : State), s.live = true ∧ s.dev.rootLost = true ∧ ¬(1 ≤ s.dev.get Reg.START_STS_STEP ∧ s.dev.get Reg.START_STS_STEP ≤ 3)) :=
  ⟨⟨st (fields [(Reg.START_STS_RAILS_OK, 1)] State.reset.dev), by decide +kernel⟩,
   ⟨st (fields [(Reg.START_STS_STEP, 3), (Reg.START_STS_RAILS_OK, 1)] { State.reset.dev with start := { State.reset.dev.start with rootWait := true } }), by decide +kernel⟩,
   ⟨st { fields [(Reg.PACK_STS_TIME_VALID, 1), (Reg.GCK_SEL_AUTO_ALT 3, 1)] awake with frames := [(30720, 5)] }, by decide +kernel⟩,
   ⟨st { fields [(Reg.CLK_STS_ROOT_LOCK, 0), (Reg.CLK_STS_ON_INTOSC, 1)] awake with rootLost := true }, by decide +kernel⟩⟩

theorem witness_ClockRoot_2 :
    (∃ (s : State) (l : Nat), s.ready = true ∧ s.dev.pwr.change = some l ∧ s.dev.pwr.divDue = true ∧ s.dev.noc.phase = 0 ∧ s.dev.get Reg.NOC_STS_SLOT = 0 ∧ s.dev.on Reg.CLK_STS_ROOT_LOCK = true ∧ l ≤ s.dev.get Reg.PWR_STS_LEVEL) ∧
    (∃ (s : State) (l : Nat), s.ready = true ∧ s.dev.pwr.change = some l ∧ s.dev.pwr.divDue = true ∧ s.dev.noc.phase = 0 ∧ s.dev.get Reg.NOC_STS_SLOT = 0 ∧ s.dev.on Reg.CLK_STS_ROOT_LOCK = true ∧ s.dev.get Reg.PWR_STS_LEVEL < l) ∧
    (∃ (s : State), s.ready = true ∧ (s.dev.noc.phase ≠ 0 ∨ s.dev.get Reg.NOC_STS_SLOT ≠ 0)) :=
  ⟨⟨st { fields [(Reg.PWR_STS_LEVEL, 3)] awake with pwr := { awake.pwr with change := some 1, divDue := true } }, 1, by decide +kernel⟩,
   ⟨st { fields [(Reg.PWR_STS_LEVEL, 1)] awake with pwr := { awake.pwr with change := some 3, divDue := true } }, 3, by decide +kernel⟩,
   ⟨st { fields [(Reg.PWR_STS_LEVEL, 1), (Reg.NOC_STS_SLOT, 37)] awake with pwr := { awake.pwr with change := some 3, divDue := true } }, by decide +kernel⟩⟩

theorem witness_ClockSynthesizers_1 :
    (∃ (s : State) (who : Who) (y : Fin 16), s.ready = true ∧ s.dev.takes who (Reg.FS_CTL_APPLY y.val) = true ∧ s.dev.on (Reg.FS_STS_APPLY_BUSY y.val) = false) ∧
    (∃ (s : State) (who : Who) (y : Fin 16), s.ready = true ∧ s.dev.takes who (Reg.FS_CTL_APPLY y.val) = true ∧ s.dev.on (Reg.FS_STS_APPLY_BUSY y.val) = true) ∧
    (∃ (s : State) (y : Fin 16) (present : Bool) (khz : Nat) (x : Word × Word × Word), s.ready = true ∧ (s.dev.fsSt y.val).measuring = some x ∧ (s.dev.fsInput x present khz).any (Dev.limitsHold x) = false) ∧
    (∃ (s : State) (y : Fin 16) (present : Bool) (khz : Nat) (x : Word × Word × Word), s.ready = true ∧ (s.dev.fsSt y.val).measuring = some x ∧ (s.dev.fsInput x present khz).any (Dev.limitsHold x) = true) :=
  ⟨⟨st (fields [(Reg.FS_DIV_N 3, 24), (Reg.FS_DIV_M 3, 1), (Reg.FS_CTL_OUT_EN 3, 5)] { awake with unlocks := [.mp] }), .mp, (3 : Fin 16), by decide +kernel⟩,
   ⟨st (fields [(Reg.FS_STS_APPLY_BUSY 3, 1)] { awake with unlocks := [.mp] }), .mp, (3 : Fin 16), by decide +kernel⟩,
   ⟨st { fields [(Reg.FS_STS_APPLY_BUSY 3, 1)] awake with fs := [(3, { measuring := some (0, 0, 0) })] }, (3 : Fin 16), true, 500000, ((0, 0, 0) : Word × Word × Word), by decide +kernel⟩,
   ⟨st { fields [(Reg.FS_STS_APPLY_BUSY 3, 1), (Reg.FS_STS_LOCK 3, 1), (Reg.GCK_SEL_SRC 5, 12), (Reg.GCK_SEL_AUTO_ALT 5, 1)] awake with fs := [(3, { measuring := some (4, 0x1001, 0x08080808), running := 15 })] }, (3 : Fin 16), false, 7, ((4, 0x1001, 0x08080808) : Word × Word × Word), by decide +kernel⟩⟩

theorem witness_ClockSynthesizers_2 :
    (∃ (s : State) (y : Fin 16) (x : Word × Word × Word), s.ready = true ∧ (s.dev.fsSt y.val).applied = some x ∧ (s.dev.fsSt y.val).relock = true ∧ (s.dev.fsSt y.val).measuring = none ∧ (fieldOf x.1 6 2 ≠ 0 ∨ s.dev.on Reg.CLK_STS_ROOT_LOCK = true)) ∧
    (∃ (s : State) (y : Fin 16), s.ready = true ∧ s.dev.on (Reg.FS_STS_LOCK y.val) = true ∧ s.dev.onRootFeed y.val = false) ∧
    (∃ (s : State) (y : Fin 16) (written : List (Fin 32)) (g : Fin 32), s.ready = true ∧ s.dev.on (Reg.FS_STS_LOCK y.val) = true ∧ s.dev.onRootFeed y.val = false ∧ g ∉ written ∧ s.dev.safe Reg.CLK_STS = false ∧ s.dev.get (Reg.GCK_SEL_SRC g.val) / 4 = y.val ∧ s.dev.on (Reg.GCK_SEL_AUTO_ALT g.val) = true ∧ s.dev.on (Reg.GCK_SEL_ON_ALT g.val) = false ∧ s.dev.on (Reg.GCK_SEL_SWITCH_BUSY g.val) = false) ∧
    (∃ (s : State) (y : Fin 16), s.ready = true ∧ (s.dev.fsSt y.val).waitInput = true ∧ (s.dev.onRootFeed y.val = false ∨ s.dev.on Reg.CLK_STS_ROOT_LOCK = true)) :=
  ⟨⟨st { fields [(Reg.FS_STS_APPLY_BUSY 15, 1), (Reg.FS_CTL_OUT_EN 15, 9)] awake with fs := [(15, { applied := some (0, 0, 0), relock := true })] }, (15 : Fin 16), ((0, 0, 0) : Word × Word × Word), by decide +kernel⟩,
   ⟨st (fields [(Reg.FS_STS_LOCK 3, 1), (Reg.CLK_STS_FS_LOCK, 9), (Reg.GCK_SEL_SRC 5, 12), (Reg.GCK_SEL_AUTO_ALT 5, 1)] awake), (3 : Fin 16), by decide +kernel⟩,
   ⟨st (fields [(Reg.FS_STS_LOCK 3, 1), (Reg.CLK_STS_FS_LOCK, 9), (Reg.GCK_SEL_SRC 5, 12), (Reg.GCK_SEL_ALT 5, 64), (Reg.GCK_SEL_AUTO_ALT 5, 1)] awake), (3 : Fin 16), ([4] : List (Fin 32)), (5 : Fin 32), by decide +kernel⟩,
   ⟨st { awake with fs := [(0, { waitInput := true })] }, (0 : Fin 16), by decide +kernel⟩⟩

theorem witness_ClockSynthesizers_3 :
    (∃ (s : State) (who : Who) (y : Fin 16) (outs : BitVec 4), s.ready = true ∧ s.dev.takesField who (Reg.FS_CTL_OUT_EN y.val) outs.toNat = true ∧ s.dev.on (Reg.FS_STS_LOCK y.val) = true ∧ s.dev.safe (Reg.FS_CTL y.val) = false) ∧
    (∃ (s : State) (who : Who) (y : Fin 16) (outs : BitVec 4), s.ready = true ∧ s.dev.takesField who (Reg.FS_CTL_OUT_EN y.val) outs.toNat = true ∧ s.dev.on (Reg.FS_STS_LOCK y.val) = false ∧ s.dev.safe (Reg.FS_CTL y.val) = false) :=
  ⟨⟨up [(Reg.FS_STS_LOCK 7, 1)], .mp, (7 : Fin 16), 10, by decide +kernel⟩,
   ⟨up [], .mp, (7 : Fin 16), 10, by decide +kernel⟩⟩

theorem witness_ClockBuffersAndRings_1 :
    (∃ (s : State) (who : Who) (g : Fin 32) (x : Word), s.ready = true ∧ s.dev.takesWrite who (Reg.GCK_SEL g.val) x = true ∧ s.dev.safe (Reg.GCK_SEL g.val) = false ∧ fieldOf x 0 7 ≠ s.dev.get (Reg.GCK_SEL_SRC g.val)) ∧
    (∃ (s : State) (who : Who) (g : Fin 32) (x : Word), s.ready = true ∧ who.deniedCsr = false ∧ (s.dev.csrGuarded (Reg.GCK_SEL g.val) x = false ∨ s.dev.armed who = true) ∧ s.dev.on (Reg.GCK_SEL_SWITCH_BUSY g.val) = true) ∧
    (∃ (s : State) (g : Fin 32), s.ready = true ∧ s.dev.on (Reg.GCK_SEL_SWITCH_BUSY g.val) = true ∧ (s.dev.gckSt g.val).autoDue = false) ∧
    (∃ (s : State) (who : Who) (r : Fin 4) (x : Word), s.ready = true ∧ s.dev.takesWrite who (Reg.RING_CTL r.val) x = true) :=
  ⟨⟨st { awake with unlocks := [.mp] }, .mp, (31 : Fin 32), 65, by decide +kernel⟩,
   ⟨st (fields [(Reg.GCK_SEL_SWITCH_BUSY 31, 1)] { awake with unlocks := [.mp] }), .mp, (31 : Fin 32), 65, by decide +kernel⟩,
   ⟨st { fields [(Reg.GCK_SEL_SWITCH_BUSY 0, 1)] awake with gck := [(0, { target := 70 })] }, (0 : Fin 32), by decide +kernel⟩,
   ⟨up [], .mp, (3 : Fin 4), 1, by decide +kernel⟩⟩

theorem witness_ClockBuffersAndRings_2 :
    ∃ (s : State) (r : Fin 4), s.ready = true ∧ s.dev.on Reg.CLK_STS_ROOT_LOCK = true ∧ s.dev.ringRuns r.val = true :=
  ⟨up [(Reg.RING_CTL_EN 2, 1)], (2 : Fin 4), by decide +kernel⟩

theorem witness_RegionCommands_1 :
    (∃ (s : State) (who : Who) (n : Region), s.ready = true ∧ s.dev.takes who (Reg.RGN_CTL_LOAD n.val) = true ∧ s.dev.load = none ∧ s.dev.rstate n.val ≠ rsSwapping ∧ Dev.streamAddrOk (s.dev.get (Reg.RGN_SRC_HI_SRC n.val) * 2 ^ 32 + s.dev.get (Reg.RGN_SRC_LO_SRC n.val)) = true) ∧
    (∃ (s : State) (who : Who) (n : Region), s.ready = true ∧ s.dev.takes who (Reg.RGN_CTL_LOAD n.val) = true ∧ (s.dev.load ≠ none ∨ s.dev.rstate n.val = rsSwapping)) ∧
    (∃ (s : State) (who : Who) (n : Region), s.ready = true ∧ s.dev.takes who (Reg.RGN_CTL_SWAP n.val) = true ∧ s.dev.rstate n.val ≠ rsSwapping ∧ s.dev.rstate n.val ≠ rsHeld ∧ s.dev.gateOpen n.val = true ∧ s.dev.marchCovers false n.val = false ∧ s.dev.sstate n.val = ssVerified) ∧
    (∃ (s : State) (who : Who) (n : Region), s.ready = true ∧ s.dev.takes who (Reg.RGN_CTL_SWAP n.val) = true ∧ s.dev.rstate n.val ≠ rsSwapping ∧ s.dev.rstate n.val ≠ rsHeld ∧ s.dev.gateOpen n.val = true ∧ s.dev.marchCovers false n.val = false ∧ s.dev.sstate n.val ≠ ssVerified) :=
  ⟨⟨st { fields [(Reg.RGN_SRC_LO_SRC 3, 4096), (Reg.RGN_LEN_LEN 3, 8192)] awake with unlocks := [.mp], rgn := [(3, { gateOpen := true })] }, .mp, (3 : Region), by decide +kernel⟩,
   ⟨st { fields [(Reg.RGN_STS_STATE 3, 2)] awake with unlocks := [.mp], rgn := [(3, { gateOpen := true })] }, .mp, (3 : Region), by decide +kernel⟩,
   ⟨st { fields [(Reg.RGN_STS_SHADOW 3, 2), (Reg.RGN_CTL_DELAY 3, 9)] awake with unlocks := [.mp], rgn := [(3, { gateOpen := true })] }, .mp, (3 : Region), by decide +kernel⟩,
   ⟨st { fields [(Reg.RGN_STS_SHADOW 3, 0), (Reg.RGN_CTL_DELAY 3, 9)] awake with unlocks := [.mp], rgn := [(3, { gateOpen := true })] }, .mp, (3 : Region), by decide +kernel⟩⟩

theorem witness_RegionCommands_2 :
    (∃ (s : State) (who : Who) (n : Region) (l : LoadSt), s.ready = true ∧ s.dev.takes who (Reg.RGN_CTL_ABORT n.val) = true ∧ s.dev.load = some l ∧ l.kind = 2 ∧ l.region = n.val) ∧
    (∃ (s : State) (who : Who) (n : Region) (l : LoadSt), s.ready = true ∧ s.dev.takes who (Reg.RGN_CTL_ABORT n.val) = true ∧ s.dev.load = some l ∧ l.kind = 2 ∧ l.region = n.val ∧ l.touched = [n.val]) ∧
    (∃ (s : State) (who : Who) (n : Region), s.ready = true ∧ s.dev.takes who (Reg.RGN_CTL_ABORT n.val) = true ∧ s.dev.load = none ∧ s.dev.rstate n.val = rsSwapping) ∧
    (∃ (s : State) (who : Who) (n : Region), s.ready = true ∧ s.dev.takes who (Reg.RGN_CTL_ABORT n.val) = true ∧ s.dev.load.any (fun l => l.kind == 2 && l.region == n.val) = false ∧ s.dev.rstate n.val ≠ rsSwapping ∧ (s.dev.rgnSt n.val).last ≠ 0) :=
  ⟨⟨st { fields [(Reg.RGN_STS_SHADOW 3, 1)] awake with unlocks := [.mp], rgn := [(3, { gateOpen := true })], load := some { kind := 2, src := .dram 4096, region := 3, touched := [3] } }, .mp, (3 : Region), ({ kind := 2, src := .dram 4096, region := 3, touched := [3] } : LoadSt), by decide +kernel⟩,
   ⟨st { fields [(Reg.RGN_STS_SHADOW 3, 1)] awake with unlocks := [.mp], rgn := [(3, { gateOpen := true })], load := some { kind := 2, src := .dram 4096, region := 3, touched := [3] } }, .mp, (3 : Region), ({ kind := 2, src := .dram 4096, region := 3, touched := [3] } : LoadSt), by decide +kernel⟩,
   ⟨st { fields [(Reg.RGN_STS_SHADOW 3, 2), (Reg.RGN_STS_STATE 3, 2)] awake with unlocks := [.mp], rgn := [(3, { gateOpen := true, fromActive := true })] }, .mp, (3 : Region), by decide +kernel⟩,
   ⟨st { fields [(Reg.RGN_STS_SHADOW 3, 2)] awake with unlocks := [.mp], rgn := [(3, { gateOpen := true, last := 1 })] }, .mp, (3 : Region), by decide +kernel⟩⟩

theorem witness_RegionCommands_3 :
    (∃ (s : State) (who : Who) (n : Region), s.ready = true ∧ s.dev.takes who (Reg.RGN_CTL_DISCARD n.val) = true ∧ s.dev.rstate n.val ≠ rsSwapping ∧ s.dev.sstate n.val = ssVerified) ∧
    (∃ (s : State) (who : Who) (n : Region), s.ready = true ∧ s.dev.takes who (Reg.RGN_CTL_DISCARD n.val) = true ∧ (s.dev.rstate n.val = rsSwapping ∨ s.dev.sstate n.val = ssLoading)) ∧
    (∃ (s : State) (who : Who) (n : Region), s.live = true ∧ s.dev.takes who (Reg.RGN_CTL_RETIRE n.val) = true) :=
  ⟨⟨st { fields [(Reg.RGN_STS_SHADOW 3, 2)] awake with unlocks := [.mp], rgn := [(3, { gateOpen := true })], frames := [(3 * 10240 + 5121, 7)] }, .mp, (3 : Region), by decide +kernel⟩,
   ⟨st { fields [(Reg.RGN_STS_SHADOW 3, 1)] awake with unlocks := [.mp], rgn := [(3, { gateOpen := true })] }, .mp, (3 : Region), by decide +kernel⟩,
   ⟨st { fields [(Reg.RGN_STS_SHADOW 3, 2), (Reg.RGN_STS_STATE 3, 1)] awake with unlocks := [.mp], rgn := [(3, { gateOpen := true })], frames := [(3 * 10240 + 5121, 7)] }, .mp, (3 : Region), by decide +kernel⟩⟩

theorem witness_EdgeAndRelease :
    (∃ (s : State) (n : Region) (cd48 : Nat), s.live = true ∧ s.dev.rstate n.val = rsSwapping ∧ 2 ≤ cd48 ∧ s.dev.rclkRuns n (if (s.dev.rgnSt n.val).fromActive then s.dev.activePlane n.val else 1 - s.dev.activePlane n.val) = true ∧ s.dev.scrubPending n.val = false ∧ s.dev.on (Reg.FF_STS_REINIT_BUSY n.val) = false) ∧
    (∃ (s : State) (n : Region) (cd48 : Nat), s.ready = true ∧ s.dev.rstate n.val = rsSwapping ∧ 2 ≤ cd48 ∧ s.dev.rclkRuns n (if (s.dev.rgnSt n.val).fromActive then s.dev.activePlane n.val else 1 - s.dev.activePlane n.val) = true ∧ s.dev.scrubPending n.val = true ∧ (s.dev.rgnSt n.val).waited = false) ∧
    (∃ (s : State) (n : Region), s.live = true ∧ s.dev.rstate n.val = rsHeld ∧ s.dev.get (Reg.RGN_STS_HOLD_LEFT n.val) = 0 ∧ s.dev.on (Reg.BM_STS_FILL_BUSY n.val) = false ∧ s.dev.rootLost = false ∧ s.dev.rclkRuns n (s.dev.activePlane n.val) = true) :=
  ⟨⟨st { fields [(Reg.RGN_STS_STATE 3, 2), (Reg.RGN_STS_SHADOW 3, 2), (Reg.RING_CTL_EN 0, 1)] awake with rgn := [(3, { gateOpen := true, delay := 5 })], frames := [(3 * 10240 + 3584, 40), (3 * 10240 + 5120 + 3584, 40)] }, (3 : Region), 2, by decide +kernel⟩,
   ⟨st { fields [(Reg.RGN_STS_STATE 3, 2), (Reg.RGN_STS_SHADOW 3, 2), (Reg.RING_CTL_EN 0, 1)] awake with rgn := [(3, { gateOpen := true, delay := 5 })], frames := [(3 * 10240 + 3584, 40), (3 * 10240 + 5120 + 3584, 40)], scrub := { pending := [⟨3, 0, 9, false, 0⟩] } }, (3 : Region), 2, by decide +kernel⟩,
   ⟨st { fields [(Reg.RGN_STS_STATE 3, 3), (Reg.RING_CTL_EN 0, 1), (Reg.BM_STS_FILL_BUSY 3, 0)] awake with rgn := [(3, { gateOpen := true, delay := 5 })], frames := [(3 * 10240 + 3584, 40)] }, (3 : Region), by decide +kernel⟩⟩

theorem witness_StreamLoads_1 :
    (∃ (s : State) (who : Who), s.ready = true ∧ s.dev.takes who Reg.CFG_CTL_HLOAD = true ∧ s.dev.load = none ∧ Dev.streamAddrOk (s.dev.get Reg.CFG_HSRC_HI_SRC * 2 ^ 32 + s.dev.get Reg.CFG_HSRC_LO_SRC) = true) ∧
    (∃ (s : State) (who : Who) (l : LoadSt), s.ready = true ∧ s.dev.takes who Reg.CFG_CTL_HABORT = true ∧ s.dev.load = some l ∧ l.kind = 3) ∧
    (∃ (s : State) (who : Who), s.ready = true ∧ s.dev.takes who Reg.CFG_CTL_HABORT = true ∧ s.dev.load.any (fun l => l.kind == 3) = false) ∧
    (∃ (s : State) (ext : List (Nat × List Byte)) (bs : List Byte) (l : LoadSt) (d1 : Dev), s.ready = true ∧ s.dev.load = some l ∧ l.header ≠ [] ∧ l.seg < segCount l.header ∧ s.dev.fetch l.src (segOffset l.header l.seg) (segLength l.header l.seg + 16) ext = (.bytes bs, d1) ∧ d1.calm = true ∧ bs.drop (segLength l.header l.seg) = gcmTag l.key (segIv l.header l.seg) (l.header ++ leBytes 4 l.seg) (bs.take (segLength l.header l.seg))) :=
  ⟨⟨st { awake with unlocks := [.mp] }, .mp, by decide +kernel⟩,
   ⟨st { awake with load := some { kind := 3, src := .dram 64 } , unlocks := [.mp] }, .mp, ({ kind := 3, src := .dram 64 } : LoadSt), by decide +kernel⟩,
   ⟨st { awake with unlocks := [.mp] }, .mp, by decide +kernel⟩,
   ⟨segState, [(0, segBytes segTag)], segBytes segTag, segLoad, segState.dev, by decide +kernel, rfl, by decide +kernel, by decide +kernel,
    seg_fetch _ (length_gcmTag _ _ _ _), by decide +kernel, by rw [seg_drop, seg_take]; rfl⟩⟩

theorem witness_StreamLoads_2 :
    (∃ (s : State) (ext : List (Nat × List Byte)) (bs : List Byte) (l : LoadSt) (d1 : Dev), s.ready = true ∧ s.dev.load = some l ∧ l.header ≠ [] ∧ l.seg < segCount l.header ∧ s.dev.fetch l.src (segOffset l.header l.seg) (segLength l.header l.seg + 16) ext = (.bytes bs, d1) ∧ d1.calm = true ∧ bs.drop (segLength l.header l.seg) ≠ gcmTag l.key (segIv l.header l.seg) (l.header ++ leBytes 4 l.seg) (bs.take (segLength l.header l.seg))) ∧
    (∃ (s : State) (ext : List (Nat × List Byte)) (bs : List Byte) (cause : Nat) (code : Code) (l : LoadSt) (d1 : Dev), s.ready = true ∧ s.dev.load = some l ∧ l.header ≠ [] ∧ l.seg < segCount l.header ∧ s.dev.fetch l.src (segOffset l.header l.seg) (segLength l.header l.seg + 16) ext = (.part bs cause code, d1) ∧ d1.calm = true) ∧
    (∃ (s : State) (ext : List (Nat × List Byte)) (bs : List Byte) (l : LoadSt) (d1 : Dev), s.live = true ∧ s.dev.load = some l ∧ l.header ≠ [] ∧ l.seg = segCount l.header ∧ s.dev.fetch l.src (streamLen l.header - 256) 256 ext = (.bytes bs, d1)) :=
  ⟨⟨segState, [(0, segBytes (segTag.map (· + 1)))], segBytes (segTag.map (· + 1)), segLoad, segState.dev, by decide +kernel, rfl, by decide +kernel,
    by decide +kernel, seg_fetch _ (by rw [List.length_map]; exact length_gcmTag _ _ _ _), by decide +kernel,
    by rw [seg_drop, seg_take]; exact segTag_ne⟩,
   ⟨segState, [(0, List.replicate 20 0)], List.replicate 20 0, 0x0F, .ok, segLoad, segState.dev, by decide +kernel, rfl, by decide +kernel,
    by decide +kernel, seg_fetch_part, by decide +kernel⟩,
   ⟨sealState, [(streamLen sealLoad.header - 256, List.replicate 256 0)], List.replicate 256 0, sealLoad, sealState.dev, by decide +kernel, rfl,
    by decide +kernel, by decide +kernel, seal_fetch⟩⟩

theorem witness_StartupLoader_1 :
    (∃ (s : State) (ext : List (Nat × List Byte)) (hd : List Byte) (k : Nat), s.ready = true ∧ s.dev.boot.running = true ∧ s.dev.boot.due = true ∧ s.dev.boot.sampled = true ∧ s.dev.load = none ∧ s.dev.boot.last = none ∧ (SMap.get {} s.dev.serial 10).busy = false ∧ s.dev.nextSource (s.dev.get Reg.START_STS_CFGSRC % 4) = some k ∧ k < 2 ∧ Dev.arrivedFrom ext (ext.length + 1) (4096 * s.dev.ctl Reg.CFG_XSPI_OFFSET_OFFSET) 4096 = hd ∧ hd.length = 4096) ∧
    (∃ (s : State), s.ready = true ∧ s.dev.boot.running = true ∧ s.dev.boot.due = true ∧ s.dev.boot.sampled = true ∧ s.dev.load = none ∧ s.dev.boot.last = none ∧ s.dev.nextSource (s.dev.get Reg.START_STS_CFGSRC % 4) = some 3 ∧ (Target.parse (s.dev.fwGet 0x3010 3 (leBytes 6 0xFFFFFFFFFFFF ++ leBytes 26 1))).transport ≠ 0 ∧ s.dev.upPort = none) ∧
    (∃ (s : State) (c : Nat), s.ready = true ∧ s.dev.boot.failed = some c ∧ c < 256) ∧
    (∃ (s : State), s.ready = true ∧ s.dev.boot.running = true ∧ s.dev.boot.backoff = true) :=
  ⟨⟨st { fields [(Reg.CFG_XSPI_OFFSET_OFFSET, 2)] awake with boot := { running := true, due := true, sampled := true } }, [(8192, List.replicate 4096 0)], (List.replicate 4096 0), 0, by decide +kernel, by decide +kernel, by decide +kernel, by decide +kernel, by decide +kernel, by decide +kernel, by decide +kernel, by decide +kernel, by decide +kernel, arrivedFrom_one _ _ _ (by rw [List.length_replicate]; omega) (by rw [List.length_replicate]), List.length_replicate⟩,
   ⟨st { fields [(Reg.START_STS_CFGSRC, 3)] awake with boot := { running := true, due := true, sampled := true } }, by decide +kernel⟩,
   ⟨st { awake with boot := { running := true, failed := some 0x13, failures := 13 } }, 0x13, by decide +kernel⟩,
   ⟨st { awake with boot := { running := true, backoff := true } }, by decide +kernel⟩⟩

theorem witness_StartupLoader_2 :
    (∃ (s : State) (l : LoadSt), s.ready = true ∧ s.dev.load = some l ∧ l.src = .network ∧ l.header = [] ∧ s.dev.upPort ≠ none ∧ s.dev.boot.out = [] ∧ s.dev.boot.server = none ∧ s.dev.boot.gaps = [] ∧ s.dev.boot.next = 0 ∧ s.dev.boot.finish = none) ∧
    (∃ (s : State) (l : LoadSt) (mac : Nat), s.ready = true ∧ s.dev.load = some l ∧ l.src = .network ∧ l.header = [] ∧ s.dev.upPort ≠ none ∧ s.dev.boot.out = [] ∧ s.dev.boot.server = some mac ∧ s.dev.boot.gaps = [] ∧ s.dev.boot.next = 8192 ∧ s.dev.boot.finish = none) ∧
    (∃ (s : State) (mac : BitVec 48) (seq : BitVec 32) (more : Bool) (r : StreamReq) (l : LoadSt), s.ready = true ∧ s.dev.load = some l ∧ l.src = .network ∧ l.header ≠ [] ∧ s.dev.boot.out.find? (fun r => r.seq == seq.toNat) = some r ∧ (s.dev.boot.server = none ∨ s.dev.boot.server = some mac.toNat) ∧ more = true ∧ s.dev.boot.finish = none) ∧
    (∃ (s : State) (mac : BitVec 48) (seq : BitVec 32) (code : Code) (r : StreamReq) (l : LoadSt), s.ready = true ∧ s.dev.load = some l ∧ l.src = .network ∧ s.dev.boot.out.find? (fun r => r.seq == seq.toNat) = some r ∧ (s.dev.boot.server = none ∨ s.dev.boot.server = some mac.toNat) ∧ code ≠ .ok) :=
  ⟨⟨st { fields [(Reg.PORT_STS_LINK_UP 0, 1)] awake with boot := { running := true, seq := 5 }, load := some { kind := 1, src := .network } }, ({ kind := 1, src := .network } : LoadSt), by decide +kernel⟩,
   ⟨st { fields [(Reg.PORT_STS_LINK_UP 1, 1)] awake with boot := { running := true, seq := 5, next := 8192, server := some 9 }, load := some { kind := 1, src := .network } }, ({ kind := 1, src := .network } : LoadSt), 9, by decide +kernel⟩,
   ⟨st { awake with boot := { running := true, out := [⟨5, 8192, 0⟩] }, load := some { kind := 1, src := .network, header := [1] } }, 9, 5, true, (⟨5, 8192, 0⟩ : StreamReq), ({ kind := 1, src := .network, header := [1] } : LoadSt), by decide +kernel⟩,
   ⟨st { awake with boot := { running := true, out := [⟨5, 0, 0⟩] }, load := some { kind := 1, src := .network } }, 9, 5, Code.denied, (⟨5, 0, 0⟩ : StreamReq), ({ kind := 1, src := .network } : LoadSt), by decide +kernel⟩⟩

theorem witness_StartupLoader_3 :
    (∃ (s : State) (seq : BitVec 32) (r : StreamReq) (l : LoadSt), s.ready = true ∧ s.dev.load = some l ∧ l.src = .network ∧ s.dev.boot.out.find? (fun r => r.seq == seq.toNat) = some r ∧ r.resends < 3) ∧
    (∃ (s : State) (seq : BitVec 32) (r : StreamReq) (l : LoadSt), s.ready = true ∧ s.dev.load = some l ∧ l.src = .network ∧ s.dev.boot.out.find? (fun r => r.seq == seq.toNat) = some r ∧ 3 ≤ r.resends) ∧
    (∃ (s : State) (l : LoadSt), s.ready = true ∧ s.dev.load = some l ∧ l.src = .network ∧ s.dev.boot.linkWait = true ∧ s.dev.upPort = none) :=
  ⟨⟨st { fields [(Reg.PORT_STS_LINK_UP 0, 1)] awake with boot := { running := true, out := [⟨5, 0, 2⟩] }, load := some { kind := 1, src := .network } }, 5, (⟨5, 0, 2⟩ : StreamReq), ({ kind := 1, src := .network } : LoadSt), by decide +kernel⟩,
   ⟨st { awake with boot := { running := true, out := [⟨5, 0, 3⟩] }, load := some { kind := 1, src := .network } }, 5, (⟨5, 0, 3⟩ : StreamReq), ({ kind := 1, src := .network } : LoadSt), by decide +kernel⟩,
   ⟨st { awake with boot := { running := true, linkWait := true }, load := some { kind := 1, src := .network } }, ({ kind := 1, src := .network } : LoadSt), by decide +kernel⟩⟩

theorem witness_KeysAndSlots_1 :
    (∃ (s : State) (who : Who), s.ready = true ∧ who ≠ .mp) ∧
    (∃ (s : State) (who : Who), s.ready = true ∧ s.dev.takes who Reg.SEC_CTL_FUSE_KEY_PROGRAM = true ∧ s.dev.keys.cmd = none ∧ s.dev.secDenied 0 0 = false ∧ s.dev.keys.written = true) ∧
    (∃ (s : State) (who : Who), s.ready = true ∧ s.dev.takes who Reg.SEC_CTL_BBRAM_WRITE = true ∧ s.dev.keys.cmd = none ∧ s.dev.secDenied 1 0 = false ∧ s.dev.keys.written = true) ∧
    (∃ (s : State) (who : Who), s.ready = true ∧ s.dev.takes who Reg.SEC_CTL_BBRAM_ZERO = true ∧ s.dev.keys.cmd = none ∧ s.dev.secDenied 2 0 = false) :=
  ⟨⟨up [], .debug, by decide +kernel⟩,
   ⟨st { fields [(Reg.SEC_KEY_STS_SLOT_PROG, 12)] awake with unlocks := [.mp], keys := { written := true } }, .mp, by decide +kernel⟩,
   ⟨st { fields [(Reg.SEC_KEY_STS_SLOT_PROG, 12)] awake with unlocks := [.mp], keys := { written := true } }, .mp, by decide +kernel⟩,
   ⟨st { fields [(Reg.SEC_KEY_STS_SLOT_PROG, 12)] awake with unlocks := [.mp], keys := { written := true } }, .mp, by decide +kernel⟩⟩

theorem witness_KeysAndSlots_2 :
    (∃ (s : State) (who : Who) (k : Fin 4), s.ready = true ∧ s.dev.takesCmd who Reg.SEC_CTL_SLOT_PROGRAM (withField (withField (s.dev.word Reg.SEC_CTL) 5 2 k.val) 3 1 1) = true ∧ s.dev.keys.cmd = none ∧ s.dev.secDenied 3 k.val = false ∧ s.dev.keys.written = true) ∧
    (∃ (s : State) (who : Who) (k : Fin 4), s.ready = true ∧ s.dev.takesCmd who Reg.SEC_CTL_SLOT_REVOKE (withField (withField (s.dev.word Reg.SEC_CTL) 5 2 k.val) 4 1 1) = true ∧ s.dev.keys.cmd = none ∧ s.dev.secDenied 4 k.val = false) ∧
    (∃ (s : State) (who : Who), s.ready = true ∧ who.deniedCsr = false ∧ s.dev.on Reg.SEC_KEY_STS_FUSE_KEY = true ∧ s.dev.keys.cmd = none ∧ cmdBits Reg.SEC_CTL (withField (s.dev.word Reg.SEC_CTL) 0 1 1) = [0]) ∧
    (∃ (s : State) (c : SecCmd), s.ready = true ∧ s.dev.keys.cmd = some c ∧ c.op = 0) :=
  ⟨⟨st { fields [(Reg.SEC_KEY_STS_SLOT_PROG, 12)] awake with unlocks := [.mp], keys := { written := true } }, .mp, (1 : Fin 4), by decide +kernel⟩,
   ⟨st { fields [(Reg.SEC_KEY_STS_SLOT_PROG, 12)] awake with unlocks := [.mp], keys := { written := true } }, .mp, (3 : Fin 4), by decide +kernel⟩,
   ⟨st { fields [(Reg.SEC_KEY_STS_FUSE_KEY, 1)] awake with unlocks := [.mp], keys := { written := true } }, .mp, by decide +kernel⟩,
   ⟨st { fields [(Reg.SEC_KEY_STS_CMD_BUSY, 1), (Reg.SEC_KEY_DATA_DATA 3, 5)] awake with keys := { written := true, cmd := some ⟨0, 2, List.replicate 64 9⟩ } }, (⟨0, 2, List.replicate 64 9⟩ : SecCmd), by decide +kernel⟩⟩

theorem witness_KeysAndSlots_3 :
    (∃ (s : State) (c : SecCmd), s.ready = true ∧ s.dev.keys.cmd = some c ∧ c.op = 1) ∧
    (∃ (s : State) (c : SecCmd), s.ready = true ∧ s.dev.keys.cmd = some c ∧ c.op = 2 ∧ s.dev.load = none) ∧
    (∃ (s : State) (c : SecCmd), s.ready = true ∧ s.dev.keys.cmd = some c ∧ c.op = 3 ∧ c.slot < 4) ∧
    (∃ (s : State) (c : SecCmd), s.ready = true ∧ s.dev.keys.cmd = some c ∧ c.op = 4 ∧ c.slot < 4) :=
  ⟨⟨st { fields [(Reg.SEC_KEY_STS_CMD_BUSY, 1), (Reg.SEC_KEY_DATA_DATA 3, 5)] awake with keys := { written := true, cmd := some ⟨1, 2, List.replicate 64 9⟩ } }, (⟨1, 2, List.replicate 64 9⟩ : SecCmd), by decide +kernel⟩,
   ⟨st { fields [(Reg.SEC_KEY_STS_CMD_BUSY, 1), (Reg.SEC_KEY_DATA_DATA 3, 5)] awake with keys := { written := true, cmd := some ⟨2, 2, List.replicate 64 9⟩ } }, (⟨2, 2, List.replicate 64 9⟩ : SecCmd), by decide +kernel⟩,
   ⟨st { fields [(Reg.SEC_KEY_STS_CMD_BUSY, 1), (Reg.SEC_KEY_DATA_DATA 3, 5)] awake with keys := { written := true, cmd := some ⟨3, 2, List.replicate 64 9⟩ } }, (⟨3, 2, List.replicate 64 9⟩ : SecCmd), by decide +kernel⟩,
   ⟨st { fields [(Reg.SEC_KEY_STS_CMD_BUSY, 1), (Reg.SEC_KEY_DATA_DATA 3, 5)] awake with keys := { written := true, cmd := some ⟨4, 2, List.replicate 64 9⟩ } }, (⟨4, 2, List.replicate 64 9⟩ : SecCmd), by decide +kernel⟩⟩

theorem witness_Scrubbing_1 :
    (∃ (s : State), s.ready = true ∧ s.dev.ctlOn Reg.SCRUB_CTL_ENABLE = true ∧ s.dev.scrub.passOver = false ∧ s.dev.scrub.pending = [] ∧ s.dev.scrub.building = none ∧ s.dev.scrub.builds = [] ∧ s.dev.scrub.passOn = true ∧ s.dev.scrub.slots % 16 ≠ 15) ∧
    (∃ (s : State) (n : Region), s.ready = true ∧ s.dev.ctlOn Reg.SCRUB_CTL_ENABLE = true ∧ s.dev.scrub.passOver = false ∧ s.dev.scrub.pending = [] ∧ s.dev.scrub.building = none ∧ s.dev.scrub.builds = [] ∧ s.dev.scrub.passOn = true ∧ s.dev.scrub.slots % 16 = 15 ∧ s.dev.sstate n.val = ssVerified) ∧
    (∃ (s : State), s.ready = true ∧ (s.dev.scrub.pending ≠ [] ∨ s.dev.scrub.building.isSome = true ∨ s.dev.scrub.builds ≠ [])) ∧
    (∃ (s : State) (x : PendingFix) (rest : List PendingFix), s.ready = true ∧ s.dev.scrub.pending = x :: rest ∧ x.region < 128 ∧ x.frame < 5120 ∧ x.plane < 2 ∧ x.reload = false ∧ (classify (x.region * 5120 + x.frame) x.row).1 = .clean) :=
  ⟨⟨st { fields [(Reg.RGN_STS_STATE 3, 1), (Reg.SCRUB_CTL_ENABLE, 1)] awake with scrub := { passOn := true, region := 3, slots := 4, frame := 7 } }, by decide +kernel⟩,
   ⟨st { fields [(Reg.RGN_STS_STATE 3, 1), (Reg.RGN_STS_SHADOW 3, 2), (Reg.SCRUB_CTL_ENABLE, 1)] awake with scrub := { passOn := true, region := 3, slots := 15, frame := 7 } }, (3 : Region), by decide +kernel⟩,
   ⟨st { fields [(Reg.RGN_STS_STATE 3, 1), (Reg.SCRUB_CTL_ENABLE, 1)] awake with scrub := { passOn := true, builds := [3], slots := 4, frame := 7 } }, by decide +kernel⟩,
   ⟨st { fields [(Reg.RGN_STS_STATE 3, 1)] awake with frames := [(3 * 10240 + 9, 5)], scrub := { pending := [⟨3, 0, 9, false, encodeFrame (3 * 5120 + 9) 77⟩] } }, (⟨3, 0, 9, false, encodeFrame (3 * 5120 + 9) 77⟩ : PendingFix), ([] : List PendingFix), by decide +kernel⟩⟩

theorem witness_Scrubbing_2 :
    (∃ (s : State) (x : PendingFix) (rest : List PendingFix), s.ready = true ∧ s.dev.scrub.pending = x :: rest ∧ x.region < 128 ∧ x.frame < 5120 ∧ x.plane < 2 ∧ x.plane = s.dev.activePlane x.region ∧ (classify (x.region * 5120 + x.frame) x.row).1 ≠ .clean) ∧
    (∃ (s : State) (x : PendingFix) (rest : List PendingFix), s.ready = true ∧ s.dev.scrub.pending = x :: rest ∧ x.region < 128 ∧ x.frame < 5120 ∧ x.plane < 2 ∧ x.plane ≠ s.dev.activePlane x.region ∧ s.dev.sstate x.region = ssVerified ∧ (classify (x.region * 5120 + x.frame) x.row).1 = .uncorrectable) ∧
    (∃ (s : State), s.ready = true ∧ s.dev.scrub.passOver = true ∧ s.dev.ctlOn Reg.SCRUB_CTL_PIN = false ∧ (s.dev.scrub.raised = true ∨ s.dev.scrub.fixes < s.dev.ctl Reg.SCRUB_CTL_RAISE_AT) ∧ s.dev.scrub.found = false ∧ s.dev.get Reg.SCRUB_LAST_PASS_QUIET + 1 < s.dev.ctl Reg.SCRUB_CTL_QUIET_PASSES) ∧
    (∃ (s : State), s.ready = true ∧ s.dev.scrub.passOver = true ∧ s.dev.ctlOn Reg.SCRUB_CTL_PIN = false ∧ (s.dev.scrub.raised = true ∨ s.dev.scrub.fixes < s.dev.ctl Reg.SCRUB_CTL_RAISE_AT) ∧ s.dev.scrub.found = false ∧ s.dev.ctl Reg.SCRUB_CTL_QUIET_PASSES ≤ s.dev.get Reg.SCRUB_LAST_PASS_QUIET + 1) :=
  ⟨⟨st { fields [(Reg.RGN_STS_STATE 3, 1)] awake with scrub := { pending := [⟨3, 0, 9, false, encodeFrame (3 * 5120 + 9) 77 ^^^ 1⟩] } }, (⟨3, 0, 9, false, encodeFrame (3 * 5120 + 9) 77 ^^^ 1⟩ : PendingFix), ([] : List PendingFix), by decide +kernel⟩,
   ⟨st { fields [(Reg.RGN_STS_STATE 3, 1), (Reg.RGN_STS_SHADOW 3, 2)] awake with scrub := { pending := [⟨3, 1, 9, false, encodeFrame (3 * 5120 + 9) 77 ^^^ 0x101⟩] } }, (⟨3, 1, 9, false, encodeFrame (3 * 5120 + 9) 77 ^^^ 0x101⟩ : PendingFix), ([] : List PendingFix), by decide +kernel⟩,
   ⟨st { fields [(Reg.SCRUB_CTL_QUIET_PASSES, 4)] awake with scrub := { passOn := true, passOver := true } }, by decide +kernel⟩,
   ⟨st { fields [(Reg.SCRUB_CTL_QUIET_PASSES, 1)] awake with scrub := { passOn := true, passOver := true } }, by decide +kernel⟩⟩

theorem witness_Scrubbing_3 :
    (∃ (s : State), s.ready = true ∧ s.dev.scrub.passOver = true ∧ s.dev.ctlOn Reg.SCRUB_CTL_PIN = false ∧ (s.dev.scrub.raised = true ∨ s.dev.scrub.fixes < s.dev.ctl Reg.SCRUB_CTL_RAISE_AT) ∧ s.dev.scrub.found = true) ∧
    (∃ (s : State), s.ready = true ∧ s.dev.scrub.passOver = true ∧ s.dev.scrub.passOn = true ∧ s.dev.scrub.raised = false ∧ s.dev.ctl Reg.SCRUB_CTL_RAISE_AT ≤ s.dev.scrub.fixes ∧ s.dev.scrub.found = true ∧ s.dev.ctlOn Reg.SCRUB_CTL_PIN = false) ∧
    (∃ (s : State) (who : Who), s.ready = true ∧ s.dev.takes who Reg.SCRUB_CTL_FULL_NOW = true) ∧
    (∃ (s : State) (n : Nat) (rest : List Nat), s.ready = true ∧ s.dev.scrub.building = none ∧ s.dev.scrub.builds = n :: rest ∧ n < 128 ∧ s.dev.stripeMode = false ∧ s.dev.get Reg.CH_RETIRED_MASK = 0) :=
  ⟨⟨st { fields [(Reg.SCRUB_CTL_QUIET_PASSES, 1), (Reg.SCRUB_LAST_PASS_QUIET, 3)] awake with scrub := { passOn := true, passOver := true, found := true } }, by decide +kernel⟩,
   ⟨st { fields [(Reg.SCRUB_CTL_RAISE_AT, 2), (Reg.SCRUB_PERIOD_PERIOD_MS, 110)] awake with scrub := { passOn := true, passOver := true, found := true, fixes := 2 } }, by decide +kernel⟩,
   ⟨st (fields [(Reg.SCRUB_PERIOD_PERIOD_MS, 110)] { awake with unlocks := [.mp] }), .mp, by decide +kernel⟩,
   ⟨st { awake with scrub := { builds := [3], generation := 7 } }, 3, ([] : List Nat), by decide +kernel⟩⟩

theorem witness_Scrubbing_4 :
    (∃ (s : State) (n : Nat) (rest : List Nat), s.ready = true ∧ s.dev.scrub.building = none ∧ s.dev.scrub.builds = n :: rest ∧ n < 128 ∧ s.dev.stripeMode = false ∧ s.dev.chRetired 31 = true) ∧
    (∃ (s : State) (n gen : Nat) (again : Bool), s.ready = true ∧ s.dev.scrub.building = some (n, gen, again) ∧ s.dev.scrub.pending = []) :=
  ⟨⟨st { fields [(Reg.CH_RETIRED_MASK, 2 ^ 31)] awake with scrub := { builds := [3], generation := 7 } }, 3, ([] : List Nat), by decide +kernel⟩,
   ⟨st { awake with scrub := { building := some (3, 6, false), generation := 7 } }, 3, 6, false, by decide +kernel⟩⟩

theorem witness_ChecksAndScrubs_1 :
    (∃ (s : State) (b : Fin 8192), s.ready = true ∧ s.dev.ctlOn Reg.INT_CTL_DSCRUB_BM = true ∧ s.dev.domState (regionDom (b.val / 64)) < 2 ∧ s.dev.underTest (.bm b.val) = false ∧ s.dev.bmTicks b.val = true) ∧
    (∃ (s : State) (b : Fin 8192), s.ready = true ∧ s.dev.scrubbed (.bm b.val) = true ∧ s.dev.log.length < 16) ∧
    (∃ (s : State) (m : MemUnit), s.ready = true ∧ s.dev.scrubbed m = false) ∧
    (∃ (s : State) (c : Fin 32), s.ready = true ∧ s.dev.on Reg.CLK_STS_ROOT_LOCK = true ∧ s.dev.ctlOn Reg.INT_CTL_DSCRUB_DRAM = true ∧ s.dev.domState (16 + c.val) < 2 ∧ s.dev.underTest (.dram c.val) = false ∧ s.dev.chRetired c.val = false ∧ (s.dev.chSt c.val).queue = []) :=
  ⟨⟨st { fields [(Reg.INT_CTL_DSCRUB_BM, 1), (Reg.RING_CTL_EN 0, 1)] awake with bm := [(255, { scrubPtr := 2047 })], rgn := [(3, { gateOpen := true })], frames := [(3 * 10240 + 3588, 2 ^ 2016 * 40 * 2 ^ 17)] }, (255 : Fin 8192), by decide +kernel⟩,
   ⟨st { fields [(Reg.INT_CTL_DSCRUB_BM, 1)] awake with bm := [(8191, { scrubPtr := 2047 })] }, (8191 : Fin 8192), by decide +kernel⟩,
   ⟨up [(Reg.CH_RETIRED_MASK, 2 ^ 31)], (.dram 31 : MemUnit), by decide +kernel⟩,
   ⟨st { fields [(Reg.INT_CTL_DSCRUB_DRAM, 1)] awake with ch := [(31, { scrubPtr := 2047 })] }, (31 : Fin 32), by decide +kernel⟩⟩

theorem witness_ChecksAndScrubs_2 :
    (∃ (s : State) (v : VerifySt) (rest : List VerifySt) (i : Nat) (x : BitVec 13), s.ready = true ∧ s.dev.verify = v :: rest ∧ s.dev.verifyReady v = true ∧ v.due = false ∧ v.wrote = [(i, x)] ∧ s.dev.cell v.unit (v.addr + i) = x ∧ (List.range v.unit.granule).all (fun j => j == i || s.dev.cell v.unit (v.addr + j) == Dev.correctedContent (s.dev.cell v.unit (v.addr + j))) = true) ∧
    (∃ (s : State) (v : VerifySt) (rest : List VerifySt) (i : Nat) (x : BitVec 13), s.ready = true ∧ s.dev.verify = v :: rest ∧ s.dev.verifyReady v = true ∧ v.due = false ∧ v.wrote = [(i, x)] ∧ i < v.unit.granule ∧ s.dev.cell v.unit (v.addr + i) ≠ x ∧ (List.range v.unit.granule).all (fun j => j == i || decodeByte (s.dev.cell v.unit (v.addr + j)) != .bad) = true) ∧
    (∃ (s : State) (v : VerifySt) (rest : List VerifySt), s.ready = true ∧ s.dev.verify = v :: rest ∧ s.dev.verifyReady v = true ∧ v.due = true ∧ v.wrote = []) ∧
    (∃ (s : State) (who : Who) (c : Fin 32), s.ready = true ∧ s.dev.takesWrite who Reg.CH_RETIRE (BitVec.ofNat 32 (c.val + 256)) = true ∧ s.dev.chRetired c.val = false) :=
  ⟨⟨st { awake with verify := [⟨.hs 5, 8, [(2, 0)], false⟩] }, (⟨.hs 5, 8, [(2, 0)], false⟩ : VerifySt), ([] : List VerifySt), 2, (0 : BitVec 13), by decide +kernel⟩,
   ⟨st { awake with verify := [⟨.dram 5, 64, [(2, 0x11)], false⟩] }, (⟨.dram 5, 64, [(2, 0x11)], false⟩ : VerifySt), ([] : List VerifySt), 2, (0x11 : BitVec 13), by decide +kernel⟩,
   ⟨st { awake with verify := [⟨.hs 5, 8, [], true⟩] }, (⟨.hs 5, 8, [], true⟩ : VerifySt), ([] : List VerifySt), by decide +kernel⟩,
   ⟨st { awake with unlocks := [.mp] }, .mp, (31 : Fin 32), by decide +kernel⟩⟩

theorem witness_ChecksAndScrubs_3 :
    (∃ (s : State) (who : Who) (c : Fin 32), s.ready = true ∧ s.dev.takesWrite who Reg.CH_RETIRE (BitVec.ofNat 32 (c.val + 256)) = true ∧ s.dev.chRetired c.val = false ∧ s.dev.stripeMode = false ∧ c.val ≠ 31 ∧ s.dev.march = none ∧ s.dev.log.length < 16) ∧
    (∃ (s : State) (c : Fin 32), s.ready = true ∧ s.dev.chRetired c.val = true) ∧
    (∃ (s : State) (n : Region) (e : Nat × Nat) (rest : List (Nat × Nat)), s.ready = true ∧ s.dev.holdOn n.val = false ∧ (s.dev.attachSt n.val).queue = e :: rest) ∧
    (∃ (s : State) (n : Region), s.ready = true ∧ s.dev.holdOn n.val = false ∧ (s.dev.attachSt n.val).queue = [] ∧ 0 < (s.dev.attachSt n.val).lost) :=
  ⟨⟨st { awake with unlocks := [.mp] }, .mp, (30 : Fin 32), by decide +kernel⟩,
   ⟨up [(Reg.CH_RETIRED_MASK, 2 ^ 31)], (31 : Fin 32), by decide +kernel⟩,
   ⟨st { fields [(Reg.FF_STS_HOLD 3, 0)] awake with attach := [(3, { queue := [(5, 6), (7, 8)], lost := 2 })] }, (3 : Region), ((5, 6) : Nat × Nat), [((7, 8) : Nat × Nat)], by decide +kernel⟩,
   ⟨st { fields [(Reg.FF_STS_HOLD 3, 0)] awake with attach := [(3, { queue := [], lost := 2 })] }, (3 : Region), by decide +kernel⟩⟩

theorem witness_MarchAndChecker_1 :
    (∃ (s : State) (who : Who), s.ready = true ∧ s.dev.takes who Reg.MARCH_CTL_START = true ∧ s.dev.march = none ∧ s.dev.marchAllowed = true) ∧
    (∃ (s : State) (who : Who), s.ready = true ∧ s.dev.takes who Reg.MARCH_CTL_START = true ∧ s.dev.march ≠ none) ∧
    (∃ (s : State) (who : Who), s.ready = true ∧ s.dev.takes who Reg.MARCH_CTL_START = true ∧ s.dev.march = none ∧ s.dev.marchAllowed = false) ∧
    (∃ (s : State) (m : MarchSt) (u : MemUnit) (us : List MemUnit), s.ready = true ∧ s.dev.march = some m ∧ m.preserving = false ∧ m.units = u :: us ∧ ((Dev.marchElement m.step).1.all (fun x => (s.dev.rawGranule u (m.granule * u.granule)).all (· == x))) = true) :=
  ⟨⟨st (fields [(Reg.MARCH_CTL_KIND, 2), (Reg.MARCH_CTL_ALL, 1)] { awake with unlocks := [.mp] }), .mp, by decide +kernel⟩,
   ⟨st { awake with unlocks := [.mp], march := some ⟨false, false, false, [.bm 192, .bm 193], 2055, 2, 0, 0, false, false⟩ }, .mp, by decide +kernel⟩,
   ⟨st (fields [(Reg.MARCH_CTL_KIND, 2), (Reg.MARCH_CTL_MODE, 0)] { awake with unlocks := [.mp] }), .mp, by decide +kernel⟩,
   ⟨st { awake with march := some ⟨false, false, false, [.bm 192, .bm 193], 2055, 2, 0, 0, false, false⟩, cells := (List.range 4).map (fun i => (cellKey (.bm 192) (8220 + i), 0x1FFF)) }, (⟨false, false, false, [.bm 192, .bm 193], 2055, 2, 0, 0, false, false⟩ : MarchSt), (.bm 192 : MemUnit), [(.bm 193 : MemUnit)], by decide +kernel⟩⟩

theorem witness_MarchAndChecker_2 :
    (∃ (s : State) (m : MarchSt) (u : MemUnit) (us : List MemUnit) (x : BitVec 13), s.ready = true ∧ s.dev.march = some m ∧ m.preserving = false ∧ m.units = u :: us ∧ (Dev.marchElement m.step).1 = some x ∧ (s.dev.rawGranule u (m.granule * u.granule)).any (· != x) = true) ∧
    (∃ (s : State) (m : MarchSt) (u : MemUnit) (us : List MemUnit), s.ready = true ∧ s.dev.march = some m ∧ m.preserving = true ∧ m.units = u :: us ∧ m.step = 0 ∧ s.dev.marchWaits u m.granule = false) ∧
    (∃ (s : State) (m : MarchSt), s.ready = true ∧ s.dev.march = some m ∧ m.startup = false ∧ s.dev.marchStuck m = false) ∧
    (∃ (s : State) (who : Who) (m : MarchSt), s.ready = true ∧ s.dev.takes who Reg.MARCH_CTL_ABORT = true ∧ s.dev.march = some m) :=
  ⟨⟨st { awake with march := some ⟨false, false, false, [.bm 192, .bm 193], 2055, 2, 0, 0, false, false⟩ }, (⟨false, false, false, [.bm 192, .bm 193], 2055, 2, 0, 0, false, false⟩ : MarchSt), (.bm 192 : MemUnit), [(.bm 193 : MemUnit)], (0x1FFF : BitVec 13), by decide +kernel⟩,
   ⟨st { awake with march := some ⟨true, false, false, [.hs 0], 5, 0, 3, 1, false, false⟩ }, (⟨true, false, false, [.hs 0], 5, 0, 3, 1, false, false⟩ : MarchSt), (.hs 0 : MemUnit), ([] : List MemUnit), by decide +kernel⟩,
   ⟨st { awake with march := some ⟨true, false, false, [.hs 0], 5, 0, 3, 1, false, false⟩ }, (⟨true, false, false, [.hs 0], 5, 0, 3, 1, false, false⟩ : MarchSt), by decide +kernel⟩,
   ⟨st { awake with unlocks := [.mp], march := some ⟨false, false, false, [.bm 192, .bm 193], 2055, 2, 0, 0, false, false⟩ }, .mp, (⟨false, false, false, [.bm 192, .bm 193], 2055, 2, 0, 0, false, false⟩ : MarchSt), by decide +kernel⟩⟩

theorem witness_MarchAndChecker_3 :
    (∃ (s : State) (who : Who), s.ready = true ∧ s.dev.takes who Reg.MARCH_CTL_ABORT = true ∧ s.dev.march = none) ∧
    (∃ (s : State) (who : Who), s.ready = true ∧ s.dev.takes who Reg.CT_CTL_WRITE_RAW = true ∧ s.dev.ctlOn Reg.CT_CTL_ARM = true ∧ s.dev.ctPending = none) ∧
    (∃ (s : State) (who : Who), s.ready = true ∧ s.dev.takes who Reg.CT_CTL_READ_RAW = true ∧ s.dev.ctlOn Reg.CT_CTL_ARM = true ∧ s.dev.ctPending = none) ∧
    (∃ (s : State) (who : Who), s.ready = true ∧ s.dev.takes who Reg.CT_CTL_READ_RAW = true ∧ s.dev.ctlOn Reg.CT_CTL_ARM = false) :=
  ⟨⟨st { awake with unlocks := [.mp] }, .mp, by decide +kernel⟩,
   ⟨st (fields [(Reg.CT_CTL_ARM, 1)] { awake with unlocks := [.mp] }), .mp, by decide +kernel⟩,
   ⟨st (fields [(Reg.CT_CTL_ARM, 1)] { awake with unlocks := [.mp] }), .mp, by decide +kernel⟩,
   ⟨st (fields [(Reg.CT_CTL_ARM, 0)] { awake with unlocks := [.mp] }), .mp, by decide +kernel⟩⟩

theorem witness_MarchAndChecker_4 :
    (∃ (s : State), s.ready = true ∧ s.dev.ctPending = some false ∧ MemUnit.ofNums (s.dev.get Reg.CT_CTL_KIND) (s.dev.get Reg.CT_CTL_UNIT) = .hs 0 ∧ s.dev.get Reg.CT_ADDR_ADDR < (MemUnit.hs 0).bytes ∧ (∀ e : Fin 8, s.dev.on (Reg.HS_REMAP_VALID 0 e.val) = false)) ∧
    (∃ (s : State), s.ready = true ∧ s.dev.ctPending = some true ∧ MemUnit.ofNums (s.dev.get Reg.CT_CTL_KIND) (s.dev.get Reg.CT_CTL_UNIT) = .hs 0 ∧ s.dev.get Reg.CT_ADDR_ADDR < (MemUnit.hs 0).bytes) ∧
    (∃ (s : State) (read : Bool), s.ready = true ∧ s.dev.ctPending = some read ∧ (MemUnit.ofNums (s.dev.get Reg.CT_CTL_KIND) (s.dev.get Reg.CT_CTL_UNIT)).bytes ≤ s.dev.get Reg.CT_ADDR_ADDR / 4 * 4) ∧
    (∃ (s : State) (who : Who) (e : Nat × Nat) (rest : List (Nat × Nat)), s.ready = true ∧ who.deniedCsr = false ∧ s.dev.failed Reg.LOG_HI = false ∧ s.dev.log = e :: rest ∧ rest.length < 16) :=
  ⟨⟨st { fields [(Reg.CT_CTL_KIND, 2), (Reg.CT_DATA_DATA, 0x11223344), (Reg.CT_ADDR_ADDR, 0x7FFFF)] awake with ctPending := some false }, by decide +kernel⟩,
   ⟨st { fields [(Reg.CT_CTL_KIND, 2), (Reg.CT_ADDR_ADDR, 0x7FFFF)] awake with ctPending := some true, cells := [(cellKey (.hs 0) 0x7FFFC, 0x1ABC), (cellKey (.hs 0) 0x7FFFF, 0x155)] }, by decide +kernel⟩,
   ⟨st { fields [(Reg.CT_CTL_KIND, 2), (Reg.CT_ADDR_ADDR, 2 ^ 31)] awake with ctPending := some false }, false, by decide +kernel⟩,
   ⟨st { awake with log := [(5, 0x12345), (6, 7)] }, .mp, ((5, 0x12345) : Nat × Nat), [((6, 7) : Nat × Nat)], by decide +kernel⟩⟩

theorem witness_DramChannels_1 :
    (∃ (s : State) (c : Fin 32) (r : DramReq) (l : Nat), s.ready = true ∧ s.dev.on Reg.CLK_STS_ROOT_LOCK = true ∧ (s.dev.chSt c.val).reqs = [r] ∧ r.toQueue = [l] ∧ ((s.dev.chSt c.val).queue.filter (fun q => Dev.bankOf q.line == Dev.bankOf l)).length < 16) ∧
    (∃ (s : State) (c : Fin 32) (r : DramReq) (l : Nat), s.ready = true ∧ s.dev.on Reg.CLK_STS_ROOT_LOCK = true ∧ (s.dev.chSt c.val).reqs = [r] ∧ r.toQueue = [l] ∧ 16 ≤ ((s.dev.chSt c.val).queue.filter (fun q => Dev.bankOf q.line == Dev.bankOf l)).length) ∧
    (∃ (s : State) (c : Fin 32) (ready : BitVec 32) (b : Nat), s.ready = true ∧ s.dev.on Reg.CLK_STS_ROOT_LOCK = true ∧ s.dev.domState (16 + c.val) = 0 ∧ s.dev.chRetired c.val = false ∧ (s.dev.chSt c.val).refreshForced.find? (fun b => ready.toNat.testBit b) = some b) ∧
    (∃ (s : State) (c : Fin 32) (ready : BitVec 32) (b : Nat), s.ready = true ∧ s.dev.on Reg.CLK_STS_ROOT_LOCK = true ∧ s.dev.domState (16 + c.val) = 0 ∧ s.dev.chRetired c.val = false ∧ (s.dev.chSt c.val).refreshForced = [] ∧ (s.dev.chSt c.val).refreshDue.find? (fun b => ready.toNat.testBit b && !Dev.bankUrgent (s.dev.chSt c.val) b) = some b) :=
  ⟨⟨st { awake with ch := [(9, { reqs := [(⟨4, ({ cmd := 0, addr := 0x1000, len := 1 } : Pkt), 500, 0, [64], [64], [(0, [])], .ok⟩ : DramReq)] })] }, (9 : Fin 32), (⟨4, ({ cmd := 0, addr := 0x1000, len := 1 } : Pkt), 500, 0, [64], [64], [(0, [])], .ok⟩ : DramReq), 64, by decide +kernel⟩,
   ⟨st { awake with ch := [(9, { reqs := [(⟨4, ({ cmd := 0, addr := 0x1000, len := 1 } : Pkt), 500, 0, [64], [64], [(0, [])], .ok⟩ : DramReq)], queue := List.replicate 16 ⟨3, 64⟩ })] }, (9 : Fin 32), (⟨4, ({ cmd := 0, addr := 0x1000, len := 1 } : Pkt), 500, 0, [64], [64], [(0, [])], .ok⟩ : DramReq), 64, by decide +kernel⟩,
   ⟨st { awake with ch := [(9, { refreshForced := [3], refreshDue := [3] })] }, (9 : Fin 32), 8, 3, by decide +kernel⟩,
   ⟨st { awake with ch := [(9, { refreshDue := [3] })] }, (9 : Fin 32), 8, 3, by decide +kernel⟩⟩

theorem witness_DramChannels_2 :
    (∃ (s : State) (c : Fin 32) (b : Fin 32) (q : DramLine), s.ready = true ∧ s.dev.on Reg.CLK_STS_ROOT_LOCK = true ∧ s.dev.domState (16 + c.val) = 0 ∧ s.dev.chRetired c.val = false ∧ (s.dev.chSt c.val).refreshForced = [] ∧ (s.dev.chSt c.val).refreshDue = [] ∧ Dev.bankCandidate (s.dev.chSt c.val) (s.dev.ctl (Dev.chF Reg.CH_CTL_HIT_LIMIT c.val)) b.val = some q) ∧
    (∃ (s : State) (c : Fin 32) (b : Fin 32) (q : DramLine) (r : DramReq), s.ready = true ∧ s.dev.on Reg.CLK_STS_ROOT_LOCK = true ∧ s.dev.domState (16 + c.val) = 0 ∧ s.dev.chRetired c.val = false ∧ (s.dev.chSt c.val).refreshForced = [] ∧ (s.dev.chSt c.val).refreshDue = [] ∧ Dev.bankCandidate (s.dev.chSt c.val) (s.dev.ctl (Dev.chF Reg.CH_CTL_HIT_LIMIT c.val)) b.val = some q ∧ (Dev.bankEntries (s.dev.chSt c.val) b.val).head? = some q ∧ SMap.get 0 (s.dev.chSt c.val).rows b.val = Dev.rowOf q.line + 1 ∧ (s.dev.chSt c.val).reqs.find? (fun r => r.id == q.id) = some r ∧ s.dev.keepsRow c.val r.pkt = true) ∧
    (∃ (s : State) (c : Fin 32) (r : DramReq) (rest : List DramReq), s.ready = true ∧ s.dev.on Reg.CLK_STS_ROOT_LOCK = true ∧ (s.dev.chSt c.val).reqs = r :: rest ∧ r.left = []) ∧
    (∃ (s : State) (c : Fin 32) (id : Nat) (r : DramReq), s.ready = true ∧ s.dev.on Reg.CLK_STS_ROOT_LOCK = true ∧ (s.dev.chSt c.val).reqs = [r] ∧ r.id = id ∧ r.urgency < 3) :=
  ⟨⟨st { awake with ch := [(9, { reqs := [(⟨4, ({ cmd := 0, addr := 0x1000, len := 1 } : Pkt), 500, 0, [64], [], [(0, [])], .ok⟩ : DramReq)], queue := [⟨4, 64⟩] })] }, (9 : Fin 32), (0 : Fin 32), (⟨4, 64⟩ : DramLine), by decide +kernel⟩,
   ⟨st { fields [(Dev.chF Reg.CH_CTL_PAGE_MODE 9, 1)] awake with ch := [(9, { reqs := [(⟨4, ({ cmd := 0, addr := 0x1000, len := 1 } : Pkt), 500, 0, [64], [], [(0, [])], .ok⟩ : DramReq)], queue := [⟨4, 64⟩], rows := [(0, 1)] })] }, (9 : Fin 32), (0 : Fin 32), (⟨4, 64⟩ : DramLine), (⟨4, ({ cmd := 0, addr := 0x1000, len := 1 } : Pkt), 500, 0, [64], [], [(0, [])], .ok⟩ : DramReq), by decide +kernel⟩,
   ⟨st { awake with ch := [(9, { reqs := [(⟨4, ({ cmd := 0, addr := 0x1000, len := 1 } : Pkt), 500, 0, [], [], [(0, [])], .ok⟩ : DramReq)] })] }, (9 : Fin 32), (⟨4, ({ cmd := 0, addr := 0x1000, len := 1 } : Pkt), 500, 0, [], [], [(0, [])], .ok⟩ : DramReq), ([] : List DramReq), by decide +kernel⟩,
   ⟨st { awake with ch := [(9, { reqs := [(⟨4, ({ cmd := 0, addr := 0x1000, len := 1 } : Pkt), 500, 2, [64], [], [(0, [])], .ok⟩ : DramReq)] })] }, (9 : Fin 32), 4, (⟨4, ({ cmd := 0, addr := 0x1000, len := 1 } : Pkt), 500, 2, [64], [], [(0, [])], .ok⟩ : DramReq), by decide +kernel⟩⟩

theorem witness_DramChannels_3 :
    (∃ (s : State) (c : Fin 32) (id : Nat) (r : DramReq), s.ready = true ∧ s.dev.on Reg.CLK_STS_ROOT_LOCK = true ∧ (s.dev.chSt c.val).reqs = [r] ∧ r.id = id ∧ r.urgency = 3) ∧
    (∃ (s : State) (c : Fin 32), s.ready = true ∧ s.dev.on Reg.CLK_STS_ROOT_LOCK = true ∧ s.dev.domState (16 + c.val) = 0 ∧ s.dev.chRetired c.val = false ∧ (s.dev.chSt c.val).refreshNext ∉ (s.dev.chSt c.val).refreshDue) ∧
    (∃ (s : State) (c : Fin 32), s.ready = true ∧ s.dev.on Reg.CLK_STS_ROOT_LOCK = true ∧ s.dev.domState (16 + c.val) = 0 ∧ s.dev.chRetired c.val = false) ∧
    (∃ (s : State) (c : Fin 32) (b : Nat), s.ready = true ∧ s.dev.on Reg.CLK_STS_ROOT_LOCK = true ∧ (s.dev.chSt c.val).refreshDue.find? (fun b => Dev.bankUrgent (s.dev.chSt c.val) b && !(s.dev.chSt c.val).refreshForced.contains b) = some b) :=
  ⟨⟨st { awake with ch := [(9, { reqs := [(⟨4, ({ cmd := 0, addr := 0x1000, len := 1 } : Pkt), 500, 3, [64], [], [(0, [])], .ok⟩ : DramReq)] })] }, (9 : Fin 32), 4, (⟨4, ({ cmd := 0, addr := 0x1000, len := 1 } : Pkt), 500, 3, [64], [], [(0, [])], .ok⟩ : DramReq), by decide +kernel⟩,
   ⟨st { awake with ch := [(9, { refreshNext := 31 })] }, (9 : Fin 32), by decide +kernel⟩,
   ⟨st { awake with fastWant := [(1, true)] }, (17 : Fin 32), by decide +kernel⟩,
   ⟨st { awake with ch := [(9, { reqs := [(⟨4, ({ cmd := 0, addr := 0x1000, len := 1 } : Pkt), 500, 3, [64], [], [(0, [])], .ok⟩ : DramReq)], queue := [⟨4, 64⟩], refreshDue := [0] })] }, (9 : Fin 32), 0, by decide +kernel⟩⟩

theorem witness_DramChannels_4 :
    (∃ (s : State) (c : Fin 32), s.ready = true ∧ s.dev.on Reg.CLK_STS_ROOT_LOCK = true ∧ s.dev.on (Dev.chF Reg.CH_STS_DLY_MOVING c.val) = true) ∧
    (∃ (s : State) (who : Who) (c : Fin 32), s.ready = true ∧ s.dev.takes who (Dev.chF Reg.CH_CTL_BRINGUP c.val) = true ∧ s.dev.on (Dev.chF Reg.CH_STS_BRINGUP_BUSY c.val) = false) ∧
    (∃ (s : State) (c : Fin 32), s.ready = true ∧ s.dev.on Reg.CLK_STS_ROOT_LOCK = true ∧ s.dev.on (Dev.chF Reg.CH_STS_BRINGUP_BUSY c.val) = true ∧ s.dev.on (Dev.chF Reg.CH_STS_DLY_MOVING c.val) = false ∧ (s.dev.chSt c.val).reqs = [] ∧ s.dev.ctlOn Reg.INT_CTL_AUTO_CH_RETIRE = false) :=
  ⟨⟨st { fields [(Dev.chF Reg.CH_STS_DLY_MOVING 9, 1)] awake with ch := [(9, { applied := [(5, 1)] })] }, (9 : Fin 32), by decide +kernel⟩,
   ⟨st { awake with unlocks := [.mp] }, .mp, (31 : Fin 32), by decide +kernel⟩,
   ⟨up [(Dev.chF Reg.CH_STS_BRINGUP_BUSY 17, 1), (Reg.INT_CTL_AUTO_CH_RETIRE, 0)], (17 : Fin 32), by decide +kernel⟩⟩

theorem witness_NetworkInterfaces_1 :
    (∃ (s : State) (i : Fin 170), s.ready = true ∧ s.dev.on Reg.CLK_STS_ROOT_LOCK = true ∧ s.dev.niEnabled i.val = true ∧ s.dev.guardClosed i.val = false ∧ (s.dev.niSt i.val).presented = [] ∧ (s.dev.niSt i.val).opening = false ∧ (s.dev.niSt i.val).tags.length + (s.dev.niSt i.val).fences.length < 4096) ∧
    (∃ (s : State) (i : Fin 170) (p : Pkt), s.ready = true ∧ s.dev.on Reg.CLK_STS_ROOT_LOCK = true ∧ s.dev.niEnabled i.val = true ∧ s.dev.guardClosed i.val = true ∧ (s.dev.niSt i.val).opening = false ∧ p.cmd ≠ 4) ∧
    (∃ (s : State) (i : Fin 170) (p : Pkt), s.ready = true ∧ s.dev.on Reg.CLK_STS_ROOT_LOCK = true ∧ s.dev.niEnabled i.val = true ∧ s.dev.guardClosed i.val = false ∧ (s.dev.niSt i.val).presented = [] ∧ (s.dev.niSt i.val).waiting = [] ∧ (s.dev.niSt i.val).opening = false ∧ p.cmd ≠ 4 ∧ (s.dev.niSt i.val).tags.length + (s.dev.niSt i.val).fences.length < 4096) ∧
    (∃ (s : State) (i : Fin 170) (k : Nat), s.ready = true ∧ s.dev.on Reg.CLK_STS_ROOT_LOCK = true ∧ i.val < 128 ∧ s.dev.niEnabled i.val = true ∧ k ≠ 0) :=
  ⟨⟨st awake, (164 : Fin 170), by decide +kernel⟩,
   ⟨up [(Reg.NI_STS_GUARD_CLOSED 161, 1)], (161 : Fin 170), ({ cmd := 2, len := 1 } : Pkt), by decide +kernel⟩,
   ⟨st awake, (164 : Fin 170), ({ cmd := 2, addr := 0xFE00000000, len := 2 } : Pkt), by decide +kernel⟩,
   ⟨st { fields [(Reg.RGN_STS_STATE 3, 1), (Reg.FF_STS_HOLD 3, 0), (Reg.RING_CTL_EN 0, 1)] awake with frames := [(3 * 10240 + 3584, 256), (3 * 10240 + 3627, 40)], ni := [(3, { rs := [{ cmd := 5, tag := 1 }, { cmd := 5, tag := 2 }] })] }, (3 : Fin 170), 1, by decide +kernel⟩⟩

theorem witness_NetworkInterfaces_2 :
    (∃ (d : Dev) (i : Fin 170) (p : Pkt), (d.niSt i.val).tags.length + (d.niSt i.val).fences.length < 4096 ∧ p.isWrite = true) ∧
    (∃ (s : State) (i : Fin 170) (t : TagSt) (q : Pkt) (f e : Nat) (d1 : Dev), s.ready = true ∧ s.dev.on Reg.CLK_STS_ROOT_LOCK = true ∧ s.dev.on Reg.NOC_STS_GT_QUIET = false ∧ s.dev.guardClosed i.val = false ∧ (s.dev.niSt i.val).waiting = [t] ∧ s.dev.formHeader i.val t.pkt = (.packet q f e, d1) ∧ q.cls = 1 ∧ t.whole = true ∧ (s.dev.niSt i.val).gtSlot ≠ some s.dev.noc.slotNum ∧ (s.dev.get Reg.NOC_STS_SLOT + 256 - f) % 2 ^ e = 0 ∧ Dev.owedFlits (s.dev.niSt i.val) + q.owed ≤ 1024) ∧
    (∃ (s : State) (i : Fin 170), s.ready = true ∧ s.dev.on Reg.CLK_STS_ROOT_LOCK = true ∧ (s.dev.niSt i.val).gtSlot = some s.dev.noc.slotNum) ∧
    (∃ (s : State), s.ready = true ∧ s.dev.on Reg.CLK_STS_ROOT_LOCK = true ∧ s.dev.on Reg.NOC_STS_GT_QUIET = true) :=
  ⟨⟨{ awake with ni := [(5, { nextTag := 4095, tags := [{ tag := 4095, pkt := {} }] })] }, (5 : Fin 170), ({ cmd := 1 } : Pkt), by decide +kernel⟩,
   ⟨(st (Dev.bookStore { awake with ni := [(3, { waiting := [{ tag := 7, pkt := { cmd := 2, addr := 0xFE00000000, len := 1 } }] })] } 3 0 169 (2 ^ 127 + 2 ^ 104 + 3))), (3 : Fin 170), ({ tag := 7, pkt := { cmd := 2, addr := 0xFE00000000, len := 1 } } : TagSt), ({ cmd := 2, addr := 0xFE00000000, len := 1, cls := 1, src := 3, dst := 169, route := 3 } : Pkt), 0, 0, (((st (Dev.bookStore { awake with ni := [(3, { waiting := [{ tag := 7, pkt := { cmd := 2, addr := 0xFE00000000, len := 1 } }] })] } 3 0 169 (2 ^ 127 + 2 ^ 104 + 3))) : State).dev.formHeader 3 ({ cmd := 2, addr := 0xFE00000000, len := 1 } : Pkt)).2, by decide +kernel, by decide +kernel, by decide +kernel, by decide +kernel, by decide +kernel, pair_of_fst (by decide +kernel), by decide +kernel, by decide +kernel, by decide +kernel, by decide +kernel, by decide +kernel⟩,
   ⟨st { fields [] awake with ni := [(161, { gtSlot := some 0 })] }, (161 : Fin 170), by decide +kernel⟩,
   ⟨up [(Reg.NOC_STS_GT_QUIET, 1)], by decide +kernel⟩⟩

theorem witness_NetworkInterfaces_3 :
    (∃ (s : State) (i : Fin 170), s.ready = true ∧ s.dev.on Reg.CLK_STS_ROOT_LOCK = true ∧ (s.dev.guardClosed i.val = true ∨ (s.dev.niSt i.val).waiting = [])) ∧
    (∃ (s : State) (i : Fin 170), s.ready = true ∧ s.dev.on Reg.CLK_STS_ROOT_LOCK = true ∧ s.dev.niEnabled i.val = true ∧ s.dev.guardClosed i.val = false ∧ (s.dev.niSt i.val).presented = [] ∧ (s.dev.niSt i.val).waiting = [] ∧ (s.dev.niSt i.val).tags.length + (s.dev.niSt i.val).fences.length < 4096) ∧
    (∃ (s : State) (i : Fin 170) (tag limit user : Nat) (rest : List FenceSt), s.ready = true ∧ s.dev.on Reg.CLK_STS_ROOT_LOCK = true ∧ (s.dev.niSt i.val).fences = ⟨tag, limit, user⟩ :: rest ∧ (s.dev.niSt i.val).writes.all (fun w => decide (limit ≤ w.num) || w.code.isSome) = true) ∧
    (∃ (s : State) (i : Fin 170) (p : Pkt) (t : TagSt), s.ready = true ∧ s.dev.on Reg.CLK_STS_ROOT_LOCK = true ∧ s.dev.ctx.held = [] ∧ i.val ≠ 166 ∧ s.dev.firstRx i.val (fun p => p.cmd == 5) = some p ∧ (s.dev.niSt i.val).tags.find? (fun t => t.tag == p.tag && t.injected) = some t) :=
  ⟨⟨st (fields [(Reg.NI_TB_RATE 161, 3), (Reg.NI_TB_DEPTH 161, 40)] { awake with ni := [(161, { tokens := 39 })] }), (161 : Fin 170), by decide +kernel⟩,
   ⟨st awake, (164 : Fin 170), by decide +kernel⟩,
   ⟨st { fields [] awake with ni := [(164, { fences := [⟨9, 5, 77⟩], writes := [⟨3, 1, some .ok, false⟩, ⟨4, 2, some .fenced, false⟩, ⟨6, 3, none, false⟩] })] }, (164 : Fin 170), 9, 5, 77, ([] : List FenceSt), by decide +kernel⟩,
   ⟨st { fields [] awake with ni := [(164, { rx := [{ cmd := 5, tag := 9, code := .ok }], tags := [{ tag := 9, pkt := { cmd := 0 }, injected := true }] })] }, (164 : Fin 170), ({ cmd := 5, tag := 9, code := .ok } : Pkt), ({ tag := 9, pkt := { cmd := 0 }, injected := true } : TagSt), by decide +kernel⟩⟩

theorem witness_NetworkInterfaces_4 :
    (∃ (s : State) (i : Fin 170) (p : Pkt), s.ready = true ∧ s.dev.on Reg.CLK_STS_ROOT_LOCK = true ∧ s.dev.ctx.held = [] ∧ s.dev.firstRx i.val (fun p => p.cmd == 5) = some p ∧ (s.dev.niSt i.val).tags.find? (fun t => t.tag == p.tag && t.injected) = none) ∧
    (∃ (s : State) (i : Fin 170) (tag : Fin 4096) (t : TagSt), s.ready = true ∧ s.dev.on Reg.CLK_STS_ROOT_LOCK = true ∧ s.dev.ctx.held = [] ∧ (s.dev.niSt i.val).rx.any (fun p => p.cmd == 5 && p.tag == tag.val) = false ∧ (s.dev.niSt i.val).tags.find? (fun t => t.tag == tag.val && t.injected) = some t ∧ i.val ≠ 166) ∧
    (∃ (i : Fin 170) (t : TagSt), t.dropped = false ∧ i.val ≠ 166) :=
  ⟨⟨st { fields [] awake with ni := [(164, { rx := [{ cmd := 5, tag := 9, code := .ok }] })] }, (164 : Fin 170), ({ cmd := 5, tag := 9, code := .ok } : Pkt), by decide +kernel⟩,
   ⟨st { fields [] awake with ni := [(164, { tags := [{ tag := 9, pkt := { cmd := 0 }, injected := true }] })] }, (164 : Fin 170), (9 : Fin 4096), ({ tag := 9, pkt := { cmd := 0 }, injected := true } : TagSt), by decide +kernel⟩,
   ⟨(5 : Fin 170), ({ tag := 9, pkt := { cmd := 0 } } : TagSt), by decide +kernel⟩⟩

theorem witness_Waystations_1 :
    (∃ (s : State) (w : Fin 192) (inp : Fin 5) (vc : Fin 4) (f : Flight) (w2 : Nat), s.ready = true ∧ s.dev.on Reg.CLK_STS_ROOT_LOCK = true ∧ s.dev.domState (4 + wsPart w.val) = 0 ∧ s.dev.front w.val inp.val vc.val = some f ∧ f.pkt.route % 8 < 4 ∧ f.pkt.hops < 32 ∧ Dev.meshStep w.val (f.pkt.route % 8) = some w2 ∧ s.dev.outEnabled w.val (f.pkt.route % 8) f.pkt.epoch = true ∧ s.dev.canHop f = true ∧ s.dev.granted f = true ∧ vc ≠ 0) ∧
    (∃ (s : State) (w : Fin 192) (inp : Fin 5) (vc : Fin 4) (f : Flight) (i : Nat), s.ready = true ∧ s.dev.on Reg.CLK_STS_ROOT_LOCK = true ∧ s.dev.domState (4 + wsPart w.val) = 0 ∧ s.dev.front w.val inp.val vc.val = some f ∧ f.pkt.route % 8 = 4 ∧ f.pkt.hops < 32 ∧ niAtWs w.val = some i ∧ f.pkt.dst = i ∧ f.pkt.cmd ≠ 5 ∧ s.dev.outEnabled w.val 4 f.pkt.epoch = true ∧ s.dev.granted f = true ∧ vc ≠ 0) ∧
    (∃ (s : State) (w : Fin 192) (inp : Fin 5) (f : Flight) (w2 : Nat), s.ready = true ∧ s.dev.on Reg.CLK_STS_ROOT_LOCK = true ∧ s.dev.domState (4 + wsPart w.val) = 0 ∧ s.dev.front w.val inp.val 0 = some f ∧ f.pkt.route % 8 < 4 ∧ f.pkt.hops < 32 ∧ Dev.meshStep w.val (f.pkt.route % 8) = some w2 ∧ s.dev.outEnabled w.val (f.pkt.route % 8) f.pkt.epoch = true ∧ s.dev.canHop f = true ∧ s.dev.granted f = true ∧ s.dev.slotOwner (bit01 f.pkt.epoch) w.val (f.pkt.route % 8) (s.dev.get Reg.NOC_STS_SLOT) ≠ inp.val) ∧
    (∃ (s : State) (w : Fin 192) (inp : Fin 5) (vc : Fin 4) (f : Flight) (flips : List (Nat × BitVec 13)), s.ready = true ∧ s.dev.on Reg.CLK_STS_ROOT_LOCK = true ∧ s.dev.domState (4 + wsPart w.val) = 0 ∧ s.dev.front w.val inp.val vc.val = some f ∧ Dev.hopPkt flips f.pkt = none) :=
  ⟨⟨st { awake with noc := { flight := [(⟨5, 4, 1, { route := 1, cmd := 2, dst := 169, len := 1 }, [⟨5, 4, 1, 2⟩]⟩)] } }, (5 : Fin 192), (4 : Fin 5), (1 : Fin 4), (⟨5, 4, 1, { route := 1, cmd := 2, dst := 169, len := 1 }, [⟨5, 4, 1, 2⟩]⟩ : Flight), 6, by decide +kernel⟩,
   ⟨st { awake with noc := { flight := [(⟨26, 4, 1, { route := 4, cmd := 2, dst := 169, len := 1 }, [⟨26, 4, 1, 2⟩]⟩)] } }, (26 : Fin 192), (4 : Fin 5), (1 : Fin 4), (⟨26, 4, 1, { route := 4, cmd := 2, dst := 169, len := 1 }, [⟨26, 4, 1, 2⟩]⟩ : Flight), 169, by decide +kernel⟩,
   ⟨st { awake with noc := { flight := [(⟨5, 4, 0, { route := 1, cmd := 2, dst := 169, len := 1 }, [⟨5, 4, 0, 2⟩]⟩)] } }, (5 : Fin 192), (4 : Fin 5), (⟨5, 4, 0, { route := 1, cmd := 2, dst := 169, len := 1 }, [⟨5, 4, 0, 2⟩]⟩ : Flight), 6, by decide +kernel⟩,
   ⟨st { awake with noc := { flight := [(⟨5, 4, 1, { route := 1, cmd := 2, dst := 169, len := 1 }, [⟨5, 4, 1, 2⟩]⟩)] } }, (5 : Fin 192), (4 : Fin 5), (1 : Fin 4), (⟨5, 4, 1, { route := 1, cmd := 2, dst := 169, len := 1 }, [⟨5, 4, 1, 2⟩]⟩ : Flight), ([(8, 3)] : List (Nat × BitVec 13)), by decide +kernel⟩⟩

theorem witness_Waystations_2 :
    (∃ (s : State) (w : Fin 192) (inp : Fin 5) (vc : Fin 4) (f : Flight), s.ready = true ∧ s.dev.on Reg.CLK_STS_ROOT_LOCK = true ∧ s.dev.domState (4 + wsPart w.val) = 0 ∧ s.dev.front w.val inp.val vc.val = some f ∧ (5 ≤ f.pkt.route % 8 ∨ 32 ≤ f.pkt.hops ∨ (f.pkt.route % 8 < 4 ∧ Dev.meshStep w.val (f.pkt.route % 8) = none) ∨ (f.pkt.route % 8 = 4 ∧ niAtWs w.val = none))) ∧
    (∃ (s : State) (w : Fin 192) (inp : Fin 5) (vc : Fin 4) (f : Flight) (w2 : Nat), s.ready = true ∧ s.dev.on Reg.CLK_STS_ROOT_LOCK = true ∧ s.dev.domState (4 + wsPart w.val) = 0 ∧ s.dev.front w.val inp.val vc.val = some f ∧ f.pkt.route % 8 < 4 ∧ f.pkt.hops < 32 ∧ Dev.meshStep w.val (f.pkt.route % 8) = some w2 ∧ s.dev.outEnabled w.val (f.pkt.route % 8) f.pkt.epoch = false) ∧
    (∃ (place port reason : Nat), place < 256 ∧ port < 8 ∧ reason < 8) ∧
    (∃ (s : State) (w : Fin 192) (inp : Fin 5) (vc : Fin 4) (f : Flight) (w2 : Nat), s.ready = true ∧ s.dev.on Reg.CLK_STS_ROOT_LOCK = true ∧ s.dev.domState (4 + wsPart w.val) = 0 ∧ s.dev.front w.val inp.val vc.val = some f ∧ f.pkt.route % 8 < 4 ∧ f.pkt.hops < 32 ∧ Dev.meshStep w.val (f.pkt.route % 8) = some w2 ∧ s.dev.outEnabled w.val (f.pkt.route % 8) f.pkt.epoch = true ∧ (s.dev.canHop f = false ∨ s.dev.granted f = false)) :=
  ⟨⟨st { awake with noc := { flight := [(⟨5, 4, 1, { route := 2, cmd := 2, dst := 169, len := 1 }, [⟨5, 4, 1, 2⟩]⟩)] } }, (5 : Fin 192), (4 : Fin 5), (1 : Fin 4), (⟨5, 4, 1, { route := 2, cmd := 2, dst := 169, len := 1 }, [⟨5, 4, 1, 2⟩]⟩ : Flight), by decide +kernel⟩,
   ⟨st { fields [(Reg.PORT_EN_ACTIVE 5, 0)] awake with noc := { flight := [(⟨5, 4, 1, { route := 1, cmd := 2, dst := 169, len := 1 }, [⟨5, 4, 1, 2⟩]⟩)] } }, (5 : Fin 192), (4 : Fin 5), (1 : Fin 4), (⟨5, 4, 1, { route := 1, cmd := 2, dst := 169, len := 1 }, [⟨5, 4, 1, 2⟩]⟩ : Flight), 6, by decide +kernel⟩,
   ⟨191, 4, 6, by decide +kernel⟩,
   ⟨st { awake with noc := { flight := [(⟨5, 4, 1, { route := 1, cmd := 2, dst := 169, len := 1 }, [⟨5, 4, 1, 2⟩]⟩), ⟨5, 3, 1, { route := 1, cmd := 2, dst := 169, len := 1 }, [⟨5, 3, 1, 2⟩]⟩] } }, (5 : Fin 192), (4 : Fin 5), (1 : Fin 4), (⟨5, 4, 1, { route := 1, cmd := 2, dst := 169, len := 1 }, [⟨5, 4, 1, 2⟩]⟩ : Flight), 6, by decide +kernel⟩⟩

theorem witness_NetworkTargets_1 :
    (∃ (s : State) (i : Fin 170) (p : Pkt) (ans : FabricAnswer), s.ready = true ∧ s.dev.on Reg.CLK_STS_ROOT_LOCK = true ∧ i.val < 128 ∧ s.dev.firstRx i.val (fun p => p.cmd != 5) = some p ∧ p.cmd = 0 ∧ s.dev.guardBars i.val = false ∧ s.dev.rstate i.val ≠ rsRetired ∧ s.dev.hasImage i.val = true ∧ s.dev.cfg i.val 3584 8 1 ≠ 0 ∧ s.dev.regionListens i.val = true ∧ ans.turn = .now) ∧
    (∃ (s : State) (i : Fin 170) (p : Pkt) (ans : FabricAnswer), s.ready = true ∧ s.dev.on Reg.CLK_STS_ROOT_LOCK = true ∧ i.val < 128 ∧ s.dev.firstRx i.val (fun p => p.cmd != 5) = some p ∧ p.cmd = 1 ∧ s.dev.guardBars i.val = false ∧ s.dev.rstate i.val ≠ rsRetired ∧ s.dev.hasImage i.val = true ∧ s.dev.cfg i.val 3584 8 1 ≠ 0 ∧ s.dev.regionListens i.val = true ∧ ans.turn = .now) ∧
    (∃ (s : State) (i : Fin 170) (p : Pkt) (ans : FabricAnswer), s.ready = true ∧ s.dev.on Reg.CLK_STS_ROOT_LOCK = true ∧ i.val < 128 ∧ s.dev.firstRx i.val (fun p => p.cmd != 5) = some p ∧ p.cmd = 2 ∧ s.dev.guardBars i.val = false ∧ s.dev.rstate i.val ≠ rsRetired ∧ s.dev.hasImage i.val = true ∧ s.dev.cfg i.val 3584 8 1 ≠ 0 ∧ s.dev.regionListens i.val = true ∧ ans.turn = .now) ∧
    (∃ (s : State) (i : Fin 170) (p : Pkt) (ans : FabricAnswer), s.ready = true ∧ s.dev.on Reg.CLK_STS_ROOT_LOCK = true ∧ i.val < 128 ∧ s.dev.firstRx i.val (fun p => p.cmd != 5) = some p ∧ p.cmd = 3 ∧ s.dev.guardBars i.val = false ∧ s.dev.rstate i.val ≠ rsRetired ∧ s.dev.hasImage i.val = true ∧ s.dev.cfg i.val 3584 8 1 ≠ 0 ∧ s.dev.regionListens i.val = true ∧ ans.turn = .now) :=
  ⟨⟨st { fields [(Reg.RGN_STS_STATE 3, 1), (Reg.FF_STS_HOLD 3, 0), (Reg.RING_CTL_EN 0, 1)] awake with frames := [(3 * 10240 + 3584, 256), (3 * 10240 + 3627, 40)], ni := [(3, { rx := [{ cmd := 0, len := 1, src := 5 }] })] }, (3 : Fin 170), ({ cmd := 0, len := 1, src := 5 } : Pkt), ({ code := .poison, data := [1, 2] } : FabricAnswer), by decide +kernel⟩,
   ⟨st { fields [(Reg.RGN_STS_STATE 3, 1), (Reg.FF_STS_HOLD 3, 0), (Reg.RING_CTL_EN 0, 1)] awake with frames := [(3 * 10240 + 3584, 256), (3 * 10240 + 3627, 40)], ni := [(3, { rx := [{ cmd := 1, len := 1, src := 5 }] })] }, (3 : Fin 170), ({ cmd := 1, len := 1, src := 5 } : Pkt), ({ code := .poison, data := [1, 2] } : FabricAnswer), by decide +kernel⟩,
   ⟨st { fields [(Reg.RGN_STS_STATE 3, 1), (Reg.FF_STS_HOLD 3, 0), (Reg.RING_CTL_EN 0, 1)] awake with frames := [(3 * 10240 + 3584, 256), (3 * 10240 + 3627, 40)], ni := [(3, { rx := [{ cmd := 2, len := 1, src := 5 }] })] }, (3 : Fin 170), ({ cmd := 2, len := 1, src := 5 } : Pkt), ({ code := .poison, data := [1, 2] } : FabricAnswer), by decide +kernel⟩,
   ⟨st { fields [(Reg.RGN_STS_STATE 3, 1), (Reg.FF_STS_HOLD 3, 0), (Reg.RING_CTL_EN 0, 1)] awake with frames := [(3 * 10240 + 3584, 256), (3 * 10240 + 3627, 40)], ni := [(3, { rx := [{ cmd := 3, len := 1, src := 5 }] })] }, (3 : Fin 170), ({ cmd := 3, len := 1, src := 5 } : Pkt), ({ code := .poison, data := [1, 2] } : FabricAnswer), by decide +kernel⟩⟩

theorem witness_NetworkTargets_2 :
    (∃ (s : State) (i : Fin 170) (p : Pkt) (ans : FabricAnswer), s.ready = true ∧ s.dev.on Reg.CLK_STS_ROOT_LOCK = true ∧ i.val < 128 ∧ s.dev.firstRx i.val (fun p => p.cmd != 5) = some p ∧ p.cmd = 6 ∧ s.dev.guardBars i.val = false ∧ s.dev.rstate i.val ≠ rsRetired ∧ s.dev.hasImage i.val = true ∧ s.dev.cfg i.val 3584 8 1 ≠ 0 ∧ s.dev.regionListens i.val = true ∧ ans.turn = .now) ∧
    (∃ (s : State) (i : Fin 170) (p : Pkt) (ans : FabricAnswer), s.ready = true ∧ s.dev.on Reg.CLK_STS_ROOT_LOCK = true ∧ i.val < 128 ∧ s.dev.firstRx i.val (fun p => p.cmd != 5) = some p ∧ p.cmd = 0 ∧ s.dev.guardBars i.val = false ∧ (s.dev.rstate i.val = rsRetired ∨ s.dev.hasImage i.val = false ∨ s.dev.cfg i.val 3584 8 1 = 0) ∧ (ans.turn = .now ∨ ans.turn = .later)) ∧
    (∃ (s : State) (i : Fin 170) (p : Pkt) (ans : FabricAnswer), s.ready = true ∧ s.dev.on Reg.CLK_STS_ROOT_LOCK = true ∧ i.val < 128 ∧ s.dev.firstRx i.val (fun p => p.cmd != 5) = some p ∧ p.cmd = 0 ∧ s.dev.guardBars i.val = false ∧ s.dev.rstate i.val ≠ rsRetired ∧ s.dev.hasImage i.val = true ∧ s.dev.cfg i.val 3584 8 1 ≠ 0 ∧ s.dev.regionListens i.val = true ∧ ans.turn = .later) ∧
    (∃ (s : State) (i : Fin 170) (p : Pkt) (ans : FabricAnswer) (k : Nat), s.ready = true ∧ s.dev.on Reg.CLK_STS_ROOT_LOCK = true ∧ i.val < 128 ∧ (s.dev.niSt i.val).served[k]? = some p ∧ p.cmd = 0 ∧ s.dev.regionListens i.val = true ∧ ans.turn = .earlier k) :=
  ⟨⟨st { fields [(Reg.RGN_STS_STATE 3, 1), (Reg.FF_STS_HOLD 3, 0), (Reg.RING_CTL_EN 0, 1)] awake with frames := [(3 * 10240 + 3584, 256), (3 * 10240 + 3627, 40)], ni := [(3, { rx := [{ cmd := 6, len := 1, src := 5 }] })] }, (3 : Fin 170), ({ cmd := 6, len := 1, src := 5 } : Pkt), ({ code := .poison, data := [1, 2] } : FabricAnswer), by decide +kernel⟩,
   ⟨st { fields [(Reg.RGN_STS_STATE 3, 0)] awake with ni := [(3, { rx := [{ cmd := 0, len := 1, src := 5 }] })] }, (3 : Fin 170), ({ cmd := 0, len := 1, src := 5 } : Pkt), ({} : FabricAnswer), by decide +kernel⟩,
   ⟨st { fields [(Reg.RGN_STS_STATE 3, 1), (Reg.FF_STS_HOLD 3, 0), (Reg.RING_CTL_EN 0, 1)] awake with frames := [(3 * 10240 + 3584, 256), (3 * 10240 + 3627, 40)], ni := [(3, { rx := [{ cmd := 0, len := 1, src := 5 }] })] }, (3 : Fin 170), ({ cmd := 0, len := 1, src := 5 } : Pkt), ({ turn := .later } : FabricAnswer), by decide +kernel⟩,
   ⟨st { fields [(Reg.RGN_STS_STATE 3, 1), (Reg.FF_STS_HOLD 3, 0), (Reg.RING_CTL_EN 0, 1)] awake with frames := [(3 * 10240 + 3584, 256), (3 * 10240 + 3627, 40)], ni := [(3, { served := [{ cmd := 1, src := 9 }, { cmd := 0, len := 1, src := 5 }] })] }, (3 : Fin 170), ({ cmd := 0, len := 1, src := 5 } : Pkt), ({ turn := .earlier 1, data := [3] } : FabricAnswer), 1, by decide +kernel⟩⟩

theorem witness_NetworkTargets_3 :
    (∃ (s : State) (p : Pkt) (ans : FabricAnswer), s.ready = true ∧ s.dev.on Reg.CLK_STS_ROOT_LOCK = true ∧ s.dev.firstRx 164 (fun p => p.cmd != 5) = some p ∧ p.cmd = 1 ∧ s.dev.guardBars 164 = false ∧ p.src < 128 ∧ (ans.turn = .now ∨ ans.turn = .later)) ∧
    (∃ (s : State) (p : Pkt) (ans : FabricAnswer), s.ready = true ∧ s.dev.on Reg.CLK_STS_ROOT_LOCK = true ∧ s.dev.firstRx 164 (fun p => p.cmd != 5) = some p ∧ p.cmd = 0 ∧ s.dev.guardBars 164 = false ∧ 128 ≤ p.src ∧ p.addr < 0xFF10000000 ∧ (ans.turn = .now ∨ ans.turn = .later)) ∧
    (∃ (s : State) (p : Pkt) (ans : FabricAnswer), s.ready = true ∧ s.dev.on Reg.CLK_STS_ROOT_LOCK = true ∧ s.dev.firstRx 164 (fun p => p.cmd != 5) = some p ∧ p.cmd = 2 ∧ s.dev.guardBars 164 = false ∧ 128 ≤ p.src ∧ p.addr < 0xFF10000000 ∧ s.dev.mp.resv = none ∧ ans.inStore = false ∧ (ans.turn = .now ∨ ans.turn = .later)) ∧
    (∃ (s : State) (p : Pkt) (ans : FabricAnswer) (a n : Nat), s.ready = true ∧ s.dev.on Reg.CLK_STS_ROOT_LOCK = true ∧ s.dev.firstRx 164 (fun p => p.cmd != 5) = some p ∧ p.cmd = 2 ∧ s.dev.guardBars 164 = false ∧ 128 ≤ p.src ∧ p.addr < 0xFF10000000 ∧ s.dev.mp.resv = none ∧ ans.inStore = true ∧ (ans.turn = .now ∨ ans.turn = .later) ∧ s.dev.mp.stored = some (a, n)) :=
  ⟨⟨st { fields [] awake with ni := [(164, { rx := [{ cmd := 1, src := 127 }] })] }, ({ cmd := 1, src := 127 } : Pkt), ({} : FabricAnswer), by decide +kernel⟩,
   ⟨st { fields [] awake with ni := [(164, { rx := [{ cmd := 0, src := 165, addr := 0xFF00000040, len := 2 }] })] }, ({ cmd := 0, src := 165, addr := 0xFF00000040, len := 2 } : Pkt), ({} : FabricAnswer), by decide +kernel⟩,
   ⟨st { fields [] awake with ni := [(164, { rx := [{ cmd := 2, src := 165, addr := 0xFF00000040, beFirst := 6, data := [1, 2, 3] }] })] }, ({ cmd := 2, src := 165, addr := 0xFF00000040, beFirst := 6, data := [1, 2, 3] } : Pkt), ({} : FabricAnswer), by decide +kernel⟩,
   ⟨st { awake with mp := { stored := some (0x41, 1) }, ni := [(164, { rx := [{ cmd := 2, src := 165, addr := 0xFF00000040, beFirst := 6, data := [1, 2, 3] }] })] }, ({ cmd := 2, src := 165, addr := 0xFF00000040, beFirst := 6, data := [1, 2, 3] } : Pkt), ({ inStore := true } : FabricAnswer), 0x41, 1, by decide +kernel⟩⟩

theorem witness_NetworkTargets_4 :
    (∃ (d : Dev) (m : MemUnit) (a v : Nat) (p : Pkt), Dev.atomValue p (if p.asize then 8 else 4) (ofLe ((d.readBytes m a (if p.asize then 8 else 4)).1.map (·.1))) = some v) ∧
    (∃ (s : State) (i : Fin 170) (p : Pkt) (ans : FabricAnswer), s.ready = true ∧ s.dev.on Reg.CLK_STS_ROOT_LOCK = true ∧ i.val = 169 ∧ s.dev.firstRx i.val (fun p => p.cmd != 5) = some p ∧ p.cmd = 0 ∧ s.dev.guardBars i.val = false ∧ (ans.turn = .now ∨ ans.turn = .later)) ∧
    (∃ (s : State) (c : Fin 32) (i : Fin 170) (p : Pkt) (ans : FabricAnswer), s.ready = true ∧ s.dev.on Reg.CLK_STS_ROOT_LOCK = true ∧ i.val = 128 + c.val ∧ s.dev.firstRx i.val (fun p => p.cmd != 5) = some p ∧ p.cmd = 0 ∧ s.dev.guardBars i.val = false ∧ s.dev.dramRefusal c.val p = none ∧ (s.dev.chSt c.val).reqs = [] ∧ (ans.turn = .now ∨ ans.turn = .later)) ∧
    (∃ (s : State) (c : Fin 32) (i : Fin 170) (p : Pkt) (ans : FabricAnswer) (code : Code), s.ready = true ∧ s.dev.on Reg.CLK_STS_ROOT_LOCK = true ∧ i.val = 128 + c.val ∧ s.dev.firstRx i.val (fun p => p.cmd != 5) = some p ∧ p.cmd = 0 ∧ s.dev.guardBars i.val = false ∧ s.dev.dramRefusal c.val p = some code ∧ (∀ x ∈ (s.dev.chSt c.val).reqs, Dev.sameStream x.pkt p = false) ∧ (ans.turn = .now ∨ ans.turn = .later)) :=
  ⟨⟨awake, (.hs 0 : MemUnit), 8, 5, ({ cmd := 3, atop := 1, operand := 5 } : Pkt), by decide +kernel⟩,
   ⟨st { fields [] awake with ni := [(169, { rx := [{ cmd := 0, src := 164, addr := 0xFE00000000, len := 1, beFirst := 15 }] })] }, (169 : Fin 170), ({ cmd := 0, src := 164, addr := 0xFE00000000, len := 1, beFirst := 15 } : Pkt), ({} : FabricAnswer), by decide +kernel⟩,
   ⟨st { fields [(Reg.FW_RD_MASK 9 5, 0xffffffff)] awake with ni := [(137, { rx := [{ cmd := 0, src := 164, addr := 0x240000000, len := 1 }] })] }, (9 : Fin 32), (137 : Fin 170), ({ cmd := 0, src := 164, addr := 0x240000000, len := 1 } : Pkt), ({} : FabricAnswer), by decide +kernel⟩,
   ⟨st { fields [(Reg.CH_RETIRED_MASK, 512)] awake with ni := [(137, { rx := [{ cmd := 0, src := 164, addr := 0x240000000, len := 1 }] })] }, (9 : Fin 32), (137 : Fin 170), ({ cmd := 0, src := 164, addr := 0x240000000, len := 1 } : Pkt), ({} : FabricAnswer), Code.retired, by decide +kernel⟩⟩

theorem witness_NetworkTargets_5 :
    (∃ (s : State) (c : Fin 32) (i : Fin 170) (p : Pkt) (ans : FabricAnswer) (code : Code), s.ready = true ∧ s.dev.on Reg.CLK_STS_ROOT_LOCK = true ∧ i.val = 128 + c.val ∧ s.dev.firstRx i.val (fun p => p.cmd != 5) = some p ∧ p.cmd = 0 ∧ s.dev.guardBars i.val = false ∧ s.dev.dramRefusal c.val p = some code ∧ (∃ x ∈ (s.dev.chSt c.val).reqs, Dev.sameStream x.pkt p = true) ∧ (ans.turn = .now ∨ ans.turn = .later)) ∧
    (∃ (s : State) (i : Fin 170) (p : Pkt) (m : Nat), s.ready = true ∧ s.dev.on Reg.CLK_STS_ROOT_LOCK = true ∧ s.dev.firstRx i.val (fun p => p.cmd != 5) = some p ∧ p.cmd = 7 ∧ niDomain i.val = some m ∧ s.dev.guardClosed i.val = false) ∧
    (∃ (s : State) (i : Fin 170) (p : Pkt), s.ready = true ∧ s.dev.on Reg.CLK_STS_ROOT_LOCK = true ∧ s.dev.firstRx i.val (fun p => p.cmd != 5) = some p ∧ p.cmd = 7 ∧ niDomain i.val = none) ∧
    (∃ (s : State) (i : Fin 170) (p : Pkt), s.ready = true ∧ s.dev.on Reg.CLK_STS_ROOT_LOCK = true ∧ (((s.dev.niSt i.val).rx.filter (fun p => p.cmd != 5))[(s.dev.niSt i.val).inside]?) = some p ∧ s.dev.guardClosed i.val = true ∧ s.dev.unitRetired i.val = false ∧ (128 ≤ i.val ∨ s.dev.hasImage i.val = true) ∧ (s.dev.ctlOn Reg.PWR_CTL_COMPAT_WAKE = false ∨ 164 ≤ i.val)) :=
  ⟨⟨st { fields [(Reg.CH_RETIRED_MASK, 512)] awake with ch := [(9, { reqs := [⟨0, { cmd := 0, src := 164, addr := 0x240000000, len := 1 }, 0, 0, [], [5], [], .ok⟩] })], ni := [(137, { rx := [{ cmd := 0, src := 164, addr := 0x240000000, len := 1 }] })] }, (9 : Fin 32), (137 : Fin 170), ({ cmd := 0, src := 164, addr := 0x240000000, len := 1 } : Pkt), ({} : FabricAnswer), Code.retired, by decide +kernel⟩,
   ⟨st { fields [] awake with ni := [(137, { rx := [{ cmd := 7, src := 164 }] })] }, (137 : Fin 170), ({ cmd := 7, src := 164 } : Pkt), 25, by decide +kernel⟩,
   ⟨st { fields [] awake with ni := [(169, { rx := [{ cmd := 7, src := 163 }] })] }, (169 : Fin 170), ({ cmd := 7, src := 163 } : Pkt), by decide +kernel⟩,
   ⟨st { fields [(Reg.NI_STS_GUARD_CLOSED 137, 1), (Reg.PWR_CTL_COMPAT_WAKE, 0)] awake with ni := [(137, { rx := [{ cmd := 0, src := 164 }] })] }, (137 : Fin 170), ({ cmd := 0, src := 164 } : Pkt), by decide +kernel⟩⟩

theorem witness_NetworkTargets_6 :
    ∃ (s : State) (i : Fin 170) (p : Pkt), s.ready = true ∧ s.dev.on Reg.CLK_STS_ROOT_LOCK = true ∧ (((s.dev.niSt i.val).rx.filter (fun p => p.cmd != 5))[(s.dev.niSt i.val).inside]?) = some p ∧ s.dev.guardClosed i.val = true ∧ (s.dev.unitRetired i.val = true ∨ (i.val < 128 ∧ s.dev.hasImage i.val = false)) :=
  ⟨st { fields [(Reg.NI_STS_GUARD_CLOSED 137, 1), (Reg.CH_RETIRED_MASK, 512)] awake with ni := [(137, { rx := [{ cmd := 0, src := 164 }] })] }, (137 : Fin 170), ({ cmd := 0, src := 164 } : Pkt), by decide +kernel⟩

theorem witness_RouteEpochs_1 :
    (∃ (s : State) (who : Who), s.ready = true ∧ s.dev.takes who Reg.NOC_CTL_EPOCH = true ∧ s.dev.nocBusy = false) ∧
    (∃ (s : State) (who : Who), s.ready = true ∧ s.dev.takes who Reg.NOC_CTL_EPOCH = true ∧ s.dev.nocBusy = true) ∧
    (∃ (s : State), s.live = true ∧ s.dev.on Reg.CLK_STS_ROOT_LOCK = true ∧ s.dev.on Reg.NOC_STS_COMMIT_PENDING = true) ∧
    (∃ (s : State), s.ready = true ∧ s.dev.on Reg.CLK_STS_ROOT_LOCK = true) :=
  ⟨⟨st (fields [(Reg.NOC_STS_DRAINED, 1)] { awake with unlocks := [.mp] }), .mp, by decide +kernel⟩,
   ⟨st (fields [(Reg.NOC_STS_DRAINED, 0)] { awake with unlocks := [.mp] }), .mp, by decide +kernel⟩,
   ⟨up [(Reg.NOC_STS_COMMIT_PENDING, 1), (Reg.NOC_STS_DRAINED, 1), (Reg.PORT_EN_SHADOW 191, 5)], by decide +kernel⟩,
   ⟨up [(Reg.NOC_STS_GT_QUIET, 1)], by decide +kernel⟩⟩

theorem witness_RouteEpochs_2 :
    (∃ (s : State), s.ready = true ∧ s.dev.on Reg.CLK_STS_ROOT_LOCK = true ∧ s.dev.on Reg.NOC_STS_DRAINED = false ∧ s.dev.oldLeft = 0) ∧
    (∃ (s : State), s.ready = true ∧ s.dev.on Reg.CLK_STS_ROOT_LOCK = true ∧ s.dev.oldLeft ≠ 0) ∧
    (∃ (s : State), s.ready = true ∧ s.dev.on Reg.CLK_STS_ROOT_LOCK = true) ∧
    (∃ (s : State) (who : Who), s.ready = true ∧ s.dev.takes who Reg.NOC_CTL_RB_WRITE = true ∧ s.dev.nocBusy = false ∧ (if s.dev.rbData.testBit 127 then Dev.bookCheck (s.dev.get Reg.NOC_RBSEL_RB_NI) (s.dev.get Reg.NOC_RBSEL_RB_IDX) s.dev.rbData else none) = none) :=
  ⟨⟨up [(Reg.NOC_STS_DRAINED, 0)], by decide +kernel⟩,
   ⟨st { fields [(Reg.NOC_STS_DRAINED, 0)] awake with ni := [(3, { rx := [{ epoch := true }] })] }, by decide +kernel⟩,
   ⟨st { fields [] awake with ni := [(3, { served := [{ epoch := true, src := 4, tag := 7 }] })] }, by decide +kernel⟩,
   ⟨st (fields [(Reg.NOC_STS_DRAINED, 1), (Reg.NOC_RBSEL_RB_NI, 5), (Reg.NOC_RBSEL_RB_IDX, 300), (Reg.RB_DATA_DATA 0, 77)] { awake with unlocks := [.mp] }), .mp, by decide +kernel⟩⟩

theorem witness_RouteEpochs_3 :
    (∃ (s : State) (who : Who) (c h : Nat), s.ready = true ∧ s.dev.takes who Reg.NOC_CTL_RB_WRITE = true ∧ s.dev.nocBusy = false ∧ s.dev.rbData.testBit 127 = true ∧ Dev.bookCheck (s.dev.get Reg.NOC_RBSEL_RB_NI) (s.dev.get Reg.NOC_RBSEL_RB_IDX) s.dev.rbData = some (c, h) ∧ c < 8 ∧ h < 32) ∧
    (∃ (s : State) (who : Who), s.ready = true ∧ s.dev.takes who Reg.NOC_CTL_RB_READ = true ∧ (s.dev.bookRead (s.dev.get Reg.NOC_RBSEL_RB_NI) (if s.dev.ctlOn Reg.NOC_CTL_READ_ACTIVE then s.dev.epoch else 1 - s.dev.epoch) (s.dev.get Reg.NOC_RBSEL_RB_IDX)).2.1 = false) ∧
    (∃ (s : State) (who : Who), s.ready = true ∧ s.dev.takes who Reg.NOC_CTL_RB_COPY = true ∧ s.dev.nocBusy = false) ∧
    (∃ (s : State) (who : Who), s.ready = true ∧ s.dev.takes who Reg.NOC_CTL_ST_WRITE = true ∧ s.dev.nocBusy = false) :=
  ⟨⟨st (fields [(Reg.NOC_STS_DRAINED, 1), (Reg.NOC_RBSEL_RB_NI, 5), (Reg.NOC_RBSEL_RB_IDX, 169), (Reg.RB_DATA_DATA 3, 0x80000000), (Reg.RB_DATA_DATA 0, 0x2D)] { awake with unlocks := [.mp] }), .mp, 2, 0, by decide +kernel⟩,
   ⟨st (fields [(Reg.NOC_RBSEL_RB_NI, 164), (Reg.NOC_RBSEL_RB_IDX, 3), (Reg.NOC_CTL_READ_ACTIVE, 1)] { awake with unlocks := [.mp] }), .mp, by decide +kernel⟩,
   ⟨st (fields [(Reg.NOC_STS_DRAINED, 1), (Reg.NOC_RBSEL_RB_NI, 5)] { awake with unlocks := [.mp] }), .mp, by decide +kernel⟩,
   ⟨st (fields [(Reg.NOC_STS_DRAINED, 1), (Reg.NOC_STSEL_WS, 191), (Reg.NOC_STSEL_GROUP, 31)] { awake with unlocks := [.mp], csr := [] }), .mp, by decide +kernel⟩⟩

theorem witness_RouteEpochs_4 :
    ∃ (s : State) (who : Who), s.ready = true ∧ s.dev.takes who Reg.NOC_CTL_ST_READ = true :=
  ⟨st { awake with unlocks := [.mp], slots := [(3, 2)] }, .mp, by decide +kernel⟩

theorem witness_ContextLookups_1 :
    (∃ (s : State) (n : Region), s.ready = true ∧ s.dev.on Reg.CLK_STS_ROOT_LOCK = true ∧ s.dev.hasImage n.val = true ∧ s.dev.holdOn n.val = false ∧ s.dev.cfg n.val 3628 0 1 ≠ 0 ∧ s.dev.niClock n.val = true) ∧
    (∃ (s : State) (e : Fin 4) (p : Pkt) (i : Nat) (r : List Byte), (s.dev.ctxBy e.val).ctxPick e.val 1 = some p ∧ s.ready = true ∧ s.dev.on Reg.CLK_STS_ROOT_LOCK = true ∧ s.dev.on Reg.CTX_STS_IN_USE = true ∧ lqWsel p < 6 ∧ ((s.dev.ctxBy e.val).ctxSearch (lqKey p)).result = some (.hit i r) ∧ ((s.dev.ctxBy e.val).ctxSearch (lqKey p)).dram = false ∧ lqTouch p = true) :=
  ⟨⟨st { fields [(Reg.RGN_STS_STATE 3, 1), (Reg.FF_STS_HOLD 3, 0), (Reg.RING_CTL_EN 0, 1)] awake with frames := [(3 * 10240 + 3627, 40), (3 * 10240 + 3628, 1)] }, (3 : Region), by decide +kernel⟩,
   ⟨st (Dev.storeBytes { fields [(Reg.CTX_STS_IN_USE, 1), (Reg.CTX_STS_ENG_LIVE, 15)] awake with unlocks := [.mp], ctx := { keyBytes := 8 }, ctxCache := [⟨1045553, 0, false⟩], ni := [(160, { served := [({ cmd := 6, src := 5, dst := 160, user := 2 ^ 12 * 1 + 65536, data := leBytes 48 77 ++ leBytes 8 3 ++ leBytes 8 4 })] })] } (.hs 1) 0 (leBytes 7 0 ++ [1] ++ leBytes 48 77 ++ leBytes 4 0 ++ leBytes 4 0 ++ leBytes 8 7 ++ leBytes 8 7 ++ leBytes 8 0 ++ leBytes 40 0)), (0 : Fin 4), ({ cmd := 6, src := 5, dst := 160, user := 2 ^ 12 * 1 + 65536, data := leBytes 48 77 ++ leBytes 8 3 ++ leBytes 8 4 } : Pkt), 1045553, (leBytes 7 0 ++ [1] ++ leBytes 48 77 ++ leBytes 4 0 ++ leBytes 4 0 ++ leBytes 8 7 ++ leBytes 8 7 ++ leBytes 8 0 ++ leBytes 40 0), by decide +kernel⟩⟩

theorem witness_ContextLookups_2 :
    (∃ (s : State) (e : Fin 4) (p : Pkt) (i : Nat) (r : List Byte), (s.dev.ctxBy e.val).ctxPick e.val 2 = some p ∧ s.ready = true ∧ s.dev.on Reg.CLK_STS_ROOT_LOCK = true ∧ s.dev.on Reg.CTX_STS_IN_USE = true ∧ lqWsel p < 6 ∧ ((s.dev.ctxBy e.val).ctxSearch (lqKey p)).result = some (.hit i r) ∧ ((s.dev.ctxBy e.val).ctxSearch (lqKey p)).dram = false) ∧
    (∃ (s : State) (e : Fin 4) (p : Pkt) (i : Nat) (r : List Byte), (s.dev.ctxBy e.val).ctxPick e.val 3 = some p ∧ s.ready = true ∧ s.dev.on Reg.CLK_STS_ROOT_LOCK = true ∧ s.dev.on Reg.CTX_STS_IN_USE = true ∧ lqWsel p < 6 ∧ ((s.dev.ctxBy e.val).ctxSearch (lqKey p)).result = some (.hit i r) ∧ ((s.dev.ctxBy e.val).ctxSearch (lqKey p)).dram = false ∧ leAt r 60 4 = lqArg p 0 % 2 ^ 32) :=
  ⟨⟨st (Dev.storeBytes { fields [(Reg.CTX_STS_IN_USE, 1), (Reg.CTX_STS_ENG_LIVE, 15)] awake with unlocks := [.mp], ctx := { keyBytes := 8 }, ctxCache := [⟨1045553, 0, false⟩], ni := [(160, { served := [({ cmd := 6, src := 5, dst := 160, user := 2 ^ 12 * 2 + 65536, data := leBytes 48 77 ++ leBytes 8 3 ++ leBytes 8 4 })] })] } (.hs 1) 0 (leBytes 7 0 ++ [1] ++ leBytes 48 77 ++ leBytes 4 0 ++ leBytes 4 0 ++ leBytes 8 7 ++ leBytes 8 7 ++ leBytes 8 0 ++ leBytes 40 0)), (0 : Fin 4), ({ cmd := 6, src := 5, dst := 160, user := 2 ^ 12 * 2 + 65536, data := leBytes 48 77 ++ leBytes 8 3 ++ leBytes 8 4 } : Pkt), 1045553, (leBytes 7 0 ++ [1] ++ leBytes 48 77 ++ leBytes 4 0 ++ leBytes 4 0 ++ leBytes 8 7 ++ leBytes 8 7 ++ leBytes 8 0 ++ leBytes 40 0), by decide +kernel⟩,
   ⟨st (Dev.storeBytes { fields [(Reg.CTX_STS_IN_USE, 1), (Reg.CTX_STS_ENG_LIVE, 15)] awake with unlocks := [.mp], ctx := { keyBytes := 8 }, ctxCache := [⟨1045553, 0, false⟩], ni := [(160, { served := [({ cmd := 6, src := 5, dst := 160, user := 2 ^ 12 * 3 + 65536, data := leBytes 48 77 ++ leBytes 8 3 ++ leBytes 8 4 })] })] } (.hs 1) 0 (leBytes 7 0 ++ [1] ++ leBytes 48 77 ++ leBytes 4 0 ++ leBytes 4 3 ++ leBytes 8 7 ++ leBytes 8 7 ++ leBytes 8 0 ++ leBytes 40 0)), (0 : Fin 4), ({ cmd := 6, src := 5, dst := 160, user := 2 ^ 12 * 3 + 65536, data := leBytes 48 77 ++ leBytes 8 3 ++ leBytes 8 4 } : Pkt), 1045553, (leBytes 7 0 ++ [1] ++ leBytes 48 77 ++ leBytes 4 0 ++ leBytes 4 3 ++ leBytes 8 7 ++ leBytes 8 7 ++ leBytes 8 0 ++ leBytes 40 0), by decide +kernel⟩⟩

theorem witness_ContextLookups_3 :
    (∃ (s : State) (e : Fin 4) (p : Pkt) (i : Nat) (r : List Byte), (s.dev.ctxBy e.val).ctxPick e.val 3 = some p ∧ s.ready = true ∧ s.dev.on Reg.CLK_STS_ROOT_LOCK = true ∧ s.dev.on Reg.CTX_STS_IN_USE = true ∧ lqWsel p < 6 ∧ ((s.dev.ctxBy e.val).ctxSearch (lqKey p)).result = some (.hit i r) ∧ ((s.dev.ctxBy e.val).ctxSearch (lqKey p)).dram = false ∧ leAt r 60 4 ≠ lqArg p 0 % 2 ^ 32) ∧
    (∃ (s : State) (e : Fin 4) (p : Pkt) (i : Nat) (r : List Byte), (s.dev.ctxBy e.val).ctxPick e.val 4 = some p ∧ s.ready = true ∧ s.dev.on Reg.CLK_STS_ROOT_LOCK = true ∧ s.dev.on Reg.CTX_STS_IN_USE = true ∧ lqWsel p < 6 ∧ ((s.dev.ctxBy e.val).ctxSearch (lqKey p)).result = some (.hit i r) ∧ ((s.dev.ctxBy e.val).ctxSearch (lqKey p)).dram = false) :=
  ⟨⟨st (Dev.storeBytes { fields [(Reg.CTX_STS_IN_USE, 1), (Reg.CTX_STS_ENG_LIVE, 15)] awake with unlocks := [.mp], ctx := { keyBytes := 8 }, ctxCache := [⟨1045553, 0, false⟩], ni := [(160, { served := [({ cmd := 6, src := 5, dst := 160, user := 2 ^ 12 * 3 + 65536, data := leBytes 48 77 ++ leBytes 8 3 ++ leBytes 8 4 })] })] } (.hs 1) 0 (leBytes 7 0 ++ [1] ++ leBytes 48 77 ++ leBytes 4 0 ++ leBytes 4 0 ++ leBytes 8 7 ++ leBytes 8 7 ++ leBytes 8 0 ++ leBytes 40 0)), (0 : Fin 4), ({ cmd := 6, src := 5, dst := 160, user := 2 ^ 12 * 3 + 65536, data := leBytes 48 77 ++ leBytes 8 3 ++ leBytes 8 4 } : Pkt), 1045553, (leBytes 7 0 ++ [1] ++ leBytes 48 77 ++ leBytes 4 0 ++ leBytes 4 0 ++ leBytes 8 7 ++ leBytes 8 7 ++ leBytes 8 0 ++ leBytes 40 0), by decide +kernel⟩,
   ⟨st (Dev.storeBytes { fields [(Reg.CTX_STS_IN_USE, 1), (Reg.CTX_STS_ENG_LIVE, 15)] awake with unlocks := [.mp], ctx := { keyBytes := 8 }, ctxCache := [⟨1045553, 0, false⟩], ni := [(160, { served := [({ cmd := 6, src := 5, dst := 160, user := 2 ^ 12 * 4 + 65536, data := leBytes 48 77 ++ leBytes 8 3 ++ leBytes 8 4 })] })] } (.hs 1) 0 (leBytes 7 0 ++ [1] ++ leBytes 48 77 ++ leBytes 4 0 ++ leBytes 4 0 ++ leBytes 8 7 ++ leBytes 8 7 ++ leBytes 8 0 ++ leBytes 40 0)), (0 : Fin 4), ({ cmd := 6, src := 5, dst := 160, user := 2 ^ 12 * 4 + 65536, data := leBytes 48 77 ++ leBytes 8 3 ++ leBytes 8 4 } : Pkt), 1045553, (leBytes 7 0 ++ [1] ++ leBytes 48 77 ++ leBytes 4 0 ++ leBytes 4 0 ++ leBytes 8 7 ++ leBytes 8 7 ++ leBytes 8 0 ++ leBytes 40 0), by decide +kernel⟩⟩

theorem witness_ContextLookups_4 :
    (∃ (s : State) (e : Fin 4) (p : Pkt) (i : Nat) (r : List Byte), (s.dev.ctxBy e.val).ctxPick e.val 5 = some p ∧ s.ready = true ∧ s.dev.on Reg.CLK_STS_ROOT_LOCK = true ∧ s.dev.on Reg.CTX_STS_IN_USE = true ∧ lqWsel p < 6 ∧ ((s.dev.ctxBy e.val).ctxSearch (lqKey p)).result = some (.hit i r) ∧ ((s.dev.ctxBy e.val).ctxSearch (lqKey p)).dram = false ∧ leAt r (80 + 8 * lqWsel p) 8 = lqArg p 1) ∧
    (∃ (s : State) (e : Fin 4) (p : Pkt) (i : Nat) (r : List Byte), (s.dev.ctxBy e.val).ctxPick e.val 5 = some p ∧ s.ready = true ∧ s.dev.on Reg.CLK_STS_ROOT_LOCK = true ∧ s.dev.on Reg.CTX_STS_IN_USE = true ∧ lqWsel p < 6 ∧ ((s.dev.ctxBy e.val).ctxSearch (lqKey p)).result = some (.hit i r) ∧ ((s.dev.ctxBy e.val).ctxSearch (lqKey p)).dram = false ∧ leAt r (80 + 8 * lqWsel p) 8 ≠ lqArg p 1) :=
  ⟨⟨st (Dev.storeBytes { fields [(Reg.CTX_STS_IN_USE, 1), (Reg.CTX_STS_ENG_LIVE, 15)] awake with unlocks := [.mp], ctx := { keyBytes := 8 }, ctxCache := [⟨1045553, 0, false⟩], ni := [(160, { served := [({ cmd := 6, src := 5, dst := 160, user := 2 ^ 12 * 5 + 65536, data := leBytes 48 77 ++ leBytes 8 3 ++ leBytes 8 4 })] })] } (.hs 1) 0 (leBytes 7 0 ++ [1] ++ leBytes 48 77 ++ leBytes 4 0 ++ leBytes 4 0 ++ leBytes 8 7 ++ leBytes 8 7 ++ leBytes 8 4 ++ leBytes 40 0)), (0 : Fin 4), ({ cmd := 6, src := 5, dst := 160, user := 2 ^ 12 * 5 + 65536, data := leBytes 48 77 ++ leBytes 8 3 ++ leBytes 8 4 } : Pkt), 1045553, (leBytes 7 0 ++ [1] ++ leBytes 48 77 ++ leBytes 4 0 ++ leBytes 4 0 ++ leBytes 8 7 ++ leBytes 8 7 ++ leBytes 8 4 ++ leBytes 40 0), by decide +kernel⟩,
   ⟨st (Dev.storeBytes { fields [(Reg.CTX_STS_IN_USE, 1), (Reg.CTX_STS_ENG_LIVE, 15)] awake with unlocks := [.mp], ctx := { keyBytes := 8 }, ctxCache := [⟨1045553, 0, false⟩], ni := [(160, { served := [({ cmd := 6, src := 5, dst := 160, user := 2 ^ 12 * 5 + 65536, data := leBytes 48 77 ++ leBytes 8 3 ++ leBytes 8 4 })] })] } (.hs 1) 0 (leBytes 7 0 ++ [1] ++ leBytes 48 77 ++ leBytes 4 0 ++ leBytes 4 0 ++ leBytes 8 7 ++ leBytes 8 7 ++ leBytes 8 0 ++ leBytes 40 0)), (0 : Fin 4), ({ cmd := 6, src := 5, dst := 160, user := 2 ^ 12 * 5 + 65536, data := leBytes 48 77 ++ leBytes 8 3 ++ leBytes 8 4 } : Pkt), 1045553, (leBytes 7 0 ++ [1] ++ leBytes 48 77 ++ leBytes 4 0 ++ leBytes 4 0 ++ leBytes 8 7 ++ leBytes 8 7 ++ leBytes 8 0 ++ leBytes 40 0), by decide +kernel⟩⟩

theorem witness_ContextLookups_5 :
    (∃ (s : State) (e : Fin 4) (p : Pkt), s.ready = true ∧ s.dev.on Reg.CLK_STS_ROOT_LOCK = true ∧ (s.dev.ctxBy e.val).ctxPick e.val 1 = some p ∧ s.dev.on Reg.CTX_STS_IN_USE = true ∧ lqWsel p < 6 ∧ ((s.dev.ctxBy e.val).ctxSearch (lqKey p)).result = some .none ∧ ((s.dev.ctxBy e.val).ctxSearch (lqKey p)).dram = false) ∧
    (∃ (s : State) (e : Fin 4) (p : Pkt), s.ready = true ∧ s.dev.on Reg.CLK_STS_ROOT_LOCK = true ∧ (s.dev.ctxBy e.val).ctxPick e.val 4 = some p ∧ s.dev.on Reg.CTX_STS_IN_USE = true ∧ 6 ≤ lqWsel p) :=
  ⟨⟨st (Dev.storeBytes { fields [(Reg.CTX_STS_IN_USE, 1), (Reg.CTX_STS_ENG_LIVE, 15)] awake with unlocks := [.mp], ctx := { keyBytes := 8 }, ctxCache := [⟨1045553, 0, false⟩], ni := [(160, { served := [({ cmd := 6, src := 5, dst := 160, user := 2 ^ 12 * 1 + 0, data := leBytes 48 77 ++ leBytes 8 3 ++ leBytes 8 4 })] })] } (.hs 1) 0 (leBytes 128 0)), (0 : Fin 4), ({ cmd := 6, src := 5, dst := 160, user := 2 ^ 12 * 1 + 0, data := leBytes 48 77 ++ leBytes 8 3 ++ leBytes 8 4 } : Pkt), by decide +kernel⟩,
   ⟨st (Dev.storeBytes { fields [(Reg.CTX_STS_IN_USE, 1), (Reg.CTX_STS_ENG_LIVE, 15)] awake with unlocks := [.mp], ctx := { keyBytes := 8 }, ctxCache := [⟨1045553, 0, false⟩], ni := [(160, { served := [({ cmd := 6, src := 5, dst := 160, user := 2 ^ 12 * 4 + 786432, data := leBytes 48 77 ++ leBytes 8 3 ++ leBytes 8 4 })] })] } (.hs 1) 0 (leBytes 128 0)), (0 : Fin 4), ({ cmd := 6, src := 5, dst := 160, user := 2 ^ 12 * 4 + 786432, data := leBytes 48 77 ++ leBytes 8 3 ++ leBytes 8 4 } : Pkt), by decide +kernel⟩⟩

theorem witness_ContextLookups_6 :
    (∃ (d : Dev) (e : Fin 4) (p q : Pkt) (c : Code), (d.niSt (160 + e.val)).served = [q, p] ∧ (d.niSt (160 + e.val)).ready = [] ∧ q ≠ p ∧ Dev.sameStream q p = true ∧ c ≠ .noContext) ∧
    (∃ (s : State) (i set : Nat) (rest : List (Nat × Nat)) (r : List Byte) (b : Bool) (d2 : Dev), s.ready = true ∧ s.dev.on Reg.CLK_STS_ROOT_LOCK = true ∧ s.dev.ctx.refills = (i, set) :: rest ∧ s.dev.ctxLine i = none ∧ s.dev.on Reg.CTX_STS_IN_USE = true ∧ (s.dev.setCtx { s.dev.ctx with refills := rest }).recRead i = (.ok r b, d2)) :=
  ⟨⟨{ awake with ni := [(160, { served := [{ cmd := 6, src := 5, tag := 1 }, { cmd := 6, src := 5, tag := 2 }] })] }, (0 : Fin 4), ({ cmd := 6, src := 5, tag := 2 } : Pkt), ({ cmd := 6, src := 5, tag := 1 } : Pkt), Code.ok, by decide +kernel⟩,
   ⟨st { fields [(Reg.CTX_STS_IN_USE, 1)] awake with ctx := { refills := [(9, 3)] } }, 9, 3, ([] : List (Nat × Nat)), (List.replicate 128 0), true, (((st { fields [(Reg.CTX_STS_IN_USE, 1)] awake with ctx := { refills := [(9, 3)] } } : State).dev.setCtx { (st { fields [(Reg.CTX_STS_IN_USE, 1)] awake with ctx := { refills := [(9, 3)] } } : State).dev.ctx with refills := [] }).recRead 9).2, by decide +kernel, by decide +kernel, by decide +kernel, by decide +kernel, by decide +kernel, pair_of_fst (by decide +kernel)⟩⟩

theorem witness_ContextChanges_1 :
    (∃ (s : State) (who : Who) (i : Nat), s.ready = true ∧ s.dev.takesWrite who Reg.CTX_CTL (withField (withField (s.dev.word Reg.CTX_CTL) Reg.CTX_CTL_OP.lsb Reg.CTX_CTL_OP.w 0) Reg.CTX_CTL_OP_GO.lsb Reg.CTX_CTL_OP_GO.w 1) = true ∧ s.dev.ctxBusy = false ∧ ((s.dev.written who Reg.CTX_CTL (withField (withField (s.dev.word Reg.CTX_CTL) Reg.CTX_CTL_OP.lsb Reg.CTX_CTL_OP.w 0) Reg.CTX_CTL_OP_GO.lsb Reg.CTX_CTL_OP_GO.w 1)).ctxByLive.ctxCreate (s.dev.ctxBytes Reg.CTX_KEY_KEY 12) (s.dev.ctxBytes Reg.CTX_DATA_DATA 18)).1.toOption = some i) ∧
    (∃ (s : State) (who : Who), s.ready = true ∧ s.dev.takesWrite who Reg.CTX_CTL (withField (withField (s.dev.word Reg.CTX_CTL) Reg.CTX_CTL_OP.lsb Reg.CTX_CTL_OP.w 0) Reg.CTX_CTL_OP_GO.lsb Reg.CTX_CTL_OP_GO.w 1) = true ∧ s.dev.ctxBusy = false ∧ (match ((s.dev.written who Reg.CTX_CTL (withField (withField (s.dev.word Reg.CTX_CTL) Reg.CTX_CTL_OP.lsb Reg.CTX_CTL_OP.w 0) Reg.CTX_CTL_OP_GO.lsb Reg.CTX_CTL_OP_GO.w 1)).ctxByLive.ctxCreate (s.dev.ctxBytes Reg.CTX_KEY_KEY 12) (s.dev.ctxBytes Reg.CTX_DATA_DATA 18)).1 with | .error e => e == (.targetErr, 1) | .ok _ => false) = true) :=
  ⟨⟨st (Dev.storeBytes { fields [(Reg.CTX_STS_IN_USE, 1), (Reg.CTX_STS_ENG_LIVE, 15), (Reg.CTX_KEY_KEY 0, 77)] awake with unlocks := [.mp], ctx := { keyBytes := 8 }, ctxCache := [⟨1045553, 0, false⟩] } (.hs 1) 0 (leBytes 128 0)), .mp, 1045553, by decide +kernel⟩,
   ⟨st (Dev.storeBytes { fields [(Reg.CTX_STS_IN_USE, 1), (Reg.CTX_STS_ENG_LIVE, 15), (Reg.CTX_KEY_KEY 0, 77)] awake with unlocks := [.mp], ctx := { keyBytes := 8 }, ctxCache := [⟨1045553, 0, false⟩] } (.hs 1) 0 (leBytes 7 0 ++ [1] ++ leBytes 48 77 ++ leBytes 4 0 ++ leBytes 4 0 ++ leBytes 8 7 ++ leBytes 8 7 ++ leBytes 8 0 ++ leBytes 40 0)), .mp, by decide +kernel⟩⟩

theorem witness_ContextChanges_2 :
    (∃ (s : State) (who : Who) (i : Nat) (r : List Byte), s.ready = true ∧ s.dev.takesWrite who Reg.CTX_CTL (withField (withField (s.dev.word Reg.CTX_CTL) Reg.CTX_CTL_OP.lsb Reg.CTX_CTL_OP.w 1) Reg.CTX_CTL_OP_GO.lsb Reg.CTX_CTL_OP_GO.w 1) = true ∧ s.dev.ctxBusy = false ∧ ((s.dev.written who Reg.CTX_CTL (withField (withField (s.dev.word Reg.CTX_CTL) Reg.CTX_CTL_OP.lsb Reg.CTX_CTL_OP.w 1) Reg.CTX_CTL_OP_GO.lsb Reg.CTX_CTL_OP_GO.w 1)).ctxByLive.ctxFind (s.dev.ctxBytes Reg.CTX_KEY_KEY 12)).1.toOption = some (i, r) ∧ ((s.dev.written who Reg.CTX_CTL (withField (withField (s.dev.word Reg.CTX_CTL) Reg.CTX_CTL_OP.lsb Reg.CTX_CTL_OP.w 1) Reg.CTX_CTL_OP_GO.lsb Reg.CTX_CTL_OP_GO.w 1)).ctxByLive.ctxFind (s.dev.ctxBytes Reg.CTX_KEY_KEY 12)).2.ctx.staged.length < 1024) ∧
    (∃ (s : State) (who : Who) (i j : Nat) (r : List Byte), s.ready = true ∧ s.dev.takesWrite who Reg.CTX_CTL (withField (withField (s.dev.word Reg.CTX_CTL) Reg.CTX_CTL_OP.lsb Reg.CTX_CTL_OP.w 2) Reg.CTX_CTL_OP_GO.lsb Reg.CTX_CTL_OP_GO.w 1) = true ∧ s.dev.ctxBusy = false ∧ ((s.dev.written who Reg.CTX_CTL (withField (withField (s.dev.word Reg.CTX_CTL) Reg.CTX_CTL_OP.lsb Reg.CTX_CTL_OP.w 2) Reg.CTX_CTL_OP_GO.lsb Reg.CTX_CTL_OP_GO.w 1)).ctxByLive.ctxFind (s.dev.ctxBytes Reg.CTX_KEY_KEY 12)).1.toOption = some (i, r) ∧ ((s.dev.written who Reg.CTX_CTL (withField (withField (s.dev.word Reg.CTX_CTL) Reg.CTX_CTL_OP.lsb Reg.CTX_CTL_OP.w 2) Reg.CTX_CTL_OP_GO.lsb Reg.CTX_CTL_OP_GO.w 1)).ctxByLive.ctxFind (s.dev.ctxBytes Reg.CTX_KEY_KEY 12)).2.ctx.staged.length < 1023 ∧ (((s.dev.written who Reg.CTX_CTL (withField (withField (s.dev.word Reg.CTX_CTL) Reg.CTX_CTL_OP.lsb Reg.CTX_CTL_OP.w 2) Reg.CTX_CTL_OP_GO.lsb Reg.CTX_CTL_OP_GO.w 1)).ctxByLive.ctxFind (s.dev.ctxBytes Reg.CTX_KEY_KEY 12)).2.ctxCreate (s.dev.ctxBytes Reg.CTX_NKEY_NKEY 12) (recState r)).1.toOption = some j) :=
  ⟨⟨st (Dev.storeBytes { fields [(Reg.CTX_STS_IN_USE, 1), (Reg.CTX_STS_ENG_LIVE, 15), (Reg.CTX_KEY_KEY 0, 77)] awake with unlocks := [.mp], ctx := { keyBytes := 8 }, ctxCache := [⟨1045553, 0, false⟩] } (.hs 1) 0 (leBytes 7 0 ++ [1] ++ leBytes 48 77 ++ leBytes 4 0 ++ leBytes 4 0 ++ leBytes 8 7 ++ leBytes 8 7 ++ leBytes 8 0 ++ leBytes 40 0)), .mp, 1045553, (leBytes 7 0 ++ [1] ++ leBytes 48 77 ++ leBytes 4 0 ++ leBytes 4 0 ++ leBytes 8 7 ++ leBytes 8 7 ++ leBytes 8 0 ++ leBytes 40 0), by decide +kernel⟩,
   ⟨st (Dev.storeBytes { fields [(Reg.CTX_STS_IN_USE, 1), (Reg.CTX_STS_ENG_LIVE, 15), (Reg.CTX_KEY_KEY 0, 77), (Reg.CTX_NKEY_NKEY 0, 78)] awake with unlocks := [.mp], ctx := { keyBytes := 8 }, ctxCache := [⟨1045553, 0, false⟩] } (.hs 1) 0 (leBytes 7 0 ++ [1] ++ leBytes 48 77 ++ leBytes 4 0 ++ leBytes 4 0 ++ leBytes 8 7 ++ leBytes 8 7 ++ leBytes 8 0 ++ leBytes 40 0)), .mp, 1045553, 2107816, (leBytes 7 0 ++ [1] ++ leBytes 48 77 ++ leBytes 4 0 ++ leBytes 4 0 ++ leBytes 8 7 ++ leBytes 8 7 ++ leBytes 8 0 ++ leBytes 40 0), by decide +kernel⟩⟩

theorem witness_ContextChanges_3 :
    (∃ (s : State) (who : Who) (i : Nat) (r : List Byte), s.ready = true ∧ s.dev.takesWrite who Reg.CTX_CTL (withField (withField (s.dev.word Reg.CTX_CTL) Reg.CTX_CTL_OP.lsb Reg.CTX_CTL_OP.w 3) Reg.CTX_CTL_OP_GO.lsb Reg.CTX_CTL_OP_GO.w 1) = true ∧ s.dev.on Reg.CTX_STS_IN_USE = true ∧ s.dev.on Reg.CTX_STS_BUSY = false ∧ ((s.dev.written who Reg.CTX_CTL (withField (withField (s.dev.word Reg.CTX_CTL) Reg.CTX_CTL_OP.lsb Reg.CTX_CTL_OP.w 3) Reg.CTX_CTL_OP_GO.lsb Reg.CTX_CTL_OP_GO.w 1)).ctxByLive.ctxFind (s.dev.ctxBytes Reg.CTX_KEY_KEY 12)).1.toOption = some (i, r)) ∧
    (∃ (s : State) (who : Who), s.ready = true ∧ s.dev.takesWrite who Reg.CTX_CTL (withField (withField (s.dev.word Reg.CTX_CTL) Reg.CTX_CTL_OP.lsb Reg.CTX_CTL_OP.w 1) Reg.CTX_CTL_OP_GO.lsb Reg.CTX_CTL_OP_GO.w 1) = true ∧ s.dev.ctxBusy = true) :=
  ⟨⟨st (Dev.storeBytes { fields [(Reg.CTX_STS_IN_USE, 1), (Reg.CTX_STS_ENG_LIVE, 15), (Reg.CTX_KEY_KEY 0, 77)] awake with unlocks := [.mp], ctx := { keyBytes := 8 }, ctxCache := [⟨1045553, 0, false⟩] } (.hs 1) 0 (leBytes 7 0 ++ [1] ++ leBytes 48 77 ++ leBytes 4 0 ++ leBytes 4 0 ++ leBytes 8 7 ++ leBytes 8 7 ++ leBytes 8 0 ++ leBytes 40 0)), .mp, 1045553, (leBytes 7 0 ++ [1] ++ leBytes 48 77 ++ leBytes 4 0 ++ leBytes 4 0 ++ leBytes 8 7 ++ leBytes 8 7 ++ leBytes 8 0 ++ leBytes 40 0), by decide +kernel⟩,
   ⟨st { awake with unlocks := [.mp] }, .mp, by decide +kernel⟩⟩

theorem witness_ContextChanges_4 :
    (∃ (s : State) (c : Code) (reason idx : Nat), s.ready = true ∧ s.dev.on Reg.CLK_STS_ROOT_LOCK = true ∧ s.dev.ctx.op = some (c, reason, idx)) ∧
    (∃ (s : State) (who : Who), s.ready = true ∧ s.dev.takes who Reg.CTX_CTL_COMMIT = true ∧ s.dev.on Reg.CTX_STS_IN_USE = true ∧ s.dev.ctx.commitDue = false ∧ s.dev.on Reg.CTX_STS_CLEANUP = false ∧ s.dev.ctx.sweep = false) :=
  ⟨⟨st { fields [(Reg.CTX_STS_BUSY, 1)] awake with ctx := { op := some (.ok, 0, 77) } }, Code.ok, 0, 77, by decide +kernel⟩,
   ⟨st (fields [(Reg.CTX_STS_IN_USE, 1)] { awake with unlocks := [.mp] }), .mp, by decide +kernel⟩⟩

theorem witness_ContextChanges_5 :
    (∃ (s : State), s.live = true ∧ s.dev.on Reg.CLK_STS_ROOT_LOCK = true ∧ s.dev.ctx.commitDue = true) ∧
    (∃ (s : State), s.ready = true ∧ s.dev.on Reg.CLK_STS_ROOT_LOCK = true ∧ s.dev.on Reg.CTX_STS_CLEANUP = true) :=
  ⟨⟨st { fields [(Reg.CTX_STS_IN_USE, 1), (Reg.CTX_STS_ENG_LIVE, 7), (Reg.CTX_STS_ENG_MAP, 0xE4), (Reg.CTX_ENG_MAP_SHADOW, 0x1B)] awake with ctx := { commitDue := true } }, by decide +kernel⟩,
   ⟨st { fields [(Reg.CTX_STS_IN_USE, 1), (Reg.CTX_STS_COMMITTED, 1), (Reg.CTX_STS_CLEANUP, 1)] awake with ctx := { staged := [9] } }, by decide +kernel⟩⟩

theorem witness_ContextChanges_6 :
    ∃ (s : State) (who : Who), s.ready = true ∧ s.dev.takes who Reg.CTX_CTL_DISCARD = true ∧ s.dev.ctxBusy = false :=
  ⟨st (fields [(Reg.CTX_STS_IN_USE, 1)] { awake with unlocks := [.mp] }), .mp, by decide +kernel⟩

theorem witness_ContextStore_1 :
    (∃ (s : State) (who : Who), s.ready = true ∧ s.dev.takes who Reg.CTX_CTL_INIT = true ∧ s.dev.on Reg.CTX_STS_BUSY = false ∧ s.dev.ctx.commitDue = false ∧ s.dev.on Reg.CTX_STS_CLEANUP = false) ∧
    (∃ (s : State) (kb : Fin 4), s.ready = true ∧ s.dev.on Reg.CLK_STS_ROOT_LOCK = true ∧ s.dev.ctx.init = some kb.val) :=
  ⟨⟨st { fields [(Reg.CTX_STS_IN_USE, 1), (Reg.CTX_CTL_KEY_BITS, 3)] awake with unlocks := [.mp], ctx := { staged := [9] } }, .mp, by decide +kernel⟩,
   ⟨st { fields [(Reg.CTX_STS_BUSY, 1)] awake with ctx := { init := some 3 }, cells := [(cellKey (.dram 31) 0x8000005, 0x155)] }, (3 : Fin 4), by decide +kernel⟩⟩

theorem witness_ContextStore_2 :
    (∃ (s : State) (who : Who), s.ready = true ∧ s.dev.takes who Reg.CTX_CTL_SWEEP = true ∧ s.dev.ctxBusy = false ∧ s.dev.ctx.staged = []) ∧
    (∃ (s : State), s.ready = true ∧ s.dev.on Reg.CLK_STS_ROOT_LOCK = true ∧ s.dev.ctx.sweep = true) :=
  ⟨⟨st (fields [(Reg.CTX_STS_IN_USE, 1)] { awake with unlocks := [.mp] }), .mp, by decide +kernel⟩,
   ⟨st { fields [(Reg.CTX_STS_IN_USE, 1), (Reg.CTX_STS_BUSY, 1), (Reg.CTX_CTL_REPORT_ONLY, 0)] awake with ctx := { sweep := true }, cells := [(cellKey (.dram 31) 0x8000007, 0x301)] }, by decide +kernel⟩⟩

theorem witness_ContextStore_3 :
    (∃ (s : State) (who : Who), s.ready = true ∧ s.dev.takes who Reg.CTX_CTL_ABORT = true ∧ s.dev.ctx.sweep = true) ∧
    (∃ (s : State) (who : Who), s.ready = true ∧ s.dev.takes who Reg.CTX_CTL_ABORT = true ∧ s.dev.ctx.sweep = false ∧ s.dev.on Reg.CTX_STS_IN_USE = true) :=
  ⟨⟨st { fields [(Reg.CTX_STS_IN_USE, 1), (Reg.CTX_STS_BUSY, 1)] awake with unlocks := [.mp], ctx := { sweep := true } }, .mp, by decide +kernel⟩,
   ⟨st { fields [(Reg.CTX_STS_IN_USE, 1)] awake with unlocks := [.mp] }, .mp, by decide +kernel⟩⟩

theorem witness_ContextStore_4 :
    (∃ (s : State) (who : Who) (mask : BitVec 4), s.ready = true ∧ s.dev.takesWrite who Reg.CTX_ENG_RETIRE (mask.setWidth 32) = true ∧ mask ≠ 0) ∧
    (∃ (s : State) (mask : BitVec 4), s.ready = true ∧ mask ≠ 0 ∧ (∀ e : Fin 4, mask.toNat.testBit e.val = true → s.dev.bit Reg.CTX_STS_ENG_LIVE e.val = false)) :=
  ⟨⟨st (fields [(Reg.CTX_STS_ENG_LIVE, 15)] { awake with unlocks := [.mp] }), .mp, 6, by decide +kernel⟩,
   ⟨up [(Reg.CTX_STS_ENG_LIVE, 9)], 6, by decide +kernel⟩⟩

theorem witness_ContextStore_5 :
    ∃ (s : State) (e : Fin 4), s.live = true ∧ s.dev.on Reg.CLK_STS_ROOT_LOCK = true ∧ s.dev.bit Reg.CTX_STS_ENG_LIVE e.val = true :=
  ⟨up [(Reg.CTX_STS_ENG_LIVE, 9), (Reg.CTX_STS_ENG_MAP, 0xE4)], (3 : Fin 4), by decide +kernel⟩

theorem witness_LaneControl_1 :
    (∃ (s : State) (who : Who) (lane : LaneId) (x : Word), s.ready = true ∧ s.dev.takesWrite who lane.base x = true ∧ (cmdBits lane.base x).isEmpty = true ∧ lane.isPort = false ∧ s.dev.lanePowered lane = true ∧ s.dev.lstate lane = 0 ∧ fieldOf x 0 1 = 1) ∧
    (∃ (s : State) (who : Who) (lane : LaneId) (x : Word), s.ready = true ∧ s.dev.takesWrite who lane.base x = true ∧ (cmdBits lane.base x).isEmpty = true ∧ lane.isPort = false ∧ s.dev.lanePowered lane = true ∧ s.dev.laneRunning lane = true ∧ fieldOf x 0 1 = 0) ∧
    (∃ (s : State) (who : Who) (lane : LaneId) (x : Word), s.ready = true ∧ s.dev.takesWrite who lane.base x = true ∧ (cmdBits lane.base x).isEmpty = true ∧ lane.isPort = false ∧ s.dev.lanePowered lane = true ∧ s.dev.laneRunning lane = true ∧ fieldOf x 0 1 = 1 ∧ (fieldOf x 1 10 ≠ fieldOf (s.dev.word lane.base) 1 10 ∨ fieldOf x 14 1 ≠ fieldOf (s.dev.word lane.base) 14 1)) ∧
    (∃ (s : State) (who : Who) (lane : LaneId) (x : Word), s.ready = true ∧ s.dev.takesWrite who lane.base x = true ∧ (cmdBits lane.base x).isEmpty = true ∧ (lane.isPort = true ∨ s.dev.lanePowered lane = false ∨ s.dev.lstate lane = 6 ∨ (s.dev.lstate lane ≠ 0 ∧ fieldOf x 0 1 = 1 ∧ fieldOf x 1 10 = fieldOf (s.dev.word lane.base) 1 10 ∧ fieldOf x 14 1 = fieldOf (s.dev.word lane.base) 14 1))) :=
  ⟨⟨st { fields [] awake with unlocks := [.mp] }, .mp, (.line 2 : LaneId), (withField ((st { fields [] awake with unlocks := [.mp] }).dev.word 0x0A0200) 0 1 1), by decide +kernel⟩,
   ⟨st { fields [((.line 2 : LaneId).fld 0x0 0 1, 1), ((.line 2 : LaneId).fld 0x28 0 3, 4)] awake with unlocks := [.mp] }, .mp, (.line 2 : LaneId), (withField ((st { fields [((.line 2 : LaneId).fld 0x0 0 1, 1), ((.line 2 : LaneId).fld 0x28 0 3, 4)] awake with unlocks := [.mp] }).dev.word 0x0A0200) 0 1 0), by decide +kernel⟩,
   ⟨st { fields [((.line 2 : LaneId).fld 0x0 0 1, 1), ((.line 2 : LaneId).fld 0x28 0 3, 4)] awake with unlocks := [.mp] }, .mp, (.line 2 : LaneId), (withField ((st { fields [((.line 2 : LaneId).fld 0x0 0 1, 1), ((.line 2 : LaneId).fld 0x28 0 3, 4)] awake with unlocks := [.mp] }).dev.word 0x0A0200) 14 1 0), by decide +kernel⟩,
   ⟨st { fields [((.line 2 : LaneId).fld 0x0 0 1, 1), ((.line 2 : LaneId).fld 0x28 0 3, 4)] awake with unlocks := [.mp] }, .mp, (.line 2 : LaneId), (withField ((st { fields [((.line 2 : LaneId).fld 0x0 0 1, 1), ((.line 2 : LaneId).fld 0x28 0 3, 4)] awake with unlocks := [.mp] }).dev.word 0x0A0200) 13 1 1), by decide +kernel⟩⟩

theorem witness_LaneControl_2 :
    (∃ (s : State) (who : Who) (lane : LaneId), s.ready = true ∧ s.dev.takesField who lane.FREEZE 1 = true ∧ s.dev.on lane.FREEZE = false ∧ (lane.isPort = true ∨ s.dev.on lane.EN = true) ∧ (s.dev.lstate lane = 3 ∨ s.dev.lstate lane = 4) ∧ (s.dev.laneSt lane).step = none ∧ s.dev.ctl (lane.fld 0x24 0 8) ≤ s.dev.get lane.EQF) ∧
    (∃ (s : State) (who : Who) (lane : LaneId) (k : LaneStep), s.ready = true ∧ s.dev.takesField who lane.FREEZE 1 = true ∧ s.dev.on lane.FREEZE = false ∧ (lane.isPort = true ∨ s.dev.on lane.EN = true) ∧ (s.dev.lstate lane = 3 ∨ s.dev.lstate lane = 4) ∧ (s.dev.laneSt lane).step = some k ∧ s.dev.ctl (lane.fld 0x24 0 8) ≤ s.dev.get lane.EQF) ∧
    (∃ (s : State) (who : Who) (lane : LaneId), s.ready = true ∧ s.dev.takesField who lane.FREEZE 0 = true ∧ s.dev.on lane.FREEZE = true ∧ (lane.isPort = true ∨ s.dev.on lane.EN = true) ∧ s.dev.lstate lane = 5) ∧
    (∃ (s : State) (who : Who) (lane : LaneId), s.ready = true ∧ s.dev.takes who (lane.fld 0 17 1) = true ∧ (lane.isPort = true ∨ s.dev.on lane.EN = true) ∧ s.dev.laneRunning lane = true) :=
  ⟨⟨st { fields [((.line 2 : LaneId).fld 0x0 0 1, 1), ((.line 2 : LaneId).fld 0x28 0 3, 4), ((.line 2 : LaneId).fld 0x28 8 8, 255)] awake with unlocks := [.mp] }, .mp, (.line 2 : LaneId), by decide +kernel⟩,
   ⟨st { fields [((.line 2 : LaneId).fld 0x0 0 1, 1), ((.line 2 : LaneId).fld 0x28 0 3, 4), ((.line 2 : LaneId).fld 0x28 8 8, 255)] awake with unlocks := [.mp], lanes := [(2, { step := some ⟨3, 1, 9, none⟩ })] }, .mp, (.line 2 : LaneId), (⟨3, 1, 9, none⟩ : LaneStep), by decide +kernel⟩,
   ⟨st { fields [((.line 2 : LaneId).fld 0x0 0 1, 1), ((.line 2 : LaneId).fld 0x28 0 3, 5), ((.line 2 : LaneId).fld 0x0 15 1, 1)] awake with unlocks := [.mp] }, .mp, (.line 2 : LaneId), by decide +kernel⟩,
   ⟨st { fields [((.line 2 : LaneId).fld 0x0 0 1, 1), ((.line 2 : LaneId).fld 0x28 0 3, 4)] awake with unlocks := [.mp] }, .mp, (.line 2 : LaneId), by decide +kernel⟩⟩

theorem witness_LaneControl_3 :
    (∃ (s : State) (who : Who) (lane : LaneId), s.ready = true ∧ s.dev.takes who (lane.fld 0 18 1) = true ∧ s.dev.lstate lane ≠ 6) ∧
    (∃ (s : State) (who : Who) (lane : LaneId), s.ready = true ∧ s.dev.takes who (lane.fld 0 16 1) = true ∧ lane.isPort = false ∧ s.dev.lstate lane = 5 ∧ s.dev.on lane.EN = true ∧ s.dev.on lane.FREEZE = true ∧ s.dev.on lane.AUTO_ALIGN = false ∧ s.dev.laneAwake lane = true ∧ s.dev.on lane.SLIP_BUSY = false) ∧
    (∃ (s : State) (who : Who) (lane : LaneId), s.ready = true ∧ s.dev.takes who (lane.fld 0 16 1) = true ∧ lane.isPort = false ∧ s.dev.lstate lane ≠ 5) ∧
    (∃ (s : State) (lane : LaneId), s.ready = true ∧ s.dev.on lane.SLIP_BUSY = true ∧ s.dev.laneAwake lane = true) :=
  ⟨⟨st { fields [((.line 2 : LaneId).fld 0x0 0 1, 1), ((.line 2 : LaneId).fld 0x28 0 3, 4)] awake with unlocks := [.mp], lanes := [(2, { fails := 3, out := some .idle })] }, .mp, (.line 2 : LaneId), by decide +kernel⟩,
   ⟨st { fields [((.line 2 : LaneId).fld 0x0 0 1, 1), ((.line 2 : LaneId).fld 0x28 0 3, 5), ((.line 2 : LaneId).fld 0x0 15 1, 1), ((.line 2 : LaneId).fld 0x0 13 1, 0)] awake with unlocks := [.mp] }, .mp, (.line 2 : LaneId), by decide +kernel⟩,
   ⟨st { fields [((.line 2 : LaneId).fld 0x0 0 1, 1), ((.line 2 : LaneId).fld 0x28 0 3, 4)] awake with unlocks := [.mp] }, .mp, (.line 2 : LaneId), by decide +kernel⟩,
   ⟨st { fields [((.line 2 : LaneId).fld 0x0 0 1, 1), ((.line 2 : LaneId).fld 0x28 0 3, 5), ((.line 2 : LaneId).fld 0x0 5 1, 1), ((.line 2 : LaneId).fld 0x28 16 1, 1)] awake with unlocks := [.mp], lanes := [(2, { bound := 511 })] }, (.line 2 : LaneId), by decide +kernel⟩⟩

theorem witness_LaneAcquisition_1 :
    (∃ (s : State) (who : Who) (quad : Fin 32), s.ready = true ∧ s.dev.takesWrite who (Dev.pllApply quad.val 0).off 1 = true ∧ s.dev.word (Dev.pllApply quad.val 0).off = 0 ∧ pllInRange quad.val (s.dev.get (pllFld quad.val 0 0 32 true)) = true ∧ ((lanesOf quad.val).filter (fun (l : LaneId) => s.dev.get l.PLL_SEL == 0)).all (fun (l : LaneId) => !s.dev.on l.EN || rateInRange l.isLine (s.dev.get (pllFld quad.val 0 0 32 true)) (s.dev.get l.DIV) (s.dev.lanePam4 l)) = true) ∧
    (∃ (s : State) (who : Who) (quad : Fin 32), s.ready = true ∧ s.dev.takesWrite who (Dev.pllApply quad.val 0).off 1 = true ∧ s.dev.word (Dev.pllApply quad.val 0).off = 0 ∧ pllInRange quad.val (s.dev.get (pllFld quad.val 0 0 32 true)) = false) ∧
    (∃ (s : State) (who : Who) (quad : Fin 32), s.ready = true ∧ s.dev.takesWrite who (Dev.pllApply quad.val 1).off 2 = true ∧ s.dev.word (Dev.pllApply quad.val 1).off = 0 ∧ pllInRange quad.val (s.dev.get (pllFld quad.val 4 0 32 true)) = true ∧ ((lanesOf quad.val).filter (fun (l : LaneId) => s.dev.get l.PLL_SEL == 1)).all (fun (l : LaneId) => !s.dev.on l.EN || rateInRange l.isLine (s.dev.get (pllFld quad.val 4 0 32 true)) (s.dev.get l.DIV) (s.dev.lanePam4 l)) = true) ∧
    (∃ (s : State) (who : Who) (quad : Fin 32), s.ready = true ∧ s.dev.takesWrite who (Dev.pllApply quad.val 1).off 2 = true ∧ s.dev.word (Dev.pllApply quad.val 1).off = 0 ∧ pllInRange quad.val (s.dev.get (pllFld quad.val 4 0 32 true)) = false) :=
  ⟨⟨st { fields [(pllFld 0 0 0 32 true, 56250000), ((.line 2 : LaneId).fld 0x0 1 1, 0), ((.line 2 : LaneId).fld 0x28 0 3, 4), ((.line 2 : LaneId).fld 0x0 0 1, 1)] awake with unlocks := [.mp] }, .mp, (0 : Fin 32), by decide +kernel⟩,
   ⟨st { fields [(pllFld 31 0 0 32 true, 32000001)] awake with unlocks := [.mp] }, .mp, (31 : Fin 32), by decide +kernel⟩,
   ⟨st { fields [(pllFld 0 4 0 32 true, 56250000), ((.line 2 : LaneId).fld 0x0 1 1, 1), ((.line 2 : LaneId).fld 0x28 0 3, 4), ((.line 2 : LaneId).fld 0x0 0 1, 1)] awake with unlocks := [.mp] }, .mp, (0 : Fin 32), by decide +kernel⟩,
   ⟨st { fields [(pllFld 31 4 0 32 true, 32000001)] awake with unlocks := [.mp] }, .mp, (31 : Fin 32), by decide +kernel⟩⟩

theorem witness_LaneAcquisition_2 :
    (∃ (s : State) (lane : LaneId), s.ready = true ∧ s.dev.lstate lane = 1 ∧ s.dev.laneAwake lane = true ∧ s.dev.on Reg.CLK_STS_ROOT_LOCK = true ∧ lane.isPort = false) ∧
    (∃ (s : State) (lane : LaneId), s.ready = true ∧ s.dev.lstate lane = 1 ∧ s.dev.laneAwake lane = true ∧ s.dev.on Reg.CLK_STS_ROOT_LOCK = true ∧ lane.isPort = true) ∧
    (∃ (s : State) (lane : LaneId), s.ready = true ∧ s.dev.lstate lane = 2 ∧ s.dev.laneAwake lane = true ∧ s.dev.ctlOn lane.FREEZE = false) ∧
    (∃ (s : State) (lane : LaneId), s.ready = true ∧ s.dev.lstate lane = 2 ∧ s.dev.laneAwake lane = true ∧ s.dev.ctlOn lane.FREEZE = true) :=
  ⟨⟨st { fields [((.line 2 : LaneId).fld 0x0 0 1, 1), ((.line 2 : LaneId).fld 0x28 0 3, 1)] awake with unlocks := [.mp] }, (.line 2 : LaneId), by decide +kernel⟩,
   ⟨up [((.port 5 : LaneId).STATE, 1)], (.port 5 : LaneId), by decide +kernel⟩,
   ⟨st { fields [((.line 2 : LaneId).fld 0x0 0 1, 1), ((.line 2 : LaneId).fld 0x28 0 3, 2)] awake with unlocks := [.mp] }, (.line 2 : LaneId), by decide +kernel⟩,
   ⟨st { fields [((.line 2 : LaneId).fld 0x0 0 1, 1), ((.line 2 : LaneId).fld 0x28 0 3, 2), ((.line 2 : LaneId).fld 0x0 15 1, 1)] awake with unlocks := [.mp] }, (.line 2 : LaneId), by decide +kernel⟩⟩

theorem witness_LaneAcquisition_3 :
    (∃ (s : State) (lane : LaneId) (acq : Bool), s.ready = true ∧ 2 ≤ s.dev.lstate lane ∧ s.dev.lstate lane ≤ 5 ∧ s.dev.laneAwake lane = true ∧ (acq = false ∨ s.dev.lstate lane ≠ 3 ∨ (s.dev.laneSt lane).fails < 7 ∨ s.dev.ctlOn (lane.fld 0x24 24 1) = false)) ∧
    (∃ (s : State) (lane : LaneId), s.ready = true ∧ s.dev.lstate lane = 3 ∧ s.dev.laneAwake lane = true ∧ 7 ≤ (s.dev.laneSt lane).fails ∧ s.dev.ctlOn (lane.fld 0x24 24 1) = true) ∧
    (∃ (s : State) (lane : LaneId), s.ready = true ∧ 3 ≤ s.dev.lstate lane ∧ s.dev.lstate lane ≤ 5 ∧ s.dev.laneAwake lane = true) ∧
    (∃ (s : State) (lane : LaneId), s.ready = true ∧ s.dev.laneAwake lane = true ∧ (s.dev.lstate lane < 3 ∨ 5 < s.dev.lstate lane)) :=
  ⟨⟨st { fields [((.line 2 : LaneId).fld 0x0 0 1, 1), ((.line 2 : LaneId).fld 0x28 0 3, 3), ((.line 2 : LaneId).fld 0x28 16 1, 1), ((.line 2 : LaneId).fld 0x28 8 8, 9)] awake with unlocks := [.mp], lanes := [(2, { fails := 7 })] }, (.line 2 : LaneId), false, by decide +kernel⟩,
   ⟨st { fields [((.line 2 : LaneId).fld 0x0 0 1, 1), ((.line 2 : LaneId).fld 0x28 0 3, 3), ((.line 2 : LaneId).fld 0x24 24 1, 1)] awake with unlocks := [.mp], lanes := [(2, { fails := 7 })] }, (.line 2 : LaneId), by decide +kernel⟩,
   ⟨st { fields [((.line 2 : LaneId).fld 0x0 0 1, 1), ((.line 2 : LaneId).fld 0x28 0 3, 5), ((.line 2 : LaneId).fld 0x0 5 1, 0), ((.line 2 : LaneId).fld 0x24 0 8, 200)] awake with unlocks := [.mp] }, (.line 2 : LaneId), by decide +kernel⟩,
   ⟨st { fields [((.line 2 : LaneId).fld 0x0 0 1, 1), ((.line 2 : LaneId).fld 0x28 0 3, 2), ((.line 2 : LaneId).fld 0x28 8 8, 9)] awake with unlocks := [.mp] }, (.line 2 : LaneId), by decide +kernel⟩⟩

theorem witness_LaneAcquisition_4 :
    (∃ (s : State) (lane : LaneId), s.ready = true ∧ (s.dev.lstate lane = 3 ∨ s.dev.lstate lane = 4) ∧ s.dev.laneAwake lane = true ∧ (s.dev.laneSt lane).step = none ∧ (s.dev.laneSt lane).freezeDue = false ∧ (List.range (Dev.laneTaps lane)).all (s.dev.laneSt lane).tried.contains = false) ∧
    (∃ (s : State) (lane : LaneId) (k : LaneStep) (e : Nat), s.ready = true ∧ (s.dev.lstate lane = 3 ∨ s.dev.lstate lane = 4) ∧ s.dev.laneAwake lane = true ∧ (s.dev.laneSt lane).step = some k ∧ k.next = some e) ∧
    (∃ (s : State) (lane : LaneId), s.ready = true ∧ s.dev.lstate lane = 3 ∧ s.dev.laneAwake lane = true ∧ ((s.dev.laneSt lane).fails + 1 < 8 ∨ s.dev.ctlOn (lane.fld 0x24 24 1) = false) ∧ (s.dev.laneSt lane).freezeDue = false) ∧
    (∃ (s : State) (lane : LaneId), s.ready = true ∧ s.dev.lstate lane = 4 ∧ s.dev.laneAwake lane = true ∧ s.dev.get lane.EQF < s.dev.ctl (lane.fld 0x24 0 8) ∧ s.dev.ctlOn lane.FREEZE = false) :=
  ⟨⟨up [((.heritage 9 : LaneId).STATE, 3)], (.heritage 9 : LaneId), by decide +kernel⟩,
   ⟨st { fields [((.line 2 : LaneId).fld 0x0 0 1, 1), ((.line 2 : LaneId).fld 0x28 0 3, 4)] awake with unlocks := [.mp], lanes := [(2, { step := some ⟨3, 1, 9, some 8⟩ })] }, (.line 2 : LaneId), (⟨3, 1, 9, some 8⟩ : LaneStep), 8, by decide +kernel⟩,
   ⟨st { fields [((.line 2 : LaneId).fld 0x0 0 1, 1), ((.line 2 : LaneId).fld 0x28 0 3, 3)] awake with unlocks := [.mp] }, (.line 2 : LaneId), by decide +kernel⟩,
   ⟨st { fields [((.line 2 : LaneId).fld 0x0 0 1, 1), ((.line 2 : LaneId).fld 0x28 0 3, 4), ((.line 2 : LaneId).fld 0x24 0 8, 9)] awake with unlocks := [.mp] }, (.line 2 : LaneId), by decide +kernel⟩⟩

theorem witness_LaneData_1 :
    (∃ (s : State) (lane : LaneId) (errors : Nat), s.ready = true ∧ 3 ≤ s.dev.lstate lane ∧ s.dev.lstate lane ≤ 5 ∧ s.dev.laneAwake lane = true ∧ (s.dev.laneCoder lane = 1 ∨ s.dev.laneCoder lane = 2) ∧ s.dev.on lane.ALIGNED = false ∧ (s.dev.ctlOn lane.AUTO_ALIGN = true ∨ lane.isPort = true) ∧ errors ≤ (if s.dev.laneCoder lane = 2 then 7 else 15) ∧ 7 ≤ (s.dev.laneSt lane).good) ∧
    (∃ (s : State) (lane : LaneId) (errors : Nat), s.ready = true ∧ 3 ≤ s.dev.lstate lane ∧ s.dev.lstate lane ≤ 5 ∧ s.dev.laneAwake lane = true ∧ (s.dev.laneCoder lane = 1 ∨ s.dev.laneCoder lane = 2) ∧ s.dev.on lane.ALIGNED = true ∧ lane.isPort = false ∧ (if s.dev.laneCoder lane = 2 then 7 else 15) < errors ∧ 3 ≤ (s.dev.laneSt lane).bad) ∧
    (∃ (s : State) (lane : LaneId) (errors : Nat), s.ready = true ∧ 3 ≤ s.dev.lstate lane ∧ s.dev.lstate lane ≤ 5 ∧ s.dev.laneAwake lane = true ∧ (s.dev.laneCoder lane = 1 ∨ s.dev.laneCoder lane = 2) ∧ s.dev.on lane.ALIGNED = true ∧ 0 < errors ∧ errors ≤ (if s.dev.laneCoder lane = 2 then 7 else 15)) ∧
    (∃ (s : State) (lane : LaneId), s.ready = true ∧ 3 ≤ s.dev.lstate lane ∧ s.dev.lstate lane ≤ 5 ∧ s.dev.laneAwake lane = true ∧ s.dev.laneCoder lane = 4 ∧ s.dev.on lane.ALIGNED = false ∧ 63 ≤ (s.dev.laneSt lane).good) :=
  ⟨⟨st { fields [((.line 2 : LaneId).STATE, 4), ((.line 2 : LaneId).AUTO_ALIGN, 1), ((.line 2 : LaneId).CODER, 2)] awake with lanes := [(2, { good := 7 })] }, (.line 2 : LaneId), 7, by decide +kernel⟩,
   ⟨st { fields [((.line 2 : LaneId).STATE, 4), ((.line 2 : LaneId).ALIGNED, 1), ((.line 2 : LaneId).CODER, 1)] awake with lanes := [(2, { bad := 3 })] }, (.line 2 : LaneId), 16, by decide +kernel⟩,
   ⟨st { fields [((.line 2 : LaneId).STATE, 4), ((.line 2 : LaneId).ALIGNED, 1), ((.line 2 : LaneId).CODER, 1)] awake with lanes := [(2, { bad := 3 })] }, (.line 2 : LaneId), 15, by decide +kernel⟩,
   ⟨st { fields [((.heritage 2 : LaneId).STATE, 4), ((.heritage 2 : LaneId).CODER, 4)] awake with lanes := [(66, { good := 63 })] }, (.heritage 2 : LaneId), by decide +kernel⟩⟩

theorem witness_LaneData_2 :
    (∃ (s : State) (lane : LaneId), s.ready = true ∧ 3 ≤ s.dev.lstate lane ∧ s.dev.lstate lane ≤ 5 ∧ s.dev.laneAwake lane = true ∧ s.dev.laneCoder lane = 3) ∧
    (∃ (s : State) (lane : LaneId) (taken : Nat), s.ready = true ∧ lane.isPort = false ∧ 3 ≤ s.dev.lstate lane ∧ s.dev.lstate lane ≤ 5 ∧ s.dev.laneAwake lane = true ∧ s.dev.laneOpen lane = true ∧ s.dev.laneClocked lane = true ∧ s.dev.ctl lane.CHK = 0 ∧ s.dev.on lane.CHK_LOCKED = false ∧ s.dev.on lane.ALIGNED = true ∧ ((s.dev.laneSt lane).rx.drop taken).length < 64 ∧ s.dev.laneCoder lane ≠ 3 ∧ s.dev.laneCoder lane ≠ 4) ∧
    (∃ (s : State) (lane : LaneId), s.ready = true ∧ lane.isPort = false ∧ 3 ≤ s.dev.lstate lane ∧ s.dev.lstate lane ≤ 5 ∧ s.dev.laneAwake lane = true ∧ s.dev.laneOpen lane = true ∧ s.dev.laneClocked lane = false ∧ s.dev.on lane.CHK_LOCKED = false ∧ s.dev.on lane.ALIGNED = true ∧ (s.dev.laneSt lane).rx.length < 64 ∧ s.dev.laneCoder lane ≠ 3 ∧ s.dev.laneCoder lane ≠ 4) ∧
    (∃ (s : State) (lane : LaneId), s.ready = true ∧ lane.isPort = false ∧ 3 ≤ s.dev.lstate lane ∧ s.dev.lstate lane ≤ 5 ∧ s.dev.laneAwake lane = true ∧ s.dev.on lane.CHK_LOCKED = false ∧ s.dev.on lane.ALIGNED = true ∧ (64 ≤ (s.dev.laneSt lane).rx.length ∨ s.dev.laneOpen lane = false) ∧ s.dev.laneCoder lane ≠ 3 ∧ s.dev.laneCoder lane ≠ 4) :=
  ⟨⟨st { fields [((.heritage 2 : LaneId).STATE, 4), ((.heritage 2 : LaneId).CODER, 3)] awake with lanes := [(66, { align := 5 })] }, (.heritage 2 : LaneId), by decide +kernel⟩,
   ⟨st { fields [((.line 2 : LaneId).STATE, 4), ((.line 2 : LaneId).ALIGNED, 1), (Reg.RGN_STS_STATE 0, 1), (Reg.FF_STS_HOLD 0, 0), (Reg.RING_CTL_EN 0, 1)] awake with lanes := [(2, { rx := List.replicate 64 {} })], frames := [(3629, 0x510000)], rgn := [(0, { gateOpen := true })] }, (.line 2 : LaneId), 1, by decide +kernel⟩,
   ⟨st { fields [((.line 2 : LaneId).STATE, 4), ((.line 2 : LaneId).ALIGNED, 1), (Reg.RGN_STS_STATE 0, 1), (Reg.FF_STS_HOLD 0, 0)] awake with lanes := [(2, { rx := List.replicate 60 {} })], frames := [(3629, 0x510000)], rgn := [(0, { gateOpen := true })] }, (.line 2 : LaneId), by decide +kernel⟩,
   ⟨st { fields [((.line 2 : LaneId).STATE, 4), ((.line 2 : LaneId).ALIGNED, 1)] awake with lanes := [(2, { rx := List.replicate 64 {} })] }, (.line 2 : LaneId), by decide +kernel⟩⟩

theorem witness_LaneData_3 :
    (∃ (s : State) (lane : LaneId), s.ready = true ∧ lane.isPort = false ∧ 3 ≤ s.dev.lstate lane ∧ s.dev.lstate lane ≤ 5 ∧ s.dev.laneAwake lane = true ∧ s.dev.on lane.CHK_LOCKED = true ∧ s.dev.on lane.ALIGNED = false ∧ s.dev.ctl lane.CHK ≠ 0) ∧
    (∃ (s : State) (lane : LaneId) (w : LaneWord) (rest : List LaneWord), s.ready = true ∧ s.dev.on Reg.CLK_STS_ROOT_LOCK = true ∧ lane.isPort = false ∧ 2 ≤ s.dev.lstate lane ∧ s.dev.lstate lane ≤ 5 ∧ s.dev.laneAwake lane = true ∧ s.dev.ctl lane.GEN = 0 ∧ (s.dev.laneSt lane).tx = w :: rest) ∧
    (∃ (s : State) (lane : LaneId), s.ready = true ∧ s.dev.on Reg.CLK_STS_ROOT_LOCK = true ∧ lane.isPort = false ∧ 2 ≤ s.dev.lstate lane ∧ s.dev.lstate lane ≤ 5 ∧ s.dev.laneAwake lane = true ∧ s.dev.ctl lane.GEN = 0 ∧ (s.dev.laneSt lane).tx = []) ∧
    (∃ (s : State) (lane : LaneId), s.ready = true ∧ s.dev.on Reg.CLK_STS_ROOT_LOCK = true ∧ lane.isPort = false ∧ 2 ≤ s.dev.lstate lane ∧ s.dev.lstate lane ≤ 5 ∧ s.dev.laneAwake lane = true ∧ s.dev.ctl lane.GEN ≠ 0) :=
  ⟨⟨st { fields [((.line 2 : LaneId).fld 0x0 0 1, 1), ((.line 2 : LaneId).fld 0x28 0 3, 4), ((.line 2 : LaneId).fld 0x28 7 1, 1), ((.line 2 : LaneId).fld 0x30 4 4, 3)] awake with unlocks := [.mp] }, (.line 2 : LaneId), by decide +kernel⟩,
   ⟨st { fields [((.line 2 : LaneId).fld 0x0 0 1, 1), ((.line 2 : LaneId).fld 0x28 0 3, 4)] awake with unlocks := [.mp], lanes := [(2, { tx := [{ data := 77, hdr := 1 }], inj := 2, injLeft := 3 })] }, (.line 2 : LaneId), ({ data := 77, hdr := 1 } : LaneWord), ([] : List LaneWord), by decide +kernel⟩,
   ⟨st { fields [((.line 2 : LaneId).fld 0x0 0 1, 1), ((.line 2 : LaneId).fld 0x28 0 3, 4)] awake with unlocks := [.mp] }, (.line 2 : LaneId), by decide +kernel⟩,
   ⟨st { fields [((.line 2 : LaneId).fld 0x0 0 1, 1), ((.line 2 : LaneId).fld 0x28 0 3, 4), ((.line 2 : LaneId).fld 0x30 0 4, 1)] awake with unlocks := [.mp], lanes := [(2, { gen := 1 })] }, (.line 2 : LaneId), by decide +kernel⟩⟩

theorem witness_LaneData_4 :
    (∃ (s : State) (who : Who) (lane : LaneId) (x : Word), s.ready = true ∧ s.dev.takesWrite who (lane.base + 0x30) x = true ∧ fieldOf x 0 4 = fieldOf (s.dev.word (lane.base + 0x30)) 0 4) ∧
    (∃ (s : State) (who : Who) (lane : LaneId) (x : Word), s.ready = true ∧ s.dev.takesWrite who (lane.base + 0x30) x = true ∧ fieldOf x 0 4 ≠ fieldOf (s.dev.word (lane.base + 0x30)) 0 4 ∧ fieldOf x 0 4 ≠ 0) ∧
    (∃ (s : State) (lane : LaneId), s.ready = true ∧ 3 ≤ s.dev.lstate lane ∧ s.dev.lstate lane ≤ 5 ∧ s.dev.laneAwake lane = true ∧ s.dev.ctl lane.CHK ≠ 0) ∧
    (∃ (s : State) (who : Who) (lane : LaneId), s.ready = true ∧ s.dev.takes who (lane.fld 0x44 15 1) = true ∧ s.dev.portTestDenied lane = false ∧ s.dev.lstate lane ≠ 0 ∧ s.dev.lstate lane ≠ 6 ∧ (s.dev.laneSt lane).inj = 0 ∧ (s.dev.get (lane.fld 0x44 0 2) = 1 ∨ s.dev.get (lane.fld 0x44 0 2) = 2)) :=
  ⟨⟨st { fields [((.line 2 : LaneId).fld 0x0 0 1, 1), ((.line 2 : LaneId).fld 0x28 0 3, 4), ((.line 2 : LaneId).fld 0x28 7 1, 1)] awake with unlocks := [.mp] }, .mp, (.line 2 : LaneId), 0x30#32, by decide +kernel⟩,
   ⟨st { fields [((.line 2 : LaneId).fld 0x0 0 1, 1), ((.line 2 : LaneId).fld 0x28 0 3, 4), ((.line 2 : LaneId).fld 0x28 7 1, 1)] awake with unlocks := [.mp], lanes := [(2, { gen := 5 })] }, .mp, (.line 2 : LaneId), 0x38#32, by decide +kernel⟩,
   ⟨st { fields [((.line 2 : LaneId).fld 0x0 0 1, 1), ((.line 2 : LaneId).fld 0x28 0 3, 4), ((.line 2 : LaneId).fld 0x30 4 4, 3)] awake with unlocks := [.mp] }, (.line 2 : LaneId), by decide +kernel⟩,
   ⟨st { fields [((.line 2 : LaneId).fld 0x0 0 1, 1), ((.line 2 : LaneId).fld 0x28 0 3, 4), ((.line 2 : LaneId).fld 0x44 0 2, 2)] awake with unlocks := [.mp] }, .mp, (.line 2 : LaneId), by decide +kernel⟩⟩

theorem witness_LaneData_5 :
    (∃ (s : State) (who : Who) (lane : LaneId), s.ready = true ∧ s.dev.takes who (lane.fld 0x44 15 1) = true ∧ s.dev.portTestDenied lane = false ∧ s.dev.lstate lane ≠ 0 ∧ s.dev.lstate lane ≠ 6 ∧ (s.dev.laneSt lane).inj = 0 ∧ s.dev.get (lane.fld 0x44 0 2) = 3) ∧
    (∃ (s : State) (who : Who) (lane : LaneId), s.ready = true ∧ s.dev.takes who (lane.fld 0x44 15 1) = true ∧ s.dev.portTestDenied lane = false ∧ (s.dev.lstate lane = 0 ∨ s.dev.lstate lane = 6 ∨ (s.dev.laneSt lane).inj ≠ 0)) ∧
    (∃ (s : State) (lane : LaneId), s.ready = true ∧ ((s.dev.laneSt lane).inj = 1 ∨ (s.dev.laneSt lane).inj = 2)) :=
  ⟨⟨st { fields [((.line 2 : LaneId).fld 0x0 0 1, 1), ((.line 2 : LaneId).fld 0x28 0 3, 4), ((.line 2 : LaneId).fld 0x44 0 2, 3)] awake with unlocks := [.mp] }, .mp, (.line 2 : LaneId), by decide +kernel⟩,
   ⟨st { fields [((.line 2 : LaneId).fld 0x0 0 1, 1), ((.line 2 : LaneId).fld 0x28 0 3, 6), ((.line 2 : LaneId).fld 0x44 0 2, 2)] awake with unlocks := [.mp] }, .mp, (.line 2 : LaneId), by decide +kernel⟩,
   ⟨st { fields [((.line 2 : LaneId).fld 0x0 0 1, 1), ((.line 2 : LaneId).fld 0x28 0 3, 4), ((.line 2 : LaneId).fld 0x44 15 1, 1)] awake with unlocks := [.mp], lanes := [(2, { inj := 2 })] }, (.line 2 : LaneId), by decide +kernel⟩⟩

theorem witness_PowerDomains_1 :
    (∃ (s : State) (who : Who) (domain : Fin 256) (target fires : BitVec 2) (swap : Bool) (k : DomKind), s.ready = true ∧ s.dev.takesWrite who (Reg.DOM_CTL domain.val) (withField (withField (s.dev.word (Reg.DOM_CTL domain.val)) (Reg.DOM_CTL_TARGET domain.val).lsb (Reg.DOM_CTL_TARGET domain.val).w target.toNat) (Reg.DOM_CTL_GO domain.val).lsb (Reg.DOM_CTL_GO domain.val).w 1) = true ∧ domKind domain.val = some k ∧ s.dev.domState domain.val = 0 ∧ s.dev.domMoving domain.val = false ∧ target ≠ 0 ∧ s.dev.domReady k = true ∧ (swap = false ∨ (if ((s.dev.written who (Reg.DOM_CTL domain.val) (withField (withField (s.dev.word (Reg.DOM_CTL domain.val)) (Reg.DOM_CTL_TARGET domain.val).lsb (Reg.DOM_CTL_TARGET domain.val).w target.toNat) (Reg.DOM_CTL_GO domain.val).lsb (Reg.DOM_CTL_GO domain.val).w 1)).sourcesHit domain.val fires.toNat).testBit 0 then (s.dev.written who (Reg.DOM_CTL domain.val) (withField (withField (s.dev.word (Reg.DOM_CTL domain.val)) (Reg.DOM_CTL_TARGET domain.val).lsb (Reg.DOM_CTL_TARGET domain.val).w target.toNat) (Reg.DOM_CTL_GO domain.val).lsb (Reg.DOM_CTL_GO domain.val).w 1)).setDom domain.val { s.dev.domSt domain.val with timer := false } else (s.dev.written who (Reg.DOM_CTL domain.val) (withField (withField (s.dev.word (Reg.DOM_CTL domain.val)) (Reg.DOM_CTL_TARGET domain.val).lsb (Reg.DOM_CTL_TARGET domain.val).w target.toNat) (Reg.DOM_CTL_GO domain.val).lsb (Reg.DOM_CTL_GO domain.val).w 1))).swapWins k = false) ∧ ((s.dev.written who (Reg.DOM_CTL domain.val) (withField (withField (s.dev.word (Reg.DOM_CTL domain.val)) (Reg.DOM_CTL_TARGET domain.val).lsb (Reg.DOM_CTL_TARGET domain.val).w target.toNat) (Reg.DOM_CTL_GO domain.val).lsb (Reg.DOM_CTL_GO domain.val).w 1)).ctl (Reg.DOM_CTL_WAKE_EN domain.val) &&& k.sources) &&& ((s.dev.written who (Reg.DOM_CTL domain.val) (withField (withField (s.dev.word (Reg.DOM_CTL domain.val)) (Reg.DOM_CTL_TARGET domain.val).lsb (Reg.DOM_CTL_TARGET domain.val).w target.toNat) (Reg.DOM_CTL_GO domain.val).lsb (Reg.DOM_CTL_GO domain.val).w 1)).sourcesHit domain.val fires.toNat) = 0) ∧
    (∃ (s : State) (who : Who) (domain : Fin 256) (target fires : BitVec 2) (swap : Bool) (k : DomKind), s.ready = true ∧ s.dev.takesWrite who (Reg.DOM_CTL domain.val) (withField (withField (s.dev.word (Reg.DOM_CTL domain.val)) (Reg.DOM_CTL_TARGET domain.val).lsb (Reg.DOM_CTL_TARGET domain.val).w target.toNat) (Reg.DOM_CTL_GO domain.val).lsb (Reg.DOM_CTL_GO domain.val).w 1) = true ∧ domKind domain.val = some k ∧ s.dev.domState domain.val ≠ 0 ∧ s.dev.domMoving domain.val = false ∧ target.toNat ≠ s.dev.domState domain.val ∧ target ≠ 0 ∧ s.dev.domReady k = true ∧ (swap = false ∨ (if ((s.dev.written who (Reg.DOM_CTL domain.val) (withField (withField (s.dev.word (Reg.DOM_CTL domain.val)) (Reg.DOM_CTL_TARGET domain.val).lsb (Reg.DOM_CTL_TARGET domain.val).w target.toNat) (Reg.DOM_CTL_GO domain.val).lsb (Reg.DOM_CTL_GO domain.val).w 1)).sourcesHit domain.val fires.toNat).testBit 0 then (s.dev.written who (Reg.DOM_CTL domain.val) (withField (withField (s.dev.word (Reg.DOM_CTL domain.val)) (Reg.DOM_CTL_TARGET domain.val).lsb (Reg.DOM_CTL_TARGET domain.val).w target.toNat) (Reg.DOM_CTL_GO domain.val).lsb (Reg.DOM_CTL_GO domain.val).w 1)).setDom domain.val { s.dev.domSt domain.val with timer := false } else (s.dev.written who (Reg.DOM_CTL domain.val) (withField (withField (s.dev.word (Reg.DOM_CTL domain.val)) (Reg.DOM_CTL_TARGET domain.val).lsb (Reg.DOM_CTL_TARGET domain.val).w target.toNat) (Reg.DOM_CTL_GO domain.val).lsb (Reg.DOM_CTL_GO domain.val).w 1))).swapWins k = false) ∧ ((s.dev.written who (Reg.DOM_CTL domain.val) (withField (withField (s.dev.word (Reg.DOM_CTL domain.val)) (Reg.DOM_CTL_TARGET domain.val).lsb (Reg.DOM_CTL_TARGET domain.val).w target.toNat) (Reg.DOM_CTL_GO domain.val).lsb (Reg.DOM_CTL_GO domain.val).w 1)).ctl (Reg.DOM_CTL_WAKE_EN domain.val) &&& k.sources) &&& ((s.dev.written who (Reg.DOM_CTL domain.val) (withField (withField (s.dev.word (Reg.DOM_CTL domain.val)) (Reg.DOM_CTL_TARGET domain.val).lsb (Reg.DOM_CTL_TARGET domain.val).w target.toNat) (Reg.DOM_CTL_GO domain.val).lsb (Reg.DOM_CTL_GO domain.val).w 1)).sourcesHit domain.val fires.toNat) = 0) ∧
    (∃ (s : State) (who : Who) (domain : Fin 256) (target fires : BitVec 2) (swap : Bool) (k : DomKind), s.ready = true ∧ s.dev.takesWrite who (Reg.DOM_CTL domain.val) (withField (withField (s.dev.word (Reg.DOM_CTL domain.val)) (Reg.DOM_CTL_TARGET domain.val).lsb (Reg.DOM_CTL_TARGET domain.val).w target.toNat) (Reg.DOM_CTL_GO domain.val).lsb (Reg.DOM_CTL_GO domain.val).w 1) = true ∧ domKind domain.val = some k ∧ s.dev.domState domain.val = 0 ∧ s.dev.domMoving domain.val = false ∧ target ≠ 0 ∧ s.dev.domReady k = true ∧ (swap = false ∨ (if ((s.dev.written who (Reg.DOM_CTL domain.val) (withField (withField (s.dev.word (Reg.DOM_CTL domain.val)) (Reg.DOM_CTL_TARGET domain.val).lsb (Reg.DOM_CTL_TARGET domain.val).w target.toNat) (Reg.DOM_CTL_GO domain.val).lsb (Reg.DOM_CTL_GO domain.val).w 1)).sourcesHit domain.val fires.toNat).testBit 0 then (s.dev.written who (Reg.DOM_CTL domain.val) (withField (withField (s.dev.word (Reg.DOM_CTL domain.val)) (Reg.DOM_CTL_TARGET domain.val).lsb (Reg.DOM_CTL_TARGET domain.val).w target.toNat) (Reg.DOM_CTL_GO domain.val).lsb (Reg.DOM_CTL_GO domain.val).w 1)).setDom domain.val { s.dev.domSt domain.val with timer := false } else (s.dev.written who (Reg.DOM_CTL domain.val) (withField (withField (s.dev.word (Reg.DOM_CTL domain.val)) (Reg.DOM_CTL_TARGET domain.val).lsb (Reg.DOM_CTL_TARGET domain.val).w target.toNat) (Reg.DOM_CTL_GO domain.val).lsb (Reg.DOM_CTL_GO domain.val).w 1))).swapWins k = false) ∧ ((s.dev.written who (Reg.DOM_CTL domain.val) (withField (withField (s.dev.word (Reg.DOM_CTL domain.val)) (Reg.DOM_CTL_TARGET domain.val).lsb (Reg.DOM_CTL_TARGET domain.val).w target.toNat) (Reg.DOM_CTL_GO domain.val).lsb (Reg.DOM_CTL_GO domain.val).w 1)).ctl (Reg.DOM_CTL_WAKE_EN domain.val) &&& k.sources) = 3 ∧ ((s.dev.written who (Reg.DOM_CTL domain.val) (withField (withField (s.dev.word (Reg.DOM_CTL domain.val)) (Reg.DOM_CTL_TARGET domain.val).lsb (Reg.DOM_CTL_TARGET domain.val).w target.toNat) (Reg.DOM_CTL_GO domain.val).lsb (Reg.DOM_CTL_GO domain.val).w 1)).sourcesHit domain.val fires.toNat) ≠ 0) ∧
    (∃ (s : State) (who : Who) (domain : Fin 256) (target fires : BitVec 2) (swap : Bool) (k : DomKind), s.ready = true ∧ s.dev.takesWrite who (Reg.DOM_CTL domain.val) (withField (withField (s.dev.word (Reg.DOM_CTL domain.val)) (Reg.DOM_CTL_TARGET domain.val).lsb (Reg.DOM_CTL_TARGET domain.val).w target.toNat) (Reg.DOM_CTL_GO domain.val).lsb (Reg.DOM_CTL_GO domain.val).w 1) = true ∧ domKind domain.val = some k ∧ s.dev.domState domain.val = 0 ∧ s.dev.domMoving domain.val = false ∧ target ≠ 0 ∧ s.dev.domReady k = true ∧ (swap = false ∨ (if ((s.dev.written who (Reg.DOM_CTL domain.val) (withField (withField (s.dev.word (Reg.DOM_CTL domain.val)) (Reg.DOM_CTL_TARGET domain.val).lsb (Reg.DOM_CTL_TARGET domain.val).w target.toNat) (Reg.DOM_CTL_GO domain.val).lsb (Reg.DOM_CTL_GO domain.val).w 1)).sourcesHit domain.val fires.toNat).testBit 0 then (s.dev.written who (Reg.DOM_CTL domain.val) (withField (withField (s.dev.word (Reg.DOM_CTL domain.val)) (Reg.DOM_CTL_TARGET domain.val).lsb (Reg.DOM_CTL_TARGET domain.val).w target.toNat) (Reg.DOM_CTL_GO domain.val).lsb (Reg.DOM_CTL_GO domain.val).w 1)).setDom domain.val { s.dev.domSt domain.val with timer := false } else (s.dev.written who (Reg.DOM_CTL domain.val) (withField (withField (s.dev.word (Reg.DOM_CTL domain.val)) (Reg.DOM_CTL_TARGET domain.val).lsb (Reg.DOM_CTL_TARGET domain.val).w target.toNat) (Reg.DOM_CTL_GO domain.val).lsb (Reg.DOM_CTL_GO domain.val).w 1))).swapWins k = false) ∧ ((s.dev.written who (Reg.DOM_CTL domain.val) (withField (withField (s.dev.word (Reg.DOM_CTL domain.val)) (Reg.DOM_CTL_TARGET domain.val).lsb (Reg.DOM_CTL_TARGET domain.val).w target.toNat) (Reg.DOM_CTL_GO domain.val).lsb (Reg.DOM_CTL_GO domain.val).w 1)).ctl (Reg.DOM_CTL_WAKE_EN domain.val) &&& k.sources) ≠ 3 ∧ ((s.dev.written who (Reg.DOM_CTL domain.val) (withField (withField (s.dev.word (Reg.DOM_CTL domain.val)) (Reg.DOM_CTL_TARGET domain.val).lsb (Reg.DOM_CTL_TARGET domain.val).w target.toNat) (Reg.DOM_CTL_GO domain.val).lsb (Reg.DOM_CTL_GO domain.val).w 1)).ctl (Reg.DOM_CTL_WAKE_EN domain.val) &&& k.sources) &&& ((s.dev.written who (Reg.DOM_CTL domain.val) (withField (withField (s.dev.word (Reg.DOM_CTL domain.val)) (Reg.DOM_CTL_TARGET domain.val).lsb (Reg.DOM_CTL_TARGET domain.val).w target.toNat) (Reg.DOM_CTL_GO domain.val).lsb (Reg.DOM_CTL_GO domain.val).w 1)).sourcesHit domain.val fires.toNat) ≠ 0) :=
  ⟨⟨st { fields [] awake with unlocks := [.mp] }, .mp, (130 : Fin 256), 3#2, 0#2, false, (.region 2 : DomKind), by decide +kernel⟩,
   ⟨st { fields [(Reg.DOM_STS_STATE 130, 1)] awake with unlocks := [.mp] }, .mp, (130 : Fin 256), 3#2, 0#2, false, (.region 2 : DomKind), by decide +kernel⟩,
   ⟨st { fields [(Reg.DOM_CTL_WAKE_EN 48, 3), ((.line 2 : LaneId).EN, 1)] awake with unlocks := [.mp] }, .mp, (48 : Fin 256), 1#2, 2#2, false, (.quad : DomKind), by decide +kernel⟩,
   ⟨st { fields [(Reg.DOM_CTL_WAKE_EN 130, 1)] awake with unlocks := [.mp], doms := [(130, { timer := true })] }, .mp, (130 : Fin 256), 3#2, 1#2, false, (.region 2 : DomKind), by decide +kernel⟩⟩

theorem witness_PowerDomains_2 :
    (∃ (s : State) (who : Who) (domain : Fin 256) (target : BitVec 2) (k : DomKind), s.ready = true ∧ s.dev.takesWrite who (Reg.DOM_CTL domain.val) (withField (withField (s.dev.word (Reg.DOM_CTL domain.val)) (Reg.DOM_CTL_TARGET domain.val).lsb (Reg.DOM_CTL_TARGET domain.val).w target.toNat) (Reg.DOM_CTL_GO domain.val).lsb (Reg.DOM_CTL_GO domain.val).w 1) = true ∧ domKind domain.val = some k ∧ target.toNat = s.dev.domState domain.val ∧ s.dev.domMoving domain.val = false) ∧
    (∃ (s : State) (who : Who) (domain : Fin 256) (target : BitVec 2) (k : DomKind), s.ready = true ∧ s.dev.takesWrite who (Reg.DOM_CTL domain.val) (withField (withField (s.dev.word (Reg.DOM_CTL domain.val)) (Reg.DOM_CTL_TARGET domain.val).lsb (Reg.DOM_CTL_TARGET domain.val).w target.toNat) (Reg.DOM_CTL_GO domain.val).lsb (Reg.DOM_CTL_GO domain.val).w 1) = true ∧ domKind domain.val = some k ∧ target = 0 ∧ s.dev.domState domain.val ≠ 0 ∧ s.dev.domMoving domain.val = false) ∧
    (∃ (s : State) (who : Who) (domain : Fin 256) (target : BitVec 2) (k : DomKind), s.ready = true ∧ s.dev.takesWrite who (Reg.DOM_CTL domain.val) (withField (withField (s.dev.word (Reg.DOM_CTL domain.val)) (Reg.DOM_CTL_TARGET domain.val).lsb (Reg.DOM_CTL_TARGET domain.val).w target.toNat) (Reg.DOM_CTL_GO domain.val).lsb (Reg.DOM_CTL_GO domain.val).w 1) = true ∧ domKind domain.val = some k ∧ target = 0 ∧ s.dev.on (Reg.DOM_STS_DRAINING domain.val) = true ∧ (s.dev.domSt domain.val).drained = false ∧ s.dev.drainDone domain.val = false) ∧
    (∃ (s : State) (who : Who) (domain : Fin 256) (target : BitVec 2) (k : DomKind), s.ready = true ∧ s.dev.takesWrite who (Reg.DOM_CTL domain.val) (withField (withField (s.dev.word (Reg.DOM_CTL domain.val)) (Reg.DOM_CTL_TARGET domain.val).lsb (Reg.DOM_CTL_TARGET domain.val).w target.toNat) (Reg.DOM_CTL_GO domain.val).lsb (Reg.DOM_CTL_GO domain.val).w 1) = true ∧ domKind domain.val = some k ∧ target = 0 ∧ s.dev.on (Reg.DOM_STS_DRAINING domain.val) = true ∧ (s.dev.domSt domain.val).drained = true) :=
  ⟨⟨st { fields [] awake with unlocks := [.mp] }, .mp, (130 : Fin 256), 0#2, (.region 2 : DomKind), by decide +kernel⟩,
   ⟨st { fields [(Reg.DOM_STS_STATE 130, 3)] awake with unlocks := [.mp] }, .mp, (130 : Fin 256), 0#2, (.region 2 : DomKind), by decide +kernel⟩,
   ⟨st { fields [(Reg.DOM_STS_DRAINING 130, 1)] awake with unlocks := [.mp], ni := [(2, { inside := 1 })] }, .mp, (130 : Fin 256), 0#2, (.region 2 : DomKind), by decide +kernel⟩,
   ⟨st { fields [(Reg.DOM_STS_DRAINING 130, 1)] awake with unlocks := [.mp], doms := [(130, { target := 3, drained := true })] }, .mp, (130 : Fin 256), 0#2, (.region 2 : DomKind), by decide +kernel⟩⟩

theorem witness_PowerDomains_3 :
    (∃ (s : State) (who : Who) (domain : Fin 256) (target : BitVec 2) (k : DomKind), s.ready = true ∧ s.dev.takesWrite who (Reg.DOM_CTL domain.val) (withField (withField (s.dev.word (Reg.DOM_CTL domain.val)) (Reg.DOM_CTL_TARGET domain.val).lsb (Reg.DOM_CTL_TARGET domain.val).w target.toNat) (Reg.DOM_CTL_GO domain.val).lsb (Reg.DOM_CTL_GO domain.val).w 1) = true ∧ domKind domain.val = some k ∧ target ≠ 0 ∧ ((target.toNat = s.dev.domState domain.val ∧ s.dev.domMoving domain.val = true) ∨ (target.toNat ≠ s.dev.domState domain.val ∧ (s.dev.domMoving domain.val = true ∨ s.dev.domReady k = false)))) ∧
    (∃ (s : State) (who : Who) (domain : Fin 256) (target fires : BitVec 2) (swap : Bool) (k : DomKind), s.ready = true ∧ s.dev.takesWrite who (Reg.DOM_CTL domain.val) (withField (withField (s.dev.word (Reg.DOM_CTL domain.val)) (Reg.DOM_CTL_TARGET domain.val).lsb (Reg.DOM_CTL_TARGET domain.val).w target.toNat) (Reg.DOM_CTL_GO domain.val).lsb (Reg.DOM_CTL_GO domain.val).w 1) = true ∧ domKind domain.val = some k ∧ target ≠ 0 ∧ swap = true ∧ (if ((s.dev.written who (Reg.DOM_CTL domain.val) (withField (withField (s.dev.word (Reg.DOM_CTL domain.val)) (Reg.DOM_CTL_TARGET domain.val).lsb (Reg.DOM_CTL_TARGET domain.val).w target.toNat) (Reg.DOM_CTL_GO domain.val).lsb (Reg.DOM_CTL_GO domain.val).w 1)).sourcesHit domain.val fires.toNat).testBit 0 then (s.dev.written who (Reg.DOM_CTL domain.val) (withField (withField (s.dev.word (Reg.DOM_CTL domain.val)) (Reg.DOM_CTL_TARGET domain.val).lsb (Reg.DOM_CTL_TARGET domain.val).w target.toNat) (Reg.DOM_CTL_GO domain.val).lsb (Reg.DOM_CTL_GO domain.val).w 1)).setDom domain.val { s.dev.domSt domain.val with timer := false } else (s.dev.written who (Reg.DOM_CTL domain.val) (withField (withField (s.dev.word (Reg.DOM_CTL domain.val)) (Reg.DOM_CTL_TARGET domain.val).lsb (Reg.DOM_CTL_TARGET domain.val).w target.toNat) (Reg.DOM_CTL_GO domain.val).lsb (Reg.DOM_CTL_GO domain.val).w 1))).swapWins k = true) ∧
    (∃ (s : State) (domain : Fin 256) (target : BitVec 2) (c : Code), s.ready = true ∧ s.dev.domPre domain.val target.toNat = some c) ∧
    (∃ (s : State) (domain : Fin 256), s.ready = true ∧ s.dev.on (Reg.DOM_STS_DRAINING domain.val) = true ∧ (s.dev.domSt domain.val).drained = false ∧ s.dev.drainDone domain.val = true) :=
  ⟨⟨st { fields [(Reg.RGN_STS_STATE 2, 2)] awake with unlocks := [.mp] }, .mp, (130 : Fin 256), 1#2, (.region 2 : DomKind), by decide +kernel⟩,
   ⟨st { fields [(Reg.RGN_STS_STATE 2, 1), (Reg.RGN_STS_SHADOW 2, 2)] awake with unlocks := [.mp], rgn := [(2, { gateOpen := true })] }, .mp, (130 : Fin 256), 3#2, 0#2, true, (.region 2 : DomKind), by decide +kernel⟩,
   ⟨up [], (100 : Fin 256), 1#2, Code.noTarget, by decide +kernel⟩,
   ⟨st { fields [(Reg.DOM_STS_DRAINING 144, 1)] awake with unlocks := [.mp], doms := [(144, { target := 3 })] }, (144 : Fin 256), by decide +kernel⟩⟩

theorem witness_PowerDomains_4 :
    (∃ (s : State) (domain : Fin 256), s.ready = true ∧ s.dev.on (Reg.DOM_STS_DRAINING domain.val) = true ∧ (s.dev.domSt domain.val).drained = true ∧ (s.dev.domSt domain.val).late = false ∧ s.dev.on (Reg.DOM_STS_WAKE_PENDING domain.val) = false ∧ (∀ i, domNi domain.val = some i → (s.dev.niSt i).guarded = [])) ∧
    (∃ (s : State) (domain : Fin 256), s.ready = true ∧ s.dev.on (Reg.DOM_STS_DRAINING domain.val) = true ∧ (s.dev.domSt domain.val).drained = true ∧ ((s.dev.domSt domain.val).late = true ∨ s.dev.on (Reg.DOM_STS_WAKE_PENDING domain.val) = true)) ∧
    (∃ (s : State) (domain : Fin 256), s.ready = true ∧ s.dev.on (Reg.DOM_STS_DRAINING domain.val) = true ∧ (s.dev.domSt domain.val).drained = false ∧ s.dev.drainDone domain.val = false) ∧
    (∃ (s : State) (domain : Fin 256), s.ready = true ∧ s.dev.domState domain.val ≠ 0 ∧ s.dev.domMoving domain.val = false ∧ domKind domain.val ≠ some .pq) :=
  ⟨⟨st { fields [(Reg.DOM_STS_DRAINING 144, 1)] awake with unlocks := [.mp], doms := [(144, { target := 3, drained := true })] }, (144 : Fin 256), by decide +kernel⟩,
   ⟨st { fields [(Reg.DOM_STS_DRAINING 144, 1)] awake with unlocks := [.mp], doms := [(144, { target := 3, drained := true, late := true })] }, (144 : Fin 256), by decide +kernel⟩,
   ⟨st { fields [(Reg.DOM_STS_DRAINING 130, 1)] awake with unlocks := [.mp], ni := [(2, { inside := 1 })] }, (130 : Fin 256), by decide +kernel⟩,
   ⟨up [(Reg.DOM_STS_STATE 48, 2)], (48 : Fin 256), by decide +kernel⟩⟩

theorem witness_PowerDomains_5 :
    (∃ (s : State) (domain : Fin 256), s.ready = true ∧ s.dev.on (Reg.DOM_STS_WAKING domain.val) = true ∧ (match domKind domain.val with
        | some (.dram _) => false | some .quad => decide (s.dev.domState domain.val ≤ 1) | some (.port _) => decide (s.dev.domState domain.val ≤ 1)
        | some (.region n) => !s.dev.on (Reg.BM_STS_FILL_BUSY n) && (s.dev.domState domain.val != 3 || !s.dev.hasImage n) | _ => true) = true) ∧
    (∃ (s : State) (domain : Fin 256) (k : Nat), s.ready = true ∧ s.dev.on (Reg.DOM_STS_WAKING domain.val) = true ∧ domKind domain.val = some (.dram k)) ∧
    (∃ (s : State) (domain : Fin 256) (p : Nat), s.ready = true ∧ s.dev.on (Reg.DOM_STS_WAKING domain.val) = true ∧ (s.dev.domState domain.val = 2 ∨ s.dev.domState domain.val = 3) ∧ domKind domain.val = some (.port p)) ∧
    (∃ (s : State) (n : Region), s.ready = true ∧ s.dev.on (Reg.DOM_STS_WAKING (128 + n.val)) = true ∧ s.dev.domState (128 + n.val) = 3 ∧ s.dev.hasImage n.val = true ∧ s.dev.on (Reg.BM_STS_FILL_BUSY n.val) = false) :=
  ⟨⟨up [(Reg.DOM_STS_STATE 130, 2), (Reg.DOM_STS_WAKING 130, 1)], (130 : Fin 256), by decide +kernel⟩,
   ⟨up [(Reg.DOM_STS_STATE 20, 2), (Reg.DOM_STS_WAKING 20, 1)], (20 : Fin 256), 4, by decide +kernel⟩,
   ⟨up [(Reg.DOM_STS_STATE 3, 2), (Reg.DOM_STS_WAKING 3, 1), (Reg.PORT_CTL_ENABLE 1, 1)], (3 : Fin 256), 1, by decide +kernel⟩,
   ⟨up [(Reg.DOM_STS_STATE 130, 3), (Reg.DOM_STS_WAKING 130, 1), (Reg.RGN_STS_STATE 2, 1)], (2 : Region), by decide +kernel⟩⟩

theorem witness_PowerDomains_6 :
    (∃ (s : State) (domain : Fin 256), s.ready = true ∧ s.dev.on (Reg.DOM_STS_WAKING domain.val) = true ∧ (s.dev.domState domain.val = 2 ∨ s.dev.domState domain.val = 3) ∧ domKind domain.val = some .quad) ∧
    (∃ (s : State) (domain : Fin 256) (k : DomKind), s.ready = true ∧ domKind domain.val = some k ∧ k.sources ≠ 0 ∧ s.dev.sourceReady domain.val 0 = true ∧ (s.dev.ctl (Reg.DOM_CTL_WAKE_EN domain.val)).testBit 0 = true) ∧
    (∃ (s : State) (domain : Fin 256), s.ready = true ∧ domKind domain.val = some .quad ∧ (s.dev.domState domain.val = 1 ∨ s.dev.domState domain.val = 2) ∧ (lanesOf (domain.val - 48)).any (fun l => s.dev.on l.EN) = true ∧ (s.dev.ctl (Reg.DOM_CTL_WAKE_EN domain.val)).testBit 1 = true) ∧
    (∃ (s : State) (domain : Fin 256) (p : Nat), s.ready = true ∧ (domKind domain.val = some (.port p) ∨ (domKind domain.val = some .quad ∧ s.dev.sourceReady domain.val 1 = true)) ∧ (s.dev.domState domain.val = 1 ∨ s.dev.on (Reg.DOM_STS_DRAINING domain.val) = true) ∧ (s.dev.ctl (Reg.DOM_CTL_WAKE_EN domain.val)).testBit 1 = true) :=
  ⟨⟨up [(Reg.DOM_STS_STATE 48, 2), (Reg.DOM_STS_WAKING 48, 1), ((.line 2 : LaneId).EN, 1)], (48 : Fin 256), by decide +kernel⟩,
   ⟨st { fields [(Reg.DOM_STS_STATE 130, 1), (Reg.DOM_CTL_WAKE_EN 130, 1)] awake with doms := [(130, { timer := true })] }, (130 : Fin 256), (.region 2 : DomKind), by decide +kernel⟩,
   ⟨up [(Reg.DOM_STS_STATE 48, 2), ((.line 2 : LaneId).EN, 1), (Reg.DOM_CTL_WAKE_EN 48, 2)], (48 : Fin 256), by decide +kernel⟩,
   ⟨up [(Reg.DOM_STS_STATE 3, 1), (Reg.DOM_CTL_WAKE_EN 3, 2)], (3 : Fin 256), 1, by decide +kernel⟩⟩

theorem witness_PowerLevels_1 :
    (∃ (s : State) (who : Who) (level : BitVec 3), s.ready = true ∧ s.dev.takesField who Reg.PWR_CTL_LEVEL_REQ level.toNat = true ∧ s.dev.on Reg.PWR_STS_LEVEL_BUSY = false ∧ s.dev.safe Reg.PWR_CTL = false ∧ s.dev.get Reg.PWR_CTL_VTIER = s.dev.get Reg.PWR_VINT_VTIER_CUR ∧ s.dev.get Reg.PWR_STS_LEVEL < level.toNat) ∧
    (∃ (s : State) (who : Who) (level : BitVec 3), s.ready = true ∧ s.dev.takesField who Reg.PWR_CTL_LEVEL_REQ level.toNat = true ∧ s.dev.on Reg.PWR_STS_LEVEL_BUSY = false ∧ s.dev.safe Reg.PWR_CTL = false ∧ s.dev.get Reg.PWR_CTL_VTIER = s.dev.get Reg.PWR_VINT_VTIER_CUR ∧ level.toNat < s.dev.get Reg.PWR_STS_LEVEL) ∧
    (∃ (s : State) (who : Who) (level : BitVec 3), s.ready = true ∧ s.dev.takesField who Reg.PWR_CTL_LEVEL_REQ level.toNat = true ∧ s.dev.on Reg.PWR_STS_LEVEL_BUSY = false ∧ s.dev.safe Reg.PWR_CTL = false ∧ s.dev.get Reg.PWR_CTL_VTIER = s.dev.get Reg.PWR_VINT_VTIER_CUR ∧ level.toNat = s.dev.get Reg.PWR_STS_LEVEL) ∧
    (∃ (s : State) (who : Who) (level : BitVec 3), s.ready = true ∧ s.dev.csrRefusal who Reg.PWR_CTL (withField (s.dev.word Reg.PWR_CTL) 2 3 level.toNat) = none ∧ s.dev.on Reg.PWR_STS_LEVEL_BUSY = true ∧ level.toNat ≠ s.dev.get Reg.PWR_CTL_LEVEL_REQ) :=
  ⟨⟨st { fields [(Reg.PWR_STS_LEVEL, 2)] awake with unlocks := [.mp], pwr := {  } }, .mp, 4#3, by decide +kernel⟩,
   ⟨st { fields [(Reg.PWR_STS_LEVEL, 5)] awake with unlocks := [.mp], pwr := {  } }, .mp, 4#3, by decide +kernel⟩,
   ⟨st { fields [(Reg.PWR_STS_LEVEL, 4)] awake with unlocks := [.mp], pwr := {  } }, .mp, 4#3, by decide +kernel⟩,
   ⟨st { fields [(Reg.PWR_STS_LEVEL, 2), (Reg.PWR_STS_LEVEL_BUSY, 1)] awake with unlocks := [.mp], pwr := {  } }, .mp, 4#3, by decide +kernel⟩⟩

theorem witness_PowerLevels_2 :
    (∃ (s : State) (l : Nat), s.live = true ∧ s.dev.pwr.change = some l ∧ s.dev.pwr.divDue = true ∧ l ≤ 5 ∧ s.dev.noc.phase = 0 ∧ s.dev.get Reg.NOC_STS_SLOT = 0 ∧ s.dev.on Reg.CLK_STS_ROOT_LOCK = true) ∧
    (∃ (s : State) (mv : Nat), s.ready = true ∧ s.dev.pwr.avs = none ∧ s.dev.pwr.nocMv = some mv) ∧
    (∃ (s : State) (mv : Nat) (t : Option Nat), s.ready = true ∧ s.dev.pwr.avs = none ∧ s.dev.pwr.nocMv = none ∧ s.dev.pwr.intMv = some (mv, t)) ∧
    (∃ (s : State) (a : AvsReq), s.live = true ∧ s.dev.pwr.avs = some a ∧ a.good = true ∧ a.rail = 0 ∧ a.mv < 1024) :=
  ⟨⟨st { fields [(Reg.PWR_STS_LEVEL, 2), (Reg.PWR_STS_LEVEL_BUSY, 1)] awake with unlocks := [.mp], pwr := { change := some 4, divDue := true } }, 4, by decide +kernel⟩,
   ⟨st { fields [] awake with unlocks := [.mp], pwr := { nocMv := some 800, intMv := some (760, none) } }, 800, by decide +kernel⟩,
   ⟨st { fields [] awake with unlocks := [.mp], pwr := { intMv := some (760, some 1) } }, 760, some 1, by decide +kernel⟩,
   ⟨st { fields [(Reg.PWR_STS_LEVEL, 2), (Reg.PWR_STS_LEVEL_BUSY, 1), (Reg.PWR_STS_AVS_BUSY, 1)] awake with unlocks := [.mp], pwr := { change := some 4, avs := some ⟨0, 1, 800, true, none⟩ } }, (⟨0, 1, 800, true, none⟩ : AvsReq), by decide +kernel⟩⟩

theorem witness_PowerLevels_3 :
    (∃ (s : State) (a : AvsReq), s.live = true ∧ s.dev.pwr.avs = some a ∧ a.good = true ∧ a.rail ≠ 0 ∧ a.mv < 1024) ∧
    (∃ (s : State), s.ready = true) ∧
    (∃ (s : State) (a : AvsReq), s.live = true ∧ s.dev.pwr.avs = some a) ∧
    (∃ (s : State), s.ready = true ∧ s.dev.ctlOn Reg.PWR_CTL_PIN_VINT = false ∧ s.dev.safe Reg.PWR_CTL = false ∧ s.dev.pwr.intMv = none ∧ s.dev.pwr.avs.any (fun a => a.rail == 1) = false) :=
  ⟨⟨st { fields [(Reg.PWR_CTL_VTIER, 2), (Reg.PWR_VINT_VTIER_CUR, 1)] awake with unlocks := [.mp], pwr := { avs := some ⟨1, 1, 800, true, some 2⟩ } }, (⟨1, 1, 800, true, some 2⟩ : AvsReq), by decide +kernel⟩,
   ⟨st { fields [] awake with unlocks := [.mp], pwr := { avs := some ⟨1, 1, 800, true, none⟩ } }, by decide +kernel⟩,
   ⟨st { fields [(Reg.PWR_STS_LEVEL, 4), (Reg.PWR_STS_LEVEL_BUSY, 1)] awake with unlocks := [.mp], pwr := { change := some 4, avs := some ⟨0, 1, 800, true, none⟩ } }, (⟨0, 1, 800, true, none⟩ : AvsReq), by decide +kernel⟩,
   ⟨st { fields [(Reg.PWR_VINT_VINT_MV, 800)] awake with unlocks := [.mp], pwr := {  } }, by decide +kernel⟩⟩

theorem witness_PowerLevels_4 :
    (∃ (s : State) (who : Who) (tier : BitVec 2), s.ready = true ∧ s.dev.takesField who Reg.PWR_CTL_VTIER tier.toNat = true ∧ s.dev.safe Reg.PWR_CTL = false ∧ s.dev.get Reg.PWR_CTL_LEVEL_REQ = s.dev.get Reg.PWR_STS_LEVEL ∧ tier.toNat ≠ s.dev.get Reg.PWR_CTL_VTIER ∧ tier.toNat ≤ s.dev.get Reg.PWR_VINT_VTIER_CUR) ∧
    (∃ (s : State) (who : Who) (tier : BitVec 2), s.ready = true ∧ s.dev.takesField who Reg.PWR_CTL_VTIER tier.toNat = true ∧ s.dev.safe Reg.PWR_CTL = false ∧ s.dev.get Reg.PWR_CTL_LEVEL_REQ = s.dev.get Reg.PWR_STS_LEVEL ∧ tier.toNat ≠ s.dev.get Reg.PWR_CTL_VTIER ∧ s.dev.get Reg.PWR_VINT_VTIER_CUR < tier.toNat ∧ s.dev.on Reg.PWR_CTL_PIN_VINT = false) ∧
    (∃ (s : State), s.ready = true ∧ (s.dev.fwUp = false ∨ s.dev.gov 1 1 = 0 ∨ s.dev.ctlOn Reg.PWR_CTL_PIN_LEVEL = true)) ∧
    (∃ (s : State), s.live = true ∧ s.dev.fwUp = true ∧ s.dev.gov 1 1 ≠ 0 ∧ s.dev.ctlOn Reg.PWR_CTL_PIN_LEVEL = false) :=
  ⟨⟨st { fields [(Reg.PWR_CTL_LEVEL_REQ, 0), (Reg.PWR_STS_LEVEL, 0)] awake with unlocks := [.mp], pwr := {  } }, .mp, 1#2, by decide +kernel⟩,
   ⟨st { fields [(Reg.PWR_CTL_VTIER, 0), (Reg.PWR_VINT_VTIER_CUR, 0), (Reg.PWR_CTL_LEVEL_REQ, 0), (Reg.PWR_STS_LEVEL, 0)] awake with unlocks := [.mp], pwr := {  } }, .mp, 2#2, by decide +kernel⟩,
   ⟨up [(Reg.PWR_CTL_PIN_LEVEL, 1)], by decide +kernel⟩,
   ⟨st { fields [(Reg.PWR_STS_LEVEL, 4), (Reg.MP_STS_RUNNING, 1), (Reg.PWR_TEMP_VALID, 1), (Reg.PWR_TEMP_TJ, 101)] awake with unlocks := [.mp], pwr := { low := 20 } }, by decide +kernel⟩⟩

theorem witness_MpArithmetic :
    (∃ (s : State), s.ready = true ∧ s.dev.mpGo = true) ∧
    (∃ (s : State), s.ready = true ∧ s.dev.mpGo = true) ∧
    (∃ (s : State), s.ready = true ∧ s.dev.mpGo = true) ∧
    (∃ (d : Dev), d.mp.g.length = 16) :=
  ⟨⟨st { fields [(Reg.MP_STS_RUNNING, 1)] awake with mp := { pc := 0x20010000, g := [0, 0, 0x80000001, 0xFFFFFFE1, 0, 0, 0, 0, 0, 0, 0, 0, 0, 0, 0, 0] } }, by decide +kernel⟩,
   ⟨st { fields [(Reg.MP_STS_RUNNING, 1)] awake with mp := { pc := 0x20010000, g := [0, 0, 0x80000001, 0, 0, 0, 0, 0, 0, 0, 0, 0, 0, 0, 0, 0] } }, by decide +kernel⟩,
   ⟨st { fields [(Reg.MP_STS_RUNNING, 1)] awake with mp := { pc := 0x20010000 } }, by decide +kernel⟩,
   ⟨awake, by decide +kernel⟩⟩

theorem witness_MpMemory_1 :
    (∃ (s : State) (ra : Fin 16) (imm : BitVec 18) (o : Nat), s.ready = true ∧ s.dev.mpGo = true ∧ (s.dev.mpAddr ra imm).toNat % 4 = 0 ∧ s.dev.mpPlace (s.dev.mpAddr ra imm) = .sram o ∧ (s.dev.readBytes (.hs 0) o 4).1.any (fun b => b.2) = false) ∧
    (∃ (s : State) (ra : Fin 16) (imm : BitVec 18) (o : Nat), s.ready = true ∧ s.dev.mpGo = true ∧ (s.dev.mpAddr ra imm).toNat % 2 = 0 ∧ s.dev.mpPlace (s.dev.mpAddr ra imm) = .sram o ∧ (s.dev.readBytes (.hs 0) o 2).1.any (fun b => b.2) = false) ∧
    (∃ (s : State) (ra : Fin 16) (imm : BitVec 18) (o : Nat), s.ready = true ∧ s.dev.mpGo = true ∧ (s.dev.mpAddr ra imm).toNat % 1 = 0 ∧ s.dev.mpPlace (s.dev.mpAddr ra imm) = .sram o ∧ (s.dev.readBytes (.hs 0) o 1).1.any (fun b => b.2) = false) ∧
    (∃ (s : State) (ra : Fin 16) (imm : BitVec 18) (o : Nat), s.ready = true ∧ s.dev.mpGo = true ∧ (s.dev.mpAddr ra imm).toNat % 4 = 0 ∧ s.dev.mpPlace (s.dev.mpAddr ra imm) = .sram o) :=
  ⟨⟨st (Dev.storeBytes (st { fields [(Reg.MP_STS_RUNNING, 1)] awake with mp := { pc := 0x20010000, g := [0, 0, 0x20000040, 0, 0xA1B2C3D4, 0, 0, 0, 0, 0, 0, 0, 0, 0, 0, 0] } }).dev (.hs 0) 0x40 [0x8F, 0x9E, 0x2D, 0xFC]), (2 : Fin 16), (0 : BitVec 18), 0x40, by decide +kernel⟩,
   ⟨st (Dev.storeBytes (st { fields [(Reg.MP_STS_RUNNING, 1)] awake with mp := { pc := 0x20010000, g := [0, 0, 0x20000040, 0, 0xA1B2C3D4, 0, 0, 0, 0, 0, 0, 0, 0, 0, 0, 0] } }).dev (.hs 0) 0x40 [0x8F, 0x9E, 0x2D, 0xFC]), (2 : Fin 16), (0 : BitVec 18), 0x40, by decide +kernel⟩,
   ⟨st (Dev.storeBytes (st { fields [(Reg.MP_STS_RUNNING, 1)] awake with mp := { pc := 0x20010000, g := [0, 0, 0x20000040, 0, 0xA1B2C3D4, 0, 0, 0, 0, 0, 0, 0, 0, 0, 0, 0] } }).dev (.hs 0) 0x40 [0x8F, 0x9E, 0x2D, 0xFC]), (2 : Fin 16), (1 : BitVec 18), 0x41, by decide +kernel⟩,
   ⟨st (Dev.storeBytes (st { fields [(Reg.MP_STS_RUNNING, 1)] awake with mp := { pc := 0x20010000, g := [0, 0, 0x20000040, 0, 0xA1B2C3D4, 0, 0, 0, 0, 0, 0, 0, 0, 0, 0, 0] } }).dev (.hs 0) 0x40 [0x8F, 0x9E, 0x2D, 0xFC]), (2 : Fin 16), (0 : BitVec 18), 0x40, by decide +kernel⟩⟩

theorem witness_MpMemory_2 :
    (∃ (s : State) (ra : Fin 16) (imm : BitVec 18) (o : Nat), s.ready = true ∧ s.dev.mpGo = true ∧ (s.dev.mpAddr ra imm).toNat % 2 = 0 ∧ s.dev.mpPlace (s.dev.mpAddr ra imm) = .sram o) ∧
    (∃ (s : State) (ra : Fin 16) (imm : BitVec 18) (o : Nat), s.ready = true ∧ s.dev.mpGo = true ∧ (s.dev.mpAddr ra imm).toNat % 1 = 0 ∧ s.dev.mpPlace (s.dev.mpAddr ra imm) = .sram o) ∧
    (∃ (s : State) (ra : Fin 16) (imm : BitVec 18) (o : Nat), s.ready = true ∧ s.dev.mpGo = true ∧ (s.dev.mpAddr ra imm).toNat % 4 = 0 ∧ s.dev.mpPlace (s.dev.mpAddr ra imm) = .sram o ∧ ((s.dev.setMp { s.dev.mp with resv := none }).readBytes (.hs 0) o 4).1.any (fun b => b.2) = false) ∧
    (∃ (s : State) (ra : Fin 16) (imm : BitVec 18) (o : Nat), s.ready = true ∧ s.dev.mpGo = true ∧ (s.dev.mpAddr ra imm).toNat % 4 = 0 ∧ s.dev.mpPlace (s.dev.mpAddr ra imm) = .sram o ∧ s.dev.mp.resv = some (o / 8)) :=
  ⟨⟨st (Dev.storeBytes (st { fields [(Reg.MP_STS_RUNNING, 1)] awake with mp := { pc := 0x20010000, g := [0, 0, 0x20000040, 0, 0xA1B2C3D4, 0, 0, 0, 0, 0, 0, 0, 0, 0, 0, 0] } }).dev (.hs 0) 0x40 [0x8F, 0x9E, 0x2D, 0xFC]), (2 : Fin 16), (0 : BitVec 18), 0x40, by decide +kernel⟩,
   ⟨st (Dev.storeBytes (st { fields [(Reg.MP_STS_RUNNING, 1)] awake with mp := { pc := 0x20010000, g := [0, 0, 0x20000040, 0, 0xA1B2C3D4, 0, 0, 0, 0, 0, 0, 0, 0, 0, 0, 0] } }).dev (.hs 0) 0x40 [0x8F, 0x9E, 0x2D, 0xFC]), (2 : Fin 16), (1 : BitVec 18), 0x41, by decide +kernel⟩,
   ⟨st (Dev.storeBytes (st { fields [(Reg.MP_STS_RUNNING, 1)] awake with mp := { pc := 0x20010000, g := [0, 0, 0x20000040, 0, 0xA1B2C3D4, 0, 0, 0, 0, 0, 0, 0, 0, 0, 0, 0] } }).dev (.hs 0) 0x40 [0x8F, 0x9E, 0x2D, 0xFC]), (2 : Fin 16), (0 : BitVec 18), 0x40, by decide +kernel⟩,
   ⟨st (Dev.storeBytes (st { fields [(Reg.MP_STS_RUNNING, 1)] awake with mp := { pc := 0x20010000, g := [0, 0, 0x20000040, 0, 0xA1B2C3D4, 0, 0, 0, 0, 0, 0, 0, 0, 0, 0, 0], resv := some 8 } }).dev (.hs 0) 0x40 [0x8F, 0x9E, 0x2D, 0xFC]), (2 : Fin 16), (0 : BitVec 18), 0x40, by decide +kernel⟩⟩

theorem witness_MpMemory_3 :
    (∃ (s : State) (ra : Fin 16) (imm : BitVec 18) (o : Nat), s.ready = true ∧ s.dev.mpGo = true ∧ (s.dev.mpAddr ra imm).toNat % 4 = 0 ∧ s.dev.mpPlace (s.dev.mpAddr ra imm) = .sram o ∧ s.dev.mp.resv ≠ some (o / 8)) ∧
    (∃ (s : State) (ra : Fin 16) (imm : BitVec 18), s.ready = true ∧ s.dev.mpGo = true ∧ (s.dev.mpAddr ra imm).toNat % 4 = 0 ∧ (match s.dev.mpPlace (s.dev.mpAddr ra imm) with | .sram _ => false | _ => true) = true) ∧
    (∃ (s : State) (ra : Fin 16) (imm : BitVec 18) (a : Nat), s.ready = true ∧ s.dev.mpGo = true ∧ (s.dev.mpAddr ra imm).toNat % 4 = 0 ∧ s.dev.mpPlace (s.dev.mpAddr ra imm) = .net a) ∧
    (∃ (s : State) (ra : Fin 16) (imm : BitVec 18), s.ready = true ∧ s.dev.mpGo = true ∧ (s.dev.mpAddr ra imm).toNat % 4 ≠ 0) :=
  ⟨⟨st (Dev.storeBytes (st { fields [(Reg.MP_STS_RUNNING, 1)] awake with mp := { pc := 0x20010000, g := [0, 0, 0x20000040, 0, 0xA1B2C3D4, 0, 0, 0, 0, 0, 0, 0, 0, 0, 0, 0], resv := some 9 } }).dev (.hs 0) 0x40 [0x8F, 0x9E, 0x2D, 0xFC]), (2 : Fin 16), (0 : BitVec 18), 0x40, by decide +kernel⟩,
   ⟨st { fields [(Reg.MP_STS_RUNNING, 1)] awake with mp := { pc := 0x20010000, g := [0, 0, 0x10000040, 0, 0, 0, 0, 0, 0, 0, 0, 0, 0, 0, 0, 0] } }, (2 : Fin 16), (0 : BitVec 18), by decide +kernel⟩,
   ⟨st { fields [(Reg.MP_STS_RUNNING, 1)] awake with mp := { pc := 0x20010000, g := [0, 0, 0x40000040, 0, 0, 0, 0, 0, 0, 0, 0, 0, 0, 0, 0, 0] } }, (2 : Fin 16), (0 : BitVec 18), 0xFE00000040, by decide +kernel⟩,
   ⟨st { fields [(Reg.MP_STS_RUNNING, 1)] awake with mp := { pc := 0x20010000, g := [0, 0, 0x20000042, 0, 0, 0, 0, 0, 0, 0, 0, 0, 0, 0, 0, 0] } }, (2 : Fin 16), (0 : BitVec 18), by decide +kernel⟩⟩

theorem witness_MpMemory_4 :
    (∃ (s : State) (q : Pkt) (rest : List Pkt) (d2 : Dev), s.ready = true ∧ (s.dev.niSt 164).rs = q :: rest ∧ q.code = .ok ∧ q.poison = false ∧ s.dev.mp.fed = false ∧ s.dev.mp.stepping = false ∧ d2 = ((s.dev.setNi 164 { s.dev.niSt 164 with rs := rest }).niPump 164).setMp { ((s.dev.setNi 164 { s.dev.niSt 164 with rs := rest }).niPump 164).mp with stall := none }) ∧
    (∃ (s : State) (q : Pkt) (rest : List Pkt) (op : MpLoad) (rd : Fin 16) (addr : Word), s.ready = true ∧ (s.dev.niSt 164).rs = q :: rest ∧ q.code ≠ .ok ∧ s.dev.mp.stall = some (.load op rd addr)) :=
  ⟨⟨st { fields [(Reg.MP_STS_RUNNING, 1)] awake with mp := { pc := 0x20010000, stall := some .fence }, ni := [(164, { rs := [{ cmd := 5 }] })] }, ({ cmd := 5 } : Pkt), ([] : List Pkt), (((st { fields [(Reg.MP_STS_RUNNING, 1)] awake with mp := { pc := 0x20010000, stall := some .fence }, ni := [(164, { rs := [{ cmd := 5 }] })] } : State).dev.setNi 164 { (st { fields [(Reg.MP_STS_RUNNING, 1)] awake with mp := { pc := 0x20010000, stall := some .fence }, ni := [(164, { rs := [{ cmd := 5 }] })] } : State).dev.niSt 164 with rs := (([] : List Pkt)) }).niPump 164).setMp { (((st { fields [(Reg.MP_STS_RUNNING, 1)] awake with mp := { pc := 0x20010000, stall := some .fence }, ni := [(164, { rs := [{ cmd := 5 }] })] } : State).dev.setNi 164 { (st { fields [(Reg.MP_STS_RUNNING, 1)] awake with mp := { pc := 0x20010000, stall := some .fence }, ni := [(164, { rs := [{ cmd := 5 }] })] } : State).dev.niSt 164 with rs := (([] : List Pkt)) }).niPump 164).mp with stall := none }, by decide +kernel, by decide +kernel, by decide +kernel, by decide +kernel, by decide +kernel, by decide +kernel, rfl⟩,
   ⟨st { fields [(Reg.MP_STS_RUNNING, 1)] awake with mp := { pc := 0x20010000, stall := some (.load .word 3 0x80000000) }, ni := [(164, { rs := [{ cmd := 5, code := .timeout }] })] }, ({ cmd := 5, code := .timeout } : Pkt), ([] : List Pkt), MpLoad.word, (3 : Fin 16), 0x80000000#32, by decide +kernel⟩⟩

theorem witness_MpControl_1 :
    (∃ (s : State), s.ready = true ∧ s.dev.mpGo = true) ∧
    (∃ (s : State), s.ready = true ∧ s.dev.mpGo = true) ∧
    (∃ (s : State) (num : BitVec 12) (v : Word), s.ready = true ∧ s.dev.mpGo = true ∧ s.dev.mpcr num.toNat = some v) ∧
    (∃ (s : State) (num : BitVec 12), s.ready = true ∧ s.dev.mpGo = true ∧ s.dev.mpcr num.toNat = none) :=
  ⟨⟨st { fields [(Reg.MP_STS_RUNNING, 1)] awake with mp := { pc := 0x20010000, g := [0, 0, 0x20010100, 0, 0, 0, 0, 0, 0, 0, 0, 0, 0, 0, 0, 0], lk := 0x20010200, epc := 0x20010300, pie := true, exc := true, resv := some 3 } }, by decide +kernel⟩,
   ⟨st { fields [(Reg.MP_STS_RUNNING, 1)] awake with mp := { pc := 0x20010000, g := [0, 0, 0, 0, 0, 0, 0, 0, 0, 0, 0, 0, 0, 0, 0, 0] } }, by decide +kernel⟩,
   ⟨st { fields [(Reg.MP_STS_RUNNING, 1)] awake with mp := { pc := 0x20010000, g := [0, 0, 0x12345678, 0, 0, 0, 0, 0, 0, 0, 0, 0, 0, 0, 0, 0], vbase := 0x700 } }, (5 : BitVec 12), 0x700#32, by decide +kernel⟩,
   ⟨st { fields [(Reg.MP_STS_RUNNING, 1)] awake with mp := { pc := 0x20010000 } }, (0x30 : BitVec 12), by decide +kernel⟩⟩

theorem witness_MpControl_2 :
    (∃ (s : State), s.ready = true ∧ s.dev.mpGo = true ∧ (s.dev.niSt 164).writes = [] ∧ (s.dev.niSt 164).presented = []) ∧
    (∃ (s : State), s.ready = true ∧ s.dev.mpGo = true ∧ ((s.dev.niSt 164).writes ≠ [] ∨ (s.dev.niSt 164).presented ≠ [])) ∧
    (∃ (s : State), s.ready = true ∧ s.dev.mpGo = true) ∧
    (∃ (s : State), s.ready = true ∧ s.dev.mpGo = true) :=
  ⟨⟨st { fields [(Reg.MP_STS_RUNNING, 1)] awake with mp := { pc := 0x20010000, fenceCode := 3 } }, by decide +kernel⟩,
   ⟨st { fields [(Reg.MP_STS_RUNNING, 1)] awake with mp := { pc := 0x20010000 }, ni := [(164, { writes := [⟨0, 0, none, false⟩] })] }, by decide +kernel⟩,
   ⟨st { fields [(Reg.DBG_CTL_BRK_TAKE, 0)] awake with mp := { pc := 0x20010000 } }, by decide +kernel⟩,
   ⟨st { fields [(Reg.MP_STS_RUNNING, 1)] awake with mp := { pc := 0x20010000, evtMask := 0x40000, timerHit := true } }, by decide +kernel⟩⟩

theorem witness_MpControl_3 :
    (∃ (d : Dev) (cause : Fin 8) (code : Option (Fin 16)) (addr : Option Word) (epc : Word) (e : Dev), d.mp.stepping = false ∧ e = d.mpEnter cause.val (code.map Fin.val) addr epc) ∧
    (∃ (d : Dev), d.mp.fed = false) ∧
    (∃ (s : State), s.ready = true ∧ s.dev.mpAtBoundary = true) ∧
    (∃ (s : State), s.ready = true ∧ s.dev.mpAtBoundary = true ∧ s.dev.eventDue = true ∧ s.dev.mp.exc = false) :=
  ⟨⟨awake, (3 : Fin 8), (some 5 : Option (Fin 16)), (some 0x20000040#32 : Option Word), 0x20010000#32, Dev.mpEnter 3 (some 5) (some 0x20000040#32) 0x20010000#32 awake, by decide +kernel, rfl⟩,
   ⟨awake, by decide +kernel⟩,
   ⟨st { fields [(Reg.MP_STS_RUNNING, 1)] awake with mp := { pc := 0x20010000 } }, by decide +kernel⟩,
   ⟨st { fields [(Reg.MP_STS_RUNNING, 1)] awake with mp := { pc := 0x20010000, evtMask := 0x40000, timerHit := true, ie := true } }, by decide +kernel⟩⟩

theorem witness_MpControl_4 :
    (∃ (s : State), s.ready = true) ∧
    (∃ (s : State), s.ready = true) ∧
    (∃ (s : State) (who : Who), s.ready = true ∧ s.dev.takes who Reg.SOFT_RESET_SOFT_RESET = true) ∧
    (∃ (d : Dev) (cause : Nat), d.mpHeld = false ∧ cause < 16) :=
  ⟨⟨st { fields [(Reg.MP_STS_RUNNING, 1)] awake with mp := { pc := 0x20010000, cyc := 0x1FFFFFFF0, timerCmp := 0x10 } }, by decide +kernel⟩,
   ⟨st { fields [(Reg.MP_STS_RUNNING, 1)] awake with mp := { pc := 0x20010000 } }, by decide +kernel⟩,
   ⟨st { fields [(Reg.MP_STS_RUNNING, 1)] awake with mp := { pc := 0x20010000 }, unlocks := [.client 7] }, (.client 7), by decide +kernel⟩,
   ⟨(st { fields [(Reg.MP_STS_RUNNING, 1), (Reg.DBG_CTL_HALT_ON_RESET, 0)] awake with mp := { pc := 0x20010000, g := [0, 0, 7, 0, 0, 0, 0, 0, 0, 0, 0, 0, 0, 0, 0, 0] } }).dev, 3, by decide +kernel⟩⟩

theorem witness_MpPeripherals_1 :
    (∃ (s : State) (who : Who) (unit : Fin 16) (reg : Fin 3) (value : Word), s.ready = true ∧ s.dev.takesWrite who (Reg.PATCH_ADDR unit.val + 4 * reg.val) value = true) ∧
    (∃ (d : Dev) (u : Fin 16) (e : PatchOld), d.failed (Reg.PATCH_ADDR u.val) = false ∧ d.failed (Reg.PATCH_VAL u.val) = false ∧ d.failed (Reg.PATCH_CTL u.val) = false ∧ e.unit = u.val) ∧
    (∃ (s : State) (who : Who), s.ready = true ∧ s.dev.takes who Reg.FLASH_CMD_ERASE = true ∧ s.dev.flashBusy = false ∧ s.dev.inRunningSlot (s.dev.get Reg.FLASH_ADDR_ADDR) = false) ∧
    (∃ (s : State) (who : Who), s.ready = true ∧ s.dev.takes who Reg.FLASH_CMD_PROGRAM = true ∧ s.dev.flashBusy = false ∧ s.dev.inRunningSlot (s.dev.get Reg.FLASH_ADDR_ADDR) = false ∧ (List.range 8).all (fun k => s.dev.flashByte (s.dev.get Reg.FLASH_ADDR_ADDR / 8 * 8 + k) == 0xFF) = true) :=
  ⟨⟨st { fields [] awake with unlocks := [.mp] }, .mp, (3 : Fin 16), (0 : Fin 3), 0x1#32, by decide +kernel⟩,
   ⟨awake, (3 : Fin 16), (⟨3, 0, 0, 0, 0⟩ : PatchOld), by decide +kernel⟩,
   ⟨st { fields [(Reg.FLASH_ADDR_ADDR, 0x5678)] awake with unlocks := [.mp] }, .mp, by decide +kernel⟩,
   ⟨st { fields [(Reg.FLASH_ADDR_ADDR, 0x5678), (Reg.FLASH_DATA_WORD 0, 0x8F9E2DFC)] awake with unlocks := [.mp] }, .mp, by decide +kernel⟩⟩

theorem witness_MpPeripherals_2 :
    (∃ (s : State) (who : Who), s.ready = true ∧ s.dev.flashBusy = false ∧ s.dev.takes who Reg.FLASH_CMD_ERASE = true ∧ s.dev.inRunningSlot (s.dev.get Reg.FLASH_ADDR_ADDR) = true) ∧
    (∃ (s : State) (who : Who), s.ready = true ∧ s.dev.flashBusy = false ∧ s.dev.takes who Reg.FLASH_CMD_PROGRAM = true ∧ s.dev.inRunningSlot (s.dev.get Reg.FLASH_ADDR_ADDR) = true) ∧
    (∃ (s : State) (who : Who), s.ready = true ∧ s.dev.flashBusy = false ∧ s.dev.takes who Reg.FLASH_CMD_PROGRAM = true ∧ s.dev.inRunningSlot (s.dev.get Reg.FLASH_ADDR_ADDR) = false ∧ (List.range 8).any (fun k => s.dev.flashByte (s.dev.get Reg.FLASH_ADDR_ADDR / 8 * 8 + k) != 0xFF) = true) ∧
    (∃ (s : State) (a : Nat) (data : Option (List Byte)), s.live = true ∧ s.dev.mp.flashCmd = some (a, data) ∧ s.dev.mp.stall = none ∧ s.dev.mp.nmi = false) :=
  ⟨⟨st { fields [(Reg.FLASH_ADDR_ADDR, 0x5678)] awake with unlocks := [.mp], mp := { slot := some 0 } }, .mp, by decide +kernel⟩,
   ⟨st { fields [(Reg.FLASH_ADDR_ADDR, 0x5678)] awake with unlocks := [.mp], mp := { slot := some 0 } }, .mp, by decide +kernel⟩,
   ⟨st { fields [(Reg.FLASH_ADDR_ADDR, 0x5678)] awake with unlocks := [.mp], flash := [(0x567F, 0)] }, .mp, by decide +kernel⟩,
   ⟨st { fields [(Reg.FLASH_STS_BUSY, 1)] awake with unlocks := [.mp], mp := { flashCmd := some (0x5000, none) }, flash := [(0x5003, 7)] }, 0x5000, (none : Option (List Byte)), by decide +kernel⟩⟩

theorem witness_MpPeripherals_3 :
    (∃ (s : State) (who : Who) (uart : Fin 4) (data : Byte), s.ready = true ∧ s.dev.takesWrite who (Reg.UART_TXD uart.val) (data.setWidth 32) = true) ∧
    (∃ (s : State) (who : Who) (uart : Fin 4) (data : Byte), s.ready = true ∧ s.dev.csrRefusal who (Reg.UART_TXD uart.val) (data.setWidth 32) = none ∧ 64 ≤ (s.dev.serialSt (.uart uart)).tx.length) ∧
    (∃ (s : State) (who : Who) (uart : Fin 4) (b : Byte) (rest : List Byte), s.ready = true ∧ s.dev.csrReadRefusal who (Reg.UART_RXD uart.val) = none ∧ s.dev.failed (Reg.UART_RXD uart.val) = false ∧ (s.dev.serialSt (.uart uart)).rx = b :: rest) ∧
    (∃ (s : State) (who : Who) (uart : Fin 4), s.ready = true ∧ s.dev.csrReadRefusal who (Reg.UART_RXD uart.val) = none ∧ s.dev.failed (Reg.UART_RXD uart.val) = false ∧ (s.dev.serialSt (.uart uart)).rx = []) :=
  ⟨⟨st { fields [] awake with unlocks := [.mp] }, .mp, (2 : Fin 4), 0x8F#8, by decide +kernel⟩,
   ⟨st { fields [] awake with unlocks := [.mp], serial := [(2, { tx := List.replicate 64 0 })] }, .mp, (2 : Fin 4), 0x8F#8, by decide +kernel⟩,
   ⟨st { fields [] awake with unlocks := [.mp], serial := [(2, { rx := [0x8F, 3] })] }, .mp, (2 : Fin 4), 0x8F#8, [3#8], by decide +kernel⟩,
   ⟨st { fields [] awake with unlocks := [.mp] }, .mp, (2 : Fin 4), by decide +kernel⟩⟩

theorem witness_MpPeripherals_4 :
    (∃ (s : State) (uart : Fin 4), s.ready = true ∧ s.dev.uartOn uart.val = true) ∧
    (∃ (s : State), s.ready = true) ∧
    (∃ (s : State) (who : Who), s.ready = true ∧ s.dev.takes who Reg.XSPI_XFER_GO = true ∧ s.dev.loaderOwnsXspi = true) ∧
    (∃ (s : State) (n : Fin 4) (b : Byte) (rest : List Byte), s.ready = true ∧ s.dev.uartOn n.val = true ∧ s.dev.failed (Reg.UART_CTL n) = false ∧ (s.dev.serialSt (.uart n)).tx = b :: rest) :=
  ⟨⟨st { fields [(Reg.UART_CTL_EN 2, 1), (Reg.UART_CTL_PARITY 2, 1)] awake with unlocks := [.mp], serial := [(2, { rx := List.replicate 63 0 })] }, (2 : Fin 4), by decide +kernel⟩,
   ⟨st { fields [(Reg.I2C_XFER_LEN 3, 5), (Reg.I2C_XFER_LEN 0, 1)] awake with unlocks := [.mp] }, by decide +kernel⟩,
   ⟨st { awake with load := some { kind := 1, src := .flash 0 0 } }, .mp, by decide +kernel⟩,
   ⟨st { fields [(Reg.UART_CTL_EN 2, 1)] awake with unlocks := [.mp], serial := [(2, { tx := [7] })] }, (2 : Fin 4), 7#8, ([] : List Byte), by decide +kernel⟩⟩

theorem witness_MpPeripherals_5 :
    (∃ (s : State), s.ready = true) ∧
    (∃ (s : State) (port : Serial), s.ready = true ∧ s.dev.failed (Dev.serialCtl port) = true) ∧
    (∃ (s : State) (port : Fin 4), s.ready = true ∧ s.dev.ctlOn (Reg.I2C_CTL_TGT_EN port.val) = true) :=
  ⟨⟨st { fields [(Reg.I2C_XFER_LEN 3, 2), (Reg.I2C_XFER_READ 3, 1), (Reg.I2C_XFER_LEN 1, 2), (Reg.MDIO_XFER_OP 1, 3)] awake with unlocks := [.mp], serial := [(5, { busy := true, tx := [1, 2, 3] }), (7, { busy := true }), (9, { busy := true }), (10, { busy := true }), (13, { busy := true })] }, by decide +kernel⟩,
   ⟨st { fields [] awake with unlocks := [.mp], parityFailed := [Reg.XSPI_CTL], serial := [(10, { busy := true })] }, (.xspi : Serial), by decide +kernel⟩,
   ⟨st { fields [(Reg.I2C_CTL_TGT_EN 3, 1)] awake with unlocks := [.mp] }, (3 : Fin 4), by decide +kernel⟩⟩

theorem witness_DebugPort_1 :
    (∃ (s : State) (who : Who), s.ready = true ∧ s.dev.takes who Reg.DBG_CTL_HALT = true) ∧
    (∃ (d : Dev) (expiry : Bool), d.mpHeld = false ∧ (expiry = false ∨ d.wdtCounts = false)) ∧
    (∃ (d : Dev), d.wdtCounts = true ∧ d.mpHeld = false) ∧
    (∃ (s : State) (c : Nat), s.ready = true ∧ s.dev.mp.haltDue = some c ∧ s.dev.haltNow = true ∧ s.dev.halted = false) :=
  ⟨⟨st { fields [(Reg.WDT_CTL_EN, 1), (Reg.WDT_STS_STAGE, 0)] awake with unlocks := [.mp] }, .mp, by decide +kernel⟩,
   ⟨(st { fields [] awake with unlocks := [.mp] }).dev, false, by decide +kernel⟩,
   ⟨fields [(Reg.WDT_CTL_EN, 1), (Reg.WDT_STS_STAGE, 0)] awake, by decide +kernel⟩,
   ⟨st { fields [] awake with unlocks := [.mp], mp := { haltDue := some 1 } }, 1, by decide +kernel⟩⟩

theorem witness_DebugPort_2 :
    (∃ (c : Nat), c < 8) ∧
    (∃ (s : State) (who : Who), s.ready = true ∧ s.dev.takes who Reg.DBG_CTL_RESUME = true ∧ s.dev.halted = true ∧ s.dev.on Reg.DBG_STS_DBUSY = false) ∧
    (∃ (s : State) (who : Who) (o : Nat) (i : MpInsn), s.ready = true ∧ s.dev.takes who Reg.DBG_CTL_STEP = true ∧ s.dev.halted = true ∧ s.dev.on Reg.DBG_STS_DBUSY = false ∧ s.dev.mp.pc.toNat % 4 = 0 ∧ s.dev.mpPlace s.dev.mp.pc = .sram o ∧ ((((s.dev.writtenCmd who Reg.DBG_CTL_STEP).setMp { s.dev.mp with stepping := true }).raise Reg.DBG_STS_DBUSY).readBytes (.hs 0) o 4).1.any (fun b => b.2) = false ∧ mpDecode (BitVec.ofNat 32 (ofLe (((((s.dev.writtenCmd who Reg.DBG_CTL_STEP).setMp { s.dev.mp with stepping := true }).raise Reg.DBG_STS_DBUSY).readBytes (.hs 0) o 4).1.map (fun b => b.1)))) = some i) ∧
    (∃ (s : State) (who : Who) (i : MpInsn), s.ready = true ∧ s.dev.takes who Reg.DBG_CTL_DINSTR_GO = true ∧ s.dev.halted = true ∧ s.dev.on Reg.DBG_STS_DBUSY = false ∧ mpDecode (s.dev.word Reg.DINSTR) = some i ∧ Dev.fedRefused i = false) :=
  ⟨⟨2, by decide +kernel⟩,
   ⟨st { fields [(Reg.DBG_STS_HALTED, 1), (Reg.WDT_STS_REMAIN, 8), (Reg.WDT_GRACE_GRACE, 9), (Reg.WDT_STS_FROZEN, 1)] awake with unlocks := [.mp], mp := { pc := 0x20010000 } }, .mp, by decide +kernel⟩,
   ⟨st (Dev.storeBytes (st { fields [(Reg.DBG_STS_HALTED, 1)] awake with unlocks := [.mp], mp := { pc := 0x20010000 } }).dev (.hs 0) 0x10000 [0x05, 0x00, 0x80, 0x08]), .mp, 0x10000, (.alui .addi 2 0 5 : MpInsn), by decide +kernel⟩,
   ⟨st { fields [(Reg.DBG_STS_HALTED, 1), (Reg.DINSTR_WORD, 0x08800005)] awake with unlocks := [.mp], mp := { pc := 0x20010000 } }, .mp, (.alui .addi 2 0 5 : MpInsn), by decide +kernel⟩⟩

theorem witness_DebugPort_3 :
    (∃ (s : State) (who : Who), s.ready = true ∧ s.dev.takes who Reg.DBG_CTL_DINSTR_GO = true ∧ s.dev.halted = true ∧ s.dev.on Reg.DBG_STS_DBUSY = false) ∧
    (∃ (s : State), s.ready = true ∧ s.dev.leashBusy = true) ∧
    (∃ (s : State) (who : Who), s.ready = true ∧ s.dev.takes who Reg.DBG_CTL_DBG_RESET = true) ∧
    (∃ (s : State) (who : Who), s.ready = true ∧ s.dev.takes who Reg.DBM_CTL_GO = true ∧ s.dev.on Reg.DBM_STS_BUSY = false ∧ s.dev.on Reg.DBM_CTL_WRITE = false) :=
  ⟨⟨st { fields [(Reg.DBG_STS_HALTED, 1), (Reg.DINSTR_WORD, 0x84000005)] awake with unlocks := [.mp], mp := { pc := 0x20010000 } }, .mp, by decide +kernel⟩,
   ⟨st { fields [] awake with unlocks := [.mp] }, by decide +kernel⟩,
   ⟨st { fields [] awake with unlocks := [.mp] }, .mp, by decide +kernel⟩,
   ⟨st { fields [(Reg.DBM_ADDR_LO_ADDR, 0x44), (Reg.DBM_CTL_DBM_BE, 15)] awake with unlocks := [.mp] }, .mp, by decide +kernel⟩⟩

theorem witness_DebugPort_4 :
    (∃ (s : State) (who : Who), s.ready = true ∧ s.dev.takes who Reg.DBM_CTL_GO = true ∧ s.dev.on Reg.DBM_STS_BUSY = false ∧ s.dev.on Reg.DBM_CTL_WRITE = true) ∧
    (∃ (s : State) (p : Pkt) (rest : List Pkt), s.ready = true ∧ s.dev.on Reg.DBM_STS_BUSY = true ∧ (s.dev.niSt 167).rs = p :: rest) ∧
    (∃ (s : State), s.ready = true ∧ s.dev.tapOwns = false) ∧
    (∃ (s : State), s.ready = true ∧ s.dev.tapOwns = false) :=
  ⟨⟨st { fields [(Reg.DBM_ADDR_LO_ADDR, 0x44), (Reg.DBM_CTL_DBM_BE, 15), (Reg.DBM_CTL_WRITE, 1), (Reg.DBM_DATA_DATA, 0x8F9E2DFC)] awake with unlocks := [.mp] }, .mp, by decide +kernel⟩,
   ⟨st { fields [(Reg.DBM_STS_BUSY, 1)] awake with unlocks := [.mp], ni := [(167, { rs := [{ cmd := 5, data := [1, 2, 3, 4] }] })] }, ({ cmd := 5, data := [1, 2, 3, 4] } : Pkt), ([] : List Pkt), by decide +kernel⟩,
   ⟨up [(Reg.DBG_FUSE_JTAG_DBG, 0)], by decide +kernel⟩,
   ⟨st awake, by decide +kernel⟩⟩

theorem witness_DebugPort_5 :
    (∃ (s : State), s.live = true) ∧
    (∃ (s : State), s.live = true ∧ s.dev.tapOwns = true) ∧
    (∃ (s : State), s.live = true ∧ s.dev.tap.ir = 0x20) ∧
    (∃ (s : State) (who : Who), s.ready = true ∧ s.dev.takes who Reg.WDT_CTL_KICK = true) :=
  ⟨⟨up [(Reg.FF_STS_HOLD 16, 0)], by decide +kernel⟩,
   ⟨st { awake with tap := { ir := 4 } }, by decide +kernel⟩,
   ⟨st { awake with tap := { ir := 0x20 } }, by decide +kernel⟩,
   ⟨st { fields [(Reg.WDT_CTL_EN, 1), (Reg.WDT_TIMEOUT_TIMEOUT, 99), (Reg.WDT_STS_STAGE, 0)] awake with unlocks := [.mp] }, .mp, by decide +kernel⟩⟩

theorem witness_DebugPort_6 :
    (∃ (s : State) (who : Who), s.ready = true ∧ s.dev.takes who Reg.WDT_CTL_KICK = true) ∧
    (∃ (d : Dev), d.wdtCounts = true) ∧
    (∃ (s : State) (who : Who) (value : Word), s.ready = true ∧ s.dev.takesWrite who Reg.WDT_CTL value = true ∧ (cmdBits Reg.WDT_CTL value).isEmpty = true) ∧
    (∃ (s : State) (value : Word), s.ready = true ∧ s.dev.on Reg.WDT_CTL_LOCK = true ∧ fieldOf value 0 2 ≠ s.dev.get Reg.WDT_CTL_EN + 2) :=
  ⟨⟨st { fields [(Reg.WDT_TIMEOUT_TIMEOUT, 99), (Reg.WDT_STS_STAGE, 1), (Reg.WDT_CTL_LOCK, 0)] awake with unlocks := [.mp] }, .mp, by decide +kernel⟩,
   ⟨fields [(Reg.WDT_CTL_EN, 1)] awake, by decide +kernel⟩,
   ⟨st { fields [] awake with unlocks := [.mp] }, .mp, 1#32, by decide +kernel⟩,
   ⟨up [(Reg.WDT_CTL_LOCK, 1), (Reg.WDT_CTL_EN, 1)], 2#32, by decide +kernel⟩⟩

theorem witness_DebugPort_7 :
    (∃ (s : State), s.ready = true ∧ s.dev.wdtCounts = true ∧ s.dev.on Reg.WDT_STS_STAGE = false ∧ s.dev.mpAtBoundary = true ∧ s.dev.mp.stepping = false) ∧
    (∃ (s : State), s.live = true ∧ s.dev.wdtCounts = true ∧ s.dev.on Reg.WDT_STS_STAGE = true) :=
  ⟨⟨st { fields [(Reg.WDT_CTL_EN, 1), (Reg.WDT_TIMEOUT_TIMEOUT, 99)] awake with mp := { pc := 0x20010000, exc := false } }, by decide +kernel⟩,
   ⟨up [(Reg.WDT_CTL_EN, 1), (Reg.WDT_STS_STAGE, 1)], by decide +kernel⟩⟩

theorem witness_PackMembership_1 :
    (∃ (s : State), s.ready = true ∧ s.dev.packOn = true) ∧
    (∃ (s : State) (who : Who), s.ready = true ∧ s.dev.takesField who Reg.PACK_CTL_EN 1 = true ∧ s.dev.packOn = false ∧ (s.dev.writtenField who Reg.PACK_CTL_EN 1).packOn = true) ∧
    (∃ (s : State), s.ready = true ∧ s.dev.packOn = true ∧ s.dev.on Reg.PACK_STS_JOINED = false ∧ s.dev.on Reg.PACK_STS_REFUSED = false ∧ s.dev.pack.lead = none ∧ s.dev.fwImage ≠ [] ∧ s.dev.pack.roster = []) ∧
    (∃ (s : State), s.ready = true ∧ s.dev.packOn = true ∧ s.dev.on Reg.PACK_STS_JOINED = false ∧ s.dev.on Reg.PACK_STS_REFUSED = false ∧ s.dev.pack.lead = none ∧ s.dev.fwImage = []) :=
  ⟨⟨st { fields [(Reg.PACK_CTL_EN, 1), (Reg.PACK_IDS_PACK_ID, 9), (Reg.PACK_IDS_MEMBER, 5), (Reg.PACK_STS_JOINED, 1), (Reg.PACK_STS_IS_LEAD, 0), (Reg.PORT_STS_LINK_UP 0, 1)] awake with unlocks := [.mp], fwImage := [1] }, by decide +kernel⟩,
   ⟨st { fields [(Reg.PACK_IDS_PACK_ID, 9), (Reg.PACK_IDS_MEMBER, 5), (Reg.PORT_STS_LINK_UP 0, 1)] awake with unlocks := [.mp], fwImage := [1] }, .mp, by decide +kernel⟩,
   ⟨st { fields [(Reg.PACK_CTL_EN, 1), (Reg.PACK_IDS_PACK_ID, 9), (Reg.PACK_IDS_MEMBER, 5), (Reg.PACK_STS_JOINED, 1), (Reg.PACK_STS_JOINED, 0)] awake with unlocks := [.mp], fwImage := [1] }, by decide +kernel⟩,
   ⟨st { fields [(Reg.PACK_CTL_EN, 1), (Reg.PACK_IDS_PACK_ID, 9), (Reg.PACK_IDS_MEMBER, 5), (Reg.PACK_STS_JOINED, 1), (Reg.PACK_STS_JOINED, 0)] awake with unlocks := [.mp], fwImage := [] }, by decide +kernel⟩⟩

theorem witness_PackMembership_2 :
    (∃ (s : State) (member : Fin 4096), s.ready = true ∧ (s.dev.rosterEntry member.val).heard = true ∧ (s.dev.rosterEntry member.val).reachable = true) ∧
    (∃ (d : Dev) (l : Nat), d.electedLead = some l) ∧
    (∃ (s : State) (d2 : Dev), s.ready = true ∧ s.dev.packOn = true ∧ s.dev.on Reg.PACK_STS_REFUSED = false ∧ d2 = s.dev.packElect.packSelfCheck.packCensus) ∧
    (∃ (s : State) (d1 : Dev), s.ready = true ∧ s.dev.packOn = true ∧ s.dev.on Reg.PACK_STS_REFUSED = true ∧ s.dev.refuseHolds (s.dev.get Reg.PACK_STS_REFUSE_CAUSE) = false ∧ s.dev.pack.lead = none ∧ d1 = (((s.dev.clear Reg.PACK_STS_REFUSED).clear Reg.PACK_STS_REFUSE_CAUSE).packElect.packSelfCheck).packCensus ∧ d1.packStateOf = d1.get Reg.PACK_STS_STATE) :=
  ⟨⟨st { fields [(Reg.PACK_CTL_EN, 1), (Reg.PACK_IDS_PACK_ID, 9), (Reg.PACK_IDS_MEMBER, 5), (Reg.PACK_STS_JOINED, 1)] awake with unlocks := [.mp], fwImage := [1], pack := { roster := [(7, { who := { mac := 77, joined := true, prio := 3 }, heard := true, reachable := true })], lead := some 7 } }, (7 : Fin 4096), by decide +kernel⟩,
   ⟨(st { fields [(Reg.PACK_CTL_EN, 1), (Reg.PACK_IDS_PACK_ID, 9), (Reg.PACK_IDS_MEMBER, 5), (Reg.PACK_STS_JOINED, 1)] awake with unlocks := [.mp], fwImage := [1], pack := { roster := [(7, { who := { mac := 77, joined := true, prio := 3 }, heard := true, reachable := true })], lead := some 7 } }).dev, 7, by decide +kernel⟩,
   ⟨st { fields [(Reg.PACK_CTL_EN, 1), (Reg.PACK_IDS_PACK_ID, 9), (Reg.PACK_IDS_MEMBER, 5), (Reg.PACK_STS_JOINED, 1), (Reg.PACK_STS_TIME_VALID, 1), (Reg.PACK_STS_STATE, 0), (Reg.PACK_PARAM_PACK_SIZE, 8)] awake with unlocks := [.mp], fwImage := [1], pack := { mine := some { req := none, params := (⟨2, 33, 1000, 0⟩ : PbParams) } } }, (st { fields [(Reg.PACK_CTL_EN, 1), (Reg.PACK_IDS_PACK_ID, 9), (Reg.PACK_IDS_MEMBER, 5), (Reg.PACK_STS_JOINED, 1), (Reg.PACK_STS_TIME_VALID, 1), (Reg.PACK_STS_STATE, 0), (Reg.PACK_PARAM_PACK_SIZE, 8)] awake with unlocks := [.mp], fwImage := [1], pack := { mine := some { req := none, params := (⟨2, 33, 1000, 0⟩ : PbParams) } } } : State).dev.packElect.packSelfCheck.packCensus, by decide +kernel, by decide +kernel, by decide +kernel, rfl⟩,
   ⟨st { fields [(Reg.PACK_CTL_EN, 1), (Reg.PACK_IDS_PACK_ID, 9), (Reg.PACK_IDS_MEMBER, 5), (Reg.PACK_STS_JOINED, 1), (Reg.PACK_STS_REFUSED, 1), (Reg.PACK_STS_REFUSE_CAUSE, 2), (Reg.PACK_STS_JOINED, 0)] awake with unlocks := [.mp], fwImage := [1] }, ((((st { fields [(Reg.PACK_CTL_EN, 1), (Reg.PACK_IDS_PACK_ID, 9), (Reg.PACK_IDS_MEMBER, 5), (Reg.PACK_STS_JOINED, 1), (Reg.PACK_STS_REFUSED, 1), (Reg.PACK_STS_REFUSE_CAUSE, 2), (Reg.PACK_STS_JOINED, 0)] awake with unlocks := [.mp], fwImage := [1] } : State).dev.clear Reg.PACK_STS_REFUSED).clear Reg.PACK_STS_REFUSE_CAUSE).packElect.packSelfCheck).packCensus, by decide +kernel, by decide +kernel, by decide +kernel, by decide +kernel, by decide +kernel, rfl, by decide +kernel⟩⟩

theorem witness_PackMembership_3 :
    (∃ (s : State), s.ready = true) ∧
    (∃ (s : State) (seq : BitVec 32) (bs : List Byte), s.ready = true ∧ s.dev.pack.discover = some seq.toNat ∧ bs.length = 116) ∧
    (∃ (d : Dev) (bs : List Byte), d.packOn = true ∧ bs.length = 96 ∧ leAt bs 8 2 = d.ctl Reg.PACK_IDS_PACK_ID ∧ leAt bs 10 2 % 4096 ≠ d.ownMember) :=
  ⟨⟨st { fields [(Reg.PACK_CTL_EN, 1), (Reg.PACK_IDS_PACK_ID, 9), (Reg.PACK_IDS_MEMBER, 5), (Reg.PACK_STS_JOINED, 1), (Reg.PACK_SCOPE_MASK 0, 5)] awake with unlocks := [.mp], fwImage := [1] }, by decide +kernel⟩,
   ⟨st { fields [(Reg.PACK_CTL_EN, 1), (Reg.PACK_IDS_PACK_ID, 9), (Reg.PACK_IDS_MEMBER, 5), (Reg.PACK_STS_JOINED, 1), (Reg.PACK_STS_JOINED, 0)] awake with unlocks := [.mp], fwImage := [1], pack := { discover := some 4 } }, 4#32, (List.replicate 20 0 ++ (leBytes 8 7 ++ leBytes 2 9 ++ leBytes 2 7 ++ leBytes 1 3 ++ leBytes 1 1 ++ leBytes 1 17 ++ leBytes 1 0 ++ leBytes 2 0 ++ leBytes 78 0)), by decide +kernel⟩,
   ⟨(st { fields [(Reg.PACK_CTL_EN, 1), (Reg.PACK_IDS_PACK_ID, 9), (Reg.PACK_IDS_MEMBER, 5), (Reg.PACK_STS_JOINED, 1)] awake with unlocks := [.mp], fwImage := [1] }).dev, (leBytes 8 7 ++ leBytes 2 9 ++ leBytes 2 7 ++ leBytes 1 3 ++ leBytes 1 1 ++ leBytes 1 1 ++ leBytes 1 0 ++ leBytes 2 0 ++ leBytes 78 0), by decide +kernel⟩⟩

theorem witness_PackTimeAndBarriers_1 :
    (∃ (s : State) (off : Int), s.ready = true ∧ s.dev.packOn = true ∧ s.dev.on Reg.PACK_STS_IS_LEAD = false ∧ (6400 < off.natAbs ∨ s.dev.pack.stepNext = true)) ∧
    (∃ (s : State) (off : Int), s.ready = true ∧ s.dev.packOn = true ∧ s.dev.on Reg.PACK_STS_IS_LEAD = false ∧ off.natAbs ≤ 6400 ∧ s.dev.pack.stepNext = false) ∧
    (∃ (s : State), s.ready = true ∧ s.dev.packOn = true ∧ s.dev.on Reg.PACK_STS_IS_LEAD = false) ∧
    (∃ (s : State), s.ready = true ∧ s.dev.packOn = true) :=
  ⟨⟨st { fields [(Reg.PACK_CTL_EN, 1), (Reg.PACK_IDS_PACK_ID, 9), (Reg.PACK_IDS_MEMBER, 5), (Reg.PACK_STS_JOINED, 1)] awake with unlocks := [.mp], fwImage := [1], pack := { stepNext := false } }, (-6401), by decide +kernel⟩,
   ⟨st { fields [(Reg.PACK_CTL_EN, 1), (Reg.PACK_IDS_PACK_ID, 9), (Reg.PACK_IDS_MEMBER, 5), (Reg.PACK_STS_JOINED, 1)] awake with unlocks := [.mp], fwImage := [1] }, (-6400), by decide +kernel⟩,
   ⟨st { fields [(Reg.PACK_CTL_EN, 1), (Reg.PACK_IDS_PACK_ID, 9), (Reg.PACK_IDS_MEMBER, 5), (Reg.PACK_STS_JOINED, 1), (Reg.PACK_STS_TIME_SUSPECT, 1), (Reg.PACK_TIMING_OFFSET_BOUND_NS, 100)] awake with unlocks := [.mp], fwImage := [1], pack := { beyond := 2, bounded := 2 } }, by decide +kernel⟩,
   ⟨st { fields [(Reg.PACK_CTL_EN, 1), (Reg.PACK_IDS_PACK_ID, 9), (Reg.PACK_IDS_MEMBER, 5), (Reg.PACK_STS_JOINED, 1), (Reg.PACK_STS_IS_LEAD, 1)] awake with unlocks := [.mp], fwImage := [1] }, by decide +kernel⟩⟩

theorem witness_PackTimeAndBarriers_2 :
    (∃ (s : State), s.ready = true ∧ s.dev.packOn = true ∧ s.dev.on Reg.PACK_STS_IS_LEAD = false ∧ s.dev.on Reg.PACK_STS_TIME_SUSPECT = false) ∧
    (∃ (s : State) (b : MyBarrier) (m : Nat), s.ready = true ∧ s.dev.packOn = true ∧ s.dev.pack.mine = some b ∧ s.dev.pack.lead = some m ∧ m ≠ s.dev.ownMember) ∧
    (∃ (s : State) (b : MyBarrier), s.ready = true ∧ s.dev.pack.mine = some b) ∧
    (∃ (s : State) (r : WbReq) (p : PbParams) (m : Nat), s.ready = true ∧ s.dev.packOn = true ∧ s.dev.on Reg.PACK_STS_IS_LEAD = true ∧ s.dev.wbDiscard r.msg = none ∧ r.msg.op = 2 ∧ r.msg.resp = false ∧ r.msg.index = 0x7201 ∧ r.msg.sub = 0 ∧ r.msg.payload.length = 24 ∧ p = PbParams.parse r.msg.payload ∧ m = leAt r.msg.payload 20 2 % 4096 ∧ s.dev.pack.closed = [] ∧ s.dev.pack.opened = [] ∧ Dev.pbFull ⟨p, s.dev.pbRoll, [m]⟩ = false) :=
  ⟨⟨st { fields [(Reg.PACK_CTL_EN, 1), (Reg.PACK_IDS_PACK_ID, 9), (Reg.PACK_IDS_MEMBER, 5), (Reg.PACK_STS_JOINED, 1), (Reg.PACK_STS_TIME_VALID, 1)] awake with unlocks := [.mp], fwImage := [1] }, by decide +kernel⟩,
   ⟨st { fields [(Reg.PACK_CTL_EN, 1), (Reg.PACK_IDS_PACK_ID, 9), (Reg.PACK_IDS_MEMBER, 5), (Reg.PACK_STS_JOINED, 1), (Reg.PORT_STS_LINK_UP 0, 1)] awake with unlocks := [.mp], fwImage := [1], pack := { roster := [(7, { who := { mac := 77, joined := true, prio := 3 }, heard := true, reachable := true })], lead := some 7, mine := some { req := none, params := (⟨2, 33, 1000, 0⟩ : PbParams) } } }, ({ req := none, params := (⟨2, 33, 1000, 0⟩ : PbParams) } : MyBarrier), 7, by decide +kernel⟩,
   ⟨st { fields [(Reg.PACK_CTL_EN, 1), (Reg.PACK_IDS_PACK_ID, 9), (Reg.PACK_IDS_MEMBER, 5), (Reg.PACK_STS_JOINED, 1)] awake with unlocks := [.mp], fwImage := [1], pack := { mine := some { req := none, params := (⟨2, 33, 1000, 0⟩ : PbParams) } } }, ({ req := none, params := (⟨2, 33, 1000, 0⟩ : PbParams) } : MyBarrier), by decide +kernel⟩,
   ⟨st { fields [(Reg.PACK_CTL_EN, 1), (Reg.PACK_IDS_PACK_ID, 9), (Reg.PACK_IDS_MEMBER, 5), (Reg.PACK_STS_JOINED, 1), (Reg.PACK_STS_IS_LEAD, 1)] awake with unlocks := [.mp], fwImage := [1], pack := { roster := [(7, { who := { mac := 77, joined := true, prio := 3 }, heard := true, reachable := true })], lead := some 5 } }, ({ who := .client 77, msg := { op := 2, index := 0x7201, packId := 9, member := 5, length := 24, payload := (PbParams.arrival ⟨2, 33, 1000, 0⟩ 7) } } : WbReq), (⟨2, 33, 1000, 0⟩ : PbParams), 7, by decide +kernel⟩⟩

theorem witness_PackTimeAndBarriers_3 :
    (∃ (d : Dev) (p : PbParams) (m : Nat) (b : OpenBarrier), d.pack.closed = [] ∧ d.pack.opened = [b] ∧ b.params = p ∧ b.arrived.contains m = false ∧ (∀ k ∈ b.roll, k = m ∨ k ∈ b.arrived)) ∧
    (∃ (s : State) (bid : BitVec 32) (b : OpenBarrier), s.ready = true ∧ s.dev.pack.opened = [b] ∧ b.params.bid = bid.toNat) ∧
    (∃ (d : Dev) (b : OpenBarrier), d.pack.opened = [b]) ∧
    (∃ (d : Dev) (m : Nat) (o : OpenBarrier), (d.rosterEntry m).who.divergent = true ∧ d.pack.opened = [o]) :=
  ⟨⟨(st { fields [(Reg.PACK_CTL_EN, 1), (Reg.PACK_IDS_PACK_ID, 9), (Reg.PACK_IDS_MEMBER, 5), (Reg.PACK_STS_JOINED, 1), (Reg.PACK_STS_IS_LEAD, 1)] awake with unlocks := [.mp], fwImage := [1], pack := { roster := [(7, { who := { mac := 77, joined := true, prio := 3 }, heard := true, reachable := true })], lead := some 5, opened := [⟨(⟨2, 33, 1000, 0⟩ : PbParams), [5, 7], [5]⟩] } }).dev, (⟨2, 33, 1000, 0⟩ : PbParams), 7, (⟨(⟨2, 33, 1000, 0⟩ : PbParams), [5, 7], [5]⟩ : OpenBarrier), by decide +kernel⟩,
   ⟨st { fields [(Reg.PACK_CTL_EN, 1), (Reg.PACK_IDS_PACK_ID, 9), (Reg.PACK_IDS_MEMBER, 5), (Reg.PACK_STS_JOINED, 1), (Reg.PACK_STS_IS_LEAD, 1)] awake with unlocks := [.mp], fwImage := [1], pack := { roster := [(7, { who := { mac := 77, joined := true, prio := 3 }, heard := true, reachable := true })], lead := some 5, opened := [⟨(⟨2, 33, 1000, 0⟩ : PbParams), [5, 7], [5]⟩] } }, 33#32, (⟨(⟨2, 33, 1000, 0⟩ : PbParams), [5, 7], [5]⟩ : OpenBarrier), by decide +kernel⟩,
   ⟨(st { fields [(Reg.PACK_CTL_EN, 1), (Reg.PACK_IDS_PACK_ID, 9), (Reg.PACK_IDS_MEMBER, 5), (Reg.PACK_STS_JOINED, 1), (Reg.PACK_STS_IS_LEAD, 1)] awake with unlocks := [.mp], fwImage := [1], pack := { roster := [(7, { who := { mac := 77, joined := true, prio := 3 }, heard := true, reachable := true })], lead := some 5, opened := [⟨(⟨2, 33, 1000, 0⟩ : PbParams), [5, 7], [5]⟩] } }).dev, (⟨(⟨2, 33, 1000, 0⟩ : PbParams), [5, 7], [5]⟩ : OpenBarrier), by decide +kernel⟩,
   ⟨(st { fields [(Reg.PACK_CTL_EN, 1), (Reg.PACK_IDS_PACK_ID, 9), (Reg.PACK_IDS_MEMBER, 5), (Reg.PACK_STS_JOINED, 1)] awake with unlocks := [.mp], fwImage := [1], pack := { roster := [(7, { who := { divergent := true } })], opened := [⟨(⟨2, 33, 1000, 0⟩ : PbParams), [5, 7], [5]⟩] } }).dev, 7, (⟨(⟨2, 33, 1000, 0⟩ : PbParams), [5, 7], [5]⟩ : OpenBarrier), by decide +kernel⟩⟩

theorem witness_PackTimeAndBarriers_4 :
    (∃ (s : State) (bid : BitVec 32) (b : DoneBarrier), s.ready = true ∧ s.dev.pack.closed = [b] ∧ b.params.bid = bid.toNat ∧ b.copies ≠ 0) ∧
    (∃ (s : State) (b : MyBarrier) (absent : Nat), s.ready = true ∧ s.dev.pack.mine = some b ∧ b.released = some absent ∧ b.params.kind = 3 ∧ b.params.release ≤ s.dev.packTime ∧ s.dev.noc.phase = 0) ∧
    (∃ (d : Dev) (b : MyBarrier), d.pack.mine = some b) ∧
    (∃ (d : Dev) (b : MyBarrier) (absent : Nat), d.pack.mine = some b ∧ absent < 8192) :=
  ⟨⟨st { fields [(Reg.PACK_CTL_EN, 1), (Reg.PACK_IDS_PACK_ID, 9), (Reg.PACK_IDS_MEMBER, 5), (Reg.PACK_STS_JOINED, 1), (Reg.PORT_STS_LINK_UP 1, 1)] awake with unlocks := [.mp], fwImage := [1], pack := { closed := [⟨(⟨2, 33, 1000, 0⟩ : PbParams), 0, 2⟩] } }, 33#32, (⟨(⟨2, 33, 1000, 0⟩ : PbParams), 0, 2⟩ : DoneBarrier), by decide +kernel⟩,
   ⟨st { fields [(Reg.PACK_CTL_EN, 1), (Reg.PACK_IDS_PACK_ID, 9), (Reg.PACK_IDS_MEMBER, 5), (Reg.PACK_STS_JOINED, 1), (Reg.PACK_TIME_WORD 0, 900)] awake with unlocks := [.mp], fwImage := [1], pack := { mine := some { req := none, params := ⟨3, 33, 1000, 800⟩, released := some 2 } } }, ({ req := none, params := ⟨3, 33, 1000, 800⟩, released := some 2 } : MyBarrier), 2, by decide +kernel⟩,
   ⟨(st { fields [(Reg.PACK_CTL_EN, 1), (Reg.PACK_IDS_PACK_ID, 9), (Reg.PACK_IDS_MEMBER, 5), (Reg.PACK_STS_JOINED, 1)] awake with unlocks := [.mp], fwImage := [1], pack := { mine := some { req := none, params := (⟨2, 33, 1000, 0⟩ : PbParams) } } }).dev, ({ req := none, params := (⟨2, 33, 1000, 0⟩ : PbParams) } : MyBarrier), by decide +kernel⟩,
   ⟨(st { fields [(Reg.PACK_CTL_EN, 1), (Reg.PACK_IDS_PACK_ID, 9), (Reg.PACK_IDS_MEMBER, 5), (Reg.PACK_STS_JOINED, 1), (Reg.PB_STS_BUSY, 1)] awake with unlocks := [.mp], fwImage := [1], pack := { mine := some { req := none, params := (⟨2, 33, 1000, 0⟩ : PbParams) } } }).dev, ({ req := none, params := (⟨2, 33, 1000, 0⟩ : PbParams) } : MyBarrier), 3, by decide +kernel⟩⟩

theorem witness_EveryCommandRuns :
    (∃ (s : State), s.live = true) ∧
    (∃ (c : Instr) (s : State), s.dev.start.vauxOn = true ∧ s.railOut = true ∧ (∀ v, c ≠ .vauxPowerOnReset v) ∧ c ≠ .vauxFall ∧ (∀ n, c ≠ .rstnLow n) ∧ c ≠ .rstnHigh ∧ (∀ r, c ≠ .railOutOfRange r) ∧ (∀ r, c ≠ .railInRange r)) ∧
    (∃ (c : Instr) (s : State), s.dev.start.vauxOn = false ∧ (∀ v, c ≠ .vauxPowerOnReset v) ∧ c ≠ .vauxFall ∧ (∀ n, c ≠ .rstnLow n) ∧ c ≠ .rstnHigh ∧ (∀ r, c ≠ .railOutOfRange r) ∧ (∀ r, c ≠ .railInRange r)) :=
  ⟨⟨up [], by decide +kernel⟩,
   ⟨.portLinkDown 0, (st (fields [(Reg.START_STS_RAILS_OK, 0)] awake)), by decide +kernel, by decide +kernel, by simp, by simp, by simp, by simp, by simp, by simp⟩,
   ⟨.portLinkDown 0, (st { awake with start := { awake.start with vauxOn := false } }), by decide +kernel, by simp, by simp, by simp, by simp, by simp, by simp⟩⟩

theorem witness_Time_1 :
    (∃ (d : Dev), d.start.vauxOn = false) ∧
    (∃ (d : Dev), d.start.vauxOn = true ∧ d.calm = true ∧ d.on Reg.CLK_STS_ROOT_LOCK = true ∧ d.wdtFrac + 2 < 390625 ∧ (d.time + 1 - d.rootT0) % 16 ≠ 0) ∧
    (∃ (d : Dev), d.start.vauxOn = true ∧ d.calm = true ∧ d.on Reg.CLK_STS_ROOT_LOCK = true ∧ d.wdtFrac + 2 < 390625 ∧ (d.time + 1 - d.rootT0) % 16 ≠ 0) ∧
    (∃ (d : Dev), d.start.vauxOn = true ∧ d.calm = true ∧ d.on Reg.CLK_STS_ROOT_LOCK = true ∧ d.wdtFrac + 2 < 390625 ∧ (d.time + 1 - d.rootT0) % 16 = 0 ∧ d.mpHeld = false ∧ d.word Reg.PACK_TRIM = 0#32 ∧ d.pack.frac = (0 : Int)) :=
  ⟨⟨{ awake with start := { awake.start with vauxOn := false } }, by decide +kernel⟩,
   ⟨fields [(Reg.ROOT_CNT_WORD 0, 4294967295)] awake, by decide +kernel⟩,
   ⟨{ awake with noc := { awake.noc with phase := 8 * awake.get Reg.CLK_STS_NOC_DIV - 1 } }, by decide +kernel⟩,
   ⟨{ awake with time := 15 }, by decide +kernel⟩⟩

theorem witness_Time_2 :
    ∃ (d : Dev), d.start.vauxOn = true ∧ 390625 ≤ d.wdtFrac + 2 ∧ d.wdtCounts = true ∧ 1 < d.get Reg.WDT_STS_REMAIN :=
  ⟨{ fields [(Reg.WDT_CTL_EN, 1), (Reg.WDT_STS_REMAIN, 9)] awake with wdtFrac := 390624 }, by decide +kernel⟩

theorem witness_ByteCode :
    ∃ (c : BitVec 13) (s : Nat) (q : Bool), s = check4 (c.toNat % 256) ^^^ (c.toNat / 256 % 16) ∧ q = (List.range 13).foldl (fun a i => a ^^ c.getLsbD i) false :=
  ⟨0x1F01#13, check4 ((0x1F01#13 : BitVec 13).toNat % 256) ^^^ ((0x1F01#13 : BitVec 13).toNat / 256 % 16), (List.range 13).foldl (fun a i => a ^^ (0x1F01#13 : BitVec 13).getLsbD i) false, by decide +kernel⟩

theorem witness_StoredBytes :
    ∃ (i j : Fin 13), i ≠ j :=
  ⟨(12 : Fin 13), (0 : Fin 13), by decide +kernel⟩

theorem witness_DramFirewall :
    ∃ (d : Dev) (k : Fin 32) (p : Pkt), p.src < 256 ∧ p.cmd ≤ 3 ∧ d.chRetired k.val = false ∧ d.on Reg.SCRUB_STS_GOLDEN_USABLE = false ∧ d.on Reg.CTX_STS_IN_USE = false ∧ d.failed (Reg.FW_RD k.val (p.src / 32)) = false ∧ d.failed (Reg.FW_WR k.val (p.src / 32)) = false ∧ d.on (Dev.chF Reg.CH_STS_BRINGUP_BUSY k.val) = false :=
  ⟨fields [(Reg.FW_RD_MASK 3 1, 0xFFFFFFFE)] awake, (3 : Fin 32), ({ src := 32, cmd := 0 } : Pkt), by decide +kernel⟩

theorem witness_OutOfRangeWrites :
    (∃ (d : Dev) (who : Who) (off : Nat) (x : Word) (r : RegDef) (f : FieldDef), regAt off = some r ∧ f ∈ r.fields ∧ f.inRange x = false ∧ d.csrRefusal who off x = none ∧ (who = .config ∨ d.csrGuarded off x = false ∨ d.armed who = true) ∧ (d.csrWrite who off x).2 ≠ .busy) ∧
    (∃ (d d1 : Dev) (who : Who) (off : Nat) (x : Word) (pre post : List Word), off % 4 = 0 ∧ off < 0x900000 ∧ pre.length + post.length < 16 ∧ ((pre = [] ∧ d1 = d) ∨ d.csrWriteReq who off pre = (d1, .ok)) ∧ (d1.csrWrite who (off + 4 * pre.length) x).2 = .targetErr) :=
  ⟨⟨awake, Who.mp, 0x20014, 0#32, reg 0x20014, (reg 0x20014).fields.headD ⟨0, 0, .ctl, false, 0, [], false⟩, by decide +kernel⟩,
   ⟨awake, awake, Who.mp, 0x20014, 0#32, ([] : List Word), [1#32], by decide +kernel, by decide +kernel, by decide +kernel, .inl ⟨rfl, rfl⟩, by decide +kernel⟩⟩

theorem witness_NothingLeftToSettle :
    ∃ (s t : State), s.dev.settled = true ∧ step s = .next t :=
  ⟨State.reset, { dev := State.reset.dev.tick }, by decide +kernel, rfl⟩

theorem witness_StoresStayCanonical :
    ∃ (s t : State), s.canonical = true ∧ step s = .next t :=
  ⟨State.reset, { dev := State.reset.dev.tick }, by decide +kernel, rfl⟩

theorem witness_StoresCompareByContents :
    (∃ (f : Nat → Word) (a b : SMap Word), SMap.wf f a = true ∧ SMap.wf f b = true ∧ (∀ k, SMap.get (f k) a k = SMap.get (f k) b k)) ∧
    (∃ (f : Nat → Word) (a : SMap Word), SMap.wf f a = true) ∧
    (∃ (f : Nat → Word) (a : SMap Word) (k j : Nat), SMap.wf f a = true ∧ k ≠ j) :=
  ⟨⟨fun _ => 0#32, [(3, 7#32)], [(3, 7#32)], by decide +kernel, by decide +kernel, fun _ => rfl⟩,
   ⟨(fun _ : Nat => (0#32 : Word)), ([(3, 7#32)] : SMap Word), by decide +kernel⟩,
   ⟨(fun _ : Nat => (0#32 : Word)), ([(3, 7#32)] : SMap Word), 3, 4, by decide +kernel⟩⟩

/-! ## Ill-formed commands, one for each check -/

theorem ill_csrWrite : (Instr.csrWrite .mp 0x100002 [0]).wf = false := by decide +kernel
theorem ill_csrWrite_length : (Instr.csrWrite .mp 0x100000 []).wf = false := by decide +kernel
theorem ill_evtRead : (Instr.evtRead .mp 0x900000).wf = false := by decide +kernel
theorem ill_cntWrite : (Instr.cntWrite .mp 0x100001 0).wf = false := by decide +kernel
theorem ill_parityMismatch : (Instr.parityMismatch 0x900000 .ctl).wf = false := by decide +kernel
theorem ill_tmrVote : (Instr.tmrVote 0x100003 false).wf = false := by decide +kernel
theorem ill_tmrVote_single : (Instr.tmrVote 0 false).wf = false := by decide +kernel
theorem ill_dieTempUpdate : (Instr.dieTempUpdate [0, 0]).wf = false := by decide +kernel
theorem ill_portTxFrame : (Instr.portTxFrame 0 [⟨[0], true, true, 1, false⟩]).wf = false := by decide +kernel
theorem ill_portTxFrame_count :
    (Instr.portTxFrame 0 [⟨List.replicate 128 0, true, true, 128, false⟩]).wf = false := by decide +kernel
theorem ill_read_op : (Instr.read { who := .client 7, msg := { op := 2 } }).wf = false := by decide +kernel
theorem ill_read_who : (Instr.read { who := .mp, msg := { op := 1 } }).wf = false := by decide +kernel
theorem ill_read_index :
    (Instr.read { who := .client 7, msg := { op := 1, index := 2 ^ 16 } }).wf = false := by decide +kernel
theorem ill_response : (Instr.wbResponseReceived { who := .client 7, msg := { op := 1 } }).wf = false := by decide +kernel
theorem ill_userObjectForward :
    (Instr.userObjectForward { who := .client 7, msg := { op := 1, resp := true } }).wf = false := by decide +kernel
theorem ill_ringMeasure : (Instr.ringMeasure 0 1024).wf = false := by decide +kernel
theorem ill_bmScrubRead : (Instr.bmScrubRead 0 [(64, 1)]).wf = false := by decide +kernel
theorem ill_dramScrubRead : (Instr.dramScrubRead 0 [(64, 1)]).wf = false := by decide +kernel
theorem ill_verifyRead : (Instr.verifyRead [(64, 1)]).wf = false := by decide +kernel
theorem ill_marchAccess : (Instr.marchAccess [(64, 1)]).wf = false := by decide +kernel
theorem ill_niRequest : (Instr.niRequest 0 { tag := 2 ^ 12 } 0 true).wf = false := by decide +kernel
theorem ill_rd : (Instr.rd 0 { data := List.replicate 16321 0 }).wf = false := by decide +kernel
theorem ill_laneTxWord : (Instr.laneTxWord (.line 0) [{}, {}] []).wf = false := by decide +kernel
theorem ill_samplePreload : (Instr.samplePreload [(8199, 0)]).wf = false := by decide +kernel
theorem ill_discoverAnswerReceived :
    (Instr.discoverAnswerReceived 0 0 0 (List.replicate 1025 0)).wf = false := by decide +kernel

/-! ## Values from the spec and from the standards it names -/

/-- The answer of a command that runs from a state. -/
def answerOf (i : Instr) (s : State) : Option Code :=
  match exec i s with
  | .next t => some t.dev.answer.code
  | _ => none

/-- The example after R44: the refusal of the initiator precedes the unlock. -/
theorem test_fabric_write_denied :
    answerOf (.csrWrite (.fabric 3) (BitVec.ofNat 24 (Reg.RGN_CTL 3)) [1]) (up []) = some .denied := by decide +kernel

/-- The example after R177: BASE 0x0100, LEN 400, STEP 1, PTR 0x0100 + 390, 256 pending: an APPLY makes PTR 0x0186. -/
theorem test_ag_apply :
    AgSet.applyPending { base := 0x0100, len := 400, step := 1, ptr := 0x0100 + 390, mode := 1, pend := some 256 }
      = { base := 0x0100, len := 256, step := 1, ptr := 0x0186, mode := 1, pend := none } := by decide +kernel

/-- The same example: the advance from offset 399 wraps, and PTR becomes 0x0100. -/
theorem test_ag_wrap :
    AgSet.advance { base := 0x0100, len := 400, step := 1, ptr := 0x0100 + 399, mode := 1, pend := some 256 }
      = ({ base := 0x0100, len := 256, step := 1, ptr := 0x0100, mode := 1, pend := none }, true) := by decide +kernel

/-- The table of R282 by hand for 0x01: c0, c1 and the overall parity c4 are 1. -/
theorem test_encode_byte : encodeByte 0x01 = 0x1301#13 := by decide +kernel

/-- FIPS 180-4: the digest of the empty message begins with CF 83 E1 35. -/
theorem test_sha512 : (sha512 []).take 4 = [0xCF, 0x83, 0xE1, 0x35] := by decide +kernel

/-- The GCM specification, test case 13: AES-256 with key, IV and texts zero or empty. -/
theorem test_gcm_tag : (gcmTag (List.replicate 32 0) (List.replicate 12 0) [] []).take 4 = [0x53, 0x0F, 0x8A, 0xFB] := by
  decide +kernel

/-- R12: region 79 is (15, 4), an edge region with the cells of both card banks (R134). -/
theorem test_region_79 : isEdge 79 = true ∧ ioCells 79 = 48 := by decide +kernel

/-- R340: channel 17 serves the system range from 17 × 0x4000_0000. -/
theorem test_dram_place : awake.dramPlace (17 * 0x40000000 + 0x1240) = some (17, 0x1240) := by decide +kernel

/-- The examples after R512 and R514: LL37_TXP at F5, LL37_RXN at M36, TRSTN at BA10, DONE at AC11. -/
theorem test_ball_lane :
    ballName 6 5 = "F5" ∧ ballAt 6 5 = .lane (.line 37) true false ∧ ballName 12 36 = "M36"
      ∧ ballAt 12 36 = .lane (.line 37) false true := by decide +kernel

theorem test_ball_system :
    ballName 39 10 = "BA10" ∧ ballAt 39 10 = .system 22 ∧ systemSignals[22]? = some "TRSTN" ∧ ballName 22 11 = "AC11"
      ∧ ballAt 22 11 = .system 29 ∧ systemSignals[29]? = some "DONE" := by decide +kernel

end Sys2Proof.Tests
end

section
/-! Regions, groups and the queue: the order of a step (R19, R44), the numbering of regions (R12, R134, R230), and the
blocks and slices of a group (R155, R164). -/

namespace Sys2Proof.Machine

/-! ## One step -/

/-- A step on a queue with a command at its front. -/
theorem step_cons (c : Instr) (rest : List Instr) (d : Dev) :
    step { dev := d, pending := c :: rest } = exec c { dev := d, pending := rest } := rfl

/-- A step on the empty queue (log 2). -/
theorem step_nil (d : Dev) : step { dev := d, pending := [] } = .next { dev := d.tick, pending := [] } := rfl

/-- Settles O48, by the two shapes of the queue. -/
theorem queueStep : Obligations.QueueStep :=
  ⟨step_cons, step_nil⟩

/-! ## Region numbers -/

/-- A region is an edge region by its column alone. -/
theorem isEdge_iff (n : Nat) : isEdge n = true ↔ n % 16 = 0 ∨ n % 16 = 15 := by
  simp [isEdge]

/-- Whole rows below a region do not count. -/
@[simp] theorem isEdge_row_add (y n : Nat) : isEdge (16 * y + n) = isEdge n := by
  simp [isEdge]

/-- A row has two edge regions, its first and its last. -/
theorem countP_isEdge_rows (y : Nat) : (List.range (16 * y)).countP isEdge = 2 * y := by
  induction y with
  | zero => rfl
  | succ y ih =>
    have row : (isEdge ∘ fun x => 16 * y + x) = isEdge := funext (isEdge_row_add y)
    have two : (List.range 16).countP isEdge = 2 := by decide
    rw [Nat.mul_succ, List.range_add, List.countP_append, List.countP_map, row, ih, two, Nat.mul_succ]

/-- The edge regions alone own I/O cells; the two that own 48 stand at the ends of row 4 (R134). -/
theorem ioCells_pos_iff (n : Nat) : 0 < Dev.ioCells n ↔ isEdge n = true := by
  unfold Dev.ioCells
  split
  next corner =>
    have edge : isEdge n = true := by rcases corner with rfl | rfl <;> decide
    simp [edge]
  next => cases isEdge n <;> simp

/-- Seven bits hold every region number. -/
theorem rgnAttachment_number (n : Region) : (rgnAttachment n).1.toNat = n.val :=
  (BitVec.toNat_ofNat n.val 7).trans (Nat.mod_eq_of_lt n.isLt)

/-! ## The blocks and slices of a group -/

/-- Block `4g + k`, and its neighbour LO, which is `k / 2` slices past the group's first. -/
theorem bmAddrSlice_lo (d : Dev) (n g k : Nat) (portB : Bool) (hk : k < 4)
    (src : d.bmBits n (4 * g + k) (Dev.bmPortBase portB + 6) 2 = 1) :
    d.bmAddrSlice n (4 * g + k) portB = some (3 * g + k / 2) := by
  have group : (4 * g + k) / 4 = g := by omega
  have place : (4 * g + k) % 4 = k := by omega
  simp only [Dev.bmAddrSlice, src, group, place]

/-- Neighbour HI is the slice after neighbour LO. -/
theorem bmAddrSlice_hi (d : Dev) (n g k : Nat) (portB : Bool) (hk : k < 4)
    (src : d.bmBits n (4 * g + k) (Dev.bmPortBase portB + 6) 2 = 2) :
    d.bmAddrSlice n (4 * g + k) portB = some (3 * g + (k / 2 + 1)) := by
  have group : (4 * g + k) / 4 = g := by omega
  have place : (4 * g + k) % 4 = k := by omega
  simp only [Dev.bmAddrSlice, src, group, place, Nat.add_assoc]

/-- The table of R155, column LO. -/
theorem neighbourLo_table : ∀ k : Fin 4, [0, 0, 1, 1].getD k.val 0 = k.val / 2 := by decide

/-- The table of R155, column HI. -/
theorem neighbourHi_table : ∀ k : Fin 4, [1, 1, 2, 2].getD k.val 0 = k.val / 2 + 1 := by decide

/-- The first slice of a group reads the group's lower two blocks. -/
theorem sliceBlocks_first (g : Nat) : Dev.sliceBlocks (3 * g) = [4 * g, 4 * g + 1] := by
  simp [Dev.sliceBlocks]

/-- The middle slice of a group reads all four blocks. -/
theorem sliceBlocks_middle (g : Nat) :
    Dev.sliceBlocks (3 * g + 1) = [4 * g, 4 * g + 1, 4 * g + 2, 4 * g + 3] := by
  have group : (3 * g + 1) / 3 = g := by omega
  simp [Dev.sliceBlocks, group]

/-- The last slice of a group reads the group's upper two blocks. -/
theorem sliceBlocks_last (g : Nat) : Dev.sliceBlocks (3 * g + 2) = [4 * g + 2, 4 * g + 3] := by
  have group : (3 * g + 2) / 3 = g := by omega
  simp [Dev.sliceBlocks, group]

/-- Settles O53, from the columns of the edge regions, the count of them by rows, and the neighbours that a group's
blocks and slices have. -/
theorem regionGroups : Obligations.RegionGroups := by
  refine ⟨⟨?numbers, ?columns, countP_isEdge_rows 8, fun n => ioCells_pos_iff n⟩,
    fun n => ⟨rgnAttachment_number n, isEdge_iff n⟩, ?neighbours, ?blocks⟩
  case numbers =>
    intro n
    have := n.isLt
    omega
  case columns =>
    intro x y
    rw [isEdge_row_add]
    revert x
    decide
  case neighbours =>
    intro d n g k portB
    rw [neighbourLo_table, neighbourHi_table]
    exact ⟨bmAddrSlice_lo d n g k portB k.isLt, bmAddrSlice_hi d n g k portB k.isLt⟩
  case blocks =>
    intro g j
    simp [sliceBlocks_first, sliceBlocks_middle, sliceBlocks_last]

end Sys2Proof.Machine
end

section
/-! The end of a command (R46, R486): what each operation that settling runs leaves waiting, and that no step ends with
a port restart or a warm reset outstanding. -/

namespace Sys2Proof.Machine

/-- What every step of a fold keeps the fold keeps. -/
theorem foldl_keeps {α β γ : Type} (g : β → γ) (f : β → α → β) (h : ∀ b x, g (f b x) = g b) (l : List α) (b : β) :
    g (l.foldl f b) = g b := by
  induction l generalizing b with
  | nil => rfl
  | cons x l ih => rw [List.foldl_cons, ih, h]

namespace Dev


/-- What waits for the end of a command: the restarts of the two ports (R46) and a warm reset (R486). -/
def due (d : Dev) : Option Nat × Option Nat × Option Nat :=
  (d.port0.pendingCtl, d.port1.pendingCtl, d.start.warmDue)

/-- What waits is told by the ports and the start-up engine alone. -/
theorem due_congr {d e : Dev} (h0 : e.port0 = d.port0) (h1 : e.port1 = d.port1) (hs : e.start = d.start) :
    e.due = d.due := by rw [due, due, h0, h1, hs]

/-- A fold whose steps ask for nothing asks for nothing. -/
@[simp] theorem due_foldl {α : Type} (f : Dev → α → Dev) (h : ∀ a x, (f a x).due = a.due) (l : List α)
    (d : Dev) : (l.foldl f d).due = d.due := foldl_keeps due f h l d

/-- The same where the device is a part of what the fold carries. -/
theorem due_foldl_of {α β : Type} (g : β → Dev) (f : β → α → β) (h : ∀ b x, (g (f b x)).due = (g b).due)
    (l : List α) (b : β) : (g (l.foldl f b)).due = (g b).due := foldl_keeps (fun b => (g b).due) f h l b

/-- A branch that asks for no more than the other asks for nothing. -/
theorem due_ite {c : Prop} [Decidable c] {a b : Dev} (h : b.due = a.due) : (if c then a else b).due = a.due := by
  split
  · rfl
  · exact h

theorem due_ite' {c : Prop} [Decidable c] {a b : Dev} (h : a.due = b.due) : (if c then a else b).due = b.due := by
  split
  · exact h
  · rfl

/-! ## Updates of the parts that hold nothing that waits -/

@[simp] theorem due_withWb (d : Dev) (x : WbSt) : ({ d with wb := x } : Dev).due = d.due := due_congr rfl rfl rfl
@[simp] theorem due_withAnswer (d : Dev) (x : Answer) : ({ d with answer := x } : Dev).due = d.due :=
  due_congr rfl rfl rfl

@[simp] theorem due_withWbAnswer (d : Dev) (x : WbSt) (a : Answer) :
    ({ d with wb := x, answer := a } : Dev).due = d.due :=
  due_congr rfl rfl rfl

@[simp] theorem due_withMarch (d : Dev) (x : Option MarchSt) : ({ d with march := x } : Dev).due = d.due :=
  due_congr rfl rfl rfl

@[simp] theorem due_withLoad (d : Dev) (x : Option LoadSt) : ({ d with load := x } : Dev).due = d.due :=
  due_congr rfl rfl rfl

@[simp] theorem due_withBoot (d : Dev) (x : BootSt) : ({ d with boot := x } : Dev).due = d.due :=
  due_congr rfl rfl rfl

@[simp] theorem due_withScrub (d : Dev) (x : ScrubSt) : ({ d with scrub := x } : Dev).due = d.due :=
  due_congr rfl rfl rfl

@[simp] theorem due_withNoc (d : Dev) (x : NocSt) : ({ d with noc := x } : Dev).due = d.due := due_congr rfl rfl rfl
@[simp] theorem due_withVerify (d : Dev) (x : List VerifySt) : ({ d with verify := x } : Dev).due = d.due :=
  due_congr rfl rfl rfl

@[simp] theorem due_withPwr (d : Dev) (x : PwrSt) : ({ d with pwr := x } : Dev).due = d.due := due_congr rfl rfl rfl

@[simp] theorem due_withStart (d : Dev) (x : StartSt) (h : x.warmDue = d.start.warmDue) :
    ({ d with start := x } : Dev).due = d.due := by simp only [due, h]

@[simp] theorem due_withStripe (d : Dev) (x : List Nat) : ({ d with stripe := x } : Dev).due = d.due :=
  due_congr rfl rfl rfl

@[simp] theorem due_withCsr (d : Dev) (x : SMap Word) : ({ d with csr := x } : Dev).due = d.due :=
  due_congr rfl rfl rfl

@[simp] theorem due_withSlots (d : Dev) (x : SMap Nat) : ({ d with slots := x } : Dev).due = d.due :=
  due_congr rfl rfl rfl

@[simp] theorem due_withAttach (d : Dev) (x : SMap AttachSt) : ({ d with attach := x } : Dev).due = d.due :=
  due_congr rfl rfl rfl

@[simp] theorem due_withLog (d : Dev) (x : List (Nat × Nat)) : ({ d with log := x } : Dev).due = d.due :=
  due_congr rfl rfl rfl

@[simp] theorem due_withCtx (d : Dev) (c : List CtxLine) (x : CtxSt) :
    ({ d with ctxCache := c, ctx := x } : Dev).due = d.due :=
  due_congr rfl rfl rfl

@[simp] theorem due_set (d : Dev) (f : Fld) (v : Nat) : (d.set f v).due = d.due := due_congr rfl rfl rfl
@[simp] theorem due_putWord (d : Dev) (o : Nat) (x : Word) : (d.putWord o x).due = d.due := due_congr rfl rfl rfl
@[simp] theorem due_clear (d : Dev) (f : Fld) : (d.clear f).due = d.due := due_congr rfl rfl rfl
@[simp] theorem due_raise (d : Dev) (f : Fld) : (d.raise f).due = d.due := due_congr rfl rfl rfl
@[simp] theorem due_setBit (d : Dev) (f : Fld) (b : Bool) : (d.setBit f b).due = d.due := due_congr rfl rfl rfl
@[simp] theorem due_count (d : Dev) (f : Fld) (n : Nat) : (d.count f n).due = d.due := due_congr rfl rfl rfl
@[simp] theorem due_count64 (d : Dev) (l h : Fld) (n : Nat) : (d.count64 l h n).due = d.due := by simp [count64]
@[simp] theorem due_setMask (d : Dev) (f : Fld) (k : Nat) (b : Bool) :
    (d.setMask f k b).due = d.due := by simp [setMask]

@[simp] theorem due_cmdDone (d : Dev) (ix sub : Nat) (c : Code) (l : Bool) : (d.cmdDone ix sub c l).due = d.due :=
  due_congr rfl rfl rfl

@[simp] theorem due_freeBelow (d : Dev) (n : Nat) : (d.freeBelow n).2.due = d.due := due_congr rfl rfl rfl
@[simp] theorem due_unfail (d : Dev) (hit : Nat → Bool) : (d.unfail hit).due = d.due := due_congr rfl rfl rfl
@[simp] theorem due_ctlResetWhere (d : Dev) (hit : Nat → Bool) : (d.ctlResetWhere hit).due = d.due :=
  due_congr rfl rfl rfl

@[simp] theorem due_setLane (d : Dev) (l : LaneId) (x : LaneSt) : (d.setLane l x).due = d.due := due_congr rfl rfl rfl
@[simp] theorem due_setRgn (d : Dev) (n : Nat) (x : RgnSt) : (d.setRgn n x).due = d.due := due_congr rfl rfl rfl
@[simp] theorem due_setNi (d : Dev) (n : Nat) (x : NiSt) : (d.setNi n x).due = d.due := due_congr rfl rfl rfl
@[simp] theorem due_setCh (d : Dev) (n : Nat) (x : ChSt) : (d.setCh n x).due = d.due := due_congr rfl rfl rfl
@[simp] theorem due_setDom (d : Dev) (n : Nat) (x : DomSt) : (d.setDom n x).due = d.due := due_congr rfl rfl rfl
@[simp] theorem due_setCtx (d : Dev) (x : CtxSt) : (d.setCtx x).due = d.due := due_congr rfl rfl rfl
@[simp] theorem due_setMp (d : Dev) (x : MpSt) : (d.setMp x).due = d.due := due_congr rfl rfl rfl
@[simp] theorem due_setScrub (d : Dev) (x : ScrubSt) : (d.setScrub x).due = d.due := due_congr rfl rfl rfl
@[simp] theorem due_setFlight (d : Dev) (l : List Flight) : (d.setFlight l).due = d.due := due_congr rfl rfl rfl
@[simp] theorem due_setCell (d : Dev) (m : MemUnit) (a : Nat) (c : BitVec 13) : (d.setCell m a c).due = d.due := by
  unfold setCell; exact due_congr rfl rfl rfl

@[simp] theorem due_storeByte (d : Dev) (m : MemUnit) (a : Nat) (b : Byte) (p : Bool) :
    (d.storeByte m a b p).due = d.due := by simp [storeByte]

@[simp] theorem due_clearPlane (d : Dev) (n p : Nat) : (d.clearPlane n p).due = d.due := due_congr rfl rfl rfl
@[simp] theorem due_fabricClear (d : Dev) : d.fabricClear.due = d.due := due_congr rfl rfl rfl

/-- A port's state may change in everything but its restart. -/
theorem due_setPort (d : Dev) (p : Nat) (x : PortSt) (h : x.pendingCtl = (d.port p).pendingCtl) :
    (d.setPort p x).due = d.due := by
  unfold setPort port at *
  split at h <;> simp_all [due]

/-! ## Ports and lanes -/

@[simp] theorem due_laneQuiet (d : Dev) (l : LaneId) : (d.laneQuiet l).due = d.due := by simp [laneQuiet]
@[simp] theorem due_laneReset (d : Dev) (l : LaneId) : (d.laneReset l).due = d.due := by simp [laneReset]
@[simp] theorem due_laneDisable (d : Dev) (l : LaneId) : (d.laneDisable l).due = d.due := by
  unfold laneDisable; split <;> simp

@[simp] theorem due_linkLost (d : Dev) (p : Nat) : (d.linkLost p).due = d.due := by
  unfold linkLost; split <;> simp [due_setPort]

@[simp] theorem due_queueTx (d : Dev) (p : Nat) (f : TxFrame) : (d.queueTx p f).due = d.due := by
  unfold queueTx; split <;> simp [due_setPort]

@[simp] theorem due_portTrainingStart (d : Dev) (p : Fin 2) : (portTrainingStart p d).due = d.due := by
  unfold portTrainingStart; split <;> simp [due_setPort]

@[simp] theorem due_portRestart (d : Dev) (p : Fin 2) : (d.portRestart p).due = d.due := by
  simp [portRestart, due_setPort]

/-! ## Notifications and answers -/

@[simp] theorem due_nextSeq (d : Dev) : d.nextSeq.2.due = d.due := by simp [nextSeq]
@[simp] theorem due_sendNotify (d : Dev) (n : NotifySt) : (d.sendNotify n).due = d.due := by
  unfold sendNotify; split <;> simp

@[simp] theorem due_notifyAll (d : Dev) (ix sub : Nat) (v : Word) : (d.notifyAll ix sub v).due = d.due := by
  simp [notifyAll]

@[simp] theorem due_notify (d : Dev) (ix sub off : Nat) : (d.notify ix sub off).due = d.due := by
  unfold notify; split <;> simp

@[simp] theorem due_notifyInt (d : Dev) : d.notifyInt.due = d.due := due_notify ..
@[simp] theorem due_sendResp (d : Dev) (r : WbReq) (m : WbMsg) : (d.sendResp r m).due = d.due := by
  unfold sendResp; split <;> simp

@[simp] theorem due_respond (d : Dev) (r : WbReq) (a : Answer) : (d.respond r a).due = d.due := by
  unfold respond; split <;> simp

@[simp] theorem due_barrierDone (d : Dev) (p o : Nat) (c : Code) (l : Bool) :
    (d.barrierDone p o c l).due = d.due := by
  unfold barrierDone
  exact (due_foldl _ (fun a b => by split <;> simp) _ _).trans (due_withWb ..)

@[simp] theorem due_marchEnd (d : Dev) (s : MarchSt) (r : Nat) (c : Code) : (d.marchEnd s r c).due = d.due := by
  unfold marchEnd
  rw [due_notifyInt]; split <;> simp

/-! ## Regions and loads -/

@[simp] theorem due_setDigest (d : Dev) (reg : Nat → Nat → Fld) (n : Nat) (bs : List Byte) :
    (d.setDigest reg n bs).due = d.due := by simp [setDigest]

@[simp] theorem due_rgnEnded (d : Dev) (n k : Nat) : (d.rgnEnded n k).due = d.due := due_setRgn ..
@[simp] theorem due_swapEnd (d : Dev) (n : Nat) (c : Code) : (d.swapEnd n c).due = d.due := by
  unfold swapEnd; split <;> simp

@[simp] theorem due_reinitEnd (d : Dev) (n : Nat) (c : Code) : (reinitEnd n c d).due = d.due := by simp [reinitEnd]
@[simp] theorem due_showScrub (d : Dev) : d.showScrub.due = d.due := by
  unfold showScrub; dsimp only; split <;> simp

@[simp] theorem due_dropFixes (d : Dev) (n p : Nat) : (d.dropFixes n p).due = d.due := by simp [dropFixes]
@[simp] theorem due_regionEmpty (d : Dev) (n : Nat) : (d.regionEmpty n).due = d.due := by
  simp only [regionEmpty, due_clear, due_set, due_raise, due_setDigest, due_dropFixes, due_clearPlane]
  split <;> simp

@[simp] theorem due_showRegion (d : Dev) (n : Nat) : (d.showRegion n).due = d.due := by
  unfold showRegion; dsimp only; split <;> simp

@[simp] theorem due_regionsDown (d : Dev) : d.regionsDown.due = d.due := by simp [regionsDown]
@[simp] theorem due_shadowEmpty (d : Dev) (n : Nat) : (d.shadowEmpty n).due = d.due := by simp [shadowEmpty]
@[simp] theorem due_regionUnfence (d : Dev) (n : Nat) : (d.regionUnfence n).due = d.due := by
  unfold regionUnfence; split <;> simp

@[simp] theorem due_loadFail (d : Dev) (cause seg : Nat) (source : Code) (frame : Option Nat) :
    (d.loadFail cause seg source frame).due = d.due := by
  unfold loadFail
  split
  · rfl
  · simp only [due_raise, due_setBit, due_set, due_clear]
    repeat' split
    all_goals simp

@[simp] theorem due_loadReset (d : Dev) : d.loadReset.due = d.due := by
  unfold loadReset; split <;> simp

/-! ## Stored bytes and their checker -/

@[simp] theorem due_attachPush (d : Dev) (n : Nat) (e : Nat × Nat) : (d.attachPush n e).due = d.due :=
  due_congr rfl rfl rfl

@[simp] theorem due_attachEvent (d : Dev) (m : MemUnit) (a e : Nat) (r : Bool) :
    (d.attachEvent m a e r).due = d.due := by
  unfold attachEvent
  cases m with
  | bm b => dsimp only; split <;> simp
  | dram k => exact due_foldl _ (fun a n => by split <;> simp) _ _
  | hs j => rfl

@[simp] theorem due_logEvent (d : Dev) (m : MemUnit) (a e : Nat) (r : Bool) : (d.logEvent m a e r).due = d.due := by
  unfold logEvent; split <;> simp

@[simp] theorem due_intEvent (d : Dev) (m : MemUnit) (a e : Nat) (r : Bool) : (d.intEvent m a e r).due = d.due := by
  simp [intEvent]

@[simp] theorem due_poisonFound (d : Dev) (m : MemUnit) (a : Nat) : (d.poisonFound m a).due = d.due := by
  unfold poisonFound
  cases m <;> simp

@[simp] theorem due_writeBackTo (d : Dev) (m : MemUnit) (g : Nat) (w : List (Nat × BitVec 13)) :
    (d.writeBackTo m g w).due = d.due := by
  unfold writeBackTo
  split
  · rfl
  · cases m with
    | bm b => dsimp only; split <;> simp
    | dram k => simp
    | hs j => simp

@[simp] theorem due_checkBytes (d : Dev) (m : MemUnit) (g : Nat) (ks : List Nat) (r : Bool) :
    (d.checkBytes m g ks r).due = d.due := by
  have hbad : ∀ (a : Dev) (k : Nat),
      (if r then ((a.count Reg.MEM_POISONED_CNT).raise Reg.INT_EVT_POISON_READ).intEvent m (g + k) 2 true
        else a.poisonFound m (g + k)).due = a.due := fun a k => by split <;> simp
  simp only [checkBytes, due_writeBackTo]
  cases m <;> simp only [apply_ite due, due_raise, due_count, due_foldl _ hbad, ite_self]

@[simp] theorem due_checkGranule (d : Dev) (m : MemUnit) (g i n : Nat) (r : Bool) :
    (d.checkGranule m g i n r).due = d.due := due_checkBytes ..

@[simp] theorem due_readBytes (d : Dev) (m : MemUnit) (a n : Nat) : (d.readBytes m a n).2.due = d.due := by
  simp [readBytes]

@[simp] theorem due_readLe (d : Dev) (m : MemUnit) (a n : Nat) : (d.readLe m a n).2.2.due = d.due := due_readBytes ..
@[simp] theorem due_storeBytes (d : Dev) (m : MemUnit) (a : Nat) (bs : List Byte) :
    (d.storeBytes m a bs).due = d.due := by
  simp [storeBytes]

/-! ## Network interfaces -/

@[simp] theorem due_niTake (d : Dev) (i : Nat) (p : Pkt) : (d.niTake i p).due = d.due := by
  unfold niTake; dsimp only; split <;> simp

@[simp] theorem due_bookRead (d : Dev) (i c e : Nat) : (d.bookRead i c e).2.2.due = d.due := due_readLe ..
@[simp] theorem due_formHeader (d : Dev) (i : Nat) (p : Pkt) : (d.formHeader i p).2.due = d.due := by
  unfold formHeader
  split
  · rfl
  · dsimp only
    repeat' split
    all_goals simp

@[simp] theorem due_forwardDone (d : Dev) (tag : Nat) (c : Code) (p : Bool) (data : List Byte) :
    (d.forwardDone tag c p data).due = d.due := by
  unfold forwardDone
  split
  · rfl
  · dsimp only; split <;> simp

@[simp] theorem due_niComplete (d : Dev) (i : Nat) (t : TagSt) (c : Code) (p : Bool) (data : List Byte) :
    (d.niComplete i t c p data).due = d.due := by
  simp only [niComplete, apply_ite due, due_forwardDone, due_count, due_setNi, ite_self]

@[simp] theorem due_inject (d : Dev) (i vc : Nat) (p : Pkt) : (d.inject i vc p).due = d.due := due_setFlight ..
@[simp] theorem due_niInject (d : Dev) (i : Nat) (t : TagSt) (q : Pkt) : (d.niInject i t q).due = d.due := by
  simp [niInject]

@[simp] theorem due_niOffer (i : Nat) (acc : Dev × Bool × Bool × Bool) (t : TagSt) :
    (niOffer i acc t).1.due = acc.1.due := by
  obtain ⟨d, all, mg, be⟩ := acc
  have h := due_formHeader d i t.pkt
  unfold niOffer
  dsimp only
  split
  · rfl
  · split
    · next c d1 e => rw [e] at h; simpa using h
    · next q x y d1 e =>
      rw [e] at h
      repeat' split
      all_goals simpa using h

@[simp] theorem due_niSend (d : Dev) (i : Nat) : (d.niSend i).due = d.due := by
  unfold niSend
  split
  · rfl
  · exact due_foldl_of Prod.fst _ (fun acc t => due_niOffer i acc t) _ _

@[simp] theorem due_niOpen (d : Dev) (i : Nat) : (d.niOpen i).due = d.due := due_setNi ..
@[simp] theorem due_niPump (d : Dev) (i : Nat) : (d.niPump i).due = d.due := by
  unfold niPump
  split
  · rfl
  · simp only [due_niSend, apply_ite due, due_niOpen, ite_self, due_foldl _ (fun a p => due_niTake a i p), due_setNi]

@[simp] theorem due_regionNiReset (d : Dev) (i : Nat) : (d.regionNiReset i).due = d.due := by
  unfold regionNiReset
  exact (due_foldl _ (fun a p => by split <;> simp) _ _).trans (due_setNi ..)

@[simp] theorem due_guardOpen (d : Dev) (i : Nat) : (d.guardOpen i).due = d.due := by simp [guardOpen]

/-! ## Contexts -/

@[simp] theorem due_setStaged (d : Dev) (l : List Nat) : (d.setStaged l).due = d.due := by simp [setStaged]
@[simp] theorem due_ctxReset (d : Dev) : d.ctxReset.due = d.due := by
  simp only [ctxReset, due_clear, due_setStaged, due_withCtx]
  split <;> simp

@[simp] theorem due_recPoisoned (d : Dev) (i : Nat) : (d.recPoisoned i).due = d.due := by simp [recPoisoned]
@[simp] theorem due_ctxTouchLine (d : Dev) (l : CtxLine) : (d.ctxTouchLine l).due = d.due := due_congr rfl rfl rfl
@[simp] theorem due_chAccess (d : Dev) (k : Nat) : (d.chAccess k).due = d.due := by
  unfold chAccess; split <;> simp

@[simp] theorem due_countLine (d : Dev) (k : Nat) (w : Bool) : (d.countLine k w).due = d.due := by
  simp only [countLine, apply_ite due, due_count64, ite_self]

@[simp] theorem due_dramCount (d : Dev) (w : Bool) (a n : Nat) : (d.dramCount w a n).due = d.due :=
  due_foldl _ (fun a e => by split <;> simp) _ _

@[simp] theorem due_readDram (d : Dev) (a n : Nat) : (d.readDram a n).2.due = d.due := by
  unfold readDram
  exact (due_foldl_of Prod.snd _ (fun acc e => by dsimp only; split <;> simp) _ _).trans (due_dramCount ..)

@[simp] theorem due_recRead (d : Dev) (i : Nat) : (d.recRead i).2.due = d.due := by
  unfold recRead
  dsimp only
  split
  · split <;> simp
  · split
    · rfl
    · split <;> simp

@[simp] theorem due_storeDram (d : Dev) (a : Nat) (bs : List Byte) : (d.storeDram a bs).due = d.due :=
  due_foldl _ (fun a e => by split <;> simp) _ _

@[simp] theorem due_recStore (d : Dev) (i o : Nat) (bs : List Byte) : (d.recStore i o bs).due = d.due := by
  simp only [recStore, apply_ite due, due_dramCount, due_storeDram, ite_self]
  split <;> simp

@[simp] theorem due_bucketStore (d : Dev) (b : Nat) (f : List Byte → List Byte) :
    (d.bucketStore b f).due = d.due := by
  refine due_foldl _ (fun a w => ?_) _ _
  have h := due_recRead a (4 * b + w)
  split
  · next e => rw [e] at h; simpa using h
  · next e => rw [e] at h; simpa using h

@[simp] theorem due_recFree (d : Dev) (i : Nat) (r : List Byte) : (d.recFree i r).due = d.due := by
  simp only [recFree, apply_ite due, due_bucketStore, due_recStore, ite_self]

@[simp] theorem due_recSettle (k : Nat) (d : Dev) (i : Nat) : (recSettle k d i).due = d.due := by
  have h := due_recRead d i
  unfold recSettle
  split
  · next e => rw [e] at h; simpa only [apply_ite due, due_recStore, due_recFree, ite_self] using h
  · next e => rw [e] at h; exact h

@[simp] theorem due_ctxByLive (d : Dev) : d.ctxByLive.due = d.due := due_setCtx ..
@[simp] theorem due_ctxUndo (d : Dev) : d.ctxUndo.due = d.due := by simp [ctxUndo]
@[simp] theorem due_ctxResetDiscard (d : Dev) : d.ctxResetDiscard.due = d.due := by
  unfold ctxResetDiscard
  split
  · rfl
  · rw [due_ctxUndo]; split <;> simp

/-! ## Power domains -/

@[simp] theorem due_setDomState (d : Dev) (m s : Nat) : (d.setDomState m s).due = d.due := by
  simp only [setDomState, apply_ite due, due_set, ite_self]

@[simp] theorem due_domOutcome (d : Dev) (m c : Nat) : (d.domOutcome m c).due = d.due := by
  unfold domOutcome; dsimp only; split <;> simp

@[simp] theorem due_domOpen (d : Dev) (m : Nat) : (d.domOpen m).due = d.due := by
  unfold domOpen; split
  · rfl
  · simp only [apply_ite due, due_regionUnfence, due_guardOpen, due_clear, ite_self]

@[simp] theorem due_domRestore (d : Dev) (m : Nat) : (d.domRestore m).due = d.due := by
  unfold domRestore
  extract_lets retired d1 d2 d3
  have h1 : d1.due = d.due := by unfold d1; split <;> simp
  have h3 : d3.due = d.due := by simp [d3, d2, h1]
  split
  · rfl
  · split
    · exact (due_clear ..).trans h3
    · exact h3

@[simp] theorem due_domRefuse (d : Dev) (m c : Nat) : (d.domRefuse m c).due = d.due := by simp [domRefuse]
@[simp] theorem due_domWakeStart (d : Dev) (m : Nat) : (d.domWakeStart m).due = d.due := by
  unfold domWakeStart fillStart; dsimp only
  split
  · split <;> simp
  · simp

@[simp] theorem due_wakeAccess (d : Dev) (m : Nat) : (d.wakeAccess m).due = d.due := by
  unfold wakeAccess
  repeat' split
  all_goals simp

/-! ## Resets -/

@[simp] theorem due_setGolden (d : Dev) (n : Nat) (g : Option Nat) :
    (d.setGolden n g).due = d.due := by simp [setGolden]

@[simp] theorem due_goldenLost (d : Dev) : d.goldenLost.due = d.due := by simp [goldenLost]
@[simp] theorem due_dramGone (d : Dev) : d.dramGone.due = d.due := by
  unfold dramGone
  refine (due_withStart _ _ ?_).trans (due_goldenLost d)
  rfl

@[simp] theorem due_dramErase (d : Dev) : d.dramErase.due = d.due := by
  unfold dramErase; exact (due_dramGone _).trans (due_congr rfl rfl rfl)

@[simp] theorem due_rebuildMap (d : Dev) : d.rebuildMap.1.due = d.due := by
  unfold rebuildMap
  extract_lets stripe live n lost d1 gap d2
  have h2 : d2.due = d.due := by simp [d2, d1]
  exact (due_withStripe d2 _).trans h2

@[simp] theorem due_booksInvalid (d : Dev) : d.booksInvalid.due = d.due := by simp [booksInvalid]

/-- The engines' state that a data-plane reset clears holds nothing that waits (R487). -/
theorem due_withPlaneReset (d : Dev) (was : List Nat) :
    ({ d with
      port0 := { d.port0 with rxFifo := [], rxOut := [] }, port1 := { d.port1 with rxFifo := [], rxOut := [] }
      boot := { wasActive := was }
      start := { d.start with
        releaseSet := [], released := false, doneWait := false, waitDone := false, rootWait := false
        initnDriven := true, doneDriven := true } } : Dev).due = d.due := rfl

@[simp] theorem due_dataPlane (d : Dev) (c : Nat) (l : Bool) : (d.dataPlane c l).due = d.due := by
  unfold dataPlane
  rw [due_set, due_count, due_raise, due_set, due_raise, due_foldl _ due_clear, due_withPlaneReset,
    due_ite' (due_dramGone _), due_rebuildMap, due_ite' (due_dramErase _), due_foldl _ due_domRestore, due_ctxReset,
    due_foldl _ due_regionNiReset, due_booksInvalid, due_ctlResetWhere, due_withCsr, due_unfail,
    due_foldl _ (fun a m => (due_laneReset ..).trans (due_laneReset ..)), due_regionsDown, due_loadReset]

@[simp] theorem due_mgmtClear (d : Dev) : d.mgmtClear.due = d.due := by
  unfold mgmtClear
  extract_lets _ d1 d2
  have h1 : d1.due = d.due := due_congr rfl rfl rfl
  have h2 : d2.due = d1.due := by unfold d2; split <;> simp
  exact (due_foldl _ due_clear _ _).trans (h2.trans h1)

@[simp] theorem due_fwDrop (d : Dev) : d.fwDrop.due = d.due := by
  unfold fwDrop
  exact (due_foldl _ (fun a r => by split <;> simp) _ _).trans (by simp)

@[simp] theorem due_nocDiscard (d : Dev) : d.nocDiscard.due = d.due := by
  unfold nocDiscard
  split
  · rfl
  · simp

@[simp] theorem due_mpDown (d : Dev) (c : Nat) : (d.mpDown c).due = d.due := by
  unfold mpDown
  extract_lets d1 _ d2 e d3
  have h3 : d3.due = e.due := by simp only [due, d3]
  simp [h3, e, d2, d1]

@[simp] theorem due_mpHalt (d : Dev) (c : Nat) : (d.mpHalt c).due = d.due := by simp [mpHalt]
@[simp] theorem due_mpLeave (d : Dev) : d.mpLeave.due = d.due := by
  simp only [mpLeave, apply_ite due, due_mpHalt, due_raise, due_clear, ite_self]

@[simp] theorem due_mpReset (d : Dev) (c : Nat) : (d.mpReset c).due = d.due := by
  simp only [mpReset, apply_ite due, due_mpLeave, due_mpDown, ite_self]

@[simp] theorem due_nocReset (d : Dev) : d.nocReset.due = d.due := by
  unfold nocReset
  extract_lets book d1 d2 d3 div
  have h1 : d1.due = d.due := due_congr rfl rfl rfl
  have h2 : d2.due = d1.due := by simp [d2]
  have h3 : d3.due = d2.due := by simp [d3]
  refine (due_foldl _ (fun a j => ?_) _ _).trans ((due_putWord ..).trans (h3.trans (h2.trans h1)))
  exact due_foldl _ (fun b e => by split <;> simp) _ _

@[simp] theorem due_levelStart (d : Dev) (l : Nat) : (d.levelStart l).due = d.due := by
  simp only [levelStart, apply_ite due, due_withPwr, due_raise, ite_self]

@[simp] theorem due_mpRetire (d : Dev) (pc : Word) : (d.mpRetire pc).due = d.due := by
  simp only [mpRetire, apply_ite due, due_mpHalt, due_setMp, due_raise, due_clear, ite_self]

@[simp] theorem due_mpEnter (d : Dev) (c : Nat) (k : Option Nat) (a : Option Word) (e : Word) :
    (mpEnter c k a e d).due = d.due := by
  cases k <;> cases a <;> simp only [mpEnter, apply_ite due, due_mpHalt, due_setMp, due_freeBelow, ite_self]

@[simp] theorem due_mpNmi (d : Dev) : d.mpNmi.due = d.due := by
  simp only [mpNmi, apply_ite due, due_mpReset, due_mpEnter, due_setMp, ite_self]

@[simp] theorem due_mpSettle (d : Dev) : d.mpSettle.due = d.due := by
  simp only [mpSettle, apply_ite due, due_mpNmi, due_mpRetire, due_setMp, ite_self]

@[simp] theorem due_accessSettle (d : Dev) : d.accessSettle.due = d.due :=
  due_foldl _ (fun a k => by split <;> simp) _ _

/-! ## The end of a command -/

theorem due_setPort_zero (d : Dev) (x : PortSt) :
    (d.setPort (0 : Fin 2).val x).due = (x.pendingCtl, d.due.2) := rfl

theorem due_setPort_one (d : Dev) (x : PortSt) :
    (d.setPort (1 : Fin 2).val x).due = (d.due.1, x.pendingCtl, d.due.2.2) := rfl

/-- The ports go down with no restart left. -/
theorem due_portsDown (d : Dev) : d.portsDown.due = (none, none, d.start.warmDue) := by
  have quads : ∀ (e : Dev) (p : Fin 2), ((quadLanes p).foldl (fun b l => b.laneReset l) e).due = e.due :=
    fun e p => due_foldl _ due_laneReset _ _
  unfold portsDown
  rw [List.foldl_cons, List.foldl_cons, List.foldl_nil, due_setPort_one, quads, due_linkLost, due_setPort_zero, quads,
    due_linkLost]
  rfl

/-- The state beside the registers that a warm reset clears holds nothing that waits (R488). -/
theorem due_withWarmCleared (d : Dev) (ch : SMap ChSt) (keys : KeySt) :
    ({ d with
      ch := ch, verify := [], ctPending := none, lanes := [], plls := [], keys := keys, ctx := {} } : Dev).due
      = d.due :=
  due_congr rfl rfl rfl

/-- A warm reset takes the ports down and is no longer due. -/
theorem due_warmReset (d : Dev) (c : Nat) : (d.warmReset c).due = (none, none, none) := by
  unfold warmReset
  rw [due_clear, due_set, due_count, due_raise, due_set, due_ite (due_levelStart ..),
    due_foldl _ (fun a k => due_raise ..), due_withWarmCleared, due_foldl _ due_domRestore, due_set, due_ctlResetWhere,
    due_nocReset, due_dataPlane, due_mgmtClear, due_mpReset, due_freeBelow, due_set]
  split
  · exact (due_marchEnd ..).trans (due_portsDown _)
  · exact due_portsDown _

/-- The end of a command at port `p`: the restart that waits there runs (R46). -/
def portEnd (d : Dev) (p : Fin 2) : Dev :=
  match (d.port p.val).pendingCtl with
  | none => d
  | some k =>
    (d.setPort p.val { d.port p.val with
      pendingCtl := none, sent := (d.port p.val).txWb.drop k, txWb := [] }).portRestart p

/-- At the end of a command port 0 restarts before port 1. -/
theorem portSettle_eq (d : Dev) : d.portSettle = (d.portEnd 0).portEnd 1 := rfl

theorem due_portEnd_zero (d : Dev) : (d.portEnd 0).due = (none, d.due.2) := by
  unfold portEnd
  split
  · next h => exact congrArg (fun x => (x, d.due.2)) h
  · rw [due_portRestart]; rfl

theorem due_portEnd_one (d : Dev) : (d.portEnd 1).due = (d.due.1, none, d.due.2.2) := by
  unfold portEnd
  split
  · next h => exact congrArg (fun x => (d.due.1, x, d.due.2.2)) h
  · rw [due_portRestart]; rfl

theorem due_portSettle (d : Dev) : d.portSettle.due = (none, none, d.start.warmDue) := by
  rw [portSettle_eq, due_portEnd_one, due_portEnd_zero]; rfl

theorem settled_iff_due (d : Dev) : d.settled = true ↔ d.due = (none, none, none) := by
  simp [settled, due, and_assoc]

/-- After the ports, the channels and the processor the warm reset alone may wait, and it runs. -/
theorem due_settle (d : Dev) : d.settle.due = (none, none, none) := by
  have h : d.portSettle.accessSettle.mpSettle.due = (none, none, d.start.warmDue) := by simp [due_portSettle]
  unfold settle warmSettle
  split
  · exact due_warmReset ..
  · next hw =>
    have hstart := congrArg (fun w => w.2.2) h
    exact h.trans (congrArg (fun w => (none, none, w)) (hstart.symm.trans hw))

/-- Settling leaves nothing that waits: the ports have restarted, and the warm reset has run. -/
theorem settle_settled (d : Dev) : d.settle.settled = true := (settled_iff_due _).mpr (due_settle d)

/-- A root period leaves nothing that waits. -/
theorem tick_settled (d : Dev) (h : d.settled = true) : d.tick.settled = true := by
  unfold tick
  extract_lets
  split
  · exact h
  · exact settle_settled _

end Dev

/-! ## Every step -/

/-- An event leaves the state as it was, or runs and settles. -/
theorem State.event_next {f : Dev → Dev} {s t : State} (h : s.event f = .next t) :
    t = s ∨ ∃ g, t = s.run g := by
  unfold State.event at h
  split at h
  · exact .inl (Host.Outcome.next.inj h).symm
  · split at h
    · cases h
    · exact .inr ⟨f, (Host.Outcome.next.inj h).symm⟩

/-- A command of the supplies or RSTN runs and settles. -/
theorem State.supply_next {f : Dev → Dev} {s t : State} (h : s.supply f = .next t) :
    t = s ∨ ∃ g, t = s.run g :=
  .inr ⟨f, (Host.Outcome.next.inj h).symm⟩

/-- A command that answers a next state leaves the state as it was, or runs and settles. -/
theorem exec_next {i : Instr} {s t : State} (h : exec i s = .next t) : t = s ∨ ∃ g, t = s.run g := by
  cases i
  case vauxPowerOnReset => exact State.supply_next h
  case vauxFall => exact State.supply_next h
  case rstnLow => exact State.supply_next h
  case rstnHigh => exact State.supply_next h
  case railOutOfRange => exact State.supply_next h
  case railInRange => exact State.supply_next h
  all_goals exact State.event_next h

/-- Settles O57: on an empty queue by `tick_settled`; a command in front leaves the state as it was, or settles at its
end. -/
theorem nothingLeftToSettle : Obligations.NothingLeftToSettle := by
  intro s t hs h
  obtain ⟨d, pending⟩ := s
  cases pending with
  | nil =>
    cases h
    exact d.tick_settled hs
  | cons i rest =>
    obtain rfl | ⟨g, rfl⟩ := exec_next h
    · exact hs
    · exact Dev.settle_settled _

end Sys2Proof.Machine
end

section
/-! The Waybill reads and writes (R57, R60, R61, R74, R75, R519), with the laws that take a command on a live device
to its effect, and those of the oldest request of the queue. -/

namespace Sys2Proof.Machine

namespace State

/-- A live device takes an event and settles. -/
theorem event_of_live (f : Dev → Dev) (s : State) (h : s.live = true) : s.event f = .next (s.run f) := by
  simp only [live, Bool.and_eq_true, Bool.not_eq_true'] at h
  simp [event, h.1, h.2]

/-- A command that is an event runs on a live device with the event's effect. -/
theorem runs_of_live {i : Instr} {s : State} {f : Dev → Dev} {P : Dev → Prop} (hl : s.live = true)
    (hi : exec i s = s.event f) (hp : P (f s.dev)) : s.runs i f P :=
  ⟨hi.trans (event_of_live f s hl), hp⟩

/-- A command that is an event runs on a device with nothing to settle afterwards. -/
theorem goes_of_calm {i : Instr} {s : State} {f : Dev → Dev} {d : Dev} (hl : s.live = true)
    (hi : exec i s = s.event f) (hf : f s.dev = d) (hc : d.calm = true) : s.goes i d := by
  subst hf
  exact hi.trans (event_of_calm f s hl hc)

theorem live_of_ready {s : State} (h : s.ready = true) : s.live = true := by
  simp only [ready, Bool.and_eq_true] at h
  exact h.1

theorem calm_of_ready {s : State} (h : s.ready = true) : s.dev.calm = true := by
  simp only [ready, Bool.and_eq_true] at h
  exact h.2

end State

namespace Dev

/-- A client's request that is the oldest in the queue leaves it and executes (R57). -/
theorem wbExec_oldest {r : WbReq} {mac : Nat} {d : Dev} (op : WbReq → Dev → Dev) (hw : r.who = .client mac)
    (hq : d.wb.queue.head? = some r) :
    d.wbExec r op = op r { d with wb := { d.wb with queue := d.wb.queue.tail } } := by
  have hmem : r ∈ d.wb.queue := List.mem_of_mem_head? hq
  simp [wbExec, hw, hmem, hq]

/-- The same for a row of one operation (R60). -/
theorem wbOp_oldest {c : Nat} {r : WbReq} {mac : Nat} {d : Dev} (op : WbReq → Dev → Dev) (hw : r.who = .client mac)
    (hop : r.msg.op = c) (hr : r.msg.resp = false) (hq : d.wb.queue.head? = some r) :
    wbOp c r op d = op r { d with wb := { d.wb with queue := d.wb.queue.tail } } := by
  rw [wbOp, if_pos ⟨hop, by simp [hr]⟩, wbExec_oldest op hw hq]

/-- READ of an object of the device (R60). -/
theorem wbRead_object {r : WbReq} (d : Dev) (h : userIndex r.msg.index = false) :
    wbRead r d = (let x := d.objRead r.who r.msg.noside r.msg.desc r.msg.index r.msg.sub
      x.2.1.respond r { code := x.2.2, change := x.2.1.changeOf r.msg.index, data := x.1 }) := by
  simp [wbRead, h]

/-- READ_BLOCK of objects of the device (R61). -/
theorem wbReadBlock_object {r : WbReq} (d : Dev) (h : userIndex r.msg.index = false) :
    wbReadBlock r d = (let x := d.blockRead r.who r.msg.noside r.msg.desc r.msg.index r.msg.sub (r.msg.arg % 512)
      x.2.2.1.respond r { code := x.2.2.2, change := x.2.2.1.changeOf r.msg.index, result := x.2.1, data := x.1 }) := by
  simp [wbReadBlock, h]

/-- WRITE and WRITE_BLOCK of objects of the device, arrivals apart: a write that reaches a persistent object and takes
effect waits (R519). -/
theorem wbWrite_object {r : WbReq} (d : Dev) (h : userIndex r.msg.index = false)
    (ha : ¬(r.msg.op = 2 ∧ r.msg.index = 0x7201 ∧ r.msg.sub = 0)) :
    wbWrite r d = if storesFlash r ∧ (d.writeOf r).2.1 ≠ 0 then
        { d with wb := { d.wb with forwards := d.wb.forwards ++ [⟨r, none, false⟩] } }
      else writeAnswer r (d.writeOf r) := by
  simp only [wbWrite, h, if_neg ha]
  rfl

/-- A single write. -/
theorem writeOf_write {r : WbReq} (d : Dev) (h : r.msg.op = 2) :
    writeOf r d = (let x := d.objWrite r.who r.msg.index r.msg.sub r.msg.payload (condOf r.msg)
      (x.1, if x.2.1 = .ok then 1 else 0, x.2.1, x.2.2)) := by
  simp [writeOf, h]

/-- A block of writes. -/
theorem writeOf_block {r : WbReq} (d : Dev) (h : r.msg.op = 4) :
    writeOf r d = d.blockWrite r.who r.msg.index r.msg.sub (r.msg.arg % 512) r.msg.payload (condOf r.msg) := by
  simp [writeOf, h]

/-- A request for a firmware-served object. -/
theorem firmwareForward_oldest {r : WbReq} {mac : Nat} {d : Dev} (hw : r.who = .client mac)
    (hop : 1 ≤ r.msg.op ∧ r.msg.op ≤ 4) (hr : r.msg.resp = false) (hq : d.wb.queue.head? = some r)
    (hf : firmwareIndex r.msg.index r.msg.sub = true) :
    firmwareForward r d = wbObject r { d with wb := { d.wb with queue := d.wb.queue.tail } } := by
  rw [firmwareForward, if_pos ⟨hf, hop.1, hop.2, by simp [hr]⟩, wbExec_oldest wbObject hw hq]

theorem wbObject_read {r : WbReq} (d : Dev) (h : r.msg.op = 1) : wbObject r d = wbRead r d := by
  simp only [wbObject, h]

/-- A request for a user object. -/
theorem userObjectForward_oldest {r : WbReq} {mac : Nat} {d : Dev} (hw : r.who = .client mac)
    (hop : 1 ≤ r.msg.op ∧ r.msg.op ≤ 4) (hr : r.msg.resp = false) (hq : d.wb.queue.head? = some r)
    (hu : userIndex r.msg.index = true) :
    userObjectForward r d = userForward r { d with wb := { d.wb with queue := d.wb.queue.tail } } := by
  rw [userObjectForward, if_pos ⟨hu, hop.1, hop.2, by simp [hr]⟩, wbExec_oldest userForward hw hq]

/-- Without an entry that holds its index a user object is answered NO_TARGET (R75). -/
theorem userForward_none {r : WbReq} (d : Dev) (ht : d.userTarget r.msg.index = none) :
    userForward r d = d.respond r { code := .noTarget } := by
  simp only [userForward, ht]

/-- A user object of a region goes to the region's window as a MSG of NI 166 (R75). -/
theorem userForward_region {r : WbReq} {i : Nat} (d : Dev) (ht : d.userTarget r.msg.index = some i) (hi : i < 128) :
    userForward r d =
      ({ d with wb := { d.wb with
          forwards := d.wb.forwards ++ [⟨r, some (niNextTag (d.niSt 166)), false⟩] } } : Dev).niPresent 166
        { cmd := 6, dst := i, addr := 0x10000000000 + i * 0x100000000, len := (r.msg.encode.length + 63) / 64
          data := r.msg.encode, beFirst := 2 ^ 64 - 1, beLast := 2 ^ 64 - 1 } := by
  simp only [userForward, ht, if_pos hi, if_neg (show ¬(128 ≤ i ∧ i < 160) by omega)]

/-- The row of the device's IPv4 address (R49, R67). -/
theorem objAt_ipv4 : objAt 0x1010 4 = some ⟨.u32, 4, .rw, 1, some (.fw 0), 0⟩ := by rfl

/-- While the processor does not run, a read of a firmware-served object is answered BUSY (R74). -/
theorem objRead_ipv4_busy (d : Dev) (who : Who) (noside : Bool) (h : d.fwUp = false) :
    d.objRead who noside false 0x1010 4 = ([], d, .busy) := by
  have hd : d.dbgDenied who 0x1010 = false := by cases who <;> simp [dbgDenied]
  simp [objRead, objAt_ipv4, objFenced, ObjMap.offs, hd, h, firstCode]

/-- A READ of the device's IPv4 address is then answered BUSY. -/
theorem wbRead_ipv4_busy {r : WbReq} (d : Dev) (hix : r.msg.index = 0x1010) (hsub : r.msg.sub = 4)
    (hd : r.msg.desc = false) (h : d.fwUp = false) :
    wbRead r d = d.respond r { code := .busy, change := d.changeOf 0x1010 } := by
  have hu : userIndex r.msg.index = false := by rw [hix]; rfl
  rw [wbRead_object d hu, hix, hsub, hd, objRead_ipv4_busy d _ _ h]

end Dev

/-- Settles O8, clause by clause: the request leaves the queue, and the operation of its row runs on what is left. -/
theorem waybillReadsAndWrites : Obligations.WaybillReadsAndWrites := by
  refine ⟨?read, ?write, ?readBlock, ?writeBlock, ?persistent, ?stored, ?firmware, ?busy, ?user, ?noTarget⟩
  case read =>
    intro s req mac hl hw hop hr hq hu
    refine State.runs_of_live hl rfl ?_
    rw [Dev.wbOp_oldest Dev.wbRead hw hop hr hq, Dev.wbRead_object _ hu]
  case write =>
    intro s req mac hl hw hop hr hq hu ha hs
    refine State.runs_of_live hl rfl ?_
    rw [Dev.wbOp_oldest Dev.wbWrite hw hop hr hq, Dev.wbWrite_object _ hu (fun h => ha h.2), if_neg (by simp [hs]),
      Dev.writeOf_write _ hop]
    simp only [Dev.writeAnswer, hop]
    rfl
  case readBlock =>
    intro s req mac hl hw hop hr hq hu
    refine State.runs_of_live hl rfl ?_
    rw [Dev.wbOp_oldest Dev.wbReadBlock hw hop hr hq, Dev.wbReadBlock_object _ hu]
  case writeBlock =>
    intro s req mac hl hw hop hr hq hu hs
    refine State.runs_of_live hl rfl ?_
    rw [Dev.wbOp_oldest Dev.wbWrite hw hop hr hq, Dev.wbWrite_object _ hu (by simp [hop]), if_neg (by simp [hs]),
      Dev.writeOf_block _ hop]
    simp only [Dev.writeAnswer, hop, if_true]
  case persistent =>
    intro s req mac hl hw hop hr hq hu ha hs hok
    refine State.runs_of_live hl rfl ?_
    rw [Dev.wbOp_oldest Dev.wbWrite hw hop hr hq, Dev.wbWrite_object _ hu (fun h => ha h.2), if_pos]
    exact ⟨hs, by simp [Dev.writeOf_write _ hop, hok]⟩
  case stored =>
    intro s f hl hf hfind
    refine State.runs_of_live hl rfl ?_
    simp only [Dev.persistentObjectStored, hfind, hf]
    rfl
  case firmware =>
    intro s req mac hl hw hop hr hd hq hf hu hup
    refine State.runs_of_live hl rfl ?_
    rw [Dev.firmwareForward_oldest hw (by omega) hr hq hf, Dev.wbObject_read _ hop, Dev.wbRead_object _ hu, hd]
  case busy =>
    intro s req mac hl hw hop hr hd hq hix hsub hup
    refine State.runs_of_live hl rfl ?_
    have hf : Dev.firmwareIndex req.msg.index req.msg.sub = true := by
      rw [hix, hsub, Dev.firmwareIndex, Dev.objAt_ipv4]; rfl
    rw [Dev.firmwareForward_oldest hw (by omega) hr hq hf, Dev.wbObject_read _ hop]
    exact Dev.wbRead_ipv4_busy _ hix hsub hd hup
  case user =>
    intro s req mac i hl hw hop hr hq hu ht hi
    refine State.runs_of_live hl rfl ?_
    rw [Dev.userObjectForward_oldest hw hop hr hq hu]
    exact Dev.userForward_region _ ht hi
  case noTarget =>
    intro s req mac hl hw hop hr hq hu ht
    refine State.runs_of_live hl rfl ?_
    rw [Dev.userObjectForward_oldest hw hop hr hq hu]
    exact Dev.userForward_none _ ht

end Sys2Proof.Machine
end

section
/-! The other Waybill operations (R60, R62, R64, R66, R258, R520): what a copy, a fence, a barrier, a discovery and a
report's signature answer. -/

namespace Sys2Proof.Machine
namespace Dev

/-! ## Answers -/

@[simp] theorem setPort_wb (d : Dev) (p : Nat) (x : PortSt) : (d.setPort p x).wb = d.wb := by
  unfold setPort; split <;> rfl

@[simp] theorem queueTx_wb (d : Dev) (p : Nat) (f : TxFrame) : (d.queueTx p f).wb = d.wb := by
  unfold queueTx; split <;> simp

@[simp] theorem sendResp_wb (d : Dev) (r : WbReq) (m : WbMsg) : (d.sendResp r m).wb = d.wb := by
  unfold sendResp
  split
  · exact foldl_keeps Dev.wb _ (fun _ _ => queueTx_wb ..) _ _
  · rfl

@[simp] theorem respond_answer (d : Dev) (r : WbReq) (a : Answer) : (d.respond r a).answer = a := by
  unfold respond; split <;> rfl

@[simp] theorem respond_attest (d : Dev) (r : WbReq) (a : Answer) : (d.respond r a).wb.attest = d.wb.attest := by
  unfold respond
  split
  ·  exact (congrArg WbSt.attest (sendResp_wb d r (d.respMsg r a)) :)
  · rfl

/-! ## Rows -/

@[simp] theorem cmdStart_wb (d : Dev) (ix sub : Nat) : (d.cmdStart ix sub).wb = d.wb := rfl

theorem word_withWb (d : Dev) (x : WbSt) (o : Nat) : ({ d with wb := x } : Dev).word o = d.word o := rfl

theorem on_withWb (d : Dev) (x : WbSt) (f : Fld) : ({ d with wb := x } : Dev).on f = d.on f := rfl

/-- With none running a snapshot starts (R94). -/
theorem snapEff_idle (d : Dev) (h : d.on Reg.SNAP_STS_SNAP_BUSY = false) :
    d.snapEff = ((d.raise Reg.SNAP_STS_SNAP_BUSY).cmdStart 0x1F10 1, .ok) := by
  rw [snapEff, if_neg (by rw [h]; decide)]

/-- A SNAPSHOT that is accepted waits for its end. -/
theorem wbSnapshot_of_ok {r : WbReq} {d e : Dev} (h : d.snapEff = (e, .ok)) :
    wbSnapshot r d = { e with wb := { e.wb with snapshots := e.wb.snapshots ++ [r] } } := by
  rw [wbSnapshot, h]
  rfl

/-- SNAPSHOT with none running sets SNAP_BUSY. -/
theorem wbSnapshot_idle_on {r : WbReq} (d : Dev) (h : d.on Reg.SNAP_STS_SNAP_BUSY = false) :
    (wbSnapshot r d).on Reg.SNAP_STS_SNAP_BUSY = true := by
  rw [wbSnapshot_of_ok (snapEff_idle d h), on_withWb, on_cmdStart]
  exact on_raise_self d _ (by decide) (by decide)

/-- SNAPSHOT with none running writes no other register. -/
theorem wbSnapshot_idle_regsBut {r : WbReq} (d : Dev) (h : d.on Reg.SNAP_STS_SNAP_BUSY = false) :
    d.regsBut [Reg.SNAP_STS] (wbSnapshot r d) := by
  intro o ho
  have hne : o ≠ Reg.SNAP_STS_SNAP_BUSY.off := fun h => ho (h ▸ List.mem_singleton_self _)
  rw [wbSnapshot_of_ok (snapEff_idle d h), word_withWb, word_cmdStart, raise, word_set_ne _ _ _ hne]

/-- SNAPSHOT with none running leaves the engine as it is but for the request that waits. -/
theorem wbSnapshot_idle_wb {r : WbReq} (d : Dev) (h : d.on Reg.SNAP_STS_SNAP_BUSY = false) :
    (wbSnapshot r d).wb = { d.wb with snapshots := d.wb.snapshots ++ [r] } := by
  have hwb : ((d.raise Reg.SNAP_STS_SNAP_BUSY).cmdStart 0x1F10 1).wb = d.wb := by rw [cmdStart_wb, raise_wb]
  rw [wbSnapshot_of_ok (snapEff_idle d h), hwb]

/-- FENCE of a client (R62). -/
theorem wbFence_client {r : WbReq} {mac : Nat} (d : Dev) (hw : r.who = .client mac) :
    wbFence r d = { d with wb := { d.wb with
      fences := d.wb.fences ++ [⟨r, ((d.wb.codes.filter (fun c => c.1 == mac)).takeWhile
        (fun c => !(c.2.1 == r.msg.seq && c.2.2.isNone))).map (fun c => (c.2.1, c.2.2))⟩] } } := by
  simp only [wbFence, hw]

/-- Requests that have all completed OK name no failure (R62). -/
theorem firstFailure_of_ok {l : List (Nat × Option Code)} (h : ∀ c ∈ l, c.2 = some .ok) :
    (l.filterMap (fun c => c.2)).find? (· != .ok) = none := by
  simp only [List.find?_eq_none, List.mem_filterMap, bne_iff_ne, ne_eq, not_not]
  rintro c ⟨e, he, hc⟩
  exact Option.some.inj (hc.symm.trans (h e he))

/-- A barrier of one of the rendezvous points (R66). -/
theorem barrier_client {r : WbReq} {mac : Nat} (d : Dev) (hw : r.who = .client mac) :
    barrier r d = wbOp 7 r wbBarrier d := by
  simp only [barrier, hw]

theorem barrierStart_local {req : Option WbReq} {arg : Nat} (payload : List Byte) (d : Dev) (h : arg % 16 = 1)
    (hr : localRefusal (arg / 16 % 16) (arg / 256 % 65536) = none) :
    barrierStart req arg payload d =
      (if d.commitPending (arg / 16 % 16) (arg / 256 % 65536) then
        ({ d with wb := { d.wb with barriers := d.wb.barriers ++ [⟨req, arg / 16 % 16, arg / 256 % 65536⟩] } },
          none, false)
      else (d, none, true)) := by
  simp only [barrierStart, h, hr]

theorem wbBarrier_done {r : WbReq} (d : Dev) (h : r.msg.arg % 16 = 1)
    (hr : localRefusal (r.msg.arg / 16 % 16) (r.msg.arg / 256 % 65536) = none)
    (hc : d.commitPending (r.msg.arg / 16 % 16) (r.msg.arg / 256 % 65536) = false) :
    wbBarrier r d = d.respond r { change := d.changeOf r.msg.index } := by
  simp [wbBarrier, barrierStart_local _ d h hr, hc]

theorem wbBarrier_waits {r : WbReq} (d : Dev) (h : r.msg.arg % 16 = 1)
    (hr : localRefusal (r.msg.arg / 16 % 16) (r.msg.arg / 256 % 65536) = none)
    (hc : d.commitPending (r.msg.arg / 16 % 16) (r.msg.arg / 256 % 65536) = true) :
    wbBarrier r d = { d with wb := { d.wb with
      barriers := d.wb.barriers ++ [⟨some r, r.msg.arg / 16 % 16, r.msg.arg / 256 % 65536⟩] } } := by
  simp [wbBarrier, barrierStart_local _ d h hr, hc]

/-- A NOTIFY that passes R54. -/
theorem wbNotify_admitted {r : WbReq} (d : Dev) (hd : d.wbDiscard r.msg = none) (hb : badLength r.msg = false)
    (hop : r.msg.op = 8) (hr : r.msg.resp = false) : wbNotify r d = notifyReceived r d := by
  simp [wbNotify, hd, hb, hop, hr]

/-- A NOTIFY of 0x1100:05 is a hello (R520). -/
theorem notifyReceived_hello {r : WbReq} {mac : Nat} (d : Dev) (hw : r.who = .client mac) (hix : r.msg.index = 0x1100)
    (hsub : r.msg.sub = 5) : notifyReceived r d = d.helloReceived mac r.port r.msg.payload := by
  simp only [notifyReceived, hw]
  rw [if_pos ⟨hix, hsub⟩]

/-- A NOTIFY of another object is discarded (R520). -/
theorem wbNotify_other {r : WbReq} (d : Dev) (hd : d.wbDiscard r.msg = none)
    (h1 : ¬(r.msg.index = 0x1100 ∧ r.msg.sub = 5)) (h2 : ¬(r.msg.index = 0x7202 ∧ r.msg.sub = 0)) :
    wbNotify r d = d := by
  have hn : notifyReceived r d = d := by
    unfold notifyReceived
    split
    · rw [if_neg h1, if_neg (fun h => h2 ⟨h.1, h.2.1⟩)]
    · rfl
  simp [wbNotify, hd, hn]

theorem attest_client {r : WbReq} {mac : Nat} (d : Dev) (hw : r.who = .client mac) :
    attest r d = wbOp 0xB r wbAttest d := by
  simp only [attest, hw]

theorem wbAttest_starts {r : WbReq} (d : Dev) (hf : d.fwUp = true) (hn : r.msg.payload.length = 64) :
    wbAttest r d = attestStart (some r) r.msg.payload d := by
  simp [wbAttest, hf, hn]

/-- The oldest report, asked for by a request, is answered with its signature (R258, R260). -/
theorem attestSigned_request {d : Dev} {q : WbReq} {body : List Byte} {rest : List (Option WbReq × List Byte)}
    (h : d.wb.attest = (some q, body) :: rest) :
    ∃ (e : Dev) (x y : Nat), e.wb.attest = rest ∧ d.attestSigned =
      e.respond q { data := body ++ (leBytes 66 x).reverse ++ (leBytes 66 y).reverse
                    change := e.changeOf q.msg.index } := by
  simp only [attestSigned, h]
  exact ⟨_, _, _, rfl, rfl⟩

end Dev

/-- Settles O9, clause by clause: the request leaves the queue, and the operation of its row runs on what is left. -/
theorem waybillOtherOperations : Obligations.WaybillOtherOperations := by
  refine ⟨?snapshot, ?fence, ?fenceDone, ?barrierDone, ?barrierWaits, ?hello, ?discarded, ?discover, ?discovered,
    ?stream, ?attest, ?signed⟩
  case snapshot =>
    intro s req mac hl hw hop hr hq hi
    refine State.runs_of_live hl rfl ?_
    rw [Dev.wbOp_oldest Dev.wbSnapshot hw hop hr hq]
    refine ⟨Dev.wbSnapshot_idle_on _ hi, ?_, ?_, Dev.wbSnapshot_idle_regsBut _ hi⟩
    · rw [Dev.wbSnapshot_idle_wb]
      exact hi
    · rw [Dev.wbSnapshot_idle_wb]
      exact hi
  case fence =>
    intro s req mac hl hw hop hr hq
    refine State.runs_of_live hl rfl ?_
    rw [Dev.wbOp_oldest Dev.wbFence hw hop hr hq, Dev.wbFence_client _ hw]
  case fenceDone =>
    intro s f hl hf hok
    refine State.runs_of_live hl rfl ?_
    simp only [Dev.wbFenceComplete, hf, Dev.firstFailure_of_ok hok]
    rfl
  case barrierDone =>
    intro s req mac hl hw hop hr hq harg href hc
    refine State.runs_of_live hl rfl ?_
    rw [Dev.barrier_client _ hw, Dev.wbOp_oldest Dev.wbBarrier hw hop hr hq]
    exact Dev.wbBarrier_done _ harg href hc
  case barrierWaits =>
    intro s req mac hl hw hop hr hq harg href hc
    refine State.runs_of_live hl rfl ?_
    rw [Dev.barrier_client _ hw, Dev.wbOp_oldest Dev.wbBarrier hw hop hr hq]
    exact Dev.wbBarrier_waits _ harg href hc
  case hello =>
    intro s req mac hl hw hd hb hop hr hix hsub
    refine State.runs_of_live hl rfl ?_
    rw [Dev.wbNotify_admitted _ hd hb hop hr]
    exact Dev.notifyReceived_hello _ hw hix hsub
  case discarded =>
    intro s req mac hs hw hd hop hr h1 h2
    exact State.goes_of_calm (State.live_of_ready hs) rfl (Dev.wbNotify_other _ hd h1 h2) (State.calm_of_ready hs)
  case discover =>
    intro s req mac hl hw hop hr hq
    refine State.runs_of_live hl rfl ?_
    rw [Dev.wbOp_oldest Dev.wbDiscover hw hop hr hq]
    rfl
  case discovered =>
    intro s k req hl hk
    refine State.runs_of_live hl rfl ?_
    simp only [Dev.discoverAnswerDue, hk]
    rfl
  case stream =>
    intro s req mac hl hw hop hr hq
    refine State.runs_of_live hl rfl ?_
    rw [Dev.wbOp_oldest Dev.wbStream hw hop hr hq]
    rfl
  case attest =>
    intro s req mac hl hw hop hr hq hf hn
    refine State.runs_of_live hl rfl ?_
    rw [Dev.attest_client _ hw, Dev.wbOp_oldest Dev.wbAttest hw hop hr hq]
    exact Dev.wbAttest_starts _ hf hn
  case signed =>
    intro s req body rest hl ha
    refine State.runs_of_live hl rfl ?_
    obtain ⟨e, x, y, he, hs⟩ := Dev.attestSigned_request ha
    rw [hs]
    refine ⟨by simp, by simp, ?_, by simp [he]⟩
    simp [leBytes]

end Sys2Proof.Machine
end

section
/-! The notifications of the device (R63, R520): the first, its window, the resends and the responses. -/

namespace Sys2Proof.Machine
namespace Dev

/-- What waits in the Waybill engine needs no settling. -/
theorem calm_withWb {d : Dev} (x : WbSt) (h : d.calm = true) : ({ d with wb := x } : Dev).calm = true :=
  (calm_congr rfl rfl rfl rfl rfl).trans h

/-- A notification with no window open is sent and opens one (R63). -/
theorem notificationRaised_first {ix : BitVec 16} {sub : BitVec 8} {off : Nat} (d : Dev)
    (ho : evtOffset ix.toNat sub.toNat = some off)
    (hh : d.wb.holds.any (fun h => h.index = ix.toNat ∧ h.sub = sub.toNat) = false) :
    notificationRaised ix sub d = (let d1 := d.notifyAll ix.toNat sub.toNat (d.word off)
      { d1 with wb := { d1.wb with holds := d1.wb.holds ++ [⟨ix.toNat, sub.toNat, none⟩] } }) := by
  simp only [notificationRaised, ho, notify, hh]
  rfl

/-- Within the window it is held with the value last read (R63). -/
theorem notificationRaised_held {ix : BitVec 16} {sub : BitVec 8} {off : Nat} (d : Dev)
    (ho : evtOffset ix.toNat sub.toNat = some off)
    (hh : d.wb.holds.any (fun h => h.index = ix.toNat ∧ h.sub = sub.toNat) = true) :
    notificationRaised ix sub d = { d with wb := { d.wb with holds := d.wb.holds.map (fun h =>
      if h.index = ix.toNat ∧ h.sub = sub.toNat then { h with value := some (d.word off) } else h) } } := by
  simp only [notificationRaised, ho, notify, hh]
  rfl

/-- The window ends with nothing held (R63). -/
theorem notifyHoldExpiry_empty {ix : BitVec 16} {sub : BitVec 8} {h : HoldSt} (d : Dev)
    (hf : d.wb.holds.find? (fun h => h.index == ix.toNat && h.sub == sub.toNat) = some h) (hv : h.value = none) :
    notifyHoldExpiry ix sub d = { d with wb := { d.wb with holds := d.wb.holds.erase h } } := by
  simp only [notifyHoldExpiry, hf, hv]

/-- The window ends and what was held is sent (R63). -/
theorem notifyHoldExpiry_value {ix : BitVec 16} {sub : BitVec 8} {h : HoldSt} {v : Word} (d : Dev)
    (hf : d.wb.holds.find? (fun h => h.index == ix.toNat && h.sub == sub.toNat) = some h) (hv : h.value = some v) :
    notifyHoldExpiry ix sub d =
      ({ d with wb := { d.wb with holds := d.wb.holds.map (fun g =>
          if g.index == ix.toNat && g.sub == sub.toNat then { g with value := none } else g) } } : Dev).notifyAll
        h.index h.sub v := by
  simp only [notifyHoldExpiry, hf, hv]

/-- A NOTIFY sent less than four times is sent again (R63). -/
theorem notifyResendExpiry_again {seq : BitVec 32} {n : NotifySt} (d : Dev)
    (hf : d.wb.notifies.find? (fun n => n.seq == seq.toNat) = some n) (hn : n.resends < 3) :
    notifyResendExpiry seq d =
      ({ d with wb := { d.wb with notifies := d.wb.notifies.map (fun x =>
          if x = n then { n with resends := n.resends + 1 } else x) } } : Dev).sendNotify
        { n with resends := n.resends + 1 } := by
  simp only [notifyResendExpiry, hf, if_neg (Nat.not_le.mpr hn)]

/-- Then it is dropped and counted (R63). -/
theorem notifyResendExpiry_drop {seq : BitVec 32} {n : NotifySt} (d : Dev)
    (hf : d.wb.notifies.find? (fun n => n.seq == seq.toNat) = some n) (hn : 3 ≤ n.resends) :
    notifyResendExpiry seq d = { d with wb := { d.wb with
      notifies := d.wb.notifies.erase n, notifyDropped := d.wb.notifyDropped + 1 } } := by
  simp only [notifyResendExpiry, hf, if_pos hn]

/-- A response to a NOTIFY (R63, R520). -/
theorem wbResponse_notify {r : WbReq} {mac : Nat} (d : Dev) (hw : r.who = .client mac) (hr : r.msg.resp = true)
    (hv : r.msg.version = 1) (hop : r.msg.op = 8) : wbResponse r d = d.notifyAnswered r.msg.seq := by
  simp [wbResponse, hw, hr, hv, hop]

/-- A response of an operation that the device never has outstanding (R520). -/
theorem wbResponse_other {r : WbReq} {mac : Nat} (d : Dev) (hw : r.who = .client mac)
    (hop : r.msg.op ∉ [2, 8, 9, 0xA]) : wbResponse r d = d := by
  simp only [List.mem_cons, List.not_mem_nil, or_false, not_or] at hop
  obtain ⟨h2, h8, h9, hA⟩ := hop
  simp [wbResponse, hw]

end Dev

/-- Settles O10, clause by clause, from the equations of the rows. -/
theorem waybillNotifications : Obligations.WaybillNotifications := by
  refine ⟨?first, ?held, ?empty, ?value, ?again, ?drop, ?answered, ?other⟩
  case first =>
    intro s ix sub off hl ho hh
    exact State.runs_of_live hl rfl (Dev.notificationRaised_first _ ho hh)
  case held =>
    intro s ix sub off hs ho hh
    exact State.goes_of_calm (State.live_of_ready hs) rfl (Dev.notificationRaised_held _ ho hh)
      (Dev.calm_withWb _ (State.calm_of_ready hs))
  case empty =>
    intro s ix sub h hs hf hv
    exact State.goes_of_calm (State.live_of_ready hs) rfl (Dev.notifyHoldExpiry_empty _ hf hv)
      (Dev.calm_withWb _ (State.calm_of_ready hs))
  case value =>
    intro s ix sub h v hl hf hv
    exact State.runs_of_live hl rfl (Dev.notifyHoldExpiry_value _ hf hv)
  case again =>
    intro s seq n hl hf hn
    exact State.runs_of_live hl rfl (Dev.notifyResendExpiry_again _ hf hn)
  case drop =>
    intro s seq n hs hf hn
    exact State.goes_of_calm (State.live_of_ready hs) rfl (Dev.notifyResendExpiry_drop _ hf hn)
      (Dev.calm_withWb _ (State.calm_of_ready hs))
  case answered =>
    intro s req mac hs hw hr hv hop
    exact State.goes_of_calm (State.live_of_ready hs) rfl (Dev.wbResponse_notify _ hw hr hv hop)
      (Dev.calm_withWb _ (State.calm_of_ready hs))
  case other =>
    intro s req mac hs hw hr hop
    exact State.goes_of_calm (State.live_of_ready hs) rfl (Dev.wbResponse_other _ hw hop) (State.calm_of_ready hs)

end Sys2Proof.Machine
end

section
/-! The ports (R45 to R51): what training, a link, a PORT_CTL write and a frame change of the registers, the lanes and
the FIFOs. -/

namespace Sys2Proof.Machine

namespace State

/-- A command that is an event runs on a device with nothing to settle afterwards to a device as `P` says. -/
theorem does_of_calm {i : Instr} {s : State} {f : Dev → Dev} {P : Dev → Prop} (hl : s.live = true)
    (hi : exec i s = s.event f) (hc : (f s.dev).calm = true) (hp : P (f s.dev)) : s.does i P :=
  ⟨_, hi.trans (event_of_calm f s hl hc), rfl, hp⟩

end State

namespace Dev

/-! ## What a write of a register leaves unchanged -/

theorem restSame_trans {d e f : Dev} (h1 : d.restSame e) (h2 : e.restSame f) : d.restSame f := by
  unfold restSame at *
  exact (congrArg (fun a : Dev => { a with
    csr := d.csr, unlocks := d.unlocks, parityFailed := d.parityFailed, kept := d.kept, changes := d.changes
    cmds := d.cmds, answer := d.answer }) h2).trans h1

theorem restSame_putWord (d : Dev) (o : Nat) (x : Word) : d.restSame (d.putWord o x) := rfl
theorem restSame_reply (d : Dev) (c : Code) : d.restSame (d.reply c) := rfl
theorem restSame_disarm (d : Dev) (who : Who) : d.restSame (d.disarm who) := rfl
theorem restSame_arm (d : Dev) (who : Who) : d.restSame (d.arm who) := by unfold arm; split <;> rfl
theorem restSame_touch (d : Dev) (ix : Nat) : d.restSame (d.touch ix) := by unfold touch; split <;> rfl
theorem restSame_cmdStart (d : Dev) (ix sub : Nat) : d.restSame (d.cmdStart ix sub) := rfl
theorem restSame_keepWord (d : Dev) (o : Nat) : d.restSame (d.keepWord o) := by unfold keepWord; split <;> rfl
theorem restSame_parityClear (d : Dev) (o : Nat) : d.restSame (d.parityClear o) := rfl

theorem restSame_unlocked (d : Dev) (who : Who) (off : Nat) (x : Word) : d.restSame (d.unlocked who off x) := by
  unfold unlocked; split <;> rfl

theorem restSame_plainWrite (d : Dev) (r : RegDef) (off : Nat) (x : Word) : d.restSame (d.plainWrite r off x) := by
  unfold plainWrite; split <;> rfl

/-- A write that is taken changes registers alone before its command acts (R77, R81, R90). -/
theorem restSame_written (d : Dev) (who : Who) (off : Nat) (x : Word) (r : RegDef) (hr : regAt off = some r) :
    d.restSame (d.written who off x) := by
  rw [written_eq d who off x r hr]
  exact restSame_trans (restSame_trans (restSame_trans (restSame_unlocked ..) (restSame_keepWord ..))
    (restSame_plainWrite ..)) (restSame_parityClear ..)

theorem port_of_restSame {d e : Dev} (h : d.restSame e) (p : Nat) : e.port p = d.port p := by
  unfold restSame at h
  have h0 : e.port0 = d.port0 := (congrArg Dev.port0 h :)
  have h1 : e.port1 = d.port1 := (congrArg Dev.port1 h :)
  rw [port, port, h0, h1]

/-- A device whose registers alone have changed has nothing more to settle. -/
theorem calm_of_restSame {d e : Dev} (h : d.restSame e) (hc : d.calm = true) : e.calm = true := by
  unfold restSame at h
  exact (calm_congr (congrArg Dev.port0 h :) (congrArg Dev.port1 h :) (congrArg Dev.start h :) (congrArg Dev.mp h :)
    (congrArg Dev.ch h :)).trans hc

/-- What a register without a second half holds after a write that is taken. -/
theorem word_written (d : Dev) (who : Who) {off : Nat} (x : Word) {r : RegDef} (hr : regAt off = some r)
    (hh : otherHalf off = none) : (d.written who off x).word off = r.written (d.word off) x := by
  rw [written_eq d who off x r hr]
  simp [plainWrite, hh]

/-! ## PORT_CTL -/

theorem regAt_portCtl (p : Fin 2) : regAt (Reg.PORT_CTL p.val) = some ⟨0xC0000, 2, 0x1000, 1, 0x0, 0x5800, 1, 0,
   [⟨0, 2, .ctl, true, 0, [(0, 1)], false⟩, ⟨2, 1, .ctl, false, 1, [], false⟩, ⟨3, 1, .ctl, false, 1, [], false⟩,
    ⟨4, 1, .ctl, false, 0, [], false⟩, ⟨5, 8, .ctl, false, 0, [], false⟩, ⟨13, 3, .ctl, false, 7, [], false⟩,
    ⟨16, 14, .ctl, false, 0x2400, [(64, 9216)], false⟩, ⟨30, 1, .ctl, false, 0, [], false⟩]⟩ := by
  revert p
  decide

theorem aliasIndex_portCtl (p : Fin 2) : aliasIndex (Reg.PORT_CTL p.val) = 0x5800 + p.val := by
  revert p
  decide

theorem fifoAt_portCtl (p : Fin 2) : fifoAt (Reg.PORT_CTL p.val) = none := by
  revert p
  decide

/-- PORT_CTL has no command (R45). -/
theorem cmdsAt_portCtl (co : Nat) (p : Fin 2) : cmdsAt co (Reg.PORT_CTL p.val) = [] := by
  have lane : laneAt (Reg.PORT_CTL p.val) = none := by revert p; decide
  have block : Reg.PORT_CTL p.val / 0x10000 = 0xC := by revert p; decide
  have pll : (List.range 32).find? (fun q => pllBase q + 8 == Reg.PORT_CTL p.val) = none := by revert p; decide
  simp [cmdsAt, block, cmdsLane, lane, pll]

theorem presented_portCtl (co : Nat) (p : Fin 2) (x : Word) : presented co (Reg.PORT_CTL p.val) x = [] := by
  simp [presented, cmdsAt_portCtl]

theorem csrHook_portCtl (p : Fin 2) (old : Word) (lvl was : Bool) (d : Dev) :
    csrHook (Reg.PORT_CTL p.val) old lvl was d = portCtlWritten p.val old d := by
  revert p
  rw [Fin.forall_fin_two]
  constructor
  · simp [csrHook, laneAt, Reg.PORT_CTL, Reg.PORT_EN]
  · simp [csrHook, laneAt, Reg.PORT_CTL, Reg.PORT_EN]

theorem otherHalf_portCtl (p : Fin 2) : otherHalf (Reg.PORT_CTL p.val) = none := by
  revert p
  decide

/-- MODE and ENABLE together (R46). -/
theorem fieldOf_modeEnable (x : Word) : fieldOf x 0 3 = fieldOf x 0 2 + 4 * fieldOf x 2 1 := by
  simp only [fieldOf]
  omega

/-- A write of PORT_CTL that is taken gives MODE and ENABLE their values (R81). -/
theorem modeEnable_written (d : Dev) (who : Who) (p : Fin 2) (x : Word) :
    fieldOf ((d.written who (Reg.PORT_CTL p.val) x).word (Reg.PORT_CTL p.val)) 0 3 = fieldOf x 0 3 := by
  have mode : fieldOf x 0 2 % 4 = fieldOf x 0 2 := Nat.mod_eq_of_lt (fieldOf_lt x 0 2)
  have enable : fieldOf x 2 1 % 2 = fieldOf x 2 1 := Nat.mod_eq_of_lt (fieldOf_lt x 2 1)
  rw [word_written d who x (regAt_portCtl p) (otherHalf_portCtl p)]
  simp [RegDef.written, fieldOf_modeEnable, fieldOf_withField_ne, fieldOf_withField_self, mode,
    enable]

/-- PORT_CTL is none of the registers whose writes the model treats apart. -/
theorem portCtl_ne (p : Fin 2) : Reg.PORT_CTL p.val ≠ Reg.UNLOCK_KEY
    ∧ ¬(Reg.PATCH_ADDR 0 ≤ Reg.PORT_CTL p.val ∧ Reg.PORT_CTL p.val < Reg.PATCH_ADDR 16)
    ∧ Reg.PORT_CTL p.val ≠ Reg.PWR_CTL ∧ Reg.PORT_CTL p.val ≠ Reg.CFG_CTL ∧ Reg.PORT_CTL p.val ≠ Reg.NOC_CTL := by
  revert p
  decide

/-- A write of PORT_CTL that is taken, and what follows it (R46). -/
theorem csrWrite_portCtl (d : Dev) (who : Who) (p : Fin 2) (x : Word)
    (h : d.takesWrite who (Reg.PORT_CTL p.val) x = true) :
    d.csrWrite who (Reg.PORT_CTL p.val) x =
      ((portCtlWritten p.val (d.word (Reg.PORT_CTL p.val)) (d.written who (Reg.PORT_CTL p.val) x)).touch
        (0x5800 + p.val), .ok) := by
  obtain ⟨hu, hq, hw, h1, h2⟩ := portCtl_ne p
  rw [csrWrite, csrWriteCo_of_plain d 0 who _ x _ h (presented_portCtl 0 p x) (regAt_portCtl p) (fifoAt_portCtl p)
    hu hq hw h1 h2, csrHook_portCtl, aliasIndex_portCtl]

/-- A write that keeps MODE and ENABLE restarts nothing (R46). -/
theorem portCtlWritten_same {p : Nat} {old : Word} {d : Dev}
    (h : fieldOf (d.word (Reg.PORT_CTL p)) 0 3 = fieldOf old 0 3) : portCtlWritten p old d = d := by
  rw [portCtlWritten, if_pos (Or.inl h)]

/-- A write that changes MODE or ENABLE asks for a restart once the frames queued so far have left (R46). -/
theorem portCtlWritten_change {p : Nat} {old : Word} {d : Dev}
    (h : fieldOf (d.word (Reg.PORT_CTL p)) 0 3 ≠ fieldOf old 0 3) (hn : (d.port p).pendingCtl = none) :
    portCtlWritten p old d = d.setPort p { d.port p with pendingCtl := some (d.port p).txWb.length } := by
  rw [portCtlWritten, if_neg (by simp [h, hn])]

/-! ## The state of a port -/

@[simp] theorem port_setPort_self (d : Dev) (p : Nat) (x : PortSt) : (d.setPort p x).port p = x := by
  unfold setPort port
  split <;> rfl

@[simp] theorem port_set (d : Dev) (f : Fld) (v p : Nat) : (d.set f v).port p = d.port p := rfl

@[simp] theorem port_clear (d : Dev) (f : Fld) (p : Nat) : (d.clear f).port p = d.port p := rfl

@[simp] theorem port_touch (d : Dev) (ix p : Nat) : (d.touch ix).port p = d.port p := by
  unfold touch; split <;> rfl

@[simp] theorem port_reply (d : Dev) (c : Code) (p : Nat) : (d.reply c).port p = d.port p := rfl

@[simp] theorem port_setLane (d : Dev) (l : LaneId) (x : LaneSt) (p : Nat) : (d.setLane l x).port p = d.port p := rfl

@[simp] theorem setPort_mp (d : Dev) (p : Nat) (x : PortSt) : (d.setPort p x).mp = d.mp := by
  unfold setPort; split <;> rfl

@[simp] theorem setPort_ch (d : Dev) (p : Nat) (x : PortSt) : (d.setPort p x).ch = d.ch := by
  unfold setPort; split <;> rfl

@[simp] theorem setPort_time (d : Dev) (p : Nat) (x : PortSt) : (d.setPort p x).time = d.time := by
  unfold setPort; split <;> rfl

@[simp] theorem ctl_setPort (d : Dev) (p : Nat) (x : PortSt) (f : Fld) : (d.setPort p x).ctl f = d.ctl f := by
  unfold setPort; split <;> rfl

@[simp] theorem ctlOn_setPort (d : Dev) (p : Nat) (x : PortSt) (f : Fld) : (d.setPort p x).ctlOn f = d.ctlOn f := by
  simp [ctlOn]

@[simp] theorem linkUp_setPort (d : Dev) (p q : Nat) (x : PortSt) : (d.setPort p x).linkUp q = d.linkUp q := by
  simp [linkUp]

@[simp] theorem stamp_setPort (d : Dev) (p : Nat) (x : PortSt) : (d.setPort p x).stamp = d.stamp := by
  simp [stamp, get64]

@[simp] theorem toWaybill_setPort (d : Dev) (q : Nat) (x : PortSt) (p : Fin 2) (f : RxFrame) :
    (d.setPort q x).toWaybill p f = d.toWaybill p f := by
  unfold setPort; split <;> rfl

/-- What settles, by what waits for the end of a command, the processor and the channels. -/
theorem calm_of_due {d e : Dev} (hd : e.due = d.due) (hm : e.mp = d.mp) (hc : e.ch = d.ch) (h : d.calm = true) :
    e.calm = true := by
  simp only [due, Prod.mk.injEq] at hd
  obtain ⟨h0, h1, hs⟩ := hd
  simpa [calm, h0, h1, hs, hm, hc] using h

/-- A port's state may change in everything but its restart. -/
theorem calm_setPort {d : Dev} (p : Nat) {x : PortSt} (hx : x.pendingCtl = (d.port p).pendingCtl)
    (h : d.calm = true) : (d.setPort p x).calm = true :=
  calm_of_due (due_setPort d p x hx) (setPort_mp ..) (setPort_ch ..) h

theorem calm_set {d : Dev} (f : Fld) (v : Nat) (h : d.calm = true) : (d.set f v).calm = true :=
  (calm_congr rfl rfl rfl rfl rfl).trans h

/-! ## Training and links -/

/-- What a lane's training start does to its registers and its running work (R45). -/
def laneTrain (d : Dev) (l : LaneId) : Dev := (d.laneQuiet l).set l.STATE 1

theorem STATE_off_ne {l m : LaneId} (h : l ≠ m) : l.STATE.off ≠ m.STATE.off := by
  cases l <;> cases m <;> simp only [LaneId.STATE, LaneId.fld, LaneId.base, ne_eq, LaneId.line.injEq,
    LaneId.heritage.injEq, LaneId.port.injEq, Fin.ext_iff] at h ⊢ <;> omega

theorem portSts_ne_STATE (p : Fin 2) (l : LaneId) : Reg.PORT_STS p.val ≠ l.STATE.off := by
  cases l <;> simp only [LaneId.STATE, LaneId.fld, LaneId.base, Reg.PORT_STS] <;> omega

/-- A lane's training start writes LANE_STS alone. -/
theorem word_laneTrain (d : Dev) (l : LaneId) {o : Nat} (h : o ≠ l.STATE.off) : (d.laneTrain l).word o = d.word o := by
  have h' : o ≠ l.base + 0x28 := h
  simp [laneTrain, laneQuiet, clear_eq, word_set_ne, LaneId.fld, LaneId.SIGNAL, LaneId.CDR_LOCK, LaneId.ALIGNED,
    LaneId.CHK_LOCKED, LaneId.EQF, LaneId.SLIP_BUSY, LaneId.STATE, h']

theorem lstate_laneTrain_self (d : Dev) (l : LaneId) : (d.laneTrain l).lstate l = 1 := by
  rw [lstate, laneTrain, get_set_self _ _ _ (by simp [LaneId.STATE, LaneId.fld])]
  rfl

theorem lstate_laneTrain_ne (d : Dev) {l m : LaneId} (h : m ≠ l) : (d.laneTrain l).lstate m = d.lstate m := by
  rw [lstate, lstate, get, get, word_laneTrain d l (STATE_off_ne h)]

@[simp] theorem port_laneQuiet (d : Dev) (l : LaneId) (p : Nat) : (d.laneQuiet l).port p = d.port p := by
  unfold laneQuiet
  rw [port_setLane, port_clear, port_clear, port_clear, port_clear, port_clear, port_clear]

@[simp] theorem port_laneTrain (d : Dev) (l : LaneId) (p : Nat) : (d.laneTrain l).port p = d.port p := by
  rw [laneTrain, port_set, port_laneQuiet]

/-- Every lane of a fold of training starts trains. -/
theorem lstate_foldl_laneTrain (ls : List LaneId) (d : Dev) : ∀ l ∈ ls, (ls.foldl laneTrain d).lstate l = 1 := by
  induction ls generalizing d with
  | nil => simp
  | cons m ms ih =>
    intro l hl
    by_cases hms : l ∈ ms
    · exact ih _ l hms
    · obtain rfl : l = m := by simpa [hms] using hl
      refine List.foldlRecOn (motive := fun e => e.lstate l = 1) ms laneTrain (lstate_laneTrain_self d l) ?_
      intro e he m hm
      exact (lstate_laneTrain_ne e (by rintro rfl; exact hms hm)).trans he

/-- Training starts on the lanes of the port's mode (R45, R46). -/
theorem portTrainingStart_eq {p : Fin 2} {d : Dev} (hl : d.linkUp p.val = false) (ht : d.portCanTrain p = true) :
    portTrainingStart p d =
      (d.portLanes p).foldl laneTrain (d.setPort p.val { d.port p.val with training := true }) := by
  rw [portTrainingStart, if_neg (by simp [hl, ht])]
  rfl

/-- PORT_STS and PORT_EVT of a link that has come up (R46). -/
def showLink (d : Dev) (p : Nat) (kr1 : Prop) [Decidable kr1] : Dev :=
  (((d.raise (Reg.PORT_STS_LINK_UP p)).setBit (Reg.PORT_STS_KR1_ACTIVE p) kr1).set
    (Reg.PORT_STS_LANE_OK p) (if kr1 then 1 else 15)).raise (Reg.PORT_EVT_LINK_RISE p)

/-- PORT_STS and PORT_EVT of a link that has been lost (R46). -/
def hideLink (d : Dev) (p : Nat) : Dev :=
  (((d.clear (Reg.PORT_STS_LINK_UP p)).clear (Reg.PORT_STS_KR1_ACTIVE p)).clear
    (Reg.PORT_STS_LANE_OK p)).raise (Reg.PORT_EVT_LINK_DOWN p)

theorem portSts_ne_portEvt (p : Nat) : Reg.PORT_STS p ≠ Reg.PORT_EVT p := by simp [Reg.PORT_STS, Reg.PORT_EVT]

@[simp] theorem port_showLink (d : Dev) (p q : Nat) (kr1 : Prop) [Decidable kr1] :
    (d.showLink p kr1).port q = d.port q := by
  simp [showLink, raise_eq, setBit_eq]

@[simp] theorem port_hideLink (d : Dev) (p q : Nat) : (d.hideLink p).port q = d.port q := by
  simp [hideLink, raise_eq, clear_eq]

theorem linkUp_showLink (d : Dev) (p : Nat) (kr1 : Prop) [Decidable kr1] : (d.showLink p kr1).linkUp p = true := by
  simp [linkUp, on, showLink, raise_eq, setBit_eq, get_set_off, get_set_ne, get_set_self, Reg.PORT_STS_LINK_UP,
    Reg.PORT_STS_KR1_ACTIVE, Reg.PORT_STS_LANE_OK, Reg.PORT_EVT_LINK_RISE, portSts_ne_portEvt]

theorem kr1_showLink (d : Dev) (p : Nat) (kr1 : Prop) [Decidable kr1] :
    (d.showLink p kr1).on (Reg.PORT_STS_KR1_ACTIVE p) = decide kr1 := by
  by_cases h : kr1 <;> simp [on, showLink, raise_eq, setBit_eq, get_set_off, get_set_ne, get_set_self,
    Reg.PORT_STS_KR1_ACTIVE, Reg.PORT_STS_LANE_OK, Reg.PORT_EVT_LINK_RISE, portSts_ne_portEvt, h]

theorem laneOk_showLink (d : Dev) (p : Nat) (kr1 : Prop) [Decidable kr1] :
    (d.showLink p kr1).get (Reg.PORT_STS_LANE_OK p) = if kr1 then 1 else 15 := by
  by_cases h : kr1 <;> simp [showLink, raise_eq, get_set_off, get_set_self, Reg.PORT_STS_LANE_OK,
    Reg.PORT_EVT_LINK_RISE, portSts_ne_portEvt, h]

theorem rise_showLink (d : Dev) (p : Nat) (kr1 : Prop) [Decidable kr1] :
    (d.showLink p kr1).on (Reg.PORT_EVT_LINK_RISE p) = true := by
  exact on_raise_self _ _ (by simp [Reg.PORT_EVT_LINK_RISE]) (by simp [Reg.PORT_EVT_LINK_RISE])

theorem linkUp_hideLink (d : Dev) (p : Nat) : (d.hideLink p).linkUp p = false := by
  simp [linkUp, on, hideLink, raise_eq, clear_eq, get_set_off, get_set_ne, get_set_self, Reg.PORT_STS_LINK_UP,
    Reg.PORT_STS_KR1_ACTIVE, Reg.PORT_STS_LANE_OK, Reg.PORT_EVT_LINK_DOWN, portSts_ne_portEvt]

theorem laneOk_hideLink (d : Dev) (p : Nat) : (d.hideLink p).get (Reg.PORT_STS_LANE_OK p) = 0 := by
  simp [hideLink, raise_eq, clear_eq, get_set_off, get_set_self, Reg.PORT_STS_LANE_OK, Reg.PORT_EVT_LINK_DOWN,
    portSts_ne_portEvt]

theorem down_hideLink (d : Dev) (p : Nat) : (d.hideLink p).on (Reg.PORT_EVT_LINK_DOWN p) = true :=
  on_raise_self _ _ (by simp [Reg.PORT_EVT_LINK_DOWN]) (by simp [Reg.PORT_EVT_LINK_DOWN])

theorem word_hideLink (d : Dev) (p : Nat) {o : Nat} (hs : o ≠ Reg.PORT_STS p) (he : o ≠ Reg.PORT_EVT p) :
    (d.hideLink p).word o = d.word o := by
  simp [hideLink, raise_eq, clear_eq, word_set_ne, Reg.PORT_STS_LINK_UP, Reg.PORT_STS_KR1_ACTIVE,
    Reg.PORT_STS_LANE_OK, Reg.PORT_EVT_LINK_DOWN, hs, he]

/-- A link that is up is lost with what was queued for it (R46, R51). -/
theorem linkLost_eq {d : Dev} {p : Nat} (h : d.linkUp p = true) :
    d.linkLost p = (d.setPort p { d.port p with txWb := [], txFifo := [], training := false }).hideLink p := by
  rw [linkLost, if_neg (by simp [h])]
  rfl

/-- What a lane shows once its port's link is up (R46). -/
def laneUp (d : Dev) (l : LaneId) : Dev :=
  ((((d.set l.STATE (if d.ctlOn l.FREEZE then 5 else 4)).raise l.SIGNAL).raise l.CDR_LOCK).raise l.ALIGNED).raise
    l.PLL_LOCK

@[simp] theorem port_laneUp (d : Dev) (l : LaneId) (p : Nat) : (d.laneUp l).port p = d.port p := by
  simp [laneUp, raise_eq]

/-- The link of a port that has trained comes up (R45, R46). -/
theorem portLinkUp_eq {p : Fin 2} {d : Dev} (hl : d.linkUp p.val = false) (ht : (d.port p.val).training = true)
    (hc : d.portCanTrain p = true) : portLinkUp p d =
      ((d.portLanes p).foldl laneUp (d.setPort p.val { d.port p.val with training := false })).showLink p.val
        (d.ctl (Reg.PORT_CTL_MODE p.val) = 1) := by
  rw [portLinkUp, if_neg (by simp [hl, ht, hc])]
  rfl

/-! ## Frames received -/

/-- What an awake port whose link is up does with a frame that arrives (R47 to R50). -/
def rxFrame (p : Fin 2) (f : RxFrame) (d : Dev) : Dev :=
  if f.bytes.length < 64 then
    (d.count (Reg.PORT_CNT_RUNT_CNT p.val)).raise (Reg.PORT_EVT_RUNT p.val)
  else if d.ctl (Reg.PORT_CTL_MAX_FRAME p.val) < f.bytes.length then
    (d.count (Reg.PORT_CNT_OVERSIZE_CNT p.val)).raise (Reg.PORT_EVT_OVERSIZE p.val)
  else
    match d.toWaybill p f with
    | some w =>
      if f.fcsOk then d.wbMessage (frameReq p f w)
      else (d.count (Reg.PORT_CNT_WB_FCS_CNT p.val)).raise (Reg.PORT_EVT_WB_BAD_FCS p.val)
    | none =>
      match if (etherAt f.bytes).1 = 0x8808 then pauseTimes f.bytes (etherAt f.bytes).2 else none with
      | some ts => if f.fcsOk then d.rxPause p ts else d
      | none =>
        (if (ptpEventAt f.bytes).isSome then
          d.setPort p.val { d.port p.val with rxStamp := d.stamp } else d).rxUser p f

/-- The fabric takes its words, the frame wakes a port that sleeps or drains, and an awake port takes the frame. -/
theorem portRxFrame_eq (p : Fin 2) (f : RxFrame) (taken : Nat) (flips : List (Nat × BitVec 13)) (d : Dev) :
    portRxFrame p f taken flips d =
      let dr := d.rxTake p.val taken flips
      let d0 := if dr.on (Reg.DOM_STS_DRAINING (2 + p.val)) then dr.wakeSignal (Fin.ofNat 256 (2 + p.val)) else dr
      if d0.domState (2 + p.val) ≠ 0 then d0.wakeSignal (Fin.ofNat 256 (2 + p.val))
      else if !d0.linkUp p.val then d0
      else d0.rxFrame p f := rfl

/-- Without a drain, in D0 and with the link up the frame is taken. -/
theorem portRxFrame_awake {p : Fin 2} {f : RxFrame} {taken : Nat} {flips : List (Nat × BitVec 13)} {d : Dev}
    (hs : d.domState (2 + p.val) = 0) (hd : d.on (Reg.DOM_STS_DRAINING (2 + p.val)) = false)
    (hl : d.linkUp p.val = true) : portRxFrame p f taken flips d = (d.rxTake p.val taken flips).rxFrame p f := by
  have hd' : (d.rxTake p.val taken flips).on (Reg.DOM_STS_DRAINING (2 + p.val)) = false := by simp [rxTake, hd]
  have hs' : (d.rxTake p.val taken flips).domState (2 + p.val) = 0 := by simpa [rxTake, domState] using hs
  have hl' : (d.rxTake p.val taken flips).linkUp p.val = true := by simp [rxTake, hl]
  simp [portRxFrame_eq, hd', hs', hl']

theorem rxFrame_runt {p : Fin 2} {f : RxFrame} (d : Dev) (h : f.bytes.length < 64) :
    d.rxFrame p f = (d.count (Reg.PORT_CNT_RUNT_CNT p.val)).raise (Reg.PORT_EVT_RUNT p.val) := by
  rw [rxFrame, if_pos h]

theorem rxFrame_oversize {p : Fin 2} {f : RxFrame} (d : Dev) (h64 : 64 ≤ f.bytes.length)
    (h : d.ctl (Reg.PORT_CTL_MAX_FRAME p.val) < f.bytes.length) :
    d.rxFrame p f = (d.count (Reg.PORT_CNT_OVERSIZE_CNT p.val)).raise (Reg.PORT_EVT_OVERSIZE p.val) := by
  rw [rxFrame, if_neg (by omega), if_pos h]

/-- A good Waybill frame to this device (R49). -/
theorem rxFrame_waybill {p : Fin 2} {f : RxFrame} {d : Dev} {w : Nat × Nat × Carrier} (h64 : 64 ≤ f.bytes.length)
    (hm : f.bytes.length ≤ d.ctl (Reg.PORT_CTL_MAX_FRAME p.val)) (hw : d.toWaybill p f = some w)
    (hf : f.fcsOk = true) : d.rxFrame p f = d.wbMessage (frameReq p f w) := by
  rw [rxFrame, if_neg (by omega), if_neg (by omega)]
  simp only [hw, hf, if_true]

/-- A pause frame (R47). -/
theorem rxFrame_pause {p : Fin 2} {f : RxFrame} {d : Dev} {ts : List (Nat × Nat)} (h64 : 64 ≤ f.bytes.length)
    (hm : f.bytes.length ≤ d.ctl (Reg.PORT_CTL_MAX_FRAME p.val)) (hw : d.toWaybill p f = none)
    (he : (etherAt f.bytes).1 = 0x8808) (ht : pauseTimes f.bytes (etherAt f.bytes).2 = some ts)
    (hf : f.fcsOk = true) : d.rxFrame p f = d.rxPause p ts := by
  rw [rxFrame, if_neg (by omega), if_neg (by omega)]
  simp only [hw, he, ht, hf, if_true]

/-- A frame for the fabric (R50). -/
theorem rxFrame_user {p : Fin 2} {f : RxFrame} {d : Dev} (h64 : 64 ≤ f.bytes.length)
    (hm : f.bytes.length ≤ d.ctl (Reg.PORT_CTL_MAX_FRAME p.val)) (hw : d.toWaybill p f = none)
    (he : (etherAt f.bytes).1 ≠ 0x8808) (ht : ptpEventAt f.bytes = none) : d.rxFrame p f = d.rxUser p f := by
  rw [rxFrame, if_neg (by omega), if_neg (by omega)]
  simp only [hw, if_neg he, ht, Option.isSome_none, Bool.false_eq_true, if_false]

theorem length_frameWords (bs : List Byte) (err : Bool) : (frameWords bs err).length = (bs.length + 127) / 128 := by
  simp [frameWords]

/-- A frame that the receive FIFO has room for enters it (R50). -/
theorem rxUser_room {p : Fin 2} {f : RxFrame} {d : Dev}
    (h : (d.port p.val).rxFifo.length + (f.bytes.length + 127) / 128 ≤ 128) :
    d.rxUser p f = d.setPort p.val { d.port p.val with
      rxFifo := (d.port p.val).rxFifo ++ frameWords f.bytes (!f.fcsOk) } := by
  rw [rxUser, if_pos (by rwa [length_frameWords])]

@[simp] theorem toWaybill_rxTake (d : Dev) (q k : Nat) (flips : List (Nat × BitVec 13)) (p : Fin 2) (f : RxFrame) :
    (d.rxTake q k flips).toWaybill p f = d.toWaybill p f := toWaybill_setPort ..

@[simp] theorem ctl_rxTake (d : Dev) (q k : Nat) (flips : List (Nat × BitVec 13)) (f : Fld) :
    (d.rxTake q k flips).ctl f = d.ctl f := ctl_setPort ..

theorem length_rxFifo_rxTake (d : Dev) (p k : Nat) (flips : List (Nat × BitVec 13)) :
    ((d.rxTake p k flips).port p).rxFifo.length = (d.port p).rxFifo.length - k := by
  simp [rxTake]

theorem calm_rxTake {d : Dev} (p k : Nat) (flips : List (Nat × BitVec 13)) (h : d.calm = true) :
    (d.rxTake p k flips).calm = true := calm_setPort p (by rfl) h

/-! ## Frames sent -/

theorem calm_txAccept {d : Dev} (p : Nat) (ws : List FifoWord) (h : d.calm = true) : (d.txAccept p ws).calm = true :=
  calm_setPort p (by rfl) h

@[simp] theorem txHeld_txAccept (d : Dev) (p prio : Nat) (ws : List FifoWord) :
    (d.txAccept p ws).txHeld p prio = d.txHeld p prio := by
  simp [txHeld, txAccept]

/-- The first frame that the device has queued leaves before a user frame (R51). -/
theorem portTxFrame_waybill {p : Fin 2} {user : List FifoWord} {d : Dev} {dst prio : Nat} {c : Carrier}
    {bytes : List Byte} {rest : List TxFrame} (hl : d.linkUp p.val = true) (ha : d.portAwake p.val = true)
    (hq : (d.port p.val).txWb = .waybill dst c prio bytes :: rest) (hh : d.txHeld p.val prio = false) :
    portTxFrame p user d = (d.txAccept p.val user).setPort p.val { (d.txAccept p.val user).port p.val with
      txWb := rest, sent := [.waybill dst c prio bytes] } := by
  have hq' : ((d.txAccept p.val user).port p.val).txWb = .waybill dst c prio bytes :: rest := by simp [txAccept, hq]
  have hl' : (d.txAccept p.val user).linkUp p.val = true := by simp [txAccept, hl]
  simp [portTxFrame, ha, hq', hl', framePrio, hh]

/-- With none queued the first whole user frame leaves, stamped as its kind asks for (R48, R50, R51). -/
theorem portTxFrame_user {p : Fin 2} {user : List FifoWord} {d : Dev} {bs : List Byte} {rest : List FifoWord}
    (hl : d.linkUp p.val = true) (ha : d.portAwake p.val = true) (hq : (d.port p.val).txWb = [])
    (hf : firstFrame ((d.txAccept p.val user).port p.val).txFifo = some (bs, rest))
    (hh : d.txHeld p.val (bytesPrio bs) = false) :
    portTxFrame p user d = (d.txAccept p.val user).setPort p.val { (d.txAccept p.val user).port p.val with
      txFifo := rest
      sent := [.user (stampedUser (d.ctlOn (Reg.PORT_CTL_TS_ONESTEP p.val)) d.stamp bs)]
      txStamp := if (ptpEventAt bs).isSome then d.stamp else ((d.txAccept p.val user).port p.val).txStamp } := by
  have hq' : ((d.txAccept p.val user).port p.val).txWb = [] := by simp [txAccept, hq]
  have hl' : (d.txAccept p.val user).linkUp p.val = true := by simp [txAccept, hl]
  have hs : (d.txAccept p.val user).stamp = d.stamp := by simp [txAccept]
  have hc : ∀ f, (d.txAccept p.val user).ctlOn f = d.ctlOn f := by simp [txAccept]
  simp [portTxFrame, ha, hq', hl', hf, hh, hs, hc]

/-! ## The loss of a link -/

theorem calm_linkLost {d : Dev} (p : Nat) (h : d.calm = true) : (d.linkLost p).calm = true :=
  calm_of_due (due_linkLost d p) (by unfold linkLost; split <;> simp) (by unfold linkLost; split <;> simp) h

theorem restSame_set (d : Dev) (f : Fld) (v : Nat) : d.restSame (d.set f v) := restSame_putWord ..

theorem restSame_hideLink (d : Dev) (p : Nat) : d.restSame (d.hideLink p) :=
  restSame_trans (restSame_trans (restSame_trans (restSame_set ..) (restSame_set ..)) (restSame_set ..))
    (restSame_set ..)

/-- The ports apart, what a register write leaves stays. -/
theorem restSame_withPorts {d e : Dev} (x y : PortSt) (h : d.restSame e) :
    ({ d with port0 := x, port1 := y } : Dev).restSame { e with port0 := x, port1 := y } := by
  unfold restSame at *
  exact (congrArg (fun a : Dev => { a with port0 := x, port1 := y }) h :)

theorem setPort_withPorts (d : Dev) (p : Nat) (z x y : PortSt) :
    ({ d.setPort p z with port0 := x, port1 := y } : Dev) = { d with port0 := x, port1 := y } := by
  unfold setPort; split <;> rfl

/-- A link's loss changes the ports and registers alone. -/
theorem restSame_linkLost {d : Dev} {p : Nat} (h : d.linkUp p = true) :
    d.restSame { d.linkLost p with port0 := d.port0, port1 := d.port1 } := by
  have hide := restSame_withPorts d.port0 d.port1
    (restSame_hideLink (d.setPort p { d.port p with txWb := [], txFifo := [], training := false }) p)
  rwa [setPort_withPorts, ← linkLost_eq h] at hide

end Dev

/-- Settles O12, clause by clause: what each command makes of the lanes, PORT_STS, PORT_EVT and the FIFOs. -/
theorem ports : Obligations.Ports := by
  refine ⟨?training, ?linkUp, ?linkDown, ?ctlChange, ?ctlSame, ?runt, ?oversize, ?pause, ?user, ?waybill, ?txWaybill,
    ?txUser, ?txEvent⟩
  case training =>
    intro s p hl hd ht
    refine State.runs_of_live hl rfl ?_
    rw [Dev.portTrainingStart_eq hd ht]
    refine ⟨?_, ?_, Dev.lstate_foldl_laneTrain _ _⟩
    · rw [foldl_keeps (Dev.port · p.val) Dev.laneTrain (fun d l => d.port_laneTrain l p.val), Dev.port_setPort_self]
    · have sts := foldl_keeps (Dev.word · (Reg.PORT_STS p.val)) Dev.laneTrain
        (fun d l => d.word_laneTrain l (Dev.portSts_ne_STATE p l))
      rw [← hd]
      simp only [Dev.linkUp, Dev.on, Dev.get, Reg.PORT_STS_LINK_UP, sts, Dev.word_setPort]
  case linkUp =>
    intro s p hl hd ht htr
    refine State.runs_of_live hl rfl ?_
    rw [Dev.portLinkUp_eq hd htr ht]
    refine ⟨Dev.linkUp_showLink _ _ _, ?_, Dev.rise_showLink _ _ _, Dev.kr1_showLink _ _ _, Dev.laneOk_showLink _ _ _⟩
    rw [Dev.port_showLink, foldl_keeps (Dev.port · p.val) Dev.laneUp (fun d l => d.port_laneUp l p.val),
      Dev.port_setPort_self]
  case linkDown =>
    intro s p hs hu
    refine State.does_of_calm (State.live_of_ready hs) rfl (Dev.calm_linkLost p.val (State.calm_of_ready hs)) ?_
    have rest := Dev.restSame_linkLost hu
    rw [Dev.portLinkDown]
    rw [Dev.linkLost_eq hu] at rest ⊢
    refine ⟨Dev.linkUp_hideLink _ _, ?_, ?_, Dev.down_hideLink _ _, Dev.laneOk_hideLink _ _, ?_, rest⟩
    · rw [Dev.port_hideLink, Dev.port_setPort_self]
    · rw [Dev.port_hideLink, Dev.port_setPort_self]
    · intro o ho
      simp only [List.mem_cons, List.not_mem_nil, or_false, not_or] at ho
      rw [Dev.word_hideLink _ _ ho.1 ho.2, Dev.word_setPort]
  case ctlChange =>
    intro s who p x hl ht hne hn
    refine State.runs_of_live hl rfl ?_
    have same := Dev.restSame_written s.dev who (Reg.PORT_CTL p.val) x _ (Dev.regAt_portCtl p)
    have port := Dev.port_of_restSame same p.val
    have word := Dev.modeEnable_written s.dev who p x
    rw [Dev.csrWrite_portCtl s.dev who p x ht, Dev.portCtlWritten_change (by rw [word]; exact hne)
      (by rw [port]; exact hn), port]
    rw [Dev.port_reply, Dev.port_touch, Dev.port_setPort_self]
    exact ⟨rfl, by simpa using word, rfl, rfl⟩
  case ctlSame =>
    intro s who p x hs ht heq
    have same := Dev.restSame_written s.dev who (Reg.PORT_CTL p.val) x _ (Dev.regAt_portCtl p)
    refine State.goes_of_calm (State.live_of_ready hs) rfl ?_ (Dev.calm_of_restSame (Dev.restSame_trans same
      (Dev.restSame_trans (Dev.restSame_touch _ _) (Dev.restSame_reply _ _))) (State.calm_of_ready hs))
    rw [Dev.csrWrite_portCtl s.dev who p x ht, Dev.portCtlWritten_same ((Dev.modeEnable_written ..).trans heq)]
  case runt =>
    intro s p f taken flips hs h0 hd hu h64
    refine State.goes_of_calm (State.live_of_ready hs) rfl ?_
      (Dev.calm_set _ _ (Dev.calm_set _ _ (Dev.calm_rxTake _ _ _ (State.calm_of_ready hs))))
    rw [Dev.portRxFrame_awake h0 hd hu, Dev.rxFrame_runt _ h64]
  case oversize =>
    intro s p f taken flips hs h0 hd hu hm h64
    refine State.goes_of_calm (State.live_of_ready hs) rfl ?_
      (Dev.calm_set _ _ (Dev.calm_set _ _ (Dev.calm_rxTake _ _ _ (State.calm_of_ready hs))))
    rw [Dev.portRxFrame_awake h0 hd hu, Dev.rxFrame_oversize _ h64 (by rw [Dev.ctl_rxTake]; exact hm)]
  case pause =>
    intro s p f taken flips ts hs h0 hd hu h64 hm hw he hp hf
    refine State.goes_of_calm (State.live_of_ready hs) rfl ?_
      (Dev.calm_setPort p.val rfl (Dev.calm_rxTake _ _ _ (State.calm_of_ready hs)))
    rw [Dev.portRxFrame_awake h0 hd hu, Dev.rxFrame_pause h64 (by rw [Dev.ctl_rxTake]; exact hm)
      (by rw [Dev.toWaybill_rxTake]; exact hw) he hp hf]
  case user =>
    intro s p f taken flips hs h0 hd hu h64 hm hw he hp hroom
    refine State.goes_of_calm (State.live_of_ready hs) rfl ?_
      (Dev.calm_setPort p.val rfl (Dev.calm_rxTake _ _ _ (State.calm_of_ready hs)))
    rw [Dev.portRxFrame_awake h0 hd hu, Dev.rxFrame_user h64 (by rw [Dev.ctl_rxTake]; exact hm)
      (by rw [Dev.toWaybill_rxTake]; exact hw) he hp, Dev.rxUser_room (by rw [Dev.length_rxFifo_rxTake]; exact hroom)]
  case waybill =>
    intro s p f taken flips w hl h0 hd hu h64 hm hw hf
    refine State.runs_of_live hl rfl ?_
    rw [Dev.portRxFrame_awake h0 hd hu, Dev.rxFrame_waybill h64 (by rw [Dev.ctl_rxTake]; exact hm)
      (by rw [Dev.toWaybill_rxTake]; exact hw) hf]
  case txWaybill =>
    intro s p user dst prio c bytes rest hs hu ha hq hh
    exact State.goes_of_calm (State.live_of_ready hs) rfl (Dev.portTxFrame_waybill hu ha hq hh)
      (Dev.calm_setPort p.val rfl (Dev.calm_txAccept _ _ (State.calm_of_ready hs)))
  case txUser =>
    intro s p user bs rest hs hu ha hq hf hh hp
    refine State.goes_of_calm (State.live_of_ready hs) rfl ?_
      (Dev.calm_setPort p.val rfl (Dev.calm_txAccept _ _ (State.calm_of_ready hs)))
    rw [Dev.portTxFrame_user hu ha hq hf hh, Dev.stampedUser, hp]
    rfl
  case txEvent =>
    intro s p user bs rest o hs hu ha hq hf hh hp
    have tx := Dev.portTxFrame_user hu ha hq hf hh
    refine State.does_of_calm (f := Dev.portTxFrame p user) (State.live_of_ready hs) rfl ?_ ?_
    · rw [tx]
      exact Dev.calm_setPort p.val rfl (Dev.calm_txAccept _ _ (State.calm_of_ready hs))
    · rw [tx, Dev.port_setPort_self]
      exact ⟨by simp [hp], rfl, fun hone => by simp [Dev.stampedUser, hp, hone]⟩

end Sys2Proof.Machine
end

section
/-! The unlocks (R76, R77) and the snapshots (R29, R94, R95). -/

namespace Sys2Proof.Machine
namespace Dev

/-! ## Unlocks -/

/-- UNLOCK_KEY holds its key field alone, which is not guarded (R76). -/
theorem regAt_unlockKey :
    regAt Reg.UNLOCK_KEY = some ⟨0x10, 1, 0x0, 1, 0x0, 0x1F00, 0, 0, [⟨0, 16, .key, false, 0, [], false⟩]⟩ := by
  decide

/-- A write of UNLOCK_KEY needs no unlock. -/
theorem unlocked_unlockKey (d : Dev) (who : Who) (x : Word) : d.unlocked who Reg.UNLOCK_KEY x = d := by
  simp [unlocked, csrGuarded, regAt_unlockKey, RegDef.changesG]

/-- A write of the key arms its writer, and any other value disarms it (R76). -/
theorem csrStore_unlockKey (co : Nat) (whole : Bool) (who : Who) (x : Word) (d : Dev) :
    d.csrStore co whole who Reg.UNLOCK_KEY x =
      if fieldOf x 0 16 = 0x7A3C then (d.arm who, .ok) else (d.disarm who, .targetErr) := by
  have hf : fifoAt Reg.UNLOCK_KEY = none := by decide
  simp only [csrStore, hf, if_true]

theorem csrWrite_unlockKey (d : Dev) (who : Who) (h : d.takesWrite who Reg.UNLOCK_KEY 0x7A3C = true) :
    d.csrWrite who Reg.UNLOCK_KEY 0x7A3C = ((d.arm who).touch 0x1F00, .ok) := by
  have ha : aliasIndex Reg.UNLOCK_KEY = 0x1F00 := by decide
  have hs : d.csrStore 0 true who Reg.UNLOCK_KEY 0x7A3C = (d.arm who, .ok) := by
    rw [csrStore_unlockKey, if_pos (by decide)]
  rw [csrWrite, csrWriteCo_of_taken d 0 who _ _ h, unlocked_unlockKey, hs,
    aliasesWritten_eq _ _ (by decide) (by decide), ha]
  rfl

/-- The key field of a write of UNLOCK_KEY is what was written. -/
theorem fieldOf_key (key : BitVec 16) : fieldOf (key.setWidth 32) 0 16 = key.toNat := by
  have := key.isLt
  simp only [fieldOf, BitVec.toNat_setWidth]
  omega

theorem csrWrite_wrongKey (d : Dev) (who : Who) (key : BitVec 16)
    (h : d.takesWrite who Reg.UNLOCK_KEY (key.setWidth 32) = true) (hk : key ≠ 0x7A3C) :
    d.csrWrite who Reg.UNLOCK_KEY (key.setWidth 32) = (d.disarm who, .targetErr) := by
  have hn : ¬fieldOf (key.setWidth 32) 0 16 = 0x7A3C := by
    rw [fieldOf_key]
    exact fun h => hk (BitVec.eq_of_toNat_eq h)
  rw [csrWrite, csrWriteCo_of_taken d 0 who _ _ h, unlocked_unlockKey, csrStore_unlockKey, if_neg hn]
  rfl

theorem armed_disarm_self (d : Dev) (who : Who) : (d.disarm who).armed who = false := by simp [armed, disarm]

theorem armed_disarm_ne (d : Dev) {who other : Who} (h : other ≠ who) :
    (d.disarm who).armed other = d.armed other := by
  rw [Bool.eq_iff_iff]
  simp [armed, disarm, h]

theorem armed_arm_self (d : Dev) (who : Who) : (d.arm who).armed who = true := by
  by_cases h : d.armed who = true
  · rw [arm, if_pos h, h]
  · rw [arm, if_neg h]
    simp [armed]

theorem armed_arm_ne (d : Dev) {who other : Who} (h : other ≠ who) : (d.arm who).armed other = d.armed other := by
  unfold arm
  split
  · rfl
  · rw [Bool.eq_iff_iff]
    simp [armed, h]

/-! ## The start of a snapshot -/

/-- SNAP_CTL holds one command (R94). -/
def snapCtl : RegDef := ⟨0x20, 1, 0x0, 1, 0x0, 0x1F10, 0, 0, [⟨0, 1, .cmd, false, 0, [], false⟩]⟩

theorem regAt_snapCtl : regAt Reg.SNAP_CTL = some snapCtl := by decide

theorem presented_snap (co : Nat) (x : Word) :
    presented co Reg.SNAP_CTL (withField x 0 1 1) = [{ lsb := 0, eff := fun _ => snapEff }] := by
  have hc : cmdsAt co Reg.SNAP_CTL = [{ lsb := 0, eff := fun _ => snapEff }] := rfl
  rw [presented, hc, List.filter_cons_of_pos (by simp [fieldOf_withField_self]), List.filter_nil]

/-- SNAP_CTL has no field that a write gives a value. -/
theorem written_snapCtl (old x : Word) : snapCtl.written old x = old := by simp [RegDef.written, snapCtl]

theorem word_snapWritten (d : Dev) (x : Word) (o : Nat) :
    ((d.plainWrite snapCtl Reg.SNAP_CTL x).parityClear Reg.SNAP_CTL).word o = d.word o := by
  have hh : otherHalf Reg.SNAP_CTL = none := by decide
  by_cases ho : o = Reg.SNAP_CTL
  · simp [plainWrite, hh, ho, written_snapCtl]
  · simp [plainWrite, hh, word_putWord_ne _ _ ho]

theorem on_snapWritten (d : Dev) (x : Word) (f : Fld) :
    ((d.plainWrite snapCtl Reg.SNAP_CTL x).parityClear Reg.SNAP_CTL).on f = d.on f := by
  simp only [on, get, word_snapWritten]

theorem on_keepWord (d : Dev) (off : Nat) (f : Fld) : (d.keepWord off).on f = d.on f := by simp [on, get]

/-- A write of SNAP_CTL that is taken changes no register before its command acts. -/
theorem on_written_snap (d : Dev) (who : Who) (x : Word) (f : Fld) :
    (d.written who Reg.SNAP_CTL x).on f = d.on f := by
  rw [written_eq d who _ x _ regAt_snapCtl, on_snapWritten, on_keepWord]
  simp [on]

theorem csrHook_snapCtl (old : Word) (lvl was : Bool) (d : Dev) : csrHook Reg.SNAP_CTL old lvl was d = d := rfl

/-- SNAP with none running starts a snapshot (R94). -/
theorem command_snap_idle (d : Dev) (who : Who) (h : d.takes who Reg.SNAP_CTL_SNAP = true)
    (hb : d.on Reg.SNAP_STS_SNAP_BUSY = false) : d.command who Reg.SNAP_CTL_SNAP =
      ((((d.writtenCmd who Reg.SNAP_CTL_SNAP).raise Reg.SNAP_STS_SNAP_BUSY).cmdStart 0x1F10 1).touch 0x1F10, .ok) := by
  simp only [takes, takesCmd, Bool.and_eq_true] at h
  have ha : aliasIndex Reg.SNAP_CTL = 0x1F10 := by decide
  have hw := csrWriteCo_of_cmd d _ 0 who Reg.SNAP_CTL _ _ _ h.1 (presented_snap 0 (d.word Reg.SNAP_CTL)) regAt_snapCtl
    (by decide) (by decide) (by decide) (by decide) (by decide) (by decide)
    (snapEff_idle _ ((on_written_snap ..).trans hb))
  rw [csrHook_snapCtl, ha] at hw
  exact hw

theorem snapEff_busy (d : Dev) (h : d.on Reg.SNAP_STS_SNAP_BUSY = true) : d.snapEff = (d, .busy) := by
  rw [snapEff, if_pos h]

/-- What a write of the register at `off`, on device `d`, leaves of the device `a` when its command is refused: the
register's fields are as before (R43). -/
def refused (d a : Dev) (off : Nat) (r : RegDef) : Dev :=
  { a.putWord off (r.written (a.word off) (d.word off)) with
    parityFailed := (d.keepWord off).parityFailed, kept := (d.keepWord off).kept }

theorem restSame_refused (d a : Dev) (off : Nat) (r : RegDef) : a.restSame (refused d a off r) := rfl

theorem word_refused (d a : Dev) (off : Nat) (r : RegDef) (o : Nat) :
    (refused d a off r).word o = (a.putWord off (r.written (a.word off) (d.word off))).word o := rfl

/-- A write whose one command is refused (R43). -/
theorem csrStore_of_refused (d a : Dev) (co : Nat) (who : Who) (off : Nat) (x : Word) (c : CmdDef) (code : Code)
    (r : RegDef) (hp : presented co off x = [c]) (hr : regAt off = some r) (hf : fifoAt off = none)
    (hu : off ≠ Reg.UNLOCK_KEY) (hq : ¬(Reg.PATCH_ADDR 0 ≤ off ∧ off < Reg.PATCH_ADDR 16)) (hc : code ≠ .ok)
    (he : c.eff x (((d.keepWord off).plainWrite r off x).parityClear off) = (a, code)) :
    d.csrStore co true who off x = (refused d a off r, code) := by
  simp [csrStore, hf, hu, hr, hq, hp, he, hc, refused]

/-- A register write whose command is refused moves no change counter. -/
theorem csrWriteCo_of_refused {d e : Dev} {co off : Nat} {who : Who} {x : Word} {code : Code}
    (h : d.takesWrite who off x = true)
    (he : (d.unlocked who off x).csrStore co true who off x = (e, code)) (hc : code ≠ .ok) :
    d.csrWriteCo co who off x = (e, code) := by
  rw [csrWriteCo_of_taken d co who off x h, he]
  exact if_neg hc

/-- SNAP that is refused leaves every register as it was (R43). -/
theorem csrStore_snap_busy (d : Dev) (co : Nat) (who : Who) (x : Word) (hb : d.on Reg.SNAP_STS_SNAP_BUSY = true) :
    ∃ e, d.csrStore co true who Reg.SNAP_CTL (withField x 0 1 1) = (e, .busy) ∧ d.regsBut [] e ∧ d.restSame e := by
  have word := word_snapWritten (d.keepWord Reg.SNAP_CTL) (withField x 0 1 1)
  have busy := snapEff_busy _ ((on_snapWritten (d.keepWord Reg.SNAP_CTL) (withField x 0 1 1) _).trans
    ((on_keepWord ..).trans hb))
  refine ⟨_, csrStore_of_refused d _ co who _ _ _ .busy _ (presented_snap co x) regAt_snapCtl (by decide) (by decide)
    (by decide) (by decide) busy, ?_, ?_⟩
  · intro o _
    rw [word_refused]
    by_cases ho : o = Reg.SNAP_CTL
    · rw [ho, word_putWord_self, written_snapCtl, word, word_keepWord]
    · rw [word_putWord_ne _ _ ho, word, word_keepWord]
  · exact restSame_trans (restSame_trans (restSame_trans (restSame_keepWord ..) (restSame_plainWrite ..))
      (restSame_parityClear ..)) (restSame_refused ..)

/-- While one runs SNAP is refused BUSY and changes no register (R31, R94). -/
theorem command_snap_busy (d : Dev) (who : Who) (h : d.takes who Reg.SNAP_CTL_SNAP = true)
    (hb : d.on Reg.SNAP_STS_SNAP_BUSY = true) :
    ∃ e, d.command who Reg.SNAP_CTL_SNAP = (e, .busy) ∧ d.regsBut [] e ∧ d.restSame e := by
  simp only [takes, takesCmd, Bool.and_eq_true] at h
  have hb' : (d.unlocked who Reg.SNAP_CTL (withField (d.word Reg.SNAP_CTL) 0 1 1)).on Reg.SNAP_STS_SNAP_BUSY
      = true := by
    simpa [on] using hb
  obtain ⟨e, he, hregs, hrest⟩ := csrStore_snap_busy _ 0 who (d.word Reg.SNAP_CTL) hb'
  exact ⟨e, csrWriteCo_of_refused h.1 he (by decide), fun o ho => (hregs o ho).trans (word_unlocked ..),
    restSame_trans (restSame_unlocked ..) hrest⟩

/-! ## The copy of a snapshot -/

theorem setPort_held (d : Dev) (p : Nat) (x : PortSt) : (d.setPort p x).held = d.held := by
  unfold setPort; split <;> rfl

theorem setPort_offFlags (d : Dev) (p : Nat) (x : PortSt) : (d.setPort p x).offFlags = d.offFlags := by
  unfold setPort; split <;> rfl

/-- What an answer to a waiting request keeps: every part of the device but its ports, the engine and the answer. -/
theorem respond_keeps {α : Type} (g : Dev → α) (hp : ∀ d p x, g (setPort d p x) = g d)
    (hw : ∀ (d : Dev) x a, g { d with wb := x, answer := a } = g d) (d : Dev) (r : WbReq) (a : Answer) :
    g (d.respond r a) = g d := by
  have queue : ∀ d p f, g (queueTx d p f) = g d := fun d p f => by
    unfold queueTx
    split
    · exact hp ..
    · rfl
  have send : g (d.sendResp r (d.respMsg r a)) = g d := by
    unfold sendResp
    split
    · exact foldl_keeps g _ (fun _ _ => queue ..) _ _
    · rfl
  unfold respond
  split
  · exact (hw ..).trans send
  · exact hw d d.wb a

/-- A table that takes a list of entries under different keys holds each. -/
theorem get_foldl_put {α : Type} (key val : α → Nat) (l : List α) (m : SMap Nat) (h : (l.map key).Nodup) :
    ∀ e ∈ l, SMap.get 0 (l.foldl (fun a e => SMap.put 0 a (key e) (val e)) m) (key e) = val e := by
  induction l generalizing m with
  | nil => simp
  | cons x xs ih =>
    simp only [List.map_cons, List.nodup_cons, List.mem_map, not_exists, not_and] at h
    obtain ⟨hx, hn⟩ := h
    intro e he
    rcases List.mem_cons.mp he with rfl | he
    · refine List.foldlRecOn (motive := fun a => SMap.get 0 a (key e) = val e) xs _ (SMap.get_put_self ..) ?_
      intro a ha y hy
      rw [SMap.get_put_ne _ _ _ _ (fun h => hx y hy h.symm)]
      exact ha
    · exact ih _ hn e he

/-- The keys of the holding values (R95). -/
def snapKeys : List Nat := (snapCounters {}).map (·.1)

theorem map_snapCounters (d : Dev) : d.snapCounters.map (·.1) = snapKeys := by
  simp [snapCounters, snapKeys, List.map_flatMap, Function.comp_def]

theorem nodup_snapKeys : snapKeys.Nodup := by
  have sorted : snapKeys.IsChain (· < ·) := by decide +kernel
  exact (List.isChain_iff_pairwise.mp sorted).imp Nat.ne_of_lt

/-- The holding values after a copy (R29, R95). -/
def snapHeld (d : Dev) : SMap Nat :=
  d.snapCounters.foldl (fun a e =>
    SMap.put 0 a e.1 (if d.domState e.2.1 = 3 then SMap.get 0 d.offCounts e.1 else e.2.2)) d.held

/-- The domains in D3 (R95). -/
def snapOff (d : Dev) : List Nat := (List.range 256).filter (fun m => d.domState m == 3)

/-- What a copy at pack time `t` writes to the registers (R94). -/
def snapRegs (d : Dev) (t : Nat) : Dev :=
  (((d.clear Reg.SNAP_STS_SNAP_BUSY).set Reg.SNAP_STS_SNAP_SEQ ((d.get Reg.SNAP_STS_SNAP_SEQ + 1) % 65536)).set64
    (Reg.SNAP_TIME_WORD 0) (Reg.SNAP_TIME_WORD 1) t).raise Reg.FAULT_EVT_SNAP_DONE

/-- The device once a copy has been made, before the Waybill SNAPSHOTs that wait are answered. -/
def snapStamp (d : Dev) : Dev :=
  (({ d with held := d.snapHeld, offFlags := d.snapOff } : Dev).snapRegs
    (d.get64 (Reg.PACK_TIME_WORD 0) (Reg.PACK_TIME_WORD 1))).cmdDone 0x1F10 1 .ok

theorem cmdDone_held (d : Dev) (ix sub : Nat) (c : Code) : (d.cmdDone ix sub c).held = d.held := rfl

theorem cmdDone_offFlags (d : Dev) (ix sub : Nat) (c : Code) : (d.cmdDone ix sub c).offFlags = d.offFlags := rfl

theorem snapRegs_held (d : Dev) (t : Nat) : (d.snapRegs t).held = d.held := by
  rw [snapRegs, raise_held, set64, set_held, set_held, set_held, clear_held]

theorem snapRegs_offFlags (d : Dev) (t : Nat) : (d.snapRegs t).offFlags = d.offFlags := by
  rw [snapRegs, raise_offFlags, set64, set_offFlags, set_offFlags, set_offFlags, clear_offFlags]

theorem snapStamp_held (d : Dev) : d.snapStamp.held = d.snapHeld := by rw [snapStamp, cmdDone_held, snapRegs_held]

theorem snapStamp_offFlags (d : Dev) : d.snapStamp.offFlags = d.snapOff := by
  rw [snapStamp, cmdDone_offFlags, snapRegs_offFlags]

/-- A counter of a domain that is not in D3 is held as it stands (R95). -/
theorem get_snapHeld (d : Dev) : ∀ e ∈ d.snapCounters, d.domState e.2.1 ≠ 3 → SMap.get 0 d.snapHeld e.1 = e.2.2 := by
  intro e he hd
  have nodup : (d.snapCounters.map (·.1)).Nodup := by rw [map_snapCounters]; exact nodup_snapKeys
  rw [snapHeld, get_foldl_put (·.1) (fun e => if d.domState e.2.1 = 3 then SMap.get 0 d.offCounts e.1 else e.2.2) _ _
    nodup e he, if_neg hd]

/-- A Waybill SNAPSHOT that waits is answered with the stamp `t` (R94). -/
def snapAnswer (t : Nat) (d : Dev) (r : WbReq) : Dev :=
  d.respond r { change := d.changeOf r.msg.index, data := leBytes 8 t }

/-- The copy, and the answers to the Waybill SNAPSHOTs that wait (R94). -/
theorem snapshotCopy_eq (d : Dev) (h : d.on Reg.SNAP_STS_SNAP_BUSY = true) :
    d.snapshotCopy =
      (let e := d.snapStamp.wb.snapshots.foldl
        (snapAnswer (d.get64 (Reg.PACK_TIME_WORD 0) (Reg.PACK_TIME_WORD 1))) d.snapStamp
      { e with wb := { e.wb with snapshots := [] } }) := by
  rw [snapshotCopy, if_neg (by simp [h])]
  rfl

/-- The answers keep what neither the ports nor the Waybill engine hold. -/
theorem snapshotCopy_keeps {α : Type} (g : Dev → α) (hp : ∀ d p x, g (setPort d p x) = g d)
    (hw : ∀ (d : Dev) x a, g { d with wb := x, answer := a } = g d) (d : Dev)
    (h : d.on Reg.SNAP_STS_SNAP_BUSY = true) : g d.snapshotCopy = g d.snapStamp := by
  rw [snapshotCopy_eq d h]
  exact (hw _ _ _).trans (foldl_keeps g _ (fun _ _ => respond_keeps g hp hw ..) _ _)

theorem get_snapshotCopy (d : Dev) (h : d.on Reg.SNAP_STS_SNAP_BUSY = true) (f : Fld) :
    d.snapshotCopy.get f =
      (({ d with held := d.snapHeld, offFlags := d.snapOff } : Dev).snapRegs
        (d.get64 (Reg.PACK_TIME_WORD 0) (Reg.PACK_TIME_WORD 1))).get f := by
  rw [snapshotCopy_keeps (get · f) (fun _ _ _ => get_setPort ..) (fun _ _ _ => rfl) d h, snapStamp, get_cmdDone]

theorem get64_snapshotCopy (d : Dev) (h : d.on Reg.SNAP_STS_SNAP_BUSY = true) (lo hi : Fld) :
    d.snapshotCopy.get64 lo hi =
      (({ d with held := d.snapHeld, offFlags := d.snapOff } : Dev).snapRegs
        (d.get64 (Reg.PACK_TIME_WORD 0) (Reg.PACK_TIME_WORD 1))).get64 lo hi := by
  rw [get64, get64, get_snapshotCopy d h, get_snapshotCopy d h]

theorem get_withHeld (d : Dev) (x : SMap Nat) (y : List Nat) (f : Fld) :
    ({ d with held := x, offFlags := y } : Dev).get f = d.get f := rfl

theorem busy_snapRegs (d : Dev) (t : Nat) : (d.snapRegs t).get Reg.SNAP_STS_SNAP_BUSY = 0 := by
  simp [snapRegs, set64, raise_eq, clear_eq, get_set_off, get_set_ne, get_set_self, Reg.SNAP_STS_SNAP_BUSY,
    Reg.SNAP_STS_SNAP_SEQ, Reg.SNAP_TIME_WORD, Reg.FAULT_EVT_SNAP_DONE, Reg.SNAP_STS, Reg.SNAP_TIME, Reg.FAULT_EVT]

theorem seq_snapRegs (d : Dev) (t : Nat) :
    (d.snapRegs t).get Reg.SNAP_STS_SNAP_SEQ = (d.get Reg.SNAP_STS_SNAP_SEQ + 1) % 65536 := by
  simp [snapRegs, set64, raise_eq, get_set_off, get_set_self, Reg.SNAP_STS_SNAP_SEQ, Reg.SNAP_TIME_WORD,
    Reg.FAULT_EVT_SNAP_DONE, Reg.SNAP_STS, Reg.SNAP_TIME, Reg.FAULT_EVT]

theorem done_snapRegs (d : Dev) (t : Nat) : (d.snapRegs t).on Reg.FAULT_EVT_SNAP_DONE = true :=
  on_raise_self _ _ (by decide) (by decide)

theorem time_snapRegs (d : Dev) {t : Nat} (ht : t < 2 ^ 64) :
    (d.snapRegs t).get64 (Reg.SNAP_TIME_WORD 0) (Reg.SNAP_TIME_WORD 1) = t := by
  have lo : (d.snapRegs t).get (Reg.SNAP_TIME_WORD 0) = t % 2 ^ 32 := by
    simp [snapRegs, set64, raise_eq, get_set_off, get_set_self, Reg.SNAP_TIME_WORD, Reg.FAULT_EVT_SNAP_DONE,
      Reg.SNAP_TIME, Reg.FAULT_EVT]
  have hi : (d.snapRegs t).get (Reg.SNAP_TIME_WORD 1) = t / 2 ^ 32 % 2 ^ 32 := by
    simp [snapRegs, set64, raise_eq, get_set_off, get_set_self, Reg.SNAP_TIME_WORD, Reg.FAULT_EVT_SNAP_DONE,
      Reg.SNAP_TIME, Reg.FAULT_EVT]
  rw [get64, lo, hi]
  omega

/-- Two registers hold 64 bits. -/
theorem get64_lt (d : Dev) {lo hi : Fld} (hl : lo.w = 32) (hh : hi.w = 32) : d.get64 lo hi < 2 ^ 64 := by
  have l := fieldOf_lt (d.word lo.off) lo.lsb lo.w
  have h := fieldOf_lt (d.word hi.off) hi.lsb hi.w
  rw [hl] at l
  rw [hh] at h
  simp only [get64, get, hl, hh]
  omega

end Dev

/-- Settles O6, clause by clause: the writes of UNLOCK_KEY and SNAP_CTL, and the registers and holding values that the
copy leaves. -/
theorem unlocksAndSnapshots : Obligations.UnlocksAndSnapshots := by
  refine ⟨?key, ?wrongKey, ?armed, ?start, ?busy, ?copy⟩
  case key =>
    intro s who hs ht
    refine State.goes_of_calm (State.live_of_ready hs) rfl ?_ (Dev.calm_of_restSame (Dev.restSame_trans
      (Dev.restSame_arm _ _) (Dev.restSame_trans (Dev.restSame_touch _ _) (Dev.restSame_reply _ _)))
      (State.calm_of_ready hs))
    have hx : (0x7A3C : BitVec 16).setWidth 32 = (0x7A3C : Word) := by decide
    rw [hx, Dev.csrWrite_unlockKey s.dev who ht]
  case wrongKey =>
    intro s who key hs ht hk
    refine State.goes_of_calm (State.live_of_ready hs) rfl ?_ (Dev.calm_of_restSame (Dev.restSame_trans
      (Dev.restSame_disarm _ _) (Dev.restSame_reply _ _)) (State.calm_of_ready hs))
    rw [Dev.csrWrite_wrongKey s.dev who key ht hk]
  case armed =>
    intro s who other hs
    exact ⟨State.goes_of_calm (State.live_of_ready hs) rfl rfl
      (Dev.calm_of_restSame (Dev.restSame_disarm _ _) (State.calm_of_ready hs)), Dev.armed_disarm_self _ _,
      Dev.armed_arm_self _ _, fun h => ⟨Dev.armed_arm_ne _ h, Dev.armed_disarm_ne _ h⟩⟩
  case start =>
    intro s who hs ht hb
    refine State.goes_of_calm (State.live_of_ready hs) rfl ?_ (Dev.calm_of_restSame (Dev.restSame_trans
      (Dev.restSame_written s.dev who Reg.SNAP_CTL _ _ Dev.regAt_snapCtl) (Dev.restSame_trans (Dev.restSame_set _ _ _)
      (Dev.restSame_trans (Dev.restSame_cmdStart _ _ _) (Dev.restSame_trans (Dev.restSame_touch _ _)
      (Dev.restSame_reply _ _))))) (State.calm_of_ready hs))
    rw [Dev.command_snap_idle s.dev who ht hb]
  case busy =>
    intro s who hs ht hb
    obtain ⟨e, he, hregs, hrest⟩ := Dev.command_snap_busy s.dev who ht hb
    have same := Dev.restSame_trans hrest (Dev.restSame_reply e .busy)
    refine State.does_of_calm (f := fun d => let r := d.command who Reg.SNAP_CTL_SNAP; r.1.reply r.2)
      (State.live_of_ready hs) rfl ?_ ?_
    · rw [he]
      exact Dev.calm_of_restSame same (State.calm_of_ready hs)
    · rw [he]
      exact ⟨rfl, hregs, same⟩
  case copy =>
    intro s hl hb
    refine State.runs_of_live hl rfl ⟨?_, ?_, ?_, ?_, ?_, ?_, ?_⟩
    · rw [Dev.on, Dev.get_snapshotCopy _ hb, Dev.busy_snapRegs]
      rfl
    · rw [Dev.get_snapshotCopy _ hb, Dev.seq_snapRegs, Dev.get_withHeld]
    · rw [Dev.get64_snapshotCopy _ hb, Dev.time_snapRegs _ (Dev.get64_lt _ rfl rfl)]
    · rw [Dev.on, Dev.get_snapshotCopy _ hb]
      exact Dev.done_snapRegs _ _
    · rw [Dev.snapshotCopy_eq _ hb]
    · rw [Dev.snapshotCopy_keeps Dev.held (fun _ _ _ => Dev.setPort_held ..) (fun _ _ _ => rfl) _ hb,
        Dev.snapStamp_held]
      exact Dev.get_snapHeld s.dev
    · rw [Dev.snapshotCopy_keeps Dev.offFlags (fun _ _ _ => Dev.setPort_offFlags ..) (fun _ _ _ => rfl) _ hb,
        Dev.snapStamp_offFlags, Dev.snapOff]

end Sys2Proof.Machine
end

section
/-! The fields of a register (R81): every register's fields lie apart, so what software writes to one, and what a read
clears or hides of one, is told by its class alone. -/

namespace Sys2Proof.Machine

namespace RegDef

/-- The fields of a register lie within its word, in ascending order and apart from each other. -/
abbrev LaidOut (r : RegDef) : Prop :=
  (∀ f ∈ r.fields, f.lsb + f.w ≤ 32) ∧ r.fields.Pairwise (fun f g => f.lsb + f.w ≤ g.lsb)

end RegDef

/-- The region pages share one table (R41). -/
theorem blockRegs_of_page {b : Nat} (h : 0x10 ≤ b) (h' : b < 0x90) : blockRegs b = blockRegs 0x10 := by
  unfold blockRegs
  split
  case h_17 => exact if_pos ⟨h, h'⟩
  all_goals omega

/-- Above the region pages no register is implemented (R84). -/
theorem blockRegs_above {b : Nat} (h : 0x90 ≤ b) : blockRegs b = [] := by
  unfold blockRegs
  split
  case h_17 => exact if_neg (by omega)
  all_goals omega

/-- The tables of the blocks and of a region page, read through (R81). -/
theorem laidOut_of_tables : ∀ b < 0x11, ∀ r ∈ blockRegs b, r.LaidOut := by decide +kernel

/-- Every register of every block has its fields apart. -/
theorem laidOut_of_mem {b : Nat} {r : RegDef} (h : r ∈ blockRegs b) : r.LaidOut := by
  by_cases low : b < 0x10
  · exact laidOut_of_tables b (by omega) r h
  · by_cases page : b < 0x90
    · rw [blockRegs_of_page (by omega) page] at h
      exact laidOut_of_tables 0x10 (by decide) r h
    · rw [blockRegs_above (by omega)] at h
      cases h

/-- The word `a` with each field of `fs` for which `v` has a value holding that value. -/
def setFields (v : FieldDef → Option Nat) (fs : List FieldDef) (a : Word) : Word :=
  fs.foldl (fun a f => (v f).elim a (withField a f.lsb f.w)) a

/-- Setting a field, or not, leaves a field of other bits as it was. -/
theorem fieldOf_setField_apart (v : Option Nat) (a : Word) {f g : FieldDef} (hg : g.lsb + g.w ≤ 32)
    (apart : f.lsb + f.w ≤ g.lsb ∨ g.lsb + g.w ≤ f.lsb) :
    fieldOf (v.elim a (withField a g.lsb g.w)) f.lsb f.w = fieldOf a f.lsb f.w := by
  cases v with
  | none => rfl
  | some n => exact fieldOf_withField_ne a n hg apart

/-- A field that is set, or not, holds its value or what it held. -/
theorem fieldOf_setField_self (v : Option Nat) (a : Word) {f : FieldDef} (hf : f.lsb + f.w ≤ 32) :
    fieldOf (v.elim a (withField a f.lsb f.w)) f.lsb f.w = v.elim (fieldOf a f.lsb f.w) (· % 2 ^ f.w) := by
  cases v with
  | none => rfl
  | some n => exact fieldOf_withField_self a n hf

/-- Setting fields above a field leaves it as it was. -/
theorem fieldOf_setFields_above (v : FieldDef → Option Nat) {f : FieldDef} (fs : List FieldDef) (a : Word)
    (fit : ∀ g ∈ fs, g.lsb + g.w ≤ 32) (above : ∀ g ∈ fs, f.lsb + f.w ≤ g.lsb) :
    fieldOf (setFields v fs a) f.lsb f.w = fieldOf a f.lsb f.w := by
  induction fs generalizing a with
  | nil => rfl
  | cons g fs ih =>
    rw [List.forall_mem_cons] at fit above
    exact (ih _ fit.2 above.2).trans (fieldOf_setField_apart _ a fit.1 (.inl above.1))

/-- A field among those set holds its value where it has one, and what it held otherwise. -/
theorem fieldOf_setFields (v : FieldDef → Option Nat) {f : FieldDef} (fs : List FieldDef) (a : Word)
    (fit : ∀ g ∈ fs, g.lsb + g.w ≤ 32) (sorted : fs.Pairwise (fun g h => g.lsb + g.w ≤ h.lsb)) (hf : f ∈ fs) :
    fieldOf (setFields v fs a) f.lsb f.w = (v f).elim (fieldOf a f.lsb f.w) (· % 2 ^ f.w) := by
  induction fs generalizing a with
  | nil => cases hf
  | cons g fs ih =>
    rw [List.forall_mem_cons] at fit
    rw [List.pairwise_cons] at sorted
    obtain rfl | later := List.mem_cons.mp hf
    · exact (fieldOf_setFields_above v fs _ fit.2 sorted.1).trans (fieldOf_setField_self _ a fit.1)
    · refine (ih _ fit.2 sorted.2 later).trans ?_
      rw [fieldOf_setField_apart _ a fit.1 (.inr (sorted.1 f later))]

namespace RegDef

/-- What a software write of `x` puts in a field (R81). -/
def writeValue (x : Word) (f : FieldDef) : Option Nat :=
  match f.cls with
  | .ctl => some (fieldOf x f.lsb f.w)
  | .cnt => some 0
  | _ => none

/-- What is put in the fields of one class that are to read 0. -/
def zeroOf (c : Cls) (f : FieldDef) : Option Nat := if f.cls = c then some 0 else none

theorem written_eq_setFields (r : RegDef) (old x : Word) :
    r.written old x = setFields (writeValue x) r.fields old := by
  unfold written setFields writeValue
  congr 1
  funext a f
  cases f.cls <;> rfl

theorem evtCleared_eq_setFields (r : RegDef) (x : Word) : r.evtCleared x = setFields (zeroOf .evt) r.fields x := by
  unfold evtCleared setFields zeroOf
  congr 1
  funext a f
  split <;> rfl

theorem readable_eq_setFields (r : RegDef) (x : Word) : r.readable x = setFields (zeroOf .key) r.fields x := by
  unfold readable setFields zeroOf
  congr 1
  funext a f
  split <;> rfl

section
variable {r : RegDef} (hr : r.LaidOut) {f : FieldDef} (hf : f ∈ r.fields)
include hr hf

/-- A software write of a field, by its class (R81). -/
theorem fieldOf_written (old x : Word) :
    fieldOf (r.written old x) f.lsb f.w = (writeValue x f).elim (fieldOf old f.lsb f.w) (· % 2 ^ f.w) := by
  rw [written_eq_setFields, fieldOf_setFields _ _ _ hr.1 hr.2 hf]

theorem fieldOf_written_ctl (old x : Word) (h : f.cls = .ctl) :
    fieldOf (r.written old x) f.lsb f.w = fieldOf x f.lsb f.w := by
  simp [fieldOf_written hr hf, writeValue, h, Nat.mod_eq_of_lt (fieldOf_lt x f.lsb f.w)]

theorem fieldOf_written_cnt (old x : Word) (h : f.cls = .cnt) : fieldOf (r.written old x) f.lsb f.w = 0 := by
  simp [fieldOf_written hr hf, writeValue, h]

theorem fieldOf_written_other (old x : Word) (h : f.cls ≠ .ctl) (h' : f.cls ≠ .cnt) :
    fieldOf (r.written old x) f.lsb f.w = fieldOf old f.lsb f.w := by
  rw [fieldOf_written hr hf]
  cases hc : f.cls <;> simp_all [writeValue]

theorem fieldOf_zeroed (c : Cls) (x : Word) :
    fieldOf (setFields (zeroOf c) r.fields x) f.lsb f.w = if f.cls = c then 0 else fieldOf x f.lsb f.w := by
  rw [fieldOf_setFields _ _ _ hr.1 hr.2 hf, zeroOf]
  split
  · exact Nat.zero_mod _
  · rfl

end

end RegDef

/-- Settles O5: the fields of every register lie apart (`laidOut_of_mem`), so each is as its class says. -/
theorem registerTables : Obligations.RegisterTables := by
  intro b r f old x hr hf
  have apart := laidOut_of_mem hr
  refine ⟨RegDef.fieldOf_written_ctl apart hf old x, RegDef.fieldOf_written_cnt apart hf old x,
    RegDef.fieldOf_written_other apart hf old x, ?read, ?shown⟩
  case read => rw [RegDef.evtCleared_eq_setFields, RegDef.fieldOf_zeroed apart hf]
  case shown => rw [RegDef.readable_eq_setFields, RegDef.fieldOf_zeroed apart hf]

end Sys2Proof.Machine
end

section
/-! Writes and reads of registers through their CSR addresses (R41, R81, R85, R90, R518): one register, several in
ascending order, and a value out of range. -/

namespace Sys2Proof.Machine

theorem mem_blockRegs_of_regAt {off : Nat} {r : RegDef} (h : regAt off = some r) :
    r ∈ blockRegs (off / 0x10000) := List.mem_of_find?_eq_some h

/-- The other half of a 64-bit counter is another register. -/
theorem otherHalf_ne {off o : Nat} (h : otherHalf off = some o) : off ≠ o := by
  unfold otherHalf at h
  grind

namespace Dev

/-! ## One register -/

/-- What the register itself holds after the plain part of a write (R81). -/
theorem word_plainWrite_self (d : Dev) (r : RegDef) (off : Nat) (x : Word) :
    (d.plainWrite r off x).word off = r.written (d.word off) x := by
  unfold plainWrite
  split
  next o ho => rw [word_putWord_ne _ _ (otherHalf_ne ho), word_putWord_self]
  next => exact word_putWord_self ..

/-- What a register holds after a write that is taken (R81). -/
theorem word_written_self (d : Dev) (who : Who) {off : Nat} (x : Word) {r : RegDef} (hr : regAt off = some r) :
    (d.written who off x).word off = r.written (d.word off) x := by
  rw [written_eq d who off x r hr]
  exact (word_plainWrite_self ..).trans (by rw [word_keepWord, word_unlocked])

/-- A write of `x` to the register at `off` is taken, presents no command, and the register is none of those whose
writes the model treats apart. -/
structure TakesPlain (who : Who) (off : Nat) (x : Word) (r : RegDef) (d : Dev) : Prop where
  taken : d.takesWrite who off x = true
  plain : cmdBits off x = []
  table : regAt off = some r
  fifo : fifoAt off = none
  key : off ≠ Reg.UNLOCK_KEY
  pwr : off ≠ Reg.PWR_CTL
  patch : ¬(Reg.PATCH_ADDR 0 ≤ off ∧ off < Reg.PATCH_ADDR 16)

/-- What a write that is taken and presents no command leaves: its fields, what the register's own rules say, and the
change counters of its aliases (R42, R72, R81). -/
def plainWritten (who : Who) (off : Nat) (x : Word) (d : Dev) : Dev :=
  (aliasesWritten off (d.word off) x).foldl touch
    (csrHook off (d.word off) false d.packOn (d.written who off x))

theorem csrStore_plain {d : Dev} {who : Who} {off : Nat} {x : Word} {r : RegDef} (h : d.TakesPlain who off x r) :
    (d.unlocked who off x).csrStore 0 true who off x =
      (csrHook off (d.word off) false d.packOn (d.written who off x), .ok) := by
  have noCmd : presented 0 off x = [] := List.map_eq_nil_iff.mp h.plain
  have pack : (d.unlocked who off x).packOn = d.packOn := by unfold unlocked; split <;> rfl
  rw [written_eq d who off x r h.table]
  simp [csrStore, h.fifo, h.key, h.table, h.patch, h.pwr, noCmd, pack]

theorem csrWrite_plain {d : Dev} {who : Who} {off : Nat} {x : Word} {r : RegDef} (h : d.TakesPlain who off x r) :
    d.csrWrite who off x = (d.plainWritten who off x, .ok) := by
  rw [csrWrite, csrWriteCo_of_taken d 0 who off x h.taken, csrStore_plain h]
  rfl

/-- A value out of range of a CTL field is out of range on every device (R518). -/
theorem csrInRange_of_field {off : Nat} {x : Word} {r : RegDef} {f : FieldDef} (hr : regAt off = some r)
    (hf : f ∈ r.fields) (hx : f.inRange x = false) (d : Dev) : d.csrInRange off x = false := by
  have fields : r.fields.all (fun f => f.inRange x) = false := List.all_eq_false.mpr ⟨f, hf, by simp [hx]⟩
  simp [csrInRange, hr, fields]

/-- A write to which no code that ranks before the unlock check applies, and whose unlock is armed if it needs one, is
admitted (R83). -/
theorem csrAdmit_single {d : Dev} {who : Who} {off : Nat} {x : Word} (hc : d.csrRefusal who off x = none)
    (hu : who = .config ∨ d.csrGuarded off x = false ∨ d.armed who = true) :
    d.csrAdmit who false [(off, x)] = (d.unlocked who off x, .ok) := by
  by_cases hg : (who != .config && d.csrGuarded off x) = true
  · have ha : d.armed who = true := by
      simp only [Bool.and_eq_true, bne_iff_ne] at hg
      simpa [hg.1, hg.2] using hu
    simp [csrAdmit, hc, firstCode, unlockCheck, unlocked, hg, ha]
  · simp [csrAdmit, hc, firstCode, unlockCheck, unlocked, hg]

/-- A write with a value out of range stores nothing: it is BUSY or answered TARGET_ERR (R44, R518). -/
theorem csrExec_outOfRange {d : Dev} {off : Nat} {x : Word} (h : d.csrInRange off x = false) (co : Nat)
    (whole : Bool) (who : Who) :
    d.csrExec co whole who off x = (d, .busy) ∨ d.csrExec co whole who off x = (d, .targetErr) := by
  unfold csrExec
  split
  · exact .inl rfl
  · rw [h, if_neg Bool.false_ne_true]
    split
    · exact .inl rfl
    · exact .inr rfl

/-- An admitted write with a value out of range spends the unlock alone. -/
theorem csrWrite_outOfRange {d : Dev} {who : Who} {off : Nat} {x : Word}
    (ha : d.csrAdmit who false [(off, x)] = (d.unlocked who off x, .ok))
    (hx : (d.unlocked who off x).csrInRange off x = false) :
    d.csrWrite who off x = (d.unlocked who off x, .busy) ∨
      d.csrWrite who off x = (d.unlocked who off x, .targetErr) := by
  have run : ∀ c : Code, c ≠ .ok → (d.unlocked who off x).csrExec 0 true who off x = (d.unlocked who off x, c) →
      d.csrWrite who off x = (d.unlocked who off x, c) := by
    intro c hc he
    simp [csrWrite, csrWriteCo, ha, csrRun, he, hc]
  exact (csrExec_outOfRange hx 0 true who).imp (run _ (by decide)) (run _ (by decide))

/-! ## Several registers -/

/-- One register of a request, unless an earlier one was refused (R85). -/
def csrWriteNext (who : Who) (off : Nat) (a : Dev × Code) (x : Word × Nat) : Dev × Code :=
  if a.2 = .ok then a.1.csrWrite who (off + 4 * x.2) x.1 else a

/-- A request that lies in the CSR space writes its registers in ascending order (R85). -/
theorem csrWriteReq_eq_foldl (d : Dev) (who : Who) {off : Nat} {xs : List Word} (ho : off < 0x900000)
    (h4 : off % 4 = 0) (hne : xs ≠ []) (hl : xs.length ≤ 16) :
    d.csrWriteReq who off xs = xs.zipIdx.foldl (csrWriteNext who off) (d, .ok) := by
  rw [csrWriteReq, if_neg (by omega), if_neg (by simp [h4, hne, hl])]
  rfl

/-- A request of no register is refused (R85). -/
theorem ne_nil_of_csrWriteReq {d d1 : Dev} {who : Who} {off : Nat} {xs : List Word}
    (h : d.csrWriteReq who off xs = (d1, .ok)) : xs ≠ [] := by
  rintro rfl
  have code := congrArg Prod.snd h
  unfold csrWriteReq at code
  split at code
  · cases code
  · rw [if_pos (.inr (.inl rfl))] at code
    cases hw : who.deniedCsr <;> simp [hw] at code

/-- A request that has been refused goes no further. -/
theorem foldl_csrWriteNext_refused (who : Who) (off : Nat) {a : Dev × Code} (h : a.2 ≠ .ok)
    (xs : List (Word × Nat)) :
    xs.foldl (csrWriteNext who off) a = a := by
  induction xs with
  | nil => rfl
  | cons x xs ih => rw [List.foldl_cons, csrWriteNext, if_neg h, ih]

theorem csrWriteReq_single (d : Dev) (who : Who) {off : Nat} (x : Word) (ho : off < 0x900000) (h4 : off % 4 = 0) :
    d.csrWriteReq who off [x] = d.csrWrite who off x := by
  rw [csrWriteReq_eq_foldl d who ho h4 (by simp) (by simp)]
  rfl

/-- The answer to a plain write of one register. -/
theorem reply_csrWriteReq_plain {d : Dev} {who : Who} {off : Nat} {x : Word} {r : RegDef}
    (h : d.TakesPlain who off x r) (h4 : off % 4 = 0) (ho : off < 0x900000) :
    (let a := d.csrWriteReq who off [x]; a.1.reply a.2) = (d.plainWritten who off x).reply .ok := by
  rw [csrWriteReq_single d who x ho h4, csrWrite_plain h]

/-- One more register is written after the others, if none of them was refused (R85). -/
theorem csrWriteReq_concat (d : Dev) (who : Who) {off : Nat} {xs : List Word} (y : Word) (ho : off < 0x900000)
    (h4 : off % 4 = 0) (hne : xs ≠ []) (hl : xs.length < 16) :
    d.csrWriteReq who off (xs ++ [y]) =
      (let a := d.csrWriteReq who off xs
       if a.2 = .ok then a.1.csrWrite who (off + 4 * xs.length) y else a) := by
  rw [csrWriteReq_eq_foldl d who ho h4 (by simp) (by simp; omega), csrWriteReq_eq_foldl d who ho h4 hne hl.le,
    List.zipIdx_append, List.foldl_append, Nat.zero_add]
  rfl

/-- A request whose register at `pre.length` is refused goes no further (R85). -/
theorem csrWriteReq_stops {d d1 : Dev} {who : Who} {off : Nat} {x : Word} {pre post : List Word}
    (ho : off < 0x900000) (h4 : off % 4 = 0) (hl : pre.length + post.length < 16)
    (hpre : (pre = [] ∧ d1 = d) ∨ d.csrWriteReq who off pre = (d1, .ok))
    (hx : (d1.csrWrite who (off + 4 * pre.length) x).2 ≠ .ok) :
    d.csrWriteReq who off (pre ++ x :: post) = d1.csrWrite who (off + 4 * pre.length) x := by
  have before : pre.zipIdx.foldl (csrWriteNext who off) (d, .ok) = (d1, .ok) := by
    obtain ⟨rfl, rfl⟩ | h := hpre
    · rfl
    · rw [← h, csrWriteReq_eq_foldl d who ho h4 (ne_nil_of_csrWriteReq h) (by omega)]
  rw [csrWriteReq_eq_foldl d who ho h4 (by simp) (by simp; omega), List.zipIdx_append, List.foldl_append, before,
    List.zipIdx_cons, List.foldl_cons, Nat.zero_add, csrWriteNext, if_pos rfl, foldl_csrWriteNext_refused _ _ hx]

/-- Nothing lies above the CSR space (R41). -/
theorem csrWriteReq_above (d : Dev) (who : Who) {off : Nat} (xs : List Word) (h : 0x900000 ≤ off) :
    d.csrWriteReq who off xs = (d, .noTarget) := if_pos h

/-! ## Reads -/

theorem restSame_replyWith (d : Dev) (a : Answer) : d.restSame (d.replyWith a) := rfl

/-- A read without NOSIDE of a register that pops nothing (R81, R90). -/
theorem csrReadWord_plain {off : Nat} {r : RegDef} (d : Dev) (hr : regAt off = some r)
    (hf : fifoReadAt off = none) (hlog : off ≠ Reg.LOG_HI) :
    d.csrReadWord false off = (r.readable (d.csrShow off), d.putWord off (r.evtCleared (d.word off)),
      if d.failed off then .targetErr else .ok) := by
  simp [csrReadWord, hr, hf, hlog]

/-- A read of one register that is not refused answers what it shows (R85). -/
theorem readAnswer_eq {off : Nat} {who : Who} (d : Dev) (hc : d.csrReadRefusal who off = none) (ho : off < 0x900000)
    (h4 : off % 4 = 0) :
    readAnswer who off d = (let x := d.csrReadWord false off
      x.2.1.replyWith { code := x.2.2, data := wordsBytes [x.1] }) := by
  simp [readAnswer, csrReadReq, csrRead, hc, Nat.not_le.mpr ho, h4]

end Dev

/-- Settles O55: an admitted write with a value out of range stores nothing, and a refused register ends its
request. -/
theorem outOfRangeWrites : Obligations.OutOfRangeWrites := by
  refine ⟨?one, ?several⟩
  case one =>
    intro d who off x r f hr hf hx hc hu hb
    obtain busy | err := Dev.csrWrite_outOfRange (Dev.csrAdmit_single hc hu) (Dev.csrInRange_of_field hr hf hx _)
    · exact absurd (congrArg Prod.snd busy) hb
    · rw [err]
      exact ⟨rfl, Dev.unlocked_csr ..⟩
  case several =>
    intro d d1 who off x pre post h4 ho hl hpre hx
    rw [Dev.csrWriteReq_stops ho h4 hl hpre (by simp [hx]), ← hx]

/-- Settles O4: a plain write by `csrWrite_plain`, a request of several by `csrWriteReq_concat`, and a read by
`csrReadWord_plain`. -/
theorem registerWritesAndReads : Obligations.RegisterWritesAndReads := by
  refine ⟨?one, fun d who off xs y ho h4 hne hl => Dev.csrWriteReq_concat d who y ho h4 hne hl, ?above, ?cnt, ?read⟩
  case one =>
    intro s who off x r hs ht hp hr hf hk hw hq h4 ho
    exact State.runs_of_live hs rfl ⟨Dev.reply_csrWriteReq_plain ⟨ht, hp, hr, hf, hk, hw, hq⟩ h4 ho,
      Dev.word_written_self _ _ _ hr⟩
  case above =>
    intro s who off xs hs ho
    refine State.goes_of_calm (State.live_of_ready hs) rfl ?_ (Dev.calm_of_restSame (Dev.restSame_reply _ _)
      (State.calm_of_ready hs))
    rw [Dev.csrWriteReq_above _ _ _ ho]
  case cnt =>
    intro s who off x r f hs ht hp hr hf hk hw hq h4 ho hmem hcnt
    refine State.runs_of_live hs rfl ⟨Dev.reply_csrWriteReq_plain ⟨ht, hp, hr, hf, hk, hw, hq⟩ h4 ho, ?_⟩
    rw [Dev.word_written_self _ _ _ hr]
    exact RegDef.fieldOf_written_cnt (laidOut_of_mem (mem_blockRegs_of_regAt hr)) hmem _ _ hcnt
  case read =>
    intro s who off r hs hc hr hf hlog h4 ho
    refine State.goes_of_calm (f := Dev.readAnswer who off.toNat) (State.live_of_ready hs) rfl ?_
      (Dev.calm_of_restSame (Dev.restSame_trans (Dev.restSame_putWord ..) (Dev.restSame_replyWith _ _))
        (State.calm_of_ready hs))
    rw [Dev.readAnswer_eq _ hc ho h4, Dev.csrReadWord_plain _ hr hf hlog]

end Sys2Proof.Machine
end

section
/-! The fabric's own events (R105, R118, R127, R129, R133, R137): REINIT and its pulse, trunks, FORCE, SLIP, the edges
of a network, and the asynchronous set or reset. -/

namespace Sys2Proof.Machine

/-! ## Tables that take a list of entries -/

/-- A table in which the entries of `l` that `p` picks are written, each under a key of its own. -/
theorem SMap.get_foldl_putIf {α : Type} [DecidableEq α] (dflt : α) (key : Nat → Nat) (hk : key.Injective)
    (p : Nat → Prop) [DecidablePred p] (val : Nat → α) (l : List Nat) (m : SMap α) (e : Nat) :
    (l.foldl (fun m x => if p x then m.put dflt (key x) (val x) else m) m).get dflt (key e)
      = if e ∈ l ∧ p e then val e else m.get dflt (key e) := by
  induction l generalizing m with
  | nil => simp
  | cons x xs ih =>
    rw [List.foldl_cons, ih]
    by_cases hx : e = x
    · subst hx
      by_cases hp : p e <;> simp [hp]
    · have apart : key e ≠ key x := fun h => hx (hk h)
      have head : (if p x then m.put dflt (key x) (val x) else m).get dflt (key e) = m.get dflt (key e) := by
        split
        · exact get_put_ne _ _ _ _ apart
        · rfl
      simp [head, hx]

/-- A table in which every key of `l` is written. -/
theorem SMap.get_foldl_put {α : Type} [DecidableEq α] (dflt : α) (val : Nat → α) (l : List Nat) (m : SMap α) (k : Nat) :
    (l.foldl (fun m x => m.put dflt x (val x)) m).get dflt k = if k ∈ l then val k else m.get dflt k := by
  simpa using get_foldl_putIf dflt id Function.injective_id (fun _ => True) val l m k

/-- The fabric's bits once every region of `ns` has written its keys. -/
def writeKeys (keys : Region → List Nat) (val : Region → Nat → Bool) (ns : List Region) (m : SMap Bool) : SMap Bool :=
  ns.foldl (fun m n => (keys n).foldl (fun m k => m.put false k (val n k)) m) m

section
variable {keys : Region → List Nat} {val : Region → Nat → Bool}

theorem get_writeKeys_of_notMem (ns : List Region) (m : SMap Bool) {k : Nat} (h : ∀ n ∈ ns, k ∉ keys n) :
    (writeKeys keys val ns m).get false k = m.get false k := by
  refine List.foldlRecOn (motive := fun a => SMap.get false a k = SMap.get false m k) ns _ rfl ?_
  intro a ha n hn
  rw [SMap.get_foldl_put, if_neg (h n hn), ha]

/-- Where no two regions share a key, a key reads as its region wrote it. -/
theorem get_writeKeys_of_mem (owner : Nat → Nat) (ho : ∀ n, ∀ k ∈ keys n, owner k = n.val) (ns : List Region)
    (m : SMap Bool) {n : Region} (hn : n ∈ ns) {k : Nat} (hk : k ∈ keys n) :
    (writeKeys keys val ns m).get false k = val n k := by
  induction ns generalizing m with
  | nil => cases hn
  | cons a as ih =>
    by_cases has : n ∈ as
    · exact ih _ has
    · obtain rfl : n = a := by simpa [has] using hn
      have others : ∀ b ∈ as, k ∉ keys b := by
        intro b hb hkb
        have same : b = n := Fin.ext ((ho b k hkb).symm.trans (ho n k hk))
        exact has (same ▸ hb)
      rw [writeKeys, List.foldl_cons, ← writeKeys, get_writeKeys_of_notMem as _ others, SMap.get_foldl_put, if_pos hk]

end

namespace Dev

/-! ## A write of a register in a region's page -/

/-- A register without a second half is the only one that a write gives a value. -/
theorem word_written_ne (d : Dev) (who : Who) {off o : Nat} (x : Word) {r : RegDef} (hr : regAt off = some r)
    (hh : otherHalf off = none) (ho : o ≠ off) : (d.written who off x).word o = d.word o := by
  rw [written_eq d who off x r hr]
  simp [plainWrite, hh, word_putWord_ne _ _ ho]

/-- In a region's page BORDER_CTL alone has more to do after a write (R133). -/
theorem csrHook_regionPage {off : Nat} (h : 0x100000 ≤ off ∧ off < 0x900000) (old : Word) (lvl was : Bool) (d : Dev) :
    csrHook off old lvl was d =
      if off = Reg.BORDER_CTL (off / 0x10000 - 0x10) then forceWritten (off / 0x10000 - 0x10) d else d := by
  have lane : laneAt off = none := by
    rw [laneAt, if_neg (by omega), if_neg (by omega), if_neg (by omega)]
  have page : 0x10 ≤ off / 0x10000 := by omega
  simp only [csrHook, lane, page, true_and, Reg.PORT_EN, Reg.PORT_CTL, Reg.PACK_CTL, Reg.PACK_IDS, Reg.SCRUB_CTL,
    Reg.SCRUB_PERIOD, Reg.SEC_KEY_DATA, Reg.WDT_CTL, Reg.DPC, Reg.DREG_DATA]
  iterate 11 rw [if_neg (by omega)]

/-- No register of a region's page is one of those whose writes the model treats apart. -/
theorem regionPage_ne {off : Nat} (h : 0x100000 ≤ off ∧ off < 0x900000) : off ≠ Reg.UNLOCK_KEY
    ∧ ¬(Reg.PATCH_ADDR 0 ≤ off ∧ off < Reg.PATCH_ADDR 16)
    ∧ off ≠ Reg.PWR_CTL ∧ off ≠ Reg.CFG_CTL ∧ off ≠ Reg.NOC_CTL := by
  simp only [Reg.UNLOCK_KEY, Reg.PATCH_ADDR, Reg.PWR_CTL, Reg.CFG_CTL, Reg.NOC_CTL]
  omega

/-! ## REINIT -/

theorem ffCtl_mem_page (n : Region) : 0x100000 ≤ Reg.FF_CTL n.val ∧ Reg.FF_CTL n.val < 0x900000 := by
  simp only [Reg.FF_CTL]
  omega

/-- FF_CTL holds one command (R118). -/
def ffCtl : RegDef := ⟨0x100100, 128, 0x10000, 1, 0x0, 0x3C00, 1, 0, [⟨0, 1, .cmd, true, 0, [], false⟩]⟩

theorem regAt_ffCtl (n : Region) : regAt (Reg.FF_CTL n.val) = some ffCtl := by
  revert n
  decide

theorem aliasIndex_ffCtl (n : Region) : aliasIndex (Reg.FF_CTL n.val) = 0x3C00 + n.val := by
  revert n
  decide

theorem fifoAt_ffCtl (n : Region) : fifoAt (Reg.FF_CTL n.val) = none := by
  revert n
  decide

theorem otherHalf_ffCtl (n : Region) : otherHalf (Reg.FF_CTL n.val) = none := by
  revert n
  decide

theorem page_ffCtl (n : Region) : Reg.FF_CTL n.val / 0x10000 - 0x10 = n.val := by
  simp only [Reg.FF_CTL]
  omega

theorem csrHook_ffCtl (n : Region) (old : Word) (lvl was : Bool) (d : Dev) :
    csrHook (Reg.FF_CTL n.val) old lvl was d = d := by
  rw [csrHook_regionPage (ffCtl_mem_page n), page_ffCtl, if_neg]
  simp only [Reg.FF_CTL, Reg.BORDER_CTL]
  omega

theorem cmdsAt_ffCtl (co : Nat) (n : Region) :
    cmdsAt co (Reg.FF_CTL n.val) = [{ lsb := 0, eff := fun _ => reinitEff n }] := by
  have block : Reg.FF_CTL n.val / 0x10000 = 0x10 + n.val := by simp only [Reg.FF_CTL]; omega
  have other : Reg.FF_CTL n.val ≠ Reg.RGN_CTL n.val := by simp only [Reg.FF_CTL, Reg.RGN_CTL]; omega
  have low : ¬0x10 + n.val < 0x0D ∧ ¬0x10 + n.val < 0x0A ∧ ¬0x10 + n.val < 0x05 ∧ 0x10 + n.val ≠ 0x0E
      ∧ 0x10 + n.val ≠ 0x0F ∧ 0x10 + n.val < 0x90 := by omega
  simp [cmdsAt, cmdsRegion, block, other, low]

theorem presented_reinit (co : Nat) (n : Region) (x : Word) :
    presented co (Reg.FF_CTL n.val) (withField x 0 1 1) = [{ lsb := 0, eff := fun _ => reinitEff n }] := by
  rw [presented, cmdsAt_ffCtl, List.filter_cons_of_pos (by simp [fieldOf_withField_self]), List.filter_nil]

/-- A write of FF_CTL that is taken changes no register before its command acts. -/
theorem word_written_ffCtl (d : Dev) (who : Who) (n : Region) (x : Word) (o : Nat) :
    (d.written who (Reg.FF_CTL n.val) x).word o = d.word o := by
  by_cases ho : o = Reg.FF_CTL n.val
  · rw [ho, word_written_self d who x (regAt_ffCtl n)]
    simp [RegDef.written, ffCtl]
  · exact word_written_ne d who x (regAt_ffCtl n) (otherHalf_ffCtl n) ho

/-- REINIT is accepted in an ACTIVE region that is not held and has none waiting (R118). -/
theorem reinitEff_accepted {n : Region} {d : Dev} (ha : d.rstate n.val = rsActive) (hh : d.holdOn n.val = false)
    (hw : d.on (Reg.FF_CTL_REINIT n.val) = false) :
    reinitEff n d = (((d.raise (Reg.FF_CTL_REINIT n.val)).raise (Reg.FF_STS_REINIT_BUSY n.val)).cmdStart
      (0x3C00 + n.val) 1, .ok) := by
  rw [reinitEff, if_neg (by simp [ha, hh, hw])]

theorem command_reinit (d : Dev) (who : Who) (n : Region) (h : d.takes who (Reg.FF_CTL_REINIT n.val) = true)
    (ha : d.rstate n.val = rsActive) (hh : d.holdOn n.val = false) (hw : d.on (Reg.FF_CTL_REINIT n.val) = false) :
    d.command who (Reg.FF_CTL_REINIT n.val) =
      (((((d.writtenCmd who (Reg.FF_CTL_REINIT n.val)).raise (Reg.FF_CTL_REINIT n.val)).raise
        (Reg.FF_STS_REINIT_BUSY n.val)).cmdStart (0x3C00 + n.val) 1).touch (0x3C00 + n.val), .ok) := by
  simp only [takes, takesCmd, Bool.and_eq_true] at h
  have word := word_written_ffCtl d who n (withField (d.word (Reg.FF_CTL n.val)) 0 1 1)
  have accepted : reinitEff n (d.writtenCmd who (Reg.FF_CTL_REINIT n.val)) = _ := reinitEff_accepted
    (by simpa only [rstate, get, writtenCmd, Reg.FF_CTL_REINIT, word] using ha)
    (by simpa only [holdOn, on, get, writtenCmd, Reg.FF_CTL_REINIT, word] using hh)
    (by simpa only [on, get, writtenCmd, Reg.FF_CTL_REINIT, word] using hw)
  obtain ⟨hu, hq, hp, h1, h2⟩ := regionPage_ne (ffCtl_mem_page n)
  have run := csrWriteCo_of_cmd d _ 0 who (Reg.FF_CTL n.val) _ _ _ h.1 (presented_reinit 0 n _) (regAt_ffCtl n)
    (fifoAt_ffCtl n) hu hq hp h1 h2 accepted
  rw [csrHook_ffCtl, aliasIndex_ffCtl] at run
  exact run

/-! ## The pulse of a REINIT -/

@[simp] theorem sliceSt_setSlice_self (d : Dev) (n s : Nat) (x : SliceSt) : (d.setSlice n s x).sliceSt n s = x := by
  simp [sliceSt, setSlice]

theorem sliceSt_setSlice_ne (d : Dev) (n : Nat) {s t : Nat} (x : SliceSt) (h : t ≠ s) :
    (d.setSlice n s x).sliceSt n t = d.sliceSt n t :=
  SMap.get_put_ne _ _ _ _ (by omega)

theorem sliceSt_clear (d : Dev) (f : Fld) (n s : Nat) : (d.clear f).sliceSt n s = d.sliceSt n s := rfl

/-- What a slice starts from is told by the stored frames alone (R180, R182). -/
theorem sliceInit_congr {d e : Dev} (h : e.frames = d.frames) (n p s : Nat) :
    e.sliceInit n p s = d.sliceInit n p s := by
  have sets : e.agInit n p s = d.agInit n p s := by
    funext i
    simp only [agInit, sliceBitsAt, cfgAt, frame, h]
  rw [sliceInit, sliceInit, sets]

theorem setSlice_ff (d : Dev) (n s : Nat) (x : SliceSt) : (d.setSlice n s x).ff = d.ff := rfl

theorem setSlice_frames (d : Dev) (n s : Nat) (x : SliceSt) : (d.setSlice n s x).frames = d.frames := rfl

/-- Slice `s` of region `n` takes its initial values of plane `p` (R180). -/
def initSlice (n p : Nat) (d : Dev) (s : Nat) : Dev := d.setSlice n s (d.sliceInit n p s)

theorem sliceReset_eq_foldl (d : Dev) (n p : Nat) :
    d.sliceReset n p (fun _ => false) = (List.range 48).foldl (initSlice n p) d := by
  simp only [sliceReset, Bool.false_eq_true, if_false]
  rfl

theorem sliceSt_initSlice_self (n p : Nat) (d : Dev) (s : Nat) :
    (initSlice n p d s).sliceSt n s = d.sliceInit n p s := sliceSt_setSlice_self ..

theorem sliceSt_initSlice_ne (n p : Nat) (d : Dev) {s t : Nat} (h : t ≠ s) :
    (initSlice n p d s).sliceSt n t = d.sliceSt n t := sliceSt_setSlice_ne _ _ _ h

theorem sliceInit_initSlice (n p : Nat) (d : Dev) (s t : Nat) :
    (initSlice n p d s).sliceInit n p t = d.sliceInit n p t := sliceInit_congr (setSlice_frames ..) ..

/-- Slices that take their initial values one after another each hold their own. -/
theorem sliceSt_foldl_initSlice (n p : Nat) (l : List Nat) (d : Dev) :
    ∀ s ∈ l, (l.foldl (initSlice n p) d).sliceSt n s = d.sliceInit n p s := by
  induction l generalizing d with
  | nil => simp
  | cons x xs ih =>
    intro s hs
    by_cases hxs : s ∈ xs
    · rw [List.foldl_cons, ih _ s hxs, sliceInit_initSlice]
    · obtain rfl : s = x := by simpa [hxs] using hs
      rw [List.foldl_cons]
      refine List.foldlRecOn (motive := fun a : Dev => a.sliceSt n s = d.sliceInit n p s) xs (initSlice n p)
        (sliceSt_initSlice_self n p d s) ?_
      intro a ha t ht
      exact (sliceSt_initSlice_ne n p a (by rintro rfl; exact hxs ht)).trans ha

/-- Every slice of a region that is reset takes its initial values (R180). -/
theorem sliceSt_sliceReset (d : Dev) (n p : Nat) (s : Fin 48) :
    (d.sliceReset n p (fun _ => false)).sliceSt n s.val = d.sliceInit n p s.val := by
  rw [sliceReset_eq_foldl]
  exact sliceSt_foldl_initSlice n p _ d s.val (List.mem_range.mpr s.isLt)

theorem sliceReset_ff (d : Dev) (n p : Nat) : (d.sliceReset n p (fun _ => false)).ff = d.ff := by
  rw [sliceReset_eq_foldl]
  exact foldl_keeps Dev.ff _ (fun _ _ => setSlice_ff ..) _ d

theorem get_sliceReset (d : Dev) (n p : Nat) (f : Fld) : (d.sliceReset n p (fun _ => false)).get f = d.get f := by
  rw [sliceReset_eq_foldl]
  exact foldl_keeps (Dev.get · f) _ (fun _ _ => get_setSlice ..) _ d

/-- Every flip-flop of a region that is reset takes its INIT (R107). -/
theorem get_ffReset (d : Dev) (n p : Nat) {k : Nat} (hk : k ∈ d.ffKeys n p) :
    SMap.get false (d.ffReset n p (fun _ => false)).ff k = d.ffInit n p k :=
  (SMap.get_foldl_put false (d.ffInit n p) (d.ffKeys n p) d.ff k).trans (if_pos hk)

theorem withFf_frames (d : Dev) (x : SMap Bool) : ({ d with ff := x } : Dev).frames = d.frames := rfl

theorem ffReset_frames (d : Dev) (n p : Nat) (keep : Nat → Bool) : (d.ffReset n p keep).frames = d.frames :=
  withFf_frames d _

theorem cmdDone_frames (d : Dev) (ix sub : Nat) (c : Code) : (d.cmdDone ix sub c).frames = d.frames := rfl

theorem cmdDone_ff (d : Dev) (ix sub : Nat) (c : Code) : (d.cmdDone ix sub c).ff = d.ff := rfl

theorem reinitEnd_frames (d : Dev) (n : Nat) (c : Code) : (reinitEnd n c d).frames = d.frames := by
  rw [reinitEnd, cmdDone_frames, clear_frames, clear_frames]

theorem reinitEnd_ff (d : Dev) (n : Nat) (c : Code) : (reinitEnd n c d).ff = d.ff := by
  rw [reinitEnd, cmdDone_ff, clear_ff, clear_ff]

/-- The pulse in a region that is not held: the flip-flops, the REINIT's end, the slices and the wait (R118). -/
theorem reinitPulse_eq {n : Region} {d : Dev} (hb : d.on (Reg.FF_STS_REINIT_BUSY n.val) = true)
    (hr : d.rclkRuns n (d.activePlane n.val) = true) (hh : d.holdOn n.val = false) :
    d.reinitPulse n = (((reinitEnd n.val .ok (d.ffReset n.val (d.activePlane n.val) (fun _ => false))).raise
      (Reg.FF_EVT_REINIT_DONE n.val)).sliceReset n.val (d.activePlane n.val) (fun _ => false)).clear
        (Reg.RGN_STS_WAIT_REINIT n.val) := by
  simp [reinitPulse, reinitPulseFf, hb, hr, hh]

section
variable {n : Region} {d : Dev} (hb : d.on (Reg.FF_STS_REINIT_BUSY n.val) = true)
  (hr : d.rclkRuns n (d.activePlane n.val) = true) (hh : d.holdOn n.val = false)
include hb hr hh

/-- The registers after the pulse: the REINIT is done. -/
theorem on_reinitPulse : (d.reinitPulse n).on (Reg.FF_CTL_REINIT n.val) = false
    ∧ (d.reinitPulse n).on (Reg.FF_STS_REINIT_BUSY n.val) = false
    ∧ (d.reinitPulse n).on (Reg.FF_EVT_REINIT_DONE n.val) = true := by
  simp [reinitPulse_eq hb hr hh, reinitEnd, on, raise_eq, clear_eq, get_set_off, get_set_self, get_sliceReset,
    Reg.FF_CTL_REINIT, Reg.FF_STS_REINIT_BUSY, Reg.FF_EVT_REINIT_DONE, Reg.RGN_STS_WAIT_REINIT, Reg.FF_CTL,
    Reg.FF_STS, Reg.FF_EVT, Reg.RGN_STS]

theorem ff_reinitPulse {k : Nat} (hk : k ∈ d.ffKeys n.val (d.activePlane n.val)) :
    SMap.get false (d.reinitPulse n).ff k = d.ffInit n.val (d.activePlane n.val) k := by
  rw [reinitPulse_eq hb hr hh, clear_ff, sliceReset_ff, raise_ff, reinitEnd_ff, get_ffReset d _ _ hk]

theorem sliceSt_reinitPulse (i : Fin 48) :
    (d.reinitPulse n).sliceSt n.val i.val = d.sliceInit n.val (d.activePlane n.val) i.val := by
  rw [reinitPulse_eq hb hr hh, sliceSt_clear, sliceSt_sliceReset]
  exact sliceInit_congr ((raise_frames ..).trans ((reinitEnd_frames ..).trans (ffReset_frames ..))) ..

end

/-! ## Trunks -/

/-- What the registers of region `n` record when trunk `t` is disabled and `off` trunks then are (R127). -/
def trunkRecorded (d : Dev) (n t off : Nat) : Dev :=
  (((d.raise (Reg.ROUTE_EVT_TRUNK_CONTEND n)).set (Reg.ROUTE_STS_LAST_TRUNK n) t).set
    (Reg.ROUTE_STS_DISABLED n) off).count (Reg.ROUTE_CNT_CONTEND_CNT n)

/-- What they record when a trunk resumes and `off` trunks stay disabled (R127). -/
def trunkCleared (d : Dev) (n off : Nat) : Dev :=
  (d.raise (Reg.ROUTE_EVT_TRUNK_CLEAR n)).set (Reg.ROUTE_STS_DISABLED n) off

/-- The disabled trunks of region `n` among `ks`. -/
def trunksOf (ks : List Nat) (n : Nat) : Nat := ks.countP (fun x => x / 512 == n)

/-- Two taps on a trunk disable it (R127). -/
theorem trunkContention_eq {n : Region} {t : Fin 512} {d : Dev} (hk : n.val * 512 + t.val ∉ d.trunkOff)
    (ht : 2 ≤ d.tapsOf n.val t.val) : trunkContention n t d =
      ({ d with trunkOff := (n.val * 512 + t.val) :: d.trunkOff } : Dev).trunkRecorded n.val t.val
        (trunksOf ((n.val * 512 + t.val) :: d.trunkOff) n.val) := by
  rw [trunkContention, if_neg (not_or.mpr ⟨by simp [hk], Nat.not_lt.mpr ht⟩)]
  rfl

/-- A trunk whose fault is gone resumes (R127). -/
theorem trunkRestore_eq {n : Region} {t : Fin 512} {d : Dev} (hk : n.val * 512 + t.val ∈ d.trunkOff)
    (hf : n.val * 512 + t.val ∈ d.trunkFixed) (ht : d.tapsOf n.val t.val < 2) : trunkRestore n t d =
      ({ d with
        trunkOff := d.trunkOff.erase (n.val * 512 + t.val)
        trunkFixed := d.trunkFixed.erase (n.val * 512 + t.val) } : Dev).trunkCleared n.val
        (trunksOf (d.trunkOff.erase (n.val * 512 + t.val)) n.val) := by
  rw [trunkRestore, if_neg (by simp [hk, hf, ht])]
  rfl

theorem restSame_trunkRecorded (d : Dev) (n t off : Nat) : d.restSame (d.trunkRecorded n t off) :=
  restSame_trans (restSame_trans (restSame_trans (restSame_set ..) (restSame_set ..)) (restSame_set ..))
    (restSame_set ..)

theorem restSame_trunkCleared (d : Dev) (n off : Nat) : d.restSame (d.trunkCleared n off) :=
  restSame_trans (restSame_set ..) (restSame_set ..)

theorem regsBut_trunkRecorded (d : Dev) (n t off : Nat) :
    d.regsBut [Reg.ROUTE_EVT n, Reg.ROUTE_STS n, Reg.ROUTE_CNT n] (d.trunkRecorded n t off) := by
  intro o ho
  simp only [List.mem_cons, List.not_mem_nil, or_false, not_or] at ho
  obtain ⟨evt, sts, cnt⟩ := ho
  simp [trunkRecorded, raise_eq, count, word_set_ne, Reg.ROUTE_EVT_TRUNK_CONTEND, Reg.ROUTE_STS_LAST_TRUNK,
    Reg.ROUTE_STS_DISABLED, Reg.ROUTE_CNT_CONTEND_CNT, evt, sts, cnt]

theorem regsBut_trunkCleared (d : Dev) (n off : Nat) :
    d.regsBut [Reg.ROUTE_EVT n, Reg.ROUTE_STS n] (d.trunkCleared n off) := by
  intro o ho
  simp only [List.mem_cons, List.not_mem_nil, or_false, not_or] at ho
  obtain ⟨evt, sts⟩ := ho
  simp [trunkCleared, raise_eq, word_set_ne, Reg.ROUTE_EVT_TRUNK_CLEAR, Reg.ROUTE_STS_DISABLED, evt, sts]

theorem contend_trunkRecorded (d : Dev) (n t off : Nat) :
    (d.trunkRecorded n t off).on (Reg.ROUTE_EVT_TRUNK_CONTEND n) = true := by
  simp [on, trunkRecorded, raise_eq, count, get_set_off, get_set_self, Reg.ROUTE_EVT_TRUNK_CONTEND,
    Reg.ROUTE_STS_LAST_TRUNK, Reg.ROUTE_STS_DISABLED, Reg.ROUTE_CNT_CONTEND_CNT, Reg.ROUTE_EVT, Reg.ROUTE_STS,
    Reg.ROUTE_CNT]

theorem lastTrunk_trunkRecorded (d : Dev) (n : Nat) (t : Fin 512) (off : Nat) :
    (d.trunkRecorded n t.val off).get (Reg.ROUTE_STS_LAST_TRUNK n) = t.val := by
  have fits : t.val % 512 = t.val := Nat.mod_eq_of_lt t.isLt
  simp [trunkRecorded, count, get_set_off, get_set_ne, get_set_self, fits, Reg.ROUTE_STS_LAST_TRUNK,
    Reg.ROUTE_STS_DISABLED, Reg.ROUTE_CNT_CONTEND_CNT, Reg.ROUTE_STS, Reg.ROUTE_CNT]

theorem clear_trunkCleared (d : Dev) (n off : Nat) :
    (d.trunkCleared n off).on (Reg.ROUTE_EVT_TRUNK_CLEAR n) = true := by
  simp [on, trunkCleared, raise_eq, get_set_off, get_set_self, Reg.ROUTE_EVT_TRUNK_CLEAR, Reg.ROUTE_STS_DISABLED,
    Reg.ROUTE_EVT, Reg.ROUTE_STS]

/-- The disabled trunks apart, what a register write leaves stays. -/
theorem restSame_withTrunkOff {d e : Dev} (off : List Nat) (h : ({ d with trunkOff := off } : Dev).restSame e) :
    d.restSame { e with trunkOff := d.trunkOff } := by
  unfold restSame at *
  exact (congrArg (fun a : Dev => { a with trunkOff := d.trunkOff }) h :)

theorem restSame_withTrunks {d e : Dev} (off fixed : List Nat)
    (h : ({ d with trunkOff := off, trunkFixed := fixed } : Dev).restSame e) :
    d.restSame { e with trunkOff := d.trunkOff, trunkFixed := d.trunkFixed } := by
  unfold restSame at *
  exact (congrArg (fun a : Dev => { a with trunkOff := d.trunkOff, trunkFixed := d.trunkFixed }) h :)

theorem calm_withTrunks {d : Dev} (off fixed : List Nat) (h : d.calm = true) :
    ({ d with trunkOff := off, trunkFixed := fixed } : Dev).calm = true :=
  (calm_congr rfl rfl rfl rfl rfl).trans h

/-! ## FORCE -/

theorem borderCtl_mem_page (n : Region) : 0x100000 ≤ Reg.BORDER_CTL n.val ∧ Reg.BORDER_CTL n.val < 0x900000 := by
  simp only [Reg.BORDER_CTL]
  omega

/-- BORDER_CTL holds FORCE alone (R133). -/
def borderCtl : RegDef := ⟨0x100300, 128, 0x10000, 1, 0x0, 0x3D00, 1, 0, [⟨0, 4, .ctl, true, 0, [], false⟩]⟩

theorem regAt_borderCtl (n : Region) : regAt (Reg.BORDER_CTL n.val) = some borderCtl := by
  revert n
  decide

theorem fifoAt_borderCtl (n : Region) : fifoAt (Reg.BORDER_CTL n.val) = none := by
  revert n
  decide

theorem csrHook_borderCtl (n : Region) (old : Word) (lvl was : Bool) (d : Dev) :
    csrHook (Reg.BORDER_CTL n.val) old lvl was d = forceWritten n.val d := by
  have page : Reg.BORDER_CTL n.val / 0x10000 - 0x10 = n.val := by simp only [Reg.BORDER_CTL]; omega
  rw [csrHook_regionPage (borderCtl_mem_page n), page, if_pos rfl]

/-- A write of the whole register ends its fault (R90). -/
theorem failed_written_self (d : Dev) (who : Who) (off : Nat) (x : Word) :
    (d.written who off x).failed off = false := by
  simp [written, parityClear, unfail, failed]

theorem blockField_force (n : Region) : blockField (Reg.BORDER_CTL_FORCE n.val) = none := by
  revert n
  decide

theorem keepsForce_force (n : Region) : keepsForce (Reg.BORDER_CTL_FORCE n.val).off = false := by
  revert n
  decide

/-- A region uses FORCE as it is stored, unless BORDER_CTL has failed (R90). -/
theorem ctl_force {d : Dev} (n : Region) (h : d.failed (Reg.BORDER_CTL n.val) = false) :
    d.ctl (Reg.BORDER_CTL_FORCE n.val) = d.get (Reg.BORDER_CTL_FORCE n.val) := by
  have failed : d.failed (Reg.BORDER_CTL_FORCE n.val).off = false := h
  simp [ctl, blockField_force, keepsForce_force, failed]

/-- A write of FORCE that is taken is in use at once (R81, R133). -/
theorem ctl_force_written (d : Dev) (who : Who) (n : Region) (v : BitVec 4) :
    (d.writtenField who (Reg.BORDER_CTL_FORCE n.val) v.toNat).ctl (Reg.BORDER_CTL_FORCE n.val) = v.toNat := by
  have force : (⟨0, 4, .ctl, true, 0, [], false⟩ : FieldDef) ∈ borderCtl.fields := List.mem_singleton.mpr rfl
  have apart := laidOut_of_mem (mem_blockRegs_of_regAt (regAt_borderCtl n))
  refine (ctl_force n (failed_written_self d who _ _)).trans ?_
  calc (d.writtenField who (Reg.BORDER_CTL_FORCE n.val) v.toNat).get (Reg.BORDER_CTL_FORCE n.val)
      = fieldOf (borderCtl.written (d.word (Reg.BORDER_CTL n.val))
          (withField (d.word (Reg.BORDER_CTL n.val)) 0 4 v.toNat)) 0 4 :=
        congrArg (fieldOf · 0 4) (word_written_self d who _ (regAt_borderCtl n))
    _ = fieldOf (withField (d.word (Reg.BORDER_CTL n.val)) 0 4 v.toNat) 0 4 :=
        RegDef.fieldOf_written_ctl apart force _ _ rfl
    _ = v.toNat := (fieldOf_withField_self _ _ (by decide)).trans (Nat.mod_eq_of_lt v.isLt)

theorem rgnSt_of_restSame {d e : Dev} (h : d.restSame e) (n : Nat) : e.rgnSt n = d.rgnSt n := by
  unfold restSame at h
  exact congrArg (SMap.get {} · n) (congrArg Dev.rgn h :)

theorem restSame_writtenField_force (d : Dev) (who : Who) (n : Region) (v : Nat) :
    d.restSame (d.writtenField who (Reg.BORDER_CTL_FORCE n.val) v) :=
  restSame_written d who _ _ _ (regAt_borderCtl n)

theorem calm_setRgn {d : Dev} (n : Nat) (x : RgnSt) (h : d.calm = true) : (d.setRgn n x).calm = true :=
  (calm_congr rfl rfl rfl rfl rfl).trans h

/-- A FORCE that differs from the one in effect waits for the region clock (R133). -/
theorem forceWritten_writtenField (d : Dev) (who : Who) (n : Region) (v : BitVec 4) :
    forceWritten n.val (d.writtenField who (Reg.BORDER_CTL_FORCE n.val) v.toNat) =
      (d.writtenField who (Reg.BORDER_CTL_FORCE n.val) v.toNat).setRgn n.val
        { d.rgnSt n.val with forceDue := decide (v.toNat ≠ (d.rgnSt n.val).force) } := by
  simp only [forceWritten, ctl_force_written, rgnSt_of_restSame (restSame_writtenField_force d who n v.toNat)]

theorem fieldWrite_force (d : Dev) (who : Who) (n : Region) (v : BitVec 4)
    (h : d.takesField who (Reg.BORDER_CTL_FORCE n.val) v.toNat = true) :
    d.fieldWrite who (Reg.BORDER_CTL_FORCE n.val) v.toNat =
      (((d.writtenField who (Reg.BORDER_CTL_FORCE n.val) v.toNat).setRgn n.val
        { d.rgnSt n.val with forceDue := decide (v.toNat ≠ (d.rgnSt n.val).force) }).touch
        (aliasIndex (Reg.BORDER_CTL n.val)), .ok) := by
  simp only [takesField, Bool.and_eq_true, beq_iff_eq] at h
  obtain ⟨taken, plain⟩ := h
  obtain ⟨hu, hq, hp, h1, h2⟩ := regionPage_ne (borderCtl_mem_page n)
  have run := csrWriteCo_of_plain d 0 who (Reg.BORDER_CTL n.val)
    (withField (d.word (Reg.BORDER_CTL n.val)) 0 4 v.toNat) _ taken (List.map_eq_nil_iff.mp plain)
    (regAt_borderCtl n) (fifoAt_borderCtl n) hu hq hp h1 h2
  have written : d.written who (Reg.BORDER_CTL n.val) (withField (d.word (Reg.BORDER_CTL n.val)) 0 4 v.toNat) =
      d.writtenField who (Reg.BORDER_CTL_FORCE n.val) v.toNat := rfl
  rw [csrHook_borderCtl, written, forceWritten_writtenField] at run
  exact run

/-! ## SLIP -/

theorem ioSlip_accepted {n : Region} {c : Fin 48} {d : Dev} (hc : c.val < ioCells n.val)
    (hw : d.ioWidth n.val c.val ≠ 0) (hh : d.holdOn n.val = false) (hk : d.clocked n.val = true)
    (hs : (d.ioSt n.val c.val).slipIn = 0) :
    ioSlip n c d = d.setIo n.val c.val { d.ioSt n.val c.val with slipIn := 2 } := by
  rw [ioSlip, if_neg (by simp [hc, hw, hh, hk, hs])]

/-! ## An edge of a network -/

/-- The bits that the fabric stores: its flip-flops and the registers of its inbound ports. -/
def fabricBits (d : Dev) : SMap Bool × SMap Bool := (d.ff, d.borderIn)

theorem fabricBits_congr {d e : Dev} (hf : e.ff = d.ff) (hb : e.borderIn = d.borderIn) :
    e.fabricBits = d.fabricBits := by rw [fabricBits, fabricBits, hf, hb]

@[simp] theorem fabricBits_set (d : Dev) (f : Fld) (v : Nat) : (d.set f v).fabricBits = d.fabricBits :=
  fabricBits_congr rfl rfl

@[simp] theorem fabricBits_setBit (d : Dev) (f : Fld) (b : Bool) : (d.setBit f b).fabricBits = d.fabricBits :=
  fabricBits_congr rfl rfl

@[simp] theorem fabricBits_withRgn (d : Dev) (x : SMap RgnSt) : ({ d with rgn := x } : Dev).fabricBits = d.fabricBits :=
  fabricBits_congr rfl rfl

@[simp] theorem fabricBits_setRgn (d : Dev) (n : Nat) (x : RgnSt) : (d.setRgn n x).fabricBits = d.fabricBits :=
  fabricBits_withRgn d _

@[simp] theorem fabricBits_withIo (d : Dev) (x : SMap IoSt) : ({ d with io := x } : Dev).fabricBits = d.fabricBits :=
  fabricBits_congr rfl rfl

@[simp] theorem fabricBits_setIo (d : Dev) (n c : Nat) (x : IoSt) : (d.setIo n c x).fabricBits = d.fabricBits :=
  fabricBits_withIo d _

@[simp] theorem fabricBits_withPins (d : Dev) (x : SMap (Option Bool)) :
    ({ d with pins := x } : Dev).fabricBits = d.fabricBits :=
  fabricBits_congr rfl rfl

theorem fabricBits_withFresh (d : Dev) (x : Nat) : ({ d with fresh := x } : Dev).fabricBits = d.fabricBits :=
  fabricBits_congr rfl rfl

@[simp] theorem fabricBits_freeBelow (d : Dev) (n : Nat) : (d.freeBelow n).2.fabricBits = d.fabricBits :=
  fabricBits_withFresh d _

theorem fabricBits_withBorderHold (d : Dev) (x : SMap Bool) :
    ({ d with borderHold := x } : Dev).fabricBits = d.fabricBits :=
  fabricBits_congr rfl rfl

@[simp] theorem fabricBits_captureBorder (was d : Dev) (n p sides : Nat) :
    (captureBorder was n p sides d).fabricBits = d.fabricBits := fabricBits_withBorderHold d _

@[simp] theorem fabricBits_showRegion (d : Dev) (n : Nat) : (d.showRegion n).fabricBits = d.fabricBits := by
  unfold showRegion
  dsimp only
  split <;> simp

@[simp] theorem fabricBits_forceEdge (was d : Dev) (n : Nat) : (was.forceEdge d n).fabricBits = d.fabricBits := by
  simp only [forceEdge, fabricBits_showRegion, fabricBits_setRgn, apply_ite fabricBits, fabricBits_captureBorder,
    ite_self]

theorem fabricBits_regionEdge (was : Dev) (net : Net) (d : Dev) (n : Region) :
    (regionEdge was net d n).fabricBits = d.fabricBits := by
  simp only [regionEdge, apply_ite fabricBits, fabricBits_set, fabricBits_forceEdge, ite_self]

theorem fabricBits_ioEdge (net : Net) (falling : Bool) (d : Dev) (x : IoSample) :
    (ioEdge net falling d x).fabricBits = d.fabricBits := by
  simp only [ioEdge, apply_ite fabricBits, fabricBits_setIo, fabricBits_withPins, fabricBits_freeBelow, ite_self]

/-- The regions whose elements an edge reaches (R189, R402, R485). -/
def clockedRegions (d : Dev) : List Region := (List.finRange 128).filter (fun n => d.clocked n.val)

theorem mem_clockedRegions {d : Dev} {n : Region} : n ∈ d.clockedRegions ↔ d.clocked n.val = true := by
  simp [clockedRegions]

/-- At an edge every clocked region's flip-flops and inbound registers take their next values (R105, R129). -/
theorem fabricBits_clockEdge (d : Dev) (net : Net) (falling : Bool) (samples : List IoSample) :
    (d.clockEdge net falling samples []).fabricBits =
      (writeKeys (fun n => d.ffKeys n.val (d.activePlane n.val))
        (fun n k => d.ffNext n (k % 131072 / 32) (k % 32 / 2) (k % 2) net falling none) d.clockedRegions d.ff,
       writeKeys (fun n => d.inboundKeys n.val (d.activePlane n.val))
        (fun n k => d.inboundNext n k net falling) d.clockedRegions d.borderIn) := by
  unfold clockEdge
  extract_lets regions ff bin d1 d2
  have io : d2.fabricBits = d1.fabricBits := foldl_keeps fabricBits _ (fabricBits_ioEdge net falling) _ _
  split
  · exact io
  · exact (foldl_keeps fabricBits _ (fabricBits_regionEdge d net) _ _).trans io

/-- A cluster whose record a frame holds is one of the region's 4,096. -/
theorem lt_of_mem_clustersOf {d : Dev} {n p i : Nat} (h : i ∈ d.clustersOf n p) : i < 4096 := by
  simp only [clustersOf, List.mem_dedup, List.mem_flatMap] at h
  obtain ⟨f, -, hi⟩ := h
  split at hi
  · simp only [List.mem_map, List.mem_range] at hi
    omega
  · split at hi
    · simp only [List.mem_cons, List.not_mem_nil, or_false] at hi
      omega
    · cases hi

/-- The flip-flops of a region have keys of its own. -/
theorem ffKeys_region {d : Dev} {n p k : Nat} (h : k ∈ d.ffKeys n p) : k / 131072 = n := by
  simp only [ffKeys, List.mem_dedup, List.mem_append, List.mem_flatMap, List.mem_map, List.mem_range,
    List.mem_filterMap] at h
  obtain ⟨i, hi, j, hj, rfl⟩ | ⟨e, -, he⟩ := h
  · have := lt_of_mem_clustersOf hi
    omega
  · grind

/-- The inbound ports of a region have keys of its own. -/
theorem inboundKeys_region {d : Dev} {n p k : Nat} (h : k ∈ d.inboundKeys n p) : k / 2048 = n := by
  simp only [inboundKeys, List.mem_dedup, List.mem_append, List.mem_filterMap] at h
  obtain hk | ⟨e, -, he⟩ := h
  · split at hk
    · cases hk
    · simp only [List.mem_map, List.mem_range] at hk
      omega
  · grind

section
variable (d : Dev) (net : Net) (falling : Bool) (samples : List IoSample)

theorem ff_clockEdge : (d.clockEdge net falling samples []).ff =
    writeKeys (fun n => d.ffKeys n.val (d.activePlane n.val))
      (fun n k => d.ffNext n (k % 131072 / 32) (k % 32 / 2) (k % 2) net falling none) d.clockedRegions d.ff :=
  congrArg Prod.fst (fabricBits_clockEdge d net falling samples)

theorem borderIn_clockEdge : (d.clockEdge net falling samples []).borderIn =
    writeKeys (fun n => d.inboundKeys n.val (d.activePlane n.val))
      (fun n k => d.inboundNext n k net falling) d.clockedRegions d.borderIn :=
  congrArg Prod.snd (fabricBits_clockEdge d net falling samples)

theorem ff_clockEdge_clocked {n : Region} (hn : d.clocked n.val = true) {k : Nat}
    (hk : k ∈ d.ffKeys n.val (d.activePlane n.val)) :
    SMap.get false (d.clockEdge net falling samples []).ff k =
      d.ffNext n (k % 131072 / 32) (k % 32 / 2) (k % 2) net falling none := by
  rw [ff_clockEdge]
  exact get_writeKeys_of_mem (· / 131072) (fun _ _ h => ffKeys_region h) _ _ (mem_clockedRegions.mpr hn) hk

theorem borderIn_clockEdge_clocked {n : Region} (hn : d.clocked n.val = true) {k : Nat}
    (hk : k ∈ d.inboundKeys n.val (d.activePlane n.val)) :
    SMap.get false (d.clockEdge net falling samples []).borderIn k = d.inboundNext n k net falling := by
  rw [borderIn_clockEdge]
  exact get_writeKeys_of_mem (· / 2048) (fun _ _ h => inboundKeys_region h) _ _ (mem_clockedRegions.mpr hn) hk

/-- No edge reaches a flip-flop of a region that is not clocked. -/
theorem ff_clockEdge_stopped {n : Region} (hn : d.clocked n.val = false) {k : Nat} (hk : k / 131072 = n.val) :
    SMap.get false (d.clockEdge net falling samples []).ff k = SMap.get false d.ff k := by
  rw [ff_clockEdge]
  refine get_writeKeys_of_notMem _ _ fun m hm hkm => ?_
  have same : m = n := Fin.ext ((ffKeys_region hkm).symm.trans hk)
  rw [mem_clockedRegions, same, hn] at hm
  cases hm

end

/-! ## The asynchronous set or reset -/

/-- An asserted line loads SRVAL into the flip-flops of the cluster that select it (R105). -/
theorem asyncSetReset_eq {n : Region} {i line : Nat} {d : Dev} (hh : d.holdOn n.val = false)
    (hd : d.domState (regionDom n.val) < 2) (ha : d.clusterBits n.val i 62 1 = 1) (hs : d.srOn n.val i line = true) :
    asyncSetReset n i line d =
      { d with ff := (List.range 32).foldl (fun m e =>
          if d.cellBits n.val i (e / 2) (ffBase (e % 2) + 4) 2 = line + 1 then
            SMap.put false m (n.val * 131072 + i * 32 + e) (d.ffSrval n.val i (e / 2) (e % 2))
          else m) d.ff } := by
  rw [asyncSetReset, if_neg (by simp [hh, hd, ha, hs])]

theorem calm_withFf {d : Dev} (x : SMap Bool) (h : d.calm = true) : ({ d with ff := x } : Dev).calm = true :=
  (calm_congr rfl rfl rfl rfl rfl).trans h

theorem ffOf_asyncSetReset {n : Region} {i line : Nat} {d : Dev} (hh : d.holdOn n.val = false)
    (hd : d.domState (regionDom n.val) < 2) (ha : d.clusterBits n.val i 62 1 = 1) (hs : d.srOn n.val i line = true)
    (c : Fin 16) (b : Fin 2) : (asyncSetReset n i line d).ffOf n.val i c.val b.val =
      if d.cellBits n.val i c.val (ffBase b.val + 4) 2 = line + 1 then d.ffSrval n.val i c.val b.val
      else d.ffOf n.val i c.val b.val := by
  have cell : (2 * c.val + b.val) / 2 = c.val := by omega
  have half : (2 * c.val + b.val) % 2 = b.val := by omega
  have mem : 2 * c.val + b.val ∈ List.range 32 := List.mem_range.mpr (by omega)
  have load := SMap.get_foldl_putIf false (n.val * 131072 + i * 32 + ·) (add_right_injective _)
    (fun e => d.cellBits n.val i (e / 2) (ffBase (e % 2) + 4) 2 = line + 1)
    (fun e => d.ffSrval n.val i (e / 2) (e % 2)) (List.range 32) d.ff (2 * c.val + b.val)
  simp only [mem, true_and, cell, half] at load
  rw [asyncSetReset_eq hh hd ha hs]
  simpa only [ffOf, Nat.add_assoc] using load

end Dev

/-- Settles O13, clause by clause: the writes of FF_CTL and BORDER_CTL through the rules of a region's page, the events
through the equations of their operations, and an edge through what each clocked region writes under keys of its
own. -/
theorem fabricCommands : Obligations.FabricCommands := by
  refine ⟨?reinit, ?pulse, ?contend, ?restore, ?force, ?slip, ?edge, ?async⟩
  case reinit =>
    intro s who n hs ht ha hh hw
    refine State.goes_of_calm (State.live_of_ready hs) rfl ?_ (Dev.calm_of_restSame (Dev.restSame_trans
      (Dev.restSame_written s.dev who _ _ _ (Dev.regAt_ffCtl n)) (Dev.restSame_trans (Dev.restSame_set _ _ _)
      (Dev.restSame_trans (Dev.restSame_set _ _ _) (Dev.restSame_trans (Dev.restSame_cmdStart _ _ _)
      (Dev.restSame_trans (Dev.restSame_touch _ _) (Dev.restSame_reply _ _)))))) (State.calm_of_ready hs))
    rw [Dev.command_reinit s.dev who n ht ha hh hw]
  case pulse =>
    intro s n hl hb hr hh
    obtain ⟨ctl, sts, evt⟩ := Dev.on_reinitPulse hb hr hh
    exact State.runs_of_live hl rfl ⟨ctl, sts, evt, fun k hk => Dev.ff_reinitPulse hb hr hh hk,
      Dev.sliceSt_reinitPulse hb hr hh⟩
  case contend =>
    intro s n t hs hk ht
    have run := Dev.trunkContention_eq hk ht
    refine State.does_of_calm (f := Dev.trunkContention n t) (State.live_of_ready hs) rfl ?_ ?_
    · rw [run]
      exact Dev.calm_of_restSame (Dev.restSame_trunkRecorded ..)
        (Dev.calm_withTrunks _ s.dev.trunkFixed (State.calm_of_ready hs))
    · rw [run]
      exact ⟨rfl, Dev.contend_trunkRecorded .., Dev.lastTrunk_trunkRecorded .., Dev.regsBut_trunkRecorded _ _ _ _,
        Dev.restSame_withTrunkOff _ (Dev.restSame_trunkRecorded ..)⟩
  case restore =>
    intro s n t hs hk hf ht
    have run := Dev.trunkRestore_eq hk hf ht
    refine State.does_of_calm (f := Dev.trunkRestore n t) (State.live_of_ready hs) rfl ?_ ?_
    · rw [run]
      exact Dev.calm_of_restSame (Dev.restSame_trunkCleared ..) (Dev.calm_withTrunks _ _ (State.calm_of_ready hs))
    · rw [run]
      exact ⟨rfl, Dev.clear_trunkCleared .., Dev.regsBut_trunkCleared _ _ _,
        Dev.restSame_withTrunks _ _ (Dev.restSame_trunkCleared ..)⟩
  case force =>
    intro s who n v hs ht
    refine State.goes_of_calm (State.live_of_ready hs) rfl ?_ (Dev.calm_of_restSame (Dev.restSame_trans
      (Dev.restSame_touch _ _) (Dev.restSame_reply _ _)) (Dev.calm_setRgn _ _ (Dev.calm_of_restSame
      (Dev.restSame_writtenField_force s.dev who n v.toNat) (State.calm_of_ready hs))))
    rw [Dev.fieldWrite_force s.dev who n v ht]
  case slip =>
    intro s n c hs hc hw hh hk h0
    exact State.goes_of_calm (State.live_of_ready hs) rfl (Dev.ioSlip_accepted hc hw hh hk h0)
      ((Dev.calm_congr rfl rfl rfl rfl rfl).trans (State.calm_of_ready hs))
  case edge =>
    intro s net falling samples hl hr hd
    refine State.runs_of_live hl rfl ⟨?_, ?_, ?_, ?_⟩
    · rw [Dev.activeClockEdge, if_pos ⟨hr, hd⟩]
    · exact fun n hn k hk => Dev.ff_clockEdge_clocked s.dev net falling samples hn hk
    · exact fun n hn k hk => Dev.borderIn_clockEdge_clocked s.dev net falling samples hn hk
    · exact fun n hn k hk => Dev.ff_clockEdge_stopped s.dev net falling samples hn hk
  case async =>
    intro s n i line hs hh hd ha hsr
    refine State.does_of_calm (State.live_of_ready hs) rfl ?_ ⟨Dev.ffOf_asyncSetReset hh hd ha hsr, ?_⟩
    · rw [Dev.asyncSetReset_eq hh hd ha hsr]
      exact Dev.calm_withFf _ (State.calm_of_ready hs)
    · rw [Dev.asyncSetReset_eq hh hd ha hsr]

end Sys2Proof.Machine
end

section
/-! The arithmetic slices as integers (R170, R171): a value read as signed, a bank that takes a sum, and what a
store puts out. -/

namespace Sys2Proof.Machine

/-- A value read as signed is its residue balanced about zero. -/
theorem signed_eq_bmod {w : Nat} (hw : 0 < w) (v : Nat) : signed w v = (v : Int).bmod (2 ^ w) := by
  have half : (((2 ^ w : Nat) : Int) + 1) / 2 = (2 ^ (w - 1) : Nat) := by
    obtain ⟨k, rfl⟩ := Nat.exists_eq_succ_of_ne_zero hw.ne'
    rw [Nat.succ_sub_one, pow_succ]
    omega
  rw [signed, Int.bmod_def, half]
  norm_cast

namespace Dev

/-! ## A bank (R170) -/

/-- An exact sum leaves the 72-bit range. -/
def pastGuard (x : Int) : Bool := decide (x < -(2 ^ 71)) || decide (2 ^ 71 ≤ x)

theorem pastGuard_iff (x : Int) : pastGuard x = true ↔ x < -(2 ^ 71) ∨ 2 ^ 71 ≤ x := by
  rw [pastGuard, Bool.or_eq_true, decide_eq_true_eq, decide_eq_true_eq]

/-- FIRST loads the sum, with GOV clear. -/
theorem bankAdd_first (b : Bank) (v : Int) : bankAdd b true v = ({ acc := v }, false) := rfl

/-- Without FIRST the bank takes the sum modulo 2^72; one that leaves the range sets a clear GOV. -/
theorem bankAdd_sum (b : Bank) (v : Int) : bankAdd b false v =
    if pastGuard (b.acc + v) && !b.gov then
      ({ acc := (b.acc + v).bmod (2 ^ 72), gov := true, gsign := decide (b.acc + v < 0) }, true)
    else ({ b with acc := (b.acc + v).bmod (2 ^ 72) }, false) := by
  have residue : signed 72 ((b.acc + v) % (2 ^ 72 : Nat)).toNat = (b.acc + v).bmod (2 ^ 72) := by
    rw [signed_eq_bmod (by decide), Int.toNat_of_nonneg (Int.emod_nonneg _ (by decide)), Int.emod_bmod]
  rw [← residue]
  rfl

theorem acc_bankAdd (b : Bank) (v : Int) : (bankAdd b false v).1.acc = (b.acc + v).bmod (2 ^ 72) := by
  rw [bankAdd_sum]
  split <;> rfl

/-- The sum that sets GOV is the one that leaves the range while GOV is clear. -/
theorem bankAdd_sets (b : Bank) (v : Int) : (bankAdd b false v).2 = (pastGuard (b.acc + v) && !b.gov) := by
  rw [bankAdd_sum]
  split
  next sets => exact sets.symm
  next keeps => exact (Bool.eq_false_of_not_eq_true keeps).symm

/-- GOV is set by the sum that sets it, and stays set. -/
theorem gov_bankAdd (b : Bank) (v : Int) : (bankAdd b false v).1.gov = (b.gov || (bankAdd b false v).2) := by
  rw [bankAdd_sum]
  split <;> simp

/-- GSIGN takes the sign of the exact sum. -/
theorem gsign_bankAdd {b : Bank} {v : Int} (h : (bankAdd b false v).2 = true) :
    (bankAdd b false v).1.gsign = decide (b.acc + v < 0) := by
  rw [bankAdd_sets] at h
  rw [bankAdd_sum, if_pos h]

/-! ## A store (R171) -/

/-- The least value of `w` bits. -/
def satLow (w : Nat) : Int := -(2 ^ (w - 1))

/-- The greatest value of `w` bits. -/
def satHigh (w : Nat) : Int := 2 ^ (w - 1) - 1

theorem satLow_le_satHigh (w : Nat) : satLow w ≤ satHigh w := by
  have pos : (0 : Int) < 2 ^ (w - 1) := by positivity
  unfold satLow satHigh
  omega

/-- With GOV set the store puts out the extreme on GSIGN's side, saturated. -/
theorem storeResult_gov (rnd shift w : Nat) {b : Bank} (h : b.gov = true) :
    storeResult rnd shift w b = (if b.gsign then satLow w else satHigh w, true) := by
  simp [storeResult, h, satLow, satHigh]

/-- With GOV clear it puts out the rounded window, clamped, saturated where that changes it. -/
theorem storeResult_clamp (rnd shift w : Nat) {b : Bank} (h : b.gov = false) : storeResult rnd shift w b =
    let r := roundWindow rnd shift b.acc
    let c := if r < satLow w then satLow w else if satHigh w < r then satHigh w else r
    (c, c != r) := by
  simp [storeResult, h, satLow, satHigh]

/-- What a store puts out fits the saturation width. -/
theorem storeResult_fits (rnd shift w : Nat) (b : Bank) :
    satLow w ≤ (storeResult rnd shift w b).1 ∧ (storeResult rnd shift w b).1 ≤ satHigh w := by
  have range := satLow_le_satHigh w
  cases hg : b.gov with
  | true =>
    rw [storeResult_gov _ _ _ hg]
    dsimp only
    split <;> omega
  | false =>
    rw [storeResult_clamp _ _ _ hg]
    dsimp only
    split_ifs <;> omega

end Dev

/-- Settles O16: a bank by the equation of a sum, whose residue is balanced about zero, and a store by its two forms,
with GOV set and with GOV clear. -/
theorem accumulatorAndStore : Obligations.AccumulatorAndStore := by
  refine ⟨fun b v _ _ _ _ => ⟨Dev.bankAdd_first b v, ?residue, ?low, ?high, ?gov, ?sets, fun _ => Dev.gsign_bankAdd⟩,
    fun rnd shift w b _ => ⟨?least, ?most, Dev.storeResult_gov rnd shift w, ?sat⟩⟩
  case residue =>
    rw [Dev.acc_bankAdd]
    exact Int.emod_eq_emod_iff_emod_sub_eq_zero.mp Int.bmod_emod
  case low =>
    rw [Dev.acc_bankAdd]
    exact Int.le_bmod (by decide)
  case high =>
    rw [Dev.acc_bankAdd]
    exact Int.bmod_lt (by decide)
  case gov =>
    rw [Dev.gov_bankAdd, Dev.bankAdd_sets, ← Dev.pastGuard_iff]
    cases b.gov <;> simp
  case sets =>
    rw [Dev.bankAdd_sets, ← Dev.pastGuard_iff, Bool.and_eq_true, Bool.not_eq_true', and_comm]
  case least => exact (Dev.storeResult_fits rnd shift w b).1
  case most => exact Int.lt_of_le_sub_one (Dev.storeResult_fits rnd shift w b).2
  case sat =>
    intro clear
    rw [Dev.storeResult_clamp rnd shift w clear, bne_iff_ne]

end Sys2Proof.Machine
end

section
/-! The commands of a slice (R166, R170, R171, R173, R177 to R179): what each does at an edge that its slice takes, as
an update of that slice's state and of what DSP_LAST records. -/

namespace Sys2Proof.Machine

/-- An entry of a list reads as it was set. -/
theorem getD_set_self {α : Type} {l : List α} {k : Nat} (h : k < l.length) (x dflt : α) :
    (l.set k x).getD k dflt = x := by
  rw [List.getD_eq_getElem?_getD, List.getElem?_set_self h, Option.getD_some]

namespace AgSet

/-! ## Generator sets (R177, R179) -/

theorem advance_linear {g : AgSet} (h : g.mode = 0) :
    g.advance = ({ g with ptr := (g.ptr + g.step) % 65536 }, false) := by
  simp [advance, h]

/-- In a circular mode with no length pending a wrap changes nothing but the pointer. -/
theorem advance_circular {g : AgSet} (hm : g.mode = 1) (hp : g.pend = none) : g.advance =
    ({ g with ptr := (g.base + (((g.offset : Int) + signed 16 g.step) % (g.count : Int)).toNat) % 65536 },
      decide ((g.offset : Int) + signed 16 g.step < 0) ||
        decide ((g.count : Int) ≤ (g.offset : Int) + signed 16 g.step)) := by
  simp [advance, applyPending, hm, hp]

/-- The pointer that lies `y` items past BASE has offset `y`. -/
theorem offset_ptr {g : AgSet} (h : g.base < 65536) (y : Nat) :
    offset { g with ptr := (g.base + y) % 65536 } = y % 65536 := by
  simp only [offset]
  omega

/-- In a circular mode a length waits while the pointer is inside the buffer. -/
theorem takeLen_inside {g : AgSet} (v : Nat) (hm : g.mode = 1) (h : g.offset < g.count) :
    g.takeLen v = { g with pend := some v } := by
  simp [takeLen, hm, h]

end AgSet

namespace Dev

/-! ## After an update of a slice, or of the record of an edge -/

theorem calm_setSlice (d : Dev) (n s : Nat) (x : SliceSt) : (d.setSlice n s x).calm = d.calm :=
  calm_congr rfl rfl rfl rfl rfl

theorem calm_dspStep (d : Dev) (n s : Nat) (e : DspEvent) (hit : Bool) : (dspStep n s e hit d).calm = d.calm :=
  calm_congr rfl rfl rfl rfl rfl

theorem get_dspStep (d : Dev) (n s : Nat) (e : DspEvent) (hit : Bool) (f : Fld) :
    (dspStep n s e hit d).get f = d.get f := rfl

theorem on_dspStep (d : Dev) (n s : Nat) (e : DspEvent) (hit : Bool) (f : Fld) :
    (dspStep n s e hit d).on f = d.on f := rfl

theorem sliceSt_dspStep (d : Dev) (n s : Nat) (e : DspEvent) (hit : Bool) (m t : Nat) :
    (dspStep n s e hit d).sliceSt m t = d.sliceSt m t := rfl

/-- What a command does at an edge that its slice takes. -/
theorem ite_open {o : Bool} (h : o = true) (d e : Dev) : (if !o then d else e) = e := by
  rw [h]
  rfl

/-! ## M5 (R170, R183) -/

/-- A slice whose sums `q` have gone into `banks`: a LAST has its stores wait, or overruns an earlier one (R172). -/
def summed (st : SliceSt) (q : SliceSums) (banks : List Bank) : SliceSt :=
  let st1 := { st with m4 := none, banks := banks }
  if !q.last then st1
  else if st.stores ≠ [] then { st1 with overruns := st1.overruns + 1 }
  else { st1 with stores := q.stores.map (fun b => (b, banks.getD b {})) }

theorem summed_plain {st : SliceSt} {q : SliceSums} (banks : List Bank) (h : q.last = false) :
    summed st q banks = { st with m4 := none, banks := banks } := by
  simp [summed, h]

theorem summed_last {st : SliceSt} {q : SliceSums} (banks : List Bank) (h : q.last = true) (hs : st.stores = []) :
    summed st q banks =
      { st with m4 := none, banks := banks, stores := q.stores.map (fun b => (b, banks.getD b {})) } := by
  simp [summed, h, hs]

theorem banks_summed (st : SliceSt) (q : SliceSums) (banks : List Bank) : (summed st q banks).banks = banks := by
  unfold summed
  dsimp only
  split_ifs <;> rfl

/-- With nothing at M4 no bank changes. -/
theorem accumulate_idle {n s : Nat} {d : Dev} (h : (d.sliceSt n s).m4 = none) : accumulate n s d = d := by
  simp only [accumulate, h]

section
variable {n s k : Nat} {d : Dev} {q : SliceSums} {v : Int} (hm : (d.sliceSt n s).m4 = some q) (hq : q.sums = [(k, v)])
include hm hq

/-- One sum that leaves its bank's GOV as it was. -/
theorem accumulate_keeps (hx : (bankAdd ((d.sliceSt n s).banks.getD k {}) q.first v).2 = false) :
    accumulate n s d = dspStep n s .gov false (d.setSlice n s (summed (d.sliceSt n s) q
      ((d.sliceSt n s).banks.set k (bankAdd ((d.sliceSt n s).banks.getD k {}) q.first v).1))) := by
  simp only [accumulate, hm, hq, List.foldl_cons, List.foldl_nil, hx]
  rfl

/-- One sum that sets GOV: the event is recorded for its bank. -/
theorem accumulate_sets (hx : (bankAdd ((d.sliceSt n s).banks.getD k {}) q.first v).2 = true) :
    accumulate n s d = dspStep n s .gov true (recordGov n s (d.dspLowest n s .gov)
      (d.setSlice n s (summed (d.sliceSt n s) q
        ((d.sliceSt n s).banks.set k (bankAdd ((d.sliceSt n s).banks.getD k {}) q.first v).1))) k) := by
  simp only [accumulate, hm, hq, List.foldl_cons, List.foldl_nil, hx]
  cases d.dspLowest n s .gov <;> rfl

end

theorem recordGov_slice (n s : Nat) (lowest : Bool) (d : Dev) (b : Nat) :
    (recordGov n s lowest d b).slice = d.slice := by
  have counted := (count_slice (d.raise (Reg.DSP_EVT_GOV n)) (Reg.DSP_GOV_CNT_GOV_CNT n) 1).trans (raise_slice ..)
  rw [recordGov]
  split
  · exact (raise_slice ..).trans ((set_slice ..).trans ((set_slice ..).trans counted))
  · exact counted

theorem sliceSt_recordGov (n s : Nat) (lowest : Bool) (d : Dev) (b m t : Nat) :
    (recordGov n s lowest d b).sliceSt m t = d.sliceSt m t := by
  rw [sliceSt, recordGov_slice, ← sliceSt]

section
variable (n : Nat) (s : Fin 48) (d : Dev) (b : Nat)

theorem on_recordGov_evt : (recordGov n s.val true d b).on (Reg.DSP_EVT_GOV n) = true := by
  simp [on, recordGov, raise_eq, count, get_set_off, get_set_self, Reg.DSP_EVT_GOV, Reg.DSP_GOV_CNT_GOV_CNT,
    Reg.DSP_LAST_GOV_SLICE, Reg.DSP_LAST_GOV_BANK, Reg.DSP_LAST_GOV_VALID, Reg.DSP_EVT, Reg.DSP_GOV_CNT, Reg.DSP_LAST]

theorem get_recordGov_slice : (recordGov n s.val true d b).get (Reg.DSP_LAST_GOV_SLICE n) = s.val := by
  have fits : s.val % 64 = s.val := Nat.mod_eq_of_lt (by omega)
  simp [recordGov, raise_eq, get_set_ne, get_set_self, fits, Reg.DSP_LAST_GOV_SLICE, Reg.DSP_LAST_GOV_BANK,
    Reg.DSP_LAST_GOV_VALID]

theorem get_recordGov_bank : (recordGov n s.val true d b).get (Reg.DSP_LAST_GOV_BANK n) = b % 4 := by
  simp [recordGov, raise_eq, get_set_ne, get_set_self, Reg.DSP_LAST_GOV_BANK, Reg.DSP_LAST_GOV_VALID]

theorem on_recordGov_valid : (recordGov n s.val true d b).on (Reg.DSP_LAST_GOV_VALID n) = true := by
  simp [recordGov, on_raise_self, Reg.DSP_LAST_GOV_VALID]

end

/-- A bank whose GOV a sum sets has it set. -/
theorem gov_of_bankAdd_sets {b : Bank} {first : Bool} {v : Int} (h : (bankAdd b first v).2 = true) :
    (bankAdd b first v).1.gov = true := by
  cases first with
  | true => rw [bankAdd_first] at h; cases h
  | false => rw [gov_bankAdd, h, Bool.or_true]

section
variable {n : Region} {s : Fin 48} {ce : Bool} {d : Dev} (ho : d.sliceOpen n s.val ce = true)
include ho

theorem sliceAccumulate_open : sliceAccumulate n s ce d = accumulate n.val s.val d := if_pos ho

/-- What one sum that sets GOV records (R183), in the slice with the lowest number that does at the edge. -/
theorem sliceAccumulate_gov {q : SliceSums} {k : Nat} {v : Int} (hm : (d.sliceSt n.val s.val).m4 = some q)
    (hq : q.sums = [(k, v)]) (hk : k < (d.sliceSt n.val s.val).banks.length)
    (hx : (bankAdd ((d.sliceSt n.val s.val).banks.getD k {}) q.first v).2 = true)
    (hl : d.dspLowest n.val s.val .gov = true) :
    (sliceAccumulate n s ce d).on (Reg.DSP_EVT_GOV n.val) = true ∧
      (sliceAccumulate n s ce d).get (Reg.DSP_LAST_GOV_SLICE n.val) = s.val ∧
      (sliceAccumulate n s ce d).get (Reg.DSP_LAST_GOV_BANK n.val) = k % 4 ∧
      (sliceAccumulate n s ce d).on (Reg.DSP_LAST_GOV_VALID n.val) = true ∧
      (((sliceAccumulate n s ce d).sliceSt n.val s.val).banks.getD k {}).gov = true := by
  rw [sliceAccumulate_open ho, accumulate_sets hm hq hx, hl]
  refine ⟨(on_dspStep ..).trans (on_recordGov_evt ..), (get_dspStep ..).trans (get_recordGov_slice ..),
    (get_dspStep ..).trans (get_recordGov_bank ..), (on_dspStep ..).trans (on_recordGov_valid ..), ?_⟩
  rw [sliceSt_dspStep, sliceSt_recordGov, sliceSt_setSlice_self, banks_summed, getD_set_self hk]
  exact gov_of_bankAdd_sets hx

/-! ## M6 (R171) -/

/-- The next store of the sequence, within the saturation width. -/
theorem sliceStore_next {k : Nat} {bank : Bank} {rest : List (Nat × Bank)}
    (hs : (d.sliceSt n.val s.val).stores = (k, bank) :: rest) (hv : (d.sliceSt n.val s.val).overruns = 0)
    (hx : (storeResult (d.sliceBits n.val s.val 55 2) (d.sliceBits n.val s.val 49 6)
      (satWidth (d.sliceBits n.val s.val 57 3)) bank).2 = false) :
    sliceStore n s ce d = (dspStep n.val s.val .sat false (dspStep n.val s.val .ovr false d)).setSlice n.val s.val
      { d.sliceSt n.val s.val with
        stores := rest
        out := (storeResult (d.sliceBits n.val s.val 55 2) (d.sliceBits n.val s.val 49 6)
          (satWidth (d.sliceBits n.val s.val 57 3)) bank).1
        ovalid := true, obank := k, osat := false, ogov := bank.gov, storedNow := true } := by
  rw [sliceStore, ite_open ho]
  simp only [hs, hv, hx]
  rfl

/-! ## The address generator (R177 to R179) -/

theorem agAdv_open (hw : d.agWaits n.val s.val = false) :
    let st := d.sliceSt n.val s.val
    let g := st.ag.getD (d.agCurrent n.val s.val) {}
    agAdv n s ce d = d.setSlice n.val s.val { st with
      ag := st.ag.set (d.agCurrent n.val s.val) g.advance.1
      agWrap := g.advance.2
      wrapNow := if g.advance.2 then some (d.agCurrent n.val s.val, (AgSet.advance { g with pend := none }).1.ptr)
        else none } := by
  simp [agAdv, ho, hw]

end

end Dev

/-- Settles O15, each clause by the equation of its command at an edge that the slice takes; what they write leaves
nothing to settle. -/
theorem sliceCommands : Obligations.SliceCommands := by
  refine ⟨?operands, ?sum, ?last, ?gov, ?store, ?switch, ?linear, ?circular, ?write, ?length, ?apply⟩
  case operands =>
    intro s n i ce x hs ho hm
    refine State.does_of_calm (State.live_of_ready hs) rfl ?_ ?_ <;>
      rw [Dev.sliceOperandSet, Dev.ite_open ho, Dev.accumulate_idle hm]
    · exact (Dev.calm_setSlice ..).trans (State.calm_of_ready hs)
    · dsimp only
      rw [Dev.sliceSt_setSlice_self]
      refine ⟨⟨_, rfl, ?_⟩, rfl, rfl, rfl, rfl, rfl, rfl, rfl, rfl⟩
      simp only [and_self]
  case sum =>
    intro s n i ce q k v hs ho hm hq hl hx
    refine State.goes_of_calm (State.live_of_ready hs) rfl ?_ (((Dev.calm_dspStep ..).trans
      (Dev.calm_setSlice ..)).trans (State.calm_of_ready hs))
    rw [Dev.sliceAccumulate_open ho, Dev.accumulate_keeps hm hq hx, Dev.summed_plain _ hl]
  case last =>
    intro s n i ce q k v hs ho hm hq hl hb hw hk hx
    refine State.goes_of_calm (State.live_of_ready hs) rfl ?_ (((Dev.calm_dspStep ..).trans
      (Dev.calm_setSlice ..)).trans (State.calm_of_ready hs))
    rw [Dev.sliceAccumulate_open ho, Dev.accumulate_keeps hm hq hx, Dev.summed_last _ hl hw, hb, List.map_singleton,
      getD_set_self hk]
  case gov =>
    intro s n i ce q k v hl ho hm hq hk hx hd
    exact State.runs_of_live hl rfl (Dev.sliceAccumulate_gov ho hm hq hk hx hd)
  case store =>
    intro s n i ce k bank rest hs ho hr hv hx
    exact State.goes_of_calm (State.live_of_ready hs) rfl (Dev.sliceStore_next ho hr hv hx)
      ((Dev.calm_setSlice ..).trans ((Dev.calm_dspStep ..).trans ((Dev.calm_dspStep ..).trans
        (State.calm_of_ready hs))))
  case switch =>
    intro s n i ce bsel hs ho
    exact State.goes_of_calm (State.live_of_ready hs) rfl (Dev.ite_open ho _ _)
      ((Dev.calm_setSlice ..).trans (State.calm_of_ready hs))
  case linear =>
    intro s n i ce hs ho hw hm
    refine State.goes_of_calm (State.live_of_ready hs) rfl ?_
      ((Dev.calm_setSlice ..).trans (State.calm_of_ready hs))
    rw [Dev.agAdv_open ho hw, AgSet.advance_linear hm]
    rfl
  case circular =>
    intro s n i ce g hs ho hw hg hm hp hb hk
    refine State.does_of_calm (State.live_of_ready hs) rfl ?_ ?_ <;>
      rw [Dev.agAdv_open ho hw, hg, AgSet.advance_circular hm hp]
    · exact (Dev.calm_setSlice ..).trans (State.calm_of_ready hs)
    · dsimp only
      rw [Dev.sliceSt_setSlice_self, getD_set_self hk]
      exact ⟨AgSet.offset_ptr hb _, rfl⟩
  case write =>
    intro s n i ce k reg x hs ho hr
    refine State.goes_of_calm (State.live_of_ready hs) rfl ((Dev.ite_open ho _ _).trans ?_)
      ((Dev.calm_setSlice ..).trans (State.calm_of_ready hs))
    match reg, hr with
    | 0, _ => rfl
    | 1, hr => exact absurd rfl hr
    | 2, _ => rfl
    | 3, _ => rfl
  case length =>
    intro s n i ce k x hs ho hm hi hw
    refine State.goes_of_calm (State.live_of_ready hs) rfl ((Dev.ite_open ho _ _).trans ?_)
      ((Dev.calm_setSlice ..).trans (State.calm_of_ready hs))
    rw [← AgSet.takeLen_inside _ hm hi]
    simp only [hw]
    rfl
  case apply =>
    intro s n i ce hs ho
    exact State.goes_of_calm (State.live_of_ready hs) rfl (Dev.ite_open ho _ _)
      ((Dev.calm_setSlice ..).trans (State.calm_of_ready hs))

end Sys2Proof.Machine
end

section
/-! The registers of the fabric clocks (R199, R200, R202): what a write of FS_CTL and of GCK_SEL is followed by, and the
parts of the device that hold the synthesizers and the buffers. -/

namespace Sys2Proof.Machine

namespace State

/-- A command that is answered, on a device with nothing to settle afterwards, to a device as `P` says. -/
theorem does_of_order {i : Instr} {s : State} {f : Dev → Dev × Code} {P : Dev → Prop} {e : Dev} {c : Code}
    (hs : s.ready = true) (hi : exec i s = s.order f) (hf : f s.dev = (e, c)) (hc : e.calm = true)
    (hp : P (e.reply c)) : s.does i P := by
  refine does_of_calm (f := fun d => let r := f d; r.1.reply r.2) (live_of_ready hs) hi ?_ ?_
  · rw [hf]
    exact Dev.calm_of_restSame (Dev.restSame_reply e c) hc
  · rw [hf]
    exact hp

end State

namespace Dev

/-! ## Synthesizers and buffers -/

@[simp] theorem fsSt_setFs_self (d : Dev) (y : Nat) (x : FsSt) : (d.setFs y x).fsSt y = x := SMap.get_put_self ..

theorem fsSt_setFs_ne (d : Dev) {y z : Nat} (x : FsSt) (h : z ≠ y) : (d.setFs y x).fsSt z = d.fsSt z :=
  SMap.get_put_ne _ _ _ _ h

@[simp] theorem gckSt_setGck_self (d : Dev) (g : Nat) (x : GckSt) : (d.setGck g x).gckSt g = x :=
  SMap.get_put_self ..

theorem gckSt_setGck_ne (d : Dev) {g h : Nat} (x : GckSt) (hh : h ≠ g) : (d.setGck g x).gckSt h = d.gckSt h :=
  SMap.get_put_ne _ _ _ _ hh

@[simp] theorem fsSt_set (d : Dev) (f : Fld) (v y : Nat) : (d.set f v).fsSt y = d.fsSt y := (rfl)

@[simp] theorem gckSt_set (d : Dev) (f : Fld) (v g : Nat) : (d.set f v).gckSt g = d.gckSt g := (rfl)

@[simp] theorem gckSt_reply (d : Dev) (c : Code) (g : Nat) : (d.reply c).gckSt g = d.gckSt g := (rfl)

@[simp] theorem touch_fs (d : Dev) (ix : Nat) : (d.touch ix).fs = d.fs := by unfold touch; split <;> rfl

@[simp] theorem touch_gck (d : Dev) (ix : Nat) : (d.touch ix).gck = d.gck := by unfold touch; split <;> rfl

@[simp] theorem fsSt_touch (d : Dev) (ix y : Nat) : (d.touch ix).fsSt y = d.fsSt y := by simp [fsSt]

@[simp] theorem gckSt_touch (d : Dev) (ix g : Nat) : (d.touch ix).gckSt g = d.gckSt g := by simp [gckSt]

theorem fs_of_restSame {d e : Dev} (h : d.restSame e) : e.fs = d.fs := by
  unfold restSame at h
  exact (congrArg Dev.fs h :)

theorem gck_of_restSame {d e : Dev} (h : d.restSame e) : e.gck = d.gck := by
  unfold restSame at h
  exact (congrArg Dev.gck h :)

theorem fsSt_of_restSame {d e : Dev} (h : d.restSame e) (y : Nat) : e.fsSt y = d.fsSt y := by
  rw [fsSt, fsSt, fs_of_restSame h]

theorem gckSt_of_restSame {d e : Dev} (h : d.restSame e) (g : Nat) : e.gckSt g = d.gckSt g := by
  rw [gckSt, gckSt, gck_of_restSame h]

/-- The synthesizers apart, what a register write leaves stays. -/
theorem restSame_withFs {d e : Dev} (h : d.restSame e) : d.restSame { e with fs := d.fs } := by
  unfold restSame at *
  exact (congrArg (fun a : Dev => { a with fs := d.fs }) h :)

/-- The buffers apart, what a register write leaves stays. -/
theorem restSame_withGck {d e : Dev} (h : d.restSame e) : d.restSame { e with gck := d.gck } := by
  unfold restSame at *
  exact (congrArg (fun a : Dev => { a with gck := d.gck }) h :)

/-- A change of the synthesizers among register writes. -/
theorem restSame_fs_between {d f e : Dev} {m : SMap FsSt} (before : d.restSame f)
    (after : ({ f with fs := m } : Dev).restSame e) : d.restSame { e with fs := d.fs } := by
  refine restSame_trans (restSame_withFs before) ?_
  unfold restSame at *
  exact (congrArg (fun a : Dev => { a with fs := d.fs }) after :)

theorem restSame_setFs {d f e : Dev} {y : Nat} {x : FsSt} (before : d.restSame f)
    (after : (f.setFs y x).restSame e) : d.restSame { e with fs := d.fs } :=
  restSame_fs_between (m := SMap.put {} f.fs y x) before after

/-- A change of the buffers among register writes. -/
theorem restSame_setGck {d f e : Dev} {g : Nat} {x : GckSt} (before : d.restSame f)
    (after : (f.setGck g x).restSame e) : d.restSame { e with gck := d.gck } := by
  refine restSame_trans (restSame_withGck before) ?_
  unfold restSame at *
  exact (congrArg (fun a : Dev => { a with gck := d.gck }) after :)

/-- A device whose registers and clocks alone have changed has nothing more to settle. -/
theorem calm_of_restSame_clocks {d e : Dev} (m : SMap FsSt) (n : SMap GckSt)
    (h : d.restSame { e with fs := m, gck := n }) (hc : d.calm = true) : e.calm = true :=
  have same : e.calm = ({ e with fs := m, gck := n } : Dev).calm := calm_congr rfl rfl rfl rfl rfl
  same.trans (calm_of_restSame h hc)

theorem calm_of_restSame_fs {d e : Dev} (h : d.restSame { e with fs := d.fs }) (hc : d.calm = true) :
    e.calm = true := calm_of_restSame_clocks d.fs e.gck h hc

theorem calm_of_restSame_gck {d e : Dev} (h : d.restSame { e with gck := d.gck }) (hc : d.calm = true) :
    e.calm = true := calm_of_restSame_clocks e.fs d.gck h hc

/-! ## What a write leaves of a block's safe state -/

@[simp] theorem keepWord_parityFailed (d : Dev) (off : Nat) : (d.keepWord off).parityFailed = d.parityFailed := by
  unfold keepWord; split <;> rfl

@[simp] theorem plainWrite_parityFailed (d : Dev) (r : RegDef) (off : Nat) (x : Word) :
    (d.plainWrite r off x).parityFailed = d.parityFailed := by
  unfold plainWrite; split <;> rfl

@[simp] theorem unlocked_parityFailed (d : Dev) (who : Who) (off : Nat) (x : Word) :
    (d.unlocked who off x).parityFailed = d.parityFailed := by
  unfold unlocked; split <;> rfl

/-- A write that is taken ends the faults of its register (R90). -/
theorem parityFailed_written (d : Dev) (who : Who) {off : Nat} (x : Word) {r : RegDef} (hr : regAt off = some r) :
    (d.written who off x).parityFailed = d.parityFailed.filter (fun o => !(o == off)) := by
  rw [written_eq d who off x r hr]
  exact congrArg (List.filter _) (by rw [plainWrite_parityFailed, keepWord_parityFailed, unlocked_parityFailed])

/-- A write that is taken brings no block into its safe state (R90). -/
theorem safe_written {d : Dev} (who : Who) {off : Nat} (x : Word) {r : RegDef} (hr : regAt off = some r) {o : Nat}
    (h : d.safe o = false) : (d.written who off x).safe o = false := by
  simp only [safe, List.any_eq_false] at h ⊢
  rw [parityFailed_written d who x hr]
  exact fun a ha => h a (List.mem_of_mem_filter ha)

/-- A block that is not in its safe state uses what its registers hold (R207). -/
theorem inForce_of_unsafe {d : Dev} {off : Nat} (h : d.safe off = false) : d.inForce off = d.word off :=
  if_neg (by simp [h])

/-! ## The CLOCK block -/

/-- No register of the CLOCK block is one of those whose writes the model treats apart. -/
theorem clockBlock_ne {off : Nat} (h : 0x10000 ≤ off ∧ off < 0x20000) : off ≠ Reg.UNLOCK_KEY
    ∧ ¬(Reg.PATCH_ADDR 0 ≤ off ∧ off < Reg.PATCH_ADDR 16)
    ∧ off ≠ Reg.PWR_CTL ∧ off ≠ Reg.CFG_CTL ∧ off ≠ Reg.NOC_CTL := by
  simp only [Reg.UNLOCK_KEY, Reg.PATCH_ADDR, Reg.PWR_CTL, Reg.CFG_CTL, Reg.NOC_CTL]
  omega

/-- In the CLOCK block GCK_SEL and FS_CTL alone have more to do after a write (R200, R202). -/
theorem csrHook_clockBlock {off : Nat} (h : 0x10000 ≤ off ∧ off < 0x20000) (old : Word) (lvl was : Bool) (d : Dev) :
    csrHook off old lvl was d =
      if Reg.GCK_SEL 0 ≤ off ∧ off < Reg.GCK_SEL 32 then
        if d.safe off then d else gckWritten ((off - Reg.GCK_SEL 0) / 4) (fieldOf old 0 7) d
      else if Reg.FS_CTL 0 ≤ off ∧ off < Reg.FS_CTL 16 then
        if off % 0x10 = 0 ∧ !d.safe off then outEnWritten ((off - Reg.FS_CTL 0) / 0x10) d else d
      else d := by
  have lane : laneAt off = none := by
    rw [laneAt, if_neg (by omega), if_neg (by omega), if_neg (by omega)]
  have block : off / 0x10000 = 1 := by omega
  have other : off ≠ Reg.PWR_CTL ∧ off ≠ Reg.PWR_VINT ∧ ¬(Reg.DOM_CTL 0 ≤ off ∧ off < Reg.DOM_CTL 256) := by
    simp only [Reg.PWR_CTL, Reg.PWR_VINT, Reg.DOM_CTL]
    omega
  simp [csrHook, lane, block, hookLow, other]

/-- In the CLOCK block FS_CTL alone has a command. -/
theorem cmdsAt_clockBlock (co : Nat) {off : Nat} (h : 0x10000 ≤ off ∧ off < 0x20000) :
    cmdsAt co off = if Reg.FS_CTL 0 ≤ off ∧ off < Reg.FS_CTL 16 then
      [{ lsb := 1, eff := fun _ => applyEff (Fin.ofNat 16 ((off - Reg.FS_CTL 0) / 0x10)) }] else [] := by
  have block : off / 0x10000 = 1 := by omega
  have other : off ≠ Reg.SNAP_CTL ∧ off ≠ Reg.RST_CTL ∧ off ≠ Reg.CFG_CTL ∧ off ≠ Reg.SCRUB_CTL
      ∧ ¬(Reg.DOM_CTL 0 ≤ off ∧ off < Reg.DOM_CTL 256) := by
    simp only [Reg.SNAP_CTL, Reg.RST_CTL, Reg.CFG_CTL, Reg.SCRUB_CTL, Reg.DOM_CTL]
    omega
  simp [cmdsAt, block, cmdsLow, other]

/-! ## FS_CTL -/

/-- FS_CTL holds APPLY, OUT_EN, SRC and SRC_SEL (R199, R200). -/
def fsCtl : RegDef := ⟨0x10100, 16, 0x10, 1, 0x0, 0x2110, 1, 0,
   [⟨1, 1, .cmd, true, 0, [], false⟩, ⟨2, 4, .ctl, false, 0, [], false⟩, ⟨6, 2, .ctl, true, 3, [], false⟩,
    ⟨8, 8, .ctl, true, 0, [(0, 135)], false⟩]⟩

theorem regAt_fsCtl (y : Fin 16) : regAt (Reg.FS_CTL y.val) = some fsCtl := by
  revert y
  decide

theorem fifoAt_fsCtl (y : Fin 16) : fifoAt (Reg.FS_CTL y.val) = none := by
  revert y
  decide

theorem otherHalf_fsCtl (y : Fin 16) : otherHalf (Reg.FS_CTL y.val) = none := by
  revert y
  decide

theorem fsCtl_mem_block (y : Fin 16) : 0x10000 ≤ Reg.FS_CTL y.val ∧ Reg.FS_CTL y.val < 0x20000 := by
  simp only [Reg.FS_CTL]
  omega

theorem fsCtl_mem_array (y : Fin 16) : Reg.FS_CTL 0 ≤ Reg.FS_CTL y.val ∧ Reg.FS_CTL y.val < Reg.FS_CTL 16 := by
  simp only [Reg.FS_CTL]
  omega

theorem fsCtl_place (y : Fin 16) : (Reg.FS_CTL y.val - Reg.FS_CTL 0) / 0x10 = y.val := by
  simp only [Reg.FS_CTL]
  omega

/-- A write of FS_CTL is followed by what OUT_EN asks for, but in the block's safe state (R200, R207). -/
theorem csrHook_fsCtl (y : Fin 16) (old : Word) (lvl was : Bool) (d : Dev) :
    csrHook (Reg.FS_CTL y.val) old lvl was d =
      if d.safe (Reg.FS_CTL y.val) then d else outEnWritten y.val d := by
  have buffer : ¬(Reg.GCK_SEL 0 ≤ Reg.FS_CTL y.val ∧ Reg.FS_CTL y.val < Reg.GCK_SEL 32) := by
    simp only [Reg.FS_CTL, Reg.GCK_SEL]
    omega
  have aligned : Reg.FS_CTL y.val % 0x10 = 0 := by
    simp only [Reg.FS_CTL]
    omega
  rw [csrHook_clockBlock (fsCtl_mem_block y), if_neg buffer, if_pos (fsCtl_mem_array y), fsCtl_place]
  cases d.safe (Reg.FS_CTL y.val) <;> simp [aligned]

theorem presented_apply (co : Nat) (y : Fin 16) (x : Word) :
    presented co (Reg.FS_CTL y.val) (withField x 1 1 1) = [{ lsb := 1, eff := fun _ => applyEff y }] := by
  rw [presented, cmdsAt_clockBlock co (fsCtl_mem_block y), if_pos (fsCtl_mem_array y), fsCtl_place,
    List.filter_cons_of_pos (by simp [fieldOf_withField_self]), List.filter_nil, Fin.ofNat_val_eq_self]

/-- A write of APPLY alone leaves FS_CTL as it was. -/
theorem written_fsCtl_apply (x : Word) : fsCtl.written x (withField x 1 1 1) = x := by
  simp [RegDef.written, fsCtl, fieldOf_withField_ne, withField_fieldOf]

/-- A write of what FS_CTL holds leaves it as it was. -/
theorem written_fsCtl_self (x : Word) : fsCtl.written x x = x := by
  simp [RegDef.written, fsCtl, withField_fieldOf]

/-- OUT_EN acts on the outputs of its synthesizer alone (R200). -/
theorem outEnWritten_eq (y : Nat) (d : Dev) :
    outEnWritten y d = { d with fs := (outEnWritten y d).fs } := by
  unfold outEnWritten
  split <;> rfl

theorem measuring_outEnWritten (y : Nat) (d : Dev) :
    ((outEnWritten y d).fsSt y).measuring = (d.fsSt y).measuring := by
  unfold outEnWritten
  split
  · rw [fsSt_setFs_self]
  · rfl

end Dev
end Sys2Proof.Machine
end

section
/-! The fabric clock synthesizers (R199 to R201, R206): APPLY and its measurement, the lock, the loss of lock and the
buffers that follow it, the return of the input, and OUT_EN. -/

namespace Sys2Proof.Machine
namespace Dev

/-! ## APPLY (R200) -/

/-- The measurement of synthesizer `y` starts with its staged settings. -/
def applyStart (d : Dev) (y : Nat) : Dev :=
  (d.setFs y { d.fsSt y with
    measuring := some (d.word (Reg.FS_CTL y), d.word (Reg.FS_DIV y), d.word (Reg.FS_ODIV y)) }).raise
      (Reg.FS_STS_APPLY_BUSY y)

theorem applyEff_idle {y : Fin 16} {d : Dev} (h : d.on (Reg.FS_STS_APPLY_BUSY y.val) = false) :
    applyEff y d = (d.applyStart y.val, .ok) := if_neg (by simp [h])

theorem applyEff_busy {y : Fin 16} {d : Dev} (h : d.on (Reg.FS_STS_APPLY_BUSY y.val) = true) :
    applyEff y d = (d, .busy) := if_pos h

/-- A write of APPLY that is taken changes no register before the command acts. -/
theorem word_writtenCmd_apply (d : Dev) (who : Who) (y : Fin 16) (o : Nat) :
    (d.writtenCmd who (Reg.FS_CTL_APPLY y.val)).word o = d.word o := by
  by_cases ho : o = Reg.FS_CTL y.val
  · rw [ho, writtenCmd]
    exact (word_written_self d who _ (regAt_fsCtl y)).trans (written_fsCtl_apply _)
  · exact word_written_ne d who _ (regAt_fsCtl y) (otherHalf_fsCtl y) ho

/-- The hook of FS_CTL changes the synthesizers alone, and no measurement. -/
theorem csrHook_fsCtl_keeps (y : Fin 16) (old : Word) (lvl was : Bool) (d : Dev) :
    ∃ m, csrHook (Reg.FS_CTL y.val) old lvl was d = { d with fs := m }
      ∧ (SMap.get {} m y.val).measuring = (d.fsSt y.val).measuring := by
  rw [csrHook_fsCtl]
  split
  · exact ⟨d.fs, rfl, rfl⟩
  · exact ⟨_, outEnWritten_eq y.val d, measuring_outEnWritten y.val d⟩

theorem word_applyStart_ne (d : Dev) {y o : Nat} (h : o ≠ Reg.FS_STS y) : (d.applyStart y).word o = d.word o := by
  rw [applyStart, raise_eq, word_set_ne _ _ _ h, word_setFs]

theorem restSame_writtenCmd_apply (d : Dev) (who : Who) (y : Fin 16) :
    d.restSame (d.writtenCmd who (Reg.FS_CTL_APPLY y.val)) := restSame_written d who _ _ _ (regAt_fsCtl y)

/-- A write of APPLY that is taken, while no measurement runs. -/
theorem command_apply_idle {d : Dev} {who : Who} {y : Fin 16} (h : d.takes who (Reg.FS_CTL_APPLY y.val) = true)
    (hb : d.on (Reg.FS_STS_APPLY_BUSY y.val) = false) : ∃ e, d.command who (Reg.FS_CTL_APPLY y.val) = (e, .ok)
      ∧ e.on (Reg.FS_STS_APPLY_BUSY y.val) = true
      ∧ (e.fsSt y.val).measuring =
          some (d.word (Reg.FS_CTL y.val), d.word (Reg.FS_DIV y.val), d.word (Reg.FS_ODIV y.val))
      ∧ d.regsBut [Reg.FS_CTL y.val, Reg.FS_STS y.val] e ∧ d.restSame { e with fs := d.fs } := by
  simp only [takes, takesCmd, Bool.and_eq_true] at h
  have word := word_writtenCmd_apply d who y
  have idle : applyEff y (d.writtenCmd who (Reg.FS_CTL_APPLY y.val)) = _ :=
    applyEff_idle (by simpa only [on, get, word] using hb)
  obtain ⟨hu, hq, hp, h1, h2⟩ := clockBlock_ne (fsCtl_mem_block y)
  have run := csrWriteCo_of_cmd d _ 0 who (Reg.FS_CTL y.val) _ _ _ h.1 (presented_apply 0 y _) (regAt_fsCtl y)
    (fifoAt_fsCtl y) hu hq hp h1 h2 idle
  obtain ⟨m, hook, measuring⟩ := csrHook_fsCtl_keeps y (d.word (Reg.FS_CTL y.val)) false d.packOn
    ((d.writtenCmd who (Reg.FS_CTL_APPLY y.val)).applyStart y.val)
  rw [hook] at run
  refine ⟨_, run, ?_, ?_, ?_, ?_⟩
  · rw [on_touch]
    exact on_raise_self _ _ (by decide : 1 + 1 ≤ 32) (by decide : 0 < 1)
  · rw [fsSt_touch]
    refine measuring.trans ?_
    rw [applyStart, raise_eq, fsSt_set, fsSt_setFs_self, word, word, word]
  · intro o ho
    simp only [List.mem_cons, List.not_mem_nil, or_false, not_or] at ho
    rw [word_touch]
    exact (word_applyStart_ne _ ho.2).trans (word o)
  · have start : d.restSame { (d.writtenCmd who (Reg.FS_CTL_APPLY y.val)).applyStart y.val with fs := d.fs } :=
      restSame_setFs (restSame_writtenCmd_apply d who y) (restSame_set ..)
    exact restSame_fs_between start (restSame_touch ..)

theorem writtenCmd_apply_eq (d : Dev) (who : Who) (y : Fin 16) : d.writtenCmd who (Reg.FS_CTL_APPLY y.val) =
    ((((d.unlocked who (Reg.FS_CTL y.val) (withField (d.word (Reg.FS_CTL y.val)) 1 1 1)).keepWord
      (Reg.FS_CTL y.val)).plainWrite fsCtl (Reg.FS_CTL y.val) (withField (d.word (Reg.FS_CTL y.val)) 1 1 1)).parityClear
      (Reg.FS_CTL y.val)) := written_eq d who _ _ _ (regAt_fsCtl y)

/-- A write of APPLY that is taken, while a measurement runs, changes no register (R70). -/
theorem command_apply_busy {d : Dev} {who : Who} {y : Fin 16} (h : d.takes who (Reg.FS_CTL_APPLY y.val) = true)
    (hb : d.on (Reg.FS_STS_APPLY_BUSY y.val) = true) :
    ∃ e, d.command who (Reg.FS_CTL_APPLY y.val) = (e, .busy) ∧ (∀ o, e.word o = d.word o) ∧ d.restSame e := by
  simp only [takes, takesCmd, Bool.and_eq_true] at h
  have word := word_writtenCmd_apply d who y
  have busy : applyEff y (d.writtenCmd who (Reg.FS_CTL_APPLY y.val)) = (_, .busy) :=
    applyEff_busy (by simpa only [on, get, word] using hb)
  obtain ⟨hu, hq, -, -, -⟩ := clockBlock_ne (fsCtl_mem_block y)
  have same := restSame_writtenCmd_apply d who y
  rw [writtenCmd_apply_eq] at busy word same
  have store := csrStore_of_refused _ _ 0 who _ _ _ .busy _ (presented_apply 0 y _) (regAt_fsCtl y) (fifoAt_fsCtl y)
    hu hq (by decide) busy
  refine ⟨_, csrWriteCo_of_refused h.1 store (by decide), fun o => ?_, restSame_trans same (restSame_refused ..)⟩
  rw [word_refused]
  by_cases ho : o = Reg.FS_CTL y.val
  · rw [ho, word_putWord_self, word_unlocked]
    exact (congrArg (fsCtl.written · _) (word _)).trans (written_fsCtl_self _)
  · rw [word_putWord_ne _ _ ho]
    exact word o

/-! ## OUT_EN (R200) -/

theorem outEn_mem : (⟨2, 4, .ctl, false, 0, [], false⟩ : FieldDef) ∈ fsCtl.fields := by decide

/-- A write of OUT_EN that is taken is what FS_CTL then holds (R81). -/
theorem get_writtenField_outEn (d : Dev) (who : Who) (y : Fin 16) (v : BitVec 4) :
    (d.writtenField who (Reg.FS_CTL_OUT_EN y.val) v.toNat).get (Reg.FS_CTL_OUT_EN y.val) = v.toNat := by
  have apart := laidOut_of_mem (mem_blockRegs_of_regAt (regAt_fsCtl y))
  calc (d.writtenField who (Reg.FS_CTL_OUT_EN y.val) v.toNat).get (Reg.FS_CTL_OUT_EN y.val)
      = fieldOf (fsCtl.written (d.word (Reg.FS_CTL y.val))
          (withField (d.word (Reg.FS_CTL y.val)) 2 4 v.toNat)) 2 4 :=
        congrArg (fieldOf · 2 4) (word_written_self d who _ (regAt_fsCtl y))
    _ = fieldOf (withField (d.word (Reg.FS_CTL y.val)) 2 4 v.toNat) 2 4 :=
        RegDef.fieldOf_written_ctl apart outEn_mem _ _ rfl
    _ = v.toNat := (fieldOf_withField_self _ _ (by decide)).trans (Nat.mod_eq_of_lt v.isLt)

theorem on_lock_writtenField_outEn (d : Dev) (who : Who) (y : Fin 16) (v : Nat) :
    (d.writtenField who (Reg.FS_CTL_OUT_EN y.val) v).on (Reg.FS_STS_LOCK y.val) = d.on (Reg.FS_STS_LOCK y.val) := by
  have apart : Reg.FS_STS y.val ≠ Reg.FS_CTL y.val := by simp only [Reg.FS_STS, Reg.FS_CTL]; omega
  have word := word_written_ne d who (withField (d.word (Reg.FS_CTL y.val)) 2 4 v) (regAt_fsCtl y)
    (otherHalf_fsCtl y) apart
  exact congrArg (fun x => fieldOf x 0 1 != 0) word

/-- The outputs of a locked synthesizer are those that OUT_EN enables. -/
theorem outEnWritten_locked {d : Dev} {y : Nat} (hl : d.on (Reg.FS_STS_LOCK y) = true)
    (hs : d.safe (Reg.FS_CTL y) = false) :
    outEnWritten y d = d.setFs y { d.fsSt y with running := d.get (Reg.FS_CTL_OUT_EN y) } := by
  rw [outEnWritten, if_pos hl, outEn, inForce_of_unsafe hs]
  rfl

theorem outEnWritten_unlocked {d : Dev} {y : Nat} (hl : d.on (Reg.FS_STS_LOCK y) = false) :
    outEnWritten y d = d := if_neg (by simp [hl])

theorem regsBut_writtenField_outEn (d : Dev) (who : Who) (y : Fin 16) (v : Nat) :
    d.regsBut [Reg.FS_CTL y.val] (d.writtenField who (Reg.FS_CTL_OUT_EN y.val) v) := fun _ ho =>
  word_written_ne d who _ (regAt_fsCtl y) (otherHalf_fsCtl y) (List.mem_singleton.not.mp ho)

theorem restSame_writtenField_outEn (d : Dev) (who : Who) (y : Fin 16) (v : Nat) :
    d.restSame (d.writtenField who (Reg.FS_CTL_OUT_EN y.val) v) := restSame_written d who _ _ _ (regAt_fsCtl y)

section
variable {d : Dev} {who : Who} {y : Fin 16} {v : BitVec 4}
  (h : d.takesField who (Reg.FS_CTL_OUT_EN y.val) v.toNat = true) (hs : d.safe (Reg.FS_CTL y.val) = false)
include h hs

/-- A write of OUT_EN that is taken, out of the block's safe state. -/
theorem fieldWrite_outEn : ∃ ix, d.fieldWrite who (Reg.FS_CTL_OUT_EN y.val) v.toNat =
    ((outEnWritten y.val (d.writtenField who (Reg.FS_CTL_OUT_EN y.val) v.toNat)).touch ix, .ok) := by
  simp only [takesField, Bool.and_eq_true, beq_iff_eq] at h
  obtain ⟨taken, plain⟩ := h
  obtain ⟨hu, hq, hp, h1, h2⟩ := clockBlock_ne (fsCtl_mem_block y)
  have run := csrWriteCo_of_plain d 0 who (Reg.FS_CTL y.val) (withField (d.word (Reg.FS_CTL y.val)) 2 4 v.toNat) _
    taken (List.map_eq_nil_iff.mp plain) (regAt_fsCtl y) (fifoAt_fsCtl y) hu hq hp h1 h2
  have safe := safe_written who (withField (d.word (Reg.FS_CTL y.val)) 2 4 v.toNat) (regAt_fsCtl y) hs
  rw [csrHook_fsCtl, if_neg (by simp [safe])] at run
  exact ⟨_, run⟩

/-- A write of OUT_EN starts and stops the outputs of a locked synthesizer. -/
theorem fieldWrite_outEn_locked (hl : d.on (Reg.FS_STS_LOCK y.val) = true) :
    ∃ e, d.fieldWrite who (Reg.FS_CTL_OUT_EN y.val) v.toNat = (e, .ok) ∧ e.get (Reg.FS_CTL_OUT_EN y.val) = v.toNat
      ∧ e.fsSt y.val = { d.fsSt y.val with running := v.toNat } ∧ d.regsBut [Reg.FS_CTL y.val] e
      ∧ d.restSame { e with fs := d.fs } := by
  obtain ⟨ix, run⟩ := fieldWrite_outEn h hs
  have same := restSame_writtenField_outEn d who y v.toNat
  rw [outEnWritten_locked ((on_lock_writtenField_outEn ..).trans hl) (safe_written who _ (regAt_fsCtl y) hs),
    get_writtenField_outEn, fsSt_of_restSame same] at run
  refine ⟨_, run, ?_, ?_, fun o ho => ?_, restSame_setFs same (restSame_touch ..)⟩
  · rw [get_touch, get_setFs, get_writtenField_outEn]
  · rw [fsSt_touch, fsSt_setFs_self]
  · rw [word_touch, word_setFs, regsBut_writtenField_outEn d who y v.toNat o ho]

/-- A write of OUT_EN leaves a synthesizer that is not locked. -/
theorem fieldWrite_outEn_unlocked (hl : d.on (Reg.FS_STS_LOCK y.val) = false) :
    ∃ e, d.fieldWrite who (Reg.FS_CTL_OUT_EN y.val) v.toNat = (e, .ok) ∧ e.get (Reg.FS_CTL_OUT_EN y.val) = v.toNat
      ∧ d.regsBut [Reg.FS_CTL y.val] e ∧ d.restSame e := by
  obtain ⟨ix, run⟩ := fieldWrite_outEn h hs
  rw [outEnWritten_unlocked ((on_lock_writtenField_outEn ..).trans hl)] at run
  refine ⟨_, run, ?_, fun o ho => ?_, restSame_trans (restSame_writtenField_outEn ..) (restSame_touch ..)⟩
  · rw [get_touch, get_writtenField_outEn]
  · rw [word_touch, regsBut_writtenField_outEn d who y v.toNat o ho]

end

/-! ## The measurement (R199, R200) -/

/-- What FS_STS shows of the input that the measurement has found. -/
def showInput (d : Dev) (y mhz : Nat) (present : Bool) : Dev :=
  (d.set (Reg.FS_STS_IN_MHZ y) mhz).setBit (Reg.FS_STS_SRC_PRESENT y) present

/-- The settings break a limit: the APPLY ends with APPLY_ERR. -/
def applyRefuse (d : Dev) (y : Nat) : Dev :=
  (((d.setFs y { d.fsSt y with measuring := none }).raise (Reg.FS_STS_APPLY_ERR y)).clear
    (Reg.FS_STS_APPLY_BUSY y)).raise Reg.CLK_EVT_APPLY_DONE

/-- The limits hold: the outputs stop, and the synthesizer relocks with the settings measured. -/
def applyRelock (d : Dev) (y : Nat) (x : Word × Word × Word) : Dev :=
  ((d.setFs y { d.fsSt y with
    applied := some x, measuring := none, running := 0, relock := true, waitInput := false
    before := (d.fsSt y).applied }).setLock y false).clear (Reg.FS_STS_APPLY_ERR y)

theorem fsSt_showInput (d : Dev) (y mhz : Nat) (present : Bool) (z : Nat) :
    (d.showInput y mhz present).fsSt z = d.fsSt z := by rw [showInput, setBit_eq, fsSt_set, fsSt_set]

section
variable {d : Dev} {y : Fin 16} {present : Bool} {khz : Nat} {x : Word × Word × Word}
  (hm : (d.fsSt y.val).measuring = some x)
include hm

theorem fsApplyMeasured_refused (hl : (d.fsInput x present khz).any (limitsHold x) = false) :
    fsApplyMeasured y present khz d =
      (d.showInput y.val ((d.fsInput x present khz).getD 0 / 1000) (d.fsInput x present khz).isSome).applyRefuse
        y.val := by
  rw [applyRefuse, fsSt_showInput, showInput, fsApplyMeasured, hm]
  simp only [hl, Bool.false_eq_true, if_false]

theorem fsApplyMeasured_relocks (hl : (d.fsInput x present khz).any (limitsHold x) = true) :
    fsApplyMeasured y present khz d =
      ((d.showInput y.val ((d.fsInput x present khz).getD 0 / 1000) (d.fsInput x present khz).isSome).applyRelock
        y.val x).gckAuto y.val [] := by
  rw [applyRelock, fsSt_showInput, showInput, fsApplyMeasured, hm]
  simp only [hl, if_true]

end

theorem fsSts_ne_clkEvt (y : Nat) : Reg.FS_STS y ≠ Reg.CLK_EVT := by
  simp only [Reg.FS_STS, Reg.CLK_EVT]
  omega

theorem fsSts_ne_clkSts (y : Nat) : Reg.FS_STS y ≠ Reg.CLK_STS := by
  simp only [Reg.FS_STS, Reg.CLK_STS]
  omega

/-- The registers after a refused APPLY. -/
theorem sts_applyRefuse (d : Dev) (y mhz : Nat) (present : Bool) :
    ((d.showInput y mhz present).applyRefuse y).on (Reg.FS_STS_APPLY_ERR y) = true
    ∧ ((d.showInput y mhz present).applyRefuse y).on (Reg.FS_STS_APPLY_BUSY y) = false
    ∧ ((d.showInput y mhz present).applyRefuse y).on (Reg.FS_STS_SRC_PRESENT y) = present
    ∧ ((d.showInput y mhz present).applyRefuse y).get (Reg.FS_STS_IN_MHZ y)
        = mhz % 2 ^ (Reg.FS_STS_IN_MHZ y).w
    ∧ ((d.showInput y mhz present).applyRefuse y).on (Reg.FS_STS_LOCK y) = d.on (Reg.FS_STS_LOCK y) := by
  cases present <;> simp [on, showInput, applyRefuse, raise_eq, clear_eq, setBit_eq, get_set_off, get_set_ne,
    get_set_self, Reg.FS_STS_APPLY_ERR, Reg.FS_STS_APPLY_BUSY, Reg.FS_STS_SRC_PRESENT, Reg.FS_STS_IN_MHZ,
    Reg.FS_STS_LOCK, Reg.CLK_EVT_APPLY_DONE, fsSts_ne_clkEvt]

theorem on_applyRefuse_done (d : Dev) (y : Nat) : (d.applyRefuse y).on Reg.CLK_EVT_APPLY_DONE = true :=
  on_raise_self _ _ (by decide) (by decide)

theorem fsSt_applyRefuse (d : Dev) (y mhz : Nat) (present : Bool) :
    ((d.showInput y mhz present).applyRefuse y).fsSt y = { d.fsSt y with measuring := none } := by
  rw [applyRefuse, raise_eq, raise_eq, clear_eq, fsSt_set, fsSt_set, fsSt_set, fsSt_setFs_self, fsSt_showInput]

theorem regsBut_applyRefuse (d : Dev) (y mhz : Nat) (present : Bool) :
    d.regsBut [Reg.FS_STS y, Reg.CLK_EVT] ((d.showInput y mhz present).applyRefuse y) := by
  intro o ho
  simp only [List.mem_cons, List.not_mem_nil, or_false, not_or] at ho
  obtain ⟨sts, evt⟩ := ho
  simp [showInput, applyRefuse, raise_eq, clear_eq, setBit_eq, word_set_ne, Reg.FS_STS_APPLY_ERR, Reg.FS_STS_APPLY_BUSY,
    Reg.FS_STS_SRC_PRESENT, Reg.FS_STS_IN_MHZ, Reg.CLK_EVT_APPLY_DONE, sts, evt]

theorem restSame_applyRefuse (d : Dev) (y mhz : Nat) (present : Bool) :
    d.restSame { (d.showInput y mhz present).applyRefuse y with fs := d.fs } :=
  restSame_setFs (restSame_trans (restSame_set ..) (restSame_set ..))
    (restSame_trans (restSame_set ..) (restSame_trans (restSame_set ..) (restSame_set ..)))

/-! ## LOCK -/

theorem setMask_eq (d : Dev) (f : Fld) (k : Nat) (b : Bool) : d.setMask f k b =
    d.set f (if b then d.get f ||| 2 ^ k else d.get f &&& (2 ^ f.w - 1 - 2 ^ k % 2 ^ f.w)) := (rfl)

/-- A bit of a mask field reads as it was set. -/
theorem bit_setMask_self (d : Dev) {f : Fld} {k : Nat} (b : Bool) (hf : f.lsb + f.w ≤ 32) (hk : k < f.w) :
    (d.setMask f k b).bit f k = b := by
  have small : 2 ^ k < 2 ^ f.w := Nat.pow_lt_pow_right (by decide) hk
  have others : 2 ^ f.w - 1 - 2 ^ k = 2 ^ f.w - (2 ^ k + 1) := by omega
  rw [bit, setMask_eq, get_set_self _ _ _ hf, Nat.testBit_mod_two_pow, Nat.mod_eq_of_lt small]
  cases b
  · simp [hk, others, Nat.testBit_two_pow_sub_succ small]
  · simp [hk]

theorem word_setLock_ne (d : Dev) {y o : Nat} (b : Bool) (hs : o ≠ Reg.FS_STS y) (hc : o ≠ Reg.CLK_STS) :
    (d.setLock y b).word o = d.word o := by
  rw [setLock, setMask_eq, setBit_eq, word_set_ne _ _ _ hc, word_set_ne _ _ _ hs]

/-- LOCK apart, FS_STS keeps what it shows. -/
theorem get_setLock (d : Dev) {y : Nat} (b : Bool) {f : Fld} (hs : f.off = Reg.FS_STS y) (hl : 1 ≤ f.lsb) :
    (d.setLock y b).get f = d.get f := by
  rw [setLock, setMask_eq, setBit_eq, get_set_off _ _ _ _ (hs ▸ fsSts_ne_clkSts y),
    get_set_ne _ (Reg.FS_STS_LOCK y) f _ (by decide : 0 + 1 ≤ 32) (.inr hl)]

theorem on_setLock (d : Dev) (y : Nat) (b : Bool) : (d.setLock y b).on (Reg.FS_STS_LOCK y) = b := by
  rw [on, setLock, setMask_eq, setBit_eq, get_set_off _ _ _ _ (fsSts_ne_clkSts y),
    get_set_self _ (Reg.FS_STS_LOCK y) _ (by decide : 0 + 1 ≤ 32)]
  cases b <;> rfl

theorem bit_setLock (d : Dev) (y : Fin 16) (b : Bool) : (d.setLock y.val b).bit Reg.CLK_STS_FS_LOCK y.val = b :=
  bit_setMask_self _ b (by decide) y.isLt

theorem fsSt_setLock (d : Dev) (y : Nat) (b : Bool) (z : Nat) : (d.setLock y b).fsSt z = d.fsSt z := by
  rw [setLock, setMask_eq, setBit_eq, fsSt_set, fsSt_set]

theorem gckSt_setLock (d : Dev) (y : Nat) (b : Bool) (g : Nat) : (d.setLock y b).gckSt g = d.gckSt g := by
  rw [setLock, setMask_eq, setBit_eq, gckSt_set, gckSt_set]

theorem restSame_setLock (d : Dev) (y : Nat) (b : Bool) : d.restSame (d.setLock y b) :=
  restSame_trans (restSame_set ..) (restSame_set ..)

theorem gckSt_setFs (d : Dev) (y : Nat) (x : FsSt) (g : Nat) : (d.setFs y x).gckSt g = d.gckSt g := (rfl)

/-! ## The buffers that follow a synthesizer (R202, R206) -/

/-- Buffer `g` follows the outputs of synthesizer `y`, which have stopped. -/
def gckFollow (y : Nat) (written : List (Fin 32)) (d : Dev) (g : Fin 32) : Dev :=
  if d.get (Reg.GCK_SEL_SRC g) / 4 = y ∧ d.get (Reg.GCK_SEL_SRC g) < 64
      ∧ d.on (Reg.GCK_SEL_AUTO_ALT g) ∧ !written.contains g then
    (if d.on (Reg.GCK_SEL_SWITCH_BUSY g) then
      (if (d.gckSt g).toAlt then d else d.setGck g { d.gckSt g with autoDue := true })
     else if d.on (Reg.GCK_SEL_ON_ALT g) then d
     else d.gckToAlt g)
  else d

theorem gckAuto_eq (d : Dev) (y : Nat) (written : List (Fin 32)) : d.gckAuto y written =
    if d.safe Reg.CLK_STS then d else (List.finRange 32).foldl (gckFollow y written) d := (rfl)

/-- A buffer stays, notes that it is to move at the end of its switch, or moves to ALT; one whose GCK_SEL is written in
the same cycle stays. -/
theorem gckFollow_cases (y : Nat) (written : List (Fin 32)) (d : Dev) (g : Fin 32) :
    gckFollow y written d g = d ∨ g ∉ written ∧
      (gckFollow y written d g = d.setGck g { d.gckSt g with autoDue := true }
        ∨ gckFollow y written d g = d.gckToAlt g) := by
  unfold gckFollow
  split
  next h =>
    have hw : g ∉ written := by simpa using h.2.2.2
    split
    · split
      · exact .inl rfl
      · exact .inr ⟨hw, .inl rfl⟩
    · split
      · exact .inl rfl
      · exact .inr ⟨hw, .inr rfl⟩
  next => exact .inl rfl

/-- The device but for its registers and its buffers. -/
def exceptBuffers (d : Dev) : Dev := { d with csr := [], gck := [] }

theorem exceptBuffers_set (d : Dev) (f : Fld) (v : Nat) : (d.set f v).exceptBuffers = d.exceptBuffers := (rfl)

theorem exceptBuffers_setGck (d : Dev) (g : Nat) (x : GckSt) : (d.setGck g x).exceptBuffers = d.exceptBuffers := (rfl)

theorem exceptBuffers_gckToAlt (d : Dev) (g : Nat) : (d.gckToAlt g).exceptBuffers = d.exceptBuffers := by
  rw [gckToAlt, gckStart, raise_eq, raise_eq, raise_eq, exceptBuffers_set, exceptBuffers_set, exceptBuffers_set,
    exceptBuffers_setGck]

theorem exceptBuffers_gckFollow (y : Nat) (written : List (Fin 32)) (d : Dev) (g : Fin 32) :
    (gckFollow y written d g).exceptBuffers = d.exceptBuffers := by
  obtain h | ⟨-, h | h⟩ := gckFollow_cases y written d g
  · rw [h]
  · rw [h, exceptBuffers_setGck]
  · rw [h, exceptBuffers_gckToAlt]

/-- What every buffer's step keeps the loss of an output keeps. -/
theorem gckAuto_keeps {α : Type} (p : Dev → α) {y : Nat} {written : List (Fin 32)}
    (h : ∀ d g, p (gckFollow y written d g) = p d) (d : Dev) : p (d.gckAuto y written) = p d := by
  rw [gckAuto_eq]
  split
  · rfl
  · exact foldl_keeps p _ h _ _

theorem exceptBuffers_gckAuto (d : Dev) (y : Nat) (written : List (Fin 32)) :
    (d.gckAuto y written).exceptBuffers = d.exceptBuffers :=
  gckAuto_keeps exceptBuffers (exceptBuffers_gckFollow y written) d

theorem fsSt_gckAuto (d : Dev) (y : Nat) (written : List (Fin 32)) (z : Nat) :
    (d.gckAuto y written).fsSt z = d.fsSt z := by
  have same : (d.gckAuto y written).fs = d.fs := (congrArg Dev.fs (exceptBuffers_gckAuto d y written) :)
  rw [fsSt, fsSt, same]

/-- The synthesizers and the buffers apart, what stays before the buffers follow stays after. -/
theorem restSame_gckAuto {d e : Dev} (y : Nat) (written : List (Fin 32)) (h : d.restSame { e with fs := d.fs }) :
    d.restSame { e.gckAuto y written with fs := d.fs, gck := d.gck } := by
  have same := exceptBuffers_gckAuto e y written
  have before := restSame_withGck h
  unfold restSame at *
  exact (congrArg (fun a : Dev => { a with
    csr := d.csr, unlocks := d.unlocks, parityFailed := d.parityFailed, kept := d.kept, changes := d.changes
    cmds := d.cmds, answer := d.answer, fs := d.fs, gck := d.gck }) same).trans before

/-- A move to ALT writes the buffer's GCK_SEL, and GCK_AUTO. -/
theorem get_gckToAlt (d : Dev) (g : Nat) {f : Fld} (hg : f.off ≠ Reg.GCK_SEL g)
    (he : f.off ≠ Reg.CLK_EVT ∨ f.lsb + f.w ≤ 4 ∨ 5 ≤ f.lsb) : (d.gckToAlt g).get f = d.get f := by
  have evt : ∀ a : Dev, (a.set Reg.CLK_EVT_GCK_AUTO 1).get f = a.get f := fun a => by
    obtain off | apart := he
    · exact get_set_off _ _ _ _ off
    · exact get_set_ne _ _ _ _ (by decide) apart
  rw [gckToAlt, gckStart, raise_eq, raise_eq, raise_eq, evt, get_set_off _ _ _ _ hg, get_set_off _ _ _ _ hg, get_setGck]

/-- The buffers that follow write their GCK_SEL, and GCK_AUTO. -/
theorem get_gckAuto (d : Dev) (y : Nat) (written : List (Fin 32)) {f : Fld} (hg : ∀ g : Fin 32, f.off ≠ Reg.GCK_SEL g)
    (he : f.off ≠ Reg.CLK_EVT ∨ f.lsb + f.w ≤ 4 ∨ 5 ≤ f.lsb) : (d.gckAuto y written).get f = d.get f := by
  refine gckAuto_keeps (·.get f) (fun a g => ?_) d
  obtain h | ⟨-, h | h⟩ := gckFollow_cases y written a g
  · rw [h]
  · rw [h, get_setGck]
  · rw [h, get_gckToAlt a g (hg g) he]

theorem gckSt_gckToAlt_ne (d : Dev) {g h : Nat} (hh : h ≠ g) : (d.gckToAlt g).gckSt h = d.gckSt h := by
  rw [gckToAlt, gckStart, raise_eq, raise_eq, raise_eq, gckSt_set, gckSt_set, gckSt_set, gckSt_setGck_ne _ _ hh]

/-- A buffer whose GCK_SEL is written in the same cycle does not follow (R206). -/
theorem gckSt_gckAuto_written (d : Dev) (y : Nat) {written : List (Fin 32)} {g : Fin 32} (hg : g ∈ written) :
    (d.gckAuto y written).gckSt g.val = d.gckSt g.val := by
  refine gckAuto_keeps (·.gckSt g.val) (fun a j => ?_) d
  obtain h | ⟨hj, h⟩ := gckFollow_cases y written a j
  · rw [h]
  · have apart : g.val ≠ j.val := fun e => hj (Fin.ext e ▸ hg)
    obtain h | h := h
    · rw [h, gckSt_setGck_ne _ _ apart]
    · rw [h, gckSt_gckToAlt_ne _ apart]

/-! ## A buffer that moves to ALT -/

/-- Buffer `g` passes an output of synthesizer `y` and is to leave it for source `alt` (R202). -/
structure Follows (y : Nat) (g : Fin 32) (alt : Nat) (d : Dev) : Prop where
  src : d.get (Reg.GCK_SEL_SRC g.val) / 4 = y
  auto : d.on (Reg.GCK_SEL_AUTO_ALT g.val) = true
  onAlt : d.on (Reg.GCK_SEL_ON_ALT g.val) = false
  busy : d.on (Reg.GCK_SEL_SWITCH_BUSY g.val) = false
  alt : d.get (Reg.GCK_SEL_ALT g.val) = alt

/-- Buffer `g` switches to source `alt` on its own (R202). -/
structure Moves (g : Fin 32) (alt : Nat) (d : Dev) : Prop where
  busy : d.on (Reg.GCK_SEL_SWITCH_BUSY g.val) = true
  onAlt : d.on (Reg.GCK_SEL_ON_ALT g.val) = true
  evt : d.on Reg.CLK_EVT_GCK_AUTO = true
  target : (d.gckSt g.val).target = alt
  toAlt : (d.gckSt g.val).toAlt = true

theorem gckSel_ne {g j : Fin 32} (h : g ≠ j) : Reg.GCK_SEL g.val ≠ Reg.GCK_SEL j.val := by
  simp only [Reg.GCK_SEL, ne_eq, Fin.ext_iff] at h ⊢
  omega

theorem gckSel_ne_clkEvt (g : Nat) : Reg.GCK_SEL g ≠ Reg.CLK_EVT := by
  simp only [Reg.GCK_SEL, Reg.CLK_EVT]
  omega

/-- Another buffer's step leaves the GCK_SEL of `g`. -/
theorem get_gckFollow_ne {y : Nat} {written : List (Fin 32)} (d : Dev) {g j : Fin 32} (h : g ≠ j) (f : Fld)
    (hf : f.off = Reg.GCK_SEL g.val) : (gckFollow y written d j).get f = d.get f := by
  obtain e | ⟨-, e | e⟩ := gckFollow_cases y written d j
  · rw [e]
  · rw [e, get_setGck]
  · rw [e, get_gckToAlt d j (hf ▸ gckSel_ne h) (.inl (hf ▸ gckSel_ne_clkEvt g.val))]

theorem on_gckFollow_ne {y : Nat} {written : List (Fin 32)} (d : Dev) {g j : Fin 32} (h : g ≠ j) (f : Fld)
    (hf : f.off = Reg.GCK_SEL g.val) : (gckFollow y written d j).on f = d.on f :=
  congrArg (· != 0) (get_gckFollow_ne d h f hf)

theorem gckSt_gckFollow_ne {y : Nat} {written : List (Fin 32)} (d : Dev) {g j : Fin 32} (h : g ≠ j) :
    (gckFollow y written d j).gckSt g.val = d.gckSt g.val := by
  have apart : g.val ≠ j.val := fun e => h (Fin.ext e)
  obtain e | ⟨-, e | e⟩ := gckFollow_cases y written d j
  · rw [e]
  · rw [e, gckSt_setGck_ne _ _ apart]
  · rw [e, gckSt_gckToAlt_ne _ apart]

theorem on_gckAuto_gckToAlt (d : Dev) (g : Nat) : (d.gckToAlt g).on Reg.CLK_EVT_GCK_AUTO = true :=
  on_raise_self _ _ (by decide) (by decide)

/-- GCK_AUTO stays set. -/
theorem gckAuto_gckFollow {y : Nat} {written : List (Fin 32)} {d : Dev} (j : Fin 32)
    (h : d.on Reg.CLK_EVT_GCK_AUTO = true) : (gckFollow y written d j).on Reg.CLK_EVT_GCK_AUTO = true := by
  obtain e | ⟨-, e | e⟩ := gckFollow_cases y written d j
  · rw [e, h]
  · rw [e, on_setGck, h]
  · rw [e, on_gckAuto_gckToAlt]

/-- A move to ALT, as the buffer's registers and its state show it. -/
theorem moves_gckToAlt (d : Dev) (g : Fin 32) : (d.gckToAlt g.val).Moves g (d.get (Reg.GCK_SEL_ALT g.val)) where
  busy := by
    simp [on, gckToAlt, gckStart, raise_eq, get_set_off, get_set_ne, get_set_self, Reg.CLK_EVT_GCK_AUTO,
      Reg.GCK_SEL_ON_ALT, Reg.GCK_SEL_SWITCH_BUSY, gckSel_ne_clkEvt]
  onAlt := by
    simp [on, gckToAlt, raise_eq, get_set_off, get_set_self, Reg.CLK_EVT_GCK_AUTO, Reg.GCK_SEL_ON_ALT, gckSel_ne_clkEvt]
  evt := on_gckAuto_gckToAlt d g.val
  target := by rw [gckToAlt, gckStart, raise_eq, raise_eq, raise_eq, gckSt_set, gckSt_set, gckSt_set, gckSt_setGck_self]
  toAlt := by rw [gckToAlt, gckStart, raise_eq, raise_eq, raise_eq, gckSt_set, gckSt_set, gckSt_set, gckSt_setGck_self]

section
variable {y : Nat} {written : List (Fin 32)} {g : Fin 32} {alt : Nat} {d : Dev}

/-- Another buffer's step leaves `g` to its own. -/
theorem Follows.other (h : d.Follows y g alt) {j : Fin 32} (hj : g ≠ j) :
    (gckFollow y written d j).Follows y g alt where
  src := by rw [get_gckFollow_ne d hj (Reg.GCK_SEL_SRC g) rfl, h.src]
  auto := by rw [on_gckFollow_ne d hj (Reg.GCK_SEL_AUTO_ALT g) rfl, h.auto]
  onAlt := by rw [on_gckFollow_ne d hj (Reg.GCK_SEL_ON_ALT g) rfl, h.onAlt]
  busy := by rw [on_gckFollow_ne d hj (Reg.GCK_SEL_SWITCH_BUSY g) rfl, h.busy]
  alt := by rw [get_gckFollow_ne d hj (Reg.GCK_SEL_ALT g) rfl, h.alt]

/-- At its own step a buffer that follows moves to ALT. -/
theorem Follows.step (h : d.Follows y g alt) (hy : y < 16) (hw : g ∉ written) :
    (gckFollow y written d g).Moves g alt := by
  have output : d.get (Reg.GCK_SEL_SRC g.val) < 64 := by have := h.src; omega
  have move : gckFollow y written d g = d.gckToAlt g.val := by
    rw [gckFollow, if_pos ⟨h.src, output, h.auto, by simpa using hw⟩, if_neg (by simp [h.busy]),
      if_neg (by simp [h.onAlt])]
  rw [move, ← h.alt]
  exact moves_gckToAlt d g

/-- A buffer that moves to ALT goes on doing so. -/
theorem Moves.step (h : d.Moves g alt) (j : Fin 32) : (gckFollow y written d j).Moves g alt := by
  by_cases hj : g = j
  · subst hj
    have stays : gckFollow y written d g = d := by
      unfold gckFollow
      simp only [h.busy, h.toAlt, if_true, ite_self]
    rwa [stays]
  · exact {
      busy := by rw [on_gckFollow_ne d hj (Reg.GCK_SEL_SWITCH_BUSY g) rfl, h.busy]
      onAlt := by rw [on_gckFollow_ne d hj (Reg.GCK_SEL_ON_ALT g) rfl, h.onAlt]
      evt := gckAuto_gckFollow j h.evt
      target := by rw [gckSt_gckFollow_ne d hj, h.target]
      toAlt := by rw [gckSt_gckFollow_ne d hj, h.toAlt] }

theorem Moves.foldl (h : d.Moves g alt) (l : List (Fin 32)) : (l.foldl (gckFollow y written) d).Moves g alt :=
  List.foldlRecOn (motive := fun a : Dev => a.Moves g alt) l (gckFollow y written) h fun _ ha j _ => ha.step j

/-- A buffer that follows moves to ALT at its own step among those of the others. -/
theorem Follows.foldl (h : d.Follows y g alt) (hy : y < 16) (hw : g ∉ written) {l : List (Fin 32)} (hl : g ∈ l) :
    (l.foldl (gckFollow y written) d).Moves g alt := by
  induction l generalizing d with
  | nil => cases hl
  | cons j js ih =>
    by_cases hj : g = j
    · subst hj
      exact (h.step hy hw).foldl js
    · exact ih (h.other hj) ((List.mem_cons.mp hl).resolve_left hj)

/-- The outputs of a synthesizer have stopped: a buffer that follows moves to ALT (R202, R206). -/
theorem Follows.gckAuto (h : d.Follows y g alt) (hy : y < 16) (hw : g ∉ written) (hs : d.safe Reg.CLK_STS = false) :
    (d.gckAuto y written).Moves g alt := by
  rw [gckAuto_eq, if_neg (by simp [hs])]
  exact h.foldl hy hw (List.mem_finRange g)

end

/-! ## What an accepted APPLY leaves (R200) -/

theorem fsSts_ne_gckSel (y : Fin 16) (g : Fin 32) : Reg.FS_STS y.val ≠ Reg.GCK_SEL g.val := by
  simp only [Reg.FS_STS, Reg.GCK_SEL]
  omega

theorem clkSts_ne_gckSel (g : Nat) : Reg.CLK_STS ≠ Reg.GCK_SEL g := by
  simp only [Reg.CLK_STS, Reg.GCK_SEL]
  omega

theorem clkEvt_ne_gckSel (g : Nat) : Reg.CLK_EVT ≠ Reg.GCK_SEL g := (gckSel_ne_clkEvt g).symm

/-- The buffers that follow leave FS_STS. -/
theorem on_gckAuto_fsSts (d : Dev) (y : Fin 16) (written : List (Fin 32)) (f : Fld) (hf : f.off = Reg.FS_STS y.val) :
    (d.gckAuto y.val written).on f = d.on f :=
  congrArg (· != 0) (get_gckAuto d y.val written (fun g => hf ▸ fsSts_ne_gckSel y g)
    (.inl (hf ▸ fsSts_ne_clkEvt y.val)))

theorem bit_gckAuto_clkSts (d : Dev) (y : Nat) (written : List (Fin 32)) (k : Nat) :
    (d.gckAuto y written).bit Reg.CLK_STS_FS_LOCK k = d.bit Reg.CLK_STS_FS_LOCK k :=
  congrArg (Nat.testBit · k) (get_gckAuto d y written (fun g => clkSts_ne_gckSel g.val) (.inl (by decide)))

theorem fsSt_applyRelock (d : Dev) (y mhz : Nat) (present : Bool) (x : Word × Word × Word) :
    ((d.showInput y mhz present).applyRelock y x).fsSt y = { d.fsSt y with
      applied := some x, measuring := none, running := 0, relock := true, waitInput := false
      before := (d.fsSt y).applied } := by
  rw [applyRelock, clear_eq, fsSt_set, fsSt_setLock, fsSt_setFs_self, fsSt_showInput]

theorem fsSt_applyRelock_ne (d : Dev) {y z : Nat} (mhz : Nat) (present : Bool) (x : Word × Word × Word) (h : z ≠ y) :
    ((d.showInput y mhz present).applyRelock y x).fsSt z = d.fsSt z := by
  rw [applyRelock, clear_eq, fsSt_set, fsSt_setLock, fsSt_setFs_ne _ _ h, fsSt_showInput]

theorem sts_applyRelock (d : Dev) (y mhz : Nat) (x : Word × Word × Word) :
    ((d.showInput y mhz true).applyRelock y x).on (Reg.FS_STS_LOCK y) = false
    ∧ ((d.showInput y mhz true).applyRelock y x).on (Reg.FS_STS_APPLY_ERR y) = false
    ∧ ((d.showInput y mhz true).applyRelock y x).on (Reg.FS_STS_SRC_PRESENT y) = true := by
  have others : ∀ (a : Dev) (f : Fld), f.lsb + f.w ≤ 3 → (a.clear (Reg.FS_STS_APPLY_ERR y)).on f = a.on f :=
    fun a f hf => congrArg (· != 0) (get_set_ne a (Reg.FS_STS_APPLY_ERR y) f 0 (by decide : 3 + 1 ≤ 32) (.inl hf))
  have src : ∀ (a : Dev) (b : Bool), (a.setLock y b).on (Reg.FS_STS_SRC_PRESENT y) = a.on (Reg.FS_STS_SRC_PRESENT y) :=
    fun a b => congrArg (· != 0) (get_setLock a b rfl (by decide : 1 ≤ 2))
  refine ⟨?_, on_clear_self _ _ (by decide : 3 + 1 ≤ 32), ?_⟩
  · rw [applyRelock, others _ (Reg.FS_STS_LOCK y) (by decide : 0 + 1 ≤ 3), on_setLock]
  · rw [applyRelock, others _ (Reg.FS_STS_SRC_PRESENT y) (by decide : 2 + 1 ≤ 3), src, on_setFs]
    exact on_raise_self _ _ (by decide : 2 + 1 ≤ 32) (by decide : 0 < 1)

theorem restSame_applyRelock (d : Dev) (y mhz : Nat) (present : Bool) (x : Word × Word × Word) :
    d.restSame { (d.showInput y mhz present).applyRelock y x with fs := d.fs } :=
  restSame_setFs (restSame_trans (restSame_set ..) (restSame_set ..))
    (restSame_trans (restSame_setLock ..) (restSame_set ..))

/-! ## The lock (R200) -/

/-- The synthesizer locks, and its enabled outputs start. -/
def lockOn (d : Dev) (y : Nat) : Dev :=
  (d.setFs y { d.fsSt y with relock := false, running := d.outEn y }).setLock y true

/-- An APPLY is done. -/
def applyEnd (d : Dev) (y : Nat) : Dev := (d.clear (Reg.FS_STS_APPLY_BUSY y)).raise Reg.CLK_EVT_APPLY_DONE

theorem on_busy_lockOn (d : Dev) (y : Nat) :
    (d.lockOn y).on (Reg.FS_STS_APPLY_BUSY y) = d.on (Reg.FS_STS_APPLY_BUSY y) :=
  congrArg (· != 0) ((get_setLock _ true rfl (by decide : 1 ≤ 1)).trans (get_setFs ..))

theorem fsLock_eq {y : Fin 16} {d : Dev} {x : Word × Word × Word} (ha : (d.fsSt y.val).applied = some x)
    (hr : (d.fsSt y.val).relock = true) (hm : (d.fsSt y.val).measuring = none)
    (hf : fieldOf x.1 6 2 ≠ 0 ∨ d.on Reg.CLK_STS_ROOT_LOCK = true) : fsLock y d =
      if d.on (Reg.FS_STS_APPLY_BUSY y.val) then (d.lockOn y.val).applyEnd y.val else d.lockOn y.val := by
  have goes : ¬(!(d.fsSt y.val).relock ∨ (d.fsSt y.val).measuring.isSome
      ∨ (fieldOf x.1 6 2 = 0 ∧ !d.on Reg.CLK_STS_ROOT_LOCK)) := by
    rw [hr, hm]
    rcases hf with h | h <;> simp [h]
  rw [← on_busy_lockOn, fsLock]
  split
  next h => exact absurd (h.symm.trans ha) nofun
  next set h =>
    obtain rfl : x = set := Option.some.inj (ha.symm.trans h)
    exact if_neg goes

/-- What the lock leaves, an APPLY in progress or none. -/
structure Locked (y : Fin 16) (d e : Dev) : Prop where
  fs : e.fsSt y.val = { d.fsSt y.val with relock := false, running := d.outEn y.val }
  lock : e.on (Reg.FS_STS_LOCK y.val) = true
  bit : e.bit Reg.CLK_STS_FS_LOCK y.val = true
  regs : d.regsBut [Reg.FS_STS y.val, Reg.CLK_STS, Reg.CLK_EVT] e
  rest : d.restSame { e with fs := d.fs }

theorem locked_lockOn (d : Dev) (y : Fin 16) : Locked y d (d.lockOn y.val) where
  fs := by rw [lockOn, fsSt_setLock, fsSt_setFs_self]
  lock := on_setLock ..
  bit := bit_setLock ..
  regs := by
    intro o ho
    simp only [List.mem_cons, List.not_mem_nil, or_false, not_or] at ho
    rw [lockOn, word_setLock_ne _ _ ho.1 ho.2.1, word_setFs]
  rest := restSame_setFs rfl (restSame_setLock ..)

/-- The end of an APPLY leaves what the lock shows. -/
theorem Locked.applyEnd {y : Fin 16} {d e : Dev} (h : Locked y d e) : Locked y d (e.applyEnd y.val) where
  fs := by rw [Dev.applyEnd, clear_eq, raise_eq, fsSt_set, fsSt_set, h.fs]
  lock := by
    refine Eq.trans ?_ h.lock
    simp [on, Dev.applyEnd, clear_eq, raise_eq, get_set_off, get_set_ne, Reg.FS_STS_LOCK, Reg.FS_STS_APPLY_BUSY,
      Reg.CLK_EVT_APPLY_DONE, fsSts_ne_clkEvt]
  bit := by
    have apart : Reg.CLK_STS_FS_LOCK.off ≠ (Reg.FS_STS_APPLY_BUSY y.val).off := (fsSts_ne_clkSts y.val).symm
    refine Eq.trans ?_ h.bit
    rw [Dev.bit, Dev.bit, Dev.applyEnd, clear_eq, raise_eq, get_set_off _ _ _ _ (by decide), get_set_off _ _ _ _ apart]
  regs := by
    intro o ho
    refine Eq.trans ?_ (h.regs o ho)
    simp only [List.mem_cons, List.not_mem_nil, or_false, not_or] at ho
    obtain ⟨sts, -, evt⟩ := ho
    rw [Dev.applyEnd, clear_eq, raise_eq, word_set_ne _ _ _ evt, word_set_ne _ _ _ sts]
  rest := restSame_trans h.rest (restSame_trans (restSame_set ..) (restSame_set ..))

theorem on_applyEnd (d : Dev) (y : Nat) : (d.applyEnd y).on (Reg.FS_STS_APPLY_BUSY y) = false
    ∧ (d.applyEnd y).on Reg.CLK_EVT_APPLY_DONE = true := by
  refine ⟨?_, on_raise_self _ _ (by decide) (by decide)⟩
  simp [on, applyEnd, clear_eq, raise_eq, get_set_off, get_set_self, Reg.FS_STS_APPLY_BUSY, Reg.CLK_EVT_APPLY_DONE,
    fsSts_ne_clkEvt]

/-- The lock, with the end of the APPLY that waits for it. -/
theorem fsLock_locks {y : Fin 16} {d : Dev} {x : Word × Word × Word} (ha : (d.fsSt y.val).applied = some x)
    (hr : (d.fsSt y.val).relock = true) (hm : (d.fsSt y.val).measuring = none)
    (hf : fieldOf x.1 6 2 ≠ 0 ∨ d.on Reg.CLK_STS_ROOT_LOCK = true) : Locked y d (fsLock y d)
      ∧ (d.on (Reg.FS_STS_APPLY_BUSY y.val) = true → (fsLock y d).on (Reg.FS_STS_APPLY_BUSY y.val) = false
        ∧ (fsLock y d).on Reg.CLK_EVT_APPLY_DONE = true) := by
  rw [fsLock_eq ha hr hm hf]
  split
  next => exact ⟨(locked_lockOn d y).applyEnd, fun _ => on_applyEnd ..⟩
  next idle => exact ⟨locked_lockOn d y, fun busy => absurd busy idle⟩

/-! ## The loss of lock (R201) -/

/-- The outputs stop, and the synthesizer waits for its input. -/
def lockOff (d : Dev) (y : Nat) : Dev :=
  (d.setFs y { d.fsSt y with running := 0, waitInput := true }).setLock y false

/-- What the registers record of the loss: an input that has stopped is absent, one that drifts is not. -/
def lolRecord (d : Dev) (y : Nat) (drift : Bool) : Dev :=
  ((if drift then d else d.clear (Reg.FS_STS_SRC_PRESENT y)).raise Reg.CLK_EVT_FS_LOL).set Reg.CLK_STS_LAST_FS y

theorem setFs_parityFailed (d : Dev) (y : Nat) (x : FsSt) : (d.setFs y x).parityFailed = d.parityFailed := (rfl)

/-- The loss before the buffers follow. -/
def lolStart (d : Dev) (y : Nat) (drift : Bool) : Dev := (d.lockOff y).lolRecord y drift

theorem fsLol_locked {y : Fin 16} {d : Dev} (drift : Bool) (written : List (Fin 32))
    (hl : d.on (Reg.FS_STS_LOCK y.val) = true) (hf : d.onRootFeed y.val = false) :
    fsLol y drift written d = (d.lolStart y.val drift).gckAuto y.val written := by
  rw [fsLol, if_neg (by simp [hf]), fsLost, if_neg (by simp [hl])]
  rfl

section
variable (d : Dev) (y : Nat) (drift : Bool)

theorem word_lolRecord {o : Nat} (hs : o ≠ Reg.FS_STS y) (he : o ≠ Reg.CLK_EVT) (hc : o ≠ Reg.CLK_STS) :
    (d.lolRecord y drift).word o = d.word o := by
  rw [lolRecord, raise_eq, word_set_ne _ _ _ hc, word_set_ne _ _ _ he]
  cases drift
  · exact word_set_ne _ _ _ hs
  · rfl

theorem fsSt_lolRecord (z : Nat) : (d.lolRecord y drift).fsSt z = d.fsSt z := by
  rw [lolRecord, raise_eq, clear_eq, fsSt_set, fsSt_set, apply_ite (fsSt · z), fsSt_set, ite_self]

theorem gckSt_lolRecord (g : Nat) : (d.lolRecord y drift).gckSt g = d.gckSt g := by
  rw [lolRecord, raise_eq, clear_eq, gckSt_set, gckSt_set, apply_ite (gckSt · g), gckSt_set, ite_self]

theorem restSame_lolRecord : d.restSame (d.lolRecord y drift) := by
  refine restSame_trans ?_ (restSame_trans (restSame_set _ Reg.CLK_EVT_FS_LOL 1) (restSame_set _ _ _))
  cases drift
  · exact restSame_set _ _ _
  · rfl

theorem on_lolRecord_lock : (d.lolRecord y drift).on (Reg.FS_STS_LOCK y) = d.on (Reg.FS_STS_LOCK y) := by
  cases drift <;> simp [lolRecord, on, clear_eq, raise_eq, get_set_off, get_set_ne, Reg.FS_STS_LOCK,
    Reg.FS_STS_SRC_PRESENT, Reg.CLK_EVT_FS_LOL, Reg.CLK_STS_LAST_FS, fsSts_ne_clkEvt, fsSts_ne_clkSts]

theorem on_lolRecord_src : (d.lolRecord y drift).on (Reg.FS_STS_SRC_PRESENT y) =
    (drift && d.on (Reg.FS_STS_SRC_PRESENT y)) := by
  cases drift <;> simp [lolRecord, on, clear_eq, raise_eq, get_set_off, get_set_self,
    Reg.FS_STS_SRC_PRESENT, Reg.CLK_EVT_FS_LOL, Reg.CLK_STS_LAST_FS, fsSts_ne_clkEvt, fsSts_ne_clkSts]

theorem bit_lolRecord (k : Nat) : (d.lolRecord y drift).bit Reg.CLK_STS_FS_LOCK k = d.bit Reg.CLK_STS_FS_LOCK k := by
  have sts : Reg.CLK_STS ≠ Reg.FS_STS y := (fsSts_ne_clkSts y).symm
  have evt : Reg.CLK_STS ≠ Reg.CLK_EVT := by decide
  cases drift <;> simp [lolRecord, bit, clear_eq, raise_eq, get_set_off, get_set_ne, Reg.CLK_STS_FS_LOCK,
    Reg.FS_STS_SRC_PRESENT, Reg.CLK_EVT_FS_LOL, Reg.CLK_STS_LAST_FS, sts, evt]

theorem on_lolRecord_lol : (d.lolRecord y drift).on Reg.CLK_EVT_FS_LOL = true := by
  rw [on, lolRecord, get_set_off _ _ _ _ (by decide)]
  exact on_raise_self _ _ (by decide) (by decide)

theorem get_lolRecord_last : (d.lolRecord y drift).get Reg.CLK_STS_LAST_FS = y % 16 := get_set_self _ _ _ (by decide)

theorem word_lolStart {o : Nat} (hs : o ≠ Reg.FS_STS y) (he : o ≠ Reg.CLK_EVT) (hc : o ≠ Reg.CLK_STS) :
    (d.lolStart y drift).word o = d.word o := by
  rw [lolStart, word_lolRecord _ _ _ hs he hc, lockOff, word_setLock_ne _ _ hs hc, word_setFs]

theorem fsSt_lolStart : (d.lolStart y drift).fsSt y = { d.fsSt y with running := 0, waitInput := true } := by
  rw [lolStart, fsSt_lolRecord, lockOff, fsSt_setLock, fsSt_setFs_self]

theorem fsSt_lolStart_ne {z : Nat} (h : z ≠ y) : (d.lolStart y drift).fsSt z = d.fsSt z := by
  rw [lolStart, fsSt_lolRecord, lockOff, fsSt_setLock, fsSt_setFs_ne _ _ h]

theorem gckSt_lolStart (g : Nat) : (d.lolStart y drift).gckSt g = d.gckSt g := by
  rw [lolStart, gckSt_lolRecord, lockOff, gckSt_setLock, gckSt_setFs]

theorem restSame_lolStart : d.restSame { d.lolStart y drift with fs := d.fs } :=
  restSame_setFs rfl (restSame_trans (restSame_setLock ..) (restSame_lolRecord ..))

theorem on_lolStart_lock : (d.lolStart y drift).on (Reg.FS_STS_LOCK y) = false := by
  rw [lolStart, on_lolRecord_lock, lockOff, on_setLock]

theorem on_lolStart_src : (d.lolStart y drift).on (Reg.FS_STS_SRC_PRESENT y) =
    (drift && d.on (Reg.FS_STS_SRC_PRESENT y)) := by
  have src : (d.lockOff y).on (Reg.FS_STS_SRC_PRESENT y) = d.on (Reg.FS_STS_SRC_PRESENT y) :=
    congrArg (· != 0) ((get_setLock _ false rfl (by decide : 1 ≤ 2)).trans (get_setFs ..))
  rw [lolStart, on_lolRecord_src, src]

theorem parityFailed_lolStart : (d.lolStart y drift).parityFailed = d.parityFailed := by
  rw [lolStart, lolRecord, set_parityFailed, raise_parityFailed, apply_ite parityFailed, clear_parityFailed, ite_self,
    lockOff, setLock, setMask_eq, set_parityFailed, setBit_parityFailed, setFs_parityFailed]

theorem safe_lolStart (o : Nat) : (d.lolStart y drift).safe o = d.safe o := by
  rw [safe, safe, parityFailed_lolStart]

end

theorem bit_lolStart (d : Dev) (y : Fin 16) (drift : Bool) :
    (d.lolStart y.val drift).bit Reg.CLK_STS_FS_LOCK y.val = false := by
  rw [lolStart, bit_lolRecord, lockOff, bit_setLock]

/-- A buffer that passes the lost outputs with AUTO_ALT, at rest on SRC, is to move to ALT. -/
theorem follows_lolStart {d : Dev} {y : Fin 16} (drift : Bool) {g : Fin 32}
    (hsrc : d.get (Reg.GCK_SEL_SRC g.val) / 4 = y.val) (hauto : d.on (Reg.GCK_SEL_AUTO_ALT g.val) = true)
    (halt : d.on (Reg.GCK_SEL_ON_ALT g.val) = false) (hbusy : d.on (Reg.GCK_SEL_SWITCH_BUSY g.val) = false) :
    (d.lolStart y.val drift).Follows y.val g (d.get (Reg.GCK_SEL_ALT g.val)) := by
  have word := word_lolStart d y.val drift (fsSts_ne_gckSel y g).symm (gckSel_ne_clkEvt g.val)
    (clkSts_ne_gckSel g.val).symm
  have get : ∀ f : Fld, f.off = Reg.GCK_SEL g.val → (d.lolStart y.val drift).get f = d.get f := fun f hf => by
    rw [Dev.get, Dev.get, hf, word]
  have on : ∀ f : Fld, f.off = Reg.GCK_SEL g.val → (d.lolStart y.val drift).on f = d.on f := fun f hf => by
    rw [Dev.on, Dev.on, get f hf]
  exact {
    src := by rw [get _ rfl, hsrc]
    auto := by rw [on _ rfl, hauto]
    onAlt := by rw [on _ rfl, halt]
    busy := by rw [on _ rfl, hbusy]
    alt := get _ rfl }

/-! ## The return of the input (R201) -/

theorem fsInputReturn_eq {y : Fin 16} {d : Dev} (hw : (d.fsSt y.val).waitInput = true)
    (hr : d.onRootFeed y.val = false ∨ d.on Reg.CLK_STS_ROOT_LOCK = true) : fsInputReturn y d =
      (d.setFs y.val { d.fsSt y.val with waitInput := false, relock := true }).raise
        (Reg.FS_STS_SRC_PRESENT y.val) := by
  have returns : ¬(!(d.fsSt y.val).waitInput ∨ (d.onRootFeed y.val ∧ !d.on Reg.CLK_STS_ROOT_LOCK)) := by
    rw [hw]
    rcases hr with h | h <;> simp [h]
  exact if_neg returns

end Dev

/-- Settles O18, clause by clause: APPLY and OUT_EN through the rules of FS_CTL, the events through the equations of
their operations, and the buffers through `Dev.Follows.gckAuto`. -/
theorem clockSynthesizers : Obligations.ClockSynthesizers := by
  refine ⟨?apply, ?busy, ?refused, ?relocks, ?lock, ?lost, ?follows, ?returns, ?outEnLocked, ?outEn⟩
  case apply =>
    intro s who y hs ht hb
    obtain ⟨e, run, busy, measuring, regs, rest⟩ := Dev.command_apply_idle ht hb
    exact State.does_of_order hs rfl run (Dev.calm_of_restSame_fs rest (State.calm_of_ready hs))
      ⟨rfl, busy, measuring, regs, Dev.restSame_trans rest (Dev.restSame_reply ..)⟩
  case busy =>
    intro s who y hs ht hb
    obtain ⟨e, run, regs, rest⟩ := Dev.command_apply_busy ht hb
    exact State.does_of_order hs rfl run (Dev.calm_of_restSame rest (State.calm_of_ready hs))
      ⟨rfl, regs, Dev.fs_of_restSame rest⟩
  case refused =>
    intro s y present khz x hs hm hl
    have rest := Dev.restSame_applyRefuse s.dev y.val ((s.dev.fsInput x present khz).getD 0 / 1000)
      (s.dev.fsInput x present khz).isSome
    obtain ⟨err, busy, src, mhz, lock⟩ := Dev.sts_applyRefuse s.dev y.val
      ((s.dev.fsInput x present khz).getD 0 / 1000) (s.dev.fsInput x present khz).isSome
    refine State.does_of_calm (f := Dev.fsApplyMeasured y present khz) (State.live_of_ready hs) rfl ?_ ?_ <;>
      rw [Dev.fsApplyMeasured_refused hm hl]
    · exact Dev.calm_of_restSame_fs rest (State.calm_of_ready hs)
    · exact ⟨err, busy, Dev.on_applyRefuse_done .., src, mhz, lock, Dev.fsSt_applyRefuse ..,
        Dev.regsBut_applyRefuse _ _ _ _, rest⟩
  case relocks =>
    intro s y present khz x hs hm hl
    have found : (s.dev.fsInput x present khz).isSome = true := Option.isSome_of_any hl
    have rest := Dev.restSame_gckAuto y.val [] (Dev.restSame_applyRelock s.dev y.val
      ((s.dev.fsInput x present khz).getD 0 / 1000) true x)
    obtain ⟨lock, err, src⟩ := Dev.sts_applyRelock s.dev y.val ((s.dev.fsInput x present khz).getD 0 / 1000) x
    refine State.does_of_calm (f := Dev.fsApplyMeasured y present khz) (State.live_of_ready hs) rfl ?_ ?_ <;>
      rw [Dev.fsApplyMeasured_relocks hm hl, found]
    · exact Dev.calm_of_restSame_clocks _ _ rest (State.calm_of_ready hs)
    · refine ⟨?_, ?_, ?_, ?_, fun z hz => ?_, rest⟩
      · rw [Dev.fsSt_gckAuto, Dev.fsSt_applyRelock]
      · rw [Dev.on_gckAuto_fsSts _ _ _ _ rfl, lock]
      · rw [Dev.on_gckAuto_fsSts _ _ _ _ rfl, err]
      · rw [Dev.on_gckAuto_fsSts _ _ _ _ rfl, src]
      · rw [Dev.fsSt_gckAuto, Dev.fsSt_applyRelock_ne _ _ _ _ (Fin.val_ne_of_ne hz)]
  case lock =>
    intro s y x hs ha hr hm hf
    obtain ⟨locked, done⟩ := Dev.fsLock_locks ha hr hm hf
    exact State.does_of_calm (State.live_of_ready hs) rfl
      (Dev.calm_of_restSame_fs locked.rest (State.calm_of_ready hs))
      ⟨locked.fs, locked.lock, locked.bit, done, locked.regs, locked.rest⟩
  case lost =>
    intro s y drift written hs hl hf
    have rest := Dev.restSame_gckAuto y.val written (Dev.restSame_lolStart s.dev y.val drift)
    refine State.does_of_calm (f := Dev.fsLol y drift written) (State.live_of_ready hs) rfl ?_ ?_ <;>
      rw [Dev.fsLol_locked drift written hl hf]
    · exact Dev.calm_of_restSame_clocks _ _ rest (State.calm_of_ready hs)
    · refine ⟨?_, ?_, ?_, ?_, fun g hg => ?_, ?_, ?_, fun z hz => ?_, rest⟩
      · rw [Dev.fsSt_gckAuto, Dev.fsSt_lolStart]
      · rw [Dev.on_gckAuto_fsSts _ _ _ _ rfl, Dev.on_lolStart_lock]
      · rw [Dev.bit_gckAuto_clkSts, Dev.bit_lolStart]
      · rw [Dev.on_gckAuto_fsSts _ _ _ _ rfl, Dev.on_lolStart_src]
      · rw [Dev.gckSt_gckAuto_written _ _ hg, Dev.gckSt_lolStart]
      · rw [Dev.on, Dev.get_gckAuto _ _ _ (fun g => Dev.clkEvt_ne_gckSel g.val) (.inr (.inl (by decide)))]
        exact Dev.on_lolRecord_lol ..
      · rw [Dev.get_gckAuto _ _ _ (fun g => Dev.clkSts_ne_gckSel g.val) (.inl (by decide))]
        exact (Dev.get_lolRecord_last ..).trans (Nat.mod_eq_of_lt y.isLt)
      · rw [Dev.fsSt_gckAuto, Dev.fsSt_lolStart_ne _ _ _ (Fin.val_ne_of_ne hz)]
  case follows =>
    intro s y drift written g hs hl hf hg hsafe hsrc hauto halt hbusy
    have rest := Dev.restSame_gckAuto y.val written (Dev.restSame_lolStart s.dev y.val drift)
    have moves := (Dev.follows_lolStart drift hsrc hauto halt hbusy).gckAuto y.isLt hg
      ((Dev.safe_lolStart ..).trans hsafe)
    refine State.does_of_calm (f := Dev.fsLol y drift written) (State.live_of_ready hs) rfl ?_ ?_ <;>
      rw [Dev.fsLol_locked drift written hl hf]
    · exact Dev.calm_of_restSame_clocks _ _ rest (State.calm_of_ready hs)
    · exact ⟨moves.busy, moves.onAlt, moves.evt, moves.target, moves.toAlt⟩
  case returns =>
    intro s y hs hw hr
    have rest : s.dev.restSame { (s.dev.setFs y.val { s.dev.fsSt y.val with waitInput := false, relock := true }).raise
        (Reg.FS_STS_SRC_PRESENT y.val) with fs := s.dev.fs } := Dev.restSame_setFs rfl (Dev.restSame_set ..)
    exact State.goes_of_calm (State.live_of_ready hs) rfl (Dev.fsInputReturn_eq hw hr)
      (Dev.calm_of_restSame_fs rest (State.calm_of_ready hs))
  case outEnLocked =>
    intro s who y v hs ht hl hsafe
    obtain ⟨e, run, out, fs, regs, rest⟩ := Dev.fieldWrite_outEn_locked ht hsafe hl
    exact State.does_of_order hs rfl run (Dev.calm_of_restSame_fs rest (State.calm_of_ready hs))
      ⟨rfl, out, fs, regs, Dev.restSame_trans rest (Dev.restSame_reply ..)⟩
  case outEn =>
    intro s who y v hs ht hl hsafe
    obtain ⟨e, run, out, regs, rest⟩ := Dev.fieldWrite_outEn_unlocked ht hsafe hl
    exact State.does_of_order hs rfl run (Dev.calm_of_restSame rest (State.calm_of_ready hs))
      ⟨rfl, out, regs, Dev.restSame_trans rest (Dev.restSame_reply ..)⟩

end Sys2Proof.Machine
end

section
/-! The global buffers and the ring oscillators (R198, R202): a write of GCK_SEL, the end of a switch, and RING_CTL. -/

namespace Sys2Proof.Machine

namespace State

/-- A command that is answered, on a device with nothing to settle afterwards, to the device that it makes. -/
theorem goes_of_order {i : Instr} {s : State} {f : Dev → Dev × Code} {e : Dev} {c : Code} (hs : s.ready = true)
    (hi : exec i s = s.order f) (hf : f s.dev = (e, c)) (hc : e.calm = true) : s.goes i (e.reply c) := by
  refine goes_of_calm (f := fun d => let r := f d; r.1.reply r.2) (live_of_ready hs) hi ?_
    (Dev.calm_of_restSame (Dev.restSame_reply e c) hc)
  rw [hf]

end State

namespace Dev

/-! ## GCK_SEL -/

/-- GCK_SEL holds SRC, ALT, AUTO_ALT, ON_ALT and SWITCH_BUSY (R202). -/
def gckSel : RegDef := ⟨0x10200, 32, 0x4, 1, 0x0, 0x2130, 1, 0,
   [⟨0, 7, .ctl, true, 0x7f, [], false⟩, ⟨7, 7, .ctl, true, 0x7f, [], false⟩, ⟨14, 1, .ctl, false, 0, [], false⟩,
    ⟨15, 1, .sts, false, 0, [], false⟩, ⟨16, 1, .sts, false, 0, [], false⟩]⟩

theorem regAt_gckSel (g : Fin 32) : regAt (Reg.GCK_SEL g.val) = some gckSel := by
  revert g
  decide

theorem fifoAt_gckSel (g : Fin 32) : fifoAt (Reg.GCK_SEL g.val) = none := by
  revert g
  decide

theorem otherHalf_gckSel (g : Fin 32) : otherHalf (Reg.GCK_SEL g.val) = none := by
  revert g
  decide

theorem csrDomain_gckSel (g : Fin 32) : csrDomain (Reg.GCK_SEL g.val) = none := by
  revert g
  decide

theorem gckSel_mem_block (g : Fin 32) : 0x10000 ≤ Reg.GCK_SEL g.val ∧ Reg.GCK_SEL g.val < 0x20000 := by
  simp only [Reg.GCK_SEL]
  omega

theorem gckSel_mem_array (g : Fin 32) : Reg.GCK_SEL 0 ≤ Reg.GCK_SEL g.val ∧ Reg.GCK_SEL g.val < Reg.GCK_SEL 32 := by
  simp only [Reg.GCK_SEL]
  omega

theorem gckSel_place (g : Fin 32) : (Reg.GCK_SEL g.val - Reg.GCK_SEL 0) / 4 = g.val := by
  simp only [Reg.GCK_SEL]
  omega

/-- GCK_SEL has no command. -/
theorem presented_gckSel (co : Nat) (g : Fin 32) (x : Word) : presented co (Reg.GCK_SEL g.val) x = [] := by
  have other : ¬(Reg.FS_CTL 0 ≤ Reg.GCK_SEL g.val ∧ Reg.GCK_SEL g.val < Reg.FS_CTL 16) := by
    simp only [Reg.GCK_SEL, Reg.FS_CTL]
    omega
  rw [presented, cmdsAt_clockBlock co (gckSel_mem_block g), if_neg other, List.filter_nil]

/-- Out of the block's safe state a write of GCK_SEL may start a switch (R202, R207). -/
theorem csrHook_gckSel (g : Fin 32) (old : Word) (lvl was : Bool) {d : Dev}
    (hs : d.safe (Reg.GCK_SEL g.val) = false) :
    csrHook (Reg.GCK_SEL g.val) old lvl was d = gckWritten g.val (fieldOf old 0 7) d := by
  rw [csrHook_clockBlock (gckSel_mem_block g), if_pos (gckSel_mem_array g), if_neg (by simp [hs]), gckSel_place]

theorem src_mem : (⟨0, 7, .ctl, true, 0x7f, [], false⟩ : FieldDef) ∈ gckSel.fields := by decide

/-- A write of GCK_SEL that is taken gives SRC its value (R81). -/
theorem get_written_src (d : Dev) (who : Who) (g : Fin 32) (x : Word) :
    (d.written who (Reg.GCK_SEL g.val) x).get (Reg.GCK_SEL_SRC g.val) = fieldOf x 0 7 :=
  calc (d.written who (Reg.GCK_SEL g.val) x).get (Reg.GCK_SEL_SRC g.val)
      = fieldOf (gckSel.written (d.word (Reg.GCK_SEL g.val)) x) 0 7 :=
        congrArg (fieldOf · 0 7) (word_written_self d who x (regAt_gckSel g))
    _ = fieldOf x 0 7 :=
        RegDef.fieldOf_written_ctl (laidOut_of_mem (mem_blockRegs_of_regAt (regAt_gckSel g))) src_mem _ _ rfl

/-- A buffer whose SRC has changed starts to switch to it (R202). -/
theorem gckWritten_change {g old : Nat} {d : Dev} (h : d.get (Reg.GCK_SEL_SRC g) ≠ old) :
    gckWritten g old d = d.gckStart g (d.get (Reg.GCK_SEL_SRC g)) false := if_pos (.inl h)

theorem restSame_writtenGck (d : Dev) (who : Who) (g : Fin 32) (x : Word) :
    d.restSame (d.written who (Reg.GCK_SEL g.val) x) := restSame_written d who _ _ _ (regAt_gckSel g)

/-- A write of GCK_SEL that is taken and changes SRC, out of the block's safe state. -/
theorem csrWrite_src {d : Dev} {who : Who} {g : Fin 32} {x : Word}
    (h : d.takesWrite who (Reg.GCK_SEL g.val) x = true) (hs : d.safe (Reg.GCK_SEL g.val) = false)
    (hx : fieldOf x 0 7 ≠ d.get (Reg.GCK_SEL_SRC g.val)) : ∃ ix, d.csrWrite who (Reg.GCK_SEL g.val) x =
      (((d.written who (Reg.GCK_SEL g.val) x).gckStart g.val (fieldOf x 0 7) false).touch ix, .ok) := by
  obtain ⟨hu, hq, hp, h1, h2⟩ := clockBlock_ne (gckSel_mem_block g)
  have run := csrWriteCo_of_plain d 0 who (Reg.GCK_SEL g.val) x _ h (presented_gckSel 0 g x) (regAt_gckSel g)
    (fifoAt_gckSel g) hu hq hp h1 h2
  have change : (d.written who (Reg.GCK_SEL g.val) x).get (Reg.GCK_SEL_SRC g.val)
      ≠ fieldOf (d.word (Reg.GCK_SEL g.val)) 0 7 := by rwa [get_written_src]
  rw [csrHook_gckSel g _ _ _ (safe_written who x (regAt_gckSel g) hs), gckWritten_change change, get_written_src] at run
  exact ⟨_, run⟩

/-- The start of a switch, as the buffer's state shows it. -/
theorem gckSt_gckStart (d : Dev) (g src : Nat) (toAlt : Bool) : (d.gckStart g src toAlt).gckSt g =
    { d.gckSt g with target := src, toAlt := toAlt, autoDue := false } := by
  rw [gckStart, raise_eq, gckSt_set, gckSt_setGck_self]

theorem on_busy_gckStart (d : Dev) (g src : Nat) (toAlt : Bool) :
    (d.gckStart g src toAlt).on (Reg.GCK_SEL_SWITCH_BUSY g) = true :=
  on_raise_self _ _ (by decide : 16 + 1 ≤ 32) (by decide : 0 < 1)

theorem get_src_gckStart (d : Dev) (g src : Nat) (toAlt : Bool) :
    (d.gckStart g src toAlt).get (Reg.GCK_SEL_SRC g) = d.get (Reg.GCK_SEL_SRC g) := by
  rw [gckStart, raise_eq, get_set_ne _ _ _ _ (by decide : 16 + 1 ≤ 32) (.inl (by decide : 0 + 7 ≤ 16)), get_setGck]

theorem word_gckStart_ne (d : Dev) {g o : Nat} (src : Nat) (toAlt : Bool) (h : o ≠ Reg.GCK_SEL g) :
    (d.gckStart g src toAlt).word o = d.word o := by
  rw [gckStart, raise_eq, word_set_ne _ _ _ h, word_setGck]

theorem restSame_gckStart {d e : Dev} (g src : Nat) (toAlt : Bool) (ix : Nat) (h : d.restSame e) :
    d.restSame { (e.gckStart g src toAlt).touch ix with gck := d.gck } :=
  restSame_setGck h (restSame_trans (restSame_set ..) (restSame_touch ..))

/-- No code that ranks before the unlock check refuses a write of GCK_SEL but that of the data plane (R22, R44). -/
theorem csrRefusal_gckSel {d : Dev} {who : Who} {g : Fin 32} {x : Word} (h : who.deniedCsr = false) :
    d.csrRefusal who (Reg.GCK_SEL g.val) x = none := by
  have fenced : d.csrFenced (Reg.GCK_SEL g.val) = false := by rw [csrFenced, csrDomain_gckSel]
  have place : ¬0x900000 ≤ Reg.GCK_SEL g.val ∧ Reg.GCK_SEL g.val ≠ Reg.WDT_CTL
      ∧ ¬(Reg.SEC_KEY_DATA 0 ≤ Reg.GCK_SEL g.val ∧ Reg.GCK_SEL g.val < Reg.SEC_KEY_DATA 16) := by
    simp only [Reg.GCK_SEL, Reg.WDT_CTL, Reg.SEC_KEY_DATA]
    omega
  obtain ⟨high, wdt, key⟩ := place
  have key' : ¬(Reg.SEC_KEY_DATA 0 ≤ Reg.GCK_SEL g.val ∧ Reg.GCK_SEL g.val < Reg.SEC_KEY_DATA 16 ∧ who ≠ .mp) :=
    fun h => key ⟨h.1, h.2.1⟩
  rw [csrRefusal, if_neg high, if_neg (by simp [fenced]), if_neg (by simp [h]), if_neg (fun h => wdt h.1), if_neg key',
    presented_gckSel]
  rfl

theorem csrBusy_gckSel {d : Dev} {g : Fin 32} (x : Word) (h : d.on (Reg.GCK_SEL_SWITCH_BUSY g.val) = true) :
    d.csrBusy (Reg.GCK_SEL g.val) x = true := by
  simp [csrBusy, gckSel_mem_array g, gckSel_place, h]

/-- While a switch runs a write of GCK_SEL spends its unlock alone (R44, R202). -/
theorem csrWrite_switching {d : Dev} {who : Who} {g : Fin 32} {x : Word} (hw : who.deniedCsr = false)
    (hu : d.csrGuarded (Reg.GCK_SEL g.val) x = false ∨ d.armed who = true)
    (hb : d.on (Reg.GCK_SEL_SWITCH_BUSY g.val) = true) :
    d.csrWrite who (Reg.GCK_SEL g.val) x = (d.unlocked who (Reg.GCK_SEL g.val) x, .busy) := by
  have admitted := csrAdmit_single (csrRefusal_gckSel hw) (.inr hu)
  have busy : (d.unlocked who (Reg.GCK_SEL g.val) x).csrBusy (Reg.GCK_SEL g.val) x = true :=
    csrBusy_gckSel x (by simpa only [on, get_unlocked] using hb)
  simp [csrWrite, csrWriteCo, admitted, csrRun, csrExec, busy]

/-- An unlock is all that a refused write spends. -/
theorem unlocked_spends (d : Dev) (who : Who) (off : Nat) (x : Word) (c : Code) :
    { (d.unlocked who off x).reply c with unlocks := d.unlocks, answer := d.answer } = d := by
  unfold unlocked
  split <;> rfl

/-! ## The end of a switch (R202) -/

/-- The buffer passes its target. -/
def switchEnd (d : Dev) (g : Nat) : Dev :=
  (((d.setGck g { d.gckSt g with cur := (d.gckSt g).target, autoDue := false }).clear
    (Reg.GCK_SEL_SWITCH_BUSY g)).setBit (Reg.GCK_SEL_ON_ALT g) (d.gckSt g).toAlt).raise Reg.CLK_EVT_GCK_SWITCH_DONE

/-- A switch during which no loss of the SRC synthesizer was noted ends. -/
theorem gckSwitchDone_eq {g : Fin 32} {d : Dev} (hb : d.on (Reg.GCK_SEL_SWITCH_BUSY g.val) = true)
    (ha : (d.gckSt g.val).autoDue = false) : gckSwitchDone g d = d.switchEnd g.val := by
  rw [gckSwitchDone, if_neg (by simp [hb])]
  exact if_neg (by simp [ha])

theorem gckSt_switchEnd {d : Dev} {g : Nat} (ha : (d.gckSt g).autoDue = false) :
    (d.switchEnd g).gckSt g = { d.gckSt g with cur := (d.gckSt g).target } := by
  rw [switchEnd, raise_eq, setBit_eq, clear_eq, gckSt_set, gckSt_set, gckSt_set, gckSt_setGck_self, ← ha]

theorem sts_switchEnd (d : Dev) (g : Nat) : (d.switchEnd g).on (Reg.GCK_SEL_SWITCH_BUSY g) = false
    ∧ (d.switchEnd g).on (Reg.GCK_SEL_ON_ALT g) = (d.gckSt g).toAlt
    ∧ (d.switchEnd g).on Reg.CLK_EVT_GCK_SWITCH_DONE = true := by
  refine ⟨?_, ?_, on_raise_self _ _ (by decide) (by decide)⟩
  · simp [on, switchEnd, raise_eq, setBit_eq, clear_eq, get_set_off, get_set_ne, get_set_self, Reg.GCK_SEL_SWITCH_BUSY,
      Reg.GCK_SEL_ON_ALT, Reg.CLK_EVT_GCK_SWITCH_DONE, gckSel_ne_clkEvt]
  · cases h : (d.gckSt g).toAlt <;> simp [on, switchEnd, raise_eq, setBit_eq, get_set_off, get_set_self,
      Reg.GCK_SEL_ON_ALT, Reg.CLK_EVT_GCK_SWITCH_DONE, gckSel_ne_clkEvt, h]

theorem regsBut_switchEnd (d : Dev) (g : Nat) : d.regsBut [Reg.GCK_SEL g, Reg.CLK_EVT] (d.switchEnd g) := by
  intro o ho
  simp only [List.mem_cons, List.not_mem_nil, or_false, not_or] at ho
  obtain ⟨sel, evt⟩ := ho
  rw [switchEnd, raise_eq, setBit_eq, clear_eq, word_set_ne _ _ _ evt, word_set_ne _ _ _ sel, word_set_ne _ _ _ sel,
    word_setGck]

theorem restSame_switchEnd (d : Dev) (g : Nat) : d.restSame { d.switchEnd g with gck := d.gck } :=
  restSame_setGck rfl (restSame_trans (restSame_set ..) (restSame_trans (restSame_set ..) (restSame_set ..)))

/-! ## Ring oscillators (R198) -/

/-- RING_CTL holds EN, FREQ and MEAS_MHZ. -/
def ringCtl : RegDef := ⟨0x10300, 4, 0x4, 1, 0x0, 0x2150, 1, 0,
   [⟨0, 1, .ctl, false, 0, [], false⟩, ⟨1, 7, .ctl, false, 0, [(0, 120)], false⟩, ⟨16, 10, .sts, false, 0, [], false⟩]⟩

theorem regAt_ringCtl (r : Fin 4) : regAt (Reg.RING_CTL r.val) = some ringCtl := by
  revert r
  decide

theorem fifoAt_ringCtl (r : Fin 4) : fifoAt (Reg.RING_CTL r.val) = none := by
  revert r
  decide

theorem ringCtl_mem_block (r : Fin 4) : 0x10000 ≤ Reg.RING_CTL r.val ∧ Reg.RING_CTL r.val < 0x20000 := by
  simp only [Reg.RING_CTL]
  omega

/-- RING_CTL is neither a GCK_SEL nor a FS_CTL. -/
theorem ringCtl_apart (r : Fin 4) : ¬(Reg.GCK_SEL 0 ≤ Reg.RING_CTL r.val ∧ Reg.RING_CTL r.val < Reg.GCK_SEL 32)
    ∧ ¬(Reg.FS_CTL 0 ≤ Reg.RING_CTL r.val ∧ Reg.RING_CTL r.val < Reg.FS_CTL 16) := by
  simp only [Reg.RING_CTL, Reg.GCK_SEL, Reg.FS_CTL]
  omega

/-- A write of RING_CTL that is taken does no more than store its fields. -/
theorem csrWrite_ringCtl {d : Dev} {who : Who} {r : Fin 4} {x : Word}
    (h : d.takesWrite who (Reg.RING_CTL r.val) x = true) : d.csrWrite who (Reg.RING_CTL r.val) x =
      ((d.written who (Reg.RING_CTL r.val) x).touch (aliasIndex (Reg.RING_CTL r.val)), .ok) := by
  obtain ⟨buffer, synth⟩ := ringCtl_apart r
  obtain ⟨hu, hq, hp, h1, h2⟩ := clockBlock_ne (ringCtl_mem_block r)
  have plain : presented 0 (Reg.RING_CTL r.val) x = [] := by
    rw [presented, cmdsAt_clockBlock 0 (ringCtl_mem_block r), if_neg synth, List.filter_nil]
  rw [csrWrite, csrWriteCo_of_plain d 0 who _ x _ h plain (regAt_ringCtl r) (fifoAt_ringCtl r) hu hq hp h1 h2,
    csrHook_clockBlock (ringCtl_mem_block r), if_neg buffer, if_neg synth]

/-- A ring oscillator that runs is measured against the root. -/
theorem ringMeasure_runs {r : Fin 4} {d : Dev} (mhz : Nat) (hl : d.on Reg.CLK_STS_ROOT_LOCK = true)
    (hr : d.ringRuns r.val = true) : ringMeasure r mhz d = d.set (Reg.RING_CTL_MEAS_MHZ r.val) mhz := if_pos ⟨hl, hr⟩

end Dev

/-- Settles O19, clause by clause: the writes through the rules of the CLOCK block, the events through the equations of
their operations. -/
theorem clockBuffersAndRings : Obligations.ClockBuffersAndRings := by
  refine ⟨?change, ?switching, ?done, ?ring, ?measure⟩
  case change =>
    intro s who g x hs ht hsafe hx
    obtain ⟨ix, run⟩ := Dev.csrWrite_src ht hsafe hx
    have same := Dev.restSame_writtenGck s.dev who g x
    have rest := Dev.restSame_gckStart g.val (fieldOf x 0 7) false ix same
    refine State.does_of_order hs rfl run (Dev.calm_of_restSame_gck rest (State.calm_of_ready hs))
      ⟨rfl, ?_, ?_, ?_, ?_, ?_, fun o ho => ?_, Dev.restSame_trans rest (Dev.restSame_reply ..)⟩
    · rw [Dev.get_reply, Dev.get_touch, Dev.get_src_gckStart, Dev.get_written_src]
    · rw [Dev.on_reply, Dev.on_touch, Dev.on_busy_gckStart]
    · rw [Dev.gckSt_reply, Dev.gckSt_touch, Dev.gckSt_gckStart]
    · rw [Dev.gckSt_reply, Dev.gckSt_touch, Dev.gckSt_gckStart]
    · rw [Dev.gckSt_reply, Dev.gckSt_touch, Dev.gckSt_gckStart, Dev.gckSt_of_restSame same]
    · have apart := List.mem_singleton.not.mp ho
      rw [Dev.word_reply, Dev.word_touch, Dev.word_gckStart_ne _ _ _ apart,
        Dev.word_written_ne _ _ _ (Dev.regAt_gckSel g) (Dev.otherHalf_gckSel g) apart]
  case switching =>
    intro s who g x hs hw hu hb
    exact State.does_of_order hs rfl (Dev.csrWrite_switching hw hu hb)
      (Dev.calm_of_restSame (Dev.restSame_unlocked ..) (State.calm_of_ready hs)) ⟨rfl, Dev.unlocked_spends ..⟩
  case done =>
    intro s g hs hb ha
    have rest := Dev.restSame_switchEnd s.dev g.val
    obtain ⟨busy, onAlt, evt⟩ := Dev.sts_switchEnd s.dev g.val
    refine State.does_of_calm (f := Dev.gckSwitchDone g) (State.live_of_ready hs) rfl ?_ ?_ <;>
      rw [Dev.gckSwitchDone_eq hb ha]
    · exact Dev.calm_of_restSame_gck rest (State.calm_of_ready hs)
    · exact ⟨Dev.gckSt_switchEnd ha, busy, onAlt, evt, Dev.regsBut_switchEnd _ _, rest⟩
  case ring =>
    intro s who r x hs ht
    exact State.goes_of_order hs rfl (Dev.csrWrite_ringCtl ht) (Dev.calm_of_restSame (Dev.restSame_trans
      (Dev.restSame_written _ _ _ _ _ (Dev.regAt_ringCtl r)) (Dev.restSame_touch ..)) (State.calm_of_ready hs))
  case measure =>
    intro s r mhz hs hl hr
    exact State.goes_of_calm (State.live_of_ready hs) rfl (Dev.ringMeasure_runs mhz hl hr)
      (Dev.calm_set _ _ (State.calm_of_ready hs))

end Sys2Proof.Machine
end

section
/-! One root period (R10, R186, R188, R190, R319, R427, R458, R459, R471; log 2): what each of the counters that
it moves writes, and what it leaves of the others. -/

namespace Sys2Proof.Machine
namespace Dev

/-! ## Counters of 64 bits -/

/-- Two registers hold the 64 bits that they were given. -/
theorem get64_set64 (d : Dev) {lo hi : Fld} (ho : lo.off ≠ hi.off) (hl : lo.lsb = 0 ∧ lo.w = 32)
    (hh : hi.lsb = 0 ∧ hi.w = 32) {v : Nat} (hv : v < 2 ^ 64) : (d.set64 lo hi v).get64 lo hi = v := by
  rw [get64, set64, get_set_self _ _ _ (by omega), get_set_off _ _ _ _ ho, get_set_self _ _ _ (by omega), hl.2, hh.2]
  omega

theorem get64_congr {d e : Dev} {lo hi : Fld} (hl : e.word lo.off = d.word lo.off)
    (hh : e.word hi.off = d.word hi.off) : e.get64 lo hi = d.get64 lo hi := by rw [get64, get64, get, get, get, get, hl, hh]

theorem word_set64_ne (d : Dev) {lo hi : Fld} (v : Nat) {o : Nat} (hl : o ≠ lo.off) (hh : o ≠ hi.off) :
    (d.set64 lo hi v).word o = d.word o := by rw [set64, word_set_ne _ _ _ hh, word_set_ne _ _ _ hl]

/-! ## The slot counter (R190, R319) -/

/-- The registers that a change of the level's divisor writes (R190, R413). -/
def levelRegs : List Nat := [Reg.CLK_STS, Reg.CLK_EVT, Reg.PWR_STS, Reg.PWR_EVT]

/-- What no write of those registers and no power state tells the switch to a new divisor keeps. -/
theorem levelSwitch_keeps {α : Type} (p : Dev → α) (hset : ∀ d f v, f.off ∈ levelRegs → p (set d f v) = p d)
    (hpwr : ∀ (d : Dev) x, p { d with pwr := x } = p d) (d : Dev) : p d.levelSwitch = p d := by
  have divisor : ∀ (d : Dev) l, p (((d.set Reg.CLK_STS_NOC_DIV (levelDiv l)).raise Reg.CLK_EVT_LEVEL_SWITCH).set
      Reg.PWR_STS_LEVEL l) = p d := fun d l =>
    (hset _ _ _ (by decide)).trans ((hset _ _ _ (by decide)).trans (hset _ _ _ (by decide)))
  have ends : ∀ d, p (levelEnd d true) = p d := fun d =>
    (hset _ Reg.PWR_EVT_LEVEL_DONE 1 (by decide)).trans ((hset _ Reg.PWR_STS_LEVEL_BUSY 0 (by decide)).trans (hpwr ..))
  unfold levelSwitch
  split
  · rfl
  · split
    · rfl
    · extract_lets up d1 x d2
      have switched : p d2 = p d := (hpwr d1 _).trans (divisor ..)
      split
      · exact (ends d2).trans switched
      · exact (hpwr d2 _).trans switched

theorem word_levelSwitch (d : Dev) {o : Nat} (h : o ∉ levelRegs) : d.levelSwitch.word o = d.word o :=
  levelSwitch_keeps (·.word o) (fun _ _ _ hf => word_set_ne _ _ _ (fun e => h (e ▸ hf))) (fun _ _ => rfl) d

theorem noc_levelSwitch (d : Dev) : d.levelSwitch.noc = d.noc :=
  levelSwitch_keeps Dev.noc (fun _ _ _ _ => set_noc ..) (fun _ _ => rfl) d

/-- The slot counter crosses into the next slot, the last of a schedule cycle being followed by the first. -/
def nextSlot (d : Dev) : Dev :=
  ({ d with noc := { d.noc with phase := 0, slotNum := d.noc.slotNum + 1 } } : Dev).set Reg.NOC_STS_SLOT
    ((d.get Reg.NOC_STS_SLOT + 1) % 256)

/-- The slot counter stays in its slot. -/
def sameSlot (d : Dev) : Dev := { d with noc := { d.noc with phase := d.noc.phase + 1 } }

theorem noc_sameSlot (d : Dev) : d.sameSlot.noc = { d.noc with phase := d.noc.phase + 1 } := (rfl)

theorem get_sameSlot (d : Dev) (f : Fld) : d.sameSlot.get f = d.get f := (rfl)

theorem tickSlot_next {d : Dev} (h : 8 * d.get Reg.CLK_STS_NOC_DIV ≤ d.noc.phase + 1) :
    d.tickSlot = d.nextSlot.levelSwitch := if_pos h

theorem tickSlot_same {d : Dev} (h : d.noc.phase + 1 < 8 * d.get Reg.CLK_STS_NOC_DIV) : d.tickSlot = d.sameSlot :=
  if_neg (Nat.not_le.mpr h)

/-- What neither the slot counter nor a change of the divisor tells a step of the slot counter keeps. -/
theorem tickSlot_keeps {α : Type} (p : Dev → α)
    (hset : ∀ d f v, f.off = Reg.NOC_STS ∨ f.off ∈ levelRegs → p (set d f v) = p d)
    (hpwr : ∀ (d : Dev) x, p { d with pwr := x } = p d) (hnoc : ∀ (d : Dev) x, p { d with noc := x } = p d) (d : Dev) :
    p d.tickSlot = p d := by
  by_cases h : 8 * d.get Reg.CLK_STS_NOC_DIV ≤ d.noc.phase + 1
  · rw [tickSlot_next h, levelSwitch_keeps p (fun d f v hf => hset d f v (.inr hf)) hpwr]
    exact (hset _ _ _ (.inl rfl)).trans (hnoc ..)
  · rw [tickSlot_same (Nat.not_le.mp h)]
    exact hnoc ..

theorem word_tickSlot (d : Dev) {o : Nat} (hn : o ≠ Reg.NOC_STS) (hl : o ∉ levelRegs) : d.tickSlot.word o = d.word o :=
  tickSlot_keeps (·.word o)
    (fun _ _ _ hf => word_set_ne _ _ _ (fun e => hf.elim (fun h => hn (e.trans h)) (fun h => hl (e ▸ h))))
    (fun _ _ => rfl) (fun _ _ => rfl) d

theorem calm_tickSlot (d : Dev) : d.tickSlot.calm = d.calm :=
  tickSlot_keeps Dev.calm (fun _ _ _ _ => calm_congr rfl rfl rfl rfl rfl) (fun _ _ => calm_congr rfl rfl rfl rfl rfl)
    (fun _ _ => calm_congr rfl rfl rfl rfl rfl) d

theorem mp_tickSlot (d : Dev) : d.tickSlot.mp = d.mp :=
  tickSlot_keeps Dev.mp (fun _ _ _ _ => set_mp ..) (fun _ _ => rfl) (fun _ _ => rfl) d

theorem pack_tickSlot (d : Dev) : d.tickSlot.pack = d.pack :=
  tickSlot_keeps Dev.pack (fun _ _ _ _ => set_pack ..) (fun _ _ => rfl) (fun _ _ => rfl) d

theorem time_tickSlot (d : Dev) : d.tickSlot.time = d.time :=
  tickSlot_keeps Dev.time (fun _ _ _ _ => set_time ..) (fun _ _ => rfl) (fun _ _ => rfl) d

/-- A slot ends: the counter goes on to the next. -/
theorem slot_tickSlot_next {d : Dev} (h : 8 * d.get Reg.CLK_STS_NOC_DIV ≤ d.noc.phase + 1) :
    d.tickSlot.noc.phase = 0 ∧ d.tickSlot.get Reg.NOC_STS_SLOT = (d.get Reg.NOC_STS_SLOT + 1) % 256 := by
  have word : d.tickSlot.word Reg.NOC_STS = d.nextSlot.word Reg.NOC_STS := by
    rw [tickSlot_next h, word_levelSwitch _ (by decide)]
  have slot : d.nextSlot.get Reg.NOC_STS_SLOT = (d.get Reg.NOC_STS_SLOT + 1) % 256 % 256 :=
    get_set_self _ _ _ (by decide)
  refine ⟨?_, ?_⟩
  · rw [tickSlot_next h, noc_levelSwitch, nextSlot, set_noc]
  · rw [← Nat.mod_mod, ← slot]
    exact congrArg (fieldOf · 4 8) word

/-! ## A root period -/

/-- The root's own counters. -/
def tickRoot (d : Dev) : Dev :=
  (d.set64 (Reg.ROOT_CNT_WORD 0) (Reg.ROOT_CNT_WORD 1)
    ((d.get64 (Reg.ROOT_CNT_WORD 0) (Reg.ROOT_CNT_WORD 1) + 1) % 2 ^ 64)).tickSlot

/-- The model's own time, and the fraction of a tick of the watchdog that has passed. -/
def tickTime (d : Dev) : Dev := { d with time := d.time + 1, wdtFrac := d.wdtFrac + 2 }

theorem tick_dark {d : Dev} (h : d.start.vauxOn = false) : d.tick = { d with time := d.time + 1 } := by
  rw [tick, if_pos (by simp [h])]

section
variable {d : Dev} (hv : d.start.vauxOn = true) (hl : d.on Reg.CLK_STS_ROOT_LOCK = true)
  (hw : d.wdtFrac + 2 < 390625)
include hv hl hw

/-- Between the edges of the domains of ratio 16. -/
theorem tick_between (he : (d.time + 1 - d.rootT0) % 16 ≠ 0) : d.tick = d.tickTime.tickRoot.settle := by
  have wdt : ({ d with time := d.time + 1 } : Dev).tickWdt = d.tickTime := if_pos hw
  simp only [tick, hv, hl, he, wdt, Bool.not_true, Bool.false_eq_true, if_false, if_true]
  rfl

/-- At an edge of the domains of ratio 16. -/
theorem tick_edge (he : (d.time + 1 - d.rootT0) % 16 = 0) :
    d.tick = d.tickTime.tickMp.tickRoot.tickPack.settle := by
  have wdt : ({ d with time := d.time + 1 } : Dev).tickWdt = d.tickTime := if_pos hw
  simp only [tick, hv, hl, he, wdt, Bool.not_true, Bool.false_eq_true, if_false, if_true]
  rfl

end

/-! ## What the parts of a root period leave -/

theorem calm_tickTime (d : Dev) : d.tickTime.calm = d.calm := calm_congr rfl rfl rfl rfl rfl

theorem calm_set64 (d : Dev) (lo hi : Fld) (v : Nat) : (d.set64 lo hi v).calm = d.calm := calm_congr rfl rfl rfl rfl rfl

theorem calm_tickRoot (d : Dev) : d.tickRoot.calm = d.calm := by rw [tickRoot, calm_tickSlot, calm_set64]

theorem word_tickRoot (d : Dev) {o : Nat} (h0 : o ≠ Reg.ROOT_CNT 0) (h1 : o ≠ Reg.ROOT_CNT 1) (hn : o ≠ Reg.NOC_STS)
    (hl : o ∉ levelRegs) : d.tickRoot.word o = d.word o := by
  rw [tickRoot, word_tickSlot _ hn hl, word_set64_ne _ _ h0 h1]

theorem mp_tickRoot (d : Dev) : d.tickRoot.mp = d.mp := by rw [tickRoot, mp_tickSlot, set64, set_mp, set_mp]

theorem pack_tickRoot (d : Dev) : d.tickRoot.pack = d.pack := by rw [tickRoot, pack_tickSlot, set64, set_pack, set_pack]

theorem time_tickRoot (d : Dev) : d.tickRoot.time = d.time := by rw [tickRoot, time_tickSlot, set64, set_time, set_time]

theorem rootCnt_tickRoot (d : Dev) : d.tickRoot.get64 (Reg.ROOT_CNT_WORD 0) (Reg.ROOT_CNT_WORD 1) =
    (d.get64 (Reg.ROOT_CNT_WORD 0) (Reg.ROOT_CNT_WORD 1) + 1) % 2 ^ 64 := by
  rw [tickRoot, get64_congr (word_tickSlot _ (by decide) (by decide)) (word_tickSlot _ (by decide) (by decide)),
    get64_set64 _ (by decide) (by decide) (by decide) (Nat.mod_lt _ (by decide))]

theorem packTime_tickRoot (d : Dev) : d.tickRoot.packTime = d.packTime :=
  get64_congr (word_tickRoot _ (by decide) (by decide) (by decide) (by decide))
    (word_tickRoot _ (by decide) (by decide) (by decide) (by decide))

/-- A step of the root count leaves the slot counter to its own. -/
theorem slot_rootCnt (d : Dev) (v : Nat) : (d.set64 (Reg.ROOT_CNT_WORD 0) (Reg.ROOT_CNT_WORD 1) v).noc = d.noc
    ∧ (d.set64 (Reg.ROOT_CNT_WORD 0) (Reg.ROOT_CNT_WORD 1) v).get Reg.CLK_STS_NOC_DIV = d.get Reg.CLK_STS_NOC_DIV
    ∧ (d.set64 (Reg.ROOT_CNT_WORD 0) (Reg.ROOT_CNT_WORD 1) v).get Reg.NOC_STS_SLOT = d.get Reg.NOC_STS_SLOT := by
  refine ⟨by rw [set64, set_noc, set_noc], ?_, ?_⟩ <;>
    rw [set64, get_set_off _ _ _ _ (by decide), get_set_off _ _ _ _ (by decide)]

theorem slot_tickRoot_next {d : Dev} (h : 8 * d.get Reg.CLK_STS_NOC_DIV ≤ d.noc.phase + 1) :
    d.tickRoot.noc.phase = 0 ∧ d.tickRoot.get Reg.NOC_STS_SLOT = (d.get Reg.NOC_STS_SLOT + 1) % 256 := by
  obtain ⟨noc, div, slot⟩ := slot_rootCnt d ((d.get64 (Reg.ROOT_CNT_WORD 0) (Reg.ROOT_CNT_WORD 1) + 1) % 2 ^ 64)
  rw [← slot]
  exact slot_tickSlot_next (by rw [div, noc]; exact h)

theorem slot_tickRoot_same {d : Dev} (h : d.noc.phase + 1 < 8 * d.get Reg.CLK_STS_NOC_DIV) :
    d.tickRoot.noc.phase = d.noc.phase + 1 ∧ d.tickRoot.get Reg.NOC_STS_SLOT = d.get Reg.NOC_STS_SLOT := by
  obtain ⟨noc, div, slot⟩ := slot_rootCnt d ((d.get64 (Reg.ROOT_CNT_WORD 0) (Reg.ROOT_CNT_WORD 1) + 1) % 2 ^ 64)
  rw [tickRoot, tickSlot_same (by rw [div, noc]; exact h), get_sameSlot, slot, noc_sameSlot, noc]
  exact ⟨rfl, rfl⟩

/-- With the root locked, between those edges, a calm device has nothing to settle after a root period. -/
theorem tick_between_calm {d : Dev} (hv : d.start.vauxOn = true) (hc : d.calm = true)
    (hl : d.on Reg.CLK_STS_ROOT_LOCK = true) (hw : d.wdtFrac + 2 < 390625)
    (he : (d.time + 1 - d.rootT0) % 16 ≠ 0) : d.tick = d.tickTime.tickRoot := by
  rw [tick_between hv hl hw he, settle_of_calm]
  rw [calm_tickRoot, calm_tickTime, hc]

/-! ## The processor and pack time (R188, R427, R471) -/

theorem mp_tickMp {d : Dev} (h : d.mpHeld = false) : ∃ hit, d.tickMp =
    d.setMp { d.mp with cyc := d.mp.cyc + 1, timerHit := hit } := ⟨_, if_neg (by simp [h])⟩

/-- CYC and the timer do not have to settle. -/
theorem calm_tickMp (d : Dev) : d.tickMp.calm = d.calm := by
  unfold tickMp
  split <;> rfl

theorem setPack_mp (d : Dev) (x : PackSt) : (d.setPack x).mp = d.mp := (rfl)

theorem calm_setPack (d : Dev) (x : PackSt) : (d.setPack x).calm = d.calm := calm_congr rfl rfl rfl rfl rfl

/-- A step of pack time writes its two registers and the fraction that its trim has gathered. -/
theorem tickPack_eq (d : Dev) : ∃ v x, d.tickPack =
    (d.set64 (Reg.PACK_TIME_WORD 0) (Reg.PACK_TIME_WORD 1) v).setPack x := ⟨_, _, (rfl)⟩

theorem mp_tickPack (d : Dev) : d.tickPack.mp = d.mp := by
  obtain ⟨v, x, run⟩ := tickPack_eq d
  rw [run, setPack_mp, set64, set_mp, set_mp]

theorem calm_tickPack (d : Dev) : d.tickPack.calm = d.calm := by
  obtain ⟨v, x, run⟩ := tickPack_eq d
  rw [run, calm_setPack, calm_set64]

/-- Without a trim pack time goes on by 16 root periods. -/
theorem packTime_tickPack {d : Dev} (ht : d.word Reg.PACK_TRIM = 0#32) (hf : d.pack.frac = 0) :
    d.tickPack.packTime = (d.packTime + 16) % 2 ^ 64 := by
  have gathered : d.pack.frac + 16 * (d.word Reg.PACK_TRIM).toInt = 0 := by rw [hf, ht]; decide
  have time : (((d.packTime : Int) + 16) % 2 ^ 64).toNat = (d.packTime + 16) % 2 ^ 64 := by omega
  have fits : (d.packTime + 16) % 2 ^ 64 < 2 ^ 64 := Nat.mod_lt _ (by decide)
  rw [← time] at fits ⊢
  simp only [tickPack, gathered, Int.zero_ediv, Int.add_zero]
  exact (get64_congr (word_setPack ..) (word_setPack ..)).trans (get64_set64 d (by decide) (by decide) (by decide) fits)

/-- The same at an edge. -/
theorem tick_edge_calm {d : Dev} (hv : d.start.vauxOn = true) (hc : d.calm = true)
    (hl : d.on Reg.CLK_STS_ROOT_LOCK = true) (hw : d.wdtFrac + 2 < 390625)
    (he : (d.time + 1 - d.rootT0) % 16 = 0) : d.tick = d.tickTime.tickMp.tickRoot.tickPack := by
  rw [tick_edge hv hl hw he, settle_of_calm]
  rw [calm_tickPack, calm_tickRoot, calm_tickMp, calm_tickTime, hc]

/-! ## The watchdog (R458, R459) -/

theorem wdtCounts_withWdtFrac (d : Dev) (n : Nat) : ({ d with wdtFrac := n } : Dev).wdtCounts = d.wdtCounts := (rfl)

theorem get_withWdtFrac (d : Dev) (n : Nat) (f : Fld) : ({ d with wdtFrac := n } : Dev).get f = d.get f := (rfl)

/-- A tick that is not the last of its count. -/
theorem tickWdt_counts {d : Dev} (hw : 390625 ≤ d.wdtFrac + 2) (hc : d.wdtCounts = true)
    (hr : 1 < d.get Reg.WDT_STS_REMAIN) : d.tickWdt =
      ({ d with wdtFrac := d.wdtFrac + 2 - 390625 } : Dev).set Reg.WDT_STS_REMAIN (d.get Reg.WDT_STS_REMAIN - 1) := by
  have more : d.get Reg.WDT_STS_REMAIN - 1 ≠ 0 := by omega
  rw [tickWdt, if_neg (by omega)]
  simp only [wdtCounts_withWdtFrac, get_withWdtFrac, hc, Bool.not_true, Bool.false_eq_true, if_false, if_neg more]

end Dev

/-- Settles O50, clause by clause, from the parts of a root period. -/
theorem time : Obligations.Time := by
  refine ⟨fun _ => Dev.tick_dark, ?count, ?slot, ?edge, ?watchdog⟩
  case count =>
    intro d hv hc hl hw he
    rw [Dev.tick_between_calm hv hc hl hw he]
    exact ⟨Dev.time_tickRoot _, Dev.rootCnt_tickRoot _, congrArg MpSt.cyc (Dev.mp_tickRoot _), Dev.packTime_tickRoot _⟩
  case slot =>
    intro d hv hc hl hw he
    rw [Dev.tick_between_calm hv hc hl hw he]
    exact ⟨fun h => Dev.slot_tickRoot_next (d := d.tickTime) h, fun h => Dev.slot_tickRoot_same (d := d.tickTime) h⟩
  case edge =>
    intro d hv hc hl hw he hm ht hf
    obtain ⟨hit, mp⟩ := Dev.mp_tickMp (d := d.tickTime) hm
    have trim : d.tickTime.tickMp.tickRoot.word Reg.PACK_TRIM = 0#32 := by
      rw [Dev.word_tickRoot _ (by decide) (by decide) (by decide) (by decide), mp]
      exact ht
    have frac : d.tickTime.tickMp.tickRoot.pack.frac = 0 := by
      rw [Dev.pack_tickRoot, mp]
      exact hf
    rw [Dev.tick_edge_calm hv hc hl hw he, Dev.packTime_tickPack trim frac, Dev.mp_tickPack, Dev.mp_tickRoot,
      Dev.packTime_tickRoot, mp]
    exact ⟨rfl, rfl⟩
  case watchdog =>
    intro d hv hw hc hr
    have small : d.get Reg.WDT_STS_REMAIN < 2 ^ 22 := fieldOf_lt _ 0 22
    rw [Dev.tickWdt_counts hw hc hr, Dev.get_set_self _ _ _ (by decide)]
    exact ⟨Nat.mod_eq_of_lt (lt_of_le_of_lt (Nat.sub_le _ 1) small), Dev.set_wdtFrac ..⟩

end Sys2Proof.Machine
end

section
/-! A LOAD whose stream lies in a channel that sleeps (R218, R410): in compatibility mode the read of the header meets
the channel's closed guard, and with the end of the command the channel's return to D0 starts. -/

namespace Sys2Proof.Machine

/-- The device as the command of LOAD leaves it, answered, before it settles. -/
def Dev.loadAnswered (who : Who) (n : Region) (d : Dev) : Dev :=
  let r := d.command who (Reg.RGN_CTL_LOAD n.val)
  r.1.reply r.2

/-- A LOAD on a live device ends where the device has settled after its command. -/
theorem State.settle_of_goes_load {who : Who} {n : Region} {s : State} {e : Dev} (hl : s.live = true)
    (h : s.goes (.load who n) e) : (s.dev.loadAnswered who n).settle = e := by
  have run := (order_of_live (Dev.command who (Reg.RGN_CTL_LOAD n.val)) s hl).symm.trans h
  exact congrArg State.dev (Host.Outcome.next.inj run)

/-- The device that the statement has a taken LOAD end with: the shadow plane was LOADING, and the header has been read
and checked (R218). -/
def Dev.loadClaim (who : Who) (n : Region) (d : Dev) : Dev :=
  let a := d.get (Reg.RGN_SRC_HI_SRC n.val) * 2 ^ 32 + d.get (Reg.RGN_SRC_LO_SRC n.val)
  let d1 := (((d.writtenCmd who (Reg.RGN_CTL_LOAD n.val)).shadowEmpty n.val).set
    (Reg.RGN_STS_SHADOW n.val) ssLoading).cmdStart (0x3800 + n.val) 1
  ((((d1.loadBegin { kind := 2, src := .dram a, region := n.val, touched := [n.val] }).dramHeader a
    (d.get (Reg.RGN_LEN_LEN n.val))).showScrub).touch (aliasIndex (Reg.RGN_CTL n.val))).reply .ok

/-- A device past start-up, in compatibility mode: channel 0 is in D1 behind its closed guard, channel 1 is retired, and
the stream of region 3 starts with the last line of channel 0. -/
def sleepingSourceFields : List (Fld × Nat) :=
  [(Reg.START_STS_STEP, 0), (Reg.START_STS_RAILS_OK, 1), (Reg.CLK_STS_ROOT_LOCK, 1), (Reg.PWR_CTL_COMPAT_WAKE, 1),
   (Reg.DOM_STS_STATE 16, 1), (Reg.DOM_STS_GUARD_CLOSED 16, 1), (Reg.NI_STS_GUARD_CLOSED 128, 1),
   (Reg.CH_RETIRED_MASK, 2), (Reg.RGN_SRC_LO_SRC 3, 0x3FFFFFC0), (Reg.RGN_LEN_LEN 3, 0x2000)]

/-- The same, with an unlock armed for the processor's LOAD. -/
def sleepingSource : State :=
  { dev := { sleepingSourceFields.foldl (fun d e => d.set e.1 e.2) State.reset.dev with unlocks := [.mp] } }

/-- Nothing refuses the LOAD. -/
theorem sleepingSource_takes_load : sleepingSource.ready = true
    ∧ sleepingSource.dev.takes .mp (Reg.RGN_CTL_LOAD (3 : Region).val) = true ∧ sleepingSource.dev.load = none
    ∧ sleepingSource.dev.rstate (3 : Region).val ≠ rsSwapping
    ∧ Dev.streamAddrOk (sleepingSource.dev.get (Reg.RGN_SRC_HI_SRC (3 : Region).val) * 2 ^ 32
        + sleepingSource.dev.get (Reg.RGN_SRC_LO_SRC (3 : Region).val)) = true := by decide +kernel

/-- The LOAD wakes channel 0 (R410). -/
theorem sleepingSource_load_wakes :
    (sleepingSource.dev.loadAnswered .mp 3).settle.on (Reg.DOM_STS_WAKING 16) = true := by decide +kernel

/-- In the device of the statement channel 0 still sleeps. -/
theorem sleepingSource_loadClaim_sleeps :
    (sleepingSource.dev.loadClaim .mp 3).on (Reg.DOM_STS_WAKING 16) = false := by decide +kernel

/-- Refutes O20: the clause for LOAD leaves out the end of the command, which wakes the channel whose closed guard the
read of the header has met (R410). -/
theorem not_regionCommands : ¬ Obligations.RegionCommands := by
  intro h
  obtain ⟨ready, taken, idle, still, aligned⟩ := sleepingSource_takes_load
  have claimed : sleepingSource.goes (.load .mp 3) (sleepingSource.dev.loadClaim .mp 3) :=
    h.1 sleepingSource .mp 3 ready taken idle still aligned
  have settled := State.settle_of_goes_load (State.live_of_ready ready) claimed
  have wakes := sleepingSource_load_wakes
  rw [settled, sleepingSource_loadClaim_sleeps] at wakes
  cases wakes

end Sys2Proof.Machine
end

section
/-! A failed start-up attempt while the TAP is in HIGHZ (R449, R450, R484): the device asks for INITN low, but its
boundary outputs are high-impedance, and the pin reads what the board makes of it. -/

namespace Sys2Proof.Machine
namespace Dev

/-- INITN_PIN shows the level at the pin: low while the board or the device drives it (R484). -/
theorem on_initnPin_showInitn (d : Dev) : d.showInitn.on Reg.START_STS_INITN_PIN =
    (!d.start.initnHeld && !d.drivesLow 5 d.start.initnDriven) := by
  rw [on, showInitn, setBit_eq, get_set_self _ _ _ (by decide)]
  cases (!d.start.initnHeld && !d.drivesLow 5 d.start.initnDriven) <;> rfl

/-- In HIGHZ the device drives no pin of the boundary register (R449, R450). -/
theorem drivesLow_of_highz {d : Dev} (h : d.tap.ir = 3) (k : Nat) (own : Bool) : d.drivesLow k own = false := if_pos h

/-- What a failed attempt records before it drives INITN (R256). -/
def attemptFailed (d : Dev) (c : Nat) : Dev :=
  (((((d.setBoot { d.boot with failed := none, failures := d.boot.failures + 1, backoff := true, server := none, out := []
                               arrived := [], finish := none, gaps := [] }).count Reg.CFG_BOOT_ATTEMPTS_ATTEMPTS).raise
    Reg.CFG_EVT_BOOT_RETRY).set Reg.CFG_BOOT_STS_LAST_CAUSE c).clear Reg.CFG_BOOT_STS_ACTIVE).set
      Reg.CFG_BOOT_WAIT_WAIT_MS (if d.boot.failures < 13 then 2 ^ d.boot.failures else 8000)

/-- The device asks for INITN low. -/
def driveInitn (d : Dev) : Dev := { d with start := { d.start with initnDriven := true } }

/-- A failed attempt is recorded, and INITN is driven as far as the TAP lets the device drive it (R256, R484). -/
theorem loaderAttemptFail_eq {d : Dev} {c : Nat} (h : d.boot.failed = some c) :
    loaderAttemptFail d = (d.attemptFailed c).driveInitn.showInitn := by
  simp only [loaderAttemptFail, h]
  rfl

theorem restSame_count (d : Dev) (f : Fld) (n : Nat) : d.restSame (d.count f n) := restSame_set ..

/-- The loader's state apart, the record of a failed attempt is in the registers. -/
theorem attemptFailed_restSame (d : Dev) (c : Nat) : ∃ b, (d.setBoot b).restSame (d.attemptFailed c) := by
  unfold attemptFailed
  rw [raise_eq, clear_eq]
  exact ⟨_, restSame_trans (restSame_count ..) (restSame_trans (restSame_set ..) (restSame_trans (restSame_set ..)
    (restSame_trans (restSame_set ..) (restSame_set ..))))⟩

theorem start_of_restSame {d e : Dev} (h : d.restSame e) : e.start = d.start := by
  unfold restSame at h
  exact (congrArg Dev.start h :)

theorem tap_of_restSame {d e : Dev} (h : d.restSame e) : e.tap = d.tap := by
  unfold restSame at h
  exact (congrArg Dev.tap h :)

theorem calm_setBoot (d : Dev) (b : BootSt) : (d.setBoot b).calm = d.calm := calm_congr rfl rfl rfl rfl rfl

theorem setBoot_tap (d : Dev) (b : BootSt) : (d.setBoot b).tap = d.tap := rfl

theorem setBoot_start (d : Dev) (b : BootSt) : (d.setBoot b).start = d.start := rfl

theorem calm_driveInitn (d : Dev) : d.driveInitn.calm = d.calm := rfl

theorem driveInitn_tap (d : Dev) : d.driveInitn.tap = d.tap := rfl

theorem driveInitn_start (d : Dev) : d.driveInitn.start = { d.start with initnDriven := true } := rfl

/-- A failed attempt leaves nothing to settle. -/
theorem calm_loaderAttemptFail {d : Dev} {c : Nat} (h : d.boot.failed = some c) (hc : d.calm = true) :
    (loaderAttemptFail d).calm = true := by
  obtain ⟨b, same⟩ := attemptFailed_restSame d c
  rw [loaderAttemptFail_eq h]
  refine calm_set _ _ ((calm_driveInitn _).trans (calm_of_restSame same ?_))
  rw [calm_setBoot, hc]

/-- The TAP alone decides whether a pin follows the device. -/
theorem drivesLow_congr {d e : Dev} (h : e.tap = d.tap) (k : Nat) (own : Bool) :
    e.drivesLow k own = d.drivesLow k own := by
  rw [drivesLow, drivesLow, tapOwns, tapOwns, h]

/-- INITN after a failed attempt. -/
theorem on_initnPin_loaderAttemptFail {d : Dev} {c : Nat} (h : d.boot.failed = some c) :
    (loaderAttemptFail d).on Reg.START_STS_INITN_PIN = (!d.start.initnHeld && !d.drivesLow 5 true) := by
  obtain ⟨b, same⟩ := attemptFailed_restSame d c
  have tap : (d.attemptFailed c).driveInitn.tap = d.tap := by rw [driveInitn_tap, tap_of_restSame same, setBoot_tap]
  have start : (d.attemptFailed c).start = d.start := by rw [start_of_restSame same, setBoot_start]
  rw [loaderAttemptFail_eq h, on_initnPin_showInitn, drivesLow_congr tap, driveInitn_start, start]

/-- In HIGHZ a failed attempt leaves INITN high where the board does not hold it low. -/
theorem initnPin_high_of_highz {d : Dev} {c : Nat} (h : d.boot.failed = some c) (hz : d.tap.ir = 3)
    (hb : d.start.initnHeld = false) : (loaderAttemptFail d).on Reg.START_STS_INITN_PIN = true := by
  rw [on_initnPin_loaderAttemptFail h, drivesLow_of_highz hz, hb]
  rfl

end Dev

/-- LOADER_ATTEMPT_FAIL on a device with nothing to settle ends where its effect does. -/
theorem State.dev_of_does_loaderAttemptFail {s : State} {c : Nat} {P : Dev → Prop} (hs : s.ready = true)
    (hf : s.dev.boot.failed = some c) (h : s.does .loaderAttemptFail P) : P (Dev.loaderAttemptFail s.dev) := by
  obtain ⟨t, run, -, holds⟩ := h
  have calm := Dev.calm_loaderAttemptFail hf (calm_of_ready hs)
  have next := (event_of_calm Dev.loaderAttemptFail s (live_of_ready hs) calm).symm.trans run
  rw [← Host.Outcome.next.inj next] at holds
  exact holds

/-- A device in step 6, its rails in range and its root locked: the board does not hold INITN, and the attempt on the
network has just failed with cause SOURCE. -/
def failedAttempt : State :=
  let d := [(Reg.START_STS_STEP, 6), (Reg.START_STS_RAILS_OK, 1), (Reg.CLK_STS_ROOT_LOCK, 1),
    (Reg.START_STS_INITN_PIN, 1)].foldl (fun d e => d.set e.1 e.2) State.reset.dev
  { dev := { d with
    boot := { running := true, failed := some 0x13, last := some 3 }, start := { d.start with initnDriven := false } } }

/-- The same device after the TAP has taken HIGHZ. -/
def failedAttemptInHighz : State := failedAttempt.run Dev.highz

theorem failedAttempt_live : failedAttempt.live = true := by decide +kernel

/-- HIGHZ leads from the one to the other. -/
theorem exec_highz_failedAttempt : exec .highz failedAttempt = .next failedAttemptInHighz :=
  State.event_of_live Dev.highz failedAttempt failedAttempt_live

/-- What the failed attempt finds in HIGHZ. -/
theorem failedAttemptInHighz_holds : failedAttemptInHighz.ready = true
    ∧ failedAttemptInHighz.dev.boot.failed = some 0x13 ∧ failedAttemptInHighz.dev.tap.ir = 3
    ∧ failedAttemptInHighz.dev.start.initnHeld = false := by decide +kernel

/-- Refutes O23: the clause of a failed attempt has INITN_PIN read 0, but a TAP in HIGHZ keeps the device from driving
INITN (R449, R450), and with the board not holding it the pin reads 1. -/
theorem not_startupLoader : ¬ Obligations.StartupLoader := by
  intro h
  obtain ⟨-, -, failedAttemptClause, -⟩ := h
  obtain ⟨ready, failed, highz, released⟩ := failedAttemptInHighz_holds
  have claimed := State.dev_of_does_loaderAttemptFail ready failed
    (failedAttemptClause failedAttemptInHighz 0x13 ready failed (by decide))
  obtain ⟨-, -, -, -, -, -, -, -, -, -, low, -⟩ := claimed
  have high := Dev.initnPin_high_of_highz failed highz released
  rw [low] at high
  cases high

end Sys2Proof.Machine
end

section
/-! A slot of the active sweep that reloads a frame from a golden store that sleeps (R267, R275, R410): the read of the
golden entry meets channel 31's closed guard, and with the end of the command the channel's return to D0 starts. -/

namespace Sys2Proof.Machine

/-- A slot on a live device ends where the device has settled after it. -/
theorem State.settle_of_goes_scrubSlot {ups : List (Nat × Fin 4192)} {edge : Bool} {s : State} {e : Dev}
    (hl : s.live = true) (h : s.goes (.scrubSlot ups edge) e) : (s.dev.scrubSlot ups edge).settle = e := by
  have run := (State.event_of_live (Dev.scrubSlot ups edge) s hl).symm.trans h
  exact congrArg State.dev (Host.Outcome.next.inj run)

/-- The device that the statement has a slot of the active sweep end with (R267, R268). -/
def Dev.activeSlotClaim (ups : List (Nat × Fin 4192)) (d : Dev) : Dev :=
  let x := ((d.frameUpset ups).setScrub { d.scrub with slots := d.scrub.slots + 1 }).activeSlot
  match x.1 with
  | none => x.2.showScrub
  | some (n, p, f) => (if x.2.planeHolds n p then x.2.scrubOutcome n p f (x.2.frame n p f) else x.2).showScrub

/-- The first clause of the statement, over the name of the device that it claims. -/
theorem State.goes_activeSlotClaim (h : Obligations.Scrubbing) (ups : List (Nat × Fin 4192)) {s : State}
    (ready : s.ready = true) (enabled : s.dev.ctlOn Reg.SCRUB_CTL_ENABLE = true) (goesOn : s.dev.scrub.passOver = false)
    (noFix : s.dev.scrub.pending = []) (noBuild : s.dev.scrub.building = none) (noQueue : s.dev.scrub.builds = [])
    (inPass : s.dev.scrub.passOn = true) (active : s.dev.scrub.slots % 16 ≠ 15) :
    s.goes (.scrubSlot ups false) (s.dev.activeSlotClaim ups) :=
  h.1 s ups ready enabled goesOn noFix noBuild noQueue inPass active

/-- A device past start-up, in compatibility mode: region 3 is ACTIVE with a valid golden entry, and channel 31, which
holds the golden store, is in D1 behind its closed guard. -/
def sleepingStoreFields : List (Fld × Nat) :=
  [(Reg.START_STS_STEP, 0), (Reg.START_STS_RAILS_OK, 1), (Reg.CLK_STS_ROOT_LOCK, 1), (Reg.PWR_CTL_COMPAT_WAKE, 1),
   (Reg.DOM_STS_STATE 47, 1), (Reg.DOM_STS_GUARD_CLOSED 47, 1), (Reg.NI_STS_GUARD_CLOSED 159, 1),
   (Reg.RGN_STS_STATE 3, 1), (Reg.SCRUB_CTL_ENABLE, 1), (Reg.SCRUB_STS_GOLDEN_USABLE, 1), (Reg.GOLDEN_VALID_VALID 0, 8)]

/-- Frame 9 of region 3 with two bits of one codeword flipped. -/
def twiceUpsetFrame : BitVec 4192 := encodeFrame (3 * 5120 + 9) 77 ^^^ 0x101

/-- The device in a pass, whose next slot reads that frame; the first byte of the frame's golden copy is poisoned. -/
def sleepingStore : State :=
  let d := (sleepingStoreFields.foldl (fun d e => d.set e.1 e.2) State.reset.dev).setCell (.dram 31)
    (Dev.goldenAddr 3 9 % 0x40000000) poisonWord
  { dev := { d with
      frames := SMap.put 0 [] (frameKey 3 0 9) twiceUpsetFrame
      scrub := { passOn := true, region := 3, frame := 9, entries := [(3, 1)], generation := 1 } } }

/-- The next slot is one of the active sweep. -/
theorem sleepingStore_holds : sleepingStore.ready = true ∧ sleepingStore.dev.ctlOn Reg.SCRUB_CTL_ENABLE = true
    ∧ sleepingStore.dev.scrub.passOver = false ∧ sleepingStore.dev.scrub.pending = []
    ∧ sleepingStore.dev.scrub.building = none ∧ sleepingStore.dev.scrub.builds = []
    ∧ sleepingStore.dev.scrub.passOn = true ∧ sleepingStore.dev.scrub.slots % 16 ≠ 15 := by decide +kernel

/-- The slot wakes channel 31 (R410). -/
theorem sleepingStore_slot_wakes :
    (sleepingStore.dev.scrubSlot [] false).settle.on (Reg.DOM_STS_WAKING 47) = true := by decide +kernel

/-- In the device of the statement channel 31 still sleeps. -/
theorem sleepingStore_claim_sleeps :
    (sleepingStore.dev.activeSlotClaim []).on (Reg.DOM_STS_WAKING 47) = false := by decide +kernel

/-- Refutes O25: the clause for a slot of the active sweep leaves out the end of the command, which wakes the channel of
the golden store whose closed guard the reload of an UNCORRECTABLE frame has met (R275, R410). -/
theorem not_scrubbing : ¬ Obligations.Scrubbing := by
  intro h
  obtain ⟨ready, enabled, goesOn, noFix, noBuild, noQueue, inPass, active⟩ := sleepingStore_holds
  have claimed := State.goes_activeSlotClaim h [] ready enabled goesOn noFix noBuild noQueue inPass active
  have settled := State.settle_of_goes_scrubSlot (State.live_of_ready ready) claimed
  have wakes := sleepingStore_slot_wakes
  rw [settled, sleepingStore_claim_sleeps] at wakes
  cases wakes

end Sys2Proof.Machine
end

section
/-! What the network leaves alone (R311 to R330): an interface, a waystation and a read of a route book change
registers, the interfaces, the packets in flight, stored bytes with their log, and what the dictionary engine sends. -/

namespace Sys2Proof.Machine
namespace Dev

/-- `g` shows nothing of what the network changes: the registers, the interfaces, the packets in flight, the route
books with the checker's records, the command objects, and what the dictionary engine answers. -/
structure NetFrame {α : Type} (g : Dev → α) : Prop where
  csr : ∀ (d : Dev) (x : SMap Word), g { d with csr := x } = g d
  ni : ∀ (d : Dev) (x : SMap NiSt), g { d with ni := x } = g d
  noc : ∀ (d : Dev) (x : NocSt), g { d with noc := x } = g d
  cells : ∀ (d : Dev) (x : SMap (BitVec 13)), g { d with cells := x } = g d
  verify : ∀ (d : Dev) (x : List VerifySt), g { d with verify := x } = g d
  log : ∀ (d : Dev) (x : List (Nat × Nat)), g { d with log := x } = g d
  cmds : ∀ (d : Dev) (x : SMap CmdStatus), g { d with cmds := x } = g d
  answers : ∀ (d : Dev) (x : WbSt) (a : Answer), g { d with wb := x, answer := a } = g d
  queueTx : ∀ (d : Dev) (p : Nat) (f : TxFrame), g (d.queueTx p f) = g d

/-- Nothing that the network changes waits for the end of a command. -/
theorem netFrame_calm : NetFrame calm where
  csr _ _ := calm_congr rfl rfl rfl rfl rfl
  ni _ _ := calm_congr rfl rfl rfl rfl rfl
  noc _ _ := calm_congr rfl rfl rfl rfl rfl
  cells _ _ := calm_congr rfl rfl rfl rfl rfl
  verify _ _ := calm_congr rfl rfl rfl rfl rfl
  log _ _ := calm_congr rfl rfl rfl rfl rfl
  cmds _ _ := calm_congr rfl rfl rfl rfl rfl
  answers _ _ _ := calm_congr rfl rfl rfl rfl rfl
  queueTx d p f := by unfold queueTx setPort; split <;> [split; skip] <;> simp_all [calm, port]

/-- The network does not reach the context engines' own state. -/
theorem netFrame_ctx : NetFrame ctx where
  csr _ _ := rfl
  ni _ _ := rfl
  noc _ _ := rfl
  cells _ _ := rfl
  verify _ _ := rfl
  log _ _ := rfl
  cmds _ _ := rfl
  answers _ _ _ := rfl
  queueTx d p f := by unfold queueTx setPort; split <;> [split; skip] <;> rfl

namespace NetFrame

section
variable {α : Type} {g : Dev → α} (h : NetFrame g)
include h

/-! ## Registers, interfaces and packets in flight -/

theorem set (d : Dev) (f : Fld) (v : Nat) : g (d.set f v) = g d := h.csr ..
theorem raise (d : Dev) (f : Fld) : g (d.raise f) = g d := h.csr ..
theorem count (d : Dev) (f : Fld) (n : Nat) : g (d.count f n) = g d := h.csr ..
theorem setNi (d : Dev) (i : Nat) (x : NiSt) : g (d.setNi i x) = g d := h.ni ..
theorem setFlight (d : Dev) (l : List Flight) : g (d.setFlight l) = g d := h.noc ..
theorem inject (d : Dev) (i vc : Nat) (p : Pkt) : g (d.inject i vc p) = g d := h.setFlight ..
theorem cmdDone (d : Dev) (ix sub : Nat) (c : Code) (l : Bool) : g (d.cmdDone ix sub c l) = g d := h.cmds ..

/-! ## Stored bytes (R284 to R287) -/

theorem setCell (d : Dev) (m : MemUnit) (a : Nat) (c : BitVec 13) : g (d.setCell m a c) = g d := h.cells ..

theorem storeByte (d : Dev) (m : MemUnit) (a : Nat) (b : Byte) (p : Bool) : g (d.storeByte m a b p) = g d :=
  (h.verify ..).trans (h.setCell ..)

theorem storeBytes (d : Dev) (m : MemUnit) (a : Nat) (bs : List Byte) : g (d.storeBytes m a bs) = g d :=
  foldl_keeps g _ (fun _ _ => h.storeByte ..) _ _

theorem logEvent (d : Dev) (m : MemUnit) (a e : Nat) (r : Bool) : g (d.logEvent m a e r) = g d := by
  unfold Dev.logEvent
  split
  · exact (h.count ..).trans (h.raise ..)
  · exact (h.set ..).trans (h.log ..)

theorem writeBackTo (d : Dev) (u a : Nat) (w : List (Nat × BitVec 13)) : g (d.writeBackTo (.hs u) a w) = g d := by
  unfold Dev.writeBackTo
  split
  · rfl
  · exact (h.verify ..).trans (foldl_keeps g _ (fun _ _ => h.setCell ..) _ _)

/-- The checker's work on a hard SRAM, whose events no attachment is shown (R286, R293). -/
theorem checkBytes (d : Dev) (u a : Nat) (ks : List Nat) : g (d.checkBytes (.hs u) a ks true) = g d := by
  have found : ∀ (d : Dev) (k : Nat),
      g (((d.count Reg.MEM_POISONED_CNT).raise Reg.INT_EVT_POISON_READ).intEvent (.hs u) k 2 true) = g d :=
    fun _ _ => (h.logEvent ..).trans ((h.raise ..).trans (h.count ..))
  have corrected : ∀ (c : Prop) [Decidable c],
      g (if c then d else (d.raise Reg.INT_EVT_CORRECTED).count Reg.MEM_CORRECTED_CNT) = g d := fun c _ => by
    split
    · rfl
    · exact (h.count ..).trans (h.raise ..)
  simp only [Dev.checkBytes, h.writeBackTo, if_true, ite_self]
  exact (foldl_keeps g _ (fun d k => found d _) _ _).trans (corrected _)

theorem readBytes (d : Dev) (u a n : Nat) : g (d.readBytes (.hs u) a n).2 = g d :=
  foldl_keeps g _ (fun _ _ => h.checkBytes ..) _ _

theorem bookRead (d : Dev) (i c e : Nat) : g (d.bookRead i c e).2.2 = g d := h.readBytes ..

theorem bookStore (d : Dev) (i c e v : Nat) : g (d.bookStore i c e v) = g d := h.storeBytes ..

theorem stageBook (d : Dev) (i c e v : Nat) : g (d.stageBook i c e v) = g d := by
  unfold Dev.stageBook
  refine (h.bookStore ..).trans ?_
  split
  · rfl
  · exact h.noc ..

/-! ## Answers of the dictionary engine (R75) -/

theorem respond (d : Dev) (r : WbReq) (a : Answer) : g (d.respond r a) = g d := by
  have send : g (d.sendResp r (d.respMsg r a)) = g d := by
    unfold sendResp
    split
    · exact foldl_keeps g _ (fun _ _ => h.queueTx ..) _ _
    · rfl
  unfold Dev.respond
  split
  · exact (h.answers ..).trans send
  · exact h.answers d d.wb a

theorem forwardDone (d : Dev) (tag : Nat) (c : Code) (p : Bool) (data : List Byte) :
    g (d.forwardDone tag c p data) = g d := by
  unfold Dev.forwardDone
  split
  · rfl
  · dsimp only
    split <;> exact (h.respond ..).trans (h.answers d _ d.answer)

/-! ## Network interfaces (R311 to R325) -/

theorem niComplete (d : Dev) (i : Nat) (t : TagSt) (c : Code) (p : Bool) (data : List Byte) :
    g (d.niComplete i t c p data) = g d := by
  simp only [Dev.niComplete, apply_ite g, h.forwardDone, h.count, h.setNi, ite_self]

theorem formHeader (d : Dev) (i : Nat) (p : Pkt) : g (d.formHeader i p).2 = g d := by
  unfold Dev.formHeader
  split
  · rfl
  · simp only [apply_ite Prod.snd, apply_ite g, h.bookRead, ite_self]

theorem niInject (d : Dev) (i : Nat) (t : TagSt) (q : Pkt) : g (d.niInject i t q) = g d :=
  (h.inject ..).trans (h.setNi ..)

theorem niOffer (i : Nat) (acc : Dev × Bool × Bool × Bool) (t : TagSt) : g (Dev.niOffer i acc t).1 = g acc.1 := by
  obtain ⟨d, all, mg, be⟩ := acc
  have header := h.formHeader d i t.pkt
  unfold Dev.niOffer
  dsimp only
  split
  · rfl
  · split
    next c d1 e =>
      rw [e] at header
      exact (h.niComplete ..).trans header
    next q x y d1 e =>
      rw [e] at header
      repeat' split
      all_goals simpa only [h.niInject, h.setNi] using header

theorem niSend (d : Dev) (i : Nat) : g (d.niSend i) = g d := by
  unfold Dev.niSend
  split
  · rfl
  · exact foldl_keeps (fun acc : Dev × Bool × Bool × Bool => g acc.1) _ (h.niOffer i) _ _

theorem niTake (d : Dev) (i : Nat) (p : Pkt) : g (d.niTake i p) = g d := by
  unfold Dev.niTake
  dsimp only
  split <;> exact h.setNi ..

theorem niPump (d : Dev) (i : Nat) : g (d.niPump i) = g d := by
  unfold Dev.niPump
  split
  · rfl
  · refine (h.niSend ..).trans ?_
    have taken : ∀ l : List Pkt, ∀ x, g (l.foldl (fun a p => a.niTake i p) (d.setNi i x)) = g d := fun l x =>
      (foldl_keeps g _ (fun _ _ => h.niTake ..) l _).trans (h.setNi ..)
    split
    · exact (h.setNi ..).trans (taken ..)
    · exact taken ..

theorem niEnter (d : Dev) (i : Nat) (p : Pkt) (last : Bool) : g (d.niEnter i p last) = g d := by
  unfold Dev.niEnter
  split
  · rfl
  · exact (h.niPump ..).trans (h.setNi ..)

theorem niBeat (d : Dev) (i : Nat) (bs : List Byte) (last : Bool) : g (d.niBeat i bs last) = g d := by
  unfold Dev.niBeat
  split
  · rfl
  · exact (h.niPump ..).trans (h.setNi ..)

theorem rsTake (d : Dev) (i k : Nat) : g (d.rsTake i k) = g d := by
  unfold Dev.rsTake
  split
  · rfl
  · exact (h.niPump ..).trans (h.setNi ..)

theorem takeRx (d : Dev) (i : Nat) (p : Pkt → Bool) : g (d.takeRx i p) = g d := by
  unfold Dev.takeRx
  dsimp only
  split
  · exact h.setNi ..
  · rfl

/-! ## The rows of the interfaces -/

theorem niRequest (i : Fin 170) (p : Pkt) (taken : Nat) (last : Bool) (d : Dev) :
    g (Dev.niRequest i p taken last d) = g d := by
  unfold Dev.niRequest
  dsimp only
  split
  · exact (h.niBeat ..).trans (h.rsTake ..)
  · exact (h.niEnter ..).trans (h.rsTake ..)

theorem fencePacketComplete (i : Fin 170) (d : Dev) : g (Dev.fencePacketComplete i d) = g d := by
  unfold Dev.fencePacketComplete
  dsimp only
  split
  · rfl
  · split
    · rfl
    · exact (h.niPump ..).trans (h.setNi ..)

theorem rspArrive (i : Fin 170) (taken : Nat) (d : Dev) : g (Dev.rspArrive i taken d) = g d := by
  unfold Dev.rspArrive
  dsimp only
  split
  · exact h.rsTake ..
  · split
    · exact (h.count ..).trans ((h.takeRx ..).trans (h.rsTake ..))
    · exact (h.niPump ..).trans ((h.niComplete ..).trans ((h.takeRx ..).trans (h.rsTake ..)))

theorem niTimeout (i : Fin 170) (tag : Fin 4096) (d : Dev) : g (Dev.niTimeout i tag d) = g d := by
  unfold Dev.niTimeout
  split
  · rfl
  · split
    · rfl
    · exact (h.niPump ..).trans ((h.niComplete ..).trans (h.count ..))

theorem gtSlotInject (i : Fin 170) (d : Dev) : g (Dev.gtSlotInject i d) = g d := by
  unfold Dev.gtSlotInject
  dsimp only
  split
  · rfl
  · split
    · rfl
    next t _ =>
      have header := h.formHeader d i.val t.pkt
      split
      next q x y d1 e =>
        rw [e] at header
        split
        · exact header
        · exact (h.niInject ..).trans ((h.setNi ..).trans header)
      next c d1 e =>
        rw [e] at header
        exact header

theorem tokenRefill (i : Fin 170) (d : Dev) : g (Dev.tokenRefill i d) = g d := (h.niSend ..).trans (h.setNi ..)

/-! ## Waystations (R314 to R323) -/

theorem rspOffer (i : Nat) (d : Dev) (p : Pkt) : g (Dev.rspOffer i d p) = g d := by
  unfold Dev.rspOffer
  split
  · exact (h.inject ..).trans (h.setNi ..)
  · rfl

theorem rspPump (d : Dev) (i : Nat) : g (d.rspPump i) = g d := foldl_keeps g _ (h.rspOffer i) _ _

theorem netPump (d : Dev) : g d.netPump = g d :=
  (foldl_keeps g _ (fun _ _ => (h.niSend ..).trans (h.rspPump ..)) _ _).trans (h.noc ..)

theorem nocDrop (d : Dev) (place : Nat) (atNi : Bool) (port reason : Nat) :
    g (d.nocDrop place atNi port reason) = g d := by
  simp only [Dev.nocDrop, setBit_eq, h.raise, h.set, h.count]

theorem eject (d : Dev) (i : Nat) (f : Flight) : g (d.eject i f) = g d := by
  unfold Dev.eject
  dsimp only
  repeat' split
  all_goals simp only [h.nocDrop, h.setNi, h.count]

theorem waystationHop (w : Fin 192) (inp : Fin 5) (vc : Fin 4) (flips : List (Nat × BitVec 13)) (d : Dev) :
    g (Dev.waystationHop w inp vc flips d) = g d := by
  have dropped : ∀ (e : Dev) o r, g ((e.nocDrop w.val false o r).netPump) = g e := fun e o r =>
    (h.netPump _).trans (h.nocDrop ..)
  have missed : ∀ (c : Prop) [Decidable c] (e : Dev),
      g (if c then (e.raise Reg.NOC_EVT_GT_MISS).count Reg.NOC_CNT_GT_MISS_CNT else e) = g e := fun c _ e => by
    split
    · exact (h.count ..).trans (h.raise ..)
    · rfl
  unfold Dev.waystationHop
  dsimp only
  split
  · rfl
  split
  · rfl
  split
  · exact (dropped ..).trans (h.noc ..)
  split
  · exact (dropped ..).trans (h.noc ..)
  split
  · exact (dropped ..).trans (h.noc ..)
  split
  · rfl
  refine (h.netPump _).trans ?_
  split
  · split
    · exact (h.eject ..).trans ((missed ..).trans (h.noc ..))
    · exact (missed ..).trans (h.noc ..)
  · split
    · exact (h.setFlight ..).trans ((missed ..).trans (h.noc ..))
    · exact (missed ..).trans (h.noc ..)

end

end NetFrame

end Dev
end Sys2Proof.Machine
end

section
/-! The network interfaces (R33, R35, R311, R318 to R325, R334): requests, slots, tokens, FENCEs, responses and
timeouts. -/

namespace Sys2Proof.Machine

/-- A store written twice at one key holds what was written last, where the first value is one that is listed. -/
theorem SMap.put_put {α : Type} [DecidableEq α] (dflt : α) (m : SMap α) (k : Nat) {v : α} (w : α) (hv : v ≠ dflt) :
    SMap.put dflt (SMap.put dflt m k v) k w = SMap.put dflt m k w := by
  have erased : ∀ m : SMap α, SMap.erase (SMap.insert m k v) k = SMap.erase m k := fun m => by
    induction m with
    | nil => simp [insert, erase]
    | cons e m ih =>
      simp only [insert]
      split
      · simp [erase]
      · split
        next hk => simp [erase, ← hk]
        next hk => simp [erase, Ne.symm hk, ih]
  have inserted : ∀ m : SMap α, SMap.insert (SMap.insert m k v) k w = SMap.insert m k w := fun m => by
    induction m with
    | nil => simp [insert]
    | cons e m ih =>
      rcases lt_trichotomy k e.1 with hk | hk | hk
      · simp [insert, hk]
      · simp [insert, hk]
      · simp [insert, hk.not_gt, hk.ne', ih]
  simp only [put, if_neg hv, erased, inserted]

namespace State

/-- A row of the network on a ready device whose root is locked: its effect, if nothing waits for the command's end. -/
theorem goes_of_rooted {i : Instr} {s : State} {f : Dev → Dev} {d : Dev} (hs : s.ready = true)
    (hr : s.dev.on Reg.CLK_STS_ROOT_LOCK = true) (hi : exec i s = s.event (Dev.rooted f))
    (hc : (f s.dev).calm = s.dev.calm) (hf : f s.dev = d) : s.goes i d := by
  have run : Dev.rooted f s.dev = d := (if_pos hr).trans hf
  exact goes_of_calm (live_of_ready hs) hi run (hf ▸ hc.trans (calm_of_ready hs))

/-- The same for a row whose result is as `P` says. -/
theorem does_of_rooted {i : Instr} {s : State} {f : Dev → Dev} {P : Dev → Prop} (hs : s.ready = true)
    (hr : s.dev.on Reg.CLK_STS_ROOT_LOCK = true) (hi : exec i s = s.event (Dev.rooted f))
    (hc : (f s.dev).calm = s.dev.calm) (hp : P (f s.dev)) : s.does i P := by
  have run : Dev.rooted f s.dev = f s.dev := if_pos hr
  exact does_of_calm (live_of_ready hs) hi (run ▸ hc.trans (calm_of_ready hs)) (run ▸ hp)

end State

namespace Dev

/-! ## The state of an interface -/

@[simp] theorem niSt_setNi_self (d : Dev) (i : Nat) (x : NiSt) : (d.setNi i x).niSt i = x := SMap.get_put_self ..

theorem niSt_setNi_ne (d : Dev) {i j : Nat} (x : NiSt) (h : j ≠ i) : (d.setNi i x).niSt j = d.niSt j :=
  SMap.get_put_ne _ _ _ _ h

/-- An interface in any state but the reset one, updated again. -/
theorem setNi_setNi (d : Dev) (i : Nat) {x : NiSt} (y : NiSt) (h : x ≠ {}) :
    (d.setNi i x).setNi i y = d.setNi i y :=
  congrArg (fun m => { d with ni := m }) (SMap.put_put _ _ _ _ h)

/-- Only the interfaces' own store changes when an interface is written. -/
theorem setNi_setNi_restored (d : Dev) (i j : Nat) (x y : NiSt) : { (d.setNi i x).setNi j y with ni := d.ni } = d := by
  cases d
  rfl

@[simp] theorem guardClosed_setNi (d : Dev) (i j : Nat) (x : NiSt) :
    (d.setNi i x).guardClosed j = d.guardClosed j := on_setNi ..

/-! ## Tags (R324) -/

/-- A tag is in use at an interface. -/
def tagUsed (s : NiSt) (t : Nat) : Bool := s.tags.any (fun x => x.tag == t) || s.fences.any (fun f => f.tag == t)

/-- With fewer than 4,096 tags in use the counter finds a free one. -/
theorem exists_free_tag (s : NiSt) (h : s.tags.length + s.fences.length < 4096) :
    ∃ k ∈ List.range 4096, tagUsed s ((s.nextTag + k) % 4096) = false := by
  by_contra none
  have used : (Finset.range 4096).image (fun k => (s.nextTag + k) % 4096)
      ⊆ (s.tags.map (·.tag) ++ s.fences.map (·.tag)).toFinset := by
    intro t ht
    obtain ⟨k, hk, rfl⟩ := Finset.mem_image.mp ht
    have hu : tagUsed s ((s.nextTag + k) % 4096) = true := by
      by_contra hn
      exact none ⟨k, by simpa using hk, by simpa using hn⟩
    simpa [tagUsed] using hu
  have inj : Set.InjOn (fun k => (s.nextTag + k) % 4096) (Finset.range 4096) := by
    intro a ha b hb hab
    simp only [Finset.coe_range, Set.mem_Iio] at ha hb hab
    omega
  have few := (Finset.card_le_card used).trans (List.toFinset_card_le _)
  rw [Finset.card_image_of_injOn inj, Finset.card_range, List.length_append, List.length_map, List.length_map] at few
  omega

/-- The tag that the next request takes is free (R324). -/
theorem tagUsed_niNextTag (s : NiSt) (h : s.tags.length + s.fences.length < 4096) :
    tagUsed s (niNextTag s) = false := by
  obtain ⟨k, hk, free⟩ := exists_free_tag s h
  unfold niNextTag
  split
  next j hj => simpa [tagUsed, ← List.all_eq_not_any_not] using List.find?_some hj
  next none =>
    have := List.find?_eq_none.mp none k hk
    simp [tagUsed] at free this
    grind

theorem niNextTag_congr {s t : NiSt} (hn : s.nextTag = t.nextTag) (ht : s.tags = t.tags) (hf : s.fences = t.fences) :
    niNextTag s = niNextTag t := by
  unfold niNextTag
  rw [hn, ht, hf]

theorem niTake_fence (d : Dev) (i : Nat) {p : Pkt} (h : p.cmd = 4) : d.niTake i p = d.setNi i { d.niSt i with
    nextTag := (niNextTag (d.niSt i) + 1) % 4096, rqTag := some (niNextTag (d.niSt i))
    fences := (d.niSt i).fences ++ [⟨niNextTag (d.niSt i), (d.niSt i).nextWrite, p.user⟩] } := if_pos h

/-- A request but a FENCE waits with its tag. -/
theorem niTake_request (d : Dev) (i : Nat) {p : Pkt} (h : p.cmd ≠ 4) :
    ∃ x : NiSt, d.niTake i p = d.setNi i x ∧ x.opening = (d.niSt i).opening ∧ x.rqTag = some (niNextTag (d.niSt i))
      ∧ x.tags = (d.niSt i).tags ++ [{ tag := niNextTag (d.niSt i), pkt := { p with tag := niNextTag (d.niSt i) } }]
      ∧ x.waiting = (d.niSt i).waiting ++
          [{ tag := niNextTag (d.niSt i), pkt := { p with tag := niNextTag (d.niSt i) } }] := by
  refine ⟨_, if_neg h, ?_⟩
  split <;> exact ⟨rfl, rfl, rfl, rfl⟩

theorem niTake_write (d : Dev) (i : Nat) {p : Pkt} (h : p.isWrite = true) : ((d.niTake i p).niSt i).writes =
    (d.niSt i).writes ++ [⟨(d.niSt i).nextWrite, niNextTag (d.niSt i), none, false⟩] := by
  have request : p.cmd ≠ 4 := by
    rintro e
    simp [Pkt.isWrite, e] at h
  simp [niTake, if_neg request, h]

/-! ## Presentation (R311, R334) -/

theorem rsTake_zero (d : Dev) (i : Nat) : d.rsTake i 0 = d := if_pos (.inr (.inl rfl))

theorem rsTake_enabled {d : Dev} {i k : Nat} (hi : i < 128) (hk : k ≠ 0) (he : d.niEnabled i = true) :
    d.rsTake i k = (d.setNi i { d.niSt i with rs := (d.niSt i).rs.drop k }).niPump i :=
  if_neg (by simp [hi, hk, he])

theorem niEnter_enabled {d : Dev} {i : Nat} (p : Pkt) (last : Bool) (he : d.niEnabled i = true) :
    d.niEnter i p last = (d.setNi i { d.niSt i with
      rqTag := none, presented := (d.niSt i).presented ++ [p], opening := !last }).niPump i := by
  simp [niEnter, he]

/-- A request that arrives while none is on its way in. -/
theorem niRequest_first {d : Dev} {i : Fin 170} (p : Pkt) (last : Bool) (ho : (d.niSt i.val).opening = false)
    (he : d.niEnabled i.val = true) : niRequest i p 0 last d = (d.setNi i.val { d.niSt i.val with
      rqTag := none, presented := (d.niSt i.val).presented ++ [{ p with dst := 0 }]
      opening := !(last || p.cmd == 4) }).niPump i.val := by
  simp [niRequest, rsTake_zero, ho, niEnter_enabled _ _ he]

theorem niPump_closed {d : Dev} {i : Nat} (h : d.guardClosed i = true) : d.niPump i = d := if_pos (.inl h)

/-- What a request leaves of an interface that it enters, before it takes its tag. -/
def entered (s : NiSt) (still : Bool) : NiSt := { s with rqTag := none, presented := [], opening := still }

theorem entered_of_none {s : NiSt} (h : s.presented = []) (still : Bool) :
    entered s still = { s with rqTag := none, opening := still } := by
  rw [entered, ← h]

theorem niNextTag_entered (s : NiSt) (still : Bool) : niNextTag (entered s still) = niNextTag s :=
  niNextTag_congr rfl rfl rfl

/-- With a tag free and its guard open, an interface that holds nothing back takes a request at once; `still`: flits of
it are still to come. -/
theorem niPump_presented {d : Dev} {i : Nat} (q : Pkt) (still : Bool) (hr : d.on Reg.CLK_STS_ROOT_LOCK = true)
    (hg : d.guardClosed i = false) (room : (d.niSt i).tags.length + (d.niSt i).fences.length < 4096) :
    (d.setNi i { d.niSt i with rqTag := none, presented := [q], opening := still }).niPump i =
      (let a := (d.setNi i (entered (d.niSt i) still)).niTake i q
       if still then a.niOpen i else a).niSend i := by
  obtain ⟨n, hn⟩ : ∃ n, 4096 - ((d.niSt i).tags.length + (d.niSt i).fences.length) = n + 1 :=
    Nat.exists_eq_add_of_lt (by omega) |>.imp fun n h => by omega
  have again : ∀ x : NiSt, (d.setNi i { d.niSt i with rqTag := none, presented := [q], opening := still }).setNi i x
      = d.setNi i x := fun x => setNi_setNi _ _ _ fun h => by simpa using congrArg NiSt.presented h
  simp [niPump, hr, hg, hn, again, entered]

theorem niSend_idle {d : Dev} {i : Nat} (h : d.guardClosed i = true ∨ (d.niSt i).waiting = []) : d.niSend i = d := by
  unfold niSend
  obtain h | h := h
  · exact if_pos h
  · simp [h]

/-- A request whose flits are still coming does not leave (R334). -/
theorem niSend_opening {d : Dev} {i : Nat} {t : TagSt} (h : (d.niSt i).waiting = [t]) (hw : t.whole = false) :
    d.niSend i = d := by
  simp [niSend, h, niOffer, hw]

/-- An interface whose latest request has flits still to come. -/
def opened (s : NiSt) : NiSt :=
  let f := fun (t : TagSt) => if some t.tag = s.rqTag then { t with whole := false } else t
  { s with tags := s.tags.map f, waiting := s.waiting.map f }

theorem niOpen_eq (d : Dev) (i : Nat) : d.niOpen i = d.setNi i (opened (d.niSt i)) := rfl

/-- The first flit of a request enters an interface that holds nothing back: the request waits for the rest. -/
theorem niPump_opening {d : Dev} {i : Nat} {q : Pkt} (hr : d.on Reg.CLK_STS_ROOT_LOCK = true)
    (hg : d.guardClosed i = false) (hw : (d.niSt i).waiting = []) (hc : q.cmd ≠ 4)
    (room : (d.niSt i).tags.length + (d.niSt i).fences.length < 4096) :
    ∃ x : NiSt, (d.setNi i { d.niSt i with rqTag := none, presented := [q], opening := true }).niPump i =
        (d.setNi i (entered (d.niSt i) true)).setNi i x
      ∧ x.opening = true ∧ x.rqTag = some (niNextTag (d.niSt i)) ∧ x.waiting =
        [{ tag := niNextTag (d.niSt i), pkt := { q with tag := niNextTag (d.niSt i) }, whole := false }] := by
  obtain ⟨x, take, opening, tag, -, waiting⟩ := niTake_request (d.setNi i (entered (d.niSt i) true)) i hc
  rw [niSt_setNi_self] at opening tag waiting
  rw [niNextTag_entered] at tag waiting
  generalize niNextTag (d.niSt i) = k at tag waiting ⊢
  have again : ∀ (a : Dev) (y : NiSt), (a.setNi i x).setNi i y = a.setNi i y :=
    fun a y => setNi_setNi _ _ _ fun h => by simp [h] at tag
  have waits : (opened x).waiting = [{ tag := k, pkt := { q with tag := k }, whole := false }] := by
    rw [opened, waiting, tag, show (entered (d.niSt i) true).waiting = [] from hw, List.nil_append, List.map_cons,
      if_pos rfl]
    rfl
  refine ⟨opened x, ?_, opening, tag, waits⟩
  rw [niPump_presented _ _ hr hg room]
  simp only [take, if_true, niOpen_eq, niSt_setNi_self, again]
  exact niSend_opening (by rw [niSt_setNi_self, waits]) rfl

/-! ## FENCEs (R35, R325) -/

theorem fencePacket_taken {d : Dev} {i : Fin 170} (user : BitVec 48) (hr : d.on Reg.CLK_STS_ROOT_LOCK = true)
    (he : d.niEnabled i.val = true) (hg : d.guardClosed i.val = false) (hp : (d.niSt i.val).presented = [])
    (hw : (d.niSt i.val).waiting = [])
    (room : (d.niSt i.val).tags.length + (d.niSt i.val).fences.length < 4096) :
    fencePacket i user d = (d.setNi i.val (entered (d.niSt i.val) false)).setNi i.val
      { entered (d.niSt i.val) false with
        nextTag := (niNextTag (d.niSt i.val) + 1) % 4096, rqTag := some (niNextTag (d.niSt i.val))
        fences := (d.niSt i.val).fences ++
          [⟨niNextTag (d.niSt i.val), (d.niSt i.val).nextWrite, user.toNat⟩] } := by
  rw [fencePacket, niPresent, niEnter_enabled _ _ he, hp, List.nil_append, Bool.not_true,
    niPump_presented _ _ hr hg room]
  have take := niTake_fence (d.setNi i.val (entered (d.niSt i.val) false)) i.val
    (p := { cmd := 4, user := user.toNat }) rfl
  rw [niSt_setNi_self, niNextTag_entered] at take
  simp only [take, Bool.false_eq_true, if_false]
  exact niSend_idle (.inr (by rw [niSt_setNi_self]; exact hw))

/-- The code of a FENCE: that of the earliest write before it that failed (R35). -/
def fenceCode (s : NiSt) (limit : Nat) : Code :=
  (((s.writes.filter (fun w => w.num < limit)).filterMap (fun w => w.code)).find? (· != .ok)).getD .ok

/-- The oldest FENCE of an interface completes when every write before it has (R35). -/
theorem fencePacketComplete_due {d : Dev} {i : Fin 170} {tag limit user : Nat} {rest : List FenceSt}
    (hf : (d.niSt i.val).fences = ⟨tag, limit, user⟩ :: rest)
    (hw : (d.niSt i.val).writes.all (fun w => decide (limit ≤ w.num) || w.code.isSome) = true) :
    fencePacketComplete i d = (d.setNi i.val { d.niSt i.val with
      fences := rest, writes := (d.niSt i.val).writes.filter (fun w => limit ≤ w.num)
      rs := (d.niSt i.val).rs ++ [{ cmd := 5, tag := tag, dst := i.val, src := i.val, user := user
                                    code := fenceCode (d.niSt i.val) limit }] }).niPump i.val := by
  have complete : ((d.niSt i.val).writes.filter (fun w => decide (w.num < limit))).any (fun w => w.code.isNone)
      = false := by
    simp only [List.any_eq_false, List.mem_filter, decide_eq_true_eq]
    intro w ⟨hm, hn⟩
    have := List.all_eq_true.mp hw w hm
    simp only [Bool.or_eq_true, decide_eq_true_eq] at this
    rw [Option.isNone_iff_eq_none]
    exact Option.isSome_iff_ne_none.mp (this.resolve_left (by omega))
  simp [fencePacketComplete, hf, complete, fenceCode]

/-! ## Guaranteed slots (R320, R329) and tokens (R322) -/

theorem gtSlotInject_bars {d : Dev} {i : Fin 170}
    (h : d.on Reg.NOC_STS_GT_QUIET = true ∨ (d.niSt i.val).gtSlot = some d.noc.slotNum) : gtSlotInject i d = d := by
  unfold gtSlotInject
  exact if_pos (h.imp_right .inr)

/-- A guaranteed request that is due in the slot is injected whole. -/
theorem gtSlotInject_due {d d1 : Dev} {i : Fin 170} {t : TagSt} {q : Pkt} {f e : Nat}
    (hq : d.on Reg.NOC_STS_GT_QUIET = false) (hg : d.guardClosed i.val = false) (hw : (d.niSt i.val).waiting = [t])
    (hh : d.formHeader i.val t.pkt = (.packet q f e, d1)) (hc : q.cls = 1) (whole : t.whole = true)
    (hs : (d.niSt i.val).gtSlot ≠ some d.noc.slotNum) (due : (d.get Reg.NOC_STS_SLOT + 256 - f) % 2 ^ e = 0)
    (room : owedFlits (d.niSt i.val) + q.owed ≤ 1024) : gtSlotInject i d =
      (d1.setNi i.val { d1.niSt i.val with gtSlot := some d.noc.slotNum }).niInject i.val t q := by
  simp [gtSlotInject, hq, hg, hw, hh, hc, whole, hs, due, Nat.not_lt.mpr room]

theorem tokenRefill_idle {d : Dev} {i : Fin 170} (h : d.guardClosed i.val = true ∨ (d.niSt i.val).waiting = []) :
    tokenRefill i d = d.setNi i.val { d.niSt i.val with
      tokens := min ((d.niSt i.val).tokens + d.ctl (Reg.NI_TB_RATE i)) (d.ctl (Reg.NI_TB_DEPTH i)) } :=
  niSend_idle (by simpa using h)

/-! ## Responses and timeouts (R324) -/

/-- A lookup port that holds no request sends none. -/
theorem lpPump_of_none {d : Dev} (n : Nat) (h : d.ctx.held = []) : lpPump n d = d := by simp [lpPump, h]

theorem niSt_takeRx_tags (d : Dev) (i : Nat) (p : Pkt → Bool) : ((d.takeRx i p).niSt i).tags = (d.niSt i).tags := by
  unfold takeRx
  dsimp only
  split
  · rw [niSt_setNi_self]
  · rfl

theorem rspToPort_eq {d : Dev} (i : Fin 170) (h : d.ctx.held = []) : rspToPort i 0 d = rspArrive i 0 d :=
  lpPump_of_none _ (by rw [netFrame_ctx.rspArrive, h])

theorem timeoutToPort_eq {d : Dev} (i : Fin 170) (tag : Fin 4096) (h : d.ctx.held = []) :
    timeoutToPort i tag d = niTimeout i tag d := lpPump_of_none _ (by rw [netFrame_ctx.niTimeout, h])

theorem rspArrive_completes {d : Dev} {i : Fin 170} {p : Pkt} {t : TagSt}
    (hp : d.firstRx i.val (fun p => p.cmd == 5) = some p)
    (ht : (d.niSt i.val).tags.find? (fun t => t.tag == p.tag && t.injected) = some t) : rspArrive i 0 d =
      ((d.takeRx i.val (fun p => p.cmd == 5)).niComplete i.val t p.code p.poison p.data).niPump i.val := by
  simp only [rspArrive, rsTake_zero, hp, niSt_takeRx_tags, ht]

theorem rspArrive_late {d : Dev} {i : Fin 170} {p : Pkt} (hp : d.firstRx i.val (fun p => p.cmd == 5) = some p)
    (ht : (d.niSt i.val).tags.find? (fun t => t.tag == p.tag && t.injected) = none) : rspArrive i 0 d =
      (d.takeRx i.val (fun p => p.cmd == 5)).count (Reg.NI_CNT_LATE_RSP i) := by
  simp only [rspArrive, rsTake_zero, hp, niSt_takeRx_tags, ht]

theorem niTimeout_ends {d : Dev} {i : Fin 170} {tag : Fin 4096} {t : TagSt}
    (hr : (d.niSt i.val).rx.any (fun p => p.cmd == 5 && p.tag == tag.val) = false)
    (ht : (d.niSt i.val).tags.find? (fun t => t.tag == tag.val && t.injected) = some t) : niTimeout i tag d =
      ((d.count (Reg.NI_CNT_TIMEOUT_CNT i)).niComplete i.val t .timeout false []).niPump i.val := by
  simp only [niTimeout, hr, Bool.false_eq_true, if_false, ht]

/-- What completing a request leaves of its interface, whose answers no dictionary request awaits (R324). -/
theorem niSt_niComplete {d : Dev} {i : Nat} {t : TagSt} (c : Code) (poison : Bool) (data : List Byte)
    (hd : t.dropped = false) (hi : i ≠ 166) :
    ((d.niComplete i t c poison data).niSt i).tags = (d.niSt i).tags.filter (fun x => x.tag != t.tag)
      ∧ ((d.niComplete i t c poison data).niSt i).rs = (d.niSt i).rs ++ (if t.pkt.cmd = 1 then [] else
          [{ t.pkt with cmd := 5, tag := t.tag, code := c, poison := poison, data := data, dst := i, src := t.pkt.dst }])
      := by
  by_cases hc : t.pkt.cmd = 1 <;> simp [niComplete, hd, hi, hc]

end Dev

/-- Settles O29, clause by clause: each row by the equation of its effect, which leaves nothing to settle
(`netFrame_calm`). -/
theorem networkInterfaces : Obligations.NetworkInterfaces := by
  refine ⟨?whole, ?guarded, ?opening, ?read, ?tag, ?slot, ?second, ?quiet, ?bucket, ?fence, ?fenceDone, ?rsp, ?late,
    ?timeout, ?completed⟩
  case whole =>
    intro s i p hs hr he hg hp ho room
    refine State.goes_of_rooted hs hr rfl (Dev.netFrame_calm.niRequest ..) ?_
    rw [Dev.niRequest_first p true ho he, hp, List.nil_append]
    rw [Bool.true_or, Bool.not_true, Dev.niPump_presented _ false hr hg room]
    simp only [Bool.false_eq_true, if_false]
    rfl
  case guarded =>
    intro s i p last hs hr he hg ho hc
    refine State.goes_of_rooted hs hr rfl (Dev.netFrame_calm.niRequest ..) ?_
    have flits : (last || p.cmd == 4) = last := by simp [hc]
    rw [Dev.niRequest_first p last ho he, Dev.niPump_closed (by simpa using hg), flits]
  case opening =>
    intro s i p hs hr he hg hp hw ho hc room
    have still : (false || p.cmd == 4) = false := by simp [hc]
    have first := Dev.niRequest_first p false ho he
    rw [hp, List.nil_append, still, Bool.not_false] at first
    obtain ⟨x, request, opening, tag, waiting⟩ := Dev.niPump_opening (q := { p with dst := 0 }) hr hg hw hc room
    refine State.does_of_rooted hs hr rfl (Dev.netFrame_calm.niRequest ..) ?_
    rw [first, request, Dev.niSt_setNi_self]
    exact ⟨opening, tag, waiting, rfl, fun o => by rw [Dev.word_setNi, Dev.word_setNi]⟩
  case read =>
    intro s i p k hs hr hi he hk
    refine State.goes_of_rooted hs hr rfl (Dev.netFrame_calm.niRequest ..) ?_
    rw [Dev.niRequest, Dev.rsTake_enabled hi hk he]
    rfl
  case tag =>
    intro d i p room hw
    have request : p.cmd ≠ 4 := by
      rintro e
      simp [Pkt.isWrite, e] at hw
    obtain ⟨x, take, -, tag, tags, -⟩ := Dev.niTake_request d i request
    have free := Dev.tagUsed_niNextTag _ room
    simp only [Dev.tagUsed, Bool.or_eq_false_iff, List.any_eq_false, beq_iff_eq] at free
    refine ⟨free.1, free.2, ?_, ?_, Dev.niTake_write d i hw⟩ <;> rwa [take, Dev.niSt_setNi_self]
  case slot =>
    intro s i t q f e d1 hs hr hq hg hw hh hc whole hslot due room
    exact State.goes_of_rooted hs hr rfl (Dev.netFrame_calm.gtSlotInject ..)
      (Dev.gtSlotInject_due hq hg hw hh hc whole hslot due room)
  case second =>
    intro s i hs hr hslot
    exact State.goes_of_rooted hs hr rfl (Dev.netFrame_calm.gtSlotInject ..) (Dev.gtSlotInject_bars (.inr hslot))
  case quiet =>
    intro s i hs hr hq
    exact State.goes_of_rooted hs hr rfl (Dev.netFrame_calm.gtSlotInject ..) (Dev.gtSlotInject_bars (.inl hq))
  case bucket =>
    intro s i hs hr idle
    exact State.goes_of_rooted hs hr rfl (Dev.netFrame_calm.tokenRefill ..) (Dev.tokenRefill_idle idle)
  case fence =>
    intro s i user hs hr he hg hp hw room
    refine State.does_of_rooted hs hr rfl (Dev.netFrame_calm.niEnter ..) ?_
    rw [Dev.fencePacket_taken user hr he hg hp hw room, Dev.niSt_setNi_self]
    rw [Dev.entered_of_none hp]
    exact ⟨rfl, Dev.setNi_setNi_restored _ i.val i.val _ _⟩
  case fenceDone =>
    intro s i tag limit user rest hs hr hf hw
    exact State.goes_of_rooted hs hr rfl (Dev.netFrame_calm.fencePacketComplete ..)
      (Dev.fencePacketComplete_due hf hw)
  case rsp =>
    intro s i p t hs hr held _ hp ht
    refine State.goes_of_rooted hs hr rfl ?_ ((Dev.rspToPort_eq i held).trans (Dev.rspArrive_completes hp ht))
    rw [Dev.rspToPort_eq i held, Dev.netFrame_calm.rspArrive]
  case late =>
    intro s i p hs hr held hp ht
    refine State.goes_of_rooted hs hr rfl ?_ ((Dev.rspToPort_eq i held).trans (Dev.rspArrive_late hp ht))
    rw [Dev.rspToPort_eq i held, Dev.netFrame_calm.rspArrive]
  case timeout =>
    intro s i tag t hs hr held hrx ht _
    refine State.goes_of_rooted hs hr rfl ?_ ((Dev.timeoutToPort_eq i tag held).trans (Dev.niTimeout_ends hrx ht))
    rw [Dev.timeoutToPort_eq i tag held, Dev.netFrame_calm.niTimeout]
  case completed =>
    intro d i t c poison data hd hi
    obtain ⟨tags, rs⟩ := Dev.niSt_niComplete (d := d) c poison data hd hi
    refine ⟨fun x hx => ?_, rs⟩
    rw [tags] at hx
    simpa using (List.mem_filter.mp hx).2

end Sys2Proof.Machine
end

section
/-! The two request masks of a DRAM channel (R331). -/

namespace Sys2Proof.Machine

/-- A register that no write has reached holds its reset word after reset. -/
theorem Dev.word_reset (off : Nat) : State.reset.dev.word off = resetWord off := rfl

/-- Every bit of both masks of every channel is 1 in its register's reset word. -/
theorem firewallMasks_allOnes : ∀ (k : Fin 32) (j : Fin 8),
    fieldOf (resetWord (Reg.FW_RD k.val j.val)) 0 32 = 2 ^ 32 - 1 ∧
      fieldOf (resetWord (Reg.FW_WR k.val j.val)) 0 32 = 2 ^ 32 - 1 := by
  decide +kernel

/-- A bit of a field whose reset value is all ones is 1 after reset. -/
theorem Dev.bit_reset {f : Fld} {k : Nat} (ones : fieldOf (resetWord f.off) f.lsb f.w = 2 ^ 32 - 1) (hk : k < 32) :
    State.reset.dev.bit f k = true := by
  rw [Dev.bit, Dev.get, Dev.word_reset, ones, Nat.testBit_two_pow_sub_one, decide_eq_true hk]

/-- A request that no other refusal meets is refused by the masks alone (R331). -/
theorem Dev.dramRefusal_masks {d : Dev} {k : Nat} {p : Pkt} (hc : p.cmd ≤ 3) (retired : d.chRetired k = false)
    (golden : d.on Reg.SCRUB_STS_GOLDEN_USABLE = false) (ctx : d.on Reg.CTX_STS_IN_USE = false)
    (rd : d.failed (Reg.FW_RD k (p.src / 32)) = false) (wr : d.failed (Reg.FW_WR k (p.src / 32)) = false)
    (up : d.on (Dev.chF Reg.CH_STS_BRINGUP_BUSY k) = false) :
    d.dramRefusal k p =
      if (p.cmd = 0 ∨ p.cmd = 3) ∧ d.bit (Reg.FW_RD_MASK k (p.src / 32)) (p.src % 32) = false then some .denied
      else if (p.cmd = 1 ∨ p.cmd = 2 ∨ p.cmd = 3) ∧ d.bit (Reg.FW_WR_MASK k (p.src / 32)) (p.src % 32) = false then
        some .denied
      else none := by
  have write : p.isWrite = true ↔ p.cmd = 1 ∨ p.cmd = 2 ∨ p.cmd = 3 := by simp [Pkt.isWrite, or_assoc]
  have known : ¬ (p.cmd ≠ 0 ∧ ¬ (p.cmd = 1 ∨ p.cmd = 2 ∨ p.cmd = 3)) := by omega
  simp only [Dev.dramRefusal, retired, golden, ctx, rd, wr, up, write, Bool.not_false, Bool.and_true, if_true,
    Bool.false_eq_true, false_and, if_false, Bool.not_eq_true', ← Bool.not_eq_true, known]

/-- Settles O54: with no other refusal in the way the masks decide alone, and after reset every word of them is all
ones. -/
theorem dramFirewall : Obligations.DramFirewall := by
  refine ⟨fun d k p _ hc retired golden ctx rd wr up => ?_, fun k i => ?_⟩
  · rw [Dev.dramRefusal_masks hc retired golden ctx rd wr up, ← ite_or]
  · obtain ⟨rd, wr⟩ := firewallMasks_allOnes k ⟨i.val / 32, by omega⟩
    have inWord : i.val % 32 < 32 := Nat.mod_lt _ (by decide)
    exact ⟨Dev.bit_reset rd inWord, Dev.bit_reset wr inWord⟩

end Sys2Proof.Machine
end

section
/-! The byte code under one error (R282, R283). -/

namespace Sys2Proof.Machine

/-- The parity of a sum is the sum of the parities. -/
theorem parityOf_xor (x y mask w : Nat) : parityOf (x ^^^ y) mask w = (parityOf x mask w ^^ parityOf y mask w) := by
  have folded : ∀ (l : List Nat) (a b : Bool),
      l.foldl (fun a i => if mask.testBit i then a ^^ (x ^^^ y).testBit i else a) (a ^^ b) =
        (l.foldl (fun a i => if mask.testBit i then a ^^ x.testBit i else a) a ^^
          l.foldl (fun a i => if mask.testBit i then a ^^ y.testBit i else a) b) := by
    intro l
    induction l with
    | nil => exact fun _ _ => rfl
    | cons i l ih =>
      intro a b
      rw [List.foldl_cons, List.foldl_cons, List.foldl_cons, ← ih]
      congr 1
      rw [Nat.testBit_xor]
      split
      · cases a <;> cases b <;> cases x.testBit i <;> cases y.testBit i <;> rfl
      · rfl
  exact folded _ false false

theorem check4_xor (x y : Nat) : check4 (x ^^^ y) = check4 x ^^^ check4 y := by
  have sum : ∀ a b c d e f g h : Bool, bit01 (a ^^ b) + 2 * bit01 (c ^^ d) + 4 * bit01 (e ^^ f) + 8 * bit01 (g ^^ h) =
      (bit01 a + 2 * bit01 c + 4 * bit01 e + 8 * bit01 g) ^^^ (bit01 b + 2 * bit01 d + 4 * bit01 f + 8 * bit01 h) := by
    decide
  simp only [check4, parityOf_xor, sum]

/-- What the check bits of a stored word say of its data (R283): 0 of a codeword. -/
def syndrome (x : Nat) : Nat := check4 (x % 256) ^^^ (x / 256 % 16)

theorem syndrome_xor (x y : Nat) : syndrome (x ^^^ y) = syndrome x ^^^ syndrome y := by
  have low : (x ^^^ y) % 256 = x % 256 ^^^ y % 256 := Nat.xor_mod_two_pow (n := 8)
  have high : (x ^^^ y) / 256 % 16 = x / 256 % 16 ^^^ y / 256 % 16 := by
    rw [(Nat.xor_div_two_pow (n := 8) : (x ^^^ y) / 256 = x / 256 ^^^ y / 256)]
    exact Nat.xor_mod_two_pow (n := 4)
  rw [syndrome, low, high, check4_xor, syndrome, syndrome]
  ac_rfl

/-- The checker's decision (R283), of the syndrome and the overall parity. -/
theorem decodeByte_eq (c : BitVec 13) : decodeByte c =
    if c.toNat ^^^ 0x1F00 = 0 ∨ (List.range 13).any (fun i => c.toNat ^^^ 0x1F00 == 2 ^ i) then .poisoned
    else if syndrome c.toNat = 0 ∧ !parityOf c.toNat 0x1FFF 13 then .clean (BitVec.ofNat 8 (c.toNat % 256))
    else if parityOf c.toNat 0x1FFF 13 ∧ syndrome c.toNat ≤ 12 then
      .fixed (BitVec.ofNat 8 (c.toNat % 256 ^^^ positionMask (syndrome c.toNat)))
    else .bad := rfl

/-- A codeword holds its byte, and no check fails. -/
theorem encodeByte_checks : ∀ b : BitVec 8, syndrome (encodeByte b).toNat = 0 ∧
    parityOf (encodeByte b).toNat 0x1FFF 13 = false ∧ (encodeByte b).toNat % 256 = b.toNat := by
  decide +kernel

/-- One error fails the overall parity, and its syndrome names the data bit, if it is one. -/
theorem error_checks : ∀ i < 13, syndrome (2 ^ i) ≤ 12 ∧ parityOf (2 ^ i) 0x1FFF 13 = true ∧
    positionMask (syndrome (2 ^ i)) = 2 ^ i % 256 := by
  decide

theorem poison_checks : syndrome 0x1F00 = 15 ∧ parityOf 0x1F00 0x1FFF 13 = true := by decide

/-- A word that fails the overall parity with a syndrome of a bit is no poison pattern, nor one error from it. -/
theorem not_poison {x : Nat} (hs : syndrome x ≤ 12) (hq : parityOf x 0x1FFF 13 = true) :
    ¬ (x ^^^ 0x1F00 = 0 ∨ (List.range 13).any (fun i => x ^^^ 0x1F00 == 2 ^ i) = true) := by
  obtain ⟨poison, odd⟩ := poison_checks
  rintro (same | near)
  · rw [Nat.xor_eq_zero_iff.mp same, poison] at hs
    omega
  · obtain ⟨i, hi, error⟩ := List.any_eq_true.mp near
    have single := (error_checks i (List.mem_range.mp hi)).2.1
    rw [← beq_iff_eq.mp error, parityOf_xor, hq, odd] at single
    cases single

/-- A byte with one error decodes as itself (R283, R285). -/
theorem decodeByte_single (b : Byte) (i : Fin 13) :
    (decodeByte (encodeByte b ^^^ 1#13 <<< i.val)).value = (b, false) := by
  obtain ⟨codeword, even, data⟩ := encodeByte_checks b
  obtain ⟨bit, odd, mask⟩ := error_checks i i.isLt
  have word : (encodeByte b ^^^ 1#13 <<< i.val).toNat = (encodeByte b).toNat ^^^ 2 ^ i.val := by
    have shifted : ∀ i : Fin 13, (1#13 <<< i.val).toNat = 2 ^ i.val := by decide
    rw [BitVec.toNat_xor, shifted]
  have hs : syndrome ((encodeByte b).toNat ^^^ 2 ^ i.val) = syndrome (2 ^ i.val) := by
    rw [syndrome_xor, codeword, Nat.zero_xor]
  have hq : parityOf ((encodeByte b).toNat ^^^ 2 ^ i.val) 0x1FFF 13 = true := by
    rw [parityOf_xor, even, odd]
    rfl
  have hv : ((encodeByte b).toNat ^^^ 2 ^ i.val) % 256 = b.toNat ^^^ 2 ^ i.val % 256 := by
    rw [← data]
    exact Nat.xor_mod_two_pow (n := 8)
  have clean := not_poison (hs ▸ bit) hq
  have failed : ¬ (syndrome ((encodeByte b).toNat ^^^ 2 ^ i.val) = 0 ∧
      (!parityOf ((encodeByte b).toNat ^^^ 2 ^ i.val) 0x1FFF 13) = true) := by
    rw [hq]
    exact fun h => Bool.false_ne_true h.2
  have fixed : BitVec.ofNat 8 (((encodeByte b).toNat ^^^ 2 ^ i.val) % 256 ^^^
      positionMask (syndrome ((encodeByte b).toNat ^^^ 2 ^ i.val))) = b := by
    rw [hv, hs, mask, Nat.xor_assoc, Nat.xor_self, Nat.xor_zero, BitVec.ofNat_toNat, BitVec.setWidth_eq]
  rw [decodeByte_eq, word, if_neg clean, if_neg failed, if_pos ⟨hq, hs ▸ bit⟩]
  exact congrArg (·, false) fixed

end Sys2Proof.Machine
end

section
/-! The waystations (R314 to R323): hops, ejections and discards. -/

namespace Sys2Proof.Machine

/-! ## What a buffer holds of a packet (R285) -/

/-- One error in one byte leaves the bytes as they were. -/
theorem transit_single (k : Nat) (i : Fin 13) (bs : List Byte) : transit [(k, 1#13 <<< i.val)] bs = (bs, false) := by
  simp only [transit, List.foldl_cons, List.foldl_nil]
  split
  next b hb =>
    obtain ⟨hk, rfl⟩ := List.getElem?_eq_some_iff.mp hb
    simp [decodeByte_single]
  · rfl

namespace Dev

theorem hopPkt_nil (p : Pkt) : hopPkt [] p = some p := rfl

/-- A single error, in the header or in the data, is corrected (R285). -/
theorem hopPkt_single (p : Pkt) (k : Nat) (i : Fin 13) : hopPkt [(k, 1#13 <<< i.val)] p = some p := by
  by_cases hk : k < 64
  · have data : ¬ 64 ≤ k := by omega
    simp only [hopPkt, List.filter_cons, hk, data, decide_true, decide_false, if_true, Bool.false_eq_true, if_false,
      List.filter_nil, transit_single]
    rfl
  · have data : 64 ≤ k := by omega
    simp only [hopPkt, List.filter_cons, hk, data, decide_true, decide_false, if_true, Bool.false_eq_true, if_false,
      List.filter_nil, List.map_cons, List.map_nil, transit_single]
    rfl

/-! ## The discards (R323) -/

/-- What a discard records and counts. -/
theorem nocDrop_records (d : Dev) {place port reason : Nat} (atNi : Bool) (hw : place < 256) (hp : port < 8)
    (hr : reason < 8) : let e := d.nocDrop place atNi port reason
    e.get Reg.NOC_CNT_DROP_CNT = min (d.get Reg.NOC_CNT_DROP_CNT + 1) (2 ^ Reg.NOC_CNT_DROP_CNT.w - 1) ∧
      e.on Reg.NOC_EVT_DROP = true ∧ e.get Reg.NOC_LAST_DROP_WHERE = place ∧ e.on Reg.NOC_LAST_DROP_AT_NI = atNi ∧
      e.get Reg.NOC_LAST_DROP_PORT = port ∧ e.get Reg.NOC_LAST_DROP_REASON = reason ∧
      e.on Reg.NOC_LAST_DROP_VALID = true := by
  have counted : min (d.get Reg.NOC_CNT_DROP_CNT + 1) (2 ^ Reg.NOC_CNT_DROP_CNT.w - 1) % 2 ^ Reg.NOC_CNT_DROP_CNT.w =
      min (d.get Reg.NOC_CNT_DROP_CNT + 1) (2 ^ Reg.NOC_CNT_DROP_CNT.w - 1) :=
    Nat.mod_eq_of_lt (lt_of_le_of_lt (Nat.min_le_right ..) (by decide))
  have place8 : place % 2 ^ Reg.NOC_LAST_DROP_WHERE.w = place := Nat.mod_eq_of_lt hw
  have port3 : port % 2 ^ Reg.NOC_LAST_DROP_PORT.w = port := Nat.mod_eq_of_lt hp
  have reason4 : reason % 2 ^ Reg.NOC_LAST_DROP_REASON.w = reason := Nat.mod_eq_of_lt (hr.trans (by decide))
  have atNi1 : ((if atNi then 1 else 0) % 2 ^ Reg.NOC_LAST_DROP_AT_NI.w != 0) = atNi := by cases atNi <;> rfl
  simp (disch := decide) only [nocDrop, count, raise_eq, setBit_eq, on, get_set_self, get_set_ne, get_set_off, counted,
    place8, port3, reason4, atNi1, true_and]
  decide

/-! ## The hop (R314) -/

/-- The device without the packet at the front of an input's channel. -/
def popped (d : Dev) (w inp vc : Nat) : Dev := { d with noc := { d.noc with flight := d.popFlight w inp vc } }

/-- The device whose output `o` has granted its channel `vc'` to the front of channel `vc` of input `inp`, which is
gone. -/
def grantedTo (d : Dev) (w o vc' inp vc : Nat) : Dev := { d with noc := { d.noc with
  arb := SMap.put 0 d.noc.arb ((w * 8 + o) * 4 + vc') ((inp + 1) % 5), flight := d.popFlight w inp vc } }

theorem niSt_grantedTo (d : Dev) (w o vc' inp vc i : Nat) : (d.grantedTo w o vc' inp vc).niSt i = d.niSt i := rfl

/-- Counting an event leaves the packets in flight alone. -/
theorem setFlight_count (d : Dev) (e c : Fld) (fs : List Flight) :
    ((d.raise e).count c).setFlight fs = ((d.setFlight fs).raise e).count c := rfl

theorem flight_count (d : Dev) (e c : Fld) : ((d.raise e).count c).noc.flight = d.noc.flight := rfl

/-- An interface takes the request that names it, if that is not one of class GT (R321). -/
theorem eject_request {d : Dev} {i : Nat} {f : Flight} (dst : f.pkt.dst = i) (request : f.pkt.cmd ≠ 5)
    (inClass : f.vc ≠ 0) : d.eject i f = d.setNi i { d.niSt i with rx := (d.niSt i).rx ++ [f.pkt] } := by
  simp [eject, dst, request, inClass]

/-- A packet after a hop from input `inp`: ROUTE rotated, HOPS one more. -/
def hopped (p : Pkt) (inp : Nat) : Pkt := { p with route := p.route / 8 % 2 ^ 93 + inp * 2 ^ 93, hops := p.hops + 1 }

theorem hopped_dst (p : Pkt) (inp : Nat) : (hopped p inp).dst = p.dst := by rw [hopped]

theorem hopped_cmd (p : Pkt) (inp : Nat) : (hopped p inp).cmd = p.cmd := by rw [hopped]

/-- The packet as the next waystation's input holds it. -/
def arriving (f : Flight) (w2 vc inp : Nat) : Flight :=
  ⟨w2, enterPort (f.pkt.route % 8), vc, hopped f.pkt inp, ⟨w2, enterPort (f.pkt.route % 8), vc, 0⟩ :: f.body⟩

section
variable {d : Dev} {w : Fin 192} {inp : Fin 5} {vc : Fin 4} {f : Flight}
  (hf : d.front w.val inp.val vc.val = some f) (up : d.domState (4 + wsPart w.val) = 0)
include hf up

theorem waystationHop_uncorrectable {flips : List (Nat × BitVec 13)} (lost : hopPkt flips f.pkt = none) :
    waystationHop w inp vc flips d = ((d.popped w.val inp.val vc.val).nocDrop w.val false (f.pkt.route % 8) 3).netPump := by
  simp only [waystationHop, hf, up, lost, ne_eq, not_true, if_false, popped]

theorem waystationHop_misrouted
    (bad : 5 ≤ f.pkt.route % 8 ∨ 32 ≤ f.pkt.hops ∨ (f.pkt.route % 8 < 4 ∧ meshStep w.val (f.pkt.route % 8) = none) ∨
      (f.pkt.route % 8 = 4 ∧ niAtWs w.val = none)) :
    waystationHop w inp vc [] d = ((d.popped w.val inp.val vc.val).nocDrop w.val false (f.pkt.route % 8) 2).netPump := by
  simp only [waystationHop, hf, up, hopPkt_nil, ne_eq, not_true, if_false, popped, Option.isNone_iff_eq_none, if_pos bad]

theorem waystationHop_disabled (good : f.pkt.route % 8 < 4) (hops : f.pkt.hops < 32) {w2 : Nat}
    (step : meshStep w.val (f.pkt.route % 8) = some w2) (off : d.outEnabled w.val (f.pkt.route % 8) f.pkt.epoch = false) :
    waystationHop w inp vc [] d = ((d.popped w.val inp.val vc.val).nocDrop w.val false (f.pkt.route % 8) 1).netPump := by
  have known : ¬ 5 ≤ f.pkt.route % 8 := by omega
  have through : f.pkt.route % 8 ≠ 4 := by omega
  simp only [waystationHop, hf, up, hopPkt_nil, step, off, known, through, Nat.not_le.mpr hops, ne_eq, not_true, if_false,
    if_true, popped, Option.isNone_some, Bool.false_eq_true, and_false, false_and, or_self, Bool.not_false]

section
variable (hops : f.pkt.hops < 32) {w2 : Nat} (step : meshStep w.val (f.pkt.route % 8) = some w2)
  (good : f.pkt.route % 8 < 4) (on : d.outEnabled w.val (f.pkt.route % 8) f.pkt.epoch = true)
include hops step good on

theorem waystationHop_stays (waits : d.canHop f = false ∨ d.granted f = false) : waystationHop w inp vc [] d = d := by
  have known : ¬ 5 ≤ f.pkt.route % 8 := by omega
  have through : f.pkt.route % 8 ≠ 4 := by omega
  simp only [waystationHop, hf, up, hopPkt_nil, step, on, waits, known, through, Nat.not_le.mpr hops, ne_eq, not_true,
    if_false, if_true, Option.isNone_some, Bool.false_eq_true, and_false, false_and, or_self, Bool.not_true,
    Bool.not_eq_true']

/-- A header that its output grants goes to the next waystation's input. -/
theorem waystationHop_steps (room : d.canHop f = true) (turn : d.granted f = true) (inClass : vc ≠ 0) :
    waystationHop w inp vc [] d = ((d.grantedTo w.val (f.pkt.route % 8) vc.val inp.val vc.val).setFlight
      (d.popFlight w.val inp.val vc.val ++ [arriving f w2 vc.val inp.val])).netPump := by
  have known : ¬ 5 ≤ f.pkt.route % 8 := by omega
  have through : f.pkt.route % 8 ≠ 4 := by omega
  have vc0 : vc.val ≠ 0 := Fin.val_ne_zero_iff.mpr inClass
  simp only [waystationHop, hf, up, hopPkt_nil, step, on, room, turn, vc0, known, through, Nat.not_le.mpr hops, ne_eq,
    not_true, if_false, Option.isNone_some, Bool.false_eq_true, and_false, false_and, or_self, Bool.not_true,
    decide_false]
  rfl

/-- A guaranteed packet outside its slot goes on as best-effort, and the miss is counted (R321). -/
theorem waystationHop_misses (best : vc.val = 0) (room : d.canHop f = true) (turn : d.granted f = true)
    (miss : d.slotOwner (bit01 f.pkt.epoch) w.val (f.pkt.route % 8) (d.get Reg.NOC_STS_SLOT) ≠ inp.val) :
    waystationHop w inp vc [] d = ((((d.grantedTo w.val (f.pkt.route % 8) 3 inp.val 0).setFlight
      (d.popFlight w.val inp.val 0 ++ [arriving f w2 3 inp.val])).raise Reg.NOC_EVT_GT_MISS).count
        Reg.NOC_CNT_GT_MISS_CNT).netPump := by
  rw [best] at hf
  have known : ¬ 5 ≤ f.pkt.route % 8 := by omega
  have through : f.pkt.route % 8 ≠ 4 := by omega
  simp only [waystationHop, hf, up, hopPkt_nil, step, on, room, turn, miss, best, known, through, Nat.not_le.mpr hops, ne_eq,
    not_true, not_false_eq_true, if_false, if_true, Option.isNone_some, Bool.false_eq_true, and_false, false_and,
    or_self, Bool.not_true, true_and, decide_true]
  rw [setFlight_count, flight_count]
  rfl

end

/-- A packet at its last waystation is ejected to the interface there (R321). -/
theorem waystationHop_ejects (hops : f.pkt.hops < 32) {i : Nat} (last : f.pkt.route % 8 = 4) (at_ni : niAtWs w.val = some i)
    (on : d.outEnabled w.val 4 f.pkt.epoch = true) (turn : d.granted f = true) (inClass : vc ≠ 0) :
    waystationHop w inp vc [] d = ((d.grantedTo w.val 4 vc.val inp.val vc.val).eject i
        { f with pkt := hopped f.pkt inp.val, vc := vc.val }).netPump := by
  have vc0 : vc.val ≠ 0 := Fin.val_ne_zero_iff.mpr inClass
  have room : d.canHop f = true := if_pos (by omega)
  simp only [waystationHop, hf, up, hopPkt_nil, last, at_ni, on, room, turn, vc0, Nat.not_le.mpr hops, ne_eq, not_true,
    if_false, if_true, Option.isNone_some, Bool.false_eq_true, and_false, false_and, or_self, Bool.not_true,
    decide_false, Nat.reduceLeDiff, Nat.lt_irrefl]
  rfl

end

end Dev

/-- Settles O30: each clause is one branch of the hop; without room or grant the hop returns the device it had. -/
theorem waystations : Obligations.Waystations := by
  refine ⟨?step, ?eject, ?miss, ?uncorrectable, ?single, ?misrouted, ?disabled, ?record, ?stay⟩
  case step =>
    intro s w inp vc f w2 hs hr up hf good hops step on room turn inClass
    exact State.goes_of_rooted hs hr rfl (Dev.netFrame_calm.waystationHop ..)
      (Dev.waystationHop_steps hf up hops step good on room turn inClass)
  case eject =>
    intro s w inp vc f i hs hr up hf last hops at_ni dst request on turn inClass
    refine State.goes_of_rooted hs hr rfl (Dev.netFrame_calm.waystationHop ..) ?_
    rw [Dev.waystationHop_ejects hf up hops last at_ni on turn inClass, Dev.eject_request, Dev.niSt_grantedTo]
    · rfl
    · exact (Dev.hopped_dst ..).trans dst
    · exact ne_of_eq_of_ne (Dev.hopped_cmd ..) request
    · exact Fin.val_ne_zero_iff.mpr inClass
  case miss =>
    intro s w inp f w2 hs hr up hf good hops step on room turn miss
    exact State.goes_of_rooted hs hr rfl (Dev.netFrame_calm.waystationHop ..)
      (Dev.waystationHop_misses hf up hops step good on rfl room turn miss)
  case uncorrectable =>
    intro s w inp vc f flips hs hr up hf lost
    exact State.goes_of_rooted hs hr rfl (Dev.netFrame_calm.waystationHop ..)
      (Dev.waystationHop_uncorrectable hf up lost)
  case single => exact fun p k i => Dev.hopPkt_single p k i
  case misrouted =>
    intro s w inp vc f hs hr up hf bad
    exact State.goes_of_rooted hs hr rfl (Dev.netFrame_calm.waystationHop ..) (Dev.waystationHop_misrouted hf up bad)
  case disabled =>
    intro s w inp vc f w2 hs hr up hf good hops step off
    exact State.goes_of_rooted hs hr rfl (Dev.netFrame_calm.waystationHop ..)
      (Dev.waystationHop_disabled hf up good hops step off)
  case record => exact fun d place port reason atNi hw hp hr => Dev.nocDrop_records d atNi hw hp hr
  case stay =>
    intro s w inp vc f w2 hs hr up hf good hops step on waits
    exact State.goes_of_rooted hs hr rfl (Dev.netFrame_calm.waystationHop ..)
      (Dev.waystationHop_stays hf up hops step good on waits)

end Sys2Proof.Machine
end

section
/-! NOC_CTL (R335): what a write of one of its commands does before the command acts and after. -/

namespace Sys2Proof.Machine
namespace Dev

/-! ## The register -/

/-- NOC_CTL holds six commands, RB_ALL and READ_ACTIVE (R335). -/
def nocCtl : RegDef := ⟨0x60000, 1, 0x0, 1, 0x0, 0x6000, 0, 0,
  [⟨0, 1, .cmd, true, 0, [], false⟩, ⟨1, 1, .cmd, true, 0, [], false⟩, ⟨2, 1, .cmd, true, 0, [], false⟩,
   ⟨3, 1, .cmd, false, 0, [], false⟩, ⟨4, 1, .cmd, true, 0, [], false⟩, ⟨5, 1, .cmd, false, 0, [], false⟩,
   ⟨6, 1, .ctl, false, 0, [], false⟩, ⟨7, 1, .ctl, false, 0, [], false⟩]⟩

theorem regAt_nocCtl : regAt Reg.NOC_CTL = some nocCtl := by decide

theorem otherHalf_nocCtl : otherHalf Reg.NOC_CTL = none := by decide

/-- A write of what NOC_CTL holds, one command bit apart, leaves it as it was. -/
theorem written_nocCtl_command (x : Word) {k : Nat} (hk : k < 6) : nocCtl.written x (withField x k 1 1) = x := by
  have b6 : fieldOf (withField x k 1 1) 6 1 = fieldOf x 6 1 := fieldOf_withField_ne x 1 (by omega) (by omega)
  have b7 : fieldOf (withField x k 1 1) 7 1 = fieldOf x 7 1 := fieldOf_withField_ne x 1 (by omega) (by omega)
  simp [RegDef.written, nocCtl, b6, b7, withField_fieldOf]

theorem written_nocCtl_self (x : Word) : nocCtl.written x x = x := by
  simp [RegDef.written, nocCtl, withField_fieldOf]

/-! ## Its commands -/

/-- The engine behind command bit `k`, for a write of `x`. -/
def nocEff (k : Nat) (x : Word) : Dev → Dev × Code :=
  match k with
  | 0 => epochEff (x.toNat.testBit 1)
  | 1 => rbCopyEff
  | 2 => rbWriteEff
  | 3 => rbReadEff
  | 4 => stWriteEff
  | _ => stReadEff

/-- The index whose change counter command bit `k` moves (log 102). -/
def nocIndex (k : Nat) : Nat := if k = 0 then 0x6000 else if k ≤ 3 then 0x6010 else 0x6020

/-- Of a list of which a filter keeps the images `[k]`, the filter keeps one element. -/
theorem exists_eq_singleton_of_map {α : Type} {g : α → Nat} {l : List α} {k : Nat} (h : l.map g = [k]) :
    ∃ c, l = [c] ∧ g c = k := by
  obtain ⟨c, rest, hl, hg, hn⟩ := List.map_eq_cons_iff.mp h
  exact ⟨c, by rw [hl, List.map_eq_nil_iff.mp hn], hg⟩

/-- A write that presents one command of NOC_CTL presents its engine. -/
theorem presented_nocCtl {x : Word} {k : Nat} (h : cmdBits Reg.NOC_CTL x = [k]) :
    k < 6 ∧ ∃ c, presented 0 Reg.NOC_CTL x = [c] ∧ c.lsb = k ∧ c.eff x = nocEff k x := by
  obtain ⟨c, one, rfl⟩ := exists_eq_singleton_of_map h
  have listed : c ∈ cmdsAt 0 Reg.NOC_CTL := List.mem_of_mem_filter (one ▸ List.mem_singleton_self c)
  have six : cmdsAt 0 Reg.NOC_CTL = cmdsMid Reg.NOC_CTL := rfl
  rw [six] at listed
  rcases listed with _ | ⟨_, _ | ⟨_, _ | ⟨_, _ | ⟨_, _ | ⟨_, _ | ⟨_, ⟨⟩⟩⟩⟩⟩⟩⟩ <;>
    exact ⟨by decide, _, one, rfl, rfl⟩

/-- The command bits of a write that presents command `k` alone. -/
theorem fieldOf_of_presents {x : Word} {k l : Nat} (h : cmdBits Reg.NOC_CTL x = [k]) (hl : l < 6) :
    fieldOf x l 1 ≠ 0 ↔ l = k := by
  have width : ∀ c ∈ cmdsAt 0 Reg.NOC_CTL, (fieldOf x c.lsb c.w != 0) = (fieldOf x c.lsb 1 != 0) := by
    have one : (cmdsAt 0 Reg.NOC_CTL).all (fun c => c.w == 1) = true := rfl
    intro c hc
    rw [beq_iff_eq.mp (List.all_eq_true.mp one c hc)]
  have bits : cmdBits Reg.NOC_CTL x = [1, 0, 2, 3, 4, 5].filter (fun l => fieldOf x l 1 != 0) := by
    rw [cmdBits, presented, List.filter_congr width]
    exact (List.filter_map (f := fun c : CmdDef => c.lsb) (p := fun l => fieldOf x l 1 != 0)).symm
  have listed : l ∈ [1, 0, 2, 3, 4, 5] := by
    simp only [List.mem_cons, List.not_mem_nil, or_false]
    omega
  rw [← List.mem_singleton, ← h, bits, List.mem_filter]
  simp [listed]

/-- The low bits of a write that presents command `k` alone. -/
theorem low_of_presents {x : Word} {k : Nat} (h : cmdBits Reg.NOC_CTL x = [k]) (hk : k < 6) :
    x.toNat % 64 = 2 ^ k := by
  have bits := fun l hl => fieldOf_of_presents (l := l) h hl
  simp only [fieldOf] at bits
  have b0 := bits 0 (by decide)
  have b1 := bits 1 (by decide)
  have b2 := bits 2 (by decide)
  have b3 := bits 3 (by decide)
  have b4 := bits 4 (by decide)
  have b5 := bits 5 (by decide)
  interval_cases k <;> omega

/-- A write of one command bit keeps RB_ALL and READ_ACTIVE. -/
theorem high_of_command (x : Word) {k : Nat} (hk : k < 6) : ((withField x k 1 1).toNat ^^^ x.toNat) &&& 0xC0 = 0 := by
  apply Nat.eq_of_testBit_eq
  intro i
  rw [Nat.testBit_and, Nat.testBit_xor, testBit_withField _ _ (by omega), Nat.zero_testBit]
  by_cases hi : k ≤ i ∧ i < k + 1
  · obtain rfl : i = k := by omega
    have low : (0xC0 : Nat).testBit i = false := by
      revert i
      decide
    rw [low, Bool.and_false]
  · rw [if_neg hi, Bool.xor_self, Bool.false_and]

/-- A write of one command moves the change counter of that command's index. -/
theorem aliasesWritten_nocCtl {x : Word} {k : Nat} (h : cmdBits Reg.NOC_CTL (withField x k 1 1) = [k]) (hk : k < 6) :
    aliasesWritten Reg.NOC_CTL x (withField x k 1 1) = [nocIndex k] := by
  have low := low_of_presents h hk
  have mask : ∀ m < 64, fieldOf (withField x k 1 1) 0 32 &&& m = 2 ^ k &&& m := fun m hm => by
    have word : fieldOf (withField x k 1 1) 0 32 = (withField x k 1 1).toNat := by
      simpa [fieldOf] using Nat.mod_eq_of_lt (withField x k 1 1).isLt
    have small : (withField x k 1 1).toNat &&& m < 2 ^ 6 := lt_of_le_of_lt Nat.and_le_right hm
    rw [word, ← low, ← Nat.mod_eq_of_lt small, Nat.and_mod_two_pow, Nat.mod_eq_of_lt (a := m) (b := 2 ^ 6) hm]
  have kept : ¬ ((withField x k 1 1).toNat ^^^ x.toNat) &&& 0xC0 ≠ 0 := not_not.mpr (high_of_command x hk)
  have another : Reg.NOC_CTL ≠ Reg.CFG_CTL := by decide
  simp only [aliasesWritten, if_neg another, if_true, List.filter_cons, List.filter_nil, mask _ (by decide : (0x1 : Nat) < 64),
    mask _ (by decide : (0xE : Nat) < 64), mask _ (by decide : (0x30 : Nat) < 64), kept, or_false]
  clear low mask kept h
  revert k
  decide

/-! ## A command that is taken -/

/-- Field `f` is a command of NOC_CTL. -/
def NocCommand (f : Fld) : Prop := f.off = Reg.NOC_CTL ∧ f.w = 1

section
variable {d : Dev} {who : Who} {f : Fld} (hf : NocCommand f) (h : d.takes who f = true)
include hf h

theorem takesWrite_of_takes : d.takesWrite who Reg.NOC_CTL (withField (d.word Reg.NOC_CTL) f.lsb 1 1) = true ∧
    cmdBits Reg.NOC_CTL (withField (d.word Reg.NOC_CTL) f.lsb 1 1) = [f.lsb] := by
  obtain ⟨off, w⟩ := hf
  simpa only [takes, takesCmd, off, w, Bool.and_eq_true, beq_iff_eq] using h

/-- A command of NOC_CTL is one of its six. -/
theorem lsb_of_takes : f.lsb < 6 := (presented_nocCtl (takesWrite_of_takes hf h).2).1

/-- A command that is taken changes no register before it acts. -/
theorem word_nocWritten (o : Nat) : (d.writtenCmd who f).word o = d.word o := by
  have six := lsb_of_takes hf h
  obtain ⟨off, w⟩ := hf
  rw [writtenCmd, off, w]
  by_cases ho : o = Reg.NOC_CTL
  · rw [ho, word_written_self d who _ regAt_nocCtl, written_nocCtl_command _ six]
  · exact word_written_ne d who _ regAt_nocCtl otherHalf_nocCtl ho

omit h in
theorem restSame_nocWritten : d.restSame (d.writtenCmd who f) := by
  obtain ⟨off, w⟩ := hf
  rw [writtenCmd, off]
  exact restSame_written d who _ _ _ regAt_nocCtl

omit h in
theorem calm_nocWritten (hc : d.calm = true) : (d.writtenCmd who f).calm = true :=
  calm_of_restSame (restSame_nocWritten hf) hc

/-- A command starts only out of the block's safe state (R90). -/
theorem safe_of_takes : d.safe Reg.NOC_CTL = false := by
  obtain ⟨taken, bits⟩ := takesWrite_of_takes hf h
  obtain ⟨-, c, one, -, -⟩ := presented_nocCtl bits
  simp only [takesWrite, csrBusy, one, Bool.and_eq_true, Bool.not_eq_true', Bool.or_eq_false_iff] at taken
  obtain ⟨⟨-, ⟨⟨⟨⟨barred, -⟩, -⟩, -⟩, -⟩, -⟩, -⟩ := taken
  simpa [safeBars, Reg.NOC_CTL, Reg.CFG_CTL, Reg.MARCH_CTL] using barred

/-- A command that its engine accepts. -/
theorem command_noc_accepted {e : Dev}
    (he : nocEff f.lsb (withField (d.word Reg.NOC_CTL) f.lsb 1 1) (d.writtenCmd who f) = (e, .ok)) :
    d.command who f = (e.touch (nocIndex f.lsb), .ok) := by
  obtain ⟨taken, bits⟩ := takesWrite_of_takes hf h
  obtain ⟨six, c, one, -, eff⟩ := presented_nocCtl bits
  have aliases := aliasesWritten_nocCtl bits six
  obtain ⟨off, w⟩ := hf
  rw [← eff, writtenCmd, off, w, written_eq d who _ _ _ regAt_nocCtl] at he
  rw [command, fieldWrite, csrWrite, off, w, csrWriteCo_of_taken d 0 who _ _ taken, aliases]
  have apart : fifoAt Reg.NOC_CTL = none ∧ Reg.NOC_CTL ≠ Reg.UNLOCK_KEY ∧ Reg.NOC_CTL ≠ Reg.PWR_CTL ∧
    ¬(Reg.PATCH_ADDR 0 ≤ Reg.NOC_CTL ∧ Reg.NOC_CTL < Reg.PATCH_ADDR 16) := by decide
  obtain ⟨fifo, key, pwr, patch⟩ := apart
  simp only [csrStore, fifo, key, if_false, regAt_nocCtl, patch, pwr, decide_false, Bool.false_and, one, List.foldl_cons,
    List.foldl_nil, if_true, he]
  rfl

/-- A command that its engine refuses, with NOC_CTL as it was, leaves the registers that the engine leaves (R43). -/
theorem command_noc_refused {e : Dev} {c : Code} (hc : c ≠ .ok)
    (he : nocEff f.lsb (withField (d.word Reg.NOC_CTL) f.lsb 1 1) (d.writtenCmd who f) = (e, c))
    (same : e.word Reg.NOC_CTL = d.word Reg.NOC_CTL) :
    ∃ e', d.command who f = (e', c) ∧ (∀ o, e'.word o = e.word o) ∧ e.restSame e' := by
  obtain ⟨taken, bits⟩ := takesWrite_of_takes hf h
  obtain ⟨-, engine, one, -, eff⟩ := presented_nocCtl bits
  obtain ⟨off, w⟩ := hf
  rw [← eff, writtenCmd, off, w, written_eq d who _ _ _ regAt_nocCtl] at he
  have store := csrStore_of_refused _ _ 0 who _ _ _ _ _ one regAt_nocCtl (by decide) (by decide) (by decide) hc he
  refine ⟨refused (d.unlocked who Reg.NOC_CTL (withField (d.word Reg.NOC_CTL) f.lsb 1 1)) e Reg.NOC_CTL nocCtl, ?_,
    fun o => ?_, restSame_refused ..⟩
  · rw [command, fieldWrite, csrWrite, off, w]
    exact csrWriteCo_of_refused taken store hc
  · rw [word_refused, word_unlocked, same, written_nocCtl_self]
    by_cases ho : o = Reg.NOC_CTL
    · rw [ho, word_putWord_self, same]
    · rw [word_putWord_ne _ _ ho]

end

end Dev
end Sys2Proof.Machine
end

section
/-! Route epochs (R328 to R330) and the engines of the NOC block (R315, R335). -/

namespace Sys2Proof.Machine

/-! ## Bytes as numbers (R8) -/

theorem ofLe_lt (bs : List Byte) : ofLe bs < 2 ^ (8 * bs.length) := by
  induction bs with
  | nil => decide
  | cons b bs ih =>
    have byte : b.toNat < 256 := b.isLt
    have pow : 2 ^ (8 * (b :: bs).length) = 256 * 2 ^ (8 * bs.length) := by
      rw [List.length_cons, Nat.mul_succ, pow_add]
      ring
    rw [ofLe, pow]
    omega

namespace Dev

/-! ## Devices whose registers agree -/

section
variable {d e : Dev} (words : ∀ o, e.word o = d.word o)
include words

theorem get_of_words (f : Fld) : e.get f = d.get f := congrArg (fieldOf · f.lsb f.w) (words f.off)

theorem on_of_words (f : Fld) : e.on f = d.on f := congrArg (· != 0) (get_of_words words f)

theorem nocBusy_of_words : e.nocBusy = d.nocBusy := by simp only [nocBusy, on_of_words words]

theorem epoch_of_words : e.epoch = d.epoch := get_of_words words _

theorem rbData_of_words : e.rbData = d.rbData := by simp only [rbData, get_of_words words]

theorem stKey_of_words (c k : Nat) : e.stKey c k = d.stKey c k := by simp only [stKey, get_of_words words]

theorem cell_of_words (cells : e.cells = d.cells) (m : MemUnit) (a : Nat) : e.cell m a = d.cell m a := by
  simp only [cell, place, remapEntry, on_of_words words, get_of_words words, cells]

/-- What a read of an entry finds. -/
theorem bookRead_of_words (cells : e.cells = d.cells) (i c k : Nat) :
    (e.bookRead i c k).1 = (d.bookRead i c k).1 ∧ (e.bookRead i c k).2.1 = (d.bookRead i c k).2.1 := by
  simp only [bookRead, readLe, readBytes, cell_of_words words cells, and_self]

end

section
variable {d e : Dev} (h : d.restSame e)
include h

theorem noc_of_restSame : e.noc = d.noc := by
  unfold restSame at h
  exact (congrArg Dev.noc h :)

theorem cells_of_restSame : e.cells = d.cells := by
  unfold restSame at h
  exact (congrArg Dev.cells h :)

theorem slots_of_restSame : e.slots = d.slots := by
  unfold restSame at h
  exact (congrArg Dev.slots h :)

theorem ni_of_restSame : e.ni = d.ni := by
  unfold restSame at h
  exact (congrArg Dev.ni h :)

end

/-- A CTL field of NOC_CTL out of the block's safe state is what the register holds. -/
theorem ctl_nocCtl {d : Dev} {f : Fld} (hf : NocCommand f) (hs : d.safe Reg.NOC_CTL = false) : d.ctl f = d.get f := by
  have sound : d.failed Reg.NOC_CTL = false := by
    rw [Bool.eq_false_iff]
    intro bad
    have barred : d.safe Reg.NOC_CTL = true :=
      List.any_eq_true.mpr ⟨_, List.contains_iff_mem.mp bad, beq_self_eq_true _⟩
    rw [hs] at barred
    cases barred
  have plain : keepsForce Reg.NOC_CTL = false := by decide
  simp only [ctl, hf.1, hs, sound, plain, Bool.false_eq_true, if_false]

/-- A taken command of NOC_CTL leaves what its register's settings say. -/
theorem ctlOn_nocWritten {d : Dev} {who : Who} {c f : Fld} (hc : NocCommand c) (h : d.takes who c = true)
    (hf : NocCommand f) : (d.writtenCmd who c).ctlOn f = d.ctlOn f := by
  have hs := safe_of_takes hc h
  have hs' : (d.writtenCmd who c).safe Reg.NOC_CTL = false := by
    rw [writtenCmd, hc.1]
    exact safe_written who _ regAt_nocCtl hs
  rw [ctlOn, ctlOn, ctl_nocCtl hf hs, ctl_nocCtl hf hs', get_of_words (word_nocWritten hc h)]

/-! ## The end of a command -/

section
variable (d : Dev) (ix sub i : Nat) (c c' : Code)

theorem word_answered (o : Nat) : (((d.cmdDone ix sub c).touch i).reply c').word o = d.word o := by
  rw [word_reply, word_touch, word_cmdDone]

theorem slots_answered : (((d.cmdDone ix sub c).touch i).reply c').slots = d.slots := by
  have ended : d.restSame (d.cmdDone ix sub c) := rfl
  exact slots_of_restSame (restSame_trans ended (restSame_trans (restSame_touch ..) (restSame_reply ..)))

end

/-! ## EPOCH (R328) -/

theorem epochEff_idle {d : Dev} (h : d.nocBusy = false) :
    epochEff false d = ((d.raise Reg.NOC_STS_COMMIT_PENDING).cmdStart 0x6000 1, .ok) := if_neg (by simp [h])

theorem epochEff_busy {d : Dev} (c : Bool) (h : d.nocBusy = true) : epochEff c d = (d, .busy) := if_pos (.inr h)

/-- EPOCH alone comes without an RB_COPY. -/
theorem noCopy_of_epoch {x : Word} (h : cmdBits Reg.NOC_CTL x = [0]) : x.toNat.testBit 1 = false := by
  have none : fieldOf x 1 1 = 0 := not_not.mp (mt (fieldOf_of_presents h (by decide)).mp (by decide))
  simpa [none] using (testBit_fieldOf x 1 1 0).symm

/-! ## Entries of the route books (R315, R335) -/

section
variable {d e : Dev} (words : ∀ o, e.word o = d.word o)
include words

theorem rbWriteEff_stores (busy : d.nocBusy = false)
    (check : (if d.rbData.testBit 127 then bookCheck (d.get Reg.NOC_RBSEL_RB_NI) (d.get Reg.NOC_RBSEL_RB_IDX) d.rbData
      else none) = none) :
    rbWriteEff e = ((e.stageBook (d.get Reg.NOC_RBSEL_RB_NI) (1 - d.epoch) (d.get Reg.NOC_RBSEL_RB_IDX)
      d.rbData).cmdDone 0x6010 3 .ok, .ok) := by
  simp only [rbWriteEff, nocBusy_of_words words, busy, get_of_words words, rbData_of_words words, check,
    epoch_of_words words, Bool.false_eq_true, if_false]

/-- What a refused entry leaves (R315). -/
def bookRefused (d : Dev) (c h : Nat) : Dev :=
  (((d.set Reg.RB_ERR_CAUSE c).set Reg.RB_ERR_HOP h).raise Reg.NOC_EVT_RB_REFUSED).cmdDone 0x6010 3 .targetErr

theorem rbWriteEff_refuses {c h : Nat} (busy : d.nocBusy = false) (valid : d.rbData.testBit 127 = true)
    (check : bookCheck (d.get Reg.NOC_RBSEL_RB_NI) (d.get Reg.NOC_RBSEL_RB_IDX) d.rbData = some (c, h)) :
    rbWriteEff e = (e.bookRefused c h, .targetErr) := by
  simp only [rbWriteEff, nocBusy_of_words words, busy, get_of_words words, rbData_of_words words, valid, check,
    Bool.false_eq_true, if_false, if_true]
  rfl

theorem rbCopyEff_copies (busy : d.nocBusy = false) (all : e.ctlOn Reg.NOC_CTL_RB_ALL = d.ctlOn Reg.NOC_CTL_RB_ALL) :
    rbCopyEff e = (((if d.ctlOn Reg.NOC_CTL_RB_ALL then List.range 170 else [d.get Reg.NOC_RBSEL_RB_NI]).foldl copyBook
      e).cmdDone 0x6010 5 .ok, .ok) := by
  simp only [rbCopyEff, nocBusy_of_words words, busy, all, get_of_words words, Bool.false_eq_true, if_false]

end

theorem bookRefused_records (d : Dev) {c h : Nat} (hc : c < 8) (hh : h < 32) :
    (d.bookRefused c h).get Reg.RB_ERR_CAUSE = c ∧ (d.bookRefused c h).get Reg.RB_ERR_HOP = h ∧
      (d.bookRefused c h).on Reg.NOC_EVT_RB_REFUSED = true := by
  have cause : c % 2 ^ Reg.RB_ERR_CAUSE.w = c := Nat.mod_eq_of_lt (hc.trans (by decide))
  have hop : h % 2 ^ Reg.RB_ERR_HOP.w = h := Nat.mod_eq_of_lt hh
  simp (disch := decide) only [bookRefused, get_cmdDone, raise_eq, on, get_set_self, get_set_ne,
    get_set_off, cause, hop, true_and]
  decide

theorem word_bookRefused (d : Dev) (c h : Nat) : (d.bookRefused c h).word Reg.NOC_CTL = d.word Reg.NOC_CTL := by
  simp (disch := decide) only [bookRefused, word_cmdDone, raise_eq, word_set_ne]

theorem restSame_bookRefused (d : Dev) (c h : Nat) : d.restSame (d.bookRefused c h) := rfl

/-- An entry of 128 bits as the four words of RB_DATA (R335). -/
def showEntry (d : Dev) (v : Nat) : Dev :=
  (List.range 4).foldl (fun a w => a.set (Reg.RB_DATA_DATA w) (v / 2 ^ (32 * w))) d

/-- A number of 128 bits is its four words. -/
theorem words_of_lt {v : Nat} (hv : v < 2 ^ 128) : 0 + v / 2 ^ (32 * 0) % 2 ^ 32 * 2 ^ (32 * 0) +
    v / 2 ^ (32 * 1) % 2 ^ 32 * 2 ^ (32 * 1) + v / 2 ^ (32 * 2) % 2 ^ 32 * 2 ^ (32 * 2) +
    v / 2 ^ (32 * 3) % 2 ^ 32 * 2 ^ (32 * 3) = v := by omega

theorem rbData_eq (d : Dev) : d.rbData = 0 + d.get (Reg.RB_DATA_DATA 0) * 2 ^ (32 * 0) +
    d.get (Reg.RB_DATA_DATA 1) * 2 ^ (32 * 1) + d.get (Reg.RB_DATA_DATA 2) * 2 ^ (32 * 2) +
    d.get (Reg.RB_DATA_DATA 3) * 2 ^ (32 * 3) := by
  have range : List.range 4 = [0, 1, 2, 3] := rfl
  rw [rbData, range, List.foldl_cons, List.foldl_cons, List.foldl_cons, List.foldl_cons, List.foldl_nil]

theorem showEntry_eq (d : Dev) (v : Nat) : d.showEntry v =
    (((d.set (Reg.RB_DATA_DATA 0) (v / 2 ^ (32 * 0))).set (Reg.RB_DATA_DATA 1) (v / 2 ^ (32 * 1))).set
      (Reg.RB_DATA_DATA 2) (v / 2 ^ (32 * 2))).set (Reg.RB_DATA_DATA 3) (v / 2 ^ (32 * 3)) := rfl

theorem rbData_showEntry (d : Dev) {v : Nat} (hv : v < 2 ^ 128) : (d.showEntry v).rbData = v := by
  rw [rbData_eq, showEntry_eq]
  simp (disch := decide) only [get_set_self, get_set_off]
  exact words_of_lt hv

/-- An entry that is read has 128 bits. -/
theorem bookRead_lt (d : Dev) (i c k : Nat) : (d.bookRead i c k).1 < 2 ^ 128 := by
  have bytes := ofLe_lt ((d.readBytes (.hs (2 + i)) (c % 2 * 8192 + k % 512 * 16) 16).1.map (·.1))
  rwa [List.length_map, readBytes, List.length_map, List.length_range] at bytes

/-- RB_READ of an entry that is not poisoned. -/
theorem rbReadEff_reads {d e : Dev} {i c k : Nat} (words : ∀ o, e.word o = d.word o) (cells : e.cells = d.cells)
    (copy : (if e.ctlOn Reg.NOC_CTL_READ_ACTIVE then e.epoch else 1 - e.epoch) = c)
    (ni : e.get Reg.NOC_RBSEL_RB_NI = i) (ix : e.get Reg.NOC_RBSEL_RB_IDX = k)
    (clean : (d.bookRead i c k).2.1 = false) :
    rbReadEff e = (((e.bookRead i c k).2.2.showEntry (d.bookRead i c k).1).cmdDone 0x6010 4 .ok, .ok) := by
  obtain ⟨value, poison⟩ := bookRead_of_words words cells i c k
  simp only [rbReadEff, copy, ni, ix, value, poison, clean, Bool.false_eq_true, if_false]
  rfl

namespace NetFrame

theorem showEntry {α : Type} {g : Dev → α} (h : NetFrame g) (d : Dev) (v : Nat) : g (d.showEntry v) = g d :=
  foldl_keeps g _ (fun _ _ => h.set ..) _ _

theorem copyEntry {α : Type} {g : Dev → α} (h : NetFrame g) (i : Nat) (d : Dev) (k : Nat) :
    g (Dev.copyEntry i d k) = g d := by
  have poisons : ∀ (a : Dev) (b : (Byte × Bool) × Nat) (m : MemUnit) (at_ : Nat),
      g (if b.1.2 then a.storeByte m at_ 0 true else a) = g a := fun a b m at_ => by
    split
    · exact h.storeByte ..
    · rfl
  exact (foldl_keeps g _ (fun a b => poisons a b _ _) _ _).trans ((h.stageBook ..).trans (h.readBytes ..))

theorem copyBook {α : Type} {g : Dev → α} (h : NetFrame g) (d : Dev) (i : Nat) : g (d.copyBook i) = g d :=
  foldl_keeps g _ (h.copyEntry i) _ _

end NetFrame

/-! ## Groups of slot tables (R335) -/

/-- The first `n` slots of a group with keys `key` staged with the owners `val`. -/
def stageSlots (key val : Nat → Nat) (n : Nat) (d : Dev) : Dev :=
  (List.range n).foldl (fun a k => a.stageSlot (key k) (val k)) d

theorem stageSlots_succ (key val : Nat → Nat) (n : Nat) (d : Dev) :
    stageSlots key val (n + 1) d = (stageSlots key val n d).stageSlot (key n) (val n) := by
  rw [stageSlots, List.range_succ, List.foldl_append, List.foldl_cons, List.foldl_nil, stageSlots]

/-- Slots that no key names keep their owners. -/
theorem slot_stageSlots_ne {key : Nat → Nat} (val : Nat → Nat) (d : Dev) {n j : Nat} (h : ∀ k < n, j ≠ key k) :
    SMap.get 7 (stageSlots key val n d).slots j = SMap.get 7 d.slots j := by
  induction n with
  | zero => rfl
  | succ n ih =>
    rw [stageSlots_succ, stageSlot]
    exact (SMap.get_put_ne _ _ _ _ (h n (by omega))).trans (ih fun k hk => h k (by omega))

/-- Each slot of a group takes its owner. -/
theorem slot_stageSlots {key : Nat → Nat} (val : Nat → Nat) (d : Dev) (apart : ∀ i j, key i = key j → i = j)
    {n k : Nat} (h : k < n) : SMap.get 7 (stageSlots key val n d).slots (key k) = val k := by
  induction n with
  | zero => omega
  | succ n ih =>
    rw [stageSlots_succ, stageSlot]
    by_cases last : k = n
    · rw [last]
      exact SMap.get_put_self ..
    · exact (SMap.get_put_ne _ _ _ _ (mt (apart k n) last)).trans (ih (by omega))

theorem calm_stageSlots (key val : Nat → Nat) (n : Nat) (d : Dev) : (stageSlots key val n d).calm = d.calm :=
  foldl_keeps calm (fun a k => a.stageSlot (key k) (val k)) (fun _ _ => calm_congr rfl rfl rfl rfl rfl) _ _

theorem word_stageSlots (key val : Nat → Nat) (n : Nat) (d : Dev) (o : Nat) :
    (stageSlots key val n d).word o = d.word o :=
  foldl_keeps (word · o) (fun a k => a.stageSlot (key k) (val k)) (fun _ _ => rfl) _ _

theorem stKey_injective (d : Dev) (c i j : Nat) (h : d.stKey c i = d.stKey c j) : i = j := by
  simp only [stKey] at h
  omega

/-- The owner that ST_DATA names for slot `k` of a group; 5 and 6 are free (R335). -/
def slotWritten (d : Dev) (k : Nat) : Nat :=
  let v := fieldOf (d.word Reg.ST_DATA) (4 * k) 4 % 8
  if 5 ≤ v then 7 else v

theorem stWriteEff_stages {d e : Dev} (words : ∀ o, e.word o = d.word o) (busy : d.nocBusy = false) :
    stWriteEff e = ((stageSlots (d.stKey (1 - d.epoch)) d.slotWritten 8 e).cmdDone 0x6020 3 .ok, .ok) := by
  simp only [stWriteEff, nocBusy_of_words words, busy, words, stKey_of_words words, epoch_of_words words,
    Bool.false_eq_true, if_false]
  rfl

/-- A word whose first `n` groups of four bits hold the values `val`. -/
def nibbles (val : Nat → Nat) (n : Nat) : Word := (List.range n).foldl (fun x k => withField x (4 * k) 4 (val k)) 0

theorem fieldOf_nibbles (val : Nat → Nat) {n k : Nat} (hn : n ≤ 8) (hk : k < n) :
    fieldOf (nibbles val n) (4 * k) 4 = val k % 16 := by
  induction n with
  | zero => omega
  | succ n ih =>
    rw [nibbles, List.range_succ, List.foldl_append, List.foldl_cons, List.foldl_nil]
    by_cases last : k = n
    · rw [last]
      exact fieldOf_withField_self _ _ (by omega)
    · rw [fieldOf_withField_ne _ _ (by omega) (by omega)]
      exact ih (by omega) (by omega)

theorem stReadEff_reads {d e : Dev} {c : Nat} (words : ∀ o, e.word o = d.word o) (slots : e.slots = d.slots)
    (copy : (if e.ctlOn Reg.NOC_CTL_READ_ACTIVE then e.epoch else 1 - e.epoch) = c) :
    stReadEff e = ((e.putWord Reg.ST_DATA (nibbles (fun k => SMap.get 7 d.slots (d.stKey c k)) 8)).cmdDone 0x6020 4 .ok,
      .ok) := by
  simp only [stReadEff, copy, slots, stKey_of_words words]
  rfl

/-! ## The slot boundary (R328, R329) -/

/-- The enables of the first `n` waystations exchanged, as `d` holds them. -/
def swapEnables (d : Dev) (n : Nat) (a : Dev) : Dev :=
  (List.range n).foldl (fun a w => (a.set (Reg.PORT_EN_ACTIVE w) (d.get (Reg.PORT_EN_SHADOW w))).set
    (Reg.PORT_EN_SHADOW w) (d.get (Reg.PORT_EN_ACTIVE w))) a

theorem swapEnables_succ (d : Dev) (n : Nat) (a : Dev) : swapEnables d (n + 1) a =
    ((swapEnables d n a).set (Reg.PORT_EN_ACTIVE n) (d.get (Reg.PORT_EN_SHADOW n))).set (Reg.PORT_EN_SHADOW n)
      (d.get (Reg.PORT_EN_ACTIVE n)) := by
  rw [swapEnables, List.range_succ, List.foldl_append, List.foldl_cons, List.foldl_nil, swapEnables]

theorem portEn_injective {v w : Nat} (h : v ≠ w) : Reg.PORT_EN v ≠ Reg.PORT_EN w := by
  simp only [Reg.PORT_EN]
  omega

theorem word_swapEnables_ne (d : Dev) {n : Nat} (a : Dev) {o : Nat} (h : ∀ w < n, o ≠ Reg.PORT_EN w) :
    (swapEnables d n a).word o = a.word o := by
  induction n with
  | zero => rfl
  | succ n ih =>
    rw [swapEnables_succ, word_set_ne _ _ _ (h n (by omega)), word_set_ne _ _ _ (h n (by omega))]
    exact ih fun w hw => h w (by omega)

/-- Each waystation's enables have changed places. -/
theorem get_swapEnables (d : Dev) {n : Nat} (a : Dev) {w : Nat} (h : w < n) :
    (swapEnables d n a).get (Reg.PORT_EN_ACTIVE w) = d.get (Reg.PORT_EN_SHADOW w) ∧
      (swapEnables d n a).get (Reg.PORT_EN_SHADOW w) = d.get (Reg.PORT_EN_ACTIVE w) := by
  induction n with
  | zero => omega
  | succ n ih =>
    rw [swapEnables_succ]
    by_cases last : w = n
    · subst last
      have shadow : d.get (Reg.PORT_EN_SHADOW w) % 2 ^ 5 = d.get (Reg.PORT_EN_SHADOW w) :=
        Nat.mod_eq_of_lt (fieldOf_lt ..)
      have active : d.get (Reg.PORT_EN_ACTIVE w) % 2 ^ 5 = d.get (Reg.PORT_EN_ACTIVE w) :=
        Nat.mod_eq_of_lt (fieldOf_lt ..)
      constructor
      · rw [get_set_ne _ _ _ _ (by decide : 0 + 5 ≤ 32) (.inr (by decide : 0 + 5 ≤ 8)),
          get_set_self _ _ _ (by decide : 8 + 5 ≤ 32)]
        exact shadow
      · rw [get_set_self _ _ _ (by decide : 0 + 5 ≤ 32)]
        exact active
    · have other : Reg.PORT_EN w ≠ Reg.PORT_EN n := portEn_injective last
      rw [get_set_off _ _ _ _ other, get_set_off _ _ _ _ other, get_set_off _ _ _ _ other, get_set_off _ _ _ _ other]
      exact ih (by omega)

theorem get_swapEnables_ne (d : Dev) {n : Nat} (a : Dev) {f : Fld} (h : f.off < Reg.PORT_EN 0) :
    (swapEnables d n a).get f = a.get f := by
  have apart : ∀ w < n, f.off ≠ Reg.PORT_EN w := fun w _ => by
    simp only [Reg.PORT_EN] at h ⊢
    omega
  rw [get, word_swapEnables_ne d a apart, get]

theorem restSame_swapEnables (d : Dev) (n : Nat) (a : Dev) : a.restSame (swapEnables d n a) := by
  induction n with
  | zero => rfl
  | succ n ih =>
    rw [swapEnables_succ]
    exact restSame_trans ih (restSame_trans (restSame_set ..) (restSame_set ..))

/-- The registers at the slot boundary of a commit: the epoch bit flips, the enables change places, the old epoch
drains and the quiet window starts. -/
def epochTaken (d : Dev) : Dev :=
  (((swapEnables d 192 ((d.set Reg.NOC_STS_EPOCH_CUR (1 - d.epoch)).clear Reg.NOC_STS_COMMIT_PENDING)).clear
    Reg.NOC_STS_DRAINED).raise Reg.NOC_STS_GT_QUIET).raise Reg.NOC_EVT_EPOCH_DONE

/-- What the commit has staged can no longer be discarded (R23). -/
def committed (d : Dev) : Dev := { d with noc := { d.noc with undoBook := [], undoSlot := [], undoEn := [] } }

theorem epochTakesEffect_eq {d : Dev} (h : d.on Reg.NOC_STS_COMMIT_PENDING = true) :
    epochTakesEffect d = ((d.epochTaken.committed).cmdDone 0x6000 1 .ok).barrierDone 1 0 .ok := if_neg (by simp [h])

theorem restSame_epochTaken (d : Dev) : d.restSame d.epochTaken :=
  restSame_trans (restSame_trans (restSame_set ..) (restSame_set ..)) (restSame_trans (restSame_swapEnables ..)
    (restSame_trans (restSame_set ..) (restSame_trans (restSame_set ..) (restSame_set ..))))

/-- NOC_STS and NOC_EVT at the slot boundary. -/
theorem sts_epochTaken (d : Dev) : d.epochTaken.epoch = 1 - d.epoch ∧
    d.epochTaken.on Reg.NOC_STS_COMMIT_PENDING = false ∧ d.epochTaken.on Reg.NOC_STS_DRAINED = false ∧
    d.epochTaken.on Reg.NOC_STS_GT_QUIET = true ∧ d.epochTaken.on Reg.NOC_EVT_EPOCH_DONE = true := by
  have flipped : (1 - d.get Reg.NOC_STS_EPOCH_CUR) % 2 ^ Reg.NOC_STS_EPOCH_CUR.w = 1 - d.get Reg.NOC_STS_EPOCH_CUR :=
    Nat.mod_eq_of_lt (by omega : 1 - d.get Reg.NOC_STS_EPOCH_CUR < 2)
  simp (disch := decide) only [epochTaken, epoch, on, raise_eq, clear_eq, get_set_self, get_set_ne, get_set_off,
    get_swapEnables_ne, flipped, true_and]
  decide

theorem get_epochTaken_portEn (d : Dev) {f : Fld} (h : Reg.PORT_EN 0 ≤ f.off) : d.epochTaken.get f =
    (swapEnables d 192 ((d.set Reg.NOC_STS_EPOCH_CUR (1 - d.epoch)).clear Reg.NOC_STS_COMMIT_PENDING)).get f := by
  have sts : f.off ≠ Reg.NOC_STS := (lt_of_lt_of_le (by decide) h).ne'
  have evt : f.off ≠ Reg.NOC_EVT := (lt_of_lt_of_le (by decide) h).ne'
  rw [epochTaken, raise_eq, raise_eq, clear_eq, get_set_off _ _ _ _ evt, get_set_off _ _ _ _ sts,
    get_set_off _ _ _ _ sts]

/-- What a barrier's end keeps: every part of the device but its ports, the engine, the command objects and the
answer. -/
theorem barrierDone_keeps {α : Type} (g : Dev → α) (hp : ∀ d p x, g (setPort d p x) = g d)
    (hw : ∀ (d : Dev) x a, g { d with wb := x, answer := a } = g d) (hc : ∀ (d : Dev) x, g { d with cmds := x } = g d)
    (d : Dev) (point object : Nat) (c : Code) (late : Bool) : g (d.barrierDone point object c late) = g d := by
  unfold barrierDone
  refine (foldl_keeps g _ (fun a b => ?_) _ _).trans (hw d _ d.answer)
  split
  · exact respond_keeps g hp hw ..
  · exact hc ..

/-- The end of a commit and of the barriers that wait for it changes neither registers nor anything of the network, but
for what a discard would undo. -/
theorem network_committed (d : Dev) :
    (fun e : Dev => (e.csr, e.noc, e.cells, e.slots, e.ni)) ((d.committed.cmdDone 0x6000 1 .ok).barrierDone 1 0 .ok) =
      (d.csr, { d.noc with undoBook := [], undoSlot := [], undoEn := [] }, d.cells, d.slots, d.ni) :=
  barrierDone_keeps (fun e : Dev => (e.csr, e.noc, e.cells, e.slots, e.ni))
    (fun d p x => by unfold setPort; split <;> rfl) (fun _ _ _ => rfl) (fun _ _ => rfl) ..

/-- At the slot boundary a commit takes effect (R328, R329). -/
theorem epochTakesEffect_commits {d : Dev} (pending : d.on Reg.NOC_STS_COMMIT_PENDING = true) :
    let e := epochTakesEffect d
    e.epoch = 1 - d.epoch ∧ e.on Reg.NOC_STS_COMMIT_PENDING = false ∧ e.on Reg.NOC_STS_DRAINED = false ∧
      e.on Reg.NOC_STS_GT_QUIET = true ∧ e.on Reg.NOC_EVT_EPOCH_DONE = true ∧
      (∀ w : Fin 192, e.get (Reg.PORT_EN_ACTIVE w.val) = d.get (Reg.PORT_EN_SHADOW w.val) ∧
        e.get (Reg.PORT_EN_SHADOW w.val) = d.get (Reg.PORT_EN_ACTIVE w.val)) ∧
      e.noc = { d.noc with undoBook := [], undoSlot := [], undoEn := [] } ∧ e.cells = d.cells ∧ e.slots = d.slots ∧
      e.ni = d.ni := by
  have parts := network_committed d.epochTaken
  simp only [← epochTakesEffect_eq pending, Prod.mk.injEq] at parts
  obtain ⟨csr, noc, cells, slots, ni⟩ := parts
  have words : ∀ o, (epochTakesEffect d).word o = d.epochTaken.word o := fun o =>
    congrArg (SMap.get (resetWord o) · o) csr
  have rest := restSame_epochTaken d
  obtain ⟨epoch, done, draining, quiet, event⟩ := sts_epochTaken d
  refine ⟨(epoch_of_words words).trans epoch, (on_of_words words _).trans done, (on_of_words words _).trans draining,
    (on_of_words words _).trans quiet, (on_of_words words _).trans event, fun w => ?_, ?_,
    cells.trans (cells_of_restSame rest), slots.trans (slots_of_restSame rest), ni.trans (ni_of_restSame rest)⟩
  · have place : Reg.PORT_EN 0 ≤ Reg.PORT_EN w.val := by
      simp only [Reg.PORT_EN]
      omega
    rw [get_of_words words, get_of_words words, get_epochTaken_portEn _ place, get_epochTaken_portEn _ place]
    exact get_swapEnables d _ w.isLt
  · rw [noc, noc_of_restSame rest]

/-! ## The old epoch (R330) -/

/-- The stale requests of an interface that expires: those it had, and the old ones it still holds. -/
theorem oldRequestExpiry_stale (d : Dev) (i : Fin 170) :
    (∀ p ∈ (d.niSt i.val).served, bit01 p.epoch ≠ d.epoch →
      (p.src, p.tag) ∈ ((oldRequestExpiry i d).niSt i.val).stale) ∧
    (∀ e ∈ (d.niSt i.val).stale, e ∈ ((oldRequestExpiry i d).niSt i.val).stale) := by
  rw [oldRequestExpiry, niSt_setNi_self]
  refine ⟨fun p hp old => ?_, fun e he => List.mem_append_left _ he⟩
  by_cases known : (p.src, p.tag) ∈ (d.niSt i.val).stale
  · exact List.mem_append_left _ known
  · refine List.mem_append_right _ (List.mem_filter.mpr ⟨List.mem_map.mpr ⟨p, List.mem_filter.mpr ⟨?_, by simpa using old⟩,
      rfl⟩, by simpa using known⟩)
    exact List.mem_append_left _ (List.mem_append_right _ hp)

end Dev

/-- Settles O32: a command of NOC_CTL acts on a device whose registers read as before, and each engine's branch says
what it leaves; at the slot boundary the enables change places one waystation at a time. -/
theorem routeEpochs : Obligations.RouteEpochs := by
  refine ⟨?epoch, ?epochBusy, ?boundary, ?quiet, ?drained, ?notDrained, ?expiry, ?rbWrite, ?rbRefused, ?rbRead, ?rbCopy,
    ?stWrite, ?stRead⟩
  case epoch =>
    intro s who hs h busy
    have words := Dev.word_nocWritten ⟨rfl, rfl⟩ h
    have alone := Dev.noCopy_of_epoch (Dev.takesWrite_of_takes ⟨rfl, rfl⟩ h).2
    have run := Dev.command_noc_accepted ⟨rfl, rfl⟩ h ((congrArg (Dev.epochEff · _) alone).trans
      (Dev.epochEff_idle ((Dev.nocBusy_of_words words).trans busy)))
    exact State.goes_of_order hs rfl run (Dev.calm_of_restSame (Dev.restSame_trans (Dev.restSame_nocWritten ⟨rfl, rfl⟩)
      (Dev.restSame_trans (Dev.restSame_set ..) (Dev.restSame_trans (Dev.restSame_cmdStart ..) (Dev.restSame_touch ..))))
      (State.calm_of_ready hs))
  case epochBusy =>
    intro s who hs h busy
    have words := Dev.word_nocWritten ⟨rfl, rfl⟩ h
    obtain ⟨e, run, same, rest⟩ := Dev.command_noc_refused ⟨rfl, rfl⟩ h (c := .busy) (by decide)
      (Dev.epochEff_busy _ ((Dev.nocBusy_of_words words).trans busy)) (words _)
    have rest := Dev.restSame_trans (Dev.restSame_nocWritten ⟨rfl, rfl⟩) rest
    exact State.does_of_order hs rfl run (Dev.calm_of_restSame rest (State.calm_of_ready hs))
      ⟨rfl, fun o => (same o).trans (words o), Dev.noc_of_restSame rest⟩
  case boundary =>
    intro s hl hr pending
    refine State.runs_of_live hl rfl ?_
    have run : Dev.rooted Dev.epochTakesEffect s.dev = Dev.epochTakesEffect s.dev := if_pos hr
    rw [run]
    exact Dev.epochTakesEffect_commits pending
  case quiet =>
    intro s hs hr
    exact State.goes_of_rooted hs hr rfl (Dev.netFrame_calm.set ..) rfl
  case drained =>
    intro s hs hr draining none
    have run : Dev.oldEpochDrained s.dev = _ := if_neg (by simp [draining, none])
    refine State.goes_of_rooted hs hr rfl ?_ run
    rw [run, Dev.netFrame_calm.raise, Dev.netFrame_calm.raise]
  case notDrained =>
    intro s hs hr left
    have run : Dev.oldEpochDrained s.dev = s.dev := if_pos (.inr left)
    exact State.goes_of_rooted hs hr rfl (by rw [run]) run
  case expiry =>
    intro s i hs hr
    obtain ⟨old, had⟩ := Dev.oldRequestExpiry_stale s.dev i
    exact State.does_of_rooted hs hr rfl (Dev.netFrame_calm.setNi ..)
      ⟨old, had, fun j hj => Dev.niSt_setNi_ne _ _ hj, rfl⟩
  case rbWrite =>
    intro s who hs h busy check
    have words := Dev.word_nocWritten ⟨rfl, rfl⟩ h
    have run := Dev.command_noc_accepted ⟨rfl, rfl⟩ h (Dev.rbWriteEff_stores words busy check)
    refine State.goes_of_order hs rfl run (Dev.calm_of_restSame (Dev.restSame_touch ..) ?_)
    rw [Dev.netFrame_calm.cmdDone, Dev.netFrame_calm.stageBook]
    exact Dev.calm_nocWritten ⟨rfl, rfl⟩ (State.calm_of_ready hs)
  case rbRefused =>
    intro s who c hop hs h busy valid check small
    have words := Dev.word_nocWritten ⟨rfl, rfl⟩ h
    obtain ⟨e, run, same, rest⟩ := Dev.command_noc_refused ⟨rfl, rfl⟩ h (c := .targetErr) (by decide)
      (Dev.rbWriteEff_refuses words busy valid check) ((Dev.word_bookRefused ..).trans (words _))
    obtain ⟨cause, place, event⟩ := Dev.bookRefused_records (s.dev.writtenCmd who Reg.NOC_CTL_RB_WRITE) small.1 small.2
    have rest := Dev.restSame_trans (Dev.restSame_nocWritten ⟨rfl, rfl⟩)
      (Dev.restSame_trans (Dev.restSame_bookRefused ..) rest)
    exact State.does_of_order hs rfl run (Dev.calm_of_restSame rest (State.calm_of_ready hs))
      ⟨rfl, (Dev.get_of_words same _).trans cause, (Dev.get_of_words same _).trans place,
        (Dev.on_of_words same _).trans event, (Dev.cells_of_restSame rest)⟩
  case rbRead =>
    intro s who hs h clean
    have words := Dev.word_nocWritten ⟨rfl, rfl⟩ h
    have rest := Dev.restSame_nocWritten (d := s.dev) (who := who) (f := Reg.NOC_CTL_RB_READ) ⟨rfl, rfl⟩
    have copy := Dev.ctlOn_nocWritten ⟨rfl, rfl⟩ h (f := Reg.NOC_CTL_READ_ACTIVE) ⟨rfl, rfl⟩
    have run := Dev.command_noc_accepted ⟨rfl, rfl⟩ h (Dev.rbReadEff_reads words (Dev.cells_of_restSame rest)
      (by rw [copy, Dev.epoch_of_words words]) (Dev.get_of_words words _) (Dev.get_of_words words _) clean)
    refine State.does_of_order hs rfl run (Dev.calm_of_restSame (Dev.restSame_touch ..) ?_) ⟨rfl, ?_⟩
    · rw [Dev.netFrame_calm.cmdDone, Dev.netFrame_calm.showEntry, Dev.netFrame_calm.bookRead]
      exact Dev.calm_nocWritten ⟨rfl, rfl⟩ (State.calm_of_ready hs)
    · exact (Dev.rbData_of_words (Dev.word_answered _ _ _ _ _ _)).trans (Dev.rbData_showEntry _ (Dev.bookRead_lt ..))
  case rbCopy =>
    intro s who hs h busy
    have words := Dev.word_nocWritten ⟨rfl, rfl⟩ h
    have run := Dev.command_noc_accepted ⟨rfl, rfl⟩ h (Dev.rbCopyEff_copies words busy
      (Dev.ctlOn_nocWritten ⟨rfl, rfl⟩ h ⟨rfl, rfl⟩))
    refine State.goes_of_order hs rfl run (Dev.calm_of_restSame (Dev.restSame_touch ..) ?_)
    rw [Dev.netFrame_calm.cmdDone, foldl_keeps Dev.calm Dev.copyBook Dev.netFrame_calm.copyBook]
    exact Dev.calm_nocWritten ⟨rfl, rfl⟩ (State.calm_of_ready hs)
  case stWrite =>
    intro s who hs h busy
    have words := Dev.word_nocWritten ⟨rfl, rfl⟩ h
    have rest := Dev.restSame_nocWritten (d := s.dev) (who := who) (f := Reg.NOC_CTL_ST_WRITE) ⟨rfl, rfl⟩
    have run := Dev.command_noc_accepted ⟨rfl, rfl⟩ h (Dev.stWriteEff_stages words busy)
    refine State.does_of_order hs rfl run (Dev.calm_of_restSame (Dev.restSame_touch ..) ?_)
      ⟨rfl, fun k => ?_, fun j apart => ?_, fun o => ?_⟩
    · rw [Dev.netFrame_calm.cmdDone, Dev.calm_stageSlots]
      exact Dev.calm_nocWritten ⟨rfl, rfl⟩ (State.calm_of_ready hs)
    · rw [Dev.slots_answered]
      exact Dev.slot_stageSlots s.dev.slotWritten _ (s.dev.stKey_injective _) k.isLt
    · rw [Dev.slots_answered, Dev.slot_stageSlots_ne s.dev.slotWritten _ fun k hk => apart ⟨k, hk⟩,
        Dev.slots_of_restSame rest]
    · rw [Dev.word_answered, Dev.word_stageSlots, words]
  case stRead =>
    intro s who hs h
    have words := Dev.word_nocWritten ⟨rfl, rfl⟩ h
    have rest := Dev.restSame_nocWritten (d := s.dev) (who := who) (f := Reg.NOC_CTL_ST_READ) ⟨rfl, rfl⟩
    have copy := Dev.ctlOn_nocWritten ⟨rfl, rfl⟩ h (f := Reg.NOC_CTL_READ_ACTIVE) ⟨rfl, rfl⟩
    have run := Dev.command_noc_accepted ⟨rfl, rfl⟩ h (Dev.stReadEff_reads words (Dev.slots_of_restSame rest)
      (by rw [copy, Dev.epoch_of_words words]))
    refine State.does_of_order hs rfl run (Dev.calm_of_restSame (Dev.restSame_touch ..) ?_)
      ⟨rfl, fun k => ?_, ?_⟩
    · rw [Dev.netFrame_calm.cmdDone]
      exact (Dev.netFrame_calm.csr ..).trans (Dev.calm_nocWritten ⟨rfl, rfl⟩ (State.calm_of_ready hs))
    · rw [Dev.word_answered, Dev.word_putWord_self, Dev.fieldOf_nibbles _ (by decide) k.isLt]
    · rw [Dev.slots_answered]
      exact Dev.slots_of_restSame (Dev.restSame_trans rest (Dev.restSame_putWord ..))

end Sys2Proof.Machine
end
